-- ==== Sys2Proof/Word.lean ====
section
/-! DEFINITION. The word types of the SL9640's registers and records (00 R4), and their plainest arithmetic. -/

namespace Sys2Proof

abbrev U8 := BitVec 8
abbrev U16 := BitVec 16
abbrev U32 := BitVec 32
abbrev U64 := BitVec 64
abbrev U128 := BitVec 128
/-- A byte string, the byte at offset 0 first. -/
abbrev Bytes := List (BitVec 8)

/-- A table of records by a number, in strictly rising order of the number. -/
abbrev Table (α : Type) := List (Nat × α)

/-- Mailboxes 0 to 16 (03 R75). -/
abbrev Mbx := Fin 17

/-- Add one, staying at the top value (saturating counters, 03 R76). -/
def satInc {w : Nat} (x : BitVec w) : BitVec w := if x = BitVec.allOnes w then x else x + 1

/-- The ceiling of a quotient; the quotient by 0 is 0. -/
def ceilDiv' (a b : Nat) : Nat := (a + b - 1) / b

/-- The smallest multiple of `b` at or above `a`. -/
def roundUp (a b : Nat) : Nat := ceilDiv' a b * b

/-- An `Int` as a two's complement word. -/
def ofIntW (w : Nat) (i : Int) : BitVec w := BitVec.ofInt w i

/-- A value held between two bounds. -/
def clampInt (lo hi x : Int) : Int := max lo (min hi x)

end Sys2Proof
end

