-- ==== Sys2Proof/Syntax.lean ====
section
/-! DEFINITION. The commands of the block: one constructor of `Instr` per row of spec/opcode_table.json, in the table's order, with the row's operands. Requests of Pledom commands carry the fields of their command cards; rows that the spec gives as events carry what the outside world or a finishing unit brings with them. An operand written with `:=` may be left out; it then has that value, the ordinary case. -/

namespace Sys2Proof

/-- A command slot's header and its indirect descriptor (03 R80, R81). -/
structure SlotHdr where
  opcode : U16
  version : U8
  indirect : Bool
  fence : Bool
  tag : U16
  seam : U16
  length : U16
  reqAddr : U64
  reqLen : U32
  replyLen : U32
  replyAddr : U64
  arg : U8
  deriving DecidableEq, Repr

/-- The registers whose write only stores a value (03 R76, 15 R397). -/
inductive PlainReg where
  | mbxCmdBase (m : Mbx) | mbxCplBase (m : Mbx) | mbxCfg (m : Mbx)
  | msixEntry (m : Mbx) (entry : Fin 9) (dword : Fin 4)
  | pciBusMaster (fn : Fin 16) | pciMsix (fn : Fin 16) | pciVfEnable
  | dmaSrc (ch : Fin 16) | dmaDst (ch : Fin 16) | dmaCount (ch : Fin 16) | dmaFlags (ch : Fin 16)
  | dmaNext (ch : Fin 16) | dmaCrcAddr (ch : Fin 16)
  | readOnly | reserved
  deriving DecidableEq, Repr

/-- The part of a 64-bit register that a write names: a half by a 32-bit write, or the whole (03 R76). -/
inductive RegPart where
  | low | high | whole
  deriving DecidableEq, Repr

/-- Which index a hold-off keeps (04 R105, 08 R216). -/
inductive HoldKind where
  | conference | leg | fwdEntry
  deriving DecidableEq, Repr

/-- A codec entry of an offer (04 Table 4-3). -/
structure CodecEntry where
  codec : U8
  pt : BitVec 7
  recv : Bool
  send : Bool
  channels : U8
  clockHz : U32
  profileLevel : U16
  temporal : BitVec 4
  spatial : BitVec 4
  maxKpxs : U32
  deriving DecidableEq, Repr

/-- What a KEY_BLOCK shows outside Keystone: its suite and roll-over counters (16 Table 16-6). -/
structure KeyBlock where
  suite : U8
  txRoc : U32
  rxRoc : U32
  txKey : BitVec 256
  txSalt : BitVec 112
  rxKey : BitVec 256
  rxSalt : BitVec 112
  deriving DecidableEq, Repr

/-- A leg offer (04 Table 4-2). -/
structure LegOffer where
  conf : U16
  leg : U16
  emergency : Bool
  listener : Bool
  levels : Bool
  ice : Bool
  endpointKey : U128
  port : U8
  af : U8
  vlan : BitVec 12
  levelExtId : U8
  security : U8
  connectTimeoutS : U16
  localAddr : U128
  remoteAddr : U128
  localUdp : U16
  remoteUdp : U16
  consentS : U16
  sources : BitVec 4
  maxRecvKbps : U32
  maxSendKbps : U32
  keyLen : U16
  fingerprint : BitVec 256
  codecs : List CodecEntry
  localUfrag : Bytes
  localPwd : Bytes
  remoteUfrag : Bytes
  remotePwd : Bytes
  keyBlock : KeyBlock
  deriving DecidableEq, Repr

/-- The request of mix.gain (05 card). -/
structure GainReq where
  kind : U8
  muteSet : Bool
  mute : Bool
  leg : U16
  mix : U16
  gain : U16
  timeoutMs : U8
  deriving DecidableEq, Repr

/-- One band of the equaliser (05 mix.chain card). -/
structure EqBand where
  type : U8
  freqHz : U16
  gain : U16
  q : U16
  deriving DecidableEq, Repr

/-- The whole parameter set of mix.chain (05 R143 and its card). -/
structure ChainReq where
  resetState : Bool
  bypass : Bool
  bands : List EqBand
  gateOn : U8
  gateRange : U8
  gateThreshold : U16
  gateAttackMs : U16
  gateHoldMs : U16
  gateReleaseMs : U16
  agcOn : U8
  agcMaxGainDb : U8
  agcTarget : U16
  agcAttackMs : U16
  agcReleaseMs : U16
  agcMaxCutDb : U8
  kernel : U16
  param : U32
  deriving DecidableEq, Repr

/-- The request of mix.meter (05 card). -/
structure MeterReq where
  mode : U8
  kind : U8
  index : U16
  periodMs : U16
  holdMs : U16
  decayDbs : U8
  deriving DecidableEq, Repr

/-- An audio RTP packet as the jitter buffer sees it (05 R124 to R128, R133). -/
structure AudioPkt where
  ssrc : U32
  seq : U16
  ts : U32
  pt : BitVec 7
  ptimeSamples : Nat
  level : Option (BitVec 7)
  fec : Bool
  payload : Bytes
  deriving DecidableEq, Repr

/-- What an audio decoder is given for one frame: the frame, the in-band FEC of the packet that follows a missing one, nothing (concealment), or nothing while the sender pauses (DTX) (05 R127, Table 5-3). -/
inductive DecodeIn where
  | frame (payload : Bytes) | fec (payload : Bytes) | lost | dtx
  deriving DecidableEq, Repr

/-- What an audio encoder is set to: CODEC, sampling rate, CHANNELS, bit rate in kbit/s, FEC and DTX (05 R122, R142). -/
structure EncSettings where
  codec : Nat
  rate : Nat
  channels : Nat
  kbps : Nat
  fec : Bool
  dtx : Bool
  deriving DecidableEq, Repr

/-- The three places a gain is stepped (05 R144, R145). -/
inductive GainPoint where
  | leg (leg : Nat) | master (mix : Nat) | route (leg mix : Nat)
  deriving DecidableEq, Repr

/-- A video RTP packet as its decode context sees it (06 R158, R168). -/
structure VideoPkt where
  ssrc : U32
  seq : U16
  ts : U32
  marker : Bool
  lumaSamples : Nat
  nonRef : Bool
  /-- temporal layer, where the source carries layer identification -/
  temporal : Option Nat
  deriving DecidableEq, Repr

/-- A picture: its size in luma samples, and its 10-bit samples row by row; Cb and Cr are half the size in each dimension (06 R156). -/
structure Frame where
  w : Nat
  h : Nat
  luma : List (List Nat)
  cb : List (List Nat)
  cr : List (List Nat)
  deriving DecidableEq, Repr

/-- An 8×8 luma area of a block, in units of 8 luma samples, and what adds to its work (06 R163). -/
structure BlockArea where
  x : Nat
  y : Nat
  biPredicted : Bool
  below8 : Bool
  warped : Bool
  deriving DecidableEq, Repr

/-- A sequence header as the entropy cell reads it (06 R156, *Illegal syntax*). -/
structure SeqHdr where
  width : Nat
  height : Nat
  depth : Nat
  profile : U8
  level : U8
  deriving DecidableEq, Repr

/-- A coding feature that some decoder does not support (06 Table 6-3). -/
inductive Feature where
  | fieldPicture | mbaff | fmo | aso | redundantSlice | spSiSlice | chromaFormat | bitDepth | extension_ | spatialLayers | largeScaleTile
  deriving DecidableEq, Repr

/-- The header of a picture: its place and size, the name under which the stream refers to it, the pictures that its reference lists name, the lower-layer picture it predicts from, the pictures that stay in the decoded picture buffer behind it, and whether it is its access unit's output (06 R160, R166, R170). -/
structure PicHdr where
  seqHdr : Option SeqHdr
  width : Nat
  height : Nat
  key : Bool
  intra : Bool
  nonRef : Bool
  temporal : Fin 3
  spatial : Fin 3
  name : Nat
  refs : List Nat
  lower : Option Nat
  keeps : List Nat
  shown : Bool
  deriving DecidableEq, Repr

/-- One step of the parse of a segment: a block with its place in units of 8 luma samples, its areas, the bins it takes and the payload of its record; or the first block that cannot be decoded (06 R160, R162, *Illegal syntax*). -/
inductive ParseStep where
  | block (x y : U16) (intra : Bool) (areas : List BlockArea) (bins : Nat) (body : Bytes)
  | illegal (x y : U16)
  deriving DecidableEq, Repr

/-- One segment of an access unit as the entropy cell finds it: its timestamp, number, picture, the packets that carry it, its size, the features it uses and what its parse yields (06 R159 to R167). -/
structure SegmentInfo where
  ts : U32
  number : U8
  hdr : PicHdr
  packets : List U16
  codedBits : Nat
  areas16 : Nat
  features : List Feature
  steps : List ParseStep
  lastOfPicture : Bool
  lastOfUnit : Bool
  deriving DecidableEq, Repr

/-- What coding one picture of one spatial layer yields before the rate rules: the bits of each row coded normally, and of its fallback form (06 R177 to R180). -/
structure LayerCode where
  headerBits : Nat
  rows : List (Nat × Nat)
  deriving DecidableEq, Repr

/-- The request of layout.create (07 card). -/
structure LayoutReq where
  conf : U16
  layout : U16
  width : U16
  height : U16
  rate : U8
  standing : Bool
  holdSamples : U16
  bgY : BitVec 10
  bgCb : BitVec 10
  bgCr : BitVec 10
  deriving DecidableEq, Repr

/-- The request of layout.tile (07 card). -/
structure TileReq where
  layout : U16
  tile : U8
  content : U8
  source : U32
  x : U16
  y : U16
  w : U16
  h : U16
  cropX : U16
  cropY : U16
  cropW : U16
  cropH : U16
  z : U8
  border : U8
  alpha : U16
  borderAlpha : U16
  stallMs : U16
  fill : BitVec 30
  borderColour : BitVec 30
  decodeKpxs : U32
  deriving DecidableEq, Repr

/-- The request of layout.feed (07 card). -/
structure FeedReq where
  layout : U16
  feed : U16
  codec : U8
  depth : U8
  profileLevel : U16
  width : U16
  height : U16
  rate : U8
  temporal : BitVec 4
  spatial : BitVec 4
  keyMinMs : U16
  target0 : U32
  target1 : U32
  target2 : U32
  deriving DecidableEq, Repr

/-- An RTCP report's figures for the last reports' interval (08 R208). -/
structure RtcpReport where
  rfc8888 : Bool
  bitsReceived : Nat
  packetsReceived : Nat
  packetsLost : Nat
  packetsCe : Nat
  fractionLost : U8
  owdMs : List Int
  nacks : Nat
  deriving DecidableEq, Repr

/-- A media packet of a source or feed as the forwarding cells see it (08 R206, R217). -/
structure MediaPkt where
  seq : U16
  ts : U32
  spatial : Nat
  temporal : Nat
  key : Bool
  switchPoint : Bool
  marker : Bool
  length : Nat
  pictureId : Nat
  tl0 : Nat
  sizes : List (Nat × Nat)
  deriving DecidableEq, Repr

/-- The request of fwd.subscribe (08 card). -/
structure SubscribeReq where
  leg : U16
  kind : U8
  priority : U8
  object : U32
  entry : U32
  tileW : U16
  tileH : U16
  mode : BitVec 2
  maxSpatial : BitVec 2
  maxTemporal : BitVec 2
  rxDdExt : U8
  transcodeRate : U8
  deriving DecidableEq, Repr

/-- The request of fwd.set (08 card). -/
structure FwdSetReq where
  entry : U32
  change : U8
  priority : U8
  tileW : U16
  tileH : U16
  mode : BitVec 2
  maxSpatial : BitVec 2
  maxTemporal : BitVec 2
  transcodeRate : U8
  deriving DecidableEq, Repr

/-- The request of fwd.line (08 card). -/
structure FwdLineReq where
  leg : U16
  pacePct : U16
  minKbps : U32
  startKbps : U32
  upHoldMs : U16
  transcodeAfterMs : U16
  deriving DecidableEq, Repr

/-- What a frame carries behind the checks of Table 9-3 (09 R228). -/
inductive FrameKind where
  | pause (quanta : U16) | pfc (mask : U8) (quanta : U16)
  | arp (request : Bool) | icmp (echo : Bool) | ptp (event : Bool) | other
  | rtp (video : Bool) | rtcp | stun | dtls
  deriving DecidableEq, Repr

/-- A received frame as the ingress order judges it (09 Table 9-3), with the cipher pipeline's findings (10 R270). -/
structure RxFrame where
  fcsOk : Bool
  length : Nat
  dst : BitVec 48
  src : BitVec 48
  cTags : Nat
  sTag : Bool
  vlan : BitVec 12
  kind : FrameKind
  ipv6 : Bool
  ipCsumOk : Bool
  extHeaders : Nat
  fragment : Bool
  ipSrc : U128
  ipDst : U128
  udpSrc : U16
  udpDst : U16
  udpCsumOk : Bool
  udpCsumZero : Bool
  rtpSsrc : U32
  rtpSeq : U16
  encLength : Nat
  authOk : Bool
  authPrevOk : Bool
  /-- ONU-ID of the sending terminal on a head-role port (11 R298) -/
  onuId : Nat
  deriving DecidableEq, Repr

/-- A frame offered to an egress queue (10 R250, R258). -/
structure TxFrame where
  length : Nat
  level : Option (Fin 8)
  leg : Nat
  iface : U8
  nextHopResolved : Bool
  deriving DecidableEq, Repr

/-- The request of net.iface (09 card). -/
structure IfaceReq where
  iface : U8
  enable : Bool
  pause : BitVec 2
  rxPause : Bool
  lpi : Bool
  pfcMask : U8
  mac : BitVec 48
  mtu : U16
  pauseQuanta : U16
  highB : U32
  lowB : U32
  rxLatPs : U32
  txLatPs : U32
  asymPs : U32
  deriving DecidableEq, Repr

/-- The request of time.ptp (09 card). -/
structure PtpReq where
  iface : U8
  profile : U8
  domain : U8
  role : U8
  priority1 : U8
  priority2 : U8
  localPriority : U8
  forwardable : Bool
  logSync : U8
  logAnnounce : U8
  logDelayReq : U8
  announceTimeout : U8
  deriving DecidableEq, Repr

/-- A PTP message received or sent by a port (09 R249). -/
inductive PtpMsg where
  | announce (gm : U64) (better : Bool) (steps : U16) (utc : Int)
  | sync | followUp | delayReq | delayResp (offsetPs pathPs : Int)
  | unsupported
  deriving DecidableEq, Repr

/-- One entry of sched.port (10 card). -/
structure LevelReq where
  tc : BitVec 3
  pcp : BitVec 3
  dscp : BitVec 6
  limitKib : U16
  rate : U16
  deriving DecidableEq, Repr

/-- The request of sched.leg (10 card). -/
structure SchedLegReq where
  leg : U16
  change : U8
  egress : U8
  weight : U16
  burstMs : U8
  qlimitKib : U16
  sojournMs : U16
  policeKbps : U32
  policeMs : U16
  deriving DecidableEq, Repr

/-- One gate list entry (10 Table 10-2). -/
structure GateEntry where
  gates : U8
  intervalNs : U32
  deriving DecidableEq, Repr

/-- The request of sched.gate (10 card). -/
structure GateReq where
  port : U8
  enable : Bool
  cycleNs : U32
  baseS : U64
  baseNs : U32
  entries : List GateEntry
  deriving DecidableEq, Repr

/-- The request of access.port (11 card). -/
structure AccessPortReq where
  port : U8
  role : U8
  gen : U8
  usRate : U8
  claimGroup : U8
  homing : Bool
  sleepOk : Bool
  autoDiscover : Bool
  mtu : U16
  mac : BitVec 48
  to1S : U8
  todBase : U8
  to2Ms : U16
  benLeadNs : U16
  benLagNs : U16
  refractPpm : U16
  headFibreNs : U32
  keyRotateS : U32
  regId : BitVec 288
  deriving DecidableEq, Repr

/-- An allocation of the bandwidth map (11 R286); its start counts on in upstream bits from frame to frame. -/
structure Allocation where
  allocId : Nat
  startBit : Nat
  lengthBytes : Nat
  statusReport : Bool
  deriving DecidableEq, Repr

/-- An OMCI request (11 R287, Table 11-4); a termination point names the class of the entity it points to. In head role: an alarm of a terminal (11 R299). -/
inductive OmciReq where
  | mibUpload | mibReset | get (cls inst : Nat) | set (cls inst attr value : Nat)
  | create (cls inst : Nat) (gemId allocId target : Nat) | delete (cls inst : Nat)
  | setAllocId (inst allocId : Nat) | reboot | download
  | timeOfDay (superframe : Nat) (sec : Nat) (ns : Nat)
  | alarm (onuId : Nat)
  deriving DecidableEq, Repr

/-- The header fields every Truss frame carries (12 Table 12-2), with the outcome of its checksums. -/
structure TrussHdr where
  version : U8
  seq : U32
  ack : U32
  laneMap : BitVec 4
  hcrcOk : Bool
  crcOk : Bool
  length : U16
  deriving DecidableEq, Repr

/-- A HELLO's content (12 R305, R309). -/
structure TrussHelloBody where
  minVersion : U8
  maxVersion : U8
  side : Bool
  pairId : U128
  authOk : Bool
  fwRelease : U32
  state : U8
  deriving DecidableEq, Repr

/-- A time value: seconds, nanoseconds, fraction (09 R243). -/
structure TimeVal where
  sec : U64
  ns : U32
  frac : U32
  deriving DecidableEq, Repr

/-- A canon record header (12 Table 12-3). -/
structure CanonRec where
  index : U64
  iface : U8
  path : U8
  length : U16
  leg : U16
  tb0 : TimeVal
  tb3 : TimeVal
  deriving DecidableEq, Repr

/-- A roster record, Table 13-3 (13 R337), as stored and as journaled. -/
structure Record where
  format : Nat := 3
  pinned : Bool := false
  updates : U32 := 0
  key : U128
  firstSeen : Nat
  lastSeen : Nat
  deny : U32 := 0
  keyPolicy : U16 := 0
  dtlsVersion : U8 := 0
  suite : U8 := 0
  codecRecv : U32 := 0
  codecSend : U32 := 0
  maxKpxsRecv : U32 := 0
  maxKpxsSend : U32 := 0
  temporal : Nat := 0
  spatial : Nat := 0
  sources : BitVec 4 := 0
  p10 : Nat := 0
  p25 : Nat := 0
  p50 : Nat := 0
  p90 : Nat := 0
  lossP50 : Nat := 0
  sessions : Nat := 0
  legsOpened : U32 := 0
  activeMin : Nat := 0
  lastCause : U8 := 0
  dtlsFails : Nat := 0
  hostData : BitVec 512 := 0
  deriving DecidableEq, Repr

/-- What a SEAM frame mirrors (12 Table 12-4, 02 R62, R63): a seam opened, one command basted, its close with T, or the primary's decision. -/
inductive SeamMirror where
  | opened (owner : Mbx) (scope : Option Nat) (timeoutS : Nat)
  | baste (owner : Mbx) (version : U8)
  | close (t : U64) (tNs : U32) (tChipNs : Nat) (tMedia : List (Nat × Nat))
  | pier (pattern : Bool) (t : U64) (tNs : U32) (tChipNs : Nat)
  | committed | unpicked (island : U16)
  deriving DecidableEq, Repr

/-- One item of the media state that STATE frames carry (12 R310, R327 step 5). -/
inductive StateItem where
  | leg (leg : Nat) (offer : LegOffer) (active held : Bool)
  | chain (leg : Nat) (req : ChainReq)
  | gain (point : GainPoint) (eighths : Int) (mute : Bool)
  | select (leg : Nat) (code : Fin 4) (level : Int)
  | jitter (leg : Nat) (ssrc ts0 : U32) (m0 : Int) (targetMs : Nat) (packets : List AudioPkt)
  | numbering (entry : Nat) (ssrc : U32) (seqOff high dropped lastOut : U16)
  | slot (slot : Nat) (suite generation : U8) (useCount : Nat) (roc : Nat)
  | voice (leg : Nat) (ssrc : U32) (txSeq : U16) (tsBase : U32)
  | origin (conf : Nat) (tb3 : Nat)
  | encode (context picnum first : Nat)
  | picture (context picnum : Nat) (stalled : Bool)
  | encoder (leg : Option Nat) (key : Nat × Nat × Nat × Nat) (state : Bytes) (conv frame : List Int)
  | access (port : Fin 2) (onuId : Option Nat) (allocIds : List Nat) (mibSync : U8) (mib : List (Nat × Nat × Nat × Nat))
  deriving DecidableEq, Repr

/-- What a KEYSTONE frame carries between the Keystones (12 R305, R310, Table 12-4). -/
inductive KsMirror where
  | auth (ok : Bool)
  | dtls (leg : Nat) (ok : Bool) (suite version : U8)
  | slot (slot : Nat) (key : BitVec 256) (useCount : Nat)
  | identity (port : Fin 2) (serial : U64)
  | verdict (layout : Nat) (card : Bool)
  | cert (serial : U128)
  deriving DecidableEq, Repr

/-- What the user of a tile reads in it, where the user's action on poison changes state (15 Table 15-3): packets in a jitter buffer, a syntax buffer, a frame store with the blocks that read the tile, an overlay, the samples of a layout's output, a card frame store, a wrapped key slot, a forwarding entry or leg state, a roster index entry, a trace record. `release`: the owner of a media tile reads it for the last time and frees it (R388). -/
inductive TileUse where
  | jitter (leg : Nat) (seq : U16) | syntaxBuffer (context tile : Nat) | frameStore (context : Nat) (blocks : List Nat)
  | region (layout region : Nat) | output (layout slot x y w h : Nat) | card (layout : Nat)
  | keySlot (slot : Nat) | fwdEntry (entry : Nat) | legState (leg : Nat) | rosterIndex (record : Nat) | trace | release | other
  deriving DecidableEq, Repr

/-- A local event that the primary decides for a stitch tick: a missed sound task of a leg's signal, of a mix, of a leg's encode or of a conference's selection window, or items dropped at a spool's snag marker (12 R313). -/
inductive LocalEvent where
  | leg (l : Nat) | mix (x : Nat) | encode (l : Nat) | snag (spool : Nat) (dropped : Nat) | poison (user : TileUse)
  deriving DecidableEq, Repr

/-- A decision record (12 R313, 06 R182). -/
inductive DecisionRec where
  | tick (tick : Nat) (canonEnd : U64) (events : List LocalEvent)
  | picture (encode : Bool) (context : Nat) (picnum : Nat) (repeated : Bool) (snag : Bool)
  | throttle (level : Nat)
  | verdict (layout : Nat) (card : Bool)
  deriving DecidableEq, Repr

/-- The items of mirrored configuration (12 R312); `effect` says that the frame's command took effect on the primary under that Pledom version. -/
inductive ConfigItem where
  | lineEstimate (leg : Nat) (kbps : Nat)
  | patternSaved (gen : U32) (label : U32) (sizeKib savedS : Nat) (content : Option Bytes) | patternProven (gen : U32)
  | admission (leg : Nat) (placeable : Bool)
  | swapAt (group : Option Nat) (tick : Nat)
  | fibre (port : Fin 2) (ns : Nat)
  | origin (conf tb3 : Nat) | legClosed (leg cause : Nat) | legFreed (leg : Nat)
  | effect (version : U8)
  deriving DecidableEq, Repr

/-- One group's frame of a claim round as both units sent it (12 Table 12-6). -/
structure ClaimFrame where
  group : BitVec 6
  peerClaim : Option U16
  peerSide : Bool
  crcOk : Bool
  deriving DecidableEq, Repr

/-- The request of keep.record (13 card). -/
structure RecordReq where
  mode : U8
  setDeny : Bool
  setPolicy : Bool
  setPin : Bool
  setHost : Bool
  record : U32
  endpointKey : U128
  deny : U32
  keyPolicy : U16
  pinned : Bool
  hostData : BitVec 512
  deriving DecidableEq, Repr

/-- A Pier image as Keystone verifies it (18 Table 18-5, R461). -/
structure PierImage where
  magic : U32
  format : U8
  fwSvn : U8
  reserved : U16
  fwRelease : U32
  /-- SIZE, as the header gives it -/
  size : U32
  /-- the signature over the image is the firmware key's -/
  sigOk : Bool
  /-- the first byte of 0x14 to 0x3F that is not 0 -/
  badOffset : Option Nat
  pledomMax : U8
  trussMax : U8
  schemaMax : U8
  formatMax : U8
  deriving DecidableEq, Repr

/-- The header of kernel.load and the outcome of the device's instruction check (14 card). -/
structure KernelReq where
  magic : U32
  abi : U8
  group : U8
  kernel : U16
  codeBytes : U16
  constBytes : U16
  stateBytes : U16
  weight : U8
  cycles : U32
  entry : U16
  build : U64
  code : List (BitVec 8)
  consts : List (BitVec 8)
  badInstr : Option Nat
  deriving DecidableEq, Repr

/-- One call of a kernel: its code and entry, every kernel's constants with the place of its own, and what Table 14-7 and the entry registers give it (14 R374, R378). -/
structure KernelCall where
  code : List (BitVec 8)
  entry : Nat
  consts : List (BitVec 8)
  constAt : Nat
  state : List (BitVec 8)
  samples : List Int
  param : U32
  media : U32
  leg : U16

/-- How a run of a task ended (14 R363, R365). -/
inductive RunEnd where
  | done | firmwareCap
  deriving DecidableEq, Repr

/-- The request of trace.config (14 card). -/
structure TraceReq where
  enable : Bool
  stop : Bool
  ringLog2 : U8
  sample : U8
  reasonMask : U32
  groupMask : U16
  cell : U16
  taskFirst : U32
  taskLast : U32
  deriving DecidableEq, Repr

/-- What a producer writes to a spool (01 R32, R34). -/
inductive SpoolOp where
  | word (w : U64)
  | openFrame
  | frameWord (w : U64)
  | closeFrame (lengthWord : U64)
  deriving DecidableEq, Repr

/-- How a request comes to DRAM: its initiator cell, the bank (rank, bank group and bank in that order) and row of its address, which the controller's own mapping gives (15 R380), and whether the channel is still busy, so that the request waits. -/
structure DramPath where
  cell : U16
  bank : Nat
  row : Nat
  wait : Bool
  deriving DecidableEq, Repr

/-- Outcome of one DRAM burst's error correction (15 R383). -/
inductive EccResult where
  | clean | corrected | uncorrectable
  deriving DecidableEq, Repr

/-- Causes that halt a DMA channel at an access (15 R404, DMA_STATUS). -/
inductive DmaError where
  | readError | writeError | window | descError | overlapCrc | poisoned | bme
  deriving DecidableEq, Repr

/-- The request of mem.window (15 card). -/
structure WindowReq where
  mode : U8
  window : U8
  kind : U8
  chRead : Bool
  chWrite : Bool
  sizeMib : U32
  deriving DecidableEq, Repr

/-- A rule of a policy image (16 R424). -/
structure PolicyRule where
  trigger : U8
  overlay : U8
  anchor : U8
  margin : U16
  tone : Bool
  deriving DecidableEq, Repr

/-- An overlay: its native size, and the number of its samples among all that images hold (16 R423, Table 16-4). -/
structure Overlay where
  width : Nat
  height : Nat
  content : Nat
  deriving DecidableEq, Repr

/-- A key policy reference (16 Table 16-4, section 11). -/
structure KeyPolicy where
  suites : BitVec 8
  allowNone : Bool
  consent : Bool
  deriving DecidableEq, Repr

/-- The content of a policy image (16 R410, Table 16-4). -/
structure PolicyImage where
  version : U32
  svn : U8
  keySlot : U8
  enrol : Bool
  enrolKey : Option (BitVec 384)
  pairId : U128
  permissions : List U32
  reserveSound : Nat
  reserveFwd : Nat
  claimFixed : List Nat
  ctlGroup : List (Option Nat × Bool)
  checkFixed : List (Option Bool)
  limitFixed : List (Option U32)
  tcS1 : BitVec 3
  overlays : List Overlay
  cardW : Nat
  cardH : Nat
  /-- number of the card's samples among all that images hold -/
  cardContent : Nat
  cardBg : BitVec 10 × BitVec 10 × BitVec 10
  /-- number of the tone's samples among all that images hold -/
  toneContent : Nat
  toneSamples : Nat
  tonePeriodS : Nat
  rules : List PolicyRule
  tripC : Nat
  laser : List (Bool × Bool)
  keyPolicies : List KeyPolicy
  deriving DecidableEq, Repr

/-- A directory entry of a policy image, and whether its section's CRC-32C passes (16 R410). -/
structure PolicySection where
  type : U8
  offset : U32
  length : U32
  crc : U32
  crcOk : Bool
  deriving DecidableEq, Repr

/-- A proposal as Keystone's checks find it (16 R410 to R412): header and directory, the content of its sections, the key that signed it, whether the signature is right, and the first byte of a section's own form that fails, which the manual lays out for no section but 1. -/
structure Proposal where
  magic : U32 := 0x594C5053
  format : U8 := 1
  size : Nat
  sections : List PolicySection
  signer : BitVec 384
  sigOk : Bool
  badOffset : Option Nat
  image : PolicyImage
  deriving DecidableEq, Repr

/-- The wake sources (17 Table 17-6). -/
inductive WakeSource where
  | ethernet (iface : U8) | access (port : Fin 2) | truss | pcie | wakeN | mailbox16
  deriving DecidableEq, Repr

/-- The rails Keystone monitors (19 Table 19-3). -/
inductive Rail where
  | vddAoIn | vddAo | vddM0 | vddM1 | vddIod | vddDdrPhy | vddSerdes | vddq | vddhSerdes | vddio18 | vccqNand
  deriving DecidableEq, Repr

/-- What DDR5 training found (15 R381). -/
structure TrainingResult where
  failed : List Nat
  channels : Nat
  capacityGib : Nat
  rate : Nat
  ranks : Nat
  deriving DecidableEq, Repr

/-- What the mount found in the journal tail (13 Table 13-8). -/
structure MountResult where
  torn : Nat
  parkTail : Bool
  deriving DecidableEq, Repr

/-- How the store or the NOR ended an operation. -/
inductive StoreEnd where
  | ok | full | fault
  deriving DecidableEq, Repr

/-- The commands of the block, one constructor per row of the table. -/
inductive Instr where
  -- sys
  | sysHello (m : Mbx) (minVersion maxVersion : U8)
  | sysSubscribe (m : Mbx) (family mode : U8) (select : U32)
  | sysInfo (m : Mbx)
  | sysEcho (m : Mbx) (data : Bytes)
  | sysGoodbye (m : Mbx)
  | sysCounters (m : Mbx) (clear : Bool)
  -- seam and pattern
  | seamOpen (m : Mbx) (scope timeoutS : U16)
  | seamClose (m : Mbx) (seamId : U16) (asap : Bool) (tNs : U32) (t : U64)
  | seamUnpick (m : Mbx) (seamId : U16)
  | seamQuery (m : Mbx) (seamId : U16)
  | seamOpenTimeout (seamId : U16)
  | participantConfirm (seamId cell : U16) (refusal : Option U8)
  | confirmationDeadline (seamId : U16)
  | unpickAckTimeout (cell : U16)
  | seamBoundaryApply (seamId cell : U16)
  | patternSave (m : Mbx) (label : U32)
  | patternSaveDone (outcome : StoreEnd) (sizeKib : Nat)
  | patternApply (m : Mbx) (generation : U32) (force : Bool) (revertAfterS : U32)
  | patternProve (m : Mbx) (generation : U32)
  | patternRevert (m : Mbx) (force : Bool)
  | patternList (m : Mbx)
  | revertAfterExpiry
  -- mailboxes
  | mbxEnable (m : Mbx)
  | mbxQuiesce (m : Mbx)
  | mbxReset (m : Mbx)
  | quiesceComplete (m : Mbx)
  | cmdDoorbell (m : Mbx) (value : U32)
  | cplDoorbell (m : Mbx) (value : U32)
  | ringDmaError (m : Mbx) (completion : Bool)
  | functionLevelReset (fn : Fin 16)
  | vfEnableCleared
  | busMasterEnableClear (fn : Fin 16)
  | commandFetch (m : Mbx) (slot : Bytes) (request : Bytes := []) (bufErr : Fin 3 := 0)
  | fencedCommandStart (m : Mbx)
  | holdoffExpiry (m : Mbx)
  | registerWritePlain (reg : PlainReg) (part : RegPart) (value : U64)
  | slotWrite (pecOk : Bool) (offset16 : U8) (data : Bytes)
  | slotSubmit (pecOk : Bool)
  | cplRead (pecOk : Bool)
  | smbusStatus (pecOk : Bool)
  | stageWrite (pecOk : Bool) (offset : U16) (data : Bytes)
  | replyRead (pecOk : Bool) (offset : U16)
  | alertResponse
  -- conferences and legs
  | confCreate (m : Mbx) (conf : U16) (speakers : U8) (standing : Bool) (legLimit : U32) (startMedia : U64)
  | confDelete (m : Mbx) (conf : U16) (force : Bool)
  | confSet (m : Mbx) (conf : U16) (speakers : U8) (standing legField : Bool) (legLimit : U32)
  | confQuery (m : Mbx) (conf : U16)
  | confCapacity (m : Mbx)
  | confOriginTick (conf : Nat)
  | indexHoldoffEnd (kind : HoldKind) (index : Nat)
  | legOpen (m : Mbx) (offer : LegOffer)
  | legCheck (m : Mbx) (offer : LegOffer)
  | legUpdate (m : Mbx) (offer : LegOffer)
  | legClose (m : Mbx) (leg : U16)
  | legHold (m : Mbx) (leg : U16) (hold : Bool)
  | legQuery (m : Mbx) (leg : U16)
  | stunBindingRequest (leg : Nat) (fromNew integrityOk : Bool)
  | dtlsHandshakeDone (leg : Nat) (ok : Bool) (suite dtlsVersion : U8)
  | connectTimeout (leg : Nat)
  | consentLost (leg : Nat)
  | closingDrainEnd (leg : Nat)
  | rosterDeferredWrite (record : Nat)
  -- sound
  | mixCreate (m : Mbx) (conf mix master : U16)
  | mixDelete (m : Mbx) (mix : U16)
  | mixRoute (m : Mbx) (leg : U16) (mode : U8) (mix gain : U16)
  | mixGain (m : Mbx) (req : GainReq)
  | mixChain (m : Mbx) (leg : U16) (req : ChainReq)
  | mixJitter (m : Mbx) (source : U32) (minMs maxMs : U16) (fixed : Bool)
  | mixEncode (m : Mbx) (mix kbps : U16) (frameMs : U8) (fec dtx : Bool)
  | mixSpeakers (m : Mbx) (conf : U16) (threshold marginDb : U8)
  | mixMeter (m : Mbx) (req : MeterReq)
  | mixQuery (m : Mbx) (mix : U16)
  | mixSource (m : Mbx) (leg : U16)
  | audioPacketArrival (leg : Nat) (pkt : AudioPkt)
  | stitchTick (conf : Nat)
  | jbConcealLimit (leg : Nat)
  | speakerWindow (conf window : Nat)
  | speakerChange (conf : Nat)
  | encodeOverlapEnd (conf leg : Nat)
  | gainStep (point : GainPoint)
  | gainStepTimeout (point : GainPoint)
  | meterPeriod (m : Mbx) (due : Nat)
  -- pictures
  | videoPacketArrival (source : Nat) (pkt : VideoPkt)
  | segmentDecode (context : Nat) (seg : SegmentInfo)
  | entropyStallResume (context : Nat)
  | pixelLanePicture (context picnum : Nat)
  | keyRequestDeferred (source : Nat)
  | decodeStall (context : Nat)
  | encodePicture (context : Nat) (layers : List LayerCode)
  | receiverKeyRequest (entry : Nat) (fir : Bool)
  | composeSlot (layout slot : Nat) (silent : List Nat)
  | safetyVerdict (layout : Nat)
  | signatureTimeout (layout : Nat)
  | layoutCreate (m : Mbx) (req : LayoutReq)
  | layoutDelete (m : Mbx) (layout : U16)
  | layoutTile (m : Mbx) (req : TileReq)
  | layoutSafety (m : Mbx) (layout : U16) (region overlay : U8) (x y : U16)
  | layoutFeed (m : Mbx) (req : FeedReq)
  | layoutKeypic (m : Mbx) (feed : U16)
  | layoutQuery (m : Mbx) (layout : U16)
  | layoutContext (m : Mbx) (kind : U8) (index : U16)
  -- forwarding
  | lineUpdate (leg : Nat)
  | rtcpFeedback (leg : Nat) (report : RtcpReport)
  | tmmbr (leg : Nat) (kbps : Nat)
  | forwardPacket (object : Nat) (isFeed : Bool) (pkt : MediaPkt)
  | switchKeyWait (entry : Nat)
  | transcodeAfter (entry : Nat)
  | fwdSubscribe (m : Mbx) (req : SubscribeReq)
  | fwdUnsubscribe (m : Mbx) (entry : U32)
  | fwdSet (m : Mbx) (req : FwdSetReq)
  | fwdRetarget (m : Mbx) (entry source : U32)
  | fwdSource (m : Mbx) (source : U32) (ddExt fmExt : U8)
  | fwdLine (m : Mbx) (req : FwdLineReq)
  | fwdQuery (m : Mbx) (entry : U32)
  | fwdLeg (m : Mbx) (leg : U16)
  -- Ethernet, queues, time and cipher
  | frameReceive (iface : U8) (frame : RxFrame)
  | ingressBufferDrain (iface : U8) (bytes : Nat)
  | pauseRepeat (iface : U8)
  | receivedPauseExpiry (iface : U8)
  | slowpathWindow (iface : U8)
  | linkUp (iface : U8)
  | linkDown (iface : U8)
  | neighbourRetry (iface : U8) (address : U128) (resolved : Option (BitVec 48))
  | schedulingDecision (iface : U8)
  | legQueueEnqueue (frame : TxFrame)
  | qdropAge (leg : Nat)
  | gateEntryInterval (port : Fin 2)
  | gateListTakeover (port : Fin 2)
  | latencySample
  | keyCacheFill (access : Bool) (slot : Nat) (intact : Bool)
  | rekeyDone (leg : Nat) (ok : Bool)
  | rekeyTimeout (leg : Nat)
  | previousKeyErase (leg : Nat)
  | netPort (m : Mbx) (port split : U8)
  | netIface (m : Mbx) (req : IfaceReq)
  | netAddr (m : Mbx) (iface kind mode af : U8) (address : U128) (prefixLen : U8)
  | netGroup (m : Mbx) (port mode : U8) (address : BitVec 48)
  | netRoute (m : Mbx) (iface mode af prefixLen : U8) (pfx gateway : U128)
  | netQuery (m : Mbx) (iface : U8) (clear : Bool)
  | timeBase (m : Mbx) (base : U8) (enable : Bool) (source trackS : U8)
  | timeStep (m : Mbx) (base mode : U8) (value : U64) (frac : U32)
  | absoluteStepTimeout
  | timeRate (m : Mbx) (base : U8) (adj : U32)
  | timeUnlock (m : Mbx) (base : U8)
  | timeRead (m : Mbx)
  | timePps (m : Mbx) (outEnable inEnable : Bool) (outBase : U8) (widthMs : U16) (offsetNs : U32)
  | timePtp (m : Mbx) (req : PtpReq)
  | timeQuery (m : Mbx)
  | secondsRollover (base : Fin 4)
  | servoComparison (base : Fin 4) (phaseNs : Int) (present : Bool)
  | ppsInEdge
  | ppsOutEdge
  | ptpMessage (iface : U8) (msg : PtpMsg)
  | ptpIntervalTimer (iface : U8) (kind : Fin 3)
  | tsRefclkPresent (hz : Nat := 10000000) (ms : Nat := 100)
  | tsRefclkLost (quietNs : Nat := 10000)
  | schedPort (m : Mbx) (port : U8) (change : BitVec 9) (levels : List LevelReq)
  | schedLeg (m : Mbx) (req : SchedLegReq)
  | schedGate (m : Mbx) (req : GateReq)
  | schedQuery (m : Mbx) (leg : U16) (clear : Bool)
  | schedPortq (m : Mbx) (port level : U8) (clear : Bool)
  | cipherClass (m : Mbx) (cls : U8) (check : Bool) (rekeyS : U8) (useLimit : U32)
  | cipherSlot (m : Mbx) (space : U8) (slot : U32)
  | cipherRekey (m : Mbx) (leg : U16)
  | cipherStats (m : Mbx) (leg : U16) (clear : Bool)
  -- access
  | generationHunt (port : Fin 2)
  | downstreamSyncGained (port : Fin 2)
  | downstreamSyncLost (port : Fin 2)
  | downstreamSuperframe (port : Fin 2) (superframe : Nat)
  | to1Expiry (port : Fin 2)
  | to2Expiry (port : Fin 2)
  | serialNumberGrant (port : Fin 2)
  | burstGrant (port : Fin 2) (alloc : Allocation)
  | burstProfile (port : Fin 2) (usRate : U8)
  | assignOnuId (port : Fin 2) (onuId : Nat) (serial : U64)
  | rangingTime (port : Fin 2) (relative : Bool) (bits : Int)
  | deactivateOnuId (port : Fin 2) (onuId : Nat)
  | disableSerialNumber (port : Fin 2) (enable : Bool) (serial : U64)
  | requestRegistration (port : Fin 2)
  | assignAllocId (port : Fin 2) (allocId : Nat)
  | keyControl (port : Fin 2) (keyIndex : Fin 2) (broadcast : Bool) (superframe : Nat)
  | sleepAllow (port : Fin 2) (on : Bool)
  | changePowerLevel (port : Fin 2) (level : Nat) (moduleReports : Bool)
  | powerConsumptionInquire (port : Fin 2)
  | ploamIgnored (port : Fin 2) (micFail : Bool)
  | omciMessage (port : Fin 2) (req : OmciReq)
  | watchfulSleepWake (port : Fin 2)
  | serialNumberReceived (port : Fin 2) (serial : U64)
  | registrationReceived (port : Fin 2) (onuId : Nat) (roundTripNs : Nat := 0)
  | keyReportReceived (port : Fin 2) (onuId : Nat)
  | ploamAcknowledge (port : Fin 2) (onuId : Nat) (error : Bool)
  | registrationTimeout (port : Fin 2) (onuId : Nat)
  | missingBursts (port : Fin 2) (onuId : Nat)
  | upstreamAllocation (port : Fin 2) (reports : List (Nat × Nat))
  | serialNumberWindow (port : Fin 2)
  | groupKeyRotate (port : Fin 2) (group : Nat) (superframe : Nat := 0)
  | oltGPeriodic (port : Fin 2)
  | rssiTrigger (port : Fin 2) (power : BitVec 16)
  | accessPort (m : Mbx) (req : AccessPortReq)
  | accessGem (m : Mbx) (port mode : U8) (gemId : U16) (kind terminal : U8) (allocId : U16)
  | accessTcont (m : Mbx) (port mode terminal index : U8) (fixedKbps assuredKbps maxKbps : U32) (weight : U16)
  | accessTree (m : Mbx) (port mode onuId keyGroup : U8) (serial : U64)
  | accessQuery (m : Mbx) (port terminal : U8)
  -- twin
  | trussHello (hdr : TrussHdr) (body : TrussHelloBody)
  | trussCanon (hdr : TrussHdr) (rec : CanonRec) (frame : RxFrame)
  | trussSeam (hdr : TrussHdr) (seamId : U16) (item : SeamMirror) (cmd : Instr)
  | trussJournal (hdr : TrussHdr) (record : Nat) (content : Option Record) (rseq : U64) (epoch : U32)
  | trussTime (hdr : TrussHdr) (base : Fin 4) (adj : Int) (stepped : Option TimeVal) (delayNs : Nat) (value : TimeVal := { sec := 0, ns := 0, frac := 0 })
  | trussDraw (hdr : TrussHdr) (value : U32)
  | trussDecision (hdr : TrussHdr) (rec : DecisionRec)
  | trussState (hdr : TrussHdr) (items : List StateItem) (last : Bool)
  | trussKeystone (hdr : TrussHdr) (item : KsMirror)
  | trussNotice (hdr : TrussHdr) (fault : Bool) (level : Nat)
  | trussConfig (hdr : TrussHdr) (item : ConfigItem) (cmd : Instr)
  | trussIdle (hdr : TrussHdr)
  | trussIdleTimer
  | trussLinkLost
  | trussLaneFail (lane : Fin 4)
  | mirrorStoreFree (bytes : Nat)
  | decisionLate
  | claimRoundStart
  | claimFrame (frame : ClaimFrame)
  | claimBusLost
  | failoverCanonSwitch
  | resyncEntry (tb0 tb3 : TimeVal)
  | resyncSnapshot
  | resyncComplete
  | resyncTimeout
  | retryHoldExpiry
  | throttleRequestTimeout
  | homingHoldOff (group : BitVec 6)
  | swapTick
  | twinConfig (m : Mbx) (enable singleSend : Bool) (resyncS retryHoldS : U16)
  | twinClaim (m : Mbx) (group : U8) (homing homeSide : Bool) (holdOffS : U16) (prefA prefB : BitVec 12)
  | twinSwap (m : Mbx) (group : U8) (leadTicks : U16)
  | twinResync (m : Mbx)
  | twinQuery (m : Mbx)
  -- keeping
  | journalGroupClose
  | groupProgramDone (gseq : Nat) (ok : Bool)
  | snapshotPassStart
  | segmentImageDone (segment : Nat) (location : U32)
  | snapshotPassEnd (ok : Bool)
  | scrubRead (corrected : Nat) (soft : Bool) (reads : Nat) (uncorrectable : Bool) (record : Option Nat) (generation : Option Nat := none)
  | mountJournalReady (result : MountResult)
  | mountSummariesLoaded
  | mountIndexed
  | keepLookup (m : Mbx) (byRecord : U8) (record : U32) (key : U128)
  | keepRecord (m : Mbx) (req : RecordReq)
  | keepHealth (m : Mbx)
  | keepFaults (m : Mbx) (first : U32) (count : U32)
  | keepSnapshot (m : Mbx)
  | keepConfig (m : Mbx) (retainDays scrubDays refreshBits : U16)
  | keepFormat (m : Mbx) (confirm : U32)
  | keepImage (m : Mbx) (slot : U8) (image : PierImage)
  | keepActivate (m : Mbx) (mode slot : U8) (force : Bool) (commitS : U32)
  | keepImages (m : Mbx)
  | activationReset
  | trialMediaTimeout
  | trialCommitTimeout
  -- dispatch
  | dispatchGet (cell : U16)
  | taskReadyHandout (task : Nat)
  | taskEnd (task : Nat) (used : Nat) (how : RunEnd)
  | kernelLoad (m : Mbx) (req : KernelReq)
  | kernelUnload (m : Mbx) (kernel : U16)
  | kernelQuery (m : Mbx) (kernel : U16)
  | traceConfig (m : Mbx) (req : TraceReq)
  | traceRead (m : Mbx) (start : U64) (count : U32)
  | traceQuery (m : Mbx) (block : U8)
  -- cells, faults and spools
  | cellFaultDetect (cell : U16) (cause : U8) (detail : U32)
  | cellRetryResult (cell : U16) (ok : Bool)
  | cellSilent (cell : U16)
  | boundExpired (island : U16)
  | regionBlockDrainDone (block : U16)
  | blockSelfTestDone (block : U16) (failedCells : List Nat) (blockPass : Bool)
  | chipFault (region : Fin 8) (cause : U8) (detail : U32)
  | regionRecoveryTimeout (region : Fin 8)
  | spanFlitError (span : Nat) (dieCrossing toRegion resent : Bool) (target : U16)
  | spanWatchdog (span : Nat) (dieCrossing toRegion : Bool) (target : U16)
  | spoolWrite (spool : Nat) (op : SpoolOp)
  | spoolRead (spool : Nat)
  | lengthUnfilled (spool : Nat)
  -- DMA and memory
  | dmaStart (ch : Fin 16)
  | dmaResume (ch : Fin 16)
  | dmaStop (ch : Fin 16)
  | dmaAbort (ch : Fin 16)
  | dmaAppend (ch : Fin 16)
  | dmaIrqClear (ch : Fin 16) (bits : BitVec 4)
  | dmaDescriptorDone (ch : Fin 16)
  | dmaHalt (ch : Fin 16) (err : DmaError) (addr : U64) (write : Bool)
  | memConfig (m : Mbx) (actThreshold : U16) (patrolH : U8) (retrainMs : U16)
  | memQuery (m : Mbx) (channel : U8) (clear : Bool)
  | memMap (m : Mbx)
  | memWindow (m : Mbx) (req : WindowReq)
  | dramRead (addr : U64) (ecc : EccResult) (crcOk : Bool) (user : TileUse) (path : DramPath := { cell := 0, bank := 0, row := 0, wait := false })
  | tableTileWrite (addr : U64) (whole : Bool) (crcOk : Bool) (crc : U32) (path : DramPath := { cell := 0, bank := 0, row := 0, wait := false })
  | rowActivate (channel : Nat) (bank : Nat) (row : Nat)
  | refreshWindowEnd (channel : Nat)
  | zqCalibration (channel : Nat)
  | periodicRetrain (channel : Nat) (tempC : Int) (marginOk : Bool)
  | patrolRead (channel : Nat) (addr : U64) (ecc : EccResult) (crcOk : Bool)
  -- Keystone
  | ksWriteReject (source : U16) (offset : U16)
  | ksStatus (m : Mbx)
  | ksPropose (m : Mbx) (proposal : Option Proposal)
  | ksCert (m : Mbx)
  | ksLog (m : Mbx) (first : U32) (count : U16)
  | ksPolicy (m : Mbx) (type : U8)
  | keystoneRelease
  | ruleOverlayPlace (layout : Nat)
  | noticeTone (conf : Nat)
  | keystoneSensorRead (readings : List (Option Int))
  | throttleLevelChange (level : Fin 4)
  | supplyTrip (rail : Rail) (mV : Nat)
  | tripClear
  | lockstepMismatch
  -- power
  | powerState (m : Mbx) (state quietPort : U8) (trimSound : U32) (trimPicture : BitVec 14) (trimAccess : BitVec 2)
  | powerVote (m : Mbx) (domain : U16) (action : U8)
  | powerSupply (m : Mbx) (rideMs flushMs : U8) (holdMv : U16)
  | powerThermal (m : Mbx) (l1C : U8)
  | powerQuery (m : Mbx) (domain : U16)
  | powerChangeDone
  | pendingPowerStart
  | refusalHoldoffEnd (domain : U16)
  | domainPowerUp (domain : U16) (failed : List U16 := [])
  | wakeEvent (source : WakeSource)
  | wakeComplete (failed : List U16 := [])
  | trussWakePattern (symbols : List (Fin 4))
  | wakeTrussTimeout
  | wakeNLow
  | pfwNAssert
  | rideExpiry
  | flushStart
  | holdSenseFall (samples : List Nat)
  | flushPark
  | pfwNClear
  | parkExit
  | brownOut (loadMa : Nat) (us : Nat := 21)
  -- start-up
  | liveInsertion
  | resetNAssert (lowNs : Nat)
  | resetNRelease (bootSrc twinSide : Bool) (mgmtAddr : BitVec 3)
  | pierImageVerify (slotAOk slotBOk : Bool)
  | ddrTrainingDone (result : TrainingResult)
  | ddrTrainingRetry (result : TrainingResult)
  | mailboxesReady
  | bootPatternApplied (damaged : List U32)
  | mediaReady
  | avsRailStep (rail : Fin 2) (targetMv : Nat) (ack : Bool)
  | avsAckTimeout (rail : Fin 2)
  | announceTimeout (iface : U8)
  | ppsOutPulseEnd
  | netPortInitDone (port : Fin 2)
  | norWriteDone (policy : Bool) (ok : Bool)
  | storeFormatDone
  | blockMemParity (block : U16) (address : U32)
  | arbiterFault (island : U16) (level : Fin 4)
  | noticeCardRendered (layout : Nat)
  deriving DecidableEq, Repr

end Sys2Proof
end

