-- ==== Sys2Proof/WellFormed.lean ====
section
/-! DEFINITION. Well-formed commands: the shapes a command's operands have by the spec's layouts, where their types alone do not say so. A command that is not well-formed has a meaning all the same; it stands for no request or event that the spec describes. -/

namespace Sys2Proof

/-- A leg offer's variable parts fit their places: 16 codec entries, credentials of at most 63 bytes, a key block of at most 256 bytes (04 Tables 4-2 and 4-3). -/
def LegOffer.wf (o : LegOffer) : Bool :=
  decide (o.codecs.length ≤ 16) && decide (o.localUfrag.length ≤ 63) && decide (o.localPwd.length ≤ 63) &&
  decide (o.remoteUfrag.length ≤ 63) && decide (o.remotePwd.length ≤ 63)

/-- A parameter set of mix.chain has five bands (05 R143). -/
def ChainReq.wf (q : ChainReq) : Bool := q.bands.length == 5

/-- A policy image's tables have their fixed sizes (16 Table 16-4). -/
def PolicyImage.wf (p : PolicyImage) : Bool :=
  p.permissions.length == 17 && p.ctlGroup.length == 8 && p.checkFixed.length == 3 && p.limitFixed.length == 3 && p.laser.length == 2

/-- An index below a bound. -/
def below (n bound : Nat) : Bool := decide (n < bound)

/-- A leg index (04 R105). -/
def legIx (l : Nat) : Bool := below l 65536
/-- A conference index (04 R105). -/
def confIx (c : Nat) : Bool := below c 8192
/-- A source: 4 × leg + kind (04 R107). -/
def sourceIx (x : Nat) : Bool := below x 262144

/-- A gain point names a leg and a mix that can exist (05 R140, R144). -/
def GainPoint.wf : GainPoint → Bool
  | .leg l => legIx l
  | .master x => below x 16384
  | .route l x => legIx l && below x 16384

/-- What a slot or staging write of mailbox 16 carries: at least one byte and at most 128 behind its offset (03 Table 3-10). -/
def smbData (d : Bytes) : Bool := decide (1 ≤ d.length) && decide (d.length ≤ 128)

/-- A command is well-formed. -/
def Instr.wf : Instr → Bool
  | .sysEcho _ d => decide (d.length ≤ 24)
  | .commandFetch _ slot _ _ => slot.length == 256
  | .legOpen _ o => LegOffer.wf o
  | .legCheck _ o => LegOffer.wf o
  | .legUpdate _ o => LegOffer.wf o
  | .mixChain _ _ q => ChainReq.wf q
  | .schedPort _ _ _ levels => levels.length == 9
  | .ksPropose _ p => p.all (fun q => PolicyImage.wf q.image)
  | .slotWrite _ off d => below off.toNat 16 && smbData d
  | .stageWrite _ _ d => smbData d
  | .keystoneSensorRead readings => readings.length == 32
  | .encodePicture _ layers => decide (layers.length ≤ 3)
  | .composeSlot _ _ silent => silent.all (fun r => decide (r < 4))
  | .confOriginTick c => confIx c
  | .stitchTick c => confIx c
  | .speakerWindow c _ => confIx c
  | .speakerChange c => confIx c
  | .noticeTone c => confIx c
  | .encodeOverlapEnd c l => confIx c && legIx l
  | .gainStep p => GainPoint.wf p
  | .gainStepTimeout p => GainPoint.wf p
  | .audioPacketArrival l _ => legIx l
  | .jbConcealLimit l => legIx l
  | .stunBindingRequest l _ _ => legIx l
  | .dtlsHandshakeDone l _ _ _ => legIx l
  | .connectTimeout l => legIx l
  | .consentLost l => legIx l
  | .closingDrainEnd l => legIx l
  | .lineUpdate l => legIx l
  | .rtcpFeedback l _ => legIx l
  | .tmmbr l _ => legIx l
  | .rekeyDone l _ => legIx l
  | .rekeyTimeout l => legIx l
  | .previousKeyErase l => legIx l
  | .videoPacketArrival x _ => sourceIx x
  | .keyRequestDeferred x => sourceIx x
  | .rowActivate channel _ _ => below channel 16
  | .refreshWindowEnd channel => below channel 16
  | .zqCalibration channel => below channel 16
  | .periodicRetrain channel _ _ => below channel 16
  | .patrolRead channel _ _ _ => below channel 16
  | .blockSelfTestDone _ failed _ => decide (failed.length ≤ 64)
  | .holdSenseFall samples => samples.length == 3
  | _ => true

end Sys2Proof
end

