-- ==== Sys2Proof/Config.lean ====
section
/-! DEFINITION. What the spec leaves to the device, the card or an implementation: constants with no body, so that nothing can be proved of their values, and the fixed identity of firmware release 3.2. Each is named in the assumption log. -/

namespace Sys2Proof.Config

open Sys2Proof

/-- A fresh 64-bit value for the n-th random draw (12 R315): SSRC, SEQ_BASE, TS_BASE and other values the spec draws at random. DESIGN CHOICE, log 2. -/
opaque draw : Nat → U64
/-- Build number of firmware release 3.2, which the manual does not fix (03 R103). DESIGN CHOICE, log 10. -/
opaque build : U16
/-- Device serial number held by Keystone (19 R484). DESIGN CHOICE, log 10. -/
opaque serial : U64
/-- An audio decoder (05 R122, R127, Table 5-3): from the codec entry, the decoder's state, its input and the samples asked for, its next state and the samples of the left and right channel; the codec standards fix it, not the manual. DESIGN CHOICE, log 11. -/
opaque decode : CodecEntry → Bytes → DecodeIn → Nat → Bytes × List (Int × Int)
/-- An audio encoder (05 R122, R142): from its settings, its state and the samples of a frame, its next state and the frame. DESIGN CHOICE, log 11. -/
opaque encode : EncSettings → Bytes → List Int → Bytes × Bytes
/-- A sample of the polyphase converter between two sampling rates, from the samples that it still holds and the new ones, by its place in the output (05 R131 bounds its response and fixes its delay). DESIGN CHOICE, log 11. -/
opaque convert : Nat → Nat → List Int → Nat → Int
/-- A sample of playout that is stretched or shortened by a number of samples, by its place (05 R126). DESIGN CHOICE, log 11. -/
opaque timescaled : List Int → Int → Nat → Int
/-- The gate's envelope one sample on, without input: an exponential release of 1 ms (05 R143). DESIGN CHOICE, log 11. -/
opaque release : Nat → Nat
/-- A sample attenuated by a part of RANGE dB: range, part and whole (05 R143). DESIGN CHOICE, log 11. -/
opaque gated : Nat → Nat → Nat → Int → Int
/-- b0, b1, b2, a1, a2 of an equaliser band in Q2.30 (05 R143): computed in binary64. DESIGN CHOICE, log 11. -/
opaque eqCoef : EqBand → Int × Int × Int × Int × Int
/-- A sample under the AGC's gain, in millionths of an eighth of a dB (05 R143). DESIGN CHOICE, log 11. -/
opaque scaled : Int → Int → Int
/-- What a call of a customer kernel gives: the sample window, the state window, the cycles used, and the cause (0: none; 2 to 6) and code offset of a fault. It depends on nothing but the call (14 R370 to R378); the manual gives no instruction encoding. DESIGN CHOICE, log 11. -/
opaque kernelRun : KernelCall → List Int × List (BitVec 8) × Nat × U8 × U16
/-- Samples by which a jitter buffer stretches or shortens playout in one tick (05 R126 gives a bound only): leg and media time. DESIGN CHOICE, log 11. -/
opaque stretch : Nat → Nat → Nat
/-- A sample that a decoder reconstructs, by the codec standards: from the bodies of the picture's BLOCK records and its reference pictures, by component, column and row, at the stream's own bit depth (06 R154, R164). DESIGN CHOICE, log 11. -/
opaque decoded : List Bytes → List Frame → Nat → Nat → Nat → Nat
/-- A sample of an overlay's data as a policy image holds them: their number, component, column and row (07 R199, 16 Table 16-4). DESIGN CHOICE, log 11. -/
opaque overlaySample : Nat → Nat → Nat → Nat → Nat
/-- A sample of a notice card's data as a policy image holds them: their number, component, column and row (16 Table 16-4). DESIGN CHOICE, log 11. -/
opaque cardSample : Nat → Nat → Nat → Nat → Nat
/-- Bytes of the UDP payload of a DTLS close_notify (04 Table 4-4): the manual gives no record size. DESIGN CHOICE, log 11. -/
opaque closeNotifyBytes : Nat
/-- Bytes of the mirrored form of a successful command (12 R312): the manual gives no item sizes; by opcode. DESIGN CHOICE, log 28. -/
opaque configBytes : Nat → Nat
/-- Nanoseconds by which the OLT-G time of a superframe is later at the terminal than at the head end's reference, by the generation's standard (11 R289): generation, equalization delay in bits, REFRACT_PPM. DESIGN CHOICE, log 29. -/
opaque todDelayNs : Nat → Int → Int → Int
/-- A sample of a notice tone's data as a policy image holds them: their number and its place (16 Table 16-4, section 7). DESIGN CHOICE, log 11. -/
opaque toneSample : Nat → Nat → BitVec 32
/-- Placement of work the manual does not fix (14, 18 R18): the Sound cell that runs a conference's mixes, as block and cell. DESIGN CHOICE, log 12. -/
opaque soundCell : Nat → Nat × Nat
/-- The forwarding cell that runs a forwarding entry (08). DESIGN CHOICE, log 12. -/
opaque fwdCell : Nat → Nat

/-- Location, level, cause, action and detail of the fault record Keystone writes for a layout whose overlay mismatches or whose card store fails (07 R201, R202): Table 1-8 has no code for it. DESIGN CHOICE, log 13. -/
opaque noticeFault : Nat → U16 × Nat × Nat × Nat × U32

/-- Width of a shipped overlay (16 Table 16-4): the manual gives no sizes. DESIGN CHOICE, log 10. -/
opaque overlayWidth : Nat → Nat
/-- Height of a shipped overlay. DESIGN CHOICE, log 10. -/
opaque overlayHeight : Nat → Nat
/-- SHA-384 of the Woronaevo root key (16 R410). DESIGN CHOICE, log 10. -/
opaque rootKey : BitVec 384
/-- Base of each pool of Table 15-2, which Pier divides at boot (15 R380). DESIGN CHOICE, log 12. -/
opaque poolBase : Nat → Nat
/-- Size of each pool of Table 15-2 (15 R380). DESIGN CHOICE, log 12. -/
opaque poolSize : Nat → Nat
/-- Estimated device power in W at the n-th draw (17 power.query). DESIGN CHOICE, log 2. -/
opaque powerW : Nat → U16
/-- The bytes of the DER certificate that a pair identity's Keystone generated (16 R420). DESIGN CHOICE, log 10. -/
opaque certBytes : Nat → Bytes
/-- The DER certificate of a pair identity: a self-signed P-256 certificate takes at most 2,048 bytes (PRESUMED, log 10: the spec gives no length). -/
def certificate (n : Nat) : Bytes := (certBytes n).take 2048
/-- SHA-256 of a certificate (16 R420). DESIGN CHOICE, log 10. -/
opaque fingerprint : Nat → BitVec 256
/-- The bytes of a policy section other than PERMISSIONS as stored (16 ks.policy): type and slot of the policy. DESIGN CHOICE, log 10. -/
opaque section_ : Nat → Nat → Bytes

/-- Wear of a store area by area (0 manifest, 1 journal, 2 TLC pool), groups written and retired blocks: mean and highest erase count, spares left per mille, projected days of life (13 R353). The spec gives no block count or erase history: free, log 30. -/
opaque wear : Nat → Nat → Nat → Nat × Nat × Nat × Nat

/-- Progress of the scrub in per cent after a number of blocks read: the spec gives no block count (13 keep.health). Free, log 30. -/
opaque scrubPct : Nat → Nat

/-- Location, level, cause, action and detail of the fault record for a codeword that cannot be corrected: Table 1-8 has no code for it (13 R352). Free, log 13. -/
opaque storeFault : Nat → U16 × Nat × Nat × Nat × U32

/-- Nominal cost in cell-cycles of a task kind by its place in Table 14-1, which EST starts at (14 R357). Free, log 31. -/
opaque nominalEst : Nat → Nat

/-- Sound block that Pier firmware gives a task as its home, by kind and object (14 R357). Free, log 12. -/
opaque taskBlock : Nat → Nat → Nat

/-- The dispatcher cannot write the n-th trace record as fast as it arose (14 R369). Free, log 31. -/
opaque traceLags : Nat → Bool

/-- Location, level, cause, action and detail of the fault record for a stored L1_C that breaks the rule (17 R451): Table 1-8 has no code for it. Free, log 13. -/
opaque l1Fault : Nat → U16 × Nat × Nat × Nat × U32

/-- Location, cause and detail of the fault record for a device reset that no fault of Table 1-8 caused, by its boot cause (01 R30). Free, log 13. -/
opaque resetFault : Nat → U16 × U8 × U32

/-- Location, level, cause, action and detail of the fault record for a generation skipped at boot (02 R68): Table 1-8 has no code for it. Free, log 13. -/
opaque genFault : Nat → U16 × Nat × Nat × Nat × U32

/-- Kind and ends of a spool: it carries frames, it is a class 0 spool, its producer cell, its consumer cell (01 R31, R41): the manual numbers no spool. DESIGN CHOICE, log 32. -/
opaque spoolKind : Nat → Bool × Bool × U16 × U16
/-- Object whose items a spool carries, where its frames do not name it: the leg or mix of an audio sample spool, by the mix's number plus 65,536 (01 R40). DESIGN CHOICE, log 32. -/
opaque spoolObject : Nat → Nat
/-- Slots of a spool beyond the least the manual requires of one that carries frames (01 R38). DESIGN CHOICE, log 32. -/
opaque spoolExtra : Nat → Nat

/-- Fault cause of an uncorrectable read in FIRMWARE and of a channel whose retraining failed twice (15 R382, R383): Table 1-8 has no code for them. Free, log 13. -/
opaque dramCause : Fin 2 → Nat

/-- Raw samples of Keystone's entropy source (16 R417). Free, log 83. -/
opaque noise : Nat → U8
/-- Cutoffs of the repetition count test and of the adaptive proportion test, and the window of the latter (16 R417): the manual names the standard. Free, log 83. -/
opaque healthLimits : Nat × Nat × Nat
/-- Keystream of AES-256-GCM under a key and a nonce, and its tag over a slot's ciphertext (16 R417). Free, log 83. -/
opaque gcmStream : BitVec 256 → Nat → BitVec 256
@[inherit_doc gcmStream] opaque gcmTag : BitVec 256 → Nat → Nat → BitVec 256 → BitVec 128
/-- Keys of a DTLS-SRTP slot in a generation, and the SRTCP key that RFC 3711 derives from a master key and its salt (16 R418, R419). Free, log 83. -/
opaque dtlsKey : Nat → U8 → BitVec 256
@[inherit_doc dtlsKey] opaque srtcpKey : BitVec 256 → BitVec 112 → BitVec 256
/-- Highest value of a buffer status report (11 R286): the standard's. Free, log 83. -/
opaque reportMax : Nat

/-- STATE and FW_SVN of the recovery image in the reply of keep.images (18): the manual gives neither. DESIGN CHOICE, log 10. -/
opaque recoveryImage : U8 × U8

/-- A shipped overlay. -/
def overlay (k : Nat) : Overlay := { width := overlayWidth k, height := overlayHeight k, content := k }

/-- Highest pattern schema that release 3.2 understands, and the highest that a pair writes at a Truss version (02 R73, 12 R309): the manual numbers no schema. Free, log 10. -/
opaque schemaMax : Nat
@[inherit_doc schemaMax] opaque pairSchema : U8 → Nat

/-- FW_RELEASE of release 3.2 (03 R87, R103). -/
def fwRelease : U32 := (0x0302#16) ++ build

end Sys2Proof.Config
end

