-- ==== Sys2Proof/Machine/State.lean ====
section
/-! DEFINITION. The state of the SL9640: every register, queue, buffer, counter, table and pin the spec gives the block, as plain data, with its value after power-on reset beside each field; the reasons a step can stop; State.reset. -/

namespace Sys2Proof.Machine

open Sys2Proof

/-! ### Pins and boot (18, 19) -/

/-- The steps of the boot (18 R459, R460). -/
inductive BootStage where
  | held | keystone | pierImage | ddr | ready | stuck
  deriving DecidableEq, Repr

/-- The card's pins as the device sees and drives them (18 R457, 19 R474, R477). -/
structure Pins where
  /-- RESET_N level — 19 R477 — reset low (held in reset at power-on) -/
  resetN : Bool := false
  /-- PFW_N level — 19 R477 — reset high (DESIGN CHOICE, log 3) -/
  pfwN : Bool := true
  /-- WAKE_N level — 19 R477 — reset high (DESIGN CHOICE, log 3) -/
  wakeN : Bool := true
  /-- HOLD_SENSE in mV — 17 R446 — reset 1200 (DESIGN CHOICE, log 3) -/
  holdMv : Nat := 1200
  /-- BOOT_SRC strap as latched — 18 R457 — reset 0 (DESIGN CHOICE, log 3) -/
  bootSrc : Bool := false
  /-- TWIN_SIDE strap as latched — 18 R457 — reset 0 (DESIGN CHOICE, log 3) -/
  twinSide : Bool := false
  /-- MGMT_ADDR straps as latched — 18 R457 — reset 0 (DESIGN CHOICE, log 3) -/
  mgmtAddr : BitVec 3 := 0
  /-- SMB_ALERT_N asserted — 03 R102 — reset deasserted -/
  smbAlert : Bool := false
  /-- PPS_OUT level — 09 R248 — reset low -/
  ppsOut : Bool := false
  deriving DecidableEq, Repr

/-- Start-up (18). -/
structure Boot where
  /-- boot step — 18 R459 — reset held -/
  stage : BootStage := .held
  /-- boot cause, Table 3-11 — 03 R103 — reset 0 (power-on) -/
  cause : U8 := 0
  /-- READINESS bits, Table 3-12 — 03 R103, 18 R459 — reset 0 -/
  readiness : U16 := 0
  /-- READY bit of every PIER_MBX_STATUS — 03 R77 — reset 0 -/
  ready : Bool := false
  /-- elapsed ticks at the last RESET_N release (UPTIME_S) — 03 R103 — reset 0 -/
  releasedAt : Nat := 0
  /-- running the recovery image — 18 R463 — reset 0 -/
  recovery : Bool := false
  /-- the running generation was unproven at the last reset — 02 R68 — reset 0 -/
  fellBack : Bool := false
  /-- the boot skipped a damaged or newer-schema generation — 02 R68 — reset 0 -/
  skippedGen : Bool := false
  deriving DecidableEq, Repr

/-! ### Mailboxes (03) -/

/-- A completion or event entry the device has written or holds for writing (03 Table 3-5). -/
structure Entry where
  tag : U16
  status : U8
  opcode : U16
  result : Bytes
  /-- CMD_HEAD as written -/
  head : U16 := 0
  /-- PHASE as written -/
  phase : Bool := false
  deriving DecidableEq, Repr

/-- An entry on its way to the completion ring, with the command in flight whose entry it is. -/
structure Queued where
  entry : Entry
  seq : Option Nat := none
  /-- the entry is an event's, not a completion's -/
  event : Bool := false
  deriving DecidableEq, Repr

/-- An event raised and not yet offered to the mailboxes (03 R94). The list of them is empty between commands. -/
structure Raised where
  code : U16
  status : U8
  data : Bytes
  /-- one mailbox only, or every subscribed mailbox -/
  dest : Option Mbx := none
  /-- the PENDING command the event completes -/
  seq : Option Nat := none
  /-- the command whose effect raised the event while it goes on acting: the event is written after its completion entry (03 R94) -/
  cause : Option Nat := none
  deriving DecidableEq, Repr

/-- Where a fetched command stands (03 R92, R93): waiting under FENCE, ready to run, acting while something it waits for finishes, PENDING with its completion entry written, or run with an entry not yet written. -/
inductive CmdStage where
  | fenced | ready | acting | pending | done
  deriving DecidableEq, Repr

/-- A command in flight: fetched and not yet completed (03 R80, R92). -/
structure Cmd where
  /-- order of fetch over all mailboxes -/
  seq : Nat
  /-- slot header and descriptor as fetched; VERSION and SEAM as the session's version reads them -/
  hdr : SlotHdr
  /-- the request as read at the fetch: the inline payload, the staging buffer's bytes or the request buffer's (03 R80 to R82, R101, R102) -/
  req : Bytes := []
  /-- a DMA error met on the command's buffers: 0 none, 1 the request buffer, 2 the reply buffer (03 R81) -/
  bufErr : Fin 3 := 0
  stage : CmdStage
  /-- the token came from the mailbox's reserve of 8 -/
  fromReserve : Bool
  /-- the mailbox halted or was reset since: the completion is discarded -/
  orphan : Bool := false
  deriving DecidableEq, Repr

/-- The setting of one mix.meter period (05 R150). -/
structure MeterSet where
  kind : U8
  index : Nat
  deriving DecidableEq, Repr

/-- One mailbox: its doorbell page, rings, session and counters (03). -/
structure Mailbox where
  /-- PIER_MBX_CMD_BASE 64 — 03 R76 — reset 0 (DESIGN CHOICE, log 4) -/
  cmdBase : U64 := 0
  /-- PIER_MBX_CPL_BASE 64 — 03 R76 — reset 0 (DESIGN CHOICE, log 4) -/
  cplBase : U64 := 0
  /-- PIER_MBX_CFG 32 — 03 R77 — reset 0x0000_0009 -/
  cfg : U32 := 9
  /-- PIER_MBX_CTRL.ENABLE — 03 R77 — reset 0 -/
  enable : Bool := false
  /-- PIER_MBX_STATUS.RUNNING — 03 R77 — reset 0 -/
  running : Bool := false
  /-- quiesced by ENABLE = 0 — 03 R98 — reset 0 -/
  quiesced : Bool := false
  /-- PIER_MBX_STATUS.HALTED — 03 R77 — reset 0 -/
  halted : Bool := false
  /-- PIER_MBX_STATUS.HALT_CAUSE 8 — 03 R77 — reset 0 -/
  haltCause : U8 := 0
  /-- negotiated version of the session, if one is established — 03 R87, R88 — reset none -/
  session : Option U8 := none
  /-- PIER_MBX_LOST 32, saturating — 03 R76 — reset 0 -/
  lostTotal : U32 := 0
  /-- base and configuration in force, loaded at enable — 03 R77, R97 — reset 0 -/
  ldCmdBase : U64 := 0
  /-- completion ring base in force — 03 R77, R97 — reset 0 -/
  ldCplBase : U64 := 0
  /-- CPL_LOG2 in force — 03 R77, R97 — reset 9 (mailbox 16: 512 entries, 03 R101) -/
  ldLog2 : Nat := 9
  /-- HOLDOFF_US in force — 03 R77, R97 — reset 0 -/
  ldHoldoff : Nat := 0
  /-- PI as last recorded, modulo 512 — 03 R77 — reset 0 -/
  pi : Nat := 0
  /-- CMD_HEAD, modulo 512 — 03 R78 — reset 0 -/
  cmdHead : Nat := 0
  /-- CI, modulo 65,536 — 03 R77 — reset 0 -/
  ci : Nat := 0
  /-- completion position, modulo 65,536 — 03 R83 — reset 0 -/
  pos : Nat := 0
  /-- the completion ring lies in host memory; mailbox 16's lies on chip — 03 R83, R101 — reset 0, set when the mailbox starts -/
  hostRing : Bool := false
  /-- posted writes to host memory in the order they were made, each an address and its bytes, until a DMA channel looks at host memory (03 R82 to R84) — reset empty -/
  posted : List (Nat × Bytes) := []
  /-- entries written and not consumed, oldest first — 03 R83, R84 — reset empty -/
  ring : List Entry := []
  /-- entries that wait for a free position, oldest first — 03 R84, R85 — reset empty -/
  waiting : List Queued := []
  /-- commands in flight, in fetch order — 03 R92 — reset empty -/
  inflight : List Cmd := []
  /-- events dropped since the last EVENTS_LOST — 03 R85 — reset 0 -/
  lostCount : U32 := 0
  /-- code of the first dropped event — 03 R103 — reset 0 -/
  lostFirst : U16 := 0
  /-- code of the last dropped event — 03 R103 — reset 0 -/
  lostLast : U16 := 0
  /-- dropped FAULT events — 03 R103 — reset 0 -/
  lostFaults : U32 := 0
  /-- selection of each family, 32 bits per family — 03 R103 — reset none selected -/
  subs : Table U32 := []
  /-- seam-done events of an ended session, held for the next one — 03 R100 — reset empty -/
  held : List Entry := []
  /-- FETCHED 32 — 03 R103 — reset 0 -/
  cFetched : U32 := 0
  /-- COMPLETED 32 — 03 R103 — reset 0 -/
  cCompleted : U32 := 0
  /-- EVENTS 32 — 03 R103 — reset 0 -/
  cEvents : U32 := 0
  /-- LOST 32 — 03 R103 — reset 0 -/
  cLost : U32 := 0
  /-- TOKEN_WAITS 32 — 03 R103 — reset 0 -/
  cTokenWaits : U32 := 0
  /-- BAD_PEC 32 — 03 R103 — reset 0 -/
  cBadPec : U32 := 0
  /-- chip-time ticks of the last interrupt sent — 03 R86 — reset none -/
  lastIrq : Option Nat := none
  /-- an interrupt is held by HOLDOFF_US — 03 R86 — reset 0 -/
  irqHeld : Bool := false
  /-- interrupts sent on vector 0 — 03 R86 — reset 0 -/
  irqSent : Nat := 0
  /-- MSI-X table, 128 bits per entry — 03 R76 — reset 0 with vector control masked (PRESUMED, PCI Express, log 4) -/
  msix : Table U128 := []
  /-- MSI-X pending bits — 03 R76 — reset 0 -/
  msixPba : U64 := 0
  /-- MSI-X Enable of the function's capability — 03 R76, R86 — reset 0 (PRESUMED, PCI Express, log 4) -/
  msixEnable : Bool := false
  /-- Function Mask of the function's capability — 03 R76, R86 — reset 0 (PRESUMED, PCI Express, log 4) -/
  msixMask : Bool := false
  /-- a sys.hello has been answered since boot — 03 R103 — reset 0 -/
  helloSeen : Bool := false
  /-- bytes of the last reply written to the reply buffer — 03 R82, R102 — reset empty (DESIGN CHOICE, log 4) -/
  replyBuf : Bytes := []
  /-- mix.meter: meters selected — 05 R150 — reset none -/
  meters : List MeterSet := []
  /-- mix.meter: period in ms — 05 R150 — reset 100 -/
  meterPeriodMs : Nat := 100
  /-- mix.meter: peak hold in ms — 05 R150 — reset 1500 -/
  meterHoldMs : Nat := 1500
  /-- mix.meter: decay in dB/s — 05 R150 — reset 20 -/
  meterDecay : Nat := 20
  /-- end of the running meter period, in chip-time ticks — 05 R150 — reset none -/
  meterDue : Option Nat := none
  /-- held peak of each selected meter and the chip-time ticks it was set — 05 R150 — reset none -/
  meterPeaks : Table (Int × Nat) := []
  deriving DecidableEq, Repr

/-- The parts of mailbox 16 on SMBus (03 R101, R102). -/
structure Smbus where
  /-- the slot being assembled, 256 bytes — 03 R101 — reset 0 (DESIGN CHOICE, log 4) -/
  slot : Bytes := List.replicate 256 0
  /-- queued slots, oldest first, at most 256 — 03 R101 — reset empty -/
  queue : List Bytes := []
  /-- QUEUE_FULL — 03 R101 — reset 0 -/
  queueFull : Bool := false
  /-- request staging buffer, 4,096 bytes — 03 R101 — reset 0 (DESIGN CHOICE, log 4) -/
  staging : Bytes := List.replicate 4096 0
  /-- reply buffer, 4,096 bytes — 03 R101 — reset 0 (DESIGN CHOICE, log 4) -/
  reply : Bytes := List.replicate 4096 0
  /-- bytes of the last answered transaction — 03 R101 — reset empty -/
  answer : Bytes := []
  /-- the last transaction was acknowledged — 03 R101 — reset 0 -/
  acked : Bool := false
  deriving DecidableEq, Repr

/-- What the mailboxes share (03 R92, R99; 15 R406). -/
structure Pledom where
  /-- next mailbox of the fetch rotation — 03 R92 — reset 0 (DESIGN CHOICE, log 4) -/
  rot : Nat := 0
  /-- number the next fetched command takes — 03 R93 — reset 0 -/
  nextSeq : Nat := 0
  /-- mailboxes 0 to 16 — 03 R75 — reset each at its own reset values -/
  boxes : Vector Mailbox 17 := Vector.replicate 17 {}
  /-- SMBus side of mailbox 16 — 03 R101 — reset empty -/
  smb : Smbus := {}
  /-- Bus Master Enable of each PCIe function — 15 R406 — reset 0 -/
  busMaster : Vector Bool 16 := Vector.replicate 16 false
  /-- VF Enable of the physical function — 03 R99 — reset 0 -/
  vfEnable : Bool := false
  /-- events raised by the command being run, offered before it ends — 03 R94 — reset empty -/
  raised : List Raised := []
  /-- admissions and mailboxes are down for the flush — 02 R61 — reset 0 -/
  down : Bool := false
  deriving DecidableEq, Repr

/-! ### Seams (02) -/

/-- The state items a command changes, the unit that seams hold (02 R48, R49). -/
inductive Item where
  | conf (c : Nat) | confSpeakers (c : Nat)
  | leg (l : Nat) | legHold (l : Nat)
  | mix (x : Nat) | listen (l : Nat) | route (l x : Nat) | gainIn (l : Nat) | gainMaster (x : Nat) | gainRoute (l x : Nat)
  | chain (l : Nat) | jitter (l : Nat) | mixEncode (x : Nat) | threshold (c : Nat)
  | layout (y : Nat) | tile (y t : Nat) | region (y r : Nat) | feed (f : Nat)
  | fwdEntry (e : Nat) | fwdSource (src : Nat) | fwdLine (l : Nat)
  | netPort (p : Nat) | iface (i : Nat) | addr (i : Nat) (a : U128) | group (p : Nat) (a : BitVec 48) | netRoute (i : Nat) (p : U128) (len : Nat)
  | timeBase (b : Nat) | pps | ptp (i : Nat)
  | schedPort (p level : Nat) | legQueue (l : Nat) | gate (p : Nat)
  | cipherClass (c : Nat)
  | accessPort (p : Nat) | gem (p g : Nat) | tcont (p t i : Nat) | tree (p o : Nat)
  | twin | claim (g : Nat)
  | record (r : Nat) | keepCfg | kernel (k : Nat) | trace | memCfg | window (w : Nat) | supply | thermal | power
  | block (b : Nat)
  deriving DecidableEq, Repr

/-- A basted entry: one state item of one cell (02 R48). -/
structure SeamEntry where
  cell : U16
  item : Item
  deriving DecidableEq, Repr

/-- A basted command, kept until its cell applies it (02 R47). -/
structure SeamCmd where
  cell : U16
  mbx : Mbx
  version : U8
  instr : Instr
  /-- number given at basting: an index, a list identifier -/
  tag : Nat := 0
  /-- the items it basted: a later basting of the same ones by the same command replaces it (02 R49) -/
  items : List Item := []
  opcode : Nat := 0
  deriving DecidableEq, Repr

/-- STATE of seam.query (02). -/
inductive SeamState where
  | open | confirming | committed | applied | unpicked
  deriving DecidableEq, Repr

/-- One participant cell of a seam (02 R55). -/
structure SeamPart where
  cell : U16
  confirmed : Bool := false
  /-- it refused on a unit that does not decide: the status it named (02 R62, R63) -/
  refused : Option U8 := none
  applied : Bool := false
  deriving DecidableEq, Repr

/-- What a seam is for: the host's own, a pattern change or a power change opened by Pier (02 R44, R69; 17 R435). -/
inductive SeamFor where
  | host (m : Mbx) | pattern | power
  deriving DecidableEq, Repr

/-- One seam (02 R43 to R63). -/
structure Seam where
  id : U16
  owner : SeamFor
  /-- conference index, or none for chip-wide -/
  scope : Option Nat
  state : SeamState := .open
  reason : U8 := 0
  island : U16 := 0xFFFF
  pstatus : U8 := 0
  /-- chip-time ticks at which the open timeout expires (R52) -/
  openUntil : Nat
  /-- commit time: samples, or chip-time seconds (R53) -/
  t : U64 := 0
  tNs : U32 := 0
  /-- counterpart of T as chip time in ns, for a conference seam (R54) -/
  tChipNs : Nat := 0
  /-- counterpart of T in each touched conference's samples, for a chip-wide seam (R54) -/
  tMedia : Table Nat := []
  entries : List SeamEntry := []
  cmds : List SeamCmd := []
  parts : List SeamPart := []
  /-- number of the PENDING seam.close (its result event is the seam-done event) -/
  closer : Option Nat := none
  /-- decided seams only: order of finishing, for the last 256 of a mailbox -/
  finishedAt : Nat := 0
  deriving DecidableEq, Repr

/-- All seams (02). -/
structure Seams where
  /-- identifier the next seam takes, before skipping — 02 R44 — reset 0x0000 -/
  nextId : U16 := 0
  /-- seams in progress, and finished ones still answered by seam.query — 02 R43 to R63 — reset empty -/
  list : List Seam := []
  /-- seams finished so far, which orders the last 256 of a mailbox — 02 seam.query — reset 0 -/
  finishCount : Nat := 0
  /-- unpick acknowledgements outstanding: cell and the chip-time ticks of its limit — 02 R57 — reset empty -/
  unacked : List (U16 × Nat) := []
  deriving DecidableEq, Repr

/-! ### Cells, blocks, regions and spools (01) -/

/-- A cell's fault in handling (01 R20). -/
structure CellFault where
  cause : U8
  detail : U32
  /-- chip-time ticks at which the fault reached the level -/
  since : Nat
  deriving DecidableEq, Repr

/-- One cell; a cell not listed is healthy and has never faulted (01 R20 to R30). -/
structure Cell where
  fenced : Bool := false
  retired : Bool := false
  /-- chip-time seconds of the fences of the last 24 hours -/
  fences : List Nat := []
  corrected : U32 := 0
  /-- chip-time seconds of the last record of a corrected fault -/
  lastRecord : Option Nat := none
  fault : Option CellFault := none
  deriving DecidableEq, Repr

/-- Where a block stands (01 R20, R22 to R24). -/
inductive BlockPhase where
  | inService | draining | selfTest | retired
  deriving DecidableEq, Repr

/-- One block; a block not listed is in service (01 R20). -/
structure Block where
  phase : BlockPhase := .inService
  cause : U8 := 0
  detail : U32 := 0
  since : Nat := 0
  /-- chip-time ticks at which a cell fault last reached the block, with its detail: fencing has a bound of 1 ms (R20, Table 1-6) -/
  fenceAt : Option (Nat × U32) := none
  /-- first seam that the block's reset unpicked, and their number, for the reset's record (Table 1-7) -/
  seamId : U16 := 0xFFFF
  seamCount : Nat := 0
  deriving DecidableEq, Repr

/-- A region under chip-level recovery (01 R20, Table 1-6). -/
structure RegionFault where
  cause : U8
  since : Nat
  deriving DecidableEq, Repr

/-- One die-crossing span's error handling (01 R15): replays and the chip-time ticks of the first. -/
structure Span where
  replays : Nat := 0
  firstReplay : Nat := 0
  deriving DecidableEq, Repr

/-- One 64-bit slot of a spool with its tag (01 R32). -/
structure Slot where
  tag : BitVec 2
  word : U64
  deriving DecidableEq, Repr

/-- One spool (01 R31 to R41). -/
structure Spool where
  /-- it carries frames; else data words -/
  frames : Bool := true
  class0 : Bool := false
  /-- slots of the array, the reserved snag slot included -/
  depth : Nat := 2307
  producer : U16 := 0
  consumer : U16 := 0
  /-- slots held, oldest first -/
  slots : List Slot := []
  /-- FRAME_SEQ of the next frame started -/
  frameSeq : U16 := 0
  /-- chip-time ticks at which an open frame's length slot was reserved -/
  openSince : Option Nat := none
  /-- the frame being written has been withdrawn: its remaining words are discarded -/
  discarding : Bool := false
  /-- the reading cell is stalled -/
  stalled : Bool := false
  /-- last item the consumer took -/
  taken : Option Slot := none
  /-- items counted at snag markers -/
  snagged : Nat := 0
  /-- OBJECT of the last frame the consumer opened (R34, R40) -/
  object : Nat := 0
  /-- words of that frame not yet taken: the frame is one item (R17, R34) -/
  wordsLeft : Nat := 0
  deriving DecidableEq, Repr

/-- What a request does when its bank issues it: a read by the user of a tile with what the read meets, or a write of a table tile (15 R383, R389 to R391). -/
inductive DramOp where
  | read (ecc : EccResult) (crcOk : Bool) (user : TileUse)
  | tableWrite (whole crcOk : Bool) (crc : U32)
  deriving DecidableEq, Repr

/-- A class 1 request to DRAM (01 R13, R42; 15 R384). -/
structure DramReq where
  /-- order of issue -/
  seq : Nat
  /-- initiator cell -/
  cell : U16
  addr : Nat
  /-- channel of the address (15 R380) -/
  chan : Nat
  /-- bytes it moves -/
  bytes : Nat
  bank : Nat
  row : Nat
  op : DramOp
  deriving DecidableEq, Repr

/-- What shares the Viaduct and DRAM (01 R13 to R19, R42, Tables 1-2, 1-4, 1-5). -/
structure Viaduct where
  /-- requests that wait at their cells for credit or a turn, in order of issue — 01 R14, R42 — reset none -/
  waiting : List DramReq := []
  /-- number the next request takes — 01 R14 — reset 0 -/
  nextSeq : Nat := 0
  /-- last spool each consumer cell served (01 R17, R31) — reset none -/
  inputTurn : Table Nat := []
  /-- last cell each block served (01 R17) — reset none -/
  blockTurn : Table Nat := []
  /-- region weight of each block, as Pier set it at the last refill (01 R18) — reset none -/
  weights : Table Nat := []
  /-- credit balance of each block (01 R17) — reset none -/
  balance : Table Int := []
  /-- chip-time ticks of the last refill (01 R17) — reset 0 -/
  refillAt : Nat := 0
  /-- bytes of DRAM that each region was served since the last refill (01 R17, R19) — reset none -/
  served : Table Nat := []
  deriving DecidableEq, Repr

/-- The fabric (01). -/
structure Fabric where
  /-- cells by island identifier — 01 R20 to R22 — reset all healthy -/
  cells : Table Cell := []
  /-- blocks by island identifier with CELL = 0x3F — 01 R20 — reset all in service -/
  blocks : Table Block := []
  /-- regions being reset, by region code — 01 R20 — reset none -/
  regions : Table RegionFault := []
  /-- spans in error handling — 01 R15 — reset none -/
  spans : Table Span := []
  /-- spools by number — 01 R31 — reset every spool empty -/
  spools : Table Spool := []
  /-- cells fenced and blocks reset, in order: what they did to the spools not yet listed (01 R21, R39) — reset none -/
  lost : List U16 := []
  /-- the Viaduct and its arbiters — 01 R13 to R19 — reset idle -/
  via : Viaduct := {}
  deriving DecidableEq, Repr

/-! ### Conferences and legs (04) -/

/-- One conference (04 R104 to R107; 05 R134, R137). -/
structure Conf where
  speakers : Nat
  standing : Bool
  /-- LEG_LIMIT; 0: none -/
  legLimit : Nat
  startMedia : Nat
  /-- origin t0 in TB3 nanoseconds; none until the first stitch tick at or after the creation (R106) -/
  origin : Option Nat := none
  /-- TB3 nanoseconds at or after which the origin falls -/
  notBefore : Nat := 0
  /-- speaker threshold in dBov (05 R134) -/
  threshold : Int := -50
  /-- speaker margin in dB (05 R134) -/
  margin : Nat := 6
  /-- seam that creates the conference, while it has not applied (02 R50) -/
  basted : Option U16 := none
  /-- SPEAKERS that an open or closed seam holds (R118) -/
  pendSpeakers : Option Nat := none
  deriving DecidableEq, Repr

/-- Leg states, Table 4-4 (04 R113). FREE legs are not listed. -/
inductive LegState where
  | basted | connecting | active | held | closing
  deriving DecidableEq, Repr

/-- One leg (04 R108 to R115). -/
structure Leg where
  state : LegState
  conf : Nat
  offer : LegOffer
  /-- issuing mailbox may admit emergency legs (R121) -/
  emergency : Bool
  /-- roster record; none: anonymous -/
  record : Option Nat
  unwritten : Bool := false
  cause : U8 := 0xFF
  holdRecorded : Bool := false
  connected : Bool := false
  keyed : Bool := false
  /-- elapsed ticks at which CONNECT_TIMEOUT_S expires -/
  connectUntil : Nat := 0
  /-- elapsed ticks at which CONSENT_S expires (ICE = 1) -/
  consentUntil : Option Nat := none
  /-- elapsed ticks at which the drain of CLOSING ends at the latest -/
  drainUntil : Nat := 0
  /-- local and remote address and port that leg.update named and no STUN check from the new remote address has confirmed: AF, local, remote -/
  newAddr : Option (U8 × (U128 × U16) × (U128 × U16)) := none
  /-- entitlements and key policy reference the leg was admitted with (R111, 13 keep.record) -/
  deny : U32 := 0
  keyPolicy : Nat := 0
  /-- offer that an open or closed seam holds (R118) -/
  pendOffer : Option LegOffer := none
  /-- seam that opens the leg, while it has not applied (02 R50) -/
  basted : Option U16 := none
  /-- sound tenths that the leg and its commands have been charged (R118, R121) -/
  charged : Int := 0
  /-- chip-time seconds at which the leg was admitted -/
  openedS : Nat := 0
  /-- chip-time seconds at which the leg last became ACTIVE -/
  activeFrom : Option Nat := none
  /-- seconds spent ACTIVE so far -/
  activeS : Nat := 0
  /-- media packets discarded and counted while CONNECTING -/
  discarded : U32 := 0
  deriving DecidableEq, Repr

/-- The legs that a removed conference left CLOSING, each with its kernel's tenths, and the SPEAKERS it had: what their charges are reckoned from (04 R113, R118). -/
structure Ghosts where
  speakers : Nat
  legs : List (Nat × Nat)
  deriving DecidableEq, Repr

/-- Objects of the conference model (04). -/
structure Model where
  /-- conferences by index — 04 R104 — reset none -/
  confs : Table Conf := []
  /-- legs by index — 04 R104 — reset none (all FREE) -/
  legs : Table Leg := []
  /-- freed conference indices and the chip time in ns they were freed at — 04 R105 — reset empty -/
  confHold : Table Nat := []
  /-- freed leg indices and the chip time in ns they were freed at — 04 R105 — reset empty -/
  legHold : Table Nat := []
  /-- closing legs of removed conferences, which hold their charges until they are FREE — 04 R113, 02 R486 — reset empty -/
  ghosts : List Ghosts := []
  /-- admissions stopped by a power change or supply step — 17 R439, R446 — reset 0 -/
  stopped : Bool := false
  deriving DecidableEq, Repr

/-! ### The sound path (05) -/

/-- Jitter buffer states, Table 5-2 (05 R127). -/
inductive JbState where
  | idle | priming | playing | silent | concealing | starved
  deriving DecidableEq, Repr

/-- A packet a jitter buffer holds (05 R125, R128). -/
structure JbPkt where
  seq : U16
  ts : U32
  play : Int
  samples : Nat
  level : Option (BitVec 7)
  fec : Bool
  payload : Bytes
  deriving DecidableEq, Repr

/-- One leg's jitter buffer (05 R125 to R128). -/
structure Jitter where
  state : JbState := .idle
  ssrc : U32 := 0
  /-- anchor (ts0, m0) (R125) -/
  ts0 : U32 := 0
  m0 : Int := 0
  /-- target delay in ms (R126) -/
  targetMs : Nat := 20
  minMs : Nat := 20
  maxMs : Nat := 400
  fixed : Bool := false
  held : List JbPkt := []
  lastSeq : Option U16 := none
  /-- media time up to which output has been produced, the play time at which the next frame is due -/
  nextPlay : Int := 0
  /-- samples produced and not yet played, at 48 kHz; the last one lies before `nextPlay` -/
  pcm : List Int := []
  /-- the decoder's state, as the codec's own bytes; none: no decoder runs (R129) -/
  dec : Option Bytes := none
  /-- last samples of the decoded signal that the converter still needs (R131) -/
  conv : List Int := []
  /-- the frame that was last due (R129) -/
  before : Option JbPkt := none
  /-- samples of the last packet, the length of a missing frame -/
  frame : Nat := 960
  /-- sequence number of the last frame played or missed -/
  played : Option U16 := none
  /-- play time, samples and level of packets not yet passed by a selection window (R133) -/
  levels : List (Int × Nat × Option (BitVec 7)) := []
  /-- arrival media time, d and sequence number of the packets of the last 2 s (R126, R128) -/
  stats : List (Nat × Int × U16) := []
  /-- sequence numbers of packets discarded for their payload type (R124) -/
  skipped : List U16 := []
  /-- media time at which the concealment that is still running began (R127) -/
  concealFrom : Option Int := none
  /-- media time since which the target lies 5 ms below the depth -/
  highSince : Option Nat := none
  lost : U32 := 0
  late : U32 := 0
  duplicate : U32 := 0
  concealedMs : U32 := 0
  unknownPt : U32 := 0
  deriving DecidableEq, Repr

/-- Speaker selection states, Table 5-4 (05 R134). -/
inductive SelState where
  | quiet | contending | speaking | releasing
  deriving DecidableEq, Repr

/-- A gain point: its gain in eighths of a dB and its mute switch, at the first sample that has yet to be delivered, and its target (05 R144, R145). -/
structure Gain where
  applied : Int := 0
  target : Int := 0
  mute : Bool := false
  muteTarget : Bool := false
  timeoutMs : Nat := 20
  /-- steps that apply at samples yet to be delivered: first sample, gain and mute switch -/
  steps : List (Nat × Int × Bool) := []
  /-- media sample at which the step now due fell due; none: no step pending -/
  due : Option Nat := none
  /-- changes waiting for their boundary: sample, target, mute and timeout (R485) -/
  next : List (Nat × Int × Bool × Nat) := []
  deriving DecidableEq, Repr

/-- A crossfade running on a leg's listen route: its first sample, the mix faded from and the mix faded to (05 R147, R148). -/
structure Fade where
  start : Nat
  old : Nat
  new : Nat
  deriving DecidableEq, Repr

/-- The noise gate of a chain: its envelope, the samples it is still held open, and its attenuation as a part of the full one (05 R143). -/
structure Gate where
  env : Nat := 0
  hold : Nat := 0
  att : Nat := 1
  full : Nat := 1
  deriving DecidableEq, Repr

/-- The AGC of a chain: the window it measures, and its gain at the window's ends in millionths of an eighth of a dB (05 R143). -/
structure Agc where
  sumSq : Nat := 0
  count : Nat := 0
  gain0 : Int := 0
  gain1 : Int := 0
  deriving DecidableEq, Repr

/-- A meter: the window it is in, and the windows behind it, newest first, by their last sample's successor: sum of squares and largest magnitude (05 R149). -/
structure Meter where
  sumSq : Nat := 0
  maxAbs : Nat := 0
  wins : List (Nat × Nat × Nat) := []
  deriving DecidableEq, Repr

/-- An audio encode: the encoder's state as the codec's own bytes, the samples its converter still needs, and the samples of the frame in progress (05 R131, R139). -/
structure Enc where
  state : Bytes := []
  conv : List Int := []
  frame : List Int := []
  deriving DecidableEq, Repr

/-- The sound state of one leg (05). -/
structure LegSound where
  jb : Jitter := {}
  /-- mix the leg listens to (R146) -/
  listen : Nat
  listenFades : List Fade := []
  /-- listen change waiting for its boundary (R148, R485) -/
  listenNext : Option Nat := none
  gainIn : Gain := {}
  chain : ChainReq
  /-- parameter sets waiting for their boundary, by its sample (R143, R485) -/
  chainNext : List (Nat × ChainReq) := []
  /-- kernel that an open or closed seam holds for the leg (04 R118) -/
  pendKernel : Option U16 := none
  gate : Gate := {}
  agc : Agc := {}
  meter : Meter := {}
  /-- the kernel slot is bypassed after a kernel fault (14 R377) -/
  kernelBypass : Bool := false
  /-- the leg's kernel state, as the kernel last left it; not listed bytes are 0 (14 R374) -/
  kState : List (BitVec 8) := []
  /-- cycles of the running tick's kernel call, and its fault: cause and code offset (14 R377) -/
  kUsed : Nat := 0
  kFault : Option (U8 × U16) := none
  sel : SelState := .quiet
  attack : Nat := 0
  release : Nat := 0
  /-- last level L in dBov -/
  level : Int := -127
  /-- the last 30 window levels, newest first (R136) -/
  levels : List Int := []
  decoded : Bool := false
  /-- media time until which the leg keeps a mix-minus encode beyond its speaking (R139) -/
  minusUntil : Option Nat := none
  /-- the leg has switched to a mix-minus encode, at this sample (R139) -/
  minus : Bool := false
  minusFrom : Nat := 0
  /-- the running tick is missing: its samples are replaced (R130) -/
  missed : Bool := false
  /-- the last delivered tick was missing: the signal fades back in at the next good one (R130) -/
  resume : Bool := false
  /-- the leg's audio encode missed the running tick, and the last one: what it encodes is replaced (R130) -/
  encLate : Bool := false
  encResume : Bool := false
  /-- last input sample of the leg's gain (R145) -/
  preLast : Int := 0
  /-- the last delivered tick: its number in TB3's count of stitch ticks, and its samples -/
  outTick : Option Nat := none
  out : List Int := []
  /-- last sample that the leg heard (R130) -/
  heardLast : Int := 0
  /-- the leg's own encode, of its mix-minus or of a listen crossfade, and the sample at which the leg leaves it for the shared one (R139, R147) -/
  own : Option Enc := none
  ownUntil : Option Nat := none
  /-- x1, x2, y1, y2 of each equaliser band (R143) -/
  eq : Vector (Int × Int × Int × Int) 5 := Vector.replicate 5 (0, 0, 0, 0)
  /-- SSRC, next sequence number and timestamp base of the audio sent to the leg (12 R315) -/
  ssrc : U32 := 0
  txSeq : U16 := 0
  tsBase : U32 := 0
  deriving DecidableEq, Repr

/-- An input of a mix: its route gain, whether it was there before the crossfades that run, and those crossfades: first sample, and whether the input is there after it (05 R140, R147, R148). -/
structure MixInput where
  gain : Gain := {}
  was : Bool := true
  fades : List (Nat × Bool) := []
  deriving DecidableEq, Repr

/-- One mix (05 R138 to R142, R152). -/
structure Mix where
  conf : Nat
  master : Gain := {}
  /-- inputs of a further mix, by leg (R140) -/
  inputs : Table MixInput := []
  kbps : Nat := 32
  frameMs : Nat := 20
  fec : Bool := false
  dtx : Bool := false
  /-- encoder settings waiting for their multiple of 960: its sample, then the settings (R142) -/
  encNext : Option (Nat × Nat × Nat × Bool × Bool) := none
  /-- seam that creates the mix, while it has not applied (02 R50) -/
  basted : Option U16 := none
  /-- the last delivered tick: its number in TB3's count, and its samples on the shared output (R141) -/
  outTick : Option Nat := none
  out : List (BitVec 32) := []
  /-- last sum of the contributions, the input of the master gain (R145) -/
  sumLast : Int := 0
  meter : Meter := {}
  /-- conferences whose notice tone is injected here beside the mix's own (R152) -/
  tones : List Nat := []
  /-- the running tick is missing, and the last one was (R130) -/
  missed : Bool := false
  resume : Bool := false
  deriving DecidableEq, Repr

/-- A decided change of the speaker set waiting for P (05 R137). -/
structure SpeakerChg where
  conf : Nat
  incoming : Option Nat
  outgoing : Option Nat
  p : Nat
  deriving DecidableEq, Repr

/-- The sound path (05). -/
structure Sound where
  /-- sound state of every leg — 05 — reset none -/
  legs : Table LegSound := []
  /-- mixes by index — 05 R138, R140 — reset none -/
  mixes : Table Mix := []
  /-- changes of speaker sets waiting for P, in order of decision — 05 R137 — reset empty -/
  changes : List SpeakerChg := []
  /-- deleted mixes from which listeners still fade: by a number of their own, with the sample of their deletion — 05 R147 — reset none -/
  gone : Table (Mix × Nat) := []
  /-- shared encodes of the mixes, by mix and profile — 05 R138, R139 — reset none -/
  shared : List ((Nat × Nat × Nat × Nat) × Enc) := []
  /-- last evaluated window of each conference — 05 R133 — reset none -/
  windows : Table Nat := []
  /-- last stitch tick of each conference — 14 R358 — reset none -/
  ticks : Table Nat := []
  deriving DecidableEq, Repr

/-! ### Picture coding and composition (06, 07) -/

/-- Decode context states, Table 6-5 (06 R170). -/
inductive DecState where
  | idle | clean | damaged | stalled
  deriving DecidableEq, Repr

/-- Kinds of syntax records (06 Table 6-4). -/
inductive RecKind where
  | pictureStart | segmentStart | block | segmentEnd | pictureEnd | conceal | snag
  deriving DecidableEq, Repr

/-- A syntax record: the fields of its header, and its body; the areas and the work of a BLOCK record are held beside the bytes that state them (06 R160, R163). -/
structure SynRec where
  kind : RecKind
  intra : Bool := false
  key : Bool := false
  refMissing : Bool := false
  nonRef : Bool := false
  x : U16 := 0
  y : U16 := 0
  picnum : U32
  temporal : Nat
  spatial : Nat
  segment : U8 := 0
  work : Nat := 0
  body : Bytes := []
  areas : List BlockArea := []
  deriving DecidableEq, Repr

/-- A media tile of a syntax buffer: its records, the bytes they take, and the CRC it is sealed with (06 R159). -/
structure SynTile where
  recs : List SynRec := []
  used : Nat := 0
  crc : Option U32 := none
  deriving DecidableEq, Repr

/-- An access unit being assembled: its packets' sequence numbers in order, whether the marker bit or its end has come, whether a snag touches it, whether the rest of it is discarded, whether it was dropped before decoding, and the arrival of its last packet (06 R158, R161, R167, R168). -/
structure AccessUnit where
  ts : U32
  marked : Bool := false
  capture : Int
  seqs : List U16
  closed : Bool := false
  snagged : Bool := false
  spent : Bool := false
  dropped : Bool := false
  arrived : Nat
  deriving DecidableEq, Repr

/-- A picture in a syntax buffer: its header, its times, the depth of its stream, whether it is concealed in full, whether a reference is missing, its tiles, its end, and the BLOCK records that read poison (06 R159, R161, R164, R166). -/
structure BufPic where
  hdr : PicHdr
  capture : Int
  arrived : Nat
  depth : Nat
  full : Bool := false
  missing : Bool := false
  tiles : List SynTile := []
  ended : Bool := false
  poisoned : List Nat := []
  deriving DecidableEq, Repr

/-- A picture of a decoded picture buffer: its name, its spatial layer, its samples, and whether nothing in it comes from concealed content (06 R166, R170). -/
structure RefPic where
  name : Nat
  spatial : Nat
  pixels : Frame
  clean : Bool
  deriving DecidableEq, Repr

/-- An output picture: capture time, arrival of its last packet, samples and mark (06 R158, R165; 07 R186). -/
structure OutPic where
  capture : Int
  arrived : Nat
  pixels : Frame
  concealed : Bool
  deriving DecidableEq, Repr

/-- One decode context (06 R158 to R170, 07 R189). -/
structure DecCtx where
  source : Nat
  state : DecState := .idle
  /-- picture count (R170) -/
  picnum : Nat := 0
  /-- anchor (ts0, m0) of the capture mapping (R158) -/
  anchor : Option (U32 × Int) := none
  ssrc : U32 := 0
  lastSeq : Option U16 := none
  /-- access units held, oldest first (R158) -/
  units : List AccessUnit := []
  /-- last sequence number of the access unit that was finished last, and whether the marker bit ended it (R167) -/
  done : Option (U16 × Bool) := none
  /-- a snag marker's gap reaches into the next access unit (R167) -/
  snagNext : Bool := false
  /-- the active sequence header; none: pictures are concealed in full (*Illegal syntax*) -/
  seq : Option SeqHdr := none
  /-- names of the pictures that the entropy cell knows in the decoded picture buffer (R166) -/
  named : List Nat := []
  /-- decoded picture buffer (R166) -/
  dpb : List RefPic := []
  /-- the most recent decoded picture of each spatial layer (R166) -/
  recent : Table Frame := []
  /-- output pictures a layout may still choose, oldest first (07 R186) -/
  outs : List OutPic := []
  /-- capture time of the newest output picture -/
  lastCapture : Int := 0
  /-- charge in kpixel/s and lanes it runs on (R119, R120, R171) -/
  kpxs : Nat
  lanes : List (Nat × Nat)
  /-- rows of the top lane in the last picture, and whether both lanes ran on it in parallel (R171) -/
  split : Option (Nat × Bool) := none
  /-- DECODE_KPXS of every placement: layout, tile and charge (07 R189) -/
  places : List (Nat × Nat × Nat) := []
  stallMs : Nat := 2000
  /-- media time of the last picture's arrival -/
  lastArrival : Nat := 0
  /-- syntax buffer: the records of at most two pictures (R159) -/
  buffer : List BufPic := []
  /-- the entropy cell waits to start a third picture (R159) -/
  entropyStall : Bool := false
  /-- rate bucket in 48ths of a luma sample and the media time it was computed at (R168) -/
  bucket : Nat
  bucketAt : Nat := 0
  /-- pictures whose record from the primary has arrived (R182) -/
  decided : Nat := 0
  cPictures : U32 := 0
  cConcealed : U32 := 0
  cIllegal : U32 := 0
  cRefMissing : U32 := 0
  cBinCut : U32 := 0
  cWorkCut : U32 := 0
  cOverflow : U32 := 0
  cPoisoned : U32 := 0
  cRateDrop : U32 := 0
  cFir : U32 := 0
  cPli : U32 := 0
  deriving DecidableEq, Repr

/-- Rate control of one spatial layer (06 R177 to R180). -/
structure LayerRate where
  debt : Nat := 0
  allow : Nat := 0
  qp : Nat := 26
  /-- est[i]: size of row i at its last normal coding -/
  est : Table Nat := []
  /-- media time of the previous picture of the layer -/
  last : Option Nat := none
  /-- rows that fell back in the last picture -/
  fell : List Nat := []
  /-- QP of the last row (R179) -/
  rowQp : Nat := 26
  /-- coded size of the last picture -/
  size : Nat := 0
  deriving DecidableEq, Repr

/-- One encode context (06 R172 to R184). -/
structure EncCtx where
  feed : Nat
  gated : Bool := false
  picnum : Nat := 0
  kpxs : Nat
  lanes : List (Nat × Nat)
  /-- capture time of the first picture (R173) -/
  first : Nat
  layers : Vector LayerRate 3 := Vector.replicate 3 {}
  /-- pictures waiting (R182) -/
  waiting : Nat := 0
  /-- the samples that each spatial layer of the last picture was coded from (07 R197, R198, R204) -/
  input : List Frame := []
  /-- temporal layer of the last picture, the picture count it references, and its RTP timestamp (R172, R173) -/
  temporal : Nat := 0
  ref : Option Nat := none
  rtpTs : U32 := 0
  /-- media times from which a requested key picture is due, and whether a receiver asked (R174 to R176) -/
  keyAt : List (Nat × Bool) := []
  /-- capture time of the last key picture given to a receiver request (R176) -/
  lastKey : Option Nat := none
  /-- pictures whose record from the primary has arrived, and those that it decided as repeats (R182) -/
  decided : Nat := 0
  repeats : List Nat := []
  cPictures : U32 := 0
  cKeys : U32 := 0
  cFallbackPictures : U32 := 0
  cFallbackRows : U32 := 0
  cRepeats : U32 := 0
  cBits : U32 := 0
  /-- bits not yet counted in BITS (R184 counts units of 1,024) -/
  bitRest : Nat := 0
  deriving DecidableEq, Repr

/-- A safety region of a layout (07 R199). -/
structure Region where
  overlay : Nat
  x : Nat
  y : Nat
  byKeystone : Bool := false
  deriving DecidableEq, Repr

/-- A change waiting for a slot of its layout (07 R187). -/
inductive LayoutChange where
  | tile (req : TileReq)
  | region (r : Nat) (region : Option Region)
  | feed (f : Nat) (req : FeedReq)
  | delete
  deriving DecidableEq, Repr

/-- What a tile shows inside its border: nothing, its fill colour, or samples scaled to the inner rectangle (07 R190, R194, R196). -/
inductive Content where
  | off | fill | pixels (f : Frame)
  deriving DecidableEq, Repr

/-- A slot drawn: its samples, its safety regions as rectangles, and whether the notice card takes its place (07 R185, R198, R201). -/
structure SlotPic where
  slot : Nat
  pixels : Frame
  rects : List (Nat × Nat × Nat × Nat)
  card : Bool := false
  deriving DecidableEq, Repr

/-- One layout (07 R185 to R204). -/
structure Layout where
  conf : Nat
  width : Nat
  height : Nat
  rate : Nat
  standing : Bool
  hold : Nat
  bg : BitVec 10 × BitVec 10 × BitVec 10
  /-- first slot (R185) -/
  firstSlot : Nat
  /-- compose cells and charge (R119, R120) -/
  cells : List (Nat × Nat)
  kpxs : Nat
  tiles : Table TileReq := []
  regions : Table Region := []
  /-- changes and the media time from which a slot takes them (R187) -/
  changes : List (Nat × LayoutChange) := []
  /-- the notice card is substituted (R201) -/
  card : Bool := false
  /-- a mandatory overlay does not fit: the card is shown while its trigger holds (16 R424) -/
  noFit : Bool := false
  /-- slots matched in a row since the last mismatch, in samples (R201) -/
  matched : Nat := 0
  /-- the card frame store failed: every feed is gated (R202) -/
  cardGate : Bool := false
  lastSlot : Nat := 0
  /-- the slots drawn, newest first, as far as a feed may still code one -/
  picts : List SlotPic := []
  /-- the source picture that each tile showed last, with its mark, and what each tile showed in the last slot (R186, R190) -/
  shown : Table (Frame × Bool) := []
  contents : Table Content := []
  /-- tiles whose input had a snag marker (R190) -/
  snags : List Nat := []
  /-- regions whose overlay tile is poisoned (R202) -/
  bad : List Nat := []
  /-- the slot drawn waits for Keystone's verdict -/
  awaiting : Bool := false
  /-- signatures received for the slot awaiting a verdict (R200) -/
  signatures : Table U32 := []
  /-- media time at which the wait for signatures ends (16 R423) -/
  sigUntil : Option Nat := none
  concealed : Nat := 0
  stale : Nat := 0
  cardSlots : U32 := 0
  /-- forwarding entry that owns a transcode layout (R204) -/
  owner : Option Nat := none
  basted : Option U16 := none
  deriving DecidableEq, Repr

/-- One video feed (07 R204, 06 R173). -/
structure Feed where
  layout : Nat
  req : FeedReq
  ssrc : List U32
  tsBase : U32
  ctx : Nat
  basted : Option U16 := none
  deriving DecidableEq, Repr

/-- The Picture region (06, 07). -/
structure Picture where
  /-- decode contexts by index — 06 R170 — reset none -/
  dec : Table DecCtx := []
  /-- encode contexts by index — 06 R172 — reset none -/
  enc : Table EncCtx := []
  /-- layouts by index — 07 R185 — reset none -/
  layouts : Table Layout := []
  /-- feeds by index — 07 R204 — reset none -/
  feeds : Table Feed := []
  /-- media time of the last key request of each source (R169, 08 R219) — reset none -/
  keyLast : Table Nat := []
  /-- deferred key requests of each source: FIR wanted, PLI wanted — 06 R169 — reset none -/
  keyDue : Table (Bool × Bool) := []
  /-- key requests sent to each source's sender: FIR and PLI sequence — 06 R169, 08 R219 — reset 0 -/
  firSeq : Table Nat := []
  deriving DecidableEq, Repr

/-! ### Layered forwarding (08) -/

/-- Forwarding entry states, Table 8-2 (08 R215). -/
inductive FwdState where
  | idle | paused | forwarding | waitingUp | transcoding | noTranscode
  deriving DecidableEq, Repr

/-- The numbering of one output SSRC of an entry (08 R217). -/
structure Numbering where
  /-- the numbering continues at the next packet forwarded: a new run (R218) -/
  restart : Bool := false
  seqOff : U16
  /-- highest source number processed and count dropped -/
  high : U16
  dropped : U16 := 0
  /-- gaps recorded: source number and the D then in force -/
  gaps : List (U16 × U16) := []
  /-- last output number -/
  lastOut : U16
  deriving DecidableEq, Repr

/-- A change of an entry that a seam brings, taken at the entry's own packets (08 R215, 02 R59). -/
inductive FwdChange where
  | set (req : FwdSetReq)
  | retarget (source : Nat)
  | unsubscribe
  deriving DecidableEq, Repr

/-- A packet as an entry sent it: its RTP fields, the dependency descriptor's ID where one is sent, and the combination that a template structure and active_decode_targets_bitmask announce; every other header extension is gone (08 R217). -/
structure FwdSent where
  entry : Nat
  ssrc : U32
  pt : BitVec 7
  seq : U16
  ts : U32
  pictureId : Nat
  tl0 : Nat
  marker : Bool
  dd : U8
  targets : Option (Nat × Nat)
  deriving DecidableEq, Repr

/-- One forwarding entry (08 R205 to R222). -/
structure FwdEntry where
  leg : Nat
  isFeed : Bool
  object : Nat
  priority : Nat
  tileW : Nat
  tileH : Nat
  mode : Nat
  maxS : Nat
  maxT : Nat
  rxDd : U8
  rate : Nat
  state : FwdState
  /-- current combination (s, t) -/
  cur : Option (Nat × Nat) := none
  /-- the allocations of the last updates with the media times from which they are in force, oldest first -/
  allocs : List (Nat × Option (Nat × Nat)) := []
  /-- target while WAITING_UP -/
  target : Option (Nat × Nat) := none
  /-- media time from which an up-switch may happen -/
  targetAt : Nat := 0
  /-- the 200 ms request for a key picture has been made (R214) -/
  keyAsked : Bool := false
  /-- media time since which every update allocated more than the current combination -/
  upSince : Option Nat := none
  /-- media time since which the entry is PAUSED -/
  pausedSince : Option Nat := none
  /-- media time since which forwarding would have been possible (R222) -/
  couldSince : Option Nat := none
  /-- rate or share allocated at the last update, kbit/s -/
  allocKbps : Nat := 0
  switches : U32 := 0
  late : U32 := 0
  keyReq : U32 := 0
  outSsrc : U32
  seqBase : U16
  tsBase : U32
  /-- numbering of each output SSRC (R217, R218) -/
  nums : Table Numbering := []
  /-- TS_OFF of the run; none until the run's first packet (R218) -/
  tsOff : Option U32 := none
  /-- offsets of PictureID (or frame_number) and of TL0PICIDX in the run, and the last ones sent (R217, R218) -/
  picOff : Option (Int × Int) := none
  lastPic : Nat := 0
  lastTl0 : Nat := 0
  /-- the next packet is the first after a switch (R217) -/
  announce : Bool := true
  /-- changes of a seam whose boundary has come, with T: the first packet of T or later takes them (02 R59) -/
  due : List (Nat × FwdChange) := []
  /-- source of a retarget that waits for its key picture (R220) -/
  retarget : Option Nat := none
  /-- transcode layout and feed the entry owns (R221) -/
  trans : Option (Nat × Nat) := none
  transTarget : Nat := 0
  /-- forwarding may resume: waits for the key picture (R222) -/
  returning : Bool := false
  /-- updates since NO_TRANSCODE was entered (R221) -/
  retries : Nat := 0
  basted : Option U16 := none
  deriving DecidableEq, Repr

/-- A leg's line (08 R207 to R211, R223). -/
structure Line where
  e : Nat := 0
  v : Int := 0
  loss : Nat := 0
  qMs : Nat := 0
  /-- TMMBR value in force; 0: none (R209) -/
  tmmbr : Nat := 0
  nacks : U32 := 0
  /-- feedback of the last intervals: media time of arrival and the report (R208) -/
  reports : List (Nat × RtcpReport) := []
  /-- media time of the last RTCP from the leg (R209) -/
  lastRtcp : Nat := 0
  pacePct : Nat := 125
  minKbps : Nat := 64
  startKbps : Nat := 0
  upHoldMs : Nat := 1000
  transcodeAfterMs : Nat := 3000
  /-- line figures for the roster record: E of each update, newest first (13 R338) -/
  history : List Nat := []
  lossHistory : List Nat := []
  /-- last update's k -/
  lastUpdate : Option Nat := none
  deriving DecidableEq, Repr

/-- Settings and measured rates of a video source (08 R206, R212). -/
structure FwdSource where
  ddExt : U8 := 0
  fmExt : U8 := 0
  /-- extension IDs that the next picture of a capture time or later brings (fwd.source, 02 R59) -/
  next : List (Nat × U8 × U8) := []
  /-- render sizes of the spatial layers, where the template structure carries them (Table 8-1) -/
  sizes : List (Nat × Nat) := []
  /-- latest RTP timestamp (R214) -/
  lastTs : Option U32 := none
  /-- bytes of each layer (16 s + t) that arrived: media time, layer, bytes with headers -/
  arrivals : List (Nat × Nat × Nat) := []
  /-- a switching point has been seen (08 R214) -/
  switchSeen : Bool := false
  /-- anchor (ts0, m0) of the capture mapping, last number and last capture time (06 R158) -/
  anchor : Option (U32 × Int) := none
  lastSeq : U16 := 0
  lastCapture : Int := 0
  /-- frames dropped at snag markers of a forwarding cell's input (01 R40) -/
  gaps : U32 := 0
  deriving DecidableEq, Repr

/-- Layered forwarding (08). -/
structure Fwd where
  /-- entries by index — 08 R205 — reset none -/
  entries : Table FwdEntry := []
  /-- freed entry indices and the chip time in ns they were freed at — 08 R216 — reset empty -/
  hold : Table Nat := []
  /-- lines by leg — 08 R207 — reset none -/
  lines : Table Line := []
  /-- settings and rates of sources by number — 08 R206 — reset none -/
  sources : Table FwdSource := []
  /-- measured rates of feeds by number — 08 R212 — reset none -/
  feedRates : Table FwdSource := []
  /-- packets sent by the entries at the last FORWARD_PACKET — 08 R217 — reset empty -/
  sent : List FwdSent := []
  deriving DecidableEq, Repr

/-! ### Time bases (09) -/

/-- Servo states (09 R247). -/
inductive ServoState where
  | free | acquiring | locked | holdover
  deriving DecidableEq, Repr

/-- One time base (09 R243 to R247). -/
structure TimeBase where
  enabled : Bool := false
  armed : Bool := false
  sec : U64 := 0
  ns : U32 := 0
  frac : U32 := 0
  incNs : U8 := 3
  incFrac : U32 := 0x33333333
  source : U8 := 0
  trackS : Nat := 16
  servo : ServoState := .free
  lockRun : Nat := 0
  lastPhaseNs : Int := 0
  /-- TB0 ns of the last comparison with its source present -/
  lastSource : Nat := 0
  deriving DecidableEq, Repr

/-- PPS input and output (09 R248). -/
structure Pps where
  outEnable : Bool := false
  inEnable : Bool := false
  outBase : Nat := 0
  widthMs : Nat := 100
  offsetNs : Int := 0
  /-- next rising edge of PPS_OUT, in the selected base's ns -/
  nextOut : Int := 0
  /-- chip-time ticks of the last PPS_OUT rising edge -/
  lastOut : Option Nat := none
  /-- chip-time ticks of the last accepted PPS_IN edge -/
  lastIn : Option Nat := none
  /-- the four bases at that edge, in units of 2^-32 ns -/
  stamp : Vector Nat 4 := Vector.replicate 4 0
  ignored : U32 := 0
  edges : U32 := 0
  deriving DecidableEq, Repr

/-- An absolute time.step waiting for a PPS_IN edge (09 R245). -/
structure AbsStep where
  mbx : Mbx
  seq : Nat
  base : Nat
  sec : U64
  /-- chip-time ticks at which it times out -/
  until_ : Nat
  deriving DecidableEq, Repr

/-- Time (09). -/
structure Time where
  /-- elapsed time in ticks of the 312.5 MHz time clock since power-on — 00 R7 — reset 0 -/
  now : Nat := 0
  /-- ticks by which loads of TB0 at entry to RESYNC moved it, which intervals leave out: the model's own bookkeeping of R245 — 09 R245 — reset 0 -/
  loadShift : Int := 0
  /-- time bases TB0 to TB3: sec 64, ns 32, frac 32, increment 40, armed, source, servo — 09 R243, R244 — reset TB0 and TB3 enabled and armed at 0 s, TB1 and TB2 disabled at 0, nominal increment -/
  bases : Vector TimeBase 4 := #v[{ enabled := true, armed := true }, {}, {}, { enabled := true, armed := true }]
  /-- PPS pins — 09 R248 — reset disabled -/
  pps : Pps := {}
  /-- absolute step waiting for PPS_IN — 09 R245 — reset none -/
  absStep : Option AbsStep := none
  /-- the time clock is synthesised from TS_REFCLK — 19 R476 — reset 0 -/
  tsRefclk : Bool := false
  deriving DecidableEq, Repr

/-! ### Ethernet ports, queues and gate lists (09, 10) -/

/-- A route of an interface (09 R238). -/
structure Route where
  af : U8
  pfx : U128
  len : Nat
  gateway : U128
  deriving DecidableEq, Repr

/-- PTP port states of time.query (09). -/
inductive PtpState where
  | disabled | listening | master | passive | uncalibrated | slave | faulty
  deriving DecidableEq, Repr

/-- One PTP port (09 R249). -/
structure PtpPort where
  req : PtpReq
  /-- the port's identity: the clock identity of 8 bytes and the port number (R249) -/
  portId : Bytes
  state : PtpState := .listening
  /-- chip-time ticks of the last Announce from a valid master -/
  lastAnnounce : Nat := 0
  /-- event and general messages sent since the port was set -/
  sent : U32 := 0
  /-- management and signaling messages counted and ignored -/
  unsupported : U32 := 0
  deriving DecidableEq, Repr

/-- A frame in an egress queue: its length, its TB0 enqueue stamp and the leg (or 0xFFFF) it is for (10 R250). -/
structure QFrame where
  length : Nat
  stampNs : Nat
  leg : Nat
  resolved : Bool := true
  /-- identifier of a stamp request (09 R241) -/
  ident : Option U16 := none
  /-- link address it goes to, where one is resolved (09 R234) -/
  dst : Option (BitVec 48) := none
  deriving DecidableEq, Repr

/-- One strict level's FIFO on one interface, with its rate bucket in units of 2e-7 bit and the elapsed ticks it was computed at (10 R253). -/
structure Fifo where
  frames : List QFrame := []
  tokens : Nat := 10000000000000000
  tokensAt : Nat := 0
  deriving DecidableEq, Repr

/-- A frame as it leaves: for a leg (or 0xFFFF), of a length; its tag's VLAN and PCP where it has one; and what an IP packet in it carries: DSCP, ECN, TTL or hop limit, identification and DF (09 R233, 10 R251). -/
structure WireFrame where
  leg : Nat
  length : Nat
  tag : Option (Nat × Nat)
  dscp : Nat
  ecn : Nat := 2
  ttl : Nat := 64
  ident : Nat := 0
  df : Bool := true
  deriving DecidableEq, Repr

/-- One Ethernet interface (09 R224 to R239). -/
structure Iface where
  enable : Bool := false
  pause : BitVec 2 := 0
  rxPause : Bool := false
  lpi : Bool := false
  pfcMask : U8 := 0x0F
  mac : BitVec 48 := 0
  mtu : Nat := 9216
  quanta : Nat := 65535
  highB : Nat := 0
  lowB : Nat := 0
  rxLatPs : U32 := 0
  txLatPs : U32 := 0
  asymPs : U32 := 0
  /-- local addresses: family, address and prefix length (R238) -/
  addrs : List (U8 × U128 × Nat) := []
  routes : List Route := []
  /-- link up (R227) -/
  link : Bool := false
  /-- bytes of the interface's share in use, and their peak (R230) -/
  occupancy : Nat := 0
  peak : Nat := 0
  /-- elapsed ticks at which the pause frame is repeated; none: not sending pause (R231) -/
  pauseDue : Option Nat := none
  /-- elapsed ticks until which every class is held by a received PAUSE (R232) -/
  heldUntil : Nat := 0
  /-- elapsed ticks until which each priority is held by a received PFC (R232) -/
  pfcUntil : Vector Nat 8 := Vector.replicate 8 0
  /-- slow-path frames accepted in the running 10 ms window (R229) -/
  slowCount : Nat := 0
  /-- neighbour cache: next hop and its link address once resolved (R234) -/
  neigh : List (U128 × Option (BitVec 48)) := []
  /-- counters of net.query by their order there, TSQ_OVERFLOW apart -/
  counters : Vector U64 20 := Vector.replicate 20 0
  ptp : Option PtpPort := none
  /-- FIFOs of levels S0 to S7 (10 R252) -/
  fifos : Vector Fifo 8 := Vector.replicate 8 {}
  /-- the frame that left last -/
  wire : Option WireFrame := none
  deriving DecidableEq, Repr

/-- One level's settings, S0 to S7 and the weighted group (10 R251, R253). -/
structure Level where
  tc : Nat
  pcp : Nat
  dscp : Nat
  limitKib : Nat := 1024
  rate : Nat := 0
  deriving DecidableEq, Repr

/-- A histogram of 16 saturating bins (10 R267). -/
abbrev Hist := Vector U32 16

/-- One gate list (10 R262 to R265). -/
structure GateList where
  id : U16
  enable : Bool
  cycleNs : Nat
  entries : List GateEntry
  baseNs : Nat
  /-- start time in TB0 ns -/
  startNs : Nat
  n : Nat := 0
  /-- it was basted: its gate event reports a late start (R264) -/
  basted : Bool := false
  deriving DecidableEq, Repr

/-- One entry of a transmit stamp queue (09 R241). -/
structure TxStamp where
  ident : U16
  iface : Nat
  /-- the four bases at the stamp, in units of 2^-32 ns -/
  units : Vector Nat 4
  deriving DecidableEq, Repr

/-- The Table 10-1 defaults of the nine levels. -/
def levelDefaults : Vector Level 9 :=
  #v[{ tc := 7, pcp := 7, dscp := 56 }, { tc := 6, pcp := 6, dscp := 46 }, { tc := 5, pcp := 5, dscp := 48 },
     { tc := 4, pcp := 4, dscp := 46 }, { tc := 3, pcp := 3, dscp := 0 }, { tc := 2, pcp := 2, dscp := 0 },
     { tc := 1, pcp := 1, dscp := 0 }, { tc := 1, pcp := 1, dscp := 0 }, { tc := 0, pcp := 0, dscp := 34 }]

/-- One Ethernet port (09, 10). -/
structure Port where
  split : Nat := 0
  /-- exact-match entries set by net.addr, the interfaces' own apart (R235) -/
  macs : List (BitVec 48) := []
  /-- reference count of each group bin in use (R236) -/
  bins : Table Nat := []
  /-- transmit stamp queue, oldest first (R241) -/
  tsq : List TxStamp := []
  tsqOverflow : U64 := 0
  /-- the net.port that waits for the new interfaces: mailbox and command -/
  initFor : Option (Mbx × Nat) := none
  levels : Vector Level 9 := levelDefaults
  /-- virtual time V (10 R255) -/
  v : Nat := 0
  /-- running and pending gate list, and the entry the running one is in (10 R265) -/
  running : Option GateList := none
  pending : Option GateList := none
  entry : Nat := 0
  /-- identifier the next gate list takes -/
  nextList : U16 := 0
  /-- LEVEL_DROP and histograms of the strict levels -/
  drops : Vector U32 8 := Vector.replicate 8 0
  depthHist : Vector Hist 8 := Vector.replicate 8 (Vector.replicate 16 0)
  sojournHist : Vector Hist 8 := Vector.replicate 8 (Vector.replicate 16 0)
  deriving DecidableEq, Repr

/-- One leg queue. A bucket starts with more than any depth, which is a full bucket: it never holds more than its depth when it is read. Its scheduling, shaping and policing (10 R250 to R260). -/
structure LegQ where
  weight : Nat := 256
  egress : Nat := 0
  burstMs : Nat := 5
  qlimitKib : Nat := 512
  sojournMs : Nat := 500
  /-- 0: MAX_SEND_KBPS -/
  policeKbps : Nat := 0
  policeMs : Nat := 100
  frames : List QFrame := []
  /-- finish tag of the previous frame and of the head (R255) -/
  fPrev : Nat := 0
  tag : Option Nat := none
  /-- shaper rate in kbit/s, tokens in units of 2e-7 bit, and the elapsed ticks they were computed at (R257) -/
  rateKbps : Nat := 0
  tokens : Nat := 10000000000000000
  tokensAt : Nat := 0
  /-- policing buckets in units of 2e-7 bit and of 2e-10 packet, and the elapsed ticks they were computed at (R260) -/
  polTokens : Nat := 10000000000000000
  ctlTokens : Nat := 10000000000000000
  polAt : Nat := 0
  qdropFull : U32 := 0
  qdropAge : U32 := 0
  oversize : U32 := 0
  policeDrop : U32 := 0
  policeCtrlDrop : U32 := 0
  depthHist : Hist := Vector.replicate 16 0
  sojournHist : Hist := Vector.replicate 16 0
  /-- TB0 ns and bytes of the media frames that left (09 R241, 08 R208), newest first -/
  departures : List (Nat × Nat) := []
  deriving DecidableEq, Repr

/-- The Ethernet block and the queue block (09, 10). -/
structure Net where
  /-- Ethernet ports: SPLIT, filters, stamp queue, level settings, gate lists — 09 R224, R235, R236, R241; 10 R251 to R267 — reset SPLIT 0, filters empty, Table 10-1 -/
  ports : Vector Port 2 := Vector.replicate 2 {}
  /-- interfaces by number — 09 R224 — reset none -/
  ifaces : Table Iface := []
  /-- leg queues by leg; a leg not listed has its initial values — 10 R250 — reset every queue empty at the defaults -/
  legq : Table LegQ := []
  /-- leg queue the sampler visits next — 10 R266 — reset 0 -/
  sampleLeg : Nat := 0
  /-- strict level (of 16) the sampler visits next — 10 R266 — reset 0 -/
  sampleLevel : Nat := 0
  /-- PTP grandmaster identity, 0 when none — 09 time.query — reset 0 -/
  gm : U64 := 0
  /-- offset of TB1 from its master in ps — 09 time.query — reset 0 -/
  ptpOffsetPs : Int := 0
  /-- mean path delay in ps — 09 time.query — reset 0 -/
  ptpPathPs : Int := 0
  /-- steps removed — 09 time.query — reset 0 -/
  stepsRemoved : U16 := 0
  /-- interface of the slave port — 09 time.query — reset none -/
  slaveIface : Option Nat := none
  /-- currentUtcOffset — 09 time.query — reset 0 -/
  utcOffset : Int := 0
  deriving DecidableEq, Repr

/-! ### The cipher engine (10) -/

/-- Key slot states of Table 10-4 (10 R272, R275). -/
inductive KeyState where
  | empty | loaded | nearSpent | spent | lost
  deriving DecidableEq, Repr

/-- One key slot's attributes, and its replay windows: SSRC, highest index and the 128-packet mask (10 R270 to R275). -/
structure KeySlot where
  state : KeyState := .empty
  suite : U8 := 0
  cls : Nat := 0
  generation : U8 := 0
  owner : Nat := 0
  useCount : Nat := 0
  useLimit : Nat := 2147483648
  roc : Nat := 0
  seqHigh : Nat := 0
  loadedS : Nat := 0
  windows : List (U32 × Nat × U128) := []
  /-- the key, which Keystone alone holds -/
  key : BitVec 256 := 0
  deriving DecidableEq, Repr

/-- A slot as it lies in its table tile: AES-256-GCM under the boot's wrapping key, with its nonce and tag, under the tile's CRC-32C (16 R417, 10 R273). -/
structure WrappedSlot where
  nonce : Nat
  data : BitVec 256
  tag : BitVec 128
  crc : U32
  deriving DecidableEq, Repr

/-- One class's settings (10 R274, R276, R278). -/
structure KeyClass where
  check : Bool
  rekeyS : Nat := 10
  useLimit : Nat := 2147483648
  deriving DecidableEq, Repr

/-- A leg's rekeying (10 R276). -/
structure Rekey where
  /-- a rekey is running -/
  running : Bool := false
  /-- PENDING cipher.rekey commands that join it -/
  waiting : List (Mbx × Nat) := []
  /-- chip-time ns since which a slot has been SPENT or LOST -/
  spentSince : Option Nat := none
  /-- previous generation of the leg's slots, and the chip-time ns at which it is erased -/
  prev : List (Nat × KeySlot) := []
  prevUntil : Nat := 0
  deriving DecidableEq, Repr

/-- A packet that waits for its slot's fetch (10 R273). -/
structure CipherJob where
  slot : Nat
  leg : Nat
  received : Bool
  ssrc : U32
  seq : U16
  encLength : Nat
  authOk : Bool
  authPrevOk : Bool
  deriving DecidableEq, Repr

/-- A leg's cipher counters (10 cipher.stats). -/
structure CipherStats where
  c : Vector U32 8 := Vector.replicate 8 0
  deriving DecidableEq, Repr

/-- The cipher block (10). -/
structure Cipher where
  /-- classes 0 to 2: CHECK, REKEY_S, USE_LIMIT — 10 R272, R274 — reset CHECK 0, 1, 0 (class 1 by the shipped policy), 10 s, 2^31 -/
  classes : Vector KeyClass 3 := #v[{ check := false }, { check := true }, { check := false }]
  /-- media key slots by number; not listed: EMPTY — 10 R271 — reset EMPTY -/
  slots : Table KeySlot := []
  /-- access key slots 0 to 63 — 10 R271, 11 — reset EMPTY -/
  access : Table KeySlot := []
  /-- wrapped slots in their table tiles; access slots are numbered from 262144 — 10 R273, 16 R417 — reset none -/
  tiles : Table WrappedSlot := []
  /-- unwrapped slots in Keystone's cache, least recently used first; access slots are numbered from 262144 — 10 R273 — reset empty -/
  cache : List Nat := []
  /-- packets that wait for a slot's fetch, oldest first — 10 R273 — reset none -/
  fetching : List CipherJob := []
  /-- the slot that each pipeline works on: carriage 0 to 7, access 8 and 9 — 10 R268 — reset none -/
  pipes : Table Nat := []
  /-- counters of each leg — 10 cipher.stats — reset 0 -/
  stats : Table CipherStats := []
  /-- device totals — 10 cipher.stats — reset 0 -/
  totals : CipherStats := {}
  /-- rekeying of each leg — 10 R276 — reset none -/
  rekeys : Table Rekey := []
  deriving DecidableEq, Repr

/-! ### Access ports (11) -/

/-- A GEM binding (11 access.gem). -/
structure Gem where
  kind : Nat
  terminal : Nat
  allocId : Nat
  active : Bool
  basted : Option U16 := none
  deriving DecidableEq, Repr

/-- A T-CONT of the tree (11 access.tcont, R300): its settings, the report received two frames ago and last frame, and the last grant. -/
structure Tcont where
  fixed : Nat
  assured : Nat
  max : Nat
  weight : Nat
  report : Nat := 0
  report1 : Nat := 0
  grant : Nat := 0
  deriving DecidableEq, Repr

/-- An admitted terminal of the tree (11 R297): its state is a code of Table 11-2, 0 absent. -/
structure Terminal where
  serial : U64
  keyGroup : Nat
  state : Nat := 0
  /-- disabled by access.tree (goes to and stays in O7) -/
  disabled : Bool := false
  eqd : Int := 0
  rxPower : BitVec 16 := 0
  /-- chip-time ticks at which a Registration is overdue -/
  regUntil : Option Nat := none
  /-- the group key has been reported loaded -/
  keyed : Bool := false
  deriving DecidableEq, Repr

/-- One entity of the agent's MIB (11 R287). -/
structure MibEntry where
  cls : Nat
  inst : Nat
  gemId : Nat := 0
  allocId : Nat := 0
  /-- attributes that the head end has set -/
  attrs : Table Nat := []
  deriving DecidableEq, Repr

/-- The framer's latch at a downstream superframe: its count, the four time bases in ns, and the chip-time ticks of the latch (11 R281). -/
structure FrameLatch where
  count : Nat
  bases : Vector Nat 4
  tick : Nat
  deriving DecidableEq, Repr

/-- A PLOAM message that a port sends (11 Table 11-3, R284, R297, R298). -/
inductive PloamMsg where
  | serialNumberOnu (serial : U64) (delayNs : Nat) | registration (onu : Nat) (regId : BitVec 288) | keyReport (index : Nat)
  | acknowledge (onu : Nat) (parameterError : Bool) | sleepRequest (asleep : Bool) | powerConsumptionReport
  | assignOnuId (onu : Nat) (serial : U64) | rangingTime (onu : Nat) (bits : Int) | deactivateOnuId (onu : Nat)
  | disableSerialNumber (serial : U64) (enable : Bool) | requestRegistration (onu : Nat) | assignAllocId (onu alloc : Nat)
  | keyControl (onu group index superframe : Nat) | burstProfile (usRate : Nat) | sleepAllowOff (onu : Nat)
  deriving DecidableEq, Repr

/-- Result of an OMCI command (11 R287, Table 11-4). -/
inductive OmciResult where
  | success | processingError | notSupported | parameterError | unknownEntity | unknownInstance | instanceExists | attributeFailed
  deriving DecidableEq, Repr

/-- An upstream burst: its Alloc-ID, the bits of the frame at which it starts and ends, the ns before and after them for which the enable stands, its buffer status report in 4-byte units, and the bytes that idle XGEM frames fill (11 R286). -/
structure Burst where
  allocId : Nat
  start : Nat
  stop : Nat
  leadNs : Nat
  lagNs : Nat
  report : Option Nat
  idle : Nat
  deriving DecidableEq, Repr

/-- One access port (11 R279 to R303). -/
structure AccPort where
  /-- 0 disabled, 1 terminal, 2 head -/
  role : Nat := 0
  cfg : Option AccessPortReq := none
  /-- code of Table 11-2 in terminal role; head: 1 stopped, 5 running -/
  state : Nat := 1
  /-- generation in force; 0 while none is found -/
  gen : Nat := 0
  usRate : Nat := 0
  /-- the framer hunts at 49.7664 Gbit/s -/
  huntFast : Bool := true
  synced : Bool := false
  profile : Bool := false
  onuId : Option Nat := none
  allocIds : List Nat := []
  /-- equalization delay in upstream bits, and the value that the next frame boundary puts in force (R285) -/
  eqd : Int := 0
  eqdNext : Option Int := none
  /-- chip-time ticks at which TO1 or TO2 expires -/
  to1 : Option Nat := none
  to2 : Option Nat := none
  /-- random delay of the last serial-number response in ns -/
  snDelay : Nat := 0
  /-- terminal identity, kept by Keystone since the first activation (R284) -/
  identity : Option U64 := none
  /-- last Sleep_Allow was ON; watchful sleep entered (R290) -/
  sleepAllow : Bool := false
  sleeping : Bool := false
  rxPower : BitVec 16 := 0
  txPower : BitVec 16 := 0
  powerLevel : Nat := 0
  /-- key index in force, and the switch a Key_Control has stated: index, superframe -/
  keyIndex : Nat := 0
  keySwitch : Option (Nat × Nat) := none
  bcastIndex : Nat := 0
  bcastSwitch : Option (Nat × Nat) := none
  /-- last downstream superframe count, and the latches of the last 2 s (R281, R289) -/
  superframe : Nat := 0
  latches : List FrameLatch := []
  /-- end of the last burst in bits from the frame start -/
  lastBurstEnd : Nat := 0
  /-- the last burst sent (R286) -/
  burst : Option Burst := none
  gems : Table Gem := []
  /-- T-CONTs by 4 × ONU-ID + index -/
  tconts : Table Tcont := []
  terminals : Table Terminal := []
  /-- key index of each group and the chip-time seconds of its last rotation (R298) -/
  groupIndex : Table (Nat × Nat) := []
  /-- the switch of a group's index that the head has stated: index, superframe (R298) -/
  groupSwitch : Table (Nat × Nat) := []
  /-- GEM port and key slot of the last frame sent (R292, R298) -/
  sent : Option (Nat × Nat) := none
  /-- a new claim holder waits for the next superframe (R303) -/
  waits : Bool := false
  /-- learned source MAC addresses and their terminals (R298) -/
  macTable : List (BitVec 48 × Nat) := []
  /-- chip-time ticks of the last serial-number window, OLT-G write; terminal measured last -/
  windowAt : Nat := 0
  inWindow : Bool := false
  oltgAt : Nat := 0
  rssiNext : Nat := 0
  /-- upstream arrival reference shift in ns (R303) -/
  shiftNs : Int := 0
  /-- OMCI agent: MIB and its data sync counter (R287) -/
  mib : List MibEntry := []
  mibSync : U8 := 0
  /-- discarded OLT-G writes (R289), ignored PLOAM messages (Table 11-3), discarded sleep requests -/
  cLateTod : U32 := 0
  cPloamIgnored : U32 := 0
  /-- counters of access.query: FEC_CORRECTED to KEY_SPENT_DROP -/
  counters : Vector U64 8 := Vector.replicate 8 0
  /-- counters of interface 0x10 + p, in the order of net.query (R291, R292) -/
  ifaceCounters : Vector U64 20 := Vector.replicate 20 0
  /-- neighbour cache of interface 0x10 + p: next hop and its link address once resolved (R291, 09 R234) -/
  neigh : List (U128 × Option (BitVec 48)) := []
  /-- priority FIFOs P0 to P3 (R292) -/
  fifos : Vector Fifo 4 := Vector.replicate 4 {}
  /-- virtual time of the port's weighted group (R292, 10 R255) -/
  v : Nat := 0
  /-- PLOAM messages sent since the port started, and those that the last sender sent (Table 11-3) -/
  ploamSent : U32 := 0
  ploamOut : List PloamMsg := []
  /-- the agent's last answer (R287) -/
  omciAnswer : Option OmciResult := none
  /-- upstream frame granted so far: Alloc-ID and bytes of the last map -/
  map : List (Nat × Nat) := []
  /-- local addresses and routes of interface 0x10 + p (R291) -/
  addrs : List (U8 × U128 × Nat) := []
  routes : List Route := []
  deriving DecidableEq, Repr

/-- The Access region (11). -/
structure Access where
  /-- access ports: role, state, keys, bindings, terminals, MIB, counters — 11 R279 to R303 — reset disabled, tables empty -/
  ports : Vector AccPort 2 := Vector.replicate 2 {}
  deriving DecidableEq, Repr

/-! ### Twin operation (12) -/

/-- Unit states, Table 12-1 (12 R304). -/
inductive TwinState where
  | alone | joining | resync | standby | primary | outOfSync
  deriving DecidableEq, Repr

/-- The rank a unit claims a group at (12 R321). -/
inductive Rank where
  | none | candidate | standby | holder | taking
  deriving DecidableEq, Repr

/-- One claim group (12 R320 to R329). -/
structure Claim where
  /-- this unit uses the group -/
  used : Bool := false
  homing : Bool := false
  /-- HOME_SIDE: side B -/
  homeSide : Bool := false
  holdOffS : Nat := 60
  prefA : Nat := 0x800
  prefB : Nat := 0x400
  /-- fixed by Keystone policy -/
  fixed : Bool := false
  held : Bool := false
  taking : Bool := false
  /-- the holder dropped the group to 0x8 for a swap -/
  yielding : Bool := false
  /-- KS_HELD: the claim in force since the last frame of the group -/
  wonRounds : Nat := 0
  /-- chip-time ticks at which the homing hold-off ends -/
  homeAt : Option Nat := none
  deriving DecidableEq, Repr

/-- A pending swap (12 R329). -/
structure Swap where
  /-- none: every group this unit holds -/
  group : Option Nat
  /-- takeover tick K, counted by TB3 from its start -/
  tick : Nat
  /-- the PENDING twin.swap; none: a homing takeover -/
  issuer : Option (Mbx × Nat)
  /-- K has passed: the peer is taking the groups -/
  dropped : Bool := false
  deriving DecidableEq, Repr

/-- Twin operation (12). -/
structure Twin where
  /-- unit state — 12 R304 — reset ALONE -/
  state : TwinState := .alone
  /-- ENABLE of twin.config — 12 twin.config — reset 0 -/
  enabled : Bool := false
  /-- SINGLE_SEND set, and the mode in force since the last stitch tick — 12 R318 — reset dual-send -/
  singleSend : Bool := false
  /-- mode in force — 12 R318 — reset dual-send -/
  singleNow : Bool := false
  /-- RESYNC_S — 12 R327 — reset 120 -/
  resyncS : Nat := 120
  /-- RETRY_HOLD_S — 12 R325 — reset 10 -/
  retryHoldS : Nat := 10
  /-- last cause, Table 12-7 — 12 twin.query — reset 0 -/
  cause : U8 := 0
  /-- peer's state, as reported — 12 twin.query — reset unknown -/
  peerState : Option U8 := none
  /-- peer's FW_RELEASE — 12 twin.query — reset 0 -/
  peerFw : U32 := 0
  /-- peer's HEAD_FIBRE_NS of each access port, mirrored with its access.port — 11 R303 — reset 0 -/
  peerFibre : Vector Nat 2 := Vector.replicate 2 0
  /-- Truss link up — 12 R308 — reset down -/
  linkUp : Bool := false
  /-- Keystones have authenticated and derived the pair key — 12 R305 — reset 0 -/
  authed : Bool := false
  /-- negotiated Truss version; 0 when none — 12 R309 — reset 0 -/
  version : U8 := 0
  /-- lanes in service — 12 R307 — reset all four -/
  laneMap : BitVec 4 := 0xF
  /-- next SEQ to send and the last SEQ received in order — 12 R308 — reset 0 -/
  txSeq : U32 := 0
  /-- last SEQ received in order — 12 R308 — reset 0xFFFF_FFFF (the first frame is 0) (DESIGN CHOICE, log 25) -/
  rxSeq : U32 := 0xFFFFFFFF
  /-- frames sent and not acknowledged: SEQ and bytes, oldest first — 12 R308 — reset empty -/
  unacked : List (U32 × Nat) := []
  /-- chip-time ticks of the last valid frame — 12 R308 — reset 0 -/
  lastFrame : Nat := 0
  /-- mirroring has stopped on a full store — 12 R308, R314 — reset 0 -/
  mirrorStopped : Bool := false
  /-- last canon index sent or applied — 12 R311 — reset 0 -/
  canon : U64 := 0
  /-- canon records received and not yet run, with their packets — 12 R311, R313 — reset empty -/
  canonHeld : List (CanonRec × RxFrame) := []
  /-- TB0 nanoseconds of the last canon record run — 12 R326 — reset 0 -/
  canonStamp : Nat := 0
  /-- packets of canon run lately: leg, RTP sequence number and the primary's TB3 latch — 12 R311, R315 — reset empty -/
  latches : List (Nat × U16 × Nat) := []
  /-- delay of the Truss link in ns, measured by TIME frames — 12 R316 — reset 0 (DESIGN CHOICE, log 34) -/
  linkDelayNs : Nat := 0
  /-- CANON_END of the last decision record and its tick — 12 R313 — reset none -/
  canonEnd : Option (Nat × Nat) := none
  /-- chip-time ticks of the last decision record — 12 R313 — reset 0 -/
  lastDecision : Nat := 0
  /-- local events: on a primary those decided since its last decision record, on a standby those of the last record — 12 R313 — reset none -/
  events : List LocalEvent := []
  /-- own ingress held for 4 ms on a standby: leg, TB0 ns and packet — 12 R318 — reset empty -/
  ingress : List (Nat × Nat × RxFrame) := []
  /-- random draws received and not consumed, in DRAW order — 12 R315 — reset empty -/
  draws : List U32 := []
  /-- RESYNC step in progress; 0 when none — 12 R327 — reset 0 -/
  step : Nat := 0
  /-- chip-time ticks at which RESYNC_S expires — 12 R327 — reset none -/
  resyncUntil : Option Nat := none
  /-- chip-time ticks at which RETRY_HOLD_S ends — 12 R325 — reset none -/
  retryAt : Option Nat := none
  /-- chip-time seconds of the failed resyncs — 12 R325 — reset none -/
  failedAt : List Nat := []
  /-- items of the STATE snapshot received so far, in order — 12 R327 — reset empty -/
  stateItems : List StateItem := []
  /-- snapshot complete — 12 R327 — reset 0 -/
  stateDone : Bool := false
  /-- TB3 nanoseconds of the snapshot's stitch tick S — 12 R327 — reset 0 -/
  snapTb3 : Nat := 0
  /-- completed resyncs since boot — 12 twin.query — reset 0 -/
  resyncs : U32 := 0
  /-- failovers since boot — 12 twin.query — reset 0 -/
  failovers : U32 := 0
  /-- chip-time seconds of the last change of state — 12 twin.query — reset 0 -/
  lastChange : Nat := 0
  /-- mirror latency of the last tick in us — 12 twin.query — reset 0 -/
  lagUs : Nat := 0
  /-- TB3 offset from the primary in ps — 12 twin.query — reset 0 -/
  tbOffsetPs : Int := 0
  /-- the canon switch of a failover is due at the next stitch tick — 12 R326 — reset 0 -/
  switchDue : Bool := false
  /-- chip time in ns of K, from which the new primary of a swap takes its own ingress — 12 R329 — reset none -/
  switchFrom : Option Int := none
  /-- claim groups by number — 12 R320, R321 — reset groups 0, 32 and 33 in use, preferences 0x800 and 0x400 -/
  claims : Table Claim := [(0, { used := true }), (32, { used := true }), (33, { used := true })]
  /-- claim bus valid — 12 R324 — reset 0 -/
  busOk : Bool := false
  /-- elapsed ticks of the last valid round — 12 R324 — reset 0 -/
  lastRound : Nat := 0
  /-- elapsed ticks of the last start condition on the claim bus — 16 R422 — reset 0 -/
  lastStart : Nat := 0
  /-- frame this unit sent last on the claim bus — 12 R322, Table 12-6 — reset 0 -/
  sentClaim : U32 := 0
  /-- rounds won in a row since the bus was lost, counted at their ends — 12 R324 — reset 0 -/
  goodRounds : Nat := 0
  /-- a round is running: frames ended in it, and whether all were valid — 12 R322 — reset none -/
  round : Option (Nat × Bool) := none
  /-- claims released by a fault, reset, Park or shed until the unit has rejoined — 12 R320 — reset 0 -/
  released : Bool := false
  /-- the peer's NOTICE raised the group 0 claim to 0xE — 12 R326 — reset 0 -/
  raised0 : Bool := false
  /-- group 0 rounds won in a row while the peer claims at 0x8 or lower — 12 R304 — reset 0 -/
  joinWins : Nat := 0
  /-- the peer holds group 0 at 0xC, as seen in its last frame — 12 R304 — reset 0 -/
  peerHolds : Bool := false
  /-- pending swap — 12 R329 — reset none -/
  swap : Option Swap := none
  /-- a throttle request waits for the primary's decision: level and chip-time ticks of its limit — 12 R319 — reset none -/
  throttleAsk : Option (Nat × Nat) := none
  deriving DecidableEq, Repr

/-! ### The Keeping region (13) -/

/-- A fault record, Table 1-7 (01 R30). -/
structure FaultRec where
  seq : Nat
  location : U16
  level : U8
  cause : U8
  timeS : Nat
  timeNs : Nat
  action : U8
  fencedNow : U8
  seamId : U16
  seamCount : Nat
  detail : U32
  deriving DecidableEq, Repr

/-- What a journal entry changes (13 Table 13-6). -/
inductive JKind where
  | put (r : Nat) (rec : Record) | clear (r : Nat) | fault (f : FaultRec) | segment (n : Nat) (loc : U32) | checkpoint (copy : Nat)
  | pattern (gen : Nat) (arg : Nat) | retire (island : Nat) | park | seqMark (mark : Nat)
  deriving DecidableEq, Repr

/-- A journal entry: its change, its roster sequence and epoch, and the command its commit completes (13 R341, R342). -/
structure JEntry where
  kind : JKind
  rseq : Nat := 0
  epoch : U32 := 0
  ack : Option (Mbx × Nat) := none
  deriving DecidableEq, Repr

/-- A journal group: closed and being programmed, or committed (13 R342). -/
structure JGroup where
  gseq : Nat
  entries : List JEntry
  keepTime : Nat
  die : Nat := 0
  programmed : Bool := false
  deriving DecidableEq, Repr

/-- The mount's progress (13 Table 13-8). -/
inductive MountStep where
  | unmounted | reading | ready | summaries | indexed | unusable
  deriving DecidableEq, Repr

/-- The attached NAND as the lines of Table 13-1 ask for it, beside the number of its dies and its capacity (13 R332). -/
structure Nand where
  /-- TLC with a pseudo-SLC mode that programs lower pages only -/
  tlc : Bool := true
  /-- dies and capacity are the same on both channels -/
  even : Bool := true
  /-- all dies have one part number -/
  onePart : Bool := true
  /-- data bytes of a page -/
  pageBytes : Nat := 16384
  /-- spare bytes of a page -/
  spareBytes : Nat := 2048
  /-- program/erase cycles in pseudo-SLC mode -/
  slcCycles : Nat := 30000
  /-- program/erase cycles in TLC mode -/
  tlcCycles : Nat := 3000
  /-- pseudo-SLC page program time in µs -/
  slcProgramUs : Nat := 200
  deriving DecidableEq, Repr

/-- Wear of one area (13 R353). -/
structure Area where
  /-- retired blocks -/
  bad : Nat := 0
  deriving DecidableEq, Repr

/-- States of an image slot (18 R461, keep.images). -/
inductive ImgState where
  | empty | staged | trial | committed | rejected
  deriving DecidableEq, Repr

/-- One firmware image slot of the xSPI NOR (18 R461). -/
structure ImageSlot where
  state : ImgState := .empty
  svn : Nat := 0
  release : U32 := 0
  /-- highest Pledom version, Truss version, pattern schema and roster record format of the image's header (18 Table 18-5) -/
  pledomMax : Nat := 0x32
  trussMax : Nat := 0x22
  schemaMax : Nat := Config.schemaMax
  formatMax : Nat := 3
  stagedS : Nat := 0
  deriving DecidableEq, Repr

/-- The Keeping region (13). -/
structure Keep where
  /-- mount step — 13 R350 — reset unmounted -/
  mount : MountStep := .unmounted
  /-- committed roster records by number (NAND) — 13 R335, R337 — reset empty store (DESIGN CHOICE, log 8) -/
  recs : Table Record := []
  /-- entries accepted into the open group, oldest first — 13 R342 — reset empty -/
  open_ : List JEntry := []
  /-- elapsed ticks of the open group's first entry — 13 R342 — reset 0 -/
  openAt : Nat := 0
  /-- closed groups not committed, in GSEQ order — 13 R342 — reset none -/
  groups : List JGroup := []
  /-- next GSEQ — 13 R342 — reset 1 (DESIGN CHOICE, log 8) -/
  nextGseq : Nat := 1
  /-- die of the next group — 13 R342 — reset 0 -/
  nextDie : Nat := 0
  /-- bytes of the journal from the oldest group still needed — 13 R345 — reset 0 -/
  span : Nat := 0
  /-- KEEP_TIME at the last mount — 13 R334 — reset 0 -/
  keepTime : Nat := 0
  /-- elapsed ticks at which KEEP_TIME resumed — 13 R334 — reset 0 -/
  keepBase : Nat := 0
  /-- staged entries that wait for the mount after a reset of the region alone — 13 R350 — reset none -/
  staged : List JEntry := []
  /-- RSEQ of the last entry — 13 R355 — reset 0 -/
  rseq : Nat := 0
  /-- EPOCH — 13 R355 — reset 0 -/
  epoch : U32 := 0
  /-- RSEQ at which this unit drew its own EPOCH: entries above it are its own — 13 R355, R356 — reset 0 (DESIGN CHOICE, log 8) -/
  ownFrom : Nat := 0
  /-- EPOCH was drawn by this unit, not taken from a primary — 13 R355, R356 — reset 1 (DESIGN CHOICE, log 8) -/
  epochOwn : Bool := true
  /-- records held back UNWRITTEN, with the record as it will be written; none: to be cleared — 04 R112, 13 keep.record — reset none -/
  unwritten : Table (Option Record) := []
  /-- GSEQ and content of the newest copy of each record that the journal holds — 13 R352 — reset none -/
  newest : Table (Nat × Record) := []
  /-- the newest older copy of each record that the journal still holds, with its GSEQ — 13 R352 — reset none -/
  older : Table (Nat × Record) := []
  /-- KEEP_TIME of the last committed group — 13 R334 — reset 0 -/
  groupTime : Nat := 0
  /-- records to clear at a seam's T, and to write: seam, record (basted keep.record) — 13 keep.record — reset none -/
  basted : List (U16 × Nat × Option Record) := []
  /-- segments changed since their last image — 13 R345 — reset none -/
  dirtySegs : List Nat := []
  /-- TLC location of each segment's image — 13 R343 — reset 0 -/
  segLoc : Table U32 := []
  /-- a pass is running: starting GSEQ, segments left, segments written — 13 R345 — reset none -/
  pass : Option (Nat × List Nat × Nat) := none
  /-- the PENDING keep.snapshot — 13 keep.snapshot — reset none -/
  passFor : Option (Mbx × Nat) := none
  /-- KEEP_TIME of the last pass start — 13 R345 — reset 0 -/
  lastPass : Nat := 0
  /-- checkpoint copy written last, and its GSEQ — 13 R343 — reset copy B, 0 (DESIGN CHOICE, log 8) -/
  ckptCopy : Nat := 1
  /-- GSEQ of the last checkpoint — 13 R343 — reset 0 -/
  ckptGseq : Nat := 0
  /-- RETAIN_DAYS — 13 R336 — reset 365 -/
  retainDays : Nat := 365
  /-- SCRUB_DAYS — 13 R352 — reset 90 -/
  scrubDays : Nat := 90
  /-- REFRESH_BITS — 13 R352 — reset 48 -/
  refreshBits : Nat := 48
  /-- blocks scrubbed in the current scrub — 13 R352 — reset 0 -/
  scrubbed : Nat := 0
  /-- KEEP_TIME by which the current scrub has read every block — 13 R352 — reset 7,776,000, SCRUB_DAYS of 90 from 0 (DESIGN CHOICE, log 8) -/
  scrubBy : Nat := 7776000
  /-- refreshed blocks — 13 R352 — reset 0 -/
  refreshed : Nat := 0
  /-- health level — 13 R353 — reset 0 -/
  level : U8 := 0
  /-- retired blocks of the manifest, journal and TLC pool — 13 R353 — reset 0 -/
  areas : Vector Area 3 := Vector.replicate 3 {}
  /-- dies in use and capacity in GiB — 13 Table 13-1 — reset 16 dies, 1024 GiB (DESIGN CHOICE, log 8) -/
  dies : Nat := 16
  /-- attached capacity in GiB — 13 Table 13-1 — reset 1024 (DESIGN CHOICE, log 8) -/
  gib : Nat := 1024
  /-- the attached NAND's other lines of Table 13-1 — 13 R332 — reset the least each line allows (DESIGN CHOICE, log 8) -/
  nand : Nand := {}
  /-- the bytes of the last group programmed on each die — 13 R342, R350 step 3 — reset none -/
  lastPage : Table (List (BitVec 8)) := []
  /-- LOST_RECORDS — 13 R352 — reset 0 -/
  lost : U32 := 0
  /-- TORN of the last mount — 13 R350 — reset 0 -/
  torn : Nat := 0
  /-- committed fault log, oldest first, at most 32,768 — 13 R354 — reset empty -/
  log : List FaultRec := []
  /-- records that arose before mount step 6, numbered and waiting in Pier DRAM — 13 R354 — reset none -/
  logHeld : List FaultRec := []
  /-- records waiting in Pier DRAM for a number until a SEQ_MARK commits — 13 R354 — reset none -/
  logWait : List FaultRec := []
  /-- next SEQUENCE — 13 R354 — reset 0 (DESIGN CHOICE, log 8) -/
  seq : Nat := 0
  /-- last committed SEQ_MARK — 13 R354 — reset 0 -/
  mark : Nat := 0
  /-- SEQ_MARK journaled and not committed — 13 R354 — reset none -/
  markDue : Option Nat := none
  /-- mark Keystone holds in its NOR area — 13 R354 — reset 0 (DESIGN CHOICE, log 8) -/
  ksMark : Nat := 0
  /-- cells and blocks in the retired table — 01 R22, 13 R343 — reset none -/
  retired : List Nat := []
  /-- a flush is running — 13 R348 — reset 0 -/
  flushing : Bool := false
  /-- keep.format erases the store — 13 keep.format — reset none -/
  formatFor : Option (Mbx × Nat) := none
  /-- the last tail ends in a PARK group — 13 R351 — reset 0 -/
  parked : Bool := false
  /-- the last PARK group was written by a flush — 17 R450 — reset 0 -/
  flushPark : Bool := false
  /-- image slot A — 18 R461 — reset COMMITTED with release 3.2 (DESIGN CHOICE, log 8) -/
  slotA : ImageSlot := { state := .committed, release := Config.fwRelease }
  /-- image slot B — 18 R461 — reset EMPTY (DESIGN CHOICE, log 8) -/
  slotB : ImageSlot := {}
  /-- slot the image state record names to boot: image B — 18 R461 — reset A (DESIGN CHOICE, log 8) -/
  bootB : Bool := false
  /-- slot that runs: image B — 18 R461, keep.images — reset A (DESIGN CHOICE, log 8) -/
  runB : Bool := false
  /-- LAST_OUTCOME — 18 keep.images — reset 0 -/
  lastOutcome : Nat := 0
  /-- fused firmware SVN — 18 R461 — reset 0 (DESIGN CHOICE, log 8) -/
  fusedSvn : Nat := 0
  /-- COMMIT_S of the running trial — 18 R462 — reset none -/
  commitS : Option Nat := none
  /-- chip-time ticks at which an accepted activation resets the device — 18 R462 — reset none -/
  activateAt : Option Nat := none
  /-- the image write in progress — 18 keep.image — reset none -/
  imageFor : Option (Mbx × Nat × Bool × PierImage) := none
  /-- archive copies kept in the TLC pool: FW_RELEASE by slot — 18 keep.image — reset none -/
  archive : Table U32 := []
  deriving DecidableEq, Repr

/-! ### The dispatcher and kernels (14) -/

/-- Task kinds, Table 14-1 (14 R357). -/
inductive TaskKind where
  | receive | chain | mix | encode | select | service
  deriving DecidableEq, Repr

/-- Task states, Table 14-3 (14 R360). -/
inductive TaskState where
  | waiting | ready | running | parked
  deriving DecidableEq, Repr

/-- One task (14 R357 to R360). -/
structure Task where
  kind : TaskKind
  /-- leg, mix, conference or block the task works for -/
  object : Nat
  block : Nat
  group : Nat
  flags : U32 := 0
  allMask : U32
  anyMask : U32 := 0
  est : Nat
  state : TaskState := .waiting
  /-- chip time in ns at which the task became READY -/
  readyAt : Nat := 0
  cell : U16 := 0xFFFF
  /-- deleted while it ran: FREE at the end of the run -/
  deleted : Bool := false
  /-- newer ticks that began while the run was in progress -/
  late : Nat := 0
  /-- the cell of the last run -/
  ranOn : U16 := 0xFFFF
  /-- tick of the conference after the one for which the last run ended; 0: none -/
  ended : Nat := 0
  deriving DecidableEq, Repr

/-- One Sound block's hand-out state (14 R362, R363). -/
structure DispBlock where
  deficit : Vector Int 16 := Vector.replicate 16 0
  ptr : Nat := 0
  fresh : Bool := false
  handouts : Vector U32 16 := Vector.replicate 16 0
  late : Vector U32 16 := Vector.replicate 16 0
  /-- cells blocked in GET, in the order of their GET -/
  blocked : List U16 := []
  deriving DecidableEq, Repr

/-- One DSP cell: the task it runs, the task it holds ahead, and its registers (14 R364, R370). -/
structure Dsp where
  running : Option Nat := none
  prefetched : Option Nat := none
  d : Vector U32 16 := Vector.replicate 16 0
  a : Vector (BitVec 80) 4 := Vector.replicate 4 0
  p : Vector (BitVec 20) 8 := Vector.replicate 8 0
  m : Vector (BitVec 20) 8 := Vector.replicate 8 0
  hoop : Vector (BitVec 40) 4 := Vector.replicate 4 0
  hsel : BitVec 24 := 0
  rpt : List (BitVec 49) := []
  deriving DecidableEq, Repr

/-- A loaded kernel (14 R375, R376). -/
structure Kernel where
  req : KernelReq
  faults : U32 := 0
  maxUsed : Nat := 0
  deriving DecidableEq, Repr

/-- A trace record, Table 14-4 (14 R368). -/
structure TraceRec where
  timeNs : Nat
  timeS : Nat
  cell : U16
  task : Nat
  group : Nat
  reason : Nat
  detail : Nat
  deriving DecidableEq, Repr

/-- The dispatcher, the DSP cells, the kernels and the trace ring (14). -/
structure Disp where
  /-- tasks by number — 14 R357 — reset none (all FREE) -/
  tasks : Table Task := []
  /-- Sound blocks 0 to 31 by number; not listed: block reset values — 14 R363 — reset all 0 -/
  blocks : Table DispBlock := []
  /-- DSP cells by island identifier; not listed: idle, registers 0 — 14 R364, R370 — reset registers 0 (DESIGN CHOICE, log 26) -/
  cells : Table Dsp := []
  /-- weights of groups 0 to 7, set by firmware — 14 R362 — reset 1 (DESIGN CHOICE, log 26) -/
  weights : Vector Nat 8 := Vector.replicate 8 1
  /-- loaded kernels by identifier — 14 R375 — reset none -/
  kernels : Table Kernel := []
  /-- trace settings; none: disabled — 14 trace.config — reset disabled -/
  trace : Option TraceReq := none
  /-- records in the ring, oldest first, and the index of the first — 14 R368 — reset empty -/
  ring : List TraceRec := []
  /-- index of the next record — 14 R368 — reset 0 -/
  next : Nat := 0
  /-- records dropped since configuration — 14 R369 — reset 0 -/
  dropped : Nat := 0
  /-- records that passed the filters since configuration — 14 R369 — reset 0 -/
  tries : Nat := 0
  /-- records dropped because the dispatcher could not write as fast, not yet told by a LOST record — 14 R369 — reset 0 -/
  lost : Nat := 0
  /-- bytes of device DRAM from which Pier can give the ring — 14 R368, trace.config — reset 2^30 (DESIGN CHOICE, log 26) -/
  room : Nat := 1073741824
  /-- the trace event FULL has been raised — 14 R369 — reset 0 -/
  full : Bool := false
  deriving DecidableEq, Repr

/-! ### Memory and DMA (15) -/

/-- One bank's activate table: row and count of each entry, by entry number (15 R386). -/
abbrev ActTable := List (Nat × Nat)

/-- One DDR5 channel (15 R379 to R393). -/
structure MemChan where
  /-- 0 not populated, 1 in use, 2 excluded -/
  state : Nat := 0
  ranks : Nat := 1
  rate : Nat := 4800
  gib : Nat := 16
  tempC : Int := 0
  eccCorrected : U32 := 0
  eccUncorr : U32 := 0
  crcFail : U32 := 0
  neighbour : U32 := 0
  retrains : U32 := 0
  retrainFails : U32 := 0
  /-- retraining failures in a row (R382) -/
  failRun : Nat := 0
  /-- ACT_THRESHOLD in force, until the next refresh window (R386) -/
  actThreshold : Nat := 4096
  /-- RETRAIN_MS in force, until the next retraining (R382) -/
  retrainMs : Nat := 1000
  /-- activate tables by bank (R386) -/
  act : Table ActTable := []
  /-- chip-time ticks of the last retraining and ZQ calibration, and the temperature at the retraining -/
  lastTrain : Nat := 0
  lastZq : Nat := 0
  trainC : Int := 0
  /-- chip-time ticks at the end of the last refresh window (R386) -/
  lastRefresh : Nat := 0
  /-- bank queues, oldest first, at most 32 requests each (R384) -/
  queues : Table (List DramReq) := []
  /-- reads that have issued and wait for older requests of their cell (01 R14) -/
  issued : List DramReq := []
  /-- open row of each bank (R384) -/
  openRow : Table Nat := []
  /-- banks in in-order mode, with the number of the write that caused it (R384) -/
  inOrder : Table Nat := []
  /-- bank of the last activate (R385) -/
  lastAct : Nat := 0
  deriving DecidableEq, Repr

/-- Media tile states (15 R388). -/
inductive TileState where
  | free | open_ (cell : U16) | sealed_
  deriving DecidableEq, Repr

/-- One tile: its state where it is a media tile, its stored CRC and poison bit (15 R387, R390). -/
structure Tile where
  state : TileState := .free
  crc : U32 := 0
  poison : Bool := false
  deriving DecidableEq, Repr

/-- A host window (15 R395). -/
structure Window where
  kind : Nat
  chRead : Bool
  chWrite : Bool
  sizeMib : Nat
  base : Nat
  deriving DecidableEq, Repr

/-- A mem event being merged: kind, channel, pool, count, first address, chip-time ns of the first (15 mem event). -/
structure MemEvt where
  kind : Nat
  channel : Nat
  pool : Nat
  count : Nat
  addr : U64
  atNs : Nat
  deriving DecidableEq, Repr

/-- The Memory region (15). -/
structure Memory where
  /-- channels 0 to 11 — 15 R379, mem.query — reset not populated until training -/
  chans : Vector MemChan 12 := Vector.replicate 12 {}
  /-- populated channels that Pier uses: 8 or 12; 0 before training — 15 R380 — reset 0 -/
  n : Nat := 0
  /-- base and size of the pools, as mem.map numbers them, from Pier's division at boot; empty before — 15 R380 — reset empty -/
  pools : List (Nat × Nat) := []
  /-- bytes of DRAM not listed read 0: the contents the windows hold — 15 R394 — reset empty, an unwritten byte reads 0 (DESIGN CHOICE, log 6) -/
  dram : List Host.Cell := []
  /-- host memory as the DMA channels see it, an unwritten byte reads 0 — 15 Table 15-2 — reset empty (DESIGN CHOICE, log 6) -/
  host : List Host.Cell := []
  /-- tiles by number of their first byte; not listed: FREE, unpoisoned — 15 R387 — reset none listed -/
  tiles : Table Tile := []
  /-- host windows by number — 15 R395 — reset none -/
  windows : Table Window := []
  /-- ACT_THRESHOLD as set: the next refresh window of each channel takes it — 15 R386, mem.config — reset 4096 -/
  actThreshold : Nat := 4096
  /-- PATROL_H in force — 15 R393 — reset 24 -/
  patrolH : Nat := 24
  /-- PATROL_H that the next pass takes — 15 mem.config — reset 24 -/
  patrolNext : Nat := 24
  /-- next address the patrol reads — 15 R393 — reset 0 -/
  patrolAt : Nat := 0
  /-- RETRAIN_MS as set: the next retraining of each channel takes it — 15 R382, mem.config — reset 1000 -/
  retrainMs : Nat := 1000
  /-- mem events of the last 10 ms, merged — 15 mem event — reset none -/
  events : List MemEvt := []
  deriving DecidableEq, Repr

/-- DMA channel states, Table 15-6 (15 R398). -/
inductive DmaState where
  | idle | running | parked | stopping | stopped | halted
  deriving DecidableEq, Repr

/-- A descriptor as the channel read it (15 Table 15-4). -/
structure Desc where
  src : U64
  dst : U64
  count : U32
  crc : Bool
  irq : Bool
  last : Bool
  link : U64
  crcAddr : U64
  /-- address it was read from; 0: the register image -/
  addr : U64
  deriving DecidableEq, Repr

/-- One DMA channel page (15 R397, Table 15-5). -/
structure Dma where
  /-- DMA_SRC — reset 0 (DESIGN CHOICE, log 7) -/
  src : U64 := 0
  /-- DMA_DST — reset 0 (DESIGN CHOICE, log 7) -/
  dst : U64 := 0
  /-- DMA_COUNT — reset 0 (DESIGN CHOICE, log 7) -/
  count : U32 := 0
  /-- DMA_FLAGS — reset 0 (DESIGN CHOICE, log 7) -/
  flags : U32 := 0
  /-- DMA_NEXT — reset 0 (DESIGN CHOICE, log 7) -/
  next : U64 := 0
  /-- DMA_CRC_ADDR — reset 0 (DESIGN CHOICE, log 7) -/
  crcAddr : U64 := 0
  state : DmaState := .idle
  startIgnored : Bool := false
  cause : Nat := 0
  dir : Bool := false
  doneRun : U16 := 0
  /-- DMA_CUR_DESC — reset 0 -/
  cur : U64 := 0
  failAddr : U64 := 0
  appendIgnored : U32 := 0
  descDone : U32 := 0
  irq : BitVec 4 := 0
  /-- descriptor in progress -/
  desc : Option Desc := none
  /-- descriptors fetched ahead, in chain order, at most 8 (R398) -/
  ahead : List Desc := []
  /-- a doorbell is latched (R405) -/
  doorbell : Bool := false
  /-- MSI-X messages sent for the channel (R402) -/
  msgs : Nat := 0
  deriving DecidableEq, Repr

/-! ### Keystone (16) -/

/-- Keystone states of KS_STATE (16 R409). -/
inductive KsState where
  | boot | run | hold | trip | park
  deriving DecidableEq, Repr

/-- A Keystone log record, Table 16-8 (16 R430). -/
structure KsRec where
  seq : U32
  cause : U8
  bootCount : U8
  repeats : Nat
  timeS : Nat
  uptimeMs : Nat
  detail : Nat
  value : Nat
  deriving DecidableEq, Repr

/-- A policy key slot in the fuses (16 R411). -/
structure KeyFuse where
  key : Option (BitVec 384) := none
  revoked : Bool := false
  deriving DecidableEq, Repr

/-- The shipped policy image (16 R410, Table 16-4). -/
def shippedPolicy : PolicyImage :=
  { version := 1, svn := 0, keySlot := 0xFF, enrol := false, enrolKey := none, pairId := 0,
    permissions := (List.range 17).map (fun m => if m = 0 ∨ m = 16 then 0xFFFFFFFF else 0),
    reserveSound := 102400, reserveFwd := 1024, claimFixed := [], ctlGroup := List.replicate 8 (none, false),
    checkFixed := [none, some true, none], limitFixed := [none, none, none], tcS1 := 6,
    overlays := [Config.overlay 0, Config.overlay 1, Config.overlay 2], cardW := 640, cardH := 360, cardContent := 0, cardBg := (512, 512, 512), toneContent := 0,
    toneSamples := 12000, tonePeriodS := 15,
    rules := [{ trigger := 0, overlay := 2, anchor := 0, margin := 0, tone := true }],
    tripC := 115, laser := [(true, true), (true, true)],
    keyPolicies := [{ suites := 0b1110, allowNone := false, consent := false }] }

/-- The built-in policy (16 R415). -/
def builtInPolicy : PolicyImage :=
  { shippedPolicy with version := 0, permissions := (List.range 17).map (fun m => if m = 0 ∨ m = 16 then 0x10 else 0),
                       reserveSound := 0, reserveFwd := 0, overlays := [], cardW := 0, cardH := 0, toneSamples := 0, rules := [],
                       laser := [(false, false), (false, false)], pairId := 0 }

/-- A mandatory rule's trigger as it stands in a conference (16 R424, R425). -/
structure RuleRun where
  rule : Nat
  conf : Nat
  /-- media time from which the tone runs; none: no tone -/
  tone : Option Nat := none
  /-- media time at which the tone stops; none: it runs on -/
  toneEnd : Option Nat := none
  deriving DecidableEq, Repr

/-- Keystone's entropy source under the continuous health tests of NIST SP 800-90B (16 R417): samples taken; the repetition count test's last sample and its run; the adaptive proportion test's window: its first sample, the samples seen and those that equal the first. -/
structure Entropy where
  taken : Nat := 0
  last : U8 := 0
  run : Nat := 0
  first : U8 := 0
  seen : Nat := 0
  same : Nat := 0
  deriving DecidableEq, Repr

/-- The Keystone partition (16). -/
structure Keystone where
  /-- STATE — 16 R409 — reset BOOT -/
  state : KsState := .boot
  /-- POLICY_OK — 16 R409 — reset 0 -/
  policyOk : Bool := false
  /-- RELEASED — 16 R422 — reset 0 -/
  released : Bool := false
  /-- REG_MODE low-power — 16 R409, 17 R444 — reset full -/
  lowPower : Bool := false
  /-- LAST_ADOPT — 16 R414 — reset 0 -/
  lastAdopt : Nat := 0
  /-- active policy — 16 R410 — reset the built-in policy until adoption -/
  policy : PolicyImage := builtInPolicy
  /-- policy slots 0 and 1 of the NOR — 16 R413 — reset slot 0 the shipped image, slot 1 empty (DESIGN CHOICE, log 8) -/
  slots : Vector (Option Proposal) 2 :=
    #v[some { size := 4096, sections := [{ type := 1, offset := 80, length := 68, crc := 0, crcOk := true }], signer := Config.rootKey, sigOk := true, badOffset := none, image := shippedPolicy }, none]
  /-- slot that holds the active image — 16 R413 — reset 0 (DESIGN CHOICE, log 8) -/
  activeSlot : Nat := 0
  /-- PENDING: the other slot is marked — 16 R413 — reset 0 (DESIGN CHOICE, log 8) -/
  pending : Bool := false
  /-- expected signatures of the active policy's overlays — 16 R423 — reset none -/
  expected : List U32 := []
  /-- legs whose DTLS handshake the public-key engine works on, in order: the first 4,096 are in its queue, the rest wait in Pier — 16 R419 — reset none -/
  pkOps : List Nat := []
  /-- a proposal is being written: mailbox and command — 16 R413 — reset none -/
  writing : Option (Mbx × Nat × Proposal) := none
  /-- policy key slots in the fuses — 16 R411 — reset none enrolled (DESIGN CHOICE, log 8) -/
  fuses : Vector KeyFuse 4 := Vector.replicate 4 {}
  /-- fused policy SVN — 16 R411 — reset 0 (DESIGN CHOICE, log 8) -/
  fusedSvn : Nat := 0
  /-- KS_TRIP — 16 R409 — reset 0 -/
  trips : U32 := 0
  /-- elapsed ticks since which the condition of the trip is clear — 16 R427 — reset none -/
  clearSince : Option Nat := none
  /-- the trip is thermal — 16 R427 — reset 0 -/
  tripThermal : Bool := false
  /-- last readings of the 32 sensors in 0.125 C — 16 R426 — reset none read -/
  sensors : List (Option Int) := []
  /-- failed sensors — 16 R426 — reset none -/
  failed : List Nat := []
  /-- the previous readings — 16 R426 — reset none -/
  prev : List (Option Int) := []
  /-- sensors within 5 C of TRIP_C, already told — 16 Keystone event — reset 0 -/
  nearTold : Bool := false
  /-- KS_WRITE_REJECTS — 16 R408 — reset 0 -/
  rejects : U32 := 0
  /-- KS_REJECT_LAST — 16 R408 — reset 0 -/
  rejectLast : U32 := 0
  /-- chip-time second of the last WRITE_REJECTED event — 16 Keystone event — reset none -/
  rejectAt : Option Nat := none
  /-- elapsed ticks at which Keystone started (KS_TICK) — 16 R409 — reset 0 -/
  startedAt : Nat := 0
  /-- Keystone log, oldest first, at most 256 — 16 R429 — reset empty (DESIGN CHOICE, log 8) -/
  log : List KsRec := []
  /-- KS_LOG_NEXT — 16 R430 — reset 0 (DESIGN CHOICE, log 8) -/
  logNext : U32 := 0
  /-- events not recorded in the running second: cause and count — 16 R429 — reset none -/
  repeats : Table Nat := []
  /-- resets since manufacture — 16 Table 16-8 — reset 0 (DESIGN CHOICE, log 8) -/
  bootCount : Nat := 0
  /-- the pair's DTLS certificate: the pair identity it was generated under, and its number — 16 R420 — reset none (DESIGN CHOICE, log 8) -/
  cert : Option (U128 × Nat) := none
  /-- rule triggers that hold, by rule and conference — 16 R424 — reset none -/
  rules : List RuleRun := []
  /-- claim-round observations before release: valid rounds seen — 16 R422 — reset 0 -/
  seenRounds : Nat := 0
  /-- the Pier image has verified — 16 R422 — reset 0 -/
  verified : Bool := false
  /-- number of the wrapping key of this boot — 16 R417 — reset 0 -/
  wrapBoot : Nat := 0
  /-- wrapping key of this boot — 16 R417 — reset 0, drawn when Keystone starts (DESIGN CHOICE, log 8) -/
  wrapKey : BitVec 256 := 0
  /-- slots wrapped so far, which numbers the nonces — 16 R417 — reset 0 (DESIGN CHOICE, log 8) -/
  wraps : Nat := 0
  /-- entropy source — 16 R417 — reset no sample taken (DESIGN CHOICE, log 8) -/
  entropy : Entropy := {}
  /-- AVS rails VDD_M0 and VDD_M1: acknowledged set point in mV — 19 R471 — reset 750 -/
  avsMv : Vector Nat 2 := #v[750, 750]
  /-- acknowledgements missed in a row on each rail — 19 R471 — reset 0 -/
  avsMiss : Vector Nat 2 := #v[0, 0]
  /-- a rail stays at its last acknowledged value — 19 R471 — reset 0 -/
  avsStuck : Vector Bool 2 := #v[false, false]
  /-- elapsed ticks of the last AVS step of each rail — 19 R471 — reset none -/
  avsAt : Vector (Option Nat) 2 := #v[none, none]
  /-- a step of each rail waits for its acknowledgement — 19 R471 — reset none -/
  avsWait : Vector Bool 2 := #v[false, false]
  deriving DecidableEq, Repr

/-! ### Power (17) -/

/-- Device states, Table 17-1 (17 R431). -/
inductive PowerState where
  | full | trim | quiet | park
  deriving DecidableEq, Repr

/-- Steps of the supply response (17 R446). -/
inductive SupplyStep where
  | normal | ride | shed | flush
  deriving DecidableEq, Repr

/-- DSTATE of a domain (17 power.vote). -/
inductive DomState where
  | up | changing | gated | poweringUp
  deriving DecidableEq, Repr

/-- One votable domain (17 R433 to R438): the votes of mailboxes 0 to 16, and its state; the other voters are computed. -/
structure Domain where
  votes : BitVec 17 := 0
  state : DomState := .up
  /-- chip-time ns until which a drop is BUSY after a refusal (R436) -/
  holdUntil : Option Nat := none
  /-- mailboxes whose raise is deferred until the gating (R438) -/
  deferred : List Mbx := []
  /-- some voter held the domain when it was last looked at (R434) -/
  held : Bool := true
  deriving DecidableEq, Repr

/-- A change request: a device state with its masks, or domain drops, and the PENDING commands it completes (17 R435, R437). -/
structure PwrReq where
  /-- none: only domain drops -/
  target : Option PowerState
  quietPort : U8 := 0xFF
  trimSound : U32 := 0
  trimPicture : BitVec 14 := 0
  trimAccess : BitVec 2 := 0
  drops : List U16 := []
  /-- issuer of power.state -/
  issuer : Option (Mbx × Nat) := none
  /-- power.vote commands that joined: domain and issuer -/
  voters : List (U16 × Mbx × Nat) := []
  deriving DecidableEq, Repr

/-- Power (17). -/
structure Power where
  /-- device state — 17 R431 — reset Full -/
  state : PowerState := .full
  /-- state Quiet was entered from — 17 R443 — reset Full -/
  resume_ : PowerState := .full
  /-- QUIET_PORT — 17 power.state — reset none -/
  quietPort : U8 := 0xFF
  /-- TRIM masks in force — 17 R433 — reset 0 -/
  trimSound : U32 := 0
  /-- TRIM_PICTURE — 17 R433 — reset 0 -/
  trimPicture : BitVec 14 := 0
  /-- TRIM_ACCESS — 17 R433 — reset 0 -/
  trimAccess : BitVec 2 := 0
  /-- votable domains by island identifier; not listed: up, no mailbox votes — 17 R433 — reset none listed -/
  domains : Table Domain := []
  /-- change in progress and its seam — 17 R435 — reset none -/
  running : Option (PwrReq × U16) := none
  /-- the change's gating is done at T: domains gated, and chip-time ticks of step 5 — 17 R435 — reset none -/
  gating : Option (Nat × Nat) := none
  /-- pending request — 17 R437 — reset none -/
  pendingReq : Option PwrReq := none
  /-- supply step — 17 R446 — reset normal -/
  supply : SupplyStep := .normal
  /-- chip-time ticks at which the running supply step ends — 17 R446 — reset none -/
  stepAt : Option Nat := none
  /-- RIDE_MS — 17 R446 — reset 8 -/
  rideMs : Nat := 8
  /-- FLUSH_MS — 17 R446 — reset 20 -/
  flushMs : Nat := 20
  /-- HOLD_MV — 17 R446 — reset 0, disabled (DESIGN CHOICE, log 9) -/
  holdMv : Nat := 0
  /-- samples below HOLD_MV in a row — 17 R446 — reset 0 -/
  holdLow : Nat := 0
  /-- picture domains the shed gated — 17 R446 — reset none -/
  shedGated : List U16 := []
  /-- elapsed ticks since which PFW_N is clear and HOLD_SENSE above HOLD_MV in Park — 17 R450 — reset none -/
  clearSince : Option Nat := none
  /-- L1_C stored — 17 R451 — reset 106 -/
  l1 : Nat := 106
  /-- L1_C in use where the stored value breaks the rule — 17 R451 — reset none -/
  l1Clamp : Option Nat := none
  /-- level of this unit and level in force — 17 R451, R452 — reset 0 -/
  level : Nat := 0
  /-- level in force — 17 R452 — reset 0 -/
  levelNow : Nat := 0
  /-- level decided and not yet in force — 17 R452 — reset none -/
  levelDue : Option Nat := none
  /-- level the peer asked for — 12 R319 — reset 0 -/
  peerLevel : Nat := 0
  /-- elapsed ticks since which the hottest sensor lies at or below each level's threshold less 4 C — 17 R451 — reset none -/
  coolSince : Vector (Option Nat) 3 := #v[none, none, none]
  /-- levels at or above whose threshold the last reading was — 17 R451 — reset none -/
  hotOnce : Vector Bool 3 := #v[false, false, false]
  /-- a wake is latched or running: its source, and chip-time ticks of the event — 17 R443 — reset none -/
  wake : Option (Nat × Nat) := none
  /-- the wake sequence runs — 17 R443 — reset 0 -/
  waking : Bool := false
  /-- LAST_WAKE — 17 power.query — reset 0 -/
  lastWake : Nat := 0
  /-- the present wake sent the Truss wake pattern on lane 0 — 17 R442 — reset false (none) -/
  wakeSent : Bool := false
  /-- chip-time ticks at which the Truss link must run again after a wake — 17 R442 — reset none -/
  trussUntil : Option Nat := none
  /-- WAKES — 17 power.query — reset 0 -/
  wakes : U32 := 0
  /-- WAKES_DISCARDED — 17 R443 — reset 0 -/
  wakesDiscarded : U32 := 0
  /-- REFUSALS — 17 power.query — reset 0 -/
  refusals : U32 := 0
  /-- commands that woke or wait for the wake are run after it: fetching is stopped in Quiet — 17 R440 — reset 0 -/
  asleep : Bool := false
  deriving DecidableEq, Repr

/-! ### Patterns (02) -/

/-- A standing conference with its objects, as a generation holds it (02 R64). -/
structure PatConf where
  index : Nat
  conf : Conf
  mixes : Table Mix
  layouts : Table Layout
  feeds : Table Feed
  deriving DecidableEq, Repr

/-- The configuration a generation holds (02 R64); the values beside the fields are generation 0's, the empty configuration. -/
structure PatCfg where
  /-- standing conferences -/
  confs : List PatConf := []
  /-- layouts stored as templates whose conference is not standing -/
  templates : Table Layout := []
  /-- SPLIT, filters, level settings and gate list of the Ethernet ports -/
  ports : Vector Port 2 := Vector.replicate 2 {}
  /-- settings, addresses, routes and PTP of the interfaces -/
  ifaces : Table Iface := []
  /-- ENABLE, SOURCE and TRACK_S of TB0 to TB3 -/
  bases : Vector (Bool × U8 × Nat) 4 := #v[(true, 0, 16), (false, 0, 16), (false, 0, 16), (true, 0, 16)]
  /-- PPS settings: outEnable, inEnable, outBase, widthMs, offsetNs -/
  pps : Bool × Bool × Nat × Nat × Int := (false, false, 0, 100, 0)
  classes : Vector KeyClass 3 := #v[{ check := false }, { check := true }, { check := false }]
  /-- settings, bindings, T-CONTs, terminals, addresses and routes of the access ports -/
  access : Access := {}
  kernels : Table Kernel := []
  /-- ENABLE, SINGLE_SEND, RESYNC_S, RETRY_HOLD_S -/
  twin : Bool × Bool × Nat × Nat := (false, false, 120, 10)
  /-- settings of the claim groups -/
  claims : Table Claim := []
  /-- RIDE_MS, FLUSH_MS, HOLD_MV -/
  supply : Nat × Nat × Nat := (8, 20, 0)
  l1 : Nat := 106
  /-- RETAIN_DAYS, SCRUB_DAYS, REFRESH_BITS -/
  keep : Nat × Nat × Nat := (365, 90, 48)
  deriving DecidableEq, Repr

/-- One saved generation (02 R65, R66, R73). -/
structure Gen where
  label : U32
  schema : Nat
  proven : Bool := false
  sizeKib : Nat
  savedS : Nat
  /-- CRC-32C or schema check failed at the last read -/
  damaged : Bool := false
  /-- skipped at the last boot (R68) -/
  skipped : Bool := false
  cfg : PatCfg
  deriving DecidableEq, Repr

/-- A pattern change carried by Pier's seam (02 R69, R70). -/
structure PatChange where
  opcode : Nat
  target : Nat
  force : Bool
  seam : U16
  /-- none: an automatic revert (R72) -/
  issuer : Option (Mbx × Nat)
  revertAfter : Nat := 0
  deriving DecidableEq, Repr

/-- Patterns (02). -/
structure Patterns where
  /-- saved generations by number; generation 0 is built in — 02 R65 — reset none (DESIGN CHOICE, log 8) -/
  gens : Table Gen := []
  /-- highest number ever saved — 02 R65 — reset 0 -/
  highest : Nat := 0
  /-- running generation — 02 R66 — reset 0 -/
  running : Nat := 0
  /-- generation the last boot applied — 02 R68 — reset 0 -/
  booted : Nat := 0
  /-- most recently proven generation — 02 R66 — reset 0 -/
  proven : Nat := 0
  /-- a save is being written: issuer, label, content — 02 R65 — reset none -/
  saving : Option (Mbx × Nat × U32 × PatCfg) := none
  /-- configuration at the primary's pattern.save, which its generation holds — 02 R74 — reset none -/
  mirrored : Option PatCfg := none
  /-- the change whose seam is in progress — 02 R69 — reset none -/
  change : Option PatChange := none
  /-- chip-time ticks at which the automatic revert runs — 02 R72 — reset none -/
  revertAt : Option Nat := none
  /-- issuing mailbox of the apply that set the automatic revert — 02 R72 — reset none -/
  revertFor : Option Mbx := none
  deriving DecidableEq, Repr

/-! ### The machine -/

/-- The state of the block. -/
structure State where
  /-- pins — 18 R457, 19 — reset as each pin's own line -/
  pins : Pins := {}
  /-- start-up — 18 R459 — reset held in reset -/
  boot : Boot := {}
  /-- mailboxes — 03 — reset as each register's own line -/
  pl : Pledom := {}
  /-- seams — 02 — reset none -/
  seams : Seams := {}
  /-- cells, blocks, regions, spans and spools — 01 — reset all healthy and empty -/
  fab : Fabric := {}
  /-- conferences and legs — 04 — reset none -/
  model : Model := {}
  /-- sound path — 05 — reset none -/
  snd : Sound := {}
  /-- picture coding and composition — 06, 07 — reset none -/
  pic : Picture := {}
  /-- layered forwarding — 08 — reset none -/
  fwd : Fwd := {}
  /-- time bases — 09 — reset as each base's own line -/
  time : Time := {}
  /-- Ethernet ports, interfaces, leg queues and gate lists — 09, 10 — reset as each item's own line -/
  net : Net := {}
  /-- cipher engine — 10 — reset every slot EMPTY -/
  cip : Cipher := {}
  /-- access ports — 11 — reset disabled -/
  acc : Access := {}
  /-- twin operation — 12 — reset ALONE -/
  twin : Twin := {}
  /-- Keeping region — 13, 18 — reset as each item's own line -/
  keep : Keep := {}
  /-- dispatcher, DSP cells, kernels, trace — 14 — reset empty -/
  disp : Disp := {}
  /-- memory — 15 — reset untrained -/
  mem : Memory := {}
  /-- DMA channels 0 to 15 — 15 R397 — reset as each register's own line -/
  dma : Vector Dma 16 := Vector.replicate 16 {}
  /-- Keystone — 16 — reset as each register's own line -/
  ks : Keystone := {}
  /-- power — 17 — reset Full -/
  pwr : Power := {}
  /-- patterns — 02 — reset only generation 0 -/
  patt : Patterns := {}
  /-- commands waiting at the block, first in first out — the host's interface — reset empty -/
  pending : List Instr := []
  /-- free values taken so far: the model's own field, no part of the device — reset 0 (DESIGN CHOICE, log 2) -/
  draws : Nat := 0
  deriving DecidableEq, Repr

/-- Reasons a step could fault. No command of this model faults; the type is closed and has one constructor because the interface asks for one. -/
inductive Fault where
  /-- raised by no meaning; safe, because a run that met it would only stop -/
  | unused
  deriving DecidableEq, Repr

/-- Reasons a step can refuse. -/
inductive Refusal where
  /-- a row of the table without a meaning yet; safe, the run only stops -/
  | notModelled (mnemonic : String)
  deriving DecidableEq, Repr

/-- The machine after power-on, RESET_N held low: every field at the value beside it. -/
def State.reset : State := {}

end Sys2Proof.Machine
end

