-- ==== Sys2Proof/Machine/Ops.lean ====
section
/-! DEFINITION. The named operations every meaning is written over: tables, little-endian bytes, the clocks, random draws, mailbox entries and events. -/

namespace Sys2Proof.Machine

open Sys2Proof

/-! ### Tables -/

/-- The record of a number. -/
def tget {α : Type} : Table α → Nat → Option α
  | [], _ => none
  | (k, a) :: t, i => if k = i then some a else tget t i

/-- Store a record under a number, in rising order. -/
def tput {α : Type} : Table α → Nat → α → Table α
  | [], i, a => [(i, a)]
  | (k, b) :: t, i, a =>
    if i < k then (i, a) :: (k, b) :: t else if i = k then (i, a) :: t else (k, b) :: tput t i a

/-- Take a number's record away. -/
def tdel {α : Type} (t : Table α) (i : Nat) : Table α := t.filter (fun p => p.1 != i)

/-- Change a number's record, if it has one. -/
def tmod {α : Type} (t : Table α) (i : Nat) (f : α → α) : Table α :=
  match tget t i with
  | some a => tput t i (f a)
  | none => t

/-- A number has a record. -/
def thas {α : Type} (t : Table α) (i : Nat) : Bool := (tget t i).isSome

/-- Change every record. -/
def tmap {α β : Type} (t : Table α) (f : Nat → α → β) : Table β := t.map (fun p => (p.1, f p.1 p.2))

/-- The lowest number in [lo, lo + n) that satisfies a test. -/
def lowest (p : Nat → Bool) (lo : Nat) : Nat → Option Nat
  | 0 => none
  | n + 1 => if p lo then some lo else lowest p (lo + 1) n

/-- Add up a function over a list. -/
def total {α : Type} (l : List α) (f : α → Nat) : Nat := l.foldl (fun acc a => acc + f a) 0

/-- Put an element into a sorted list, before the first element it precedes. -/
def insertBy {α : Type} (le : α → α → Bool) (a : α) : List α → List α
  | [] => [a]
  | b :: t => if le a b then a :: b :: t else b :: insertBy le a t

/-- Sort a list. -/
def sortBy {α : Type} (le : α → α → Bool) (l : List α) : List α := l.foldr (insertBy le) []

/-! ### Bytes -/

/-- The low n bytes of a number, little-endian (00 R5). -/
def le : Nat → Nat → Bytes
  | 0, _ => []
  | n + 1, v => BitVec.ofNat 8 v :: le n (v / 256)

/-- The low n bytes of a signed number in two's complement, little-endian. -/
def leI (n : Nat) (v : Int) : Bytes := le n (BitVec.ofInt (8 * n) v).toNat

/-- The number little-endian bytes spell. -/
def leVal : Bytes → Nat
  | [] => 0
  | b :: bs => b.toNat + 256 * leVal bs

/-- A flag as a number. -/
def bit (b : Bool) : Nat := if b then 1 else 0

/-- Bytes padded with zeros or cut to n. -/
def fit (n : Nat) (b : Bytes) : Bytes := (b ++ List.replicate (n - b.length) 0).take n

/-! ### Bytes in canonical form: addresses strictly rising, no byte equal to what an unlisted one reads as (0, log 6) -/

/-- The byte at an address. -/
def memRead : List Host.Cell → Nat → BitVec 8
  | [], _ => 0
  | (k, b) :: t, a => if k = a then b else memRead t a

/-- Take an address out of the list. -/
def memErase (m : List Host.Cell) (a : Nat) : List Host.Cell := m.filter (fun p => p.1 != a)

/-- Put a byte into its place. -/
def memInsert : List Host.Cell → Nat → BitVec 8 → List Host.Cell
  | [], a, b => [(a, b)]
  | (k, c) :: t, a, b => if a < k then (a, b) :: (k, c) :: t else (k, c) :: memInsert t a b

/-- Write a byte: 0 leaves the address unlisted. -/
def memWrite (m : List Host.Cell) (a : Nat) (b : BitVec 8) : List Host.Cell :=
  let m := memErase m a
  if b = 0 then m else memInsert m a b

/-- Every listed address lies above a bound, they rise strictly, and none is 0. -/
def memWf : Nat → List Host.Cell → Bool
  | _, [] => true
  | lo, (k, b) :: t => decide (lo ≤ k) && b != 0 && memWf (k + 1) t

/-- n bytes from an address up. -/
def memBytes (m : List Host.Cell) (a : Nat) : Nat → Bytes
  | 0 => []
  | n + 1 => memRead m a :: memBytes m (a + 1) n

/-- Write bytes from an address up. -/
def memPut (m : List Host.Cell) (a : Nat) : Bytes → List Host.Cell
  | [] => m
  | b :: t => memPut (memWrite m a b) (a + 1) t

/-! ### Status codes (03 Table 3-9) -/

namespace St
def ok : U8 := 0x00
def pending : U8 := 0x01
def badVersion : U8 := 0x02
def notInVersion : U8 := 0x03
def badField : U8 := 0x04
def noObject : U8 := 0x05
def busy : U8 := 0x06
def noCapacity : U8 := 0x07
def seamFull : U8 := 0x08
def seamUnpicked : U8 := 0x09
def seamTooLate : U8 := 0x0A
def enableDeferred : U8 := 0x0B
def superseded : U8 := 0x0C
def refused : U8 := 0x0D
def keySpent : U8 := 0x0E
def length : U8 := 0x0F
def startedLate : U8 := 0x10
def notClaimed : U8 := 0x11
def isProtected : U8 := 0x12
def storeFull : U8 := 0x13
def storeFault : U8 := 0x14
def patternUnproven : U8 := 0x15
def fault : U8 := 0x16
def aborted : U8 := 0x17
def timeout : U8 := 0x18
end St

/-- The status a session at 1.4 sees in place of one outside the 1.4 set (03 R90, Table 3-9). -/
def status14 (s : U8) : U8 :=
  if s = St.enableDeferred then St.ok
  else if s = St.superseded then St.aborted
  else if s = St.keySpent ∨ s = St.notClaimed ∨ s = St.isProtected then St.refused
  else if s = St.startedLate ∨ s = St.patternUnproven then St.ok
  else if s = St.storeFull then St.noCapacity
  else if s = St.storeFault then St.fault
  else s

/-- The status and result bytes a command answers with (03 R82). -/
structure Rep where
  status : U8
  data : Bytes := []
  /-- the command goes on and a later row completes it -/
  later : Bool := false
  deriving DecidableEq, Repr

namespace Rep
/-- The command goes on acting; a later row completes it. -/
def goesOn : Rep := { status := St.ok, later := true }
/-- OK with result bytes. -/
def ok (data : Bytes := []) : Rep := { status := St.ok, data }
/-- PENDING: a result event follows. -/
def pend (data : Bytes := []) : Rep := { status := St.pending, data }
/-- A failing status with its result words (32 bits each). -/
def fail (st : U8) (words : List Nat := []) : Rep := { status := st, data := words.flatMap (le 4) }
end Rep

/-- A check: nothing when it passes, the failing reply otherwise. -/
def need (ok : Bool) (st : U8) (words : List Nat := []) : Option Rep := if ok then none else some (Rep.fail st words)

/-- The first failing check of an ordered list (03 R95). -/
def firstFail : List (Option Rep) → Option Rep
  | [] => none
  | none :: t => firstFail t
  | some r :: _ => some r

namespace State

/-! ### Time -/

/-- Ticks of the 312.5 MHz time clock in a second of elapsed time (00 R7, 09 R243). -/
def ticksPerS : Nat := 312500000
/-- Ticks in a millisecond. -/
def ticksPerMs : Nat := 312500
/-- Ticks that hold a whole number of microseconds, rounded up. -/
def ticksOfUs (us : Nat) : Nat := (us * 625 + 1) / 2

/-- Elapsed ticks so far. -/
def now (s : State) : Nat := s.time.now

/-- A base's value in nanoseconds, its fraction dropped. -/
def tbNs (s : State) (b : Fin 4) : Nat := (s.time.bases.get b).sec.toNat * 1000000000 + (s.time.bases.get b).ns.toNat

/-- Chip time in nanoseconds (00 R7). -/
def chipNs (s : State) : Nat := s.tbNs 0
/-- Chip time in ticks of 3.2 ns, which unqualified intervals are measured in (00 R7). The load of TB0 at entry to RESYNC is no step and shifts no running interval (log 35). -/
def clkInt (s : State) : Int :=
  let b := s.time.bases.get 0
  let units := (b.sec.toNat * 1000000000 + b.ns.toNat) * 4294967296 + b.frac.toNat
  ((units * 5 + 34359738368) / 68719476736 : Nat) - s.time.loadShift

/-- The clock of unqualified intervals, in ticks. -/
def clk (s : State) : Nat := s.clkInt.toNat

/-- Chip-time seconds. -/
def chipS (s : State) : Nat := (s.time.bases.get 0).sec.toNat
/-- Nanoseconds of chip time within its second. -/
def chipSub (s : State) : Nat := (s.time.bases.get 0).ns.toNat

/-- Seconds since RESET_N release (03 R103). -/
def uptimeS (s : State) : Nat := (s.now - s.boot.releasedAt) / ticksPerS

/-- A conference's media time at a TB3 value (04 R106). -/
def mediaAt (c : Conf) (tb3 : Nat) : Nat :=
  match c.origin with
  | some t0 => c.startMedia + (tb3 - t0) * 3 / 62500
  | none => c.startMedia

/-- A conference's media time now; 0 where it does not exist. -/
def media (s : State) (conf : Nat) : Nat :=
  match tget s.model.confs conf with
  | some c => mediaAt c (s.tbNs 3)
  | none => 0

/-- The arrival stamp of a frame in ns of a base: the raw stamp less the interface's RX_LAT_PS (09 R239, R240). -/
def rxNs (s : State) (i : Nat) (b : Fin 4) : Nat :=
  let lat := (tget s.net.ifaces i).elim 0 (fun f => f.rxLatPs.toInt)
  ((((s.tbNs b * 4294967296 + (s.time.bases.get b).frac.toNat : Nat) : Int) * 1000 - lat * 4294967296) / (1000 * 4294967296)).toNat

/-- Media time at which a packet of a leg counts as arrived, by its arrival stamp: a standby takes the primary's latch from the packet's canon record, never its own stamp (12 R311, R315). -/
def arrivalMedia (s : State) (l : Nat) (seq : U16) (conf : Nat) : Nat :=
  match (if s.twin.state = .standby then s.twin.latches.find? (fun x => x.1 == l && x.2.1 == seq) else none), tget s.model.confs conf with
  | some x, some c => mediaAt c x.2.2
  | none, some c => mediaAt c (s.rxNs ((tget s.model.legs l).elim 0 (fun q => q.offer.port.toNat)) 3)
  | _, none => s.media conf

/-! ### Mirroring (12 R308, R312, R314) and random draws (12 R315) -/

/-- Bytes of the frames sent and not acknowledged. -/
def trussHeld (s : State) : Nat := total s.twin.unacked (·.2)

/-- A primary sends an item to its peer: a frame of a 16-byte header, its payload and a CRC, kept until acknowledged; when 8 MiB are held mirroring stops, and the peer leaves synchronisation (12 R308, R314). -/
def mirror (s : State) (payload : Nat) : State :=
  if s.twin.state = .primary ∧ s.twin.linkUp ∧ s.twin.authed then
    if s.twin.mirrorStopped ∨ 8388608 < s.trussHeld + 20 + payload then
      { s with twin := { s.twin with mirrorStopped := true, peerState := if s.twin.peerState = some 3 then some 5 else s.twin.peerState } }
    else { s with twin := { s.twin with unacked := s.twin.unacked ++ [(s.twin.txSeq, 20 + payload)], txSeq := s.twin.txSeq + 1 } }
  else s

/-- Take a random 32-bit value: the primary's Keystone draws it and mirrors it before it is used; a standby consumes the primary's draws in DRAW order (12 R315). -/
def draw32 (s : State) : U32 × State :=
  match (if s.twin.state = .standby then s.twin.draws else []) with
  | d :: rest => (d, { s with twin := { s.twin with draws := rest } })
  | [] => let v := (Config.draw s.draws).truncate 32; (v, ({ s with draws := s.draws + 1 } : State).mirror 4)

end State

/-! ### CRC-32C (06 R159, 07 R200, 13 R336, 15 R387) -/

/-- CRC-32C, reflected, eight bits. -/
def crc32cBits : Nat → U32 → U32
  | 0, h => h
  | n + 1, h => crc32cBits n (if h.getLsbD 0 then (h >>> 1) ^^^ 0x82F63B78 else h >>> 1)

/-- CRC-32C of bytes. -/
def crc32c (b : Bytes) : U32 := ~~~ (b.foldl (fun h x => crc32cBits 8 (h ^^^ x.zeroExtend 32)) 0xFFFFFFFF)

/-! ### Keystone's entropy (16 R417) -/

/-- One sample under the health tests of SP 800-90B: the repetition count and the adaptive proportion. Answers the sample and whether both tests pass it. -/
def Entropy.sample (e : Entropy) : U8 × Bool × Entropy :=
  let x := Config.noise e.taken
  let (reps, prop, window) := Config.healthLimits
  let run := if e.taken ≠ 0 ∧ x = e.last then e.run + 1 else 1
  let fresh := decide (e.seen = 0) || decide (window ≤ e.seen)
  let same := if fresh then 1 else e.same + bit (x == e.first)
  (x, decide (run < reps) && decide (same < prop),
    { taken := e.taken + 1, last := x, run, first := if fresh then x else e.first, seen := if fresh then 1 else e.seen + 1, same })

/-- Thirty-two samples, and whether the tests passed each of them. -/
def Entropy.block (e : Entropy) : Bytes × Bool × Entropy :=
  (List.range 32).foldl (fun (acc : Bytes × Bool × Entropy) _ => let r := acc.2.2.sample; (acc.1 ++ [r.1], acc.2.1 && r.2.1, r.2.2)) ([], true, e)

/-- A key drawn from output that passes the tests: a block with a failed sample is not used, and the next is taken, 64 times at most (DESIGN CHOICE, log 83). -/
def Entropy.key (e : Entropy) : Nat → BitVec 256 × Entropy
  | 0 => (BitVec.ofNat 256 (leVal e.block.1), e.block.2.2)
  | n + 1 => if e.block.2.1 then (BitVec.ofNat 256 (leVal e.block.1), e.block.2.2) else e.block.2.2.key n

/-- Keystone draws a key (16 R417). -/
def State.drawKey (s : State) : BitVec 256 × State :=
  let r := s.ks.entropy.key 64
  (r.1, { s with ks := { s.ks with entropy := r.2 } })

namespace State

/-! ### Mailboxes -/

/-- Mailbox m. -/
def box (s : State) (m : Mbx) : Mailbox := s.pl.boxes.get m

/-- Replace mailbox m. -/
def setBox (s : State) (m : Mbx) (b : Mailbox) : State := { s with pl := { s.pl with boxes := s.pl.boxes.set m b } }

/-- Change mailbox m. -/
def modBox (s : State) (m : Mbx) (f : Mailbox → Mailbox) : State := s.setBox m (f (s.box m))

/-- Raise an event for every subscribed mailbox (03 R94, R103). -/
def raise (s : State) (code : Nat) (status : U8) (data : Bytes) : State :=
  { s with pl := { s.pl with raised := s.pl.raised ++ [{ code := code, status, data }] } }

/-- Raise an event for one mailbox only. -/
def raiseTo (s : State) (m : Mbx) (code : Nat) (status : U8) (data : Bytes) : State :=
  { s with pl := { s.pl with raised := s.pl.raised ++ [{ code := code, status, data, dest := some m }] } }

/-- Raise the result event of a PENDING command (03 R85, R92). -/
def raiseDone (s : State) (m : Mbx) (seq : Nat) (code : Nat) (status : U8) (data : Bytes) : State :=
  { s with pl := { s.pl with raised := s.pl.raised ++ [{ code := code, status, data, dest := some m, seq := some seq }] } }

end State

/-- Every mailbox, in order. -/
def allMbx : List Mbx := List.finRange 17

end Sys2Proof.Machine
end

