-- ==== Sys2Proof/Machine/Cards.lean ====
section
/-! DEFINITION. The command cards' fixed parts, the families and the events by version (03 R88, R89, Tables 3-6 and 3-7, and every card): opcode, first version, request layout length, reply length, whether the command may be basted, whether it runs on a unit that is not PRIMARY. -/

namespace Sys2Proof.Machine

open Sys2Proof

/-- The fixed part of one command card. `req` lists the first version of each request layout with the end of its last field. -/
structure Card where
  opcode : Nat
  since : Nat
  req : List (Nat × Nat)
  /-- bytes of a fixed-length reply that goes to the reply buffer; 0 when it fits the entry or varies -/
  buffer : Nat := 0
  baste : Bool := false
  /-- runs locally on a unit that is not PRIMARY (12 R306) -/
  loc : Bool := false
  /-- the request must be indirect (04 R108) -/
  indirect : Bool := false

/-- The request layout's length in a version. -/
def Card.reqLen (c : Card) (v : Nat) : Nat := c.req.foldl (fun acc p => if p.1 ≤ v then p.2 else acc) 0

/-- Cards of families 0x00 to 0x06 and 0x0E (03, 02, 04 to 08). -/
def cardsA : List Card :=
  [ { opcode := 0x0000, since := 0x14, req := [(0x14, 2)], loc := true },
    { opcode := 0x0001, since := 0x14, req := [(0x14, 8)], loc := true },
    { opcode := 0x0002, since := 0x14, req := [], loc := true },
    { opcode := 0x0003, since := 0x14, req := [], loc := true },
    { opcode := 0x0004, since := 0x20, req := [], loc := true },
    { opcode := 0x0005, since := 0x20, req := [(0x20, 1)], loc := true },
    { opcode := 0x0100, since := 0x20, req := [(0x20, 4)] },
    { opcode := 0x0101, since := 0x20, req := [(0x20, 16)] },
    { opcode := 0x0102, since := 0x20, req := [(0x20, 2)] },
    { opcode := 0x0103, since := 0x20, req := [(0x20, 2)], loc := true },
    { opcode := 0x0200, since := 0x14, req := [(0x14, 8), (0x20, 16)], baste := true },
    { opcode := 0x0201, since := 0x14, req := [(0x14, 3)], baste := true },
    { opcode := 0x0202, since := 0x20, req := [(0x20, 8)], baste := true },
    { opcode := 0x0203, since := 0x14, req := [(0x14, 2)], loc := true },
    { opcode := 0x0204, since := 0x30, req := [], buffer := 232, loc := true },
    { opcode := 0x0300, since := 0x30, req := [(0x30, 896)], loc := true, indirect := true },
    { opcode := 0x0301, since := 0x14, req := [(0x14, 896)], baste := true, indirect := true },
    { opcode := 0x0302, since := 0x20, req := [(0x20, 896)], baste := true, indirect := true },
    { opcode := 0x0303, since := 0x14, req := [(0x14, 2)], baste := true },
    { opcode := 0x0304, since := 0x20, req := [(0x20, 3)], baste := true },
    { opcode := 0x0305, since := 0x14, req := [(0x14, 2)], loc := true } ]

/-- Cards of families 0x04 to 0x06 (05, 07, 08). -/
def cardsB : List Card :=
  [ { opcode := 0x0400, since := 0x20, req := [(0x20, 6)], baste := true },
    { opcode := 0x0401, since := 0x20, req := [(0x20, 2)], baste := true },
    { opcode := 0x0402, since := 0x14, req := [(0x14, 8)], baste := true },
    { opcode := 0x0403, since := 0x14, req := [(0x14, 8), (0x20, 9)], baste := true },
    { opcode := 0x0404, since := 0x20, req := [(0x20, 76)], baste := true },
    { opcode := 0x0405, since := 0x20, req := [(0x20, 9)], baste := true },
    { opcode := 0x0406, since := 0x20, req := [(0x20, 6)], baste := true },
    { opcode := 0x0407, since := 0x20, req := [(0x20, 4)], baste := true },
    { opcode := 0x0408, since := 0x20, req := [(0x20, 9)], loc := true },
    { opcode := 0x0409, since := 0x14, req := [(0x14, 2)], loc := true },
    { opcode := 0x040A, since := 0x30, req := [(0x30, 2)] },
    { opcode := 0x0500, since := 0x14, req := [(0x14, 16)], baste := true },
    { opcode := 0x0501, since := 0x14, req := [(0x14, 2)], baste := true },
    { opcode := 0x0502, since := 0x14, req := [(0x14, 44)], baste := true },
    { opcode := 0x0503, since := 0x30, req := [(0x30, 8)], baste := true },
    { opcode := 0x0504, since := 0x14, req := [(0x14, 28)], baste := true },
    { opcode := 0x0505, since := 0x14, req := [(0x14, 2)], baste := true },
    { opcode := 0x0506, since := 0x14, req := [(0x14, 2)], loc := true },
    { opcode := 0x0507, since := 0x30, req := [(0x30, 4)], loc := true },
    { opcode := 0x0600, since := 0x14, req := [(0x14, 19)], baste := true },
    { opcode := 0x0601, since := 0x14, req := [(0x14, 4)], baste := true },
    { opcode := 0x0602, since := 0x20, req := [(0x20, 23)], baste := true },
    { opcode := 0x0603, since := 0x22, req := [(0x22, 8)], baste := true },
    { opcode := 0x0604, since := 0x20, req := [(0x20, 6)], baste := true },
    { opcode := 0x0605, since := 0x20, req := [(0x20, 16)], baste := true },
    { opcode := 0x0606, since := 0x14, req := [(0x14, 4)], loc := true },
    { opcode := 0x0607, since := 0x14, req := [(0x14, 2)], loc := true } ]

/-- Cards of family 0x0E (02). -/
def cardsE : List Card :=
  [ { opcode := 0x0E00, since := 0x20, req := [(0x20, 4)] },
    { opcode := 0x0E01, since := 0x20, req := [(0x20, 5), (0x31, 12)] },
    { opcode := 0x0E02, since := 0x20, req := [(0x20, 4)] },
    { opcode := 0x0E03, since := 0x20, req := [(0x20, 1)] },
    { opcode := 0x0E04, since := 0x20, req := [], loc := true } ]

/-- Cards of families 0x07 and 0x08 (09). -/
def cardsC : List Card :=
  [ { opcode := 0x0700, since := 0x14, req := [(0x14, 2)] },
    { opcode := 0x0701, since := 0x14, req := [(0x14, 36)] },
    { opcode := 0x0702, since := 0x14, req := [(0x14, 21)], baste := true },
    { opcode := 0x0703, since := 0x14, req := [(0x14, 8)], baste := true },
    { opcode := 0x0704, since := 0x14, req := [(0x14, 36)], baste := true },
    { opcode := 0x0705, since := 0x14, req := [(0x14, 2)], buffer := 184, loc := true },
    { opcode := 0x0800, since := 0x14, req := [(0x14, 4)], loc := true },
    { opcode := 0x0801, since := 0x14, req := [(0x14, 20)], loc := true },
    { opcode := 0x0802, since := 0x14, req := [(0x14, 8)], loc := true },
    { opcode := 0x0803, since := 0x20, req := [(0x20, 1)], loc := true },
    { opcode := 0x0804, since := 0x14, req := [], buffer := 64, loc := true },
    { opcode := 0x0805, since := 0x14, req := [(0x14, 8)], loc := true },
    { opcode := 0x0806, since := 0x20, req := [(0x20, 12)], loc := true },
    { opcode := 0x0807, since := 0x20, req := [], buffer := 96, loc := true } ]

/-- Cards of families 0x09 and 0x0A (10). -/
def cardsD : List Card :=
  [ { opcode := 0x0900, since := 0x14, req := [(0x14, 80)], baste := true },
    { opcode := 0x0901, since := 0x14, req := [(0x14, 18)], baste := true },
    { opcode := 0x0902, since := 0x20, req := [(0x20, 32)], baste := true, indirect := true },
    { opcode := 0x0903, since := 0x20, req := [(0x20, 3)], buffer := 160, loc := true },
    { opcode := 0x0904, since := 0x30, req := [(0x30, 3)], buffer := 160, loc := true },
    { opcode := 0x0A00, since := 0x20, req := [(0x20, 8)] },
    { opcode := 0x0A01, since := 0x20, req := [(0x20, 8)], buffer := 32, loc := true },
    { opcode := 0x0A02, since := 0x22, req := [(0x22, 2)] },
    { opcode := 0x0A03, since := 0x20, req := [(0x20, 3)], buffer := 32, loc := true } ]

/-- Cards of families 0x0B and 0x0C (11, 12). -/
def cardsF : List Card :=
  [ { opcode := 0x0B00, since := 0x30, req := [(0x30, 68)] },
    { opcode := 0x0B01, since := 0x30, req := [(0x30, 8)], baste := true },
    { opcode := 0x0B02, since := 0x30, req := [(0x30, 18)], baste := true },
    { opcode := 0x0B03, since := 0x30, req := [(0x30, 12)], baste := true },
    { opcode := 0x0B04, since := 0x30, req := [(0x30, 2)], buffer := 88, loc := true },
    { opcode := 0x0C00, since := 0x20, req := [(0x20, 6)] },
    { opcode := 0x0C01, since := 0x20, req := [(0x20, 8)] },
    { opcode := 0x0C02, since := 0x20, req := [(0x20, 4)] },
    { opcode := 0x0C03, since := 0x20, req := [], loc := true },
    { opcode := 0x0C04, since := 0x20, req := [], buffer := 64, loc := true } ]

/-- Cards of family 0x0D (13, 18). -/
def cardsG : List Card :=
  [ { opcode := 0x0D00, since := 0x20, req := [(0x20, 24)], buffer := 272, loc := true },
    { opcode := 0x0D01, since := 0x20, req := [(0x20, 96)], baste := true },
    { opcode := 0x0D02, since := 0x20, req := [], buffer := 96, loc := true },
    { opcode := 0x0D03, since := 0x20, req := [(0x20, 8)], loc := true },
    { opcode := 0x0D04, since := 0x20, req := [], loc := true },
    { opcode := 0x0D05, since := 0x20, req := [(0x20, 6)] },
    { opcode := 0x0D06, since := 0x30, req := [(0x30, 4)] },
    { opcode := 0x0D07, since := 0x20, req := [(0x20, 0)], loc := true, indirect := true },
    { opcode := 0x0D08, since := 0x20, req := [(0x20, 8)], loc := true },
    { opcode := 0x0D09, since := 0x20, req := [], buffer := 56, loc := true } ]

/-- Cards of families 0x11 and 0x13 (14). -/
def cardsH : List Card :=
  [ { opcode := 0x1100, since := 0x22, req := [(0x22, 20)], loc := true },
    { opcode := 0x1101, since := 0x22, req := [(0x22, 12)], loc := true },
    { opcode := 0x1102, since := 0x22, req := [(0x22, 1)], buffer := 272, loc := true },
    { opcode := 0x1300, since := 0x24, req := [(0x24, 64)], indirect := true },
    { opcode := 0x1301, since := 0x24, req := [(0x24, 2)] },
    { opcode := 0x1302, since := 0x24, req := [(0x24, 2)], loc := true } ]

/-- Cards of families 0x0F, 0x12 and 0x14 (17, 16, 15). -/
def cardsI : List Card :=
  [ { opcode := 0x0F00, since := 0x20, req := [(0x20, 10)] },
    { opcode := 0x0F01, since := 0x20, req := [(0x20, 3)] },
    { opcode := 0x0F02, since := 0x20, req := [(0x20, 4)] },
    { opcode := 0x0F03, since := 0x20, req := [(0x20, 1)] },
    { opcode := 0x0F04, since := 0x20, req := [(0x20, 2)], buffer := 48, loc := true },
    { opcode := 0x1200, since := 0x30, req := [], loc := true },
    { opcode := 0x1201, since := 0x30, req := [(0x30, 0)], loc := true, indirect := true },
    { opcode := 0x1202, since := 0x30, req := [], loc := true },
    { opcode := 0x1203, since := 0x30, req := [(0x30, 6)], loc := true },
    { opcode := 0x1204, since := 0x30, req := [(0x30, 1)], loc := true },
    { opcode := 0x1400, since := 0x30, req := [(0x30, 6)], loc := true },
    { opcode := 0x1401, since := 0x30, req := [(0x30, 2)], buffer := 48, loc := true },
    { opcode := 0x1402, since := 0x30, req := [], loc := true },
    { opcode := 0x1403, since := 0x30, req := [(0x30, 8)], loc := true } ]

/-- Every card. -/
def cards : List Card := cardsA ++ cardsB ++ cardsC ++ cardsD ++ cardsE ++ cardsF ++ cardsG ++ cardsH ++ cardsI

/-- The card of an opcode. -/
def cardOf (op : Nat) : Option Card := cards.find? (fun c => c.opcode == op)

/-- First version of each family (Table 3-6); family 0x10 is reserved. -/
def familySince (f : Nat) : Option Nat :=
  if f = 0x00 then some 0x14
  else if f = 0x01 then some 0x20
  else if f ≤ 0x09 then some 0x14
  else if f = 0x0A then some 0x20
  else if f = 0x0B then some 0x30
  else if f ≤ 0x0F then some 0x20
  else if f = 0x11 then some 0x22
  else if f = 0x12 then some 0x30
  else if f = 0x13 then some 0x24
  else if f = 0x14 then some 0x30
  else none

/-- Versions the device supports (R87). -/
def supported : List Nat := [0x14, 0x20, 0x21, 0x22, 0x23, 0x24, 0x25, 0x26, 0x30, 0x31, 0x32]

/-- An event the device can raise: its code, first version, and whether sys.subscribe cannot deselect it. -/
structure EventCard where
  code : Nat
  since : Nat
  always : Bool := false

/-- The events of every family. -/
def eventCards : List EventCard :=
  [ { code := 0x0080, since := 0x14 }, { code := 0x0081, since := 0x14, always := true }, { code := 0x0082, since := 0x20 },
    { code := 0x0180, since := 0x20, always := true }, { code := 0x0380, since := 0x14 },
    { code := 0x0480, since := 0x20 }, { code := 0x0481, since := 0x20 },
    { code := 0x0580, since := 0x20 }, { code := 0x0581, since := 0x30 },
    { code := 0x0680, since := 0x20 }, { code := 0x0780, since := 0x14 }, { code := 0x0880, since := 0x20 }, { code := 0x0881, since := 0x20 },
    { code := 0x0980, since := 0x20 }, { code := 0x0A80, since := 0x20 }, { code := 0x0B80, since := 0x30 },
    { code := 0x0C80, since := 0x20 }, { code := 0x0C81, since := 0x20, always := true },
    { code := 0x0D80, since := 0x20 }, { code := 0x0D81, since := 0x20, always := true },
    { code := 0x0E80, since := 0x20, always := true }, { code := 0x0F80, since := 0x20, always := true }, { code := 0x0F81, since := 0x20 },
    { code := 0x1180, since := 0x22 }, { code := 0x1280, since := 0x30 }, { code := 0x1380, since := 0x24 }, { code := 0x1480, since := 0x30 } ]

/-- The event of a code. -/
def eventOf (code : Nat) : Option EventCard := eventCards.find? (fun e => e.code == code)

end Sys2Proof.Machine
end

