-- ==== Sys2Proof/Machine/Mailbox.lean ====
section
/-! DEFINITION. Mailboxes: the completion ring and its reservation, events and their loss, tokens and the fetch rotation, header checks, sessions, halts; and the rows of the mailbox table group (03). -/

namespace Sys2Proof.Machine

open Sys2Proof

/-! ### The completion ring (03 R83 to R85) -/

/-- Entries the completion ring holds. -/
def Mailbox.size (b : Mailbox) : Nat := 2 ^ b.ldLog2

/-- F: free entries of the completion ring (R85). -/
def Mailbox.free (b : Mailbox) : Nat := b.size - (b.pos + 65536 - b.ci) % 65536

/-- C: commands in flight that hold a reserved entry (R85). -/
def Mailbox.inFlight (b : Mailbox) : Nat := (b.inflight.filter (fun c => !c.orphan)).length

/-- Slots not yet fetched (R78). -/
def Mailbox.unfetched (b : Mailbox) : Nat := (b.pi + 512 - b.cmdHead) % 512

/-- Fetching and writing, not quiesced. -/
def Mailbox.live (b : Mailbox) : Bool := b.running && !b.quiesced && !b.halted

/-- The 32 bytes of an entry (Table 3-5). -/
def entryBytes (e : Entry) : Bytes :=
  le 2 e.tag.toNat ++ le 1 e.status.toNat ++ le 1 0 ++ le 2 e.opcode.toNat ++ le 2 (e.head.toNat % 512 + 32768 * bit e.phase) ++ fit 24 e.result

/-- Where the slot of fetch index i starts in host memory (R78). -/
def Mailbox.slotAddr (b : Mailbox) (i : Nat) : Nat := b.ldCmdBase.toNat + i % 256 * 256

/-- Where the entry for position p lies in host memory (R83). -/
def Mailbox.entryAddr (b : Mailbox) (p : Nat) : Nat := b.ldCplBase.toNat + p % b.size * 32

/-- Write to host memory, where the mailbox lives there (R82, R84). -/
def Mailbox.post (b : Mailbox) (addr : Nat) (d : Bytes) : Mailbox := if b.hostRing then { b with posted := b.posted ++ [(addr, d)] } else b

/-- Write an entry at the completion position: in host memory by two posted writes, bytes 0x08 to 0x1F first (R83, R84). -/
def Mailbox.emit (b : Mailbox) (e : Entry) : Mailbox :=
  let e := { e with head := b.cmdHead, phase := (b.pos / b.size) % 2 == 0 }
  let d := entryBytes e
  let b := (b.post (b.entryAddr b.pos + 8) (d.drop 8)).post (b.entryAddr b.pos) (d.take 8)
  { b with ring := b.ring ++ [e], pos := (b.pos + 1) % 65536 }

/-- Set where a command in flight stands. -/
def Mailbox.setStage (b : Mailbox) (seq : Nat) (st : CmdStage) : Mailbox :=
  { b with inflight := b.inflight.map (fun c => if c.seq = seq then { c with stage := st } else c) }

/-- A command leaves the mailbox: its token returns. -/
def Mailbox.dropCmd (b : Mailbox) (seq : Nat) : Mailbox := { b with inflight := b.inflight.filter (fun c => c.seq != seq) }

/-- Put an entry behind those waiting. -/
def Mailbox.enqueue (b : Mailbox) (e : Entry) (seq : Option Nat) (event : Bool := false) : Mailbox := { b with waiting := b.waiting ++ [{ entry := e, seq, event }] }

/-- Write an entry that was waiting: count it, and return or keep its command's token (R92, R103). -/
def Mailbox.emitQueued (b : Mailbox) (q : Queued) : Mailbox :=
  let b := b.emit q.entry
  let b := if q.event then { b with cEvents := b.cEvents + 1 } else { b with cCompleted := b.cCompleted + 1 }
  match q.seq with
  | none => b
  | some n =>
    if !q.event ∧ q.entry.status = St.pending then
      b.setStage n .pending
    else b.dropCmd n

/-- Write waiting entries while positions are free; an entry is never dropped (R84, R85). -/
def Mailbox.drain : List Queued → Mailbox → Mailbox
  | [], b => { b with waiting := [] }
  | q :: qs, b => if b.free = 0 then { b with waiting := q :: qs } else Mailbox.drain qs (b.emitQueued q)

/-- Write the EVENTS_LOST event as soon as the spare entry is free (R85). -/
def Mailbox.flushLost (b : Mailbox) : Mailbox :=
  if b.lostCount ≠ 0 ∧ b.live ∧ b.waiting = [] ∧ b.inFlight < b.free then
    { b.emit { tag := 0xFFFF, status := St.ok, opcode := 0x0081,
               result := fit 24 (le 4 b.lostCount.toNat ++ le 2 b.lostFirst.toNat ++ le 2 b.lostLast.toNat ++ le 4 b.lostFaults.toNat) } with
      cEvents := b.cEvents + 1, lostCount := 0, lostFirst := 0, lostLast := 0, lostFaults := 0 }
  else b

/-- Drop an event and count it (R85, R103). -/
def Mailbox.lose (b : Mailbox) (code : U16) : Mailbox :=
  { b with
    lostFirst := if b.lostCount = 0 then code else b.lostFirst, lostLast := code,
    lostCount := satInc b.lostCount,
    lostFaults := if code = 0x0080 then satInc b.lostFaults else b.lostFaults,
    lostTotal := satInc b.lostTotal, cLost := b.cLost + 1 }

/-- Write what can be written. -/
def Mailbox.settle (b : Mailbox) : Mailbox := (Mailbox.drain b.waiting b).flushLost

/-- Offer an ordinary event: written only while F > C + 1, else dropped and counted; dropped while quiesced (R85, R98). -/
def Mailbox.offer (b : Mailbox) (e : Entry) : Mailbox :=
  let b := b.settle
  if b.live ∧ b.waiting = [] ∧ b.inFlight + 1 < b.free then { b.emit e with cEvents := b.cEvents + 1 }
  else (b.lose e.opcode).settle

/-- The event is selected in the mailbox's session (R103). -/
def Mailbox.selects (b : Mailbox) (code : Nat) : Bool :=
  match b.session, eventOf code with
  | some v, some e => decide (e.since ≤ v.toNat) && (e.always || (((tget b.subs (code / 256)).getD 0).getLsbD (code % 256 - 0x80)))
  | _, _ => false

/-- An event's entry, in the mailbox's version (R90). -/
def Mailbox.eventEntry (b : Mailbox) (r : Raised) : Entry :=
  { tag := 0xFFFF, status := if b.session = some 0x14 then status14 r.status else r.status, opcode := r.code, result := fit 24 r.data }

/-- Offer one raised event to a mailbox. A result event uses its command's reserved entry; one whose command was orphaned is discarded, but a seam-done event goes to the next session (R85, R99, R100). -/
def Mailbox.take (b : Mailbox) (r : Raised) : Mailbox :=
  match r.seq with
  | none =>
    if b.selects r.code.toNat then b.offer (b.eventEntry r)
    else if r.code = 0x0180 ∧ b.session = none ∧ r.dest.isSome then { b with held := b.held ++ [b.eventEntry r] }
    else b
  | some n =>
    match b.inflight.find? (fun c => c.seq == n) with
    | none => b
    | some c =>
      if c.orphan then
        let b := b.dropCmd n
        if r.code = 0x0180 then
          if b.session = none then { b with held := b.held ++ [b.eventEntry r] }
          else if b.selects 0x0180 then b.offer (b.eventEntry r) else b
        else b
      else (b.enqueue (b.eventEntry r) (some n) true).settle

/-- Vector e may send its message: MSI-X is enabled, and neither the function nor the vector is masked (R76, R86; PRESUMED, PCI Express, log 4). -/
def Mailbox.vectorOpen (b : Mailbox) (e : Nat) : Bool :=
  b.msixEnable && !b.msixMask && !((tget b.msix e).getD (BitVec.ofNat 128 (2 ^ 96))).getLsbD 96

namespace State

/-! ### Interrupts (03 R86) -/

/-- Send the mailbox interrupt, or set its pending bit where vector 0 may not send (R86). -/
def sendIrq (s : State) (m : Mbx) : State :=
  s.modBox m (fun b =>
    if b.vectorOpen 0 then { b with irqHeld := false, lastIrq := some s.clk, irqSent := b.irqSent + 1 }
    else { b with irqHeld := false, msixPba := b.msixPba ||| 1 })

/-- The holdoff after the last interrupt still runs. -/
def inHoldoff (s : State) (m : Mbx) : Bool :=
  match (s.box m).lastIrq with
  | some t => decide (s.clk < t + ticksOfUs (s.box m).ldHoldoff)
  | none => false

/-- Raise the mailbox interrupt, subject to HOLDOFF_US (R86); mailbox 16 has the alert pin instead. -/
def irq (s : State) (m : Mbx) : State :=
  if m = 16 then s
  else if s.inHoldoff m then s.modBox m (fun b => { b with irqHeld := true }) else s.sendIrq m

/-- SMB_ALERT_N is asserted while mailbox 16 holds an unread entry (R102). -/
def alert (s : State) : State := { s with pins := { s.pins with smbAlert := !(s.box 16).ring.isEmpty } }

/-- Replace a mailbox, and raise its interrupt if entries were written (R86). -/
def putBox (s : State) (m : Mbx) (b : Mailbox) : State :=
  let wrote := b.pos != (s.box m).pos
  let s := s.setBox m b
  let s := if wrote then s.irq m else s
  if m = 16 then s.alert else s

/-- Offer one raised event to the mailboxes it is for. -/
def offerTo (s : State) (r : Raised) : List Mbx → State
  | [] => s
  | m :: ms =>
    let s := if r.dest = none ∨ r.dest = some m then s.putBox m ((s.box m).take r) else s
    s.offerTo r ms

/-- Offer the raised events, in the order they were raised (R94). -/
def offerAll (s : State) : List Raised → State
  | [] => s
  | r :: rs => (s.offerTo r allMbx).offerAll rs

/-- The command that raised the event still goes on: the event waits for its completion entry (R94). -/
def waitsFor (s : State) (r : Raised) : Bool := r.cause.any (fun n => allMbx.any (fun m => (s.box m).inflight.any (fun c => c.seq == n && c.stage == .acting)))

/-- End of a command: its events are offered to the mailboxes (R94). -/
def fin (s : State) : State :=
  let rs := s.pl.raised
  ({ s with pl := { s.pl with raised := rs.filter s.waitsFor } } : State).offerAll (rs.filter (fun r => !s.waitsFor r))

/-- The events raised so far are those of a command that goes on acting (R94). -/
def eventsOf (s : State) (seq : Nat) : State := { s with pl := { s.pl with raised := s.pl.raised.map (fun r => { r with cause := r.cause.orElse (fun _ => some seq) }) } }

/-! ### Completion (03 R82, R92) -/

/-- Write a command's completion entry, or hold it until a position is free; a reply above 24 bytes goes to the reply buffer before it, and word 0 counts it (R81, R82). A DMA error on the reply buffer is FAULT with word 0 = 2 (R81). -/
def complete (s : State) (m : Mbx) (c : Cmd) (r : Rep) : State :=
  let b := s.box m
  if c.orphan then s.setBox m (b.dropCmd c.seq)
  else
    let r := if 24 < r.data.length ∧ m ≠ 16 ∧ c.bufErr = 2 then Rep.fail St.fault [2] else r
    let long := 24 < r.data.length
    let result := if long then fit 24 (le 4 r.data.length) else fit 24 r.data
    let status := if c.hdr.version = 0x14 then status14 r.status else r.status
    let b := if long then { b.post c.hdr.replyAddr.toNat r.data with replyBuf := r.data } else b
    let b := (b.setStage c.seq .done).enqueue { tag := c.hdr.tag, status, opcode := c.hdr.opcode, result } (some c.seq)
    let s := if long ∧ m = 16 then { s with pl := { s.pl with smb := { s.pl.smb with reply := r.data ++ s.pl.smb.reply.drop r.data.length } } } else s
    s.putBox m b.settle

/-! ### Sessions (03 R88, R100) -/

/-- The session ends: subscriptions are cleared; the caller unpicks the open seams (R100). -/
def dropSession (s : State) (m : Mbx) : State := s.modBox m (fun b => { b with session := none, subs := [] })

/-- The mailboxes' posted writes to host memory, of each mailbox in their order (03 R82 to R84). -/
def postedAll (s : State) : List (Nat × Bytes) := allMbx.flatMap (fun m => (s.box m).posted)

/-- Host memory once the mailboxes' posted writes have landed. -/
def landed (s : State) : List Host.Cell := s.postedAll.foldl (fun h w => memPut h w.1 w.2) s.mem.host

/-- The posted writes have landed in host memory: a later write of a channel comes after them. -/
def landPosted (s : State) : State :=
  { s with pl := { s.pl with boxes := s.pl.boxes.map (fun b => { b with posted := [] }) }, mem := { s.mem with host := s.landed } }

/-! ### Fetching (03 R92, R93) -/

/-- Tokens the mailboxes hold from the shared part of the pool. -/
def sharedUsed (s : State) : Nat := total allMbx (fun m => ((s.box m).inflight.filter (fun c => !c.fromReserve)).length)

/-- Tokens of the pool that are not reserved for a session. -/
def sharedTokens (s : State) : Nat := 2048 - 8 * (allMbx.filter (fun m => (s.box m).session.isSome)).length

/-- A token for the mailbox: none, from the shared part, or from its reserve; the device holds at most 2,048 (R92). -/
def tokenFor (s : State) (m : Mbx) : Option Bool :=
  if 256 ≤ (s.box m).inflight.length then none
  else if 2048 ≤ total allMbx (fun m => (s.box m).inflight.length) then none
  else if s.sharedUsed < s.sharedTokens then some false
  else if (s.box m).session.isSome ∧ ((s.box m).inflight.filter (fun c => c.fromReserve)).length < 8 then some true
  else none

/-- Tokens free device-wide, reserves included (03 sys.info). -/
def tokensFree (s : State) : Nat := 2048 - total allMbx (fun m => (s.box m).inflight.length)

/-- The mailbox has an unfetched slot and room for its completion, and no fenced command waits (R92, R93). -/
def wants (s : State) (m : Mbx) : Bool :=
  let b := s.box m
  s.boot.ready && !s.pl.down && b.live && !b.inflight.any (fun c => c.stage == .fenced && !c.orphan) &&
    decide (b.inFlight + 2 ≤ b.free) &&
    (if m = 16 then !s.pl.smb.queue.isEmpty else decide (0 < b.unfetched))

/-- The rotation from the mailbox whose turn is next. -/
def rotation (s : State) : List Mbx := allMbx.drop s.pl.rot ++ allMbx.take s.pl.rot

/-- The mailbox served next, if any (R92). -/
def nextTurn (s : State) : Option Mbx := s.rotation.find? (fun m => s.wants m && (s.tokenFor m).isSome)

/-- Count TOKEN_WAITS of the mailboxes skipped before m for lack of a token (R103). -/
def countWaits (s : State) (m : Mbx) : List Mbx → State
  | [] => s
  | k :: ks => if k = m then s else
    (if s.wants k then s.modBox k (fun b => { b with cTokenWaits := b.cTokenWaits + 1 }) else s).countWaits m ks

/-- Another indirect command of mailbox 16 is in flight (R102). -/
def smbIndirectBusy (s : State) (seq : Nat) : Bool :=
  (s.box 16).inflight.any (fun c => c.hdr.indirect && c.seq != seq && c.stage != .fenced && c.stage != .done)

/-- Orders 1 to 3 of Table 3-8 that the header decides (R81, R82, R88); in recovery only the sys family and the image commands exist (18 R463). -/
def headerCheck (s : State) (m : Mbx) (c : Cmd) : Option Rep :=
  let h := c.hdr
  let op := h.opcode.toNat
  let v := h.version.toNat
  let lim := if m = 16 then 4096 else 16777216
  let given := if h.indirect then h.reqLen.toNat else h.length.toNat
  firstFail
    [ match (s.box m).session with
      | none => need (op == 0) St.badVersion
      | some w => need (op == 0 || (supported.contains v && v / 16 == w.toNat / 16 && decide (v ≤ w.toNat))) St.badVersion,
      match cardOf op with
      | none => some (Rep.fail St.notInVersion)
      | some k =>
        firstFail
          [ need (!s.boot.recovery || op / 256 == 0 || [0x0D07, 0x0D08, 0x0D09].contains op) St.notInVersion,
            need (decide (k.since ≤ v) && (familySince (op / 256)).any (fun f => decide (f ≤ v))) St.notInVersion,
            if h.indirect then need (h.length == 32 && decide (h.reqLen.toNat ≤ lim) && decide (h.replyLen.toNat ≤ lim)) St.length
            else need (decide (h.length.toNat ≤ 240) && !k.indirect) St.length,
            need (decide (k.reqLen v ≤ given)) St.length,
            need (op != 3 || decide (given ≤ 24)) St.length,
            need (k.buffer == 0 || (h.indirect && decide (k.buffer ≤ h.replyLen.toNat))) St.length [k.buffer] ] ]

/-- Order 4 and the header's part of order 5 of Table 3-8 (R51, R80, R81, R102). -/
def headerFields (s : State) (m : Mbx) (c : Cmd) : Option Rep :=
  let h := c.hdr
  firstFail
    [ need (!(m == 16 && h.indirect && s.smbIndirectBusy c.seq)) St.busy,
      need (m == 16 || !h.indirect || ((h.reqLen == 0 || h.reqAddr.toNat % 8 == 0) && (h.replyLen == 0 || h.replyAddr.toNat % 8 == 0))) St.badField,
      need (h.tag != 0xFFFF) St.badField,
      need (h.seam == 0xFFFF || (cardOf h.opcode.toNat).any (fun k => k.baste)) St.badField ]

/-- Start a fetched command: it fails a check of its header's lengths and completes, or is ready to run. A DMA error on its request buffer is FAULT with word 0 = 1 (R81). -/
def startCmd (s : State) (m : Mbx) (c : Cmd) : State :=
  match firstFail [s.headerCheck m c, need (!(m != 16 && c.hdr.indirect && c.hdr.reqLen != 0 && c.bufErr == 1)) St.fault [1]] with
  | some r => s.complete m c r
  | none => s.modBox m (fun b => b.setStage c.seq .ready)

/-- The header as the session's version reads it: at 1.4 FENCE and SEAM are ignored; sys.hello ignores VERSION; sys.goodbye, and sys.hello on a session, act as FENCE (R90, R46, R103). -/
def readHeader (b : Mailbox) (h : SlotHdr) : SlotHdr :=
  let h := if b.session = some 0x14 then { h with fence := false, seam := 0xFFFF } else h
  if h.opcode = 0 then { h with version := 0x32, fence := h.fence || b.session.isSome }
  else if h.opcode = 4 then { h with fence := true } else h

/-- The slot's header in its 256 bytes (Tables 3-3 and 3-4). -/
def parseSlot (b : Bytes) : SlotHdr :=
  let f (off n : Nat) : Nat := leVal ((b.drop off).take n)
  { opcode := f 0 2, version := f 2 1, indirect := f 3 1 % 2 == 1, fence := f 3 1 / 2 % 2 == 1, tag := f 4 2, seam := f 6 2, length := f 8 2,
    reqAddr := f 0x10 8, reqLen := f 0x18 4, replyLen := f 0x1C 4, replyAddr := f 0x20 8, arg := f 0x28 1 }

/-- The request of a fetched command: the inline payload, or the request buffer, which on mailbox 16 is the staging buffer (R80 to R82, R102). -/
def requestOf (s : State) (m : Mbx) (h : SlotHdr) (slot request : Bytes) : Bytes :=
  if h.indirect then (if m = 16 then s.pl.smb.staging else request).take h.reqLen.toNat
  else (slot.drop 16).take h.length.toNat

/-- Fetch the slot whose turn it is (R92, R93): it takes a token and a reserved entry, and starts unless FENCE holds it. -/
def fetch (s : State) (m : Mbx) (slot request : Bytes) (bufErr : Fin 3) (reserve : Bool) : State :=
  let s := s.countWaits m s.rotation
  let b := s.box m
  let h := readHeader b (parseSlot slot)
  let held := h.fence && b.inflight.any (fun c => !c.orphan)
  let c : Cmd := { seq := s.pl.nextSeq, hdr := h, req := s.requestOf m h slot request, bufErr, stage := .fenced, fromReserve := reserve }
  let s := s.setBox m { b with
    inflight := b.inflight ++ [c], cmdHead := (b.cmdHead + 1) % 512, cFetched := b.cFetched + 1 }
  let s := { s with pl := { s.pl with nextSeq := s.pl.nextSeq + 1, rot := (m.val + 1) % 17 } }
  if held then s else s.startCmd m c

end State

end Sys2Proof.Machine
end

