-- ==== Sys2Proof/Machine/Pledom.lean ====
section
/-! DEFINITION. Running one fetched Pledom command: the order of checks from order 5 on (03 Table 3-8), the holders of state items, basting (02 R47 to R51) and the completion. Every Pledom row of the table is one call of `State.run`. -/

namespace Sys2Proof.Machine

open Sys2Proof

/-! ### Islands (01 R10) -/

/-- An island identifier. -/
def island (region block cell : Nat) : U16 := BitVec.ofNat 16 (region * 4096 + block * 64 + cell)
/-- The identifier of a whole block. -/
def blockIsland (region block : Nat) : U16 := island region block 0x3F
/-- Region code of an identifier. -/
def regionOf (i : U16) : Nat := i.toNat / 4096 % 8
/-- Block number of an identifier. -/
def blockNo (i : U16) : Nat := i.toNat / 64 % 64
/-- Cell number of an identifier. -/
def cellNo (i : U16) : Nat := i.toNat % 64
/-- The block an island lies in. -/
def blockOfIsland (i : U16) : U16 := blockIsland (regionOf i) (blockNo i)

/-- Cells of a block (Table 1-1); 0 where there is no such block. -/
def cellsOf (region block : Nat) : Nat :=
  match region with
  | 0 => if block < 32 then 16 else 0
  | 1 => if block < 12 then 12 else if block < 14 then 8 else 0
  | 2 => match block with | 0 => 6 | 1 => 16 | 2 => 16 | 3 => 8 | _ => 0
  | 3 => if block < 2 then 4 else 0
  | 4 => if block < 12 then 2 else 0
  | 5 => match block with | 0 => 3 | 1 => 4 | _ => 0
  | 6 => match block with | 0 => 4 | 1 => 5 | 2 => 2 | _ => 0
  | 7 => if block = 0 then 2 else 0
  | _ => 0

/-- A seam counts as in progress (02 R44). -/
def Seam.inProgress (k : Seam) : Bool := k.state == .open || k.state == .confirming || k.state == .committed

/-- A seam still holds an item: an entry of a participant that has not applied (R49, R59). -/
def Seam.holds (k : Seam) (i : Item) : Bool :=
  k.inProgress && k.entries.any (fun e => e.item == i && !k.parts.any (fun p => p.cell == e.cell && p.applied))

namespace State

/-! ### Seams, as commands see them (02) -/

/-- The seam in progress with an identifier. -/
def seamLive (s : State) (id : U16) : Option Seam := s.seams.list.find? (fun k => k.id == id && k.inProgress)

/-- Seams in progress (R44). -/
def seamsLive (s : State) : List Seam := s.seams.list.filter (fun k => k.inProgress)

/-- A Pier seam for a pattern change is in progress (R69). -/
def patternSeam (s : State) : Bool := s.seamsLive.any (fun k => k.owner == .pattern)

/-- Change every seam with an identifier that is in progress. -/
def modSeam (s : State) (id : U16) (f : Seam → Seam) : State :=
  { s with seams := { s.seams with list := s.seams.list.map (fun k => if k.id == id && k.inProgress then f k else k) } }

/-- The open seam of mailbox m that a command bastes into (R45, R47). -/
def seamForBasting (s : State) (m : Mbx) (id : U16) : Option Seam :=
  s.seams.list.find? (fun k => k.id == id && k.state == .open && k.owner == .host m)

/-- The identifier of a seam in progress that holds an item of a kind (R49). -/
def holderOf (s : State) (p : Item → Bool) : Option U16 :=
  (s.seams.list.find? (fun k => k.entries.any (fun e => p e.item && k.holds e.item))).map (·.id)

/-- The commands basted into seams in progress, whose room stays reserved (R47). -/
def basts (s : State) : List Instr := s.seamsLive.flatMap (fun k => k.cmds.map (·.instr))

/-- The Sound cell that runs a conference: the first in service from the place the placement of Pier gives it (01 R23, 14 R366). -/
def soundCell (s : State) (conf : Nat) : U16 :=
  let start := (Config.soundCell conf).1 % 32 * 16 + (Config.soundCell conf).2 % 16
  let at_ (k : Nat) : U16 := island 0 ((start + k) % 512 / 16) ((start + k) % 16)
  let out (i : U16) : Bool := (s.fab.cells.any (fun p => p.1 == i.toNat && (p.2.fenced || p.2.retired)))
  match (List.range 512).find? (fun k => !out (at_ k)) with
  | some k => at_ k
  | none => at_ 0

/-- The conference of a leg, or 0. -/
def confOfLeg (s : State) (l : Nat) : Nat := (s.model.legs.find? (fun p => p.1 == l)).elim 0 (fun p => p.2.conf)
/-- The conference of a mix: mix c below 8,192 is conference c's main mix (05 R138). -/
def confOfMix (s : State) (x : Nat) : Nat := (s.snd.mixes.find? (fun p => p.1 == x)).elim (x % 8192) (fun p => p.2.conf)
/-- The compose cell of a layout. -/
def composeCell (s : State) (y : Nat) : U16 :=
  let lane := ((s.pic.layouts.find? (fun p => p.1 == y)).bind (fun p => p.2.cells.head?)).elim 0 (·.1)
  island 1 (12 + lane / 8) (lane % 8)

/-- The cell that holds a state item (R48, Table 2-2). Admission records, roster references and filters lie in Pier and in the Ethernet block. -/
def itemCell (s : State) (i : Item) : U16 :=
  match i with
  | .confSpeakers c | .threshold c => s.soundCell c
  | .listen l | .route l _ | .gainIn l | .gainRoute l _ | .chain l | .jitter l => s.soundCell (s.confOfLeg l)
  | .mix x | .gainMaster x | .mixEncode x => s.soundCell (s.confOfMix x)
  | .layout y | .tile y _ | .region y _ => s.composeCell y
  | .feed f => s.composeCell ((s.pic.feeds.find? (fun p => p.1 == f)).elim 0 (fun p => p.2.layout))
  | .fwdEntry e => island 2 1 (Config.fwdCell e % 16)
  | .fwdSource x | .fwdLine x => island 2 1 (Config.fwdCell x % 16)
  | .netPort p | .group p _ => island 2 0 (p % 2)
  | .iface i | .addr i _ | .netRoute i _ _ => island 2 0 (i / 4 % 2)
  | .schedPort p _ | .gate p => island 2 0 (2 + p % 2)
  | .legQueue l => island 2 2 (l / 4096 % 16)
  | _ => island 6 0 0

/-- The identifier of another seam that holds one of the items (R49). -/
def holder (s : State) (items : List Item) (own : U16) : Option U16 :=
  (s.seams.list.find? (fun k => k.id != own && items.any (fun i => k.holds i))).map (·.id)

end State

/-- What one Pledom command checks, in the order of Table 3-8. -/
structure Checks where
  /-- order 3: lengths that depend on the request's content -/
  pre : Option Rep := none
  /-- order 5: every field in range on its own -/
  fields : Bool := true
  /-- order 5: a field out of range that the reply names -/
  word : Option Rep := none
  /-- order 6: the unit may change what this command changes, beyond the card's own rule -/
  claimed : Bool := true
  /-- orders 7 and 8 -/
  objects : List (Option Rep) := []
  /-- conference that the changed items belong to (02 R43); none: not a conference's object -/
  scope : Option Nat := none
  /-- order 9: items changed, which no other seam may hold (02 R49) -/
  items : List Item := []
  /-- order 9: items that the command changes beside those it bastes, as a deletion does what lies in the object -/
  also : List Item := []
  /-- order 9: other conflicting operations -/
  busy : List (Option Rep) := []
  /-- orders 10 to 13; of a command that can be basted, orders 10 to 12 -/
  rest : List (Option Rep) := []
  /-- order 13 of a command that can be basted -/
  last : List (Option Rep) := []

/-- One Pledom command: its opcode, its checks, its effect applied now, and what basting it does. -/
structure Row where
  opcode : Nat
  checks : Cmd → State → Checks
  effect : Cmd → State → State × Rep
  /-- the fields of the request at a version of Pledom, as the card lays them out: byte offset, first bit, bits, and the value the row's operands give the field -/
  layout : Nat → List (Nat × Nat × Nat × Nat) := fun _ => []
  /-- basting: the reservation, the reply, and the command its cell will apply -/
  baste : Cmd → State → State × Rep × Option (Instr × Nat) := fun _ s => (s, Rep.ok, none)

/-- A field of a request holds a value; bytes left out read as 0 (00 R5, 03 R88). -/
def fieldHolds (req : Bytes) (f : Nat × Nat × Nat × Nat) : Bool :=
  leVal ((req.drop f.1).take ((f.2.1 + f.2.2.1 + 7) / 8)) / 2 ^ f.2.1 % 2 ^ f.2.2.1 == f.2.2.2 % 2 ^ f.2.2.1

/-- The command's request, read as its slot's VERSION lays it out, gives the row's operands; reserved bits are ignored (00 R6, 03 R88). -/
def Row.reads (row : Row) (c : Cmd) : Bool := (row.layout c.hdr.version.toNat).all (fieldHolds c.req)

namespace State

/-- The commands that are ready to run, over all mailboxes. -/
def readyCmds (s : State) : List Cmd := allMbx.flatMap (fun m => (s.box m).inflight.filter (fun c => c.stage == .ready))

/-- The oldest command of the mailbox that is ready, where it has the opcode and none of any mailbox was fetched before it: the one a row of that opcode runs. Commands on one object run in fetch order whichever mailbox they came from; the model keeps the fetch order for all (R93; DESIGN CHOICE, log 72). -/
def readyCmd (s : State) (m : Mbx) (op : Nat) : Option Cmd :=
  ((s.box m).inflight.find? (fun c => c.stage == .ready)).filter (fun c => c.hdr.opcode.toNat == op && s.readyCmds.all (fun d => decide (c.seq ≤ d.seq)))

/-- A unit of a formed pair other than the PRIMARY (12 R306). -/
def notPrimary (s : State) : Bool :=
  s.twin.state == .joining || s.twin.state == .resync || s.twin.state == .standby || s.twin.state == .outOfSync

/-- The reply is longer than the room the command gave it (03 R82). -/
def tooLong (c : Cmd) (r : Rep) : Bool := decide (24 < r.data.length) && decide (c.hdr.replyLen.toNat < r.data.length)

/-- Orders 3 to 13 of Table 3-8, as far as they were not checked at the start (03 R95). -/
def verdict (s : State) (m : Mbx) (c : Cmd) (k : Checks) : Option Rep :=
  let basting := c.hdr.seam != 0xFFFF
  firstFail
    [ k.pre,
      s.headerFields m c,
      need k.fields St.badField,
      k.word,
      need (!(s.notPrimary && !(cardOf c.hdr.opcode.toNat).any (·.loc))) St.notClaimed,
      need k.claimed St.notClaimed,
      need (!basting || (s.seamForBasting m c.hdr.seam).isSome) St.noObject,
      firstFail k.objects,
      need (!basting || ((s.seamForBasting m c.hdr.seam).any (fun q => q.scope == none || (q.scope == k.scope)))) St.badField,
      (match s.holder (k.items ++ k.also) c.hdr.seam with
       | some id => some (Rep.fail St.busy [id.toNat])
       | none => none),
      firstFail k.busy,
      firstFail k.rest,
      need (!basting || (s.seamForBasting m c.hdr.seam).any (fun q =>
        decide (q.entries.length + (k.items.filter (fun i => !q.entries.any (fun e => e.item == i))).length ≤ 4096))) St.noCapacity,
      firstFail k.last ]

/-- The items that seams in progress hold and that satisfy a test. -/
def heldItems (s : State) (p : Item → Bool) : List Item := (s.seamsLive.flatMap (fun k => k.entries.map (·.item))).filter p

/-- Write the entries into the shadow state of every cell that the command touches, and the command beside them (02 R47, R48): an item already held by the seam is replaced, and so is the same command for the same items, but for one that created its object (R49). -/
def enterSeam (s : State) (m : Mbx) (c : Cmd) (items : List Item) (i : Instr × Nat) : State :=
  s.modSeam c.hdr.seam (fun q =>
    let opcode := c.hdr.opcode.toNat
    let cells := match (items.map s.itemCell).eraseDups with | [] => [0x6000] | l => l
    let creates (d : SeamCmd) : Bool := match d.instr with | .layoutFeed _ f => f.feed == 0xFFFF | _ => false
    { q with
      entries := q.entries.filter (fun e => !items.contains e.item) ++ items.map (fun it => { cell := s.itemCell it, item := it }),
      cmds := q.cmds.filter (fun d => creates d || d.opcode != opcode || d.items != items) ++
        cells.map (fun cell => { cell, mbx := m, version := c.hdr.version, instr := i.1, tag := i.2, items, opcode }) })

/-- Complete a command that went on acting, by its number. -/
def finish (s : State) (m : Mbx) (seq : Nat) (r : Rep) : State :=
  match (s.box m).inflight.find? (fun c => c.seq == seq) with
  | some c => s.complete m c r
  | none => s

/-- A primary mirrors a command that took effect to its peer (12 R312). -/
def mirrorCmd (s : State) (op : Nat) (r : Rep) : State :=
  if (cardOf op).any (fun k => k.loc) ∨ (r.status ≠ St.ok ∧ r.status ≠ St.pending) then s else s.mirror (Config.configBytes op)

end State

/-- The card's checks with the room for the reply, which is checked before the command acts (03 R82). -/
def Row.allChecks (row : Row) (c : Cmd) (s : State) : Checks :=
  let k := row.checks c s
  let r := (row.effect c s).2
  { k with pre := firstFail [k.pre, need (!(c.hdr.seam == 0xFFFF && State.tooLong c r)) St.length [r.data.length]] }

namespace State

/-- Run the oldest ready command of mailbox m where it has the row's opcode and operands: its checks in order, then its effect or its basting, then its completion and the events it raised. With no such command nothing happens. -/
def run (s : State) (m : Mbx) (row : Row) : State :=
  match s.readyCmd m row.opcode with
  | none => s
  | some c =>
    let k := row.allChecks c s
    if !row.reads c then s
    else match s.verdict m c k with
    | some r => (s.complete m c r).fin
    | none =>
      if c.hdr.seam = 0xFFFF then
        let (t, r) := row.effect c s
        let t := t.mirrorCmd row.opcode r
        if r.later then ((t.eventsOf c.seq).modBox m (fun b => b.setStage c.seq .acting)).fin else (t.complete m c r).fin
      else
        match row.baste c s with
        | (t, r, some i) => (((t.enterSeam m c k.items i).mirrorCmd row.opcode r).complete m c r).fin
        | (t, r, none) => (t.complete m c r).fin

end State

end Sys2Proof.Machine
end

