-- ==== Sys2Proof/Machine/Operands.lean ====
section
/-! DEFINITION. The operand forms of the requests: which codec entries the device supports (04 R109, 05 Table 5-1, 06 Tables 6-1 and 6-2), the range checks of a leg offer (04 Tables 4-2 and 4-3), of rates, gains and sizes. -/

namespace Sys2Proof

open Sys2Proof.Machine

/-! ### Codec entries -/

/-- The entry names an audio codec (Table 4-3). -/
def CodecEntry.isAudio (e : CodecEntry) : Bool := decide (1 ≤ e.codec.toNat) && decide (e.codec.toNat ≤ 5)

/-- An audio entry within Table 5-1 (05 R122). -/
def CodecEntry.audioOk (e : CodecEntry) : Bool :=
  let ch := e.channels.toNat
  let hz := e.clockHz.toNat
  match e.codec.toNat with
  | 1 => hz == 48000 && (ch == 1 || ch == 2)
  | 2 | 3 | 4 => hz == 8000 && ch == 1
  | 5 => [8000, 16000, 24000, 32000, 44100, 48000].contains hz && (ch == 1 || ch == 2)
  | _ => false

/-- Temporal layers, 0 read as 1 (Table 4-3). -/
def CodecEntry.layersT (e : CodecEntry) : Nat := if e.temporal = 0 then 1 else e.temporal.toNat
/-- Spatial layers, 0 read as 1 (Table 4-3). -/
def CodecEntry.layersS (e : CodecEntry) : Nat := if e.spatial = 0 then 1 else e.spatial.toNat

/-- Profile code of PROFILE_LEVEL (Table 6-2). -/
def CodecEntry.profile (e : CodecEntry) : Nat := e.profileLevel.toNat / 256
/-- Level byte of PROFILE_LEVEL (Table 6-2). -/
def CodecEntry.level (e : CodecEntry) : Nat := e.profileLevel.toNat % 256

/-- Video decode support of an entry (06 R154, R155). A level byte of 0 states no level. -/
def CodecEntry.videoRecvOk (e : CodecEntry) : Bool :=
  let p := e.profile
  let lv := e.level
  let t3 := decide (e.layersT ≤ 3)
  let s1 := e.layersS == 1
  e.clockHz.toNat == 90000 &&
  match e.codec.toNat with
  | 0x10 => [0x42, 0x4D, 0x64].contains p && (lv == 0 || lv == 9 || (decide (10 ≤ lv) && decide (lv ≤ 51))) && t3 && s1
  | 0x11 => [0x01, 0x02].contains p && (lv == 0 || (decide (10 ≤ lv) && decide (lv ≤ 51))) && t3 && s1
  | 0x12 => p == 0 && decide (lv ≤ 51) && t3 && s1
  | 0x13 => [0x00, 0x02].contains p && (lv == 0 || (decide (10 ≤ lv) && decide (lv ≤ 51))) && t3 && s1
  | 0x14 => p == 0 && (lv == 0 || (decide (20 ≤ lv) && decide (lv ≤ 51))) && t3 && decide (e.layersS ≤ 3)
  | _ => false

/-- Video that may be sent to the endpoint: forwarded codecs of Table 6-1, a level above 51 read as 51 (06 R155). -/
def CodecEntry.videoSendOk (e : CodecEntry) : Bool :=
  let lv := if 51 < e.level then 51 else e.level
  CodecEntry.videoRecvOk { e with profileLevel := BitVec.ofNat 16 (e.profile * 256 + lv) }

/-- The device encodes the entry's codec and profile (06 Table 6-1): VP9 and H.264 Main it only forwards. -/
def CodecEntry.encodes (e : CodecEntry) : Bool := e.codec != 0x13 && !(e.codec == 0x10 && e.profile == 0x4D)

/-- PROFILE_LEVEL of what the device encodes for an entry: never above level 5.1 (06 R155). -/
def CodecEntry.encodeLevel (e : CodecEntry) : U16 := BitVec.ofNat 16 (e.profile * 256 + min 51 e.level)

/-- The entry may be used for a source kind in the receive direction (04 R109). -/
def CodecEntry.recvFor (e : CodecEntry) (kind : Nat) : Bool := e.recv && (if kind = 0 then e.audioOk else e.videoRecvOk)
/-- The entry may be used for a source kind in the send direction (04 R109). -/
def CodecEntry.sendFor (e : CodecEntry) (kind : Nat) : Bool := e.send && (if kind = 0 then e.audioOk else e.videoSendOk)

/-- The first usable entry for a kind, receive direction (04 R109). -/
def LegOffer.recvOf (o : LegOffer) (kind : Nat) : Option CodecEntry := o.codecs.find? (fun e => CodecEntry.recvFor e kind)
/-- The first usable entry for a kind, send direction (04 R109). -/
def LegOffer.sendOf (o : LegOffer) (kind : Nat) : Option CodecEntry := o.codecs.find? (fun e => CodecEntry.sendFor e kind)

/-- The offer declares that the endpoint sends the kind. -/
def LegOffer.sends (o : LegOffer) (kind : Nat) : Bool := o.sources.getLsbD kind

/-- The profile of the leg's chosen SEND audio codec (04 R118). -/
def LegOffer.audioProfile (o : LegOffer) : Option (Nat × Nat × Nat) :=
  (LegOffer.sendOf o 0).map (fun e => (e.codec.toNat, e.clockHz.toNat, e.channels.toNat))

/-- NO_SEND: bit k set where kind k has no usable SEND entry (04 R109). -/
def LegOffer.noSend (o : LegOffer) : Nat :=
  total (List.range 4) (fun k => if (LegOffer.sendOf o k).isNone then 2 ^ k else 0)

/-- The offer as a slot of a version reads it: EMERGENCY and ENDPOINT_KEY exist from 2.0 (04 Table 4-2). -/
def LegOffer.atVersion (o : LegOffer) (v : U8) : LegOffer := if v = 0x14 then { o with emergency := false, endpointKey := 0 } else o

/-- The byte offset of the first offer field out of range (04 Tables 4-2 and 4-3, R109). -/
def LegOffer.badAt (o : LegOffer) : Option Nat :=
  let bad (ok : Bool) (off : Nat) : Option Nat := if ok then none else some off
  let len (b : Bytes) (lo hi off : Nat) : Option Nat := bad (!o.ice || (decide (lo ≤ b.length) && decide (b.length ≤ hi))) off
  let rate (r off : Nat) : Option Nat := bad (r == 0 || (decide (16 ≤ r) && decide (r ≤ 400000))) off
  let dup (j : Nat) (e : CodecEntry) : Bool := (o.codecs.take j).any (fun d => d.pt == e.pt && ((d.recv && e.recv) || (d.send && e.send)))
  let perEntry : List (Option Nat) := o.codecs.zipIdx.flatMap (fun p =>
    [ bad (!dup p.2 p.1) (0x081 + 16 * p.2),
      bad (CodecEntry.isAudio p.1 || !(p.1.recv || p.1.send) || !(decide (0x10 ≤ p.1.codec.toNat) && decide (p.1.codec.toNat ≤ 0x14)) || p.1.maxKpxs != 0) (0x08C + 16 * p.2) ])
  (([ bad (decide (o.conf.toNat ≤ 8191)) 0x000,
      bad (decide (o.port.toNat ≤ 7) || o.port == 0x10 || o.port == 0x11) 0x018,
      bad (o.af == 4 || o.af == 6) 0x019,
      bad (decide (o.vlan.toNat ≤ 4094)) 0x01A,
      bad (!o.levels || (decide (1 ≤ o.levelExtId.toNat) && decide (o.levelExtId.toNat ≤ 14))) 0x01C,
      bad (decide (o.security.toNat ≤ 4)) 0x01D,
      bad (decide (o.connectTimeoutS.toNat ≤ 60)) 0x01E,
      bad (o.localUdp != 0) 0x040,
      bad (o.remoteUdp != 0) 0x042,
      bad (!o.ice || o.consentS == 0 || (decide (5 ≤ o.consentS.toNat) && decide (o.consentS.toNat ≤ 60))) 0x044,
      bad (decide (1 ≤ o.codecs.length) && decide (o.codecs.length ≤ 16)) 0x046,
      rate o.maxRecvKbps.toNat 0x048,
      rate o.maxSendKbps.toNat 0x04C,
      bad (decide (o.keyLen.toNat ≤ 256)) 0x050 ] ++ perEntry ++
    [ len o.localUfrag 4 32 0x180, len o.localPwd 22 63 0x1C0, len o.remoteUfrag 4 32 0x200, len o.remotePwd 22 63 0x240,
      bad ((List.range 4).all (fun k => !LegOffer.sends o k || (LegOffer.recvOf o k).isSome)) 0x047 ]).filterMap id).head?

/-- CONNECT_TIMEOUT_S with its default, in seconds (Table 4-2). -/
def LegOffer.connectS (o : LegOffer) : Nat := if o.connectTimeoutS = 0 then 10 else o.connectTimeoutS.toNat
/-- CONSENT_S with its default, in seconds (Table 4-2). -/
def LegOffer.consentSec (o : LegOffer) : Nat := if o.consentS = 0 then 30 else o.consentS.toNat
/-- MAX_SEND_KBPS with its default (Table 4-2). -/
def LegOffer.sendKbps (o : LegOffer) : Nat := if o.maxSendKbps = 0 then 8000 else o.maxSendKbps.toNat

end Sys2Proof

namespace Sys2Proof.Machine

open Sys2Proof

/-! ### Fields of requests -/

/-- A number of some bytes in network byte order, as the little-endian number that its bytes make (00 R5). -/
def netOrder (n v : Nat) : Nat := leVal (le n v).reverse

/-- Bytes that stand at an offset of a request. -/
def bytesAt (off : Nat) (b : Bytes) : List (Nat × Nat × Nat × Nat) := b.zipIdx.map (fun p => (off + p.2, 0, 8, p.1.toNat))

/-- A codec entry at an offset (04 Table 4-3). -/
def CodecEntry.fields (e : CodecEntry) (a : Nat) : List (Nat × Nat × Nat × Nat) :=
  [ (a, 0, 8, e.codec.toNat), (a + 1, 0, 7, e.pt.toNat), (a + 2, 0, 1, bit e.recv), (a + 2, 1, 1, bit e.send), (a + 3, 0, 8, e.channels.toNat), (a + 4, 0, 32, e.clockHz.toNat),
    (a + 8, 0, 16, e.profileLevel.toNat), (a + 10, 0, 4, e.temporal.toNat), (a + 10, 4, 4, e.spatial.toNat), (a + 12, 0, 32, e.maxKpxs.toNat) ]

/-- A length byte and its characters at an offset. -/
def credential (a : Nat) (b : Bytes) : List (Nat × Nat × Nat × Nat) := (a, 0, 8, b.length) :: bytesAt (a + 1) b

/-- A leg offer as a request of a version lays it out: addresses and ports in network order, the rest little-endian (04 Table 4-2, 16 Table 16-6). -/
def LegOffer.fields (o : LegOffer) (v : Nat) : List (Nat × Nat × Nat × Nat) :=
  (if v = 0x14 then [] else [(0x004, 0, 1, bit o.emergency), (0x008, 0, 128, o.endpointKey.toNat)]) ++
  [ (0x000, 0, 16, o.conf.toNat), (0x002, 0, 16, o.leg.toNat), (0x004, 1, 1, bit o.listener), (0x004, 2, 1, bit o.levels), (0x004, 3, 1, bit o.ice), (0x018, 0, 8, o.port.toNat),
    (0x019, 0, 8, o.af.toNat), (0x01A, 0, 12, o.vlan.toNat), (0x01C, 0, 8, o.levelExtId.toNat), (0x01D, 0, 8, o.security.toNat), (0x01E, 0, 16, o.connectTimeoutS.toNat),
    (0x020, 0, 128, netOrder 16 o.localAddr.toNat), (0x030, 0, 128, netOrder 16 o.remoteAddr.toNat), (0x040, 0, 16, netOrder 2 o.localUdp.toNat), (0x042, 0, 16, netOrder 2 o.remoteUdp.toNat),
    (0x044, 0, 16, o.consentS.toNat), (0x046, 0, 8, o.codecs.length), (0x047, 0, 4, o.sources.toNat), (0x048, 0, 32, o.maxRecvKbps.toNat), (0x04C, 0, 32, o.maxSendKbps.toNat),
    (0x050, 0, 16, o.keyLen.toNat), (0x060, 0, 256, o.fingerprint.toNat), (0x280, 0, 8, o.keyBlock.suite.toNat), (0x284, 0, 32, o.keyBlock.txRoc.toNat), (0x288, 0, 32, o.keyBlock.rxRoc.toNat),
    (0x290, 0, 256, o.keyBlock.txKey.toNat), (0x2B0, 0, 112, o.keyBlock.txSalt.toNat), (0x2C0, 0, 256, o.keyBlock.rxKey.toNat), (0x2E0, 0, 112, o.keyBlock.rxSalt.toNat) ] ++
  o.codecs.zipIdx.flatMap (fun p => CodecEntry.fields p.1 (0x080 + 16 * p.2)) ++
  credential 0x180 o.localUfrag ++ credential 0x1C0 o.localPwd ++ credential 0x200 o.remoteUfrag ++ credential 0x240 o.remotePwd

/-! ### Rates, gains and sizes -/

/-- The picture rates of 06 R173. -/
def rates : List Nat := [1, 2, 3, 4, 5, 6, 8, 10, 12, 15, 16, 20, 24, 25, 30, 40, 48, 50, 60]

/-- A gain in eighths of a dB, −768..192 (05 R144). -/
def gainOk (g : U16) : Bool := decide (-768 ≤ g.toInt) && decide (g.toInt ≤ 192)

/-- A size of 64 to 4,096, a multiple of 8 (07 R185). -/
def sizeOk (x : U16) : Bool := decide (64 ≤ x.toNat) && decide (x.toNat ≤ 4096) && x.toNat % 8 == 0

/-- Luma samples of a picture at most (06 R156). -/
def maxLuma : Nat := 9437184

/-- The size of an encoded picture (06 R156). -/
def encodeSize (w h : Nat) : Bool :=
  decide (64 ≤ w) && decide (w ≤ 4096) && w % 8 == 0 && decide (64 ≤ h) && decide (h ≤ 4096) && h % 8 == 0 && decide (w * h ≤ maxLuma)

/-- A number within bounds. -/
def within (lo hi x : Nat) : Bool := decide (lo ≤ x) && decide (x ≤ hi)

/-- A number within bounds, or the value that keeps or selects a default. -/
def withinOr (d lo hi x : Nat) : Bool := x == d || within lo hi x

/-- Pixel rate in kpixel/s, rounded up (04 R119). -/
def kpxs (w h rate : Nat) : Nat := ceilDiv' (w * h * rate) 1000

end Sys2Proof.Machine
end

