-- ==== Sys2Proof/Machine/Objects.lean ====
section
/-! DEFINITION. What many commands share: island identifiers (01 R10), READINESS (03 Table 3-12), the roster journal and the fault log (13 R341, R354), capacity and placement (04 R116 to R121), and the life of a leg (04 R113 to R115). -/

namespace Sys2Proof.Machine

open Sys2Proof

/-- Rotating pick over a rising list: the first above the one served last, else the first (01 R17). -/
def rotPick (l : List Nat) (last : Option Nat) : Option Nat :=
  match last with
  | none => l.head?
  | some k => (l.find? (fun n => decide (k < n))).or l.head?

/-- Slot A or B. -/
def Keep.image (k : Keep) (b : Bool) : ImageSlot := if b then k.slotB else k.slotA

namespace State

/-- The image that Pier runs: the recovery image has major 0 (18 R461, R463). -/
def firmware (s : State) : ImageSlot :=
  if s.boot.recovery then { state := .committed, release := BitVec.ofNat 32 (Config.fwRelease.toNat % 16777216) } else s.keep.image s.keep.runB

/-- The record of a cell. -/
def cell (s : State) (i : U16) : Cell := (tget s.fab.cells i.toNat).getD {}
/-- The record of a block. -/
def block (s : State) (b : U16) : Block := (tget s.fab.blocks b.toNat).getD {}
/-- State of a votable domain. -/
def domain (s : State) (d : U16) : Domain := (tget s.pwr.domains d.toNat).getD {}

/-- Change the Viaduct's state. -/
def modVia (s : State) (f : Viaduct → Viaduct) : State := { s with fab := { s.fab with via := f s.fab.via } }

/-- A cell is fenced or retired (01 R21, R22). -/
def cellOut (s : State) (i : U16) : Bool := (s.cell i).fenced || (s.cell i).retired

/-- A block takes work: it is neither drained, nor reset, nor retired (01 R24). -/
def atWork (s : State) (region blk : Nat) : Bool := (s.block (blockIsland region blk)).phase == .inService

/-- A block brings no capacity: retired, or its domain is not up (01 R23, 17 R434). -/
def blockOut (s : State) (b : U16) : Bool := (s.block b).phase == .retired || (s.domain b).state == .gated || (s.domain b).state == .poweringUp

/-- Cells of a block that are fenced or retired. -/
def outCells (s : State) (region blk : Nat) : List Nat :=
  (List.range (cellsOf region blk)).filter (fun c => s.cellOut (island region blk c))

/-- Healthy DSP cells (R117). -/
def dspCells (s : State) : Nat :=
  total (List.range 32) (fun b => if s.blockOut (blockIsland 0 b) then 0 else 16 - (s.fab.cells.filter (fun p => p.1 / 64 == b && (p.2.fenced || p.2.retired))).length)

/-! ### READINESS (03 Table 3-12) -/

/-- Set READINESS bits and raise the READINESS event when one changes (03 R103). -/
def setReadiness (s : State) (w : U16) : State :=
  if w = s.boot.readiness then s
  else
    let old := s.boot.readiness
    ({ s with boot := { s.boot with readiness := w } } : State).raise 0x0082 St.ok (le 2 w.toNat ++ le 2 (w ^^^ old).toNat ++ le 4 s.uptimeS)

/-- Set or clear one READINESS bit; in recovery only MAILBOXES is there (18 R463). -/
def readyBit (s : State) (k : Nat) (on : Bool) : State :=
  if s.boot.recovery ∧ k ≠ 0 then s else s.setReadiness (if on then s.boot.readiness ||| BitVec.ofNat 16 (2 ^ k) else s.boot.readiness &&& ~~~ BitVec.ofNat 16 (2 ^ k))

/-- One READINESS bit. -/
def isReady (s : State) (k : Nat) : Bool := s.boot.readiness.getLsbD k

/-- DEGRADED: at least one cell or block is fenced or retired. -/
def degradedNow (s : State) : Bool := s.fab.cells.any (fun p => p.2.fenced || p.2.retired) || s.fab.blocks.any (fun p => p.2.phase == .retired)

/-! ### Permissions (16 R416) -/

/-- A mailbox holds a permission bit of Table 16-5. -/
def permits (s : State) (m : Mbx) (k : Nat) : Bool := ((s.ks.policy.permissions[m.val]?).getD 0).getLsbD k

end State

/-! ### The journal (13 R341 to R344) -/

/-- Bytes of a journal entry (Table 13-6). -/
def JEntry.size (e : JEntry) : Nat :=
  match e.kind with
  | .put _ _ => 288
  | .fault _ => 64
  | _ => 32

/-- The bytes of a record (Table 13-3). -/
def recordBytes (r : Record) : Bytes :=
  let body := le 1 r.format ++ le 1 (1 + 2 * bit r.pinned) ++ le 2 0 ++ le 4 r.updates.toNat ++ le 16 r.key.toNat ++ le 8 r.firstSeen ++ le 8 r.lastSeen ++
    le 4 r.deny.toNat ++ le 2 r.keyPolicy.toNat ++ le 1 r.dtlsVersion.toNat ++ le 1 r.suite.toNat ++ le 4 r.codecRecv.toNat ++ le 4 r.codecSend.toNat ++
    le 4 r.maxKpxsRecv.toNat ++ le 4 r.maxKpxsSend.toNat ++ le 1 (r.temporal + 16 * r.spatial) ++ le 1 r.sources.toNat ++ le 2 0 ++
    le 4 r.p10 ++ le 4 r.p25 ++ le 4 r.p50 ++ le 4 r.p90 ++ le 2 r.lossP50 ++ le 2 r.sessions ++ le 4 r.legsOpened.toNat ++ le 4 r.activeMin ++
    le 1 r.lastCause.toNat ++ le 1 r.dtlsFails ++ le 78 0 ++ le 64 r.hostData.toNat ++ le 12 0
  body ++ le 4 (crc32c body).toNat

/-- The bytes of a fault record (01 Table 1-7). -/
def faultBytes (f : FaultRec) : Bytes :=
  le 4 f.seq ++ le 2 f.location.toNat ++ le 1 f.level.toNat ++ le 1 f.cause.toNat ++ le 8 f.timeS ++ le 4 f.timeNs ++
  le 1 f.action.toNat ++ le 1 f.fencedNow.toNat ++ le 2 f.seamId.toNat ++ le 2 f.seamCount ++ le 2 0 ++ le 4 f.detail.toNat

/-- KIND, OBJECT and ARG of an entry (Table 13-6). -/
def JKind.code : JKind → Nat × Nat × Nat
  | .put r _ => (1, r, 0)
  | .clear r => (2, r, 0)
  | .fault _ => (3, 0, 0)
  | .segment n loc => (4, n, loc.toNat)
  | .checkpoint copy => (5, copy, 0)
  | .pattern gen arg => (6, gen, arg)
  | .retire i => (7, i, 0)
  | .park => (8, 0, 0)
  | .seqMark mark => (9, mark, 0)

/-- The bytes of a journal entry: its header and its payload (Table 13-6). A FAULT or PARK entry concerns none of the objects the table lists; its OBJECT is 0 (DESIGN CHOICE, log 8). -/
def JEntry.bytes (e : JEntry) : Bytes :=
  let k := e.kind.code
  le 2 e.size ++ le 1 k.1 ++ le 1 0 ++ le 4 k.2.1 ++ le 8 e.rseq ++ le 4 e.epoch.toNat ++ le 4 k.2.2 ++ le 8 0 ++
    (match e.kind with | .put _ rec => recordBytes rec | .fault f => faultBytes f | _ => [])

/-- The bytes of a group's page: its header, with the CRC over the rest of the header and the entries, the entries, and zeros to the page's 16,384 bytes (R342, Table 13-7). -/
def JGroup.page (g : JGroup) : Bytes :=
  let body := g.entries.flatMap JEntry.bytes
  let head := le 4 0x47504B4A ++ le 2 g.entries.length ++ le 2 body.length ++ le 8 g.gseq ++ le 8 g.keepTime ++ le 1 g.die ++ List.replicate 35 0
  head ++ le 4 (crc32c (head ++ body)).toNat ++ body ++ List.replicate (16320 - body.length) 0

/-- Bytes of the entries of a group. -/
def jBytes (l : List JEntry) : Nat := total l JEntry.size

namespace State

/-- Change the Keeping region. -/
def modKeep (s : State) (f : Keep → Keep) : State := { s with keep := f s.keep }

/-- KEEP_TIME: seconds during which the region has been mounted (R334). -/
def keepTime (s : State) : Nat :=
  if s.keep.mount = .unmounted ∨ s.keep.mount = .reading ∨ s.keep.mount = .unusable then s.keep.keepTime
  else s.keep.keepTime + (s.now - s.keep.keepBase) / ticksPerS

/-- Roster writes are accepted (mount step 6 is done). -/
def journalUp (s : State) : Bool := s.keep.mount == .ready || s.keep.mount == .summaries || s.keep.mount == .indexed
/-- Lookups are served (mount step 7 is done). -/
def lookupUp (s : State) : Bool := s.keep.mount == .summaries || s.keep.mount == .indexed
/-- The store is not used (R332). -/
def noStore (s : State) : Bool := s.keep.mount == .unusable

/-- Dirty bytes (R344). -/
def dirtyBytes (s : State) : Nat := jBytes s.keep.open_ + total s.keep.groups (fun g => jBytes g.entries)

/-- The dirty cap (R344). -/
def dirtyCap (s : State) : Nat := if s.pwr.supply = .normal then 33554432 else 4194304

/-- Close the open group (R342). -/
def closeGroup (s : State) : State :=
  if s.keep.open_ = [] then s
  else s.modKeep (fun k => { k with
    groups := k.groups ++ [{ gseq := k.nextGseq, entries := k.open_, keepTime := s.keepTime, die := k.nextDie }],
    open_ := [], nextGseq := k.nextGseq + 1, nextDie := (k.nextDie + 1) % k.dies, span := k.span + 16384 })

/-- Accept an entry into the journal: a group closes when the next entry would not fit (R342). -/
def journal (s : State) (e : JEntry) : State :=
  let s := if 16320 < jBytes s.keep.open_ + e.size then s.closeGroup else s
  s.modKeep (fun k => { k with openAt := if k.open_ = [] then s.now else k.openAt, open_ := k.open_ ++ [e] })

/-- A roster write of the given size is accepted by the journal now: OK, BUSY at the cap, STORE_FULL by span (R344, R347). -/
def rosterRoom (s : State) (bytes : Nat) : U8 :=
  if s.keep.level = 3 then St.storeFault
  else if !s.journalUp then St.busy
  else if 61847529062 ≤ s.keep.span then St.storeFull
  else if s.dirtyCap < s.dirtyBytes + bytes then St.busy
  else St.ok

/-- Journal a roster or pattern change under the next roster sequence. In a formed pair only the primary assigns it: a record's entry reaches the other unit by JOURNAL frames, a generation's follows the primary's command (R355). -/
def journalRoster (s : State) (k : JKind) (ack : Option (Mbx × Nat) := none) : State :=
  if s.notPrimary && (match k with | .put _ _ => true | .clear _ => true | _ => false) then s
  else ((s.mirror 304).modKeep (fun q => { q with rseq := q.rseq + 1 })).journal { kind := k, rseq := s.keep.rseq + 1, epoch := s.keep.epoch, ack }

end State

/-- The newest of a list of entries that concerns a record: its content, none where it was cleared. -/
def jFind (r : Nat) (l : List JEntry) : Option (Option Record) :=
  l.foldl (fun acc e =>
    match e.kind with
    | .put n rec => if n = r then some (some rec) else acc
    | .clear n => if n = r then some none else acc
    | _ => acc) none

namespace State

/-- The newest content of a record: held back, staged or committed (R112, R341). -/
def record (s : State) (r : Nat) : Option Record :=
  match tget s.keep.unwritten r with
  | some x => x
  | none =>
    match jFind r s.keep.open_ with
    | some x => x
    | none =>
      match jFind r (s.keep.groups.flatMap (·.entries)) with
      | some x => x
      | none => tget s.keep.recs r

/-- Write a record as the leg lifecycle does: into the journal, or held back UNWRITTEN (04 R112). Answers whether it is held back. -/
def rosterWrite (s : State) (r : Nat) (rec : Record) : State × Bool :=
  if s.notPrimary then (s, false)
  else if s.rosterRoom 288 = St.ok then ((s.modKeep (fun k => { k with unwritten := tdel k.unwritten r })).journalRoster (.put r rec), false)
  else (s.modKeep (fun k => { k with unwritten := tput k.unwritten r (some rec) }), true)

/-! ### The fault log (01 R30, 13 R354) -/

/-- Raise the FAULT event of a record (03). -/
def faultEvent (s : State) (f : FaultRec) : State :=
  s.raise 0x0080 St.fault (le 4 f.seq ++ le 2 f.location.toNat ++ le 1 f.level.toNat ++ le 1 f.cause.toNat ++ le 8 f.timeS ++
    le 1 f.action.toNat ++ le 1 f.fencedNow.toNat ++ le 2 f.seamId.toNat ++ le 4 f.detail.toNat)

/-- Write a fault record (13 R354): it takes a number below the mark, waits for a SEQ_MARK, or is kept by Pier before mount step 6. -/
def writeFault (s : State) (f : FaultRec) : State :=
  if s.journalUp ∧ !s.keep.flushing then
    if s.keep.seq < s.keep.mark ∧ s.keep.logWait = [] then
      let f := { f with seq := s.keep.seq }
      ((s.modKeep (fun k => { k with seq := k.seq + 1 })).journal { kind := .fault f }).faultEvent f
    else
      let s := if s.keep.markDue.isNone then
          (s.modKeep (fun k => { k with markDue := some (k.mark + 1024) })).journal { kind := .seqMark (s.keep.mark + 1024) }
        else s
      s.modKeep (fun k => { k with logWait := k.logWait ++ [f] })
  else
    let f := { f with seq := s.keep.seq }
    let raise := decide (s.keep.ksMark ≤ s.keep.seq)
    let s := s.modKeep (fun k => { k with
      seq := k.seq + 1,
      ksMark := if raise then k.ksMark + 1024 else k.ksMark,
      mark := if raise then max k.mark (k.ksMark + 1024) else k.mark })
    let s :=
      if s.keep.flushing then s
      else if s.noStore then s.modKeep (fun k => { k with log := (k.log ++ [f]).drop (k.log.length + 1 - 32768) })
      else s.modKeep (fun k => { k with logHeld := k.logHeld ++ [f] })
    s.faultEvent f

/-- Write a fault record with the times and counts of now (Table 1-7). -/
def faultRec (s : State) (location : U16) (level cause action : Nat) (seamId : U16 := 0xFFFF) (seams : Nat := 0) (detail : U32 := 0) : State :=
  s.writeFault { seq := 0, location, level := BitVec.ofNat 8 level, cause := BitVec.ofNat 8 cause, timeS := s.chipS, timeNs := s.chipSub,
                 action := BitVec.ofNat 8 action, fencedNow := BitVec.ofNat 8 (s.outCells (regionOf location) (blockNo location)).length,
                 seamId, seamCount := seams, detail }

/-- KS_TICK: milliseconds since Keystone started, 32 bits (16 R409). -/
def ksTick (s : State) : Nat := (s.now - s.ks.startedAt) / ticksPerMs % 4294967296

/-- Write a Keystone log record: the newest 256 stay; one record a second for each cause, the others are counted in the next one's REPEATS (16 R429, R430). -/
def ksLog (s : State) (cause detail value : Nat) : State :=
  let k := s.ks
  if k.log.any (fun r => r.cause.toNat == cause && r.timeS == s.chipS && r.bootCount == BitVec.ofNat 8 k.bootCount) then
    { s with ks := { k with repeats := tput k.repeats cause ((tget k.repeats cause).getD 0 + 1) } }
  else
    let r : KsRec := {
      seq := k.logNext, cause := BitVec.ofNat 8 cause, bootCount := BitVec.ofNat 8 k.bootCount, repeats := min 65535 ((tget k.repeats cause).getD 0),
      timeS := s.chipS, uptimeMs := s.ksTick, detail, value }
    { s with ks := { k with log := (k.log ++ [r]).drop (k.log.length + 1 - 256), logNext := k.logNext + 1, repeats := tdel k.repeats cause } }

/-! ### Capacity (04 R116 to R119) -/

/-- Per-leg cost of a loaded kernel (14 R376). -/
def kernelTenths (s : State) (k : U16) : Nat :=
  match tget s.disp.kernels k.toNat with
  | some q => ceilDiv' (q.req.cycles.toNat + 40 + ceilDiv' q.req.stateBytes.toNat 32) 100
  | none => 0

/-- The offer a leg will have once every pending change has applied (R118). -/
def offerOf (l : Leg) (pend : Bool) : LegOffer := if pend then l.pendOffer.getD l.offer else l.offer

/-- A leg drains after its conference has gone (04 R113). -/
def isGhost (s : State) (l : Nat) : Bool := s.model.ghosts.any (fun g => g.legs.any (fun p => p.1 == l))

/-- Offers of a conference's legs, live or with every pending basted change applied, with the leg's number. -/
def confOffers (s : State) (c : Nat) (pend : Bool) : List (Nat × LegOffer) :=
  (s.model.legs.filter (fun p => (pend || p.2.state != .basted) && !s.isGhost p.1 && (offerOf p.2 pend).conf.toNat == c)).map (fun p => (p.1, offerOf p.2 pend))

/-- The kernel a leg's chain names, live or pending. -/
def kernelOf (s : State) (leg : Nat) (pend : Bool) : U16 :=
  match tget s.snd.legs leg with
  | some l => if pend then (l.pendKernel.getD ((l.chainNext.getLast?).elim l.chain.kernel (·.2.kernel))) else l.chain.kernel
  | none => 0xFFFF

end State

/-- An input of a mix is there once every crossfade has run (05 R148). -/
def MixInput.present (i : MixInput) : Bool := (i.fades.getLast?).elim i.was (·.2)

/-- Audio decodes, audio encodes and sound tenths of a conference (R118). -/
structure SoundFig where
  decodes : Nat
  encodes : Nat
  tenths : Nat
  deriving DecidableEq, Repr

/-- R118's formula over the offers of a conference's legs. -/
def soundFig (n : Nat) (offers : List LegOffer) (kernels : Nat) : SoundFig :=
  let audio := offers.filter (fun o => (LegOffer.recvOf o 0).isSome || (LegOffer.sendOf o 0).isSome)
  let talkers := audio.filter (fun o => LegOffer.sends o 0 && !o.listener)
  let lev := (talkers.filter (fun o => o.levels)).length
  let unlev := (talkers.filter (fun o => !o.levels)).length
  let profiles := (audio.filterMap LegOffer.audioProfile).eraseDups.length
  let decodes := min (n + 2) lev + unlev
  let encodes := min n (lev + unlev) + profiles
  { decodes, encodes, tenths := audio.length * 24 + decodes * 220 + encodes * 400 + kernels }

namespace State

/-- A conference's sound figures in one view. -/
def soundView (s : State) (c : Nat) (pend : Bool) : SoundFig :=
  match tget s.model.confs c with
  | none => { decodes := 0, encodes := 0, tenths := 0 }
  | some q =>
    let offers := s.confOffers c pend
    soundFig (if pend then q.pendSpeakers.getD q.speakers else q.speakers) (offers.map (·.2)) (total offers (fun p => s.kernelTenths (s.kernelOf p.1 pend)))

/-- What the legs of a removed conference still hold while they are CLOSING: its figures over those that remain (R113, R118). -/
def ghostFig (s : State) (g : Ghosts) : SoundFig :=
  let legs := g.legs.filter (fun p => thas s.model.legs p.1)
  soundFig g.speakers (legs.filterMap (fun p => (tget s.model.legs p.1).map (·.offer))) (total legs (·.2))

/-- A conference's sound charge, computed on the state with every pending basted change applied (R118). -/
def soundOf (s : State) (c : Nat) : SoundFig := s.soundView c true

/-- Inputs of a further mix, live or with every pending basted change (05 R140). -/
def mixInputs (s : State) (x : Nat) (pend : Bool) : List Nat :=
  let live := ((tget s.snd.mixes x).elim [] (fun m => (m.inputs.filter (fun p => MixInput.present p.2)).map (·.1)))
  if pend then
    s.basts.foldl (fun acc i => match i with
      | .mixRoute _ leg mode mix _ =>
        if mix.toNat ≠ x then acc
        else if mode = 1 then (if acc.contains leg.toNat then acc else acc ++ [leg.toNat])
        else if mode = 2 then acc.filter (fun l => l != leg.toNat) else acc
      | _ => acc) live
  else live

/-- The mix a leg listens to, live or pending (05 R146). -/
def listenOf (s : State) (l : Nat) (pend : Bool) : Nat :=
  let live := (tget s.snd.legs l).elim 0 (fun q => q.listenNext.getD q.listen)
  if pend then
    s.basts.foldl (fun acc i => match i with
      | .mixRoute _ leg 0 mix _ => if leg.toNat = l then mix.toNat else acc
      | _ => acc) live
  else live

/-- Profiles of the listeners of a further mix (05 R140). -/
def mixProfiles (s : State) (x : Nat) (pend : Bool) : Nat :=
  ((s.model.legs.filter (fun p => s.listenOf p.1 pend == x)).filterMap (fun p => LegOffer.audioProfile (offerOf p.2 pend))).eraseDups.length

/-- Audio decodes, encodes and sound tenths of the further mixes (05 R140): the state now and the state with every pending change, whichever is more. -/
def furtherFig (s : State) : SoundFig :=
  let xs := (s.snd.mixes.filter (fun p => decide (8192 ≤ p.1))).map (·.1)
  let ins (x : Nat) := max (s.mixInputs x false).length (s.mixInputs x true).length
  let encs (x : Nat) := max (s.mixProfiles x false) (s.mixProfiles x true)
  { decodes := total xs ins, encodes := total xs encs, tenths := total xs (fun x => 220 * ins x + 400 * encs x) }

/-- Legs of a conference in any state other than FREE. -/
def legsOf (s : State) (c : Nat) : List (Nat × Leg) := s.model.legs.filter (fun p => p.2.conf == c && !s.isGhost p.1)

/-- Legs that LEG_LIMIT of a conference counts: its own, and those that a pending move will bring (R116, R118). -/
def limitLegs (s : State) (c : Nat) : Nat :=
  (s.model.legs.filter (fun p => !s.isGhost p.1 && (p.2.conf == c || p.2.pendOffer.any (fun o => o.conf.toNat == c)))).length

/-- Charge per lane or cell already placed on decode lanes, encode lanes and compose cells. -/
def laneUsed (s : State) (code lane : Nat) : Nat :=
  let on (l : List (Nat × Nat)) := total (l.filter (fun p => p.1 == lane)) (·.2)
  match code with
  | 8 => total s.pic.dec (fun p => on p.2.lanes)
  | 9 => total s.pic.enc (fun p => on p.2.lanes)
  | _ => total s.pic.layouts (fun p => on p.2.cells)

/-- Lanes or cells per block. -/
def perBlock : Nat := 8
/-- Number of lanes or cells of a pixel resource (Table 4-6). -/
def laneCount (code : Nat) : Nat := if code = 8 then 64 else if code = 9 then 32 else 16
/-- Capacity of one lane or cell (Table 4-6). -/
def laneCap (code : Nat) : Nat := if code = 10 then 1000000 else 375000
/-- The island of a lane or cell. -/
def laneIsland (code lane : Nat) : U16 :=
  if code = 8 then island 1 (lane / 8) (4 + lane % 8) else if code = 9 then island 1 (8 + lane / 8) (4 + lane % 8) else island 1 (12 + lane / 8) (lane % 8)

/-- A lane is in service. -/
def laneIn (s : State) (code lane : Nat) : Bool := !s.cellOut (laneIsland code lane) && !s.blockOut (blockOfIsland (laneIsland code lane))

/-- A lane's block is without power (17 R434). -/
def laneDark (s : State) (code lane : Nat) : Bool :=
  let d := (s.domain (blockOfIsland (laneIsland code lane))).state
  d == .gated || d == .poweringUp

/-- Free room of a lane (R120); a domain that is being dropped takes no new charge (17 Table 17-4). -/
def laneFree (s : State) (code lane : Nat) : Nat :=
  if s.laneIn code lane ∧ (s.domain (blockOfIsland (laneIsland code lane))).state ≠ .changing then laneCap code - s.laneUsed code lane else 0

end State

/-- Lanes of a list that have room for an amount, the least free room first, ties by number (R120). -/
def lanesThatFit (free : Nat → Nat) (amount : Nat) (lanes : List Nat) : List Nat :=
  sortBy (fun a b => decide (free a < free b) || (free a == free b && decide (a ≤ b))) (lanes.filter (fun l => decide (amount ≤ free l)))

/-- Two lanes of one block for the halves of a split charge (R120). -/
def placePair (free : Nat → Nat) (half : Nat) (lanes : List Nat) : Option (Nat × Nat) :=
  (lanesThatFit free half lanes).findSome? (fun a =>
    match lanesThatFit free half (lanes.filter (fun b => b != a && b / 8 == a / 8)) with
    | b :: _ => some (a, b)
    | [] => none)

/-- The largest room in one lane, or in one pair of a block: a split charge has two equal halves, so a pair has twice the smaller of its lanes' rooms (R120 names the room of a pair without saying how it is reckoned; DESIGN CHOICE, log 78). -/
def largestRoom (free : Nat → Nat) (lanes : List Nat) (split : Bool) : Nat :=
  let single := lanes.foldl (fun acc l => max acc (free l)) 0
  let pair := lanes.foldl (fun acc a => lanes.foldl (fun acc b => if a ≠ b ∧ a / 8 = b / 8 then max acc (2 * min (free a) (free b)) else acc) acc) 0
  if split then pair else single

namespace State

/-- Place a pixel charge: the lanes with their shares, or nothing where no placement exists (R120). -/
def place (s : State) (code amount : Nat) : Option (List (Nat × Nat)) :=
  let lanes := List.range (laneCount code)
  let free := s.laneFree code
  if amount = 0 then some []
  else if amount ≤ laneCap code then (lanesThatFit free amount lanes).head?.map (fun l => [(l, amount)])
  else
    let half := ceilDiv' amount 2
    (placePair free half lanes).map (fun p => [(p.1, half), (p.2, half)])

/-- Admitted and basted charges on a resource, in the amounts that were placed or counted (R116). -/
def admitted (s : State) (code : Nat) : Nat :=
  match code with
  | 1 => s.model.legs.length
  | 2 => s.model.confs.length
  | 3 => total s.model.confs (fun p => if p.2.legLimit = 0 then 0 else s.limitLegs p.1)
  | 4 => total s.model.confs (fun p => (s.soundOf p.1).tenths) + total s.model.ghosts (fun g => (s.ghostFig g).tenths) + s.furtherFig.tenths
  | 5 => total s.model.confs (fun p => (s.soundOf p.1).decodes) + total s.model.ghosts (fun g => (s.ghostFig g).decodes) + s.furtherFig.decodes
  | 6 => total s.model.confs (fun p => (s.soundOf p.1).encodes) + total s.model.ghosts (fun g => (s.ghostFig g).encodes) + s.furtherFig.encodes
  | 7 => (s.snd.mixes.filter (fun p => decide (8192 ≤ p.1))).length
  | 8 => total s.pic.dec (fun p => total p.2.lanes (·.2))
  | 9 => total s.pic.enc (fun p => total p.2.lanes (·.2))
  | 10 => total s.pic.layouts (fun p => total p.2.cells (·.2))
  | 11 => s.pic.dec.length
  | 12 => s.pic.enc.length
  | 13 => s.pic.layouts.length
  | 14 => s.fwd.entries.length
  | _ => 0

/-- Total of a resource of Table 4-6 with the cells now in service (R117). -/
def totalOf (s : State) (code : Nat) : Nat :=
  match code with
  | 1 => 65536
  | 2 => 8192
  | 3 => total s.model.confs (fun p => p.2.legLimit)
  | 4 => s.dspCells * 20000
  | 5 => 16384
  | 6 => 12288
  | 7 => 8192
  | 8 | 9 | 10 => total (List.range (laneCount code)) (fun l => if s.laneIn code l then laneCap code else 0)
  | 11 => 8192
  | 12 => 2048
  | 13 => 2048
  | 14 => 1048576
  | _ => 0

/-- Room of a lane for a new charge: none while the admitted amount is not below a total that has fallen (R117). -/
def laneRoom (s : State) (code lane : Nat) : Nat := if s.totalOf code ≤ s.admitted code then 0 else s.laneFree code lane

/-- The check of a placement: BAD_FIELD above the split limit, NO_CAPACITY with the resource, the amount and the largest room (R116, R120). -/
def placeCheck (s : State) (code amount : Nat) : Option Rep :=
  if 2 * laneCap code < amount then some (Rep.fail St.badField)
  else if amount = 0 ∨ (s.admitted code < s.totalOf code ∧ (s.place code amount).isSome) then none
  else some (Rep.fail St.noCapacity [code, amount, largestRoom (s.laneRoom code) (List.range (laneCount code)) (decide (laneCap code < amount))])

/-- Emergency legs' charges on SOUND and on FWD_ENTRIES, pending changes of EMERGENCY included (R121). -/
def emergencyUse (s : State) (code : Nat) : Nat :=
  let legs := s.model.legs.filter (fun p => p.2.emergency || p.2.pendOffer.any (·.emergency))
  if code = 4 then (legs.foldl (fun acc p => acc + p.2.charged) (0 : Int)).toNat
  else if code = 14 then (s.fwd.entries.filter (fun e => legs.any (fun p => p.1 == e.2.leg))).length
  else 0

/-- The unused emergency reserve of a resource (R121). -/
def unusedReserve (s : State) (code : Nat) : Nat :=
  (if code = 4 then s.ks.policy.reserveSound else if code = 14 then s.ks.policy.reserveFwd else 0) - s.emergencyUse code

/-- Room on a resource for an emergency leg or for any other (R116, R121). -/
def room (s : State) (code : Nat) (emergency : Bool) : Nat :=
  s.totalOf code - s.admitted code - (if emergency then 0 else s.unusedReserve code)

/-- The checks of the counted resources in a list: the first, in table order, whose growth from s to t has no room in s (R116). -/
def roomChecks (s t : State) (emergency : Bool) : List Nat → Option Rep
  | [] => none
  | c :: cs =>
    let need := t.admitted c - s.admitted c
    let room := s.room c emergency
    if room < need then some (Rep.fail St.noCapacity [c, need, room]) else s.roomChecks t emergency cs

/-- LEG_LIMIT of a conference that gains legs from s to t (code 3). -/
def limitCheck (s t : State) (c : Nat) : Option Rep :=
  match tget t.model.confs c with
  | none => none
  | some q =>
    let need := t.limitLegs c - s.limitLegs c
    let room := q.legLimit - s.limitLegs c
    if q.legLimit ≠ 0 ∧ room < need then some (Rep.fail St.noCapacity [3, need, room]) else none

/-- Admission of the change from s to t, its pixel placements checked in between (R116): nothing is charged unless every resource has room. -/
def admission (s t : State) (emergency : Bool := false) (conf : Option Nat := none) (placed : List (Option Rep) := []) : Option Rep :=
  firstFail ([s.roomChecks t emergency [1, 2], (match conf with | some c => s.limitCheck t c | none => none),
    s.roomChecks t emergency [4, 5, 6, 7]] ++ placed ++ [s.roomChecks t emergency [11, 12, 13, 14]])

/-- Admissions are stopped by a power change, a wake or a supply step (17 R439, R446). -/
def stoppedCheck (s : State) : Option Rep := need (!s.model.stopped) St.busy [0xFFFD]

/-- What a leg or its command causes is charged to the leg: the difference in SOUND between a state and another (R118, R121; which of a leg's charges follow it when its conference's other legs come and go, the spec does not say: the model keeps those it caused, log 78). -/
def chargeLeg (s : State) (l : Nat) (t : State) : State :=
  { s with model := { s.model with legs := tmod s.model.legs l (fun q => { q with charged := q.charged + t.admitted 4 - s.admitted 4 }) } }

/-- A change of the state that is charged to a leg. -/
def charging (s : State) (l : Nat) (f : State → State) : State :=
  let t := f s
  { t with model := { t.model with legs := tmod t.model.legs l (fun q => { q with charged := q.charged + t.admitted 4 - s.admitted 4 }) } }

/-- What a resource is charged, placed or not. -/
def charged (s : State) (code : Nat) : Nat :=
  match code with
  | 8 => total s.pic.dec (fun p => p.2.kpxs)
  | 9 => total s.pic.enc (fun p => p.2.kpxs)
  | 10 => total s.pic.layouts (fun p => p.2.kpxs)
  | k => s.admitted k

/-- While admissions are stopped, a change to the state t that charges a resource of Table 4-6 more is BUSY (17 R439). -/
def stopIf (s t : State) : Option Rep := need (!s.model.stopped || (List.range 15).all (fun k => decide (t.charged k ≤ s.charged k))) St.busy [0xFFFD]

/-! ### Indices (04 R105) -/

/-- Two seconds of chip time in nanoseconds. -/
def holdNs : Nat := 2000000000

/-- An index lies in its hold-off. -/
def inHold (s : State) (hold : Table Nat) (i : Nat) : Bool := (tget hold i).any (fun t => decide (s.chipNs < t + holdNs))

/-! ### The life of a leg (04 R113) -/

/-- Code of a leg state (Table 4-4). -/
def legCode : LegState → Nat
  | .basted => 1 | .connecting => 2 | .active => 3 | .held => 4 | .closing => 5

/-- Raise the leg-state event (04). -/
def legEvent (s : State) (leg conf new old : Nat) (cause : Nat) : State :=
  s.raise 0x0380 St.ok (le 2 leg ++ le 2 conf ++ le 1 new ++ le 1 old ++ le 1 cause ++ le 1 0 ++ le 8 s.chipS ++ le 4 s.chipSub)

/-- Change a leg. -/
def modLeg (s : State) (l : Nat) (f : Leg → Leg) : State := { s with model := { s.model with legs := tmod s.model.legs l f } }

/-- The leg of a number, if it is open (not FREE) and not basted. -/
def legLive (s : State) (l : Nat) : Option Leg := (tget s.model.legs l).filter (fun q => q.state != .basted)

/-- The leg of a number as a seam sees it: live, or basted in the same seam (02 R50). -/
def legFor (s : State) (l : Nat) (seam : U16) : Option Leg :=
  (tget s.model.legs l).filter (fun q => q.state != .basted || (seam != 0xFFFF && q.basted == some seam))

/-- Put a leg in a state: its time ACTIVE is counted, and the leg-state event is raised (R113). -/
def setLegState (s : State) (l : Nat) (st : LegState) (cause : Nat := 0xFF) : State :=
  match tget s.model.legs l with
  | none => s
  | some q =>
    let spent := match q.activeFrom with | some t => s.chipS - t | none => 0
    let s := s.modLeg l (fun _ => { q with
      state := st, cause := BitVec.ofNat 8 cause,
      activeS := q.activeS + spent, activeFrom := if st = .active then some s.chipS else none })
    s.legEvent l q.conf (legCode st) (legCode q.state) cause

/-- Close a leg with a cause of Table 4-5; a leg already CLOSING keeps its first cause (R113 to R115). -/
def closeLeg (s : State) (l cause : Nat) : State :=
  match s.legLive l with
  | none => s
  | some q =>
    if q.state = .closing then s
    else (s.setLegState l .closing cause).modLeg l (fun q => { q with drainUntil := s.now + 20 * ticksPerMs })

/-- Legs, in any state other than FREE, that name an interface (09 R226). -/
def legsOnPort (s : State) (p : Nat → Bool) : Nat := (s.model.legs.filter (fun q => p q.2.offer.port.toNat)).length

end State

end Sys2Proof.Machine
end

