-- ==== Sys2Proof/Machine/Time.lean ====
section
/-! DEFINITION. Time bases (09 R243 to R248): the tick, corrections by rate and by step, servos, PPS; the time commands; and PTP (R249). -/

namespace Sys2Proof.Machine

open Sys2Proof

/-! ### The tick (R243) -/

/-- 10^9 ns in units of 2^-32 ns. -/
def secUnits : Nat := 1000000000 * 4294967296

/-- A base's increment in units of 2^-32 ns. -/
def TimeBase.inc (b : TimeBase) : Nat := b.incNs.toNat * 4294967296 + b.incFrac.toNat

/-- A base's nanoseconds and fraction in units of 2^-32 ns. -/
def TimeBase.sub (b : TimeBase) : Nat := b.ns.toNat * 4294967296 + b.frac.toNat

/-- A base's whole value in units of 2^-32 ns. -/
def TimeBase.units (b : TimeBase) : Nat := b.sec.toNat * secUnits + b.sub

/-- A base at a value in units of 2^-32 ns. -/
def TimeBase.at_ (b : TimeBase) (u : Nat) : TimeBase :=
  { b with sec := BitVec.ofNat 64 (u / secUnits), ns := BitVec.ofNat 32 (u % secUnits / 4294967296), frac := BitVec.ofNat 32 (u % 4294967296) }

/-- A base after n ticks: n additions of its increment; a disabled base holds 0 (R243, R244). -/
def TimeBase.tick (b : TimeBase) (n : Nat) : TimeBase := if b.enabled then b.at_ (b.units + n * b.inc) else b

/-- Ticks until the base's seconds next advance. -/
def TimeBase.toRollover (b : TimeBase) : Nat := ceilDiv' (secUnits - b.sub) b.inc

/-- The increment of a rate correction (R246). -/
def rateInc (adj : Int) : Int :=
  let nom : Int := 13743895347
  let d := nom * adj
  nom + (if 0 ≤ d then (d + 32768000000) / 65536000000 else -((-d + 32768000000) / 65536000000))

/-- A base under a rate correction: its value does not move (R246). -/
def TimeBase.rate (b : TimeBase) (adj : Int) : TimeBase :=
  let inc := (rateInc adj).toNat
  { b with incNs := BitVec.ofNat 8 (inc / 4294967296), incFrac := BitVec.ofNat 32 (inc % 4294967296) }

/-- A base enabled afresh: 0 s, armed, nominal increment (R244). -/
def TimeBase.start (b : TimeBase) : TimeBase :=
  { b with enabled := true, armed := true, sec := 0, ns := 0, frac := 0, incNs := 3, incFrac := 0x33333333 }

/-- A base that is disabled holds 0, and its servo does not run (R244). -/
def TimeBase.stop (b : TimeBase) : TimeBase :=
  { b with enabled := false, armed := false, sec := 0, ns := 0, frac := 0, incNs := 3, incFrac := 0x33333333, servo := .free, lockRun := 0 }

/-- Code of a servo state (time.query). -/
def servoCode : ServoState → Nat
  | .free => 0 | .acquiring => 1 | .locked => 2 | .holdover => 3

namespace State

/-- Change the time state. -/
def modTime (s : State) (f : Time → Time) : State := { s with time := f s.time }
/-- Base b. -/
def base (s : State) (b : Fin 4) : TimeBase := s.time.bases.get b
/-- Change base b. -/
def modBase (s : State) (b : Fin 4) (f : TimeBase → TimeBase) : State := s.modTime (fun t => { t with bases := t.bases.set b (f (t.bases.get b)) })

/-- n ticks of the time clock: elapsed time advances, and every enabled base adds its increment n times; while RESET_N is low the bases stand (R243). -/
def advance (s : State) (n : Nat) : State :=
  s.modTime (fun t => { t with now := t.now + n, bases := if s.boot.stage = .held then t.bases else t.bases.map (fun b => b.tick n) })

/-- The bytes of a base's value: seconds, nanoseconds, fraction. -/
def baseBytes (s : State) (b : Fin 4) : Bytes := le 8 (s.base b).sec.toNat ++ le 4 (s.base b).ns.toNat ++ le 4 (s.base b).frac.toNat

/-- A seam is closed and not yet applied: confirming or committed (R245). -/
def seamClosed (s : State) : Bool := s.seams.list.any (fun k => k.state == .confirming || k.state == .committed)

/-- First edge of PPS_OUT after a value of its base: the least whole second plus OFFSET_NS beyond it (R248). -/
def nextPps (p : Pps) (baseNs : Nat) : Int := ((baseNs : Int) - p.offsetNs) / 1000000000 * 1000000000 + 1000000000 + p.offsetNs

/-- After a step of a base the next edge follows the new value (R248). -/
def repps (s : State) (b : Fin 4) : State :=
  if s.time.pps.outBase = b.val then s.modTime (fun t => { t with pps := { t.pps with nextOut := nextPps t.pps (s.tbNs b) } }) else s

/-- After TB0 moved forward, a pending gate list whose start has passed starts under the rule of R264. -/
def restartGates (s : State) : State :=
  { s with net := { s.net with ports := s.net.ports.map (fun p =>
      match p.pending with
      | some g =>
        if g.startNs < s.chipNs ∧ g.cycleNs ≠ 0 then
          let n := ceilDiv' (s.chipNs + 100000 - g.baseNs) g.cycleNs
          { p with pending := some { g with n := n, startNs := g.baseNs + n * g.cycleNs, basted := true } }
        else p
      | none => p) } }

/-- Put a base at a value in one tick and disarm it (R245). -/
def stepTo (s : State) (b : Fin 4) (units : Nat) : State :=
  let s := (s.modBase b (fun t => { t.at_ units with armed := false })).repps b
  if b = 0 then s.restartGates else s

/-- A primary mirrors each correction and step of TB0 and TB3 (12 Table 12-4). -/
def mirrorTime (s : State) (b : Fin 4) : State := if b = 0 ∨ b = 3 then s.mirror 16 else s

/-- A unit of a formed pair other than the PRIMARY has TB0 and TB3 held to the primary's (12 R316). -/
def heldToPrimary (s : State) (b : Nat) : Bool := s.notPrimary && (b == 0 || b == 3)

/-- Set a base's servo state and raise the time-source event if it changed (R247). -/
def setServo (s : State) (b : Fin 4) (v : ServoState) : State :=
  let old := (s.base b).servo
  if old = v then s
  else (s.modBase b (fun t => { t with servo := v })).raise 0x0881 St.ok (le 1 b.val ++ le 1 (servoCode v) ++ le 1 (servoCode old) ++ le 5 0 ++ le 8 s.chipS)

end State

/-! ### time commands -/

/-- A base number, if it is one. -/
def baseOf (b : U8) : Option (Fin 4) := if h : b.toNat < 4 then some ⟨b.toNat, h⟩ else none

/-- SOURCE allowed for a base (Table 9-5). -/
def sourceOk (b source : Nat) : Bool :=
  match source with
  | 0 => true
  | 1 => b == 1
  | 2 => b == 0 || b == 1
  | 3 => b == 0 || b == 3
  | 4 => b == 0 || b == 3
  | 5 => b == 2
  | _ => false

/-- time.base (09): enable or disable a base and set its source. -/
def rowTimeBase (base : U8) (enable : Bool) (source trackS : U8) : Row where
  opcode := 0x0800
  checks := fun _ s =>
    { fields := decide (base.toNat < 4) && sourceOk base.toNat source.toNat && (trackS == 0 || decide (4 ≤ trackS.toNat)) && (base != 0 || enable),
      claimed := !s.heldToPrimary base.toNat,
      busy := [need (base != 3 || enable || s.model.confs.isEmpty) St.busy] }
  layout := fun _ => [(0, 0, 8, base.toNat), (1, 0, 1, bit enable), (2, 0, 8, source.toNat), (3, 0, 8, trackS.toNat)]
  effect := fun _ s =>
    match baseOf base with
    | none => (s, Rep.fail St.badField)
    | some b =>
      let old := s.base b
      let track := if trackS = 0 then 16 else trackS.toNat
      let s :=
        if enable then
          s.modBase b (fun t =>
            let t := if t.enabled then t else t.start
            { t with source, trackS := track, lockRun := 0 })
        else s.modBase b (fun t => { t.stop with source, trackS := track })
      let s := if enable ∧ !old.enabled then s.repps b else s
      (if source ≠ old.source ∨ !enable then s.setServo b .free else s, Rep.ok)

/-- The value a relative step leads to, in units of 2^-32 ns (R245). -/
def stepTarget (b : TimeBase) (value : U64) (frac : U32) : Int := b.units + value.toInt * 4294967296 + frac.toNat

/-- time.step (09 R245): a relative step acts at once; an absolute step waits for the next PPS_IN edge. -/
def rowTimeStep (base mode : U8) (value : U64) (frac : U32) (m : Mbx) : Row where
  opcode := 0x0801
  checks := fun _ s =>
    match baseOf base with
    | none => { fields := false }
    | some b =>
      { fields := decide (mode.toNat ≤ 1) && (mode == 0 || frac == 0) && !(base == 0 && mode == 0 && decide (value.toInt < 0)),
        claimed := !s.heldToPrimary base.toNat,
        objects := [need (s.base b).enabled St.badField,
                    need (mode != 0 || decide (0 ≤ stepTarget (s.base b) value frac)) St.badField],
        busy := [need ((s.base b).source == 0) St.busy,
                 need (b != 0 || !s.seamClosed) St.busy,
                 need (b != 3 || s.model.confs.isEmpty) St.busy,
                 need (mode == 0 || s.time.absStep.isNone) St.busy],
        rest := [need (s.base b).armed St.refused,
                 need (!(b == 0 && mode == 1 && decide (value.toNat * 1000000000 < s.chipNs))) St.badField] }
  layout := fun _ => [(0, 0, 8, base.toNat), (1, 0, 8, mode.toNat), (8, 0, 64, value.toNat), (0x10, 0, 32, frac.toNat)]
  effect := fun c s =>
    match baseOf base with
    | none => (s, Rep.fail St.badField)
    | some b =>
      if mode = 0 then
        let s := (s.stepTo b (stepTarget (s.base b) value frac).toNat).mirrorTime b
        (s, Rep.ok (s.baseBytes b))
      else
        (s.modTime (fun t => { t with absStep := some { mbx := m, seq := c.seq, base := b.val, sec := value, until_ := s.clk + 3 * State.ticksPerS / 2 } }), Rep.goesOn)

/-- time.rate (09 R246). -/
def rowTimeRate (base : U8) (adj : U32) : Row where
  opcode := 0x0802
  checks := fun _ s =>
    match baseOf base with
    | none => { fields := false }
    | some b =>
      { fields := decide (-32768000 ≤ adj.toInt) && decide (adj.toInt ≤ 32768000),
        claimed := !s.heldToPrimary base.toNat,
        objects := [need (s.base b).enabled St.badField],
        busy := [need ((s.base b).source == 0) St.busy] }
  layout := fun _ => [(0, 0, 8, base.toNat), (4, 0, 32, adj.toNat)]
  effect := fun _ s =>
    match baseOf base with
    | none => (s, Rep.fail St.badField)
    | some b =>
      let s := (s.modBase b (fun t => t.rate adj.toInt)).mirrorTime b
      (s, Rep.ok (le 1 (s.base b).incNs.toNat ++ le 3 0 ++ le 4 (s.base b).incFrac.toNat))

/-- time.unlock (09 R245): arm a base; TB0 only from mailbox 0 or 16. -/
def rowTimeUnlock (base : U8) (m : Mbx) : Row where
  opcode := 0x0803
  checks := fun _ s =>
    match baseOf base with
    | none => { fields := false }
    | some b =>
      { claimed := !s.heldToPrimary base.toNat,
        objects := [need (s.base b).enabled St.badField],
        rest := [need (b != 0 || m == 0 || m == 16) St.isProtected] }
  layout := fun _ => [(0, 0, 8, base.toNat)]
  effect := fun _ s =>
    match baseOf base with
    | none => (s, Rep.fail St.badField)
    | some b => (s.modBase b (fun t => { t with armed := true }), Rep.ok)

/-- time.read (09): the four bases at one tick. -/
def rowTimeRead : Row where
  opcode := 0x0804
  checks := fun _ _ => {}
  effect := fun _ s => (s, Rep.ok (s.baseBytes 0 ++ s.baseBytes 1 ++ s.baseBytes 2 ++ s.baseBytes 3))

/-- time.pps (09 R248). -/
def rowTimePps (outEnable inEnable : Bool) (outBase : U8) (widthMs : U16) (offsetNs : U32) : Row where
  opcode := 0x0805
  checks := fun _ _ =>
    { fields := decide (outBase.toNat ≤ 3) && decide (widthMs.toNat ≤ 500) && decide (-500000000 ≤ offsetNs.toInt) && decide (offsetNs.toInt ≤ 500000000) }
  layout := fun _ => [(0, 0, 1, bit outEnable), (0, 1, 1, bit inEnable), (1, 0, 8, outBase.toNat), (2, 0, 16, widthMs.toNat), (4, 0, 32, offsetNs.toNat)]
  effect := fun _ s =>
    let s := s.modTime (fun t => { t with pps := { t.pps with
      outEnable, inEnable, outBase := outBase.toNat, widthMs := if widthMs = 0 then 100 else widthMs.toNat, offsetNs := offsetNs.toInt } })
    match baseOf outBase with
    | some b => (s.repps b, Rep.ok)
    | none => (s, Rep.ok)

/-- Code of a PTP port state (time.query). -/
def ptpCode : PtpState → Nat
  | .disabled => 0 | .listening => 1 | .master => 2 | .passive => 3 | .uncalibrated => 4 | .slave => 5 | .faulty => 6

/-- time.query (09). -/
def rowTimeQuery : Row where
  opcode := 0x0807
  checks := fun _ _ => {}
  effect := fun _ s =>
    let b (i : Fin 4) : Bytes := le 1 (s.base i).source.toNat ++ le 1 (servoCode (s.base i).servo) ++ le 2 (bit (s.base i).armed)
    let port (i : Nat) : Bytes := le 1 (match (tget s.net.ifaces i).bind (·.ptp) with | some p => ptpCode p.state | none => 0) ++ le 3 0
    (s, Rep.ok (b 0 ++ b 1 ++ b 2 ++ b 3 ++ le 8 s.net.gm.toNat ++ leI 8 s.net.ptpOffsetPs ++ leI 8 s.net.ptpPathPs ++
      le 2 s.net.stepsRemoved.toNat ++ le 1 (s.net.slaveIface.getD 0xFF) ++ le 1 0 ++ le 4 s.time.pps.ignored.toNat ++
      (List.range 8).flatMap port ++ leI 8 s.net.utcOffset ++ le 8 0))

/-! ### The rows -/

/-- TIME_BASE. -/
def execTimeBase (m : Mbx) (base : U8) (enable : Bool) (source trackS : U8) (s : State) : Host.Outcome State Fault Refusal := .next (s.run m (rowTimeBase base enable source trackS))
/-- TIME_STEP. -/
def execTimeStep (m : Mbx) (base mode : U8) (value : U64) (frac : U32) (s : State) : Host.Outcome State Fault Refusal := .next (s.run m (rowTimeStep base mode value frac m))
/-- TIME_RATE. -/
def execTimeRate (m : Mbx) (base : U8) (adj : U32) (s : State) : Host.Outcome State Fault Refusal := .next (s.run m (rowTimeRate base adj))
/-- TIME_UNLOCK. -/
def execTimeUnlock (m : Mbx) (base : U8) (s : State) : Host.Outcome State Fault Refusal := .next (s.run m (rowTimeUnlock base m))
/-- TIME_READ. -/
def execTimeRead (m : Mbx) (s : State) : Host.Outcome State Fault Refusal := .next (s.run m rowTimeRead)
/-- TIME_PPS. -/
def execTimePps (m : Mbx) (outEnable inEnable : Bool) (outBase : U8) (widthMs : U16) (offsetNs : U32) (s : State) : Host.Outcome State Fault Refusal :=
  .next (s.run m (rowTimePps outEnable inEnable outBase widthMs offsetNs))
/-- TIME_QUERY. -/
def execTimeQuery (m : Mbx) (s : State) : Host.Outcome State Fault Refusal := .next (s.run m rowTimeQuery)

/-- An absolute step whose 1.5 s have passed: TIMEOUT, and the base stays armed (R245). -/
def absTimeout (s : State) : State :=
  match s.time.absStep with
  | some a => if a.until_ ≤ s.clk then ((s.modTime (fun t => { t with absStep := none })).finish a.mbx a.seq (Rep.fail St.timeout)).fin else s
  | none => s

/-- ABSOLUTE_STEP_TIMEOUT. -/
def execAbsoluteStepTimeout (s : State) : Host.Outcome State Fault Refusal := .next (absTimeout s)

/-- The tick at which a base's seconds advance (R243). -/
def rollover (b : Fin 4) (s : State) : State :=
  if (s.base b).enabled ∧ s.boot.stage ≠ .held then s.advance (s.base b).toRollover else s

/-- SECONDS_ROLLOVER. -/
def execSecondsRollover (base : Fin 4) (s : State) : Host.Outcome State Fault Refusal := .next (rollover base s)

/-- The servo's correction by rate: the phase error is removed over TRACK_S, within ±500 ppm (R247). -/
def servoAdj (trackS : Nat) (phaseNs : Int) : Int := clampInt (-32768000) 32768000 (-(phaseNs * 65536) / (trackS * 1000))

/-- The source of a base's servo is present (R247, Table 9-5): told present, and the PPS edge or the followed base is there. -/
def sourcePresent (s : State) (b : Fin 4) (present : Bool) : Bool :=
  present && match (s.base b).source.toNat with
    | 1 => s.net.slaveIface.isSome
    | 2 => s.time.pps.lastIn.any (fun t => decide (s.clk ≤ t + 2 * State.ticksPerS))
    | 3 => (s.base 1).enabled && (s.base 1).servo != .holdover
    | 4 => (s.base 2).enabled && (s.base 2).servo != .holdover
    | 5 => true
    | _ => false

/-- One comparison of a base's servo (R247). `phaseNs` is the base less its source. -/
def servoCompare (b : Fin 4) (phaseNs : Int) (present : Bool) (s : State) : State :=
  let t := s.base b
  if !t.enabled ∨ t.source = 0 ∨ s.heldToPrimary b.val then s
  else if !sourcePresent s b present then
    (if t.servo = .free then s else s.setServo b .holdover).fin
  else
    let mayStep := (b != 0 || (decide (phaseNs < 0) && !s.seamClosed)) && (b != 3 || s.model.confs.isEmpty)
    let target := (t.units : Int) - phaseNs * 4294967296
    let run := if phaseNs.natAbs < 100 then t.lockRun + 1 else 0
    let s :=
      if t.armed ∧ 1000 < phaseNs.natAbs ∧ mayStep ∧ 0 ≤ target then (s.stepTo b target.toNat).mirrorTime b
      else (s.modBase b (fun t => t.rate (servoAdj t.trackS phaseNs))).mirrorTime b
    let s := s.modBase b (fun t => { t with lockRun := run, lastPhaseNs := phaseNs, lastSource := s.chipNs })
    (s.setServo b (if 16 ≤ run then .locked else .acquiring)).fin

/-- SERVO_COMPARISON. -/
def execServoComparison (base : Fin 4) (phaseNs : Int) (present : Bool) (s : State) : Host.Outcome State Fault Refusal := .next (servoCompare base phaseNs present s)

/-- An absolute step at an accepted PPS_IN edge: the base takes the stated whole second (R245). -/
def absAtEdge (s : State) : State :=
  match s.time.absStep with
  | some a =>
    match baseOf (BitVec.ofNat 8 a.base) with
    | some b =>
      let s := s.modTime (fun t => { t with absStep := none })
      if (s.base b).armed then
        let s := (s.stepTo b (a.sec.toNat * secUnits)).mirrorTime b
        s.finish a.mbx a.seq (Rep.ok (s.baseBytes b))
      else s.finish a.mbx a.seq (Rep.fail St.refused)
    | none => s
  | none => s

/-- A rising edge of PPS_IN: stamped in all bases, or ignored and counted within 500 ms of the last accepted one (R248). -/
def ppsIn (s : State) : State :=
  if !s.time.pps.inEnable then s
  else if s.time.pps.lastIn.any (fun t => decide (s.clk < t + 500 * State.ticksPerMs)) then
    s.modTime (fun t => { t with pps := { t.pps with ignored := t.pps.ignored + 1 } })
  else
    let stamp := le 8 (s.base 0).sec.toNat ++ le 4 (s.base 0).ns.toNat ++ le 8 (s.base 1).sec.toNat ++ le 4 (s.base 1).ns.toNat
    let s := s.modTime (fun t => { t with pps := { t.pps with lastIn := some s.clk, stamp := t.bases.map TimeBase.units, edges := t.pps.edges + 1 } })
    ((absAtEdge s).raise 0x0880 St.ok stamp).fin

/-- PPS_IN_EDGE. -/
def execPpsInEdge (s : State) : Host.Outcome State Fault Refusal := .next (ppsIn s)

/-- A rising edge of PPS_OUT is due: the base has reached its next whole second plus offset, and 500 ms have passed since the last edge (R248). -/
def ppsDue (s : State) : Bool :=
  s.time.pps.outEnable && (match baseOf (BitVec.ofNat 8 s.time.pps.outBase) with
    | some b => (s.base b).enabled && decide (s.time.pps.nextOut ≤ (s.tbNs b : Int))
    | none => false) && !s.time.pps.lastOut.any (fun t => decide (s.clk < t + 500 * State.ticksPerMs))

/-- PPS_OUT rises (R248). -/
def ppsOut (s : State) : State :=
  if ppsDue s then
    let s := s.modTime (fun t => { t with pps := { t.pps with lastOut := some s.clk } })
    let s : State := { s with pins := { s.pins with ppsOut := true } }
    match baseOf (BitVec.ofNat 8 s.time.pps.outBase) with
    | some b => s.repps b
    | none => s
  else s

/-- PPS_OUT_EDGE. -/
def execPpsOutEdge (s : State) : Host.Outcome State Fault Refusal := .next (ppsOut s)

/-- PPS_OUT falls after WIDTH_MS (R248). -/
def ppsEnd (s : State) : State :=
  if s.time.pps.lastOut.any (fun t => decide (t + s.time.pps.widthMs * State.ticksPerMs ≤ s.clk)) then { s with pins := { s.pins with ppsOut := false } } else s

/-- PPS_OUT_PULSE_END. -/
def execPpsOutPulseEnd (s : State) : Host.Outcome State Fault Refusal := .next (ppsEnd s)

/-- TS_REFCLK lies within 200 ppm of one of its four frequencies (19 R476). -/
def tsRefclkOk (hz : Nat) : Bool := [10000000, 25000000, 125000000, 156250000].any (fun f => decide ((hz - f + (f - hz)) * 1000000 ≤ 200 * f))

/-- TS_REFCLK_PRESENT: it has been in range for 100 ms without interruption, and the time clock is synthesised from it (19 R476). -/
def execTsRefclkPresent (s : State) (hz : Nat := 10000000) (ms : Nat := 100) : Host.Outcome State Fault Refusal := .next (if tsRefclkOk hz ∧ 100 ≤ ms then s.modTime (fun t => { t with tsRefclk := true }) else s)
/-- TS_REFCLK_LOST: after 10 µs without an edge the time clock is synthesised from the system reference (19 R476). -/
def execTsRefclkLost (s : State) (quietNs : Nat := 10000) : Host.Outcome State Fault Refusal := .next (if 10000 ≤ quietNs then s.modTime (fun t => { t with tsRefclk := false }) else s)

end Sys2Proof.Machine
end

