-- ==== Sys2Proof/Machine/Net.lean ====
section
/-! DEFINITION. Ethernet ports and interfaces (09 R224 to R239): split modes, settings, address filters, addresses, routes, links and neighbours; the net commands. -/

namespace Sys2Proof.Machine

open Sys2Proof

/-! ### Addresses -/

/-- A number as one of two ports. -/
def fin2 (n : Nat) : Fin 2 := if n % 2 = 0 then 0 else 1

/-- The MAC address in the first 6 bytes of an ADDRESS field. -/
def macOf (a : U128) : BitVec 48 := a.extractLsb' 80 48

/-- A group address: its first byte, first transmitted, has bit 0 set. -/
def groupMac (a : BitVec 48) : Bool := a.getLsbD 40

/-- A MAC address that an interface or an exact-match entry may have. -/
def unicastMac (a : BitVec 48) : Bool := !groupMac a && a != 0

/-- One byte of the CRC-32 of R236. -/
def crc32Bits : Nat → U32 → U32
  | 0, h => h
  | n + 1, h => crc32Bits n (if h.getLsbD 0 then (h >>> 1) ^^^ 0xEDB88320 else h >>> 1)

/-- The CRC-32 of R236 over bytes, first transmitted first, before the final complement. -/
def crc32 (b : Bytes) : U32 := b.foldl (fun h x => crc32Bits 8 (h ^^^ x.zeroExtend 32)) 0xFFFFFFFF

/-- The 6 bytes of a MAC address, first transmitted first. -/
def macBytes (a : BitVec 48) : Bytes := [a.extractLsb' 40 8, a.extractLsb' 32 8, a.extractLsb' 24 8, a.extractLsb' 16 8, a.extractLsb' 8 8, a.extractLsb' 0 8]

/-- The bin of a group address (R236). -/
def groupBin (a : BitVec 48) : Nat := (~~~ crc32 (macBytes a)).toNat % 4096

/-- An address as its family reads the field: an IPv4 address lies in the first 4 bytes. -/
def ipOf (af : U8) (a : U128) : U128 := if af = 4 then a &&& (0xFFFFFFFF#128 <<< 96) else a

/-- The first len bits of an address. -/
def prefixBits (a : U128) (len : Nat) : U128 := a >>> (128 - len)

/-- An address lies in a prefix. -/
def inPrefix (p : U128) (len : Nat) (a : U128) : Bool := prefixBits p len == prefixBits a len

/-- A prefix length of a family. -/
def prefixOk (af len : U8) : Bool := (af == 4 && decide (len.toNat ≤ 32)) || (af == 6 && decide (len.toNat ≤ 128))

/-! ### Split modes (Table 9-1) -/

/-- Sub-ports of a split mode. -/
def subPorts (split : Nat) : List Nat :=
  match split with
  | 1 => [0]
  | 2 => [0, 2]
  | 3 => [0, 1, 2, 3]
  | _ => []

/-- Rate of an interface in Gbit/s by split mode. -/
def splitRate (split : Nat) : Nat :=
  match split with
  | 1 => 400
  | 2 => 200
  | 3 => 100
  | _ => 0

/-- Ingress buffer share of an interface in bytes (R230). -/
def splitShare (split : Nat) : Nat := if (subPorts split).length = 0 then 0 else 25165824 / (subPorts split).length

/-- Default high watermark (R230). -/
def highDefault (split : Nat) : Nat := splitShare split * 3 / 4
/-- Default low watermark (R230). -/
def lowDefault (split : Nat) : Nat := splitShare split / 2

namespace State

/-- Ethernet port p. -/
def port (s : State) (p : Fin 2) : Port := s.net.ports.get p
/-- Change the network state. -/
def modNet (s : State) (f : Net → Net) : State := { s with net := f s.net }
/-- Change Ethernet port p. -/
def modPort (s : State) (p : Fin 2) (f : Port → Port) : State := s.modNet (fun n => { n with ports := n.ports.set p (f (n.ports.get p)) })
/-- The Ethernet interface of a number. -/
def iface (s : State) (i : Nat) : Option Iface := tget s.net.ifaces i
/-- Change an Ethernet interface. -/
def modIface (s : State) (i : Nat) (f : Iface → Iface) : State := s.modNet (fun n => { n with ifaces := tmod n.ifaces i f })
/-- Access port p. -/
def accPort (s : State) (p : Fin 2) : AccPort := s.acc.ports.get p
/-- Change access port p. -/
def modAcc (s : State) (p : Fin 2) (f : AccPort → AccPort) : State := { s with acc := { s.acc with ports := s.acc.ports.set p (f (s.acc.ports.get p)) } }

/-- Split mode of the port of an Ethernet interface. -/
def splitOf (s : State) (i : Nat) : Nat := (s.port (fin2 (i / 4))).split
/-- An interface number that exists: an Ethernet sub-port of its split mode, or an access port (R224, 11 R291). -/
def hasIface (s : State) (i : Nat) : Bool := (s.iface i).isSome || i == 0x10 || i == 0x11
/-- Advance a counter of net.query by its order there. -/
def countIface (s : State) (i : Nat) (k : Fin 20) (n : Nat := 1) : State :=
  if i < 16 then s.modIface i (fun f => { f with counters := f.counters.set k (f.counters.get k + BitVec.ofNat 64 n) })
  else s.modAcc (fin2 i) (fun a => { a with ifaceCounters := a.ifaceCounters.set k (a.ifaceCounters.get k + BitVec.ofNat 64 n) })

/-- Local addresses of an interface (R238). -/
def addrsOf (s : State) (i : Nat) : List (U8 × U128 × Nat) := if i < 8 then ((s.iface i).elim [] (·.addrs)) else (s.accPort (fin2 i)).addrs
/-- Routes of an interface (R238). -/
def routesOf (s : State) (i : Nat) : List Route := if i < 8 then ((s.iface i).elim [] (·.routes)) else (s.accPort (fin2 i)).routes
/-- Replace an interface's local addresses. -/
def setAddrs (s : State) (i : Nat) (l : List (U8 × U128 × Nat)) : State :=
  if i < 8 then s.modIface i (fun f => { f with addrs := l }) else s.modAcc (fin2 i) (fun a => { a with addrs := l })
/-- Replace an interface's routes. -/
def setRoutes (s : State) (i : Nat) (l : List Route) : State :=
  if i < 8 then s.modIface i (fun f => { f with routes := l }) else s.modAcc (fin2 i) (fun a => { a with routes := l })

/-- An address is a local address of an interface (R238). -/
def localAddr (s : State) (i : Nat) (af : U8) (a : U128) : Bool := (s.addrsOf i).any (fun x => x.1 == af && x.2.1 == ipOf af a)

/-- The next hop of an address: by longest-prefix match over the attached prefixes and the routes of an interface (R234). -/
def nextHop (s : State) (i : Nat) (af : U8) (a : U128) : Option U128 :=
  let attached := ((s.addrsOf i).filter (fun x => x.1 == af && inPrefix x.2.1 x.2.2 (ipOf af a))).map (fun x => (x.2.2, ipOf af a))
  let routed := ((s.routesOf i).filter (fun r => r.af == af && inPrefix r.pfx r.len (ipOf af a))).map (fun r => (r.len, r.gateway))
  ((attached ++ routed).foldl (fun (best : Option (Nat × U128)) x => if best.all (fun b => decide (b.1 < x.1)) then some x else best) none).map (·.2)
/-- Neighbour cache of an interface (R234). -/
def neighOf (s : State) (i : Nat) : List (U128 × Option (BitVec 48)) := if i < 8 then (s.iface i).elim [] (·.neigh) else (s.accPort (fin2 i)).neigh
/-- Link address of a next hop, where it is resolved. -/
def linkAddr (s : State) (i : Nat) (hop : U128) : Option (BitVec 48) := ((s.neighOf i).find? (fun x => x.1 == hop)).bind (·.2)
/-- Link address that a leg's packets go to. -/
def legLink (s : State) (l : Nat) : Option (BitVec 48) :=
  (tget s.model.legs l).bind (fun q => (s.nextHop q.offer.port.toNat q.offer.af q.offer.remoteAddr).bind (s.linkAddr q.offer.port.toNat))

/-- STATE of net.query (R227); an access port is up in O5, or while its tree runs (11 R291). -/
def linkState (s : State) (i : Nat) : Nat :=
  match s.iface i with
  | some f => if !f.enable then 0 else if f.link then 2 else 1
  | none => if i = 0x10 ∨ i = 0x11 then (let a := s.accPort (fin2 i); if a.role = 0 then 0 else if a.state = 5 then 2 else 1) else 0

/-- SPEED of net.query. -/
def speedCode (s : State) (i : Nat) : Nat :=
  if (s.iface i).isNone then 0 else match splitRate (s.splitOf i) with | 400 => 3 | 200 => 2 | 100 => 1 | _ => 0

/-- Raise the link event (R227). -/
def linkEvent (s : State) (i : Nat) : State :=
  s.raise 0x0780 St.ok (le 1 i ++ le 1 (s.linkState i) ++ le 1 (s.speedCode i) ++ le 5 0 ++ le 8 s.chipS)

/-- Exact-match entries in use: the port's own, its enabled interfaces' addresses, and those reserved in seams (R235, R238). -/
def macsUsed (s : State) (p : Fin 2) : Nat :=
  let q := s.port p
  let own := (s.net.ifaces.filter (fun f => f.1 / 4 == p.val && f.2.enable)).length
  let held := (s.basts.filterMap (fun c => match c with
    | .netAddr _ i 0 0 _ a _ => if i.toNat / 4 = p.val ∧ i.toNat < 8 ∧ !q.macs.contains (macOf a) then some (macOf a) else none
    | _ => none)).eraseDups
  q.macs.length + own + held.length

/-- Local addresses in use on an interface, with those reserved in seams (R238). -/
def addrsUsed (s : State) (i : Nat) : Nat :=
  let held := (s.basts.filterMap (fun c => match c with
    | .netAddr _ j 1 0 af a _ => if j.toNat = i ∧ !s.localAddr i af a then some (af, ipOf af a) else none
    | _ => none)).eraseDups
  (s.addrsOf i).length + held.length

/-- A route of an interface with this prefix. -/
def hasRoute (s : State) (i : Nat) (af : U8) (p : U128) (len : Nat) : Bool := (s.routesOf i).any (fun r => r.af == af && r.len == len && inPrefix r.pfx len (ipOf af p))

/-- Routes in use on an interface, with those reserved in seams (R238). -/
def routesUsed (s : State) (i : Nat) : Nat :=
  let held := (s.basts.filterMap (fun c => match c with
    | .netRoute _ j 0 af len p _ => if j.toNat = i ∧ !s.hasRoute i af p len.toNat then some (af, len, prefixBits (ipOf af p) len.toNat) else none
    | _ => none)).eraseDups
  (s.routesOf i).length + held.length

/-- The commands basted into one seam. -/
def seamCmds (s : State) (id : U16) : List Instr := (s.seamLive id).elim [] (fun k => k.cmds.map (·.instr))

end State

/-! ### net.port -/

/-- An interface as a split mode brings it up: disabled, its watermarks at their defaults; the settings of one that persists are kept (R226). -/
def Iface.bring (f : Iface) (split : Nat) : Iface :=
  { f with enable := false, link := false, occupancy := 0, pauseDue := none, heldUntil := 0, pfcUntil := Vector.replicate 8 0,
           highB := highDefault split, lowB := lowDefault split, fifos := Vector.replicate 8 {} }

namespace State

/-- The interfaces of a port after a change of split mode (R226). -/
def resplit (s : State) (p : Fin 2) (split : Nat) : State :=
  let ups := (s.net.ifaces.filter (fun f => f.1 / 4 == p.val && f.2.enable)).map (·.1)
  let kept (i : Nat) : Iface := ((s.iface i).getD {}).bring split
  let s := s.modNet (fun n => { n with
    ifaces := (subPorts split).foldl (fun t k => tput t (4 * p.val + k) (kept (4 * p.val + k))) (n.ifaces.filter (fun f => f.1 / 4 != p.val)),
    slaveIface := n.slaveIface.filter (fun i => i / 4 != p.val || (subPorts split).contains (i % 4)) })
  let s := s.modPort p (fun q => { q with split, v := 0 })
  ups.foldl (fun s i => s.linkEvent i) s

/-- A seam holds an item of an Ethernet port (net.port card). -/
def portHeld (s : State) (p : Nat) : Option U16 :=
  s.holderOf (fun it => match it with
    | .group q _ | .schedPort q _ | .gate q | .netPort q => q == p
    | .addr i _ | .netRoute i _ _ | .iface i => i / 4 == p && decide (i < 8)
    | .legQueue l => (tget s.model.legs l).any (fun q => q.offer.port.toNat / 4 == p && decide (q.offer.port.toNat < 8))
    | _ => false)

end State

/-- net.port (09 R226). -/
def rowNetPort (port split : U8) (m : Mbx) : Row where
  opcode := 0x0700
  checks := fun _ s =>
    let p := fin2 port.toNat
    { fields := decide (port.toNat ≤ 1) && decide (split.toNat ≤ 3),
      busy := [(s.portHeld port.toNat).map (fun id => Rep.fail St.busy [id.toNat]), need (s.port p).initFor.isNone St.busy],
      rest := [need ((s.port p).split == split.toNat || s.legsOnPort (fun i => i / 4 == port.toNat && decide (i < 8)) == 0) St.refused
                 [s.legsOnPort (fun i => i / 4 == port.toNat && decide (i < 8))]] }
  layout := fun _ => [(0, 0, 8, port.toNat), (1, 0, 8, split.toNat)]
  effect := fun c s =>
    let p := fin2 port.toNat
    if (s.port p).split = split.toNat then (s, Rep.ok)
    else
      let s := s.resplit p split.toNat
      if split = 0 then (s, Rep.ok) else (s.modPort p (fun q => { q with initFor := some (m, c.seq) }), Rep.goesOn)

/-- The new interfaces of a port are initialised: net.port completes (R226). -/
def netPortDone (p : Fin 2) (s : State) : State :=
  match (s.port p).initFor with
  | some (m, seq) => ((s.modPort p (fun q => { q with initFor := none })).finish m seq Rep.ok).fin
  | none => s

/-! ### net.iface -/

/-- The settings of an interface after net.iface, with the fields that the version knows (R230, R239). -/
def Iface.set_ (f : Iface) (q : IfaceReq) (v : U8) (split : Nat) : Iface :=
  { f with
    enable := q.enable, pause := q.pause, rxPause := q.rxPause, lpi := if v = 0x14 then f.lpi else q.lpi, pfcMask := q.pfcMask, mac := q.mac,
    mtu := if q.mtu = 0 then 9216 else q.mtu.toNat, quanta := if q.pauseQuanta = 0 then 65535 else q.pauseQuanta.toNat,
    highB := if q.highB = 0 then highDefault split else q.highB.toNat, lowB := if q.lowB = 0 then lowDefault split else q.lowB.toNat,
    rxLatPs := q.rxLatPs, txLatPs := q.txLatPs, asymPs := q.asymPs }

/-- net.iface (09 R227, R230; 18 R456). -/
def rowNetIface (q : IfaceReq) : Row where
  opcode := 0x0701
  checks := fun c s =>
    let i := q.iface.toNat
    let split := s.splitOf i
    let f := ((s.iface i).getD {}).set_ q c.hdr.version split
    let users := s.legsOnPort (fun k => k == i)
    let was := (s.iface i).any (·.enable)
    { fields := decide (i ≤ 7) && decide (q.pause.toNat ≤ 2) && unicastMac q.mac && withinOr 0 1518 9216 q.mtu.toNat,
      objects := [need (s.iface i).isSome St.badField,
                  need (decide (65536 ≤ f.lowB) && decide (f.lowB < f.highB) && decide (f.highB + 2500 * splitRate split ≤ splitShare split)) St.badField],
      items := [.iface i],
      rest := [need (!q.enable || was || decide (s.macsUsed (fin2 (i / 4)) < 64)) St.noCapacity],
      last := [need (q.enable || users == 0) St.refused [users]] }
  layout := fun v => [(0, 0, 8, q.iface.toNat), (1, 0, 1, bit q.enable), (1, 1, 2, q.pause.toNat), (1, 3, 1, bit q.rxPause), (2, 0, 8, q.pfcMask.toNat), (4, 0, 48, netOrder 6 q.mac.toNat), (0x0A, 0, 16, q.mtu.toNat),
    (0x0C, 0, 16, q.pauseQuanta.toNat), (0x10, 0, 32, q.highB.toNat), (0x14, 0, 32, q.lowB.toNat), (0x18, 0, 32, q.rxLatPs.toNat), (0x1C, 0, 32, q.txLatPs.toNat), (0x20, 0, 32, q.asymPs.toNat)] ++
    (if v = 0x14 then [] else [(1, 4, 1, bit q.lpi)])
  effect := fun c s =>
    let i := q.iface.toNat
    let was := (s.iface i).any (·.enable)
    let s := s.modIface i (fun f =>
      let g := f.set_ q c.hdr.version (s.splitOf i)
      if q.enable then g else { g with link := false, pauseDue := none })
    (if was = q.enable then s else s.linkEvent i, Rep.ok)

/-! ### net.addr, net.group, net.route -/

/-- The effect of net.addr (R235, R238). -/
def doNetAddr (iface kind mode af : U8) (address : U128) (prefixLen : U8) (s : State) : State :=
  let i := iface.toNat
  if kind = 0 then
    s.modPort (fin2 (i / 4)) (fun q =>
      { q with macs := if mode = 0 then (if q.macs.contains (macOf address) then q.macs else q.macs ++ [macOf address]) else q.macs.erase (macOf address) })
  else
    let a := ipOf af address
    let rest := (s.addrsOf i).filter (fun x => !(x.1 == af && x.2.1 == a))
    s.setAddrs i (if mode = 0 then rest ++ [(af, a, prefixLen.toNat)] else rest)

/-- net.addr (09 R235, R238). -/
def rowNetAddr (m : Mbx) (iface kind mode af : U8) (address : U128) (prefixLen : U8) : Row where
  opcode := 0x0702
  checks := fun c s =>
    let i := iface.toNat
    let p := fin2 (i / 4)
    let has := if kind = 0 then (s.port p).macs.contains (macOf address) else s.localAddr i af address
    let added := (s.seamCmds c.hdr.seam).any (fun x => match x with
      | .netAddr _ j k 0 f a _ => j == iface && k == kind && (if kind = 0 then macOf a == macOf address else f == af && ipOf f a == ipOf af address)
      | _ => false)
    let users := (s.model.legs.filter (fun l => l.2.offer.port.toNat == i && l.2.offer.af == af && ipOf af l.2.offer.localAddr == ipOf af address)).length
    { fields := (decide (i ≤ 7) || (decide (0x30 ≤ c.hdr.version.toNat) && (i == 0x10 || i == 0x11))) && decide (kind.toNat ≤ 1) && decide (mode.toNat ≤ 1) &&
        (if kind = 0 then unicastMac (macOf address) && decide (i ≤ 7) else prefixOk af prefixLen),
      objects := [need (s.hasIface i) St.badField, need (mode == 0 || has || added) St.noObject],
      items := [if kind = 0 then .group (i / 4) (macOf address) else .addr i (ipOf af address)],
      last := [need (kind == 0 || mode == 0 || users == 0) St.refused [users]],
      rest := [need (mode != 0 || has || added || (if kind = 0 then decide (s.macsUsed p < 64) else decide (s.addrsUsed i < 32))) St.noCapacity] }
  layout := fun _ => [(0, 0, 8, iface.toNat), (1, 0, 8, kind.toNat), (2, 0, 8, mode.toNat), (3, 0, 8, af.toNat), (4, 0, 128, netOrder 16 address.toNat), (0x14, 0, 8, prefixLen.toNat)]
  effect := fun _ s => (doNetAddr iface kind mode af address prefixLen s, Rep.ok)
  baste := fun _ s => (s, Rep.ok, some (.netAddr m iface kind mode af address prefixLen, 0))

namespace State

/-- Count of a group bin. -/
def binCount (s : State) (p : Fin 2) (b : Nat) : Nat := (tget (s.port p).bins b).getD 0
/-- Add a group address to a port's table, or remove it (R236). -/
def groupRef (s : State) (p : Fin 2) (a : BitVec 48) (add : Bool) : State :=
  let b := groupBin a
  let n := s.binCount p b
  let n := if add then n + 1 else n - 1
  s.modPort p (fun q => { q with bins := if n = 0 then tdel q.bins b else tput q.bins b n })

end State

/-- The effect of net.group (R236). -/
def doNetGroup (port mode : U8) (address : BitVec 48) (s : State) : State := s.groupRef (fin2 port.toNat) address (mode == 0)

/-- net.group (09 R236). -/
def rowNetGroup (m : Mbx) (port mode : U8) (address : BitVec 48) : Row where
  opcode := 0x0703
  checks := fun c s =>
    let added := (s.seamCmds c.hdr.seam).any (fun x => match x with
      | .netGroup _ q 0 a => q == port && groupBin a == groupBin address
      | _ => false)
    { fields := decide (port.toNat ≤ 1) && decide (mode.toNat ≤ 1) && groupMac address,
      objects := [need (mode == 0 || added || s.binCount (fin2 port.toNat) (groupBin address) != 0) St.noObject],
      items := [.group port.toNat address] }
  layout := fun _ => [(0, 0, 8, port.toNat), (1, 0, 8, mode.toNat), (2, 0, 48, netOrder 6 address.toNat)]
  effect := fun _ s =>
    let t := doNetGroup port mode address s
    (t, Rep.ok (le 2 (groupBin address) ++ le 2 (t.binCount (fin2 port.toNat) (groupBin address))))
  baste := fun _ s =>
    let t := doNetGroup port mode address s
    (s, Rep.ok (le 2 (groupBin address) ++ le 2 (t.binCount (fin2 port.toNat) (groupBin address))), some (.netGroup m port mode address, 0))

/-- The effect of net.route (R238): a route with a prefix already present replaces it. -/
def doNetRoute (iface mode af prefixLen : U8) (pfx gateway : U128) (s : State) : State :=
  let i := iface.toNat
  let n := prefixLen.toNat
  let rest := (s.routesOf i).filter (fun r => !(r.af == af && r.len == n && inPrefix r.pfx n (ipOf af pfx)))
  s.setRoutes i (if mode = 0 then rest ++ [{ af, pfx := ipOf af pfx, len := n, gateway := ipOf af gateway }] else rest)

/-- net.route (09 R238). -/
def rowNetRoute (m : Mbx) (iface mode af prefixLen : U8) (pfx gateway : U128) : Row where
  opcode := 0x0704
  checks := fun c s =>
    let i := iface.toNat
    let n := prefixLen.toNat
    let has := s.hasRoute i af pfx n
    let cmds := s.seamCmds c.hdr.seam
    let added := cmds.any (fun x => match x with
      | .netRoute _ j 0 f l p _ => j == iface && f == af && l == prefixLen && inPrefix (ipOf f p) n (ipOf af pfx)
      | _ => false)
    let attached := (s.addrsOf i).any (fun x => x.1 == af && inPrefix x.2.1 x.2.2 (ipOf af gateway)) || cmds.any (fun x => match x with
      | .netAddr _ j 1 0 f a l => j == iface && f == af && inPrefix (ipOf f a) l.toNat (ipOf af gateway)
      | _ => false)
    { fields := (decide (i ≤ 7) || (decide (0x30 ≤ c.hdr.version.toNat) && (i == 0x10 || i == 0x11))) && decide (mode.toNat ≤ 1) && prefixOk af prefixLen,
      objects := [need (s.hasIface i) St.badField, need (mode == 0 || has || added) St.noObject, need (mode != 0 || attached) St.badField],
      items := [.netRoute i (prefixBits (ipOf af pfx) n) n],
      rest := [need (mode != 0 || has || added || decide (s.routesUsed i < 64)) St.noCapacity] }
  layout := fun _ => [(0, 0, 8, iface.toNat), (1, 0, 8, mode.toNat), (2, 0, 8, af.toNat), (3, 0, 8, prefixLen.toNat), (4, 0, 128, netOrder 16 pfx.toNat), (0x14, 0, 128, netOrder 16 gateway.toNat)]
  effect := fun _ s => (doNetRoute iface mode af prefixLen pfx gateway s, Rep.ok)
  baste := fun _ s => (s, Rep.ok, some (.netRoute m iface mode af prefixLen pfx gateway, 0))

/-! ### net.query -/

/-- Held by received pause (R232). -/
def Iface.paused (f : Iface) (now : Nat) : Bool := decide (now < f.heldUntil) || f.pfcUntil.toList.any (fun t => decide (now < t))

/-- net.query (09). -/
def rowNetQuery (iface : U8) (clear : Bool) : Row where
  opcode := 0x0705
  checks := fun _ _ => { fields := decide (iface.toNat ≤ 7) }
  layout := fun _ => [(0, 0, 8, iface.toNat), (1, 0, 1, bit clear)]
  effect := fun _ s =>
    let i := iface.toNat
    let f := (s.iface i).getD {}
    let p := fin2 (i / 4)
    let data := le 1 (s.linkState i) ++ le 1 (s.speedCode i) ++ le 2 (bit f.pauseDue.isSome + 2 * bit (f.paused s.now)) ++ le 4 f.occupancy ++ le 4 f.peak ++ le 4 0 ++
      f.counters.toList.flatMap (fun c => le 8 c.toNat) ++ le 8 (s.port p).tsqOverflow.toNat
    let s := if clear then
        (s.modIface i (fun f => { f with counters := Vector.replicate 20 0, peak := f.occupancy })).modPort p (fun q => { q with tsqOverflow := 0 })
      else s
    (s, Rep.ok data)

/-! ### Links and neighbours -/

/-- An enabled interface's link comes up (R227). -/
def linkUp (i : Nat) (s : State) : State :=
  if (s.iface i).any (fun f => f.enable && !f.link) then ((s.modIface i (fun f => { f with link := true })).linkEvent i).fin else s

/-- A link goes down: its pause state is cleared (R227). -/
def linkDown (i : Nat) (s : State) : State :=
  if (s.iface i).any (fun f => f.link) then ((s.modIface i (fun f => { f with link := false, pauseDue := none })).linkEvent i).fin else s

/-- One try to resolve a next hop: the cache of 4,096 entries keeps it, resolved or not (R234). -/
def neighbourRetry (i : Nat) (a : U128) (mac : Option (BitVec 48)) (s : State) : State :=
  let learn (l : List (U128 × Option (BitVec 48))) : List (U128 × Option (BitVec 48)) :=
    if l.any (fun x => x.1 == a) then l.map (fun x => if x.1 = a then (a, mac) else x) else if l.length < 4096 then l ++ [(a, mac)] else l
  if i < 8 then s.modIface i (fun f => { f with neigh := learn f.neigh })
  else if i = 0x10 ∨ i = 0x11 then s.modAcc (fin2 i) (fun f => { f with neigh := learn f.neigh }) else s

/-! ### The rows -/

/-- NET_PORT. -/
def execNetPort (m : Mbx) (port split : U8) (s : State) : Host.Outcome State Fault Refusal := .next (s.run m (rowNetPort port split m))
/-- NET_PORT_INIT_DONE. -/
def execNetPortInitDone (port : Fin 2) (s : State) : Host.Outcome State Fault Refusal := .next (netPortDone port s)
/-- NET_IFACE. -/
def execNetIface (m : Mbx) (req : IfaceReq) (s : State) : Host.Outcome State Fault Refusal := .next (s.run m (rowNetIface req))
/-- NET_ADDR. -/
def execNetAddr (m : Mbx) (iface kind mode af : U8) (address : U128) (prefixLen : U8) (s : State) : Host.Outcome State Fault Refusal :=
  .next (s.run m (rowNetAddr m iface kind mode af address prefixLen))
/-- NET_GROUP. -/
def execNetGroup (m : Mbx) (port mode : U8) (address : BitVec 48) (s : State) : Host.Outcome State Fault Refusal := .next (s.run m (rowNetGroup m port mode address))
/-- NET_ROUTE. -/
def execNetRoute (m : Mbx) (iface mode af prefixLen : U8) (pfx gateway : U128) (s : State) : Host.Outcome State Fault Refusal :=
  .next (s.run m (rowNetRoute m iface mode af prefixLen pfx gateway))
/-- NET_QUERY. -/
def execNetQuery (m : Mbx) (iface : U8) (clear : Bool) (s : State) : Host.Outcome State Fault Refusal := .next (s.run m (rowNetQuery iface clear))
/-- LINK_UP. -/
def execLinkUp (iface : U8) (s : State) : Host.Outcome State Fault Refusal := .next (linkUp iface.toNat s)
/-- LINK_DOWN. -/
def execLinkDown (iface : U8) (s : State) : Host.Outcome State Fault Refusal := .next (linkDown iface.toNat s)
/-- NEIGHBOUR_RETRY. -/
def execNeighbourRetry (iface : U8) (address : U128) (resolved : Option (BitVec 48)) (s : State) : Host.Outcome State Fault Refusal :=
  .next (neighbourRetry iface.toNat address resolved s)

end Sys2Proof.Machine
end

