-- ==== Sys2Proof/Machine/Sched.lean ====
section
/-! DEFINITION. Egress (10 R250 to R267, 09 R232, R234, R241): queues and their limits, gates, shapers, the weighted group, the scheduling decision, latency sampling; the sched commands. -/

namespace Sys2Proof.Machine

open Sys2Proof

/-! ### Buckets, in units of 2e-7 bit -/

/-- Cost of a length in bytes. -/
def bucketCost (bytes : Nat) : Nat := bytes * 40000000

/-- Content of a bucket of rate kbit/s and a depth in bytes after some ticks. -/
def bucketNow (tokens kbps ticks depth : Nat) : Nat := min (bucketCost depth) (tokens + kbps * ticks * 16)

/-- Frames of a queue in bytes. -/
def queued (l : List QFrame) : Nat := total l (·.length)

/-! ### Gates (R262, R263) -/

/-- The entries of a list as windows of its cycle: start, end and gates (R262). -/
def windowsFrom (cycle : Nat) : Nat → List GateEntry → List (Nat × Nat × U8)
  | _, [] => []
  | pos, e :: rest =>
    if cycle ≤ pos then []
    else
      let stop := pos + e.intervalNs.toNat
      let stop := if rest = [] ∨ cycle < stop then cycle else stop
      (pos, stop, e.gates) :: windowsFrom cycle stop rest

/-- The windows of a list. -/
def GateList.windows (g : GateList) : List (Nat × Nat × U8) := windowsFrom g.cycleNs 0 g.entries

/-- Length of the windows open to a class at the front of a list, until one is closed. -/
def openRun (tc : Nat) : List (Nat × Nat × U8) → Nat
  | [] => 0
  | w :: rest => if w.2.2.getLsbD tc then w.2.1 - w.1 + openRun tc rest else 0

/-- Nanoseconds until a class's gate next closes: none when it never closes, 0 when it is closed now (R263). -/
def gateLeft (run : Option GateList) (tc nowNs : Nat) : Option Nat :=
  match run with
  | none => none
  | some g =>
    let ws := g.windows
    if ws.all (fun w => w.2.2.getLsbD tc) then none
    else
      let pos := (nowNs - g.startNs) % g.cycleNs
      let before := ws.filter (fun w => decide (w.2.1 ≤ pos))
      let after := ws.filter (fun w => decide (pos < w.2.1))
      match after with
      | [] => some 0
      | w :: rest => some (if w.2.2.getLsbD tc then openRun tc ((pos, w.2.1, w.2.2) :: rest ++ before ++ [w]) else 0)

/-- Longest open window of a class: none when it never closes (R263). -/
def longestOpen (run : Option GateList) (tc : Nat) : Option Nat :=
  match run with
  | none => none
  | some g =>
    let ws := g.windows
    if ws.all (fun w => w.2.2.getLsbD tc) then none
    else some ((List.range ws.length).foldl (fun acc k => max acc (openRun tc (ws.drop k ++ ws.take k))) 0)

/-- A frame of a length at a rate in Gbit/s ends within a time (R263). -/
def endsWithin (length gbps : Nat) (left : Option Nat) : Bool := match left with | none => true | some t => decide (length * 8 ≤ t * gbps)

namespace State

/-- Leg queue l. -/
def legQ (s : State) (l : Nat) : LegQ := (tget s.net.legq l).getD {}
/-- Change leg queue l. -/
def modLegQ (s : State) (l : Nat) (f : LegQ → LegQ) : State := s.modNet (fun n => { n with legq := tput n.legq l (f (s.legQ l)) })

/-- Rate of an interface in Gbit/s. -/
def gbps (s : State) (i : Nat) : Nat := if i < 8 then splitRate (s.splitOf i) else 10
/-- MTU of an interface. -/
def mtuOf (s : State) (i : Nat) : Nat :=
  if i < 8 then (s.iface i).elim 9216 (·.mtu) else ((s.accPort (fin2 i)).cfg).elim 9000 (fun c => c.mtu.toNat)
/-- Interface of a leg. -/
def legIface (s : State) (l : Nat) : Nat := (tget s.model.legs l).elim 0 (fun q => q.offer.port.toNat)

/-- Depth of a leg queue's shaper in bytes (R257). -/
def shaperDepth (s : State) (l : Nat) : Nat := let q := s.legQ l; max (s.mtuOf (s.legIface l)) (q.rateKbps * q.burstMs / 8)
/-- Tokens of a leg queue's shaper now (R257). -/
def shaperNow (s : State) (l : Nat) : Nat := let q := s.legQ l; bucketNow q.tokens q.rateKbps (s.now - q.tokensAt) (s.shaperDepth l)

/-- Set a shaper's rate: the tokens held are kept, capped at the new depth (R257). -/
def setShaper (s : State) (l kbps : Nat) : State :=
  let held := s.shaperNow l
  let s := s.modLegQ l (fun q => { q with rateKbps := kbps, tokensAt := s.now })
  s.modLegQ l (fun q => { q with tokens := min held (bucketCost (s.shaperDepth l)) })

/-- Elapsed ticks at which the head of a leg queue became eligible under its shaper (R257). -/
def eligibleAt (s : State) (l length : Nat) : Nat :=
  let q := s.legQ l
  if bucketCost length ≤ q.tokens then q.tokensAt else q.tokensAt + ceilDiv' (bucketCost length - q.tokens) (q.rateKbps * 16)

/-- Virtual time of the weighted group of an interface's port (R255, 11 R292). -/
def vOf (s : State) (i : Nat) : Nat := if i < 8 then (s.port (fin2 (i / 4))).v else (s.accPort (fin2 i)).v
/-- Set the virtual time of an interface's port. -/
def setV (s : State) (i v : Nat) : State := if i < 8 then s.modPort (fin2 (i / 4)) (fun p => { p with v }) else s.modAcc (fin2 i) (fun a => { a with v })

/-- Finish tag of a head of a length (R255). -/
def finishTag (s : State) (i l length : Nat) : Nat := max (s.vOf i) (s.legQ l).fPrev + length * 65536 / (s.legQ l).weight

/-- A leg is an emergency leg (04 R121). -/
def isEmergency (s : State) (l : Nat) : Bool := (tget s.model.legs l).any (·.emergency)

/-- Level at which a leg queue is served: S1, S4 to S7, or the weighted group (R250). -/
def queueLevel (s : State) (l : Nat) : Option (Fin 9) :=
  if s.isEmergency l then some 1
  else match (s.legQ l).egress with | 4 => some 4 | 5 => some 5 | 6 => some 6 | 7 => some 7 | _ => none

/-- Legs with frames queued for an interface, in order of number. -/
def queuesOf (s : State) (i : Nat) : List Nat :=
  (s.net.legq.filter (fun q => q.2.frames != [] && (tget s.model.legs q.1).any (fun g => g.offer.port.toNat == i))).map (·.1)

/-- Settings of a level of an interface's port; an access port has the defaults of Table 10-1. -/
def levelOf (s : State) (i : Nat) (j : Fin 9) : Level := if i < 8 then (s.port (fin2 (i / 4))).levels.get j else levelDefaults.get j

/-- Byte limit of a strict FIFO of an interface (R253). -/
def fifoLimit (s : State) (i : Nat) (k : Fin 9) : Nat :=
  (s.levelOf i k).limitKib * 1024 / (if i < 8 then max 1 (subPorts (s.splitOf i)).length else 1)

end State

/-! ### Entering a queue (R250 to R253, R258) -/

/-- The level of a strict queue as one of nine. -/
def lvl9 (k : Fin 8) : Fin 9 := ⟨k.val, Nat.lt_succ_of_lt k.isLt⟩

/-- The priority FIFO of an access port that takes a strict level's frames (11 R292). -/
def fifo4 (k : Fin 8) : Fin 4 := if h : k.val < 4 then ⟨k.val, h⟩ else 3

namespace State

/-- Put a frame into a strict FIFO, or drop the newest whole and count LEVEL_DROP (R253). -/
def pushFifo (s : State) (i : Nat) (k : Fin 8) (f : QFrame) : State :=
  if i < 8 then
    match s.iface i with
    | none => s
    | some g =>
      let q := g.fifos.get k
      if s.fifoLimit i (lvl9 k) < queued q.frames + f.length then
        s.modPort (fin2 (i / 4)) (fun p => { p with drops := p.drops.set k (p.drops.get k + 1) })
      else s.modIface i (fun g => { g with fifos := g.fifos.set k { q with frames := q.frames ++ [f] } })
  else
    let q := (s.accPort (fin2 i)).fifos.get (fifo4 k)
    if s.fifoLimit i (lvl9 k) < queued q.frames + f.length then s
    else s.modAcc (fin2 i) (fun a => { a with fifos := a.fifos.set (fifo4 k) { q with frames := q.frames ++ [f] } })

/-- Give the head of a leg queue its finish tag once it is eligible; a head held by its shaper has none and does not compete (R255, R256). -/
def tagHead (s : State) (i l : Nat) : State :=
  match (s.legQ l).frames with
  | [] => s
  | f :: _ =>
    if (s.legQ l).tag.isNone ∧ bucketCost f.length ≤ s.shaperNow l then s.modLegQ l (fun q => { q with tag := some (s.finishTag i l f.length) }) else s

/-- Put a frame into a leg queue: none while the leg is HELD, the newest dropped as QDROP_FULL when it does not fit (R258). -/
def pushLeg (s : State) (l : Nat) (f : QFrame) : State :=
  match tget s.model.legs l with
  | none => s
  | some g =>
    if g.state = .held ∨ g.state = .basted then s
    else if (s.legQ l).qlimitKib * 1024 < queued (s.legQ l).frames + f.length then s.modLegQ l (fun q => { q with qdropFull := q.qdropFull + 1 })
    else (s.modLegQ l (fun q => { q with frames := q.frames ++ [f] })).tagHead g.offer.port.toNat l

/-- Send a frame to its queue, for a leg with the link address of its next hop (09 R234): strict traffic of an emergency leg goes to S1, video to the leg's queue (R250, Table 10-1). -/
def enqueue (s : State) (t : TxFrame) (ident : Option U16 := none) (dst : Option (BitVec 48) := none) : State :=
  let leg := thas s.model.legs t.leg
  let f : QFrame := { length := t.length, stampNs := s.chipNs, leg := t.leg, resolved := if leg then (s.legLink t.leg).isSome else t.nextHopResolved, ident, dst := if leg then s.legLink t.leg else dst }
  match t.level with
  | some k => s.pushFifo t.iface.toNat (if s.isEmergency t.leg ∧ t.leg ≠ 0xFFFF then 1 else k) f
  | none => s.pushLeg t.leg f

/-- Empty a leg's queue without counting; its shaper and tags return to their initial values (R258). -/
def emptyQueue (s : State) (l : Nat) : State :=
  s.modLegQ l (fun q => { q with frames := [], tag := none, fPrev := 0, rateKbps := 0, tokens := ({} : LegQ).tokens, tokensAt := 0, departures := [] })

/-- Drop the head of a leg queue. -/
def dropHead (s : State) (l : Nat) (f : LegQ → LegQ) : State := s.modLegQ l (fun q => f { q with frames := q.frames.drop 1, tag := none })

/-- Drop the head frames that have waited longer than SOJOURN_MS (R258). -/
def dropAged (s : State) (l : Nat) : Nat → State
  | 0 => s
  | n + 1 =>
    match (s.legQ l).frames with
    | f :: _ => if f.stampNs + (s.legQ l).sojournMs * 1000000 < s.chipNs then (s.dropHead l (fun q => { q with qdropAge := q.qdropAge + 1 })).dropAged l n else s
    | [] => s

end State

/-! ### The scheduling decision (R254) -/

/-- What a decision may serve: the FIFO of a level or a leg queue, with the chip time in ns from which it was eligible. -/
structure Candidate where
  leg : Option Nat
  frame : QFrame
  since : Nat
  deriving DecidableEq, Repr

/-- One candidate goes before another: earlier eligibility, then the FIFO, then the lowest leg (R254). -/
def Candidate.before (a b : Candidate) : Bool :=
  decide (a.since < b.since) || (a.since == b.since && (match a.leg, b.leg with
    | none, _ => true
    | some _, none => false
    | some x, some y => decide (x ≤ y)))

/-- The best of a list by an order. -/
def bestBy {α : Type} (le : α → α → Bool) (l : List α) : Option α := (sortBy le l).head?

namespace State

/-- A traffic class is held by received pause (R259). -/
def classHeld (s : State) (i tc : Nat) : Bool :=
  match s.iface i with
  | none => false
  | some f => decide (s.now < f.heldUntil) || (List.finRange 9).any (fun j =>
      (s.levelOf i j).tc == tc && (List.finRange 8).any (fun k => k.val == (s.levelOf i j).pcp && decide (s.now < f.pfcUntil.get k)))

/-- The class of a level lets a frame start: its gate is open until the frame's end, and no pause holds it (R254, R263). -/
def levelLets (s : State) (i : Nat) (j : Fin 9) (length : Nat) : Bool :=
  let tc := (s.levelOf i j).tc
  let run := if i < 8 then (s.port (fin2 (i / 4))).running else none
  gateLeft run tc s.chipNs != some 0 && endsWithin length (s.gbps i) (gateLeft run tc s.chipNs) && !s.classHeld i tc

/-- Tokens of a level's rate bucket now; a level without a rate is never short (R253). -/
def levelRate (s : State) (i : Nat) (j : Fin 8) (length : Nat) : Bool :=
  let rate := (s.levelOf i (lvl9 j)).rate
  if rate = 0 ∨ 8 ≤ i then true
  else match s.iface i with
    | none => true
    | some g => decide (bucketCost length ≤ bucketNow (g.fifos.get j).tokens (rate * 100000) (s.now - (g.fifos.get j).tokensAt) (2 * g.mtu))

/-- Frames at a strict level's FIFO of an interface. -/
def fifoFrames (s : State) (i : Nat) (j : Fin 8) : List QFrame :=
  if i < 8 then ((s.iface i).elim [] (fun g => (g.fifos.get j).frames)) else if j.val < 4 then ((s.accPort (fin2 i)).fifos.get (fifo4 j)).frames else []

/-- The head of a leg queue, if it is eligible under its shaper. -/
def legHead (s : State) (l : Nat) : Option QFrame := (s.legQ l).frames.head?.filter (fun f => bucketCost f.length ≤ s.shaperNow l)

/-- The candidate of a strict level (R254). -/
def strictPick (s : State) (i : Nat) (j : Fin 8) : Option Candidate :=
  let fifo : List Candidate := match s.fifoFrames i j with | f :: _ => [{ leg := none, frame := f, since := f.stampNs }] | [] => []
  let legs : List Candidate := (s.queuesOf i).filterMap (fun l =>
    if s.queueLevel l = some (lvl9 j) then
      (s.legHead l).map (fun f => { leg := some l, frame := f, since := max f.stampNs (s.chipNs - (s.now - s.eligibleAt l f.length) * 16 / 5) })
    else none)
  bestBy Candidate.before ((fifo ++ legs).filter (fun c => s.levelLets i (lvl9 j) c.frame.length && s.levelRate i j c.frame.length))

/-- The candidate of the weighted group: the eligible head with the smallest finish tag, the lowest leg on a tie (R255). -/
def groupPick (s : State) (i : Nat) : Option Candidate :=
  let heads := (s.queuesOf i).filterMap (fun l =>
    if s.queueLevel l = none then
      match s.legHead l, (s.legQ l).tag with
      | some f, some t => if s.levelLets i 8 f.length then some (l, t, f) else none
      | _, _ => none
    else none)
  (bestBy (fun (a b : Nat × Nat × QFrame) => decide (a.2.1 < b.2.1) || (a.2.1 == b.2.1 && decide (a.1 ≤ b.1))) heads).map
    (fun x => { leg := some x.1, frame := x.2.2, since := 0 })

/-- Take the frame served out of its queue: the shaper and the level's bucket pay for it, and V becomes the group's finish tag (R253, R255, R257). -/
def serve (s : State) (i : Nat) (level : Option (Fin 8)) (c : Candidate) : State :=
  let s :=
    match c.leg with
    | some l =>
      let left := s.shaperNow l - bucketCost c.frame.length
      let tag := (s.legQ l).tag
      let s := match level, tag with
        | none, some t => (s.setV i t).modLegQ l (fun q => { q with fPrev := t })
        | _, _ => s
      (s.modLegQ l (fun q => { q with frames := q.frames.drop 1, tag := none, tokens := left, tokensAt := s.now })).tagHead i l
    | none =>
      match level with
      | some j =>
        if i < 8 then s.modIface i (fun g => { g with fifos := g.fifos.set j { g.fifos.get j with frames := (g.fifos.get j).frames.drop 1 } })
        else s.modAcc (fin2 i) (fun a => { a with fifos := a.fifos.set (fifo4 j) { a.fifos.get (fifo4 j) with frames := (a.fifos.get (fifo4 j)).frames.drop 1 } })
      | none => s
  match level with
  | some j =>
    if (s.levelOf i (lvl9 j)).rate = 0 ∨ 8 ≤ i then s
    else s.modIface i (fun g => { g with fifos := g.fifos.set j { g.fifos.get j with
      tokens := bucketNow (g.fifos.get j).tokens ((s.levelOf i (lvl9 j)).rate * 100000) (s.now - (g.fifos.get j).tokensAt) (2 * g.mtu) - bucketCost c.frame.length,
      tokensAt := s.now } })
  | none => s

/-- Ten seconds of departures stay in a leg's history. -/
def departKeep : Nat := 10000000000

/-- A frame leaves, marked as its level says (R251): it is counted, its departure is recorded for its leg, and a requested stamp enters the port's queue, lost when the queue is full (09 R241). -/
def depart (s : State) (i : Nat) (j : Fin 9) (media : Bool) (f : QFrame) : State :=
  let vlan := (tget s.model.legs f.leg).elim 0 (fun q => q.offer.vlan.toNat)
  let x := s.levelOf i j
  let out : WireFrame := { leg := f.leg, length := f.length, tag := if vlan = 0 then none else some (vlan, x.pcp), dscp := x.dscp }
  let s := ((s.countIface i 2).countIface i 3 f.length).modIface i (fun g => { g with wire := some out })
  let s := if media ∧ f.leg ≠ 0xFFFF then
      s.modLegQ f.leg (fun q => { q with departures := (s.chipNs, f.length) :: q.departures.takeWhile (fun d => decide (s.chipNs < d.1 + departKeep)) })
    else s
  match f.ident.filter (fun _ => decide (i < 8)) with
  | none => s
  | some n =>
    let lat := (s.iface i).elim 0 (fun g => g.txLatPs.toInt)
    s.modPort (fin2 (i / 4)) (fun p =>
      if 64 ≤ p.tsq.length then { p with tsqOverflow := p.tsqOverflow + 1 }
      else { p with tsq := p.tsq ++ [{ ident := n, iface := i, units := s.time.bases.map (fun b => ((b.units : Int) + lat * 4294967296 / 1000).toNat) }] })

/-- Whether a candidate's frame can leave, and the counter of its discard otherwise: unresolved next hop, above the MTU (09 R234), or a class window too short (R263). -/
def egressFault (s : State) (i : Nat) (j : Fin 9) (f : QFrame) : Option (Fin 3) :=
  let run := if i < 8 then (s.port (fin2 (i / 4))).running else none
  if !endsWithin f.length (s.gbps i) (longestOpen run (s.levelOf i j).tc) then some 0
  else if s.mtuOf i < f.length then some 1
  else if !f.resolved then some 2
  else none

/-- Count a discard at egress. -/
def countFault (s : State) (i : Nat) (leg : Option Nat) : Fin 3 → State
  | 0 => match leg with | some l => s.modLegQ l (fun q => { q with oversize := q.oversize + 1 }) | none => s
  | 1 => s.countIface i 13
  | _ => s.countIface i 15

/-- Discard the frames at the head of a strict FIFO that can never leave. -/
def cleanFifo (s : State) (i : Nat) (j : Fin 8) : List QFrame → State
  | [] => s
  | f :: rest =>
    match s.egressFault i (lvl9 j) f with
    | none => s
    | some k =>
      let s := s.countFault i none k
      (if i < 8 then s.modIface i (fun g => { g with fifos := g.fifos.set j { g.fifos.get j with frames := rest } })
       else s.modAcc (fin2 i) (fun a => { a with fifos := a.fifos.set (fifo4 j) { a.fifos.get (fifo4 j) with frames := rest } })).cleanFifo i j rest

/-- Discard the frames at the head of a leg queue that can never leave, and those past SOJOURN_MS. -/
def cleanLeg (s : State) (i l : Nat) : Nat → State
  | 0 => s
  | n + 1 =>
    let s := s.dropAged l (s.legQ l).frames.length
    match (s.legQ l).frames with
    | [] => s
    | f :: _ =>
      match s.egressFault i ((s.queueLevel l).getD 8) f with
      | none => s.tagHead i l
      | some k => ((s.countFault i (some l) k).dropHead l id).cleanLeg i l n

/-- Discard what stands at the heads and cannot leave, and tag the heads that have become eligible. -/
def clean (s : State) (i : Nat) : State :=
  let s := (List.finRange 8).foldl (fun s j => s.cleanFifo i j (s.fifoFrames i j)) s
  (s.queuesOf i).foldl (fun s l => s.cleanLeg i l (s.legQ l).frames.length) s

/-- The first eligible candidate, S0 to S7 in order and then the weighted group (R254). -/
def pick (s : State) (i : Nat) : Option (Option (Fin 8) × Candidate) :=
  match (List.finRange 8).findSome? (fun j => (s.strictPick i j).map (fun c => (some j, c))) with
  | some x => some x
  | none => (s.groupPick i).map (fun c => (none, c))

/-- Discard every frame queued for an interface whose link is down, counted as TX_LINK_DOWN (09 R227). -/
def dropAll (s : State) (i : Nat) : State :=
  let n := total (List.finRange 8) (fun j => (s.fifoFrames i j).length) + total (s.queuesOf i) (fun l => (s.legQ l).frames.length)
  let s := (s.queuesOf i).foldl (fun s l => s.modLegQ l (fun q => { q with frames := [], tag := none })) s
  (s.modIface i (fun g => { g with fifos := g.fifos.map (fun q => { q with frames := [] }) })).countIface i 14 n

end State

/-- A unit sends no media: a standby in single-send mode, and every other unit of a formed pair but the primary and a standby (12 Table 12-1, R318, R325). -/
def State.mute (s : State) : Bool := s.notPrimary && (s.twin.state != .standby || s.twin.singleNow)

/-- One scheduling decision of an Ethernet interface (R254); none is made while its port's block or the queue block is drained or reset (01 R24). The media frames of a unit that sends no media leave their queue and are not sent (12 R318). -/
def schedule (i : Nat) (s : State) : State :=
  match s.iface i with
  | none => s
  | some f =>
    if !f.enable ∨ !s.atWork 2 0 ∨ !s.atWork 2 2 then s
    else if !f.link then s.dropAll i
    else
      let s := s.clean i
      match s.pick i with
      | none => s
      | some (level, c) =>
        let media := c.leg.isSome || level == some 3 || level == some 1
        let s := s.serve i level c
        if media ∧ s.mute then s else s.depart i (level.elim 8 lvl9) media c.frame

/-! ### Latency sampling (R266, R267) -/

/-- Depth bin (R267). -/
def depthBin (d : Nat) : Nat := if d = 0 then 0 else if d < 512 then 1 else min 15 (Nat.log2 (d / 256) + 1)
/-- Sojourn bin of a non-empty queue (R267). -/
def sojournBin (us : Nat) : Nat := if us < 16 then 1 else min 15 (Nat.log2 (us / 8) + 1)

/-- Add one to a bin, saturating. -/
def Hist.bump (h : Hist) (k : Nat) : Hist := h.setIfInBounds k (satInc ((h[k]?).getD 0))

/-- Bins of a queue of frames at a time. -/
def binsOf (l : List QFrame) (nowNs : Nat) : Nat × Nat :=
  match l with
  | [] => (0, 0)
  | f :: _ => (depthBin (queued l), sojournBin ((nowNs - f.stampNs) / 1000))

/-- One visit of both samplers: the next leg queue, and the next of the 16 strict levels (R266). -/
def latencySample (s : State) : State :=
  let l := s.net.sampleLeg
  let b := binsOf (s.legQ l).frames s.chipNs
  let s := s.modLegQ l (fun q => { q with depthHist := q.depthHist.bump b.1, sojournHist := q.sojournHist.bump b.2 })
  let p := fin2 (s.net.sampleLevel / 8)
  let k : Fin 8 := ⟨s.net.sampleLevel % 8, Nat.mod_lt _ (by decide)⟩
  let frames := (s.net.ifaces.filter (fun f => f.1 / 4 == p.val)).flatMap (fun f => (f.2.fifos.get k).frames)
  let c := binsOf (sortBy (fun a b => decide (a.stampNs ≤ b.stampNs)) frames) s.chipNs
  let s := s.modPort p (fun q => { q with depthHist := q.depthHist.set k ((q.depthHist.get k).bump c.1), sojournHist := q.sojournHist.set k ((q.sojournHist.get k).bump c.2) })
  s.modNet (fun n => { n with sampleLeg := (n.sampleLeg + 1) % 65536, sampleLevel := (n.sampleLevel + 1) % 16 })

/-! ### sched commands -/

/-- A gate list closes a class in some entry. -/
def GateList.closes (g : GateList) (tc : Nat) : Bool := g.enable && g.entries.any (fun e => !e.gates.getLsbD tc)

/-- One level's settings after its entry of sched.port. -/
def levelAfter (old : Level) (q : LevelReq) : Level :=
  { tc := q.tc.toNat, pcp := q.pcp.toNat, dscp := q.dscp.toNat, limitKib := if q.limitKib = 0 then old.limitKib else q.limitKib.toNat, rate := q.rate.toNat }

/-- The nine levels after sched.port (R251, R253). -/
def levelsAfter (change : BitVec 9) (levels : List LevelReq) (v : Vector Level 9) : Vector Level 9 :=
  (List.finRange 9).foldl (fun v (j : Fin 9) =>
    match levels[j.val]? with
    | some q => if change.getLsbD j.val then v.set j (levelAfter (v.get j) (if j = 8 then { q with limitKib := 0 } else q)) else v
    | none => v) v

/-- The effect of sched.port (R251, R253). -/
def doSchedPort (port : U8) (change : BitVec 9) (levels : List LevelReq) (s : State) : State :=
  s.modPort (fin2 port.toNat) (fun p => { p with levels := levelsAfter change levels p.levels })

/-- sched.port (10). -/
def rowSchedPort (m : Mbx) (port : U8) (change : BitVec 9) (levels : List LevelReq) : Row where
  opcode := 0x0900
  checks := fun _ s =>
    let p := s.port (fin2 port.toNat)
    let ok (j : Nat) (q : LevelReq) : Bool :=
      !change.getLsbD j || ((j == 8 || q.limitKib == 0 || within 64 4096 q.limitKib.toNat) && (q.rate == 0 || (j != 0 && j != 1 && j != 8 && decide (q.rate.toNat ≤ 4000))))
    let tc1 := ((levels[1]?).elim 0 (fun q => q.tc.toNat))
    { fields := decide (port.toNat ≤ 1) && levels.length == 9 && levels.zipIdx.all (fun x => ok x.2 x.1),
      items := ((List.range 9).filter (fun j => change.getLsbD j)).map (fun j => .schedPort port.toNat j),
      rest := [need (!change.getLsbD 1 || s.permits m 2) St.isProtected,
               need (!change.getLsbD 1 || !((p.running.any (fun g => g.closes tc1)) || (p.pending.any (fun g => g.closes tc1)))) St.isProtected] }
  layout := fun _ => [(0, 0, 8, port.toNat), (2, 0, 9, change.toNat)] ++ levels.zipIdx.flatMap (fun p => let o := 8 + 8 * p.2; [(o, 0, 3, p.1.tc.toNat), (o + 1, 0, 3, p.1.pcp.toNat), (o + 2, 0, 6, p.1.dscp.toNat), (o + 4, 0, 16, p.1.limitKib.toNat), (o + 6, 0, 16, p.1.rate.toNat)])
  effect := fun _ s => (doSchedPort port change levels s, Rep.ok)
  baste := fun _ s => (s, Rep.ok, some (.schedPort m port change levels, 0))

/-- The effect of sched.leg (R255 to R260). -/
def doSchedLeg (q : SchedLegReq) (s : State) : State :=
  let s := s.modLegQ q.leg.toNat (fun g => { g with
    weight := if q.change.getLsbD 0 then q.weight.toNat else g.weight, egress := if q.change.getLsbD 1 then q.egress.toNat else g.egress,
    burstMs := if q.change.getLsbD 2 then q.burstMs.toNat else g.burstMs, qlimitKib := if q.change.getLsbD 3 then q.qlimitKib.toNat else g.qlimitKib,
    sojournMs := if q.change.getLsbD 4 then q.sojournMs.toNat else g.sojournMs, policeKbps := if q.change.getLsbD 5 then q.policeKbps.toNat else g.policeKbps,
    policeMs := if q.change.getLsbD 5 then q.policeMs.toNat else g.policeMs })
  s.tagHead (s.legIface q.leg.toNat) q.leg.toNat

/-- sched.leg as a slot of a version reads it: EGRESS exists from 2.0. -/
def schedLegAt (q : SchedLegReq) (v : U8) : SchedLegReq := if v = 0x14 then { q with change := q.change &&& 0b11111101 } else q

/-- sched.leg (10). -/
def rowSchedLeg (m : Mbx) (req : SchedLegReq) : Row where
  opcode := 0x0901
  checks := fun c s =>
    let q := schedLegAt req c.hdr.version
    let l := s.legFor q.leg.toNat c.hdr.seam
    let emergency := l.any (·.emergency)
    let f (k : Nat) (ok : Bool) : Bool := !q.change.getLsbD k || ok
    { fields := f 0 (within 1 4096 q.weight.toNat) && f 1 (q.egress == 0 || within 4 7 q.egress.toNat) && f 2 (within 1 50 q.burstMs.toNat) &&
        f 3 (within 16 8192 q.qlimitKib.toNat) && f 4 (within 10 5000 q.sojournMs.toNat) && f 5 ((q.policeKbps == 0 || within 16 400000 q.policeKbps.toNat) && within 10 1000 q.policeMs.toNat) &&
        decide (q.change.toNat < 64),
      objects := [need l.isSome St.noObject, need (!(emergency && q.change.getLsbD 1)) St.badField],
      scope := l.map (·.conf),
      items := [.legQueue q.leg.toNat],
      rest := [need (!(emergency && q.change.getLsbD 5) || s.permits m 0 ||
        ((q.policeKbps == 0 || l.any (fun g => decide (g.offer.sendKbps ≤ q.policeKbps.toNat))) && decide (100 ≤ q.policeMs.toNat))) St.isProtected] }
  layout := fun v => [(0, 0, 16, req.leg.toNat), (2, 0, 8, req.change.toNat), (4, 0, 16, req.weight.toNat), (6, 0, 8, req.burstMs.toNat), (8, 0, 16, req.qlimitKib.toNat), (0x0A, 0, 16, req.sojournMs.toNat), (0x0C, 0, 32, req.policeKbps.toNat),
    (0x10, 0, 16, req.policeMs.toNat)] ++ (if v = 0x14 then [] else [(3, 0, 8, req.egress.toNat)])
  effect := fun c s => (doSchedLeg (schedLegAt req c.hdr.version) s, Rep.ok)
  baste := fun c s => (s, Rep.ok, some (.schedLeg m (schedLegAt req c.hdr.version), 0))

/-- Start time and N of a list accepted now (R264). -/
def gateStart (baseNs cycleNs nowNs : Nat) : Nat × Nat :=
  if nowNs + 100000 ≤ baseNs then (baseNs, 0)
  else
    let n := ceilDiv' (nowNs + 100000 - baseNs) cycleNs
    (baseNs + n * cycleNs, n)

namespace State

/-- Raise a gate event (10). -/
def gateEvent (s : State) (p : Fin 2) (status : U8) (g : GateList) (n : Nat) : State :=
  s.raise 0x0980 status (le 1 p.val ++ le 1 0 ++ le 2 g.id.toNat ++ le 4 n ++ le 8 (g.startNs / 1000000000) ++ le 4 (g.startNs % 1000000000))

/-- Give a list its identifier; 0xFFFF stands for no list. -/
def takeListId (s : State) (p : Fin 2) : U16 × State :=
  let id := (s.port p).nextList
  (id, s.modPort p (fun q => { q with nextList := if id = 0xFFFE then 0 else id + 1 }))

/-- Pend a list; one already pending is superseded (R265). -/
def pend (s : State) (p : Fin 2) (g : GateList) : State :=
  let s := match (s.port p).pending with
    | some old => s.gateEvent p St.superseded old old.n
    | none => s
  s.modPort p (fun q => { q with pending := some g })

end State

/-- The list of a request as accepted now (R264). -/
def gateListOf (q : GateReq) (id : U16) (basted : Bool) (nowNs : Nat) : GateList :=
  let base := q.baseS.toNat * 1000000000 + q.baseNs.toNat
  let st := gateStart base q.cycleNs.toNat nowNs
  { id, enable := q.enable, cycleNs := q.cycleNs.toNat, entries := q.entries, baseNs := base, startNs := st.1, n := st.2, basted }

/-- The effect of a basted sched.gate, with the identifier given at basting (R264, R265). -/
def doSchedGate (q : GateReq) (id : Nat) (s : State) : State := s.pend (fin2 q.port.toNat) (gateListOf q (BitVec.ofNat 16 id) true s.chipNs)

/-- sched.gate (10 R262 to R265). -/
def rowSchedGate (m : Mbx) (q : GateReq) : Row where
  opcode := 0x0902
  checks := fun c s =>
    { pre := need (c.hdr.indirect && decide (32 + 8 * (if q.enable then q.entries.length else 0) ≤ c.hdr.reqLen.toNat)) St.length,
      fields := decide (q.port.toNat ≤ 1) && within 1000 1000000000 q.cycleNs.toNat && decide (q.baseNs.toNat < 1000000000) &&
        (!q.enable || (within 1 1024 q.entries.length && q.entries.all (fun e => within 100 1000000000 e.intervalNs.toNat))),
      items := [.gate q.port.toNat],
      rest := [need (!q.enable || q.entries.all (fun e => e.gates.getLsbD s.ks.policy.tcS1.toNat)) St.isProtected] }
  layout := fun _ => [(0, 0, 8, q.port.toNat), (1, 0, 1, bit q.enable), (2, 0, 16, q.entries.length), (4, 0, 32, q.cycleNs.toNat), (8, 0, 64, q.baseS.toNat), (0x10, 0, 32, q.baseNs.toNat)] ++
    q.entries.zipIdx.flatMap (fun p => [(0x20 + 8 * p.2, 0, 8, p.1.gates.toNat), (0x24 + 8 * p.2, 0, 32, p.1.intervalNs.toNat)])
  effect := fun _ s =>
    let p := fin2 q.port.toNat
    let (id, s) := s.takeListId p
    let g := gateListOf q id false s.chipNs
    (s.pend p g, { status := if g.n = 0 then St.ok else St.startedLate,
                   data := le 2 id.toNat ++ le 2 0 ++ le 4 g.n ++ le 8 (g.startNs / 1000000000) ++ le 4 (g.startNs % 1000000000) })
  baste := fun _ s =>
    let (id, s) := s.takeListId (fin2 q.port.toNat)
    (s, Rep.ok (le 2 id.toNat ++ le 18 0), some (.schedGate m q, id.toNat))

/-- A pending list takes over at its start time (R264, R265). -/
def gateTakeover (p : Fin 2) (s : State) : State :=
  match (s.port p).pending with
  | some g =>
    if g.startNs ≤ s.chipNs then
      let s := s.modPort p (fun q => { q with running := if g.enable then some g else none, pending := none, entry := 0 })
      (s.gateEvent p (if g.basted ∧ g.n ≠ 0 then St.startedLate else St.ok) g g.n).fin
    else s
  | none => s

/-- The running list moves to the entry whose interval holds chip time (R262). -/
def gateEntry (p : Fin 2) (s : State) : State :=
  match (s.port p).running with
  | some g =>
    if g.cycleNs = 0 ∨ s.chipNs < g.startNs then s
    else s.modPort p (fun q => { q with entry := (g.windows.filter (fun w => decide (w.2.1 ≤ (s.chipNs - g.startNs) % g.cycleNs))).length })
  | none => s

/-- Bytes of two histograms. -/
def histBytes (a b : Hist) : Bytes := a.toList.flatMap (fun x => le 4 x.toNat) ++ b.toList.flatMap (fun x => le 4 x.toNat)

/-- An empty histogram. -/
def noHist : Hist := Vector.replicate 16 0

/-- sched.query (10 R267). -/
def rowSchedQuery (leg : U16) (clear : Bool) : Row where
  opcode := 0x0903
  checks := fun _ s => { objects := [need (s.legLive leg.toNat).isSome St.noObject] }
  layout := fun _ => [(0, 0, 16, leg.toNat), (2, 0, 1, bit clear)]
  effect := fun _ s =>
    let q := s.legQ leg.toNat
    let data := le 4 (queued q.frames) ++ le 4 q.rateKbps ++ le 4 q.qdropFull.toNat ++ le 4 q.qdropAge.toNat ++ le 4 q.oversize.toNat ++
      le 4 q.policeDrop.toNat ++ le 4 q.policeCtrlDrop.toNat ++ le 4 0 ++ histBytes q.depthHist q.sojournHist
    (if clear then s.modLegQ leg.toNat (fun q => { q with qdropFull := 0, qdropAge := 0, oversize := 0, policeDrop := 0, policeCtrlDrop := 0, depthHist := noHist, sojournHist := noHist }) else s,
     Rep.ok data)

/-- sched.portq (10 R267). -/
def rowSchedPortq (port level : U8) (clear : Bool) : Row where
  opcode := 0x0904
  checks := fun _ _ => { fields := decide (port.toNat ≤ 1) && decide (level.toNat ≤ 7) }
  layout := fun _ => [(0, 0, 8, port.toNat), (1, 0, 8, level.toNat), (2, 0, 1, bit clear)]
  effect := fun _ s =>
    let p := fin2 port.toNat
    let k : Fin 8 := ⟨level.toNat % 8, Nat.mod_lt _ (by decide)⟩
    let q := s.port p
    let depth := total (s.net.ifaces.filter (fun f => f.1 / 4 == p.val)) (fun f => queued (f.2.fifos.get k).frames)
    let data := le 4 depth ++ le 2 (q.running.elim 0xFFFF (·.id.toNat)) ++ le 2 (q.pending.elim 0xFFFF (·.id.toNat)) ++ le 4 (q.drops.get k).toNat ++ le 20 0 ++
      histBytes (q.depthHist.get k) (q.sojournHist.get k)
    (if clear then s.modPort p (fun q => { q with drops := q.drops.set k 0, depthHist := q.depthHist.set k noHist, sojournHist := q.sojournHist.set k noHist }) else s, Rep.ok data)

/-! ### The rows -/

/-- SCHED_PORT. -/
def execSchedPort (m : Mbx) (port : U8) (change : BitVec 9) (levels : List LevelReq) (s : State) : Host.Outcome State Fault Refusal := .next (s.run m (rowSchedPort m port change levels))
/-- SCHED_LEG. -/
def execSchedLeg (m : Mbx) (req : SchedLegReq) (s : State) : Host.Outcome State Fault Refusal := .next (s.run m (rowSchedLeg m req))
/-- SCHED_GATE. -/
def execSchedGate (m : Mbx) (req : GateReq) (s : State) : Host.Outcome State Fault Refusal := .next (s.run m (rowSchedGate m req))
/-- SCHED_QUERY. -/
def execSchedQuery (m : Mbx) (leg : U16) (clear : Bool) (s : State) : Host.Outcome State Fault Refusal := .next (s.run m (rowSchedQuery leg clear))
/-- SCHED_PORTQ. -/
def execSchedPortq (m : Mbx) (port level : U8) (clear : Bool) (s : State) : Host.Outcome State Fault Refusal := .next (s.run m (rowSchedPortq port level clear))
/-- LEG_QUEUE_ENQUEUE. -/
def execLegQueueEnqueue (frame : TxFrame) (s : State) : Host.Outcome State Fault Refusal := .next (s.enqueue frame)
/-- QDROP_AGE. -/
def execQdropAge (leg : Nat) (s : State) : Host.Outcome State Fault Refusal := .next (s.dropAged leg (s.legQ leg).frames.length)
/-- GATE_ENTRY_INTERVAL. -/
def execGateEntryInterval (port : Fin 2) (s : State) : Host.Outcome State Fault Refusal := .next (gateEntry port s)
/-- GATE_LIST_TAKEOVER. -/
def execGateListTakeover (port : Fin 2) (s : State) : Host.Outcome State Fault Refusal := .next (gateTakeover port s)
/-- LATENCY_SAMPLE. -/
def execLatencySample (s : State) : Host.Outcome State Fault Refusal := .next (latencySample s)

end Sys2Proof.Machine
end

