-- ==== Sys2Proof/Machine/Cipher.lean ====
section
/-! DEFINITION. The cipher engine (10 R268 to R278): key slots, the checks of a packet, usage limits and rekeying; the cipher commands. -/

namespace Sys2Proof.Machine

open Sys2Proof

/-! ### Slots, counters and events -/

/-- Number of an access slot in Keystone's cache. -/
def accessBase : Nat := 262144

/-- Code of a slot state (Table 10-4). -/
def keyCode : KeyState → Nat
  | .empty => 0 | .loaded => 1 | .nearSpent => 2 | .spent => 3 | .lost => 4

/-- A slot may be used (R275). -/
def KeySlot.usable (k : KeySlot) : Bool := k.state == .loaded || k.state == .nearSpent

/-- The leg is keyed by DTLS-SRTP (04 SECURITY 0 and 1). -/
def dtlsLeg (o : LegOffer) : Bool := decide (o.security.toNat ≤ 1)
/-- The leg is keyed by SDES (04 SECURITY 2 and 3). -/
def sdesLeg (o : LegOffer) : Bool := o.security == 2 || o.security == 3

namespace State

/-- Change the cipher state. -/
def modCip (s : State) (f : Cipher → Cipher) : State := { s with cip := f s.cip }

/-- A slot by its number in Keystone's cache: media below 262,144, access from there. -/
def keySlot (s : State) (n : Nat) : KeySlot := (if n < accessBase then tget s.cip.slots n else tget s.cip.access (n - accessBase)).getD {}
/-- Change a slot. -/
def modSlot (s : State) (n : Nat) (f : KeySlot → KeySlot) : State :=
  s.modCip (fun c => if n < accessBase then { c with slots := tput c.slots n (f (s.keySlot n)) } else { c with access := tput c.access (n - accessBase) (f (s.keySlot n)) })

/-- Count one of the cipher counters on a leg and in the device totals (R270); access packets count in the totals only. -/
def countCipher (s : State) (leg : Option Nat) (k : Fin 8) (n : Nat := 1) : State :=
  let bump (c : CipherStats) : CipherStats := { c := c.c.set k (c.c.get k + BitVec.ofNat 32 n) }
  s.modCip (fun c => { c with
    stats := match leg with | some l => tput c.stats l (bump ((tget c.stats l).getD {})) | none => c.stats, totals := bump c.totals })

/-- The rekeying state of a leg. -/
def rekey (s : State) (l : Nat) : Rekey := (tget s.cip.rekeys l).getD {}
/-- Change the rekeying state of a leg. -/
def modRekey (s : State) (l : Nat) (f : Rekey → Rekey) : State := s.modCip (fun c => { c with rekeys := tput c.rekeys l (f (s.rekey l)) })

/-- The bytes of a key event. -/
def keyBytes (s : State) (leg kind gen slot : Nat) : Bytes := le 2 leg ++ le 1 kind ++ le 1 gen ++ le 4 slot ++ le 8 s.chipS
/-- Status of a key event (10 key event). -/
def keyStatus (kind : Nat) : U8 := if kind = 1 then St.keySpent else if kind = 5 then St.fault else St.ok

/-- Raise the key event of a slot (R275). -/
def keyEvent (s : State) (kind n : Nat) : State :=
  let slot := if n < accessBase then n else n - accessBase
  s.raise 0x0A80 (keyStatus kind) (s.keyBytes (if n < accessBase then n / 4 else 0xFFFF) kind (s.keySlot n).generation.toNat slot)

/-- Keystone wraps a slot's key into its table tile, with AES-256-GCM under the boot's wrapping key and a nonce of its own, sealed with the tile's CRC-32C (16 R417). -/
def wrapSlot (s : State) (n : Nat) : State :=
  let data := (s.keySlot n).key ^^^ Config.gcmStream s.ks.wrapKey s.ks.wraps
  let tag := Config.gcmTag s.ks.wrapKey s.ks.wraps n data
  let t : WrappedSlot := { nonce := s.ks.wraps, data, tag, crc := crc32c (le 32 data.toNat ++ le 16 tag.toNat) }
  ({ s with ks := { s.ks with wraps := s.ks.wraps + 1 } } : State).modCip (fun c => { c with tiles := tput c.tiles n t })

/-- The key in a slot's table tile: none where the tile's checksum or the tag does not agree (R273). -/
def unwrapSlot (s : State) (n : Nat) : Option (BitVec 256) :=
  (tget s.cip.tiles n).bind (fun t =>
    if t.crc = crc32c (le 32 t.data.toNat ++ le 16 t.tag.toNat) ∧ t.tag = Config.gcmTag s.ks.wrapKey t.nonce n t.data then some (t.data ^^^ Config.gcmStream s.ks.wrapKey t.nonce) else none)

/-- Put a new generation of keys into one slot, wrap it, and mirror it (R271, R274, R276; 12 Table 12-4). -/
def loadSlot (s : State) (n suite cls owner roc : Nat) (key : BitVec 256) : State :=
  let old := s.keySlot n
  let limit := match s.cip.classes[cls]? with | some c => c.useLimit | none => 2147483648
  s.modSlot n (fun _ => {
    state := .loaded, suite := BitVec.ofNat 8 suite, cls, owner, useLimit := limit, roc, loadedS := s.chipS, seqHigh := old.seqHigh, windows := old.windows, key,
    generation := if old.state = .empty then 0 else old.generation + 1 }) |>.wrapSlot n |>.mirror 48

/-- Class of a leg's slots (R272). -/
def classOf (s : State) (l : Nat) : Nat := if s.isEmergency l then 1 else 0

/-- The keys of a KEY_BLOCK by slot: the master keys sent and received, and the SRTCP keys derived from them (16 R418). -/
def blockKeys (b : KeyBlock) (k : Nat) : BitVec 256 :=
  match k with | 0 => b.txKey | 1 => b.rxKey | 2 => Config.srtcpKey b.txKey b.txSalt | _ => Config.srtcpKey b.rxKey b.rxSalt

/-- The keys that a DTLS handshake gives a leg's slots, by slot. -/
def dtlsKeys (s : State) (l k : Nat) : BitVec 256 := Config.dtlsKey (4 * l + k) (s.keySlot (4 * l + k)).generation

/-- Keystone loads a leg's four slots when the leg becomes keyed (R271). -/
def loadLeg (s : State) (l suite txRoc rxRoc : Nat) (keys : Nat → BitVec 256) : State :=
  let c := s.classOf l
  (((s.loadSlot (4 * l) suite c l txRoc (keys 0)).loadSlot (4 * l + 1) suite c l rxRoc (keys 1)).loadSlot (4 * l + 2) suite c l 0 (keys 2)).loadSlot (4 * l + 3) suite c l 0 (keys 3)

/-- Keystone empties a leg's slots when the leg becomes FREE (R271). -/
def emptyLeg (s : State) (l : Nat) : State :=
  s.modCip (fun c => { c with
    slots := c.slots.filter (fun p => p.1 / 4 != l), tiles := c.tiles.filter (fun p => p.1 / 4 != l || decide (accessBase ≤ p.1)), cache := c.cache.filter (fun n => n / 4 != l || decide (accessBase ≤ n)),
    fetching := c.fetching.filter (fun j => j.leg != l || decide (accessBase ≤ j.slot)), rekeys := tdel c.rekeys l })

/-- A leg's DTLS handshake asks the public-key engine (16 R419). -/
def pkAsk (s : State) (l : Nat) : State := { s with ks := { s.ks with pkOps := s.ks.pkOps.filter (fun k => k != l) ++ [l] } }

/-- A leg's handshake is over. -/
def pkDone (s : State) (l : Nat) : State := { s with ks := { s.ks with pkOps := s.ks.pkOps.filter (fun k => k != l) } }

/-- A leg's handshake waits in Pier: the engine's queue of 4,096 operations is full (16 R419). -/
def pkWaits (s : State) (l : Nat) : Bool := ((s.ks.pkOps.filter (fun k => (s.legLive k).any (fun q => q.state != .closing))).drop 4096).contains l

/-- Start a rekey: a DTLS leg runs a new handshake, an SDES leg needs a new KEY_BLOCK from the host; a running rekey is joined (R276). -/
def startRekey (s : State) (l : Nat) : State :=
  match s.legLive l with
  | none => s
  | some q =>
    if s.notPrimary ∨ q.state = .closing then s
    else if dtlsLeg q.offer then (s.modRekey l (fun r => { r with running := true })).pkAsk l
    else if sdesLeg q.offer then s.keyEvent 4 (4 * l)
    else s

/-- A slot has become SPENT or LOST: the time of REKEY_S starts (R276). -/
def spentNow (s : State) (l : Nat) : State := s.modRekey l (fun r => { r with spentSince := some (r.spentSince.getD s.chipNs) })

/-- Check a slot's usage count against its limit (R275). -/
def checkUse (s : State) (n : Nat) : State :=
  let k := s.keySlot n
  let media := decide (n < accessBase)
  if k.useLimit ≤ k.useCount then
    if k.state = .loaded ∨ k.state = .nearSpent then
      let s := ((s.modSlot n (fun k => { k with state := .spent })).mirror 48).keyEvent 1 n
      if media then (s.spentNow (n / 4)) else s
    else s
  else if k.useLimit - k.useLimit / 8 ≤ k.useCount ∧ k.state = .loaded then
    let s := ((s.modSlot n (fun k => { k with state := .nearSpent })).mirror 48).keyEvent 0 n
    if media then s.startRekey (n / 4) else s
  else s

end State

/-! ### The checks of a packet (R270) -/

/-- The packet index a received sequence number stands for, by the highest index of its source (RFC 3711 3.3.1). -/
def indexOf (highest : Option Nat) (roc : Nat) (seq : U16) : Nat :=
  match highest with
  | none => roc * 65536 + seq.toNat
  | some h =>
    let r := h / 65536
    let low := h % 65536
    let r := if low < 32768 then (if 32768 < seq.toNat - low then r - 1 else r) else (if seq.toNat < low - 32768 then r + 1 else r)
    r * 65536 + seq.toNat

/-- Outcome of the replay check (R270). -/
inductive Replay where
  | pass | repeated | ninth
  deriving DecidableEq, Repr

/-- The window of an SSRC. -/
def KeySlot.window (k : KeySlot) (ssrc : U32) : Option (Nat × U128) := (k.windows.find? (fun w => w.1 == ssrc)).map (·.2)

/-- The replay check of a received packet: a 128-packet window for each of up to 8 SSRCs (R270). -/
def KeySlot.replay (k : KeySlot) (ssrc : U32) (index : Nat) : Replay :=
  match k.window ssrc with
  | none => if 8 ≤ k.windows.length then .ninth else .pass
  | some (high, mask) =>
    if high < index then .pass
    else if 128 ≤ high - index then .repeated
    else if mask.getLsbD (high - index) then .repeated else .pass

/-- The window after an accepted packet. -/
def KeySlot.accept (k : KeySlot) (ssrc : U32) (index : Nat) : KeySlot :=
  let w : Nat × U128 := match k.window ssrc with
    | none => (index, 1)
    | some (high, mask) =>
      if high < index then (index, (mask <<< (index - high)) ||| 1) else (high, mask ||| (1#128 <<< (high - index)))
  { k with windows := k.windows.filter (fun x => x.1 != ssrc) ++ [(ssrc, w.1, w.2)], roc := max k.roc (w.1 / 65536), seqHigh := if k.roc * 65536 + k.seqHigh < w.1 then w.1 % 65536 else k.seqHigh }

/-! ### Pipelines (R268) -/

/-- The pipeline of a packet: 4 × direction + (leg mod 4), direction 0 for ingress and 1 for egress; the access port's own for an access slot (R268). -/
def CipherJob.pipe (j : CipherJob) : Nat := if j.slot < accessBase then 4 * bit (!j.received) + j.leg % 4 else 8 + (j.slot - accessBase) / 32 % 2

/-- The cell of a pipeline: of the cipher block, or of an access port's block (01 Table 1-1). -/
def pipeCell (p : Nat) : U16 := if p < 8 then island 2 3 p else island 3 (p - 8) 3

namespace State

/-- Move a slot to the most recently used end of Keystone's cache, evicting the least recently used of 8,192 (R273). -/
def touch (s : State) (n : Nat) : State :=
  s.modCip (fun c =>
    let rest := c.cache.filter (fun m => m != n)
    { c with cache := (if rest.length < 8192 then rest else rest.drop (rest.length - 8191)) ++ [n] })

/-- Checks 3 and 4 of R270 and the invocation count, on a slot in the cache. Answers whether the packet passes. -/
def cipherRun (s : State) (j : CipherJob) : State × Bool :=
  let leg := if j.slot < accessBase then some j.leg else none
  let k := s.keySlot j.slot
  if !k.usable then (s.countCipher leg 4, false)
  else
    let index := if j.received then indexOf ((k.window j.ssrc).map (·.1)) k.roc j.seq else k.roc * 65536 + j.seq.toNat
    match (if j.received ∧ j.slot < accessBase then k.replay j.ssrc index else .pass) with
    | .repeated => (s.countCipher leg 1, false)
    | .ninth => (s.countCipher leg 2, false)
    | .pass =>
      let s := s.modSlot j.slot (fun k => { k with useCount := k.useCount + 1 })
      if !j.received then
        (((s.modSlot j.slot (fun k =>
          let wrapped := decide (k.seqHigh < 65536) && decide (j.seq.toNat + 32768 < k.seqHigh)
          { k with roc := if j.slot < accessBase ∧ wrapped then k.roc + 1 else k.roc, seqHigh := j.seq.toNat })).checkUse j.slot), true)
      else if j.authOk then ((s.modSlot j.slot (fun k => if j.slot < accessBase then k.accept j.ssrc index else k)).checkUse j.slot, true)
      else
        let r := s.rekey j.leg
        let s := s.checkUse j.slot
        if j.slot < accessBase ∧ s.chipNs < r.prevUntil ∧ r.prev.any (fun p => p.1 == j.slot) ∧ j.authPrevOk then
          ((s.modRekey j.leg (fun r => { r with prev := r.prev.map (fun p => if p.1 = j.slot then (p.1, { p.2 with useCount := p.2.useCount + 1 }) else p) })).modSlot j.slot
            (fun k => k.accept j.ssrc index), true)
        else (s.countCipher leg 0, false)

/-- The pipeline that takes a packet: its own, or for a fenced one the next sibling of its direction in service (01 R21; which sibling is a DESIGN CHOICE, log 82). -/
def pipeFor (s : State) (j : CipherJob) : Option Nat :=
  let p := j.pipe
  if 8 ≤ p then (if s.cellOut (pipeCell p) then none else some p)
  else ((List.range 4).map (fun k => p / 4 * 4 + (p + k) % 4)).find? (fun k => !s.cellOut (pipeCell k))

/-- One packet in its pipeline: length, then slot; a slot that is not in Keystone's cache makes the packet wait for its fetch (R270, R273). While the pipeline's block is drained or reset the packet is lost (01 R24). Answers whether the packet passes now. -/
def cipher (s : State) (j : CipherJob) : State × Bool :=
  let leg := if j.slot < accessBase then some j.leg else none
  match (s.pipeFor j).filter (fun p => (s.block (blockOfIsland (pipeCell p))).phase == .inService) with
  | none => (s, false)
  | some p =>
  let s := s.modCip (fun c => { c with pipes := tput c.pipes p j.slot })
  if j.encLength = 0 ∨ 9000 < j.encLength then (s.countCipher leg 3, false)
  else if !(s.keySlot j.slot).usable then (s.countCipher leg 4, false)
  else if s.cip.cache.contains j.slot ∧ !s.cip.fetching.any (fun f => f.slot == j.slot) then (s.touch j.slot).cipherRun j
  else ((s.countCipher leg 5).modCip (fun c => { c with fetching := c.fetching ++ [j] }), false)

end State

/-- A wrapped slot fails its checksum or unwrapping: it is LOST and its leg is rekeyed (R273). -/
def State.slotLost (s : State) (n : Nat) : State :=
  let s := (s.modSlot n (fun k => { k with state := .lost })).keyEvent 2 n
  if n < accessBase then (s.spentNow (n / 4)).startRekey (n / 4) else s

/-- A missed slot's fetch ends, its tile as it was written or not: a slot that its checks pass is cached and the waiting packets run; a slot that fails its checksum or unwrapping is LOST, its packets are dropped and its leg is rekeyed (R273). -/
def keyCacheFill (n : Nat) (intact : Bool) (s : State) : State :=
  let jobs := s.cip.fetching.filter (fun j => j.slot == n)
  if jobs = [] then s
  else
    let s := s.modCip (fun c => { c with fetching := c.fetching.filter (fun j => j.slot != n) })
    match (if intact then s.unwrapSlot n else none) with
    | some key => (jobs.foldl (fun s j => (s.cipherRun j).1) ((s.modSlot n (fun k => { k with key })).touch n)).fin
    | none =>
      (jobs.foldl (fun s j => s.countCipher (if n < accessBase then some j.leg else none) 4) (s.slotLost n)).fin

/-! ### Rekeying (R276) -/

namespace State

/-- Answer the commands that wait for a leg's rekey, and raise the key event for every other mailbox (10 cipher.rekey). -/
def answerRekey (s : State) (l kind : Nat) : State :=
  let data := s.keyBytes l kind (s.keySlot (4 * l)).generation.toNat (4 * l)
  let ws := (s.rekey l).waiting
  let s := allMbx.foldl (fun s m => if ws.any (fun w => w.1 == m) then s else s.raiseTo m 0x0A80 (keyStatus kind) data) s
  let s := ws.foldl (fun s w => s.raiseDone w.1 w.2 0x0A80 (keyStatus kind) data) s
  s.modRekey l (fun r => { r with running := false, waiting := [] })

/-- New keys for the four slots of a leg; the previous generation is kept 2,000 ms for received packets (R276). -/
def rekeyed (s : State) (l suite txRoc rxRoc : Nat) (keys : Nat → BitVec 256) : State :=
  let prev := (List.range 4).map (fun k => (4 * l + k, s.keySlot (4 * l + k)))
  let s := s.loadLeg l suite txRoc rxRoc keys
  let s := s.modRekey l (fun r => { r with spentSince := none, prev, prevUntil := s.chipNs + 2000000000 })
  s.answerRekey l 3

end State

/-- A DTLS rekey ends: new keys in the four slots, or REKEY_FAILED (R276). -/
def rekeyDone (l : Nat) (ok : Bool) (s : State) : State :=
  if !(s.rekey l).running then s
  else if ok then
    let k := s.keySlot (4 * l)
    (s.rekeyed l k.suite.toNat k.roc (s.keySlot (4 * l + 1)).roc (s.dtlsKeys l)).fin
  else (s.answerRekey l 5).fin

/-- 2,000 ms after a rekey the previous generation is erased (R276). -/
def previousErase (l : Nat) (s : State) : State :=
  if (s.rekey l).prev ≠ [] ∧ (s.rekey l).prevUntil ≤ s.chipNs then s.modRekey l (fun r => { r with prev := [] }) else s

/-! ### cipher commands -/

/-- A class as one of three. -/
def fin3 (n : Nat) : Fin 3 := ⟨n % 3, Nat.mod_lt _ (by decide)⟩

/-- cipher.class (10). -/
def rowCipherClass (cls : U8) (check : Bool) (rekeyS : U8) (useLimit : U32) : Row where
  opcode := 0x0A00
  checks := fun _ s =>
    let fixed := (s.ks.policy.checkFixed[cls.toNat]?).getD none
    let limit := (s.ks.policy.limitFixed[cls.toNat]?).getD none
    { fields := decide (cls.toNat ≤ 2) && decide (rekeyS.toNat ≤ 60) && withinOr 0 1048576 2147483648 useLimit.toNat,
      rest := [need (fixed.all (fun v => v == check) && (useLimit == 0 || limit.all (fun v => v == useLimit))) St.isProtected] }
  layout := fun _ => [(0, 0, 8, cls.toNat), (1, 0, 1, bit check), (2, 0, 8, rekeyS.toNat), (4, 0, 32, useLimit.toNat)]
  effect := fun _ s =>
    let k := fin3 cls.toNat
    let old := s.cip.classes.get k
    let new : KeyClass := { check, rekeyS := if rekeyS = 0 then old.rekeyS else rekeyS.toNat, useLimit := if useLimit = 0 then old.useLimit else useLimit.toNat }
    (s.modCip (fun c => { c with classes := c.classes.set k new }), Rep.ok)

/-- The attributes of a slot (Table 10-4). -/
def slotBytes (s : State) (k : KeySlot) : Bytes :=
  let check := match s.cip.classes[k.cls]? with | some c => c.check | none => false
  le 1 (keyCode k.state) ++ le 1 k.suite.toNat ++ le 1 (k.cls % 4 + 4 * bit (check && k.state != .empty)) ++ le 1 k.generation.toNat ++ le 2 k.owner ++ le 2 0 ++
    le 4 k.useCount ++ le 4 k.useLimit ++ le 4 k.roc ++ le 2 k.seqHigh ++ le 2 0 ++ le 8 k.loadedS

/-- cipher.slot (10 R272). -/
def rowCipherSlot (space : U8) (slot : U32) : Row where
  opcode := 0x0A01
  checks := fun _ _ => { fields := (space == 0 && decide (slot.toNat < 262144)) || (space == 1 && decide (slot.toNat < 64)) }
  layout := fun _ => [(0, 0, 8, space.toNat), (4, 0, 32, slot.toNat)]
  effect := fun _ s => (s, Rep.ok (slotBytes s (s.keySlot (if space = 0 then slot.toNat else accessBase + slot.toNat))))

/-- cipher.rekey (10 R276). -/
def rowCipherRekey (m : Mbx) (leg : U16) : Row where
  opcode := 0x0A02
  checks := fun _ s =>
    let l := s.legLive leg.toNat
    { objects := [need (l.any (·.keyed)) St.noObject, need (l.any (fun q => dtlsLeg q.offer)) St.badField] }
  layout := fun _ => [(0, 0, 16, leg.toNat)]
  effect := fun c s => ((s.startRekey leg.toNat).modRekey leg.toNat (fun r => { r with waiting := r.waiting ++ [(m, c.seq)] }), Rep.pend)

/-- cipher.stats (10). -/
def rowCipherStats (leg : U16) (clear : Bool) : Row where
  opcode := 0x0A03
  checks := fun _ s => { objects := [need (leg == 0xFFFF || (s.legLive leg.toNat).isSome) St.noObject] }
  layout := fun _ => [(0, 0, 16, leg.toNat), (2, 0, 1, bit clear)]
  effect := fun _ s =>
    let c := if leg = 0xFFFF then s.cip.totals else (tget s.cip.stats leg.toNat).getD {}
    (if clear then s.modCip (fun q => if leg = 0xFFFF then { q with totals := {} } else { q with stats := tdel q.stats leg.toNat }) else s,
     Rep.ok (c.c.toList.flatMap (fun x => le 4 x.toNat)))

/-! ### The rows -/

/-- CIPHER_CLASS. -/
def execCipherClass (m : Mbx) (cls : U8) (check : Bool) (rekeyS : U8) (useLimit : U32) (s : State) : Host.Outcome State Fault Refusal := .next (s.run m (rowCipherClass cls check rekeyS useLimit))
/-- CIPHER_SLOT. -/
def execCipherSlot (m : Mbx) (space : U8) (slot : U32) (s : State) : Host.Outcome State Fault Refusal := .next (s.run m (rowCipherSlot space slot))
/-- CIPHER_REKEY. -/
def execCipherRekey (m : Mbx) (leg : U16) (s : State) : Host.Outcome State Fault Refusal := .next (s.run m (rowCipherRekey m leg))
/-- CIPHER_STATS. -/
def execCipherStats (m : Mbx) (leg : U16) (clear : Bool) (s : State) : Host.Outcome State Fault Refusal := .next (s.run m (rowCipherStats leg clear))
/-- KEY_CACHE_FILL. -/
def execKeyCacheFill (access : Bool) (slot : Nat) (intact : Bool) (s : State) : Host.Outcome State Fault Refusal := .next (keyCacheFill (if access then accessBase + slot else slot) intact s)
/-- REKEY_DONE. -/
def execRekeyDone (leg : Nat) (ok : Bool) (s : State) : Host.Outcome State Fault Refusal := .next (rekeyDone leg ok s)
/-- PREVIOUS_KEY_ERASE. -/
def execPreviousKeyErase (leg : Nat) (s : State) : Host.Outcome State Fault Refusal := .next (previousErase leg s)

end Sys2Proof.Machine
end

