-- ==== Sys2Proof/Machine/Carriage.lean ====
section
/-! DEFINITION. Ingress (09 R228 to R233, R235, R237, 10 R259 to R261, 12 R311): the order of checks on a received frame, the slow path, pause in both directions, policing, the canon, and the way to the leg. -/

namespace Sys2Proof.Machine

open Sys2Proof

/-- A head-role port learns an upstream frame's source address and its terminal, up to 4,096 addresses (11 R298). -/
def State.learnMac (s : State) (i : Nat) (f : RxFrame) : State :=
  if i < 16 ∨ (s.accPort (fin2 i)).role ≠ 2 ∨ groupMac f.src then s
  else s.modAcc (fin2 i) (fun a =>
    let t := a.macTable.filter (fun q => q.1 != f.src)
    if 4096 ≤ t.length then a else { a with macTable := t ++ [(f.src, f.onuId)] })

/-! ### Access key slots (11 R293, R295) -/

namespace State

/-- Key slots of a port in the access space (11 Table 11-5). -/
def accSlot (p : Fin 2) (k : Nat) : Nat := accessBase + 32 * p.val + k

/-- Count one of access.query's counters. -/
def countAcc (s : State) (p : Fin 2) (k : Fin 8) (n : Nat := 1) : State :=
  s.modAcc p (fun a => { a with counters := a.counters.set k (a.counters.get k + BitVec.ofNat 64 n) })

/-- One XGEM frame in the access cipher pipeline of a port: one use of its slot. A spent or lost key drops the frame and is counted; a slot that no key was loaded into leaves it in the clear (11 R293, R295; the clear is DEDUCED, log 83). A pipeline out of service passes nothing. Answers whether the frame goes on. -/
def accUse (s : State) (p : Fin 2) (k : Nat) : State × Bool :=
  let n := accSlot p k
  let q := s.keySlot n
  if s.cellOut (pipeCell (8 + p.val)) ∨ (s.block (blockOfIsland (pipeCell (8 + p.val)))).phase ≠ .inService then (s, false)
  else if q.state = .empty then (s, true)
  else if !q.usable then (s.countAcc p 7, false)
  else (((s.modCip (fun c => { c with pipes := tput c.pipes (8 + p.val) n })).modSlot n (fun k => { k with useCount := k.useCount + 1 })).checkUse n, true)

/-- The slot that the frames of a key group use now (11 R298, Table 11-5). -/
def groupSlot (a : AccPort) (g : Nat) : Nat := 4 + 2 * g + ((tget a.groupIndex g).getD (0, 0)).1

/-- The slot that a received frame's key stands in: the broadcast key for group frames in terminal role, the sender's group key in head role (11 R298, Table 11-5). -/
def rxSlot (a : AccPort) (f : RxFrame) : Nat :=
  if a.role = 2 then groupSlot a ((tget a.terminals f.onuId).elim 0 (·.keyGroup))
  else if groupMac f.dst then 2 + a.bcastIndex else a.keyIndex

end State

/-! ### Pause (R231, R232) -/

/-- Ticks of half the pause time of a count of quanta of 512 bit times at a rate in Gbit/s (R231). -/
def halfPause (quanta gbps : Nat) : Nat := ceilDiv' (quanta * 80) gbps
/-- Ticks of a whole pause time. -/
def fullPause (quanta gbps : Nat) : Nat := ceilDiv' (quanta * 160) gbps

namespace State

/-- Send a pause frame, PAUSE or PFC as the interface is set; it is repeated at half its pause time (R231). -/
def sendPause (s : State) (i : Nat) : State :=
  (s.modIface i (fun f => { f with pauseDue := some (s.now + halfPause f.quanta (s.gbps i)) })).countIface i 18

/-- Send the frame with a pause time of 0, which cancels the pause (R231). -/
def cancelPause (s : State) (i : Nat) : State := (s.modIface i (fun f => { f with pauseDue := none })).countIface i 18

/-- The ingress buffer takes a frame of an interface: pause starts when its occupancy rises above HIGH_B (R230, R231). -/
def fill (s : State) (i length : Nat) : State :=
  let s := s.modIface i (fun f => { f with occupancy := f.occupancy + length, peak := max f.peak (f.occupancy + length) })
  match s.iface i with
  | some f => if f.pause ≠ 0 ∧ f.pauseDue.isNone ∧ f.highB < f.occupancy then s.sendPause i else s
  | none => s

/-- A received PAUSE or PFC frame holds the interface's egress where RX_PAUSE is set; it is counted either way (R232). -/
def pauseIn (s : State) (i : Nat) (k : FrameKind) : State :=
  let s := s.countIface i 19
  s.modIface i (fun f =>
    if !f.rxPause then f
    else match k with
      | .pause q => { f with heldUntil := s.now + fullPause q.toNat (s.gbps i) }
      | .pfc mask q =>
        let until_ := s.now + fullPause q.toNat (s.gbps i)
        { f with pfcUntil := Vector.ofFn (fun (j : Fin 8) => if mask.getLsbD j.val then until_ else f.pfcUntil.get j) }
      | _ => f)

/-! ### Filters and the slow path (R229, R235) -/

/-- A destination address passes step 4 on a port (R235). -/
def passes (s : State) (p : Fin 2) (dst : BitVec 48) : Bool :=
  dst == 0xFFFFFFFFFFFF || (s.port p).macs.contains dst || s.net.ifaces.any (fun f => f.1 / 4 == p.val && f.2.enable && f.2.mac == dst) ||
    (groupMac dst && s.binCount p (groupBin dst) != 0)

/-- Hand a frame to Pier firmware under the limit of 1,000 a window; PTP event messages do not count toward it (R229). Answers whether it was accepted. -/
def slowPath (s : State) (i : Nat) (event : Bool) : State × Bool :=
  match s.iface i with
  | none => (s, false)
  | some f =>
    if 1000 ≤ f.slowCount then (s.countIface i 12, false)
    else (if event then s else s.modIface i (fun f => { f with slowCount := f.slowCount + 1 }), true)

/-- A packet that Pier firmware or a leg has accepted becomes canon on a primary: it takes the next index and its record is sent (12 R311). -/
def canonise (s : State) (length : Nat) : State :=
  if s.twin.state = .primary then ({ s with twin := { s.twin with canon := s.twin.canon + 1 } } : State).mirror (32 + length) else s

/-- Pier firmware answers ARP, neighbour discovery and ICMP echo for the interface's addresses, in S2, to the sender (R229, 10 Table 10-1). -/
def answer (s : State) (i length : Nat) (dst : BitVec 48) : State :=
  s.enqueue { length, level := some 2, leg := 0xFFFF, iface := BitVec.ofNat 8 i, nextHopResolved := true } none (some dst)

/-! ### Policing (10 R260) -/

/-- Rate of a leg's media bucket in kbit/s. -/
def policeKbps (s : State) (l : Nat) : Nat :=
  if (s.legQ l).policeKbps = 0 then (tget s.model.legs l).elim 8000 (fun q => LegOffer.sendKbps q.offer) else (s.legQ l).policeKbps

/-- Police one packet of a leg: its bucket, media or control, pays or the packet is dropped and counted (R260). Answers whether it passes. -/
def police (s : State) (l : Nat) (media : Bool) (length : Nat) : State × Bool :=
  let q := s.legQ l
  let dt := s.now - q.polAt
  let rate := s.policeKbps l
  let pol := bucketNow q.polTokens rate dt (max 9216 (rate * q.policeMs / 8))
  let ctl := min (50 * 5000000000) (q.ctlTokens + 3200 * dt)
  let cost := if media then bucketCost length else 5000000000
  let held := if media then pol else ctl
  if cost ≤ held then
    (s.modLegQ l (fun q => { q with polTokens := if media then pol - cost else pol, ctlTokens := if media then ctl else ctl - cost, polAt := s.now }), true)
  else
    (s.modLegQ l (fun q => { q with
      polTokens := pol, ctlTokens := ctl, polAt := s.now,
      policeDrop := (if media then q.policeDrop + 1 else q.policeDrop),
      policeCtrlDrop := (if media then q.policeCtrlDrop else q.policeCtrlDrop + 1) }), false)

/-- Both of a leg's policing buckets full (R260, R261). -/
def fullBuckets (s : State) (l : Nat) : State := s.modLegQ l (fun q => { q with polTokens := ({} : LegQ).polTokens, ctlTokens := ({} : LegQ).ctlTokens, polAt := s.now })

end State

/-! ### The ingress order (Table 9-3) -/

/-- Where the order sends a frame: to a counter of net.query, to Pier firmware, to pause, or to a leg. -/
inductive Ingress where
  | drop (counter : Fin 20) | pauseFrame | pier (event : Bool) | leg (l : Nat)
  deriving DecidableEq, Repr

/-- The leg of a packet at step 12. -/
def legOfFrame (s : State) (i : Nat) (f : RxFrame) : Option Nat :=
  (s.model.legs.find? (fun p =>
    let o := p.2.offer
    let af : U8 := if f.ipv6 then 6 else 4
    p.2.state != .basted && o.port.toNat == i && o.af == af && ipOf af o.localAddr == ipOf af f.ipDst && o.localUdp == f.udpDst && o.vlan == f.vlan &&
      ((ipOf af o.remoteAddr == ipOf af f.ipSrc && o.remoteUdp == f.udpSrc) || f.kind == .stun))).map (·.1)

/-- Steps 3 to 12 of Table 9-3 on an Ethernet interface; an access interface passes its own MAC address and broadcast only and takes no MAC Control or PTP frame (11 R291). -/
def ingressOrder (s : State) (i : Nat) (f : RxFrame) : Ingress :=
  let eth := decide (i < 8)
  let p := fin2 (i / 4)
  let af : U8 := if f.ipv6 then 6 else 4
  let isPause := match f.kind with | .pause _ | .pfc _ _ => true | _ => false
  let isPtp := match f.kind with | .ptp _ => true | _ => false
  let overUdp := f.udpDst == 319 || f.udpDst == 320
  let group := groupMac f.dst
  if isPause then (if eth then .pauseFrame else .drop 6)
  else if isPtp ∧ !eth then .drop 6
  else if !(if eth then s.passes p f.dst else f.dst == 0xFFFFFFFFFFFF || (s.accPort (fin2 i)).cfg.any (fun c => c.mac == f.dst)) then .drop 6
  else if f.sTag ∨ 1 < f.cTags then .drop 6
  else match f.kind with
    | .arp _ => .pier false
    | .other => .drop 7
    | _ =>
      if isPtp ∧ !overUdp then .pier (f.kind == .ptp true)
      else if !f.ipv6 ∧ !f.ipCsumOk then .drop 8
      else if f.ipv6 ∧ 2 < f.extHeaders then .drop 7
      else if f.fragment then .drop 10
      else if !(s.localAddr i af f.ipDst || group) then .drop 7
      else match f.kind with
        | .icmp _ => .pier false
        | _ =>
          if !(f.udpCsumOk || (!f.ipv6 && f.udpCsumZero)) then .drop 9
          else if overUdp ∧ isPtp ∧ ((s.iface i).bind (·.ptp)).isSome then .pier (f.kind == .ptp true)
          else match legOfFrame s i f with
            | some l => .leg l
            | none => .drop 7

namespace State

/-- A packet of a leg enters the leg's cipher pipeline; media of a leg that is CONNECTING is discarded and counted (10 R270, 04 Table 4-4). -/
def intoLeg (s : State) (l : Nat) (f : RxFrame) : State :=
  match tget s.model.legs l with
  | none => s
  | some q =>
    let clear := q.offer.security == 4
    let job (k : Nat) : CipherJob := { slot := 4 * l + k, leg := l, received := true, ssrc := f.rtpSsrc, seq := f.rtpSeq, encLength := f.encLength, authOk := f.authOk, authPrevOk := f.authPrevOk }
    match f.kind with
    | .rtp _ =>
      if q.state = .connecting then s.modLeg l (fun q => { q with discarded := satInc q.discarded })
      else if clear ∨ q.state = .closing then s
      else (s.cipher (job 1)).1
    | .rtcp => if clear ∨ q.state = .connecting then s else (s.cipher (job 3)).1
    | _ => s

/-- Step 13: policing and the canon, then the leg's pipeline (R228, 10 R260, 12 R311). A standby keeps its own policed ingress for 4 ms (12 R318). -/
def toLeg (s : State) (l length : Nat) (f : RxFrame) : State :=
  let (s, ok) := s.police l (match f.kind with | .rtp _ => true | _ => false) length
  if !ok then s
  else if s.twin.state = .standby then
    { s with twin := { s.twin with ingress := s.twin.ingress.filter (fun x => decide (s.chipNs ≤ x.2.1 + 4000000)) ++ [(l, s.rxNs ((tget s.model.legs l).elim 0 (fun q => q.offer.port.toNat)) 0, f)] } }
  else (s.canonise length).intoLeg l f

end State

/-- One received frame (R228); while its block is drained or reset it is lost (01 R24). -/
def frameReceive (i : Nat) (f : RxFrame) (s : State) : State :=
  let eth := decide (i < 8)
  if !s.atWork (if eth then 2 else 3) (if eth then 0 else i % 2) then s
  else if eth ∧ !(s.iface i).any (fun g => g.enable && g.link) then s
  else if !eth ∧ !((i = 16 ∨ i = 17) ∧ s.linkState i = 2) then s
  else if !f.fcsOk then s.countIface i 4
  else if f.length < 64 ∨ s.mtuOf i < f.length then s.countIface i 5
  else
    let (s, keyed) := if eth then (s, true) else s.accUse (fin2 i) (State.rxSlot (s.accPort (fin2 i)) f)
    if !keyed then s
    else
    let s := ((s.countIface i 0).countIface i 1 f.length).learnMac i f
    match ingressOrder s i f with
    | .pauseFrame => s.pauseIn i f.kind
    | d =>
      if eth ∧ (s.iface i).any (fun g => decide (splitShare (s.splitOf i) < g.occupancy + f.length)) then s.countIface i 11
      else
        let s := if eth then s.fill i f.length else s
        (match d with
          | .drop k => s.countIface i k
          | .pauseFrame => s
          | .pier event =>
            let (s, ok) := if eth then s.slowPath i event else (s, true)
            if !ok then s
            else
              let s := s.canonise f.length
              match f.kind with
              | .arp true => s.answer i 64 f.src
              | .icmp true => if s.twin.state = TwinState.standby then s else s.answer i f.length f.src
              | _ => s
          | .leg l => s.toLeg l f.length f).fin

/-- The ingress buffer passes bytes on; at LOW_B or below a pause is cancelled (R231). -/
def ingressDrain (i bytes : Nat) (s : State) : State :=
  let s := s.modIface i (fun f => { f with occupancy := f.occupancy - bytes })
  match s.iface i with
  | some f => if f.pauseDue.isSome ∧ f.occupancy ≤ f.lowB then s.cancelPause i else s
  | none => s

/-- While the occupancy stays above LOW_B the pause frame is repeated when half of the last pause time has elapsed (R231). -/
def pauseRepeat (i : Nat) (s : State) : State :=
  match s.iface i with
  | some f => if f.pauseDue.any (fun t => decide (t ≤ s.now)) then (if f.lowB < f.occupancy then s.sendPause i else s.cancelPause i) else s
  | none => s

/-- The pause time of a received pause frame has run out: the held classes resume (R232). -/
def pauseExpiry (i : Nat) (s : State) : State :=
  s.modIface i (fun f => { f with
    heldUntil := if f.heldUntil ≤ s.now then 0 else f.heldUntil,
    pfcUntil := f.pfcUntil.map (fun t => if t ≤ s.now then 0 else t) })

/-- A new 10 ms window (R229). -/
def slowWindow (i : Nat) (s : State) : State := s.modIface i (fun f => { f with slowCount := 0 })

/-- FRAME_RECEIVE. -/
def execFrameReceive (iface : U8) (frame : RxFrame) (s : State) : Host.Outcome State Fault Refusal := .next (frameReceive iface.toNat frame s)
/-- INGRESS_BUFFER_DRAIN. -/
def execIngressBufferDrain (iface : U8) (bytes : Nat) (s : State) : Host.Outcome State Fault Refusal := .next (ingressDrain iface.toNat bytes s)
/-- PAUSE_REPEAT. -/
def execPauseRepeat (iface : U8) (s : State) : Host.Outcome State Fault Refusal := .next (pauseRepeat iface.toNat s)
/-- RECEIVED_PAUSE_EXPIRY. -/
def execReceivedPauseExpiry (iface : U8) (s : State) : Host.Outcome State Fault Refusal := .next (pauseExpiry iface.toNat s)
/-- SLOWPATH_WINDOW. -/
def execSlowpathWindow (iface : U8) (s : State) : Host.Outcome State Fault Refusal := .next (slowWindow iface.toNat s)

end Sys2Proof.Machine
end

