-- ==== Sys2Proof/Machine/Flags.lean ====
section
/-! DEFINITION. The sample arithmetic: saturation (05 R132), gains (R144), the equaliser band (R143), the mix output (R141), crossfades (R147), meters (R149, R150), and the arithmetic of the DSP cells that kernels run on (14 R371 to R373). -/

namespace Sys2Proof.Machine

open Sys2Proof

/-- sat32 (05 R132). -/
def sat32 (x : Int) : Int := max (-2147483648) (min 2147483647 x)

/-- The nearest integer of 2^28 times a power of ten, tested from below: y − 1/2 is at most 2^28 × 10^((i − 768) / 160). -/
def gainBelow (i y : Nat) : Bool := decide ((2 * y - 1) ^ 160 * 10 ^ 768 ≤ 2 ^ 160 * 2 ^ 4480 * 10 ^ i)

/-- The largest value that passes a test, built bit by bit from the top. -/
def largestBits (p : Nat → Bool) : Nat → Nat → Nat
  | 0, acc => acc
  | n + 1, acc => if p (acc + 2 ^ n) then largestBits p n (acc + 2 ^ n) else largestBits p n acc

/-- GAIN_TABLE[i], unsigned Q4.28 (05 R144). -/
def gainTable (i : Nat) : Nat := largestBits (gainBelow i) 32 0

/-- The factor of a gain in eighths of a dB, −768..192. -/
def gainOf (g : Int) : Nat := gainTable (g + 768).toNat

/-- A leg input gain or a route gain applied to a sample (05 R144). -/
def applyGain (g x : Int) : Int := sat32 ((x * gainOf g + 134217728) / 268435456)

/-- The output of a mix from the sum of its contributions (05 R141): master gain, saturation, then the tone. -/
def mixOut (master sum tone : Int) : Int := sat32 (sat32 ((sum * gainOf master + 134217728) / 268435456) + tone)

/-- The output of a mix before the tone, which its master meter reads (05 R149). -/
def mixBare (master sum : Int) : Int := sat32 ((sum * gainOf master + 134217728) / 268435456)

/-- One equaliser band in direct form I: the output for x0 from the band's coefficients and its last samples (05 R143). -/
def eqBand (c : Int × Int × Int × Int × Int) (h : Int × Int × Int × Int) (x0 : Int) : Int :=
  match c, h with
  | (b0, b1, b2, a1, a2), (x1, x2, y1, y2) => sat32 ((b0 * x0 + b1 * x1 + b2 * x2 - a1 * y1 - a2 * y2 + 536870912) / 1073741824)

/-- A band's last samples after one more. -/
def eqNext (h : Int × Int × Int × Int) (x0 y0 : Int) : Int × Int × Int × Int := (x0, h.1, y0, h.2.2.1)

/-- Entries 0 to 39 of the ROM table W (05 R147). -/
def fadeRom0 : List Nat :=
  [22998, 206974, 574895, 1126697, 1862287, 2781537, 3884292, 5170360, 6639523, 8291529, 10126094, 12142904, 14341613, 16721845, 19283192, 22025216, 24947445, 28049380, 31330489, 34790210,
   38427949, 42243085, 46234962, 50402898, 54746177, 59264056, 63955761, 68820487, 73857401, 79065641, 84444313, 89992496, 95709239, 101593563, 107644460, 113860893, 120241796, 126786077, 133492614, 140360257]

/-- Entries 40 to 79 of the ROM table W (05 R147). -/
def fadeRom1 : List Nat :=
  [147387831, 154574130, 161917925, 169417955, 177072937, 184881559, 192842482, 200954342, 209215751, 217625291, 226181522, 234882979, 243728170, 252715579, 261843667, 271110870, 280515599, 290056243, 299731168, 309538716,
   319477206, 329544935, 339740179, 350061190, 360506200, 371073419, 381761037, 392567222, 403490123, 414527868, 425678566, 436940306, 448311159, 459789177, 471372392, 483058819, 494846458, 506733287, 518717270, 530796354]

/-- Entries 80 to 119 of the ROM table W (05 R147). -/
def fadeRom2 : List Nat :=
  [542968468, 555231528, 567583432, 580022064, 592545291, 605150970, 617836939, 630601025, 643441041, 656354787, 669340050, 682394605, 695516215, 708702632, 721951597, 735260840, 748628079, 762051025, 775527378, 789054828,
   802631058, 816253741, 829920543, 843629123, 857377132, 871162213, 884982006, 898834141, 912716246, 926625942, 940560846, 954518569, 968496721, 982492906, 996504726, 1010529780, 1024565665, 1038609976, 1052660307, 1066714250]

/-- Entries 120 to 159 of the ROM table W (05 R147). -/
def fadeRom3 : List Nat :=
  [1080769398, 1094823341, 1108873672, 1122917983, 1136953868, 1150978922, 1164990742, 1178986927, 1192965079, 1206922802, 1220857706, 1234767402, 1248649507, 1262501642, 1276321435, 1290106516, 1303854525, 1317563105, 1331229907, 1344852590,
   1358428820, 1371956270, 1385432623, 1398855569, 1412222808, 1425532051, 1438781016, 1451967433, 1465089043, 1478143598, 1491128861, 1504042607, 1516882623, 1529646709, 1542332678, 1554938357, 1567461584, 1579900216, 1592252120, 1604515180]

/-- Entries 160 to 199 of the ROM table W (05 R147). -/
def fadeRom4 : List Nat :=
  [1616687294, 1628766378, 1640750361, 1652637190, 1664424829, 1676111256, 1687694471, 1699172489, 1710543342, 1721805082, 1732955780, 1743993525, 1754916426, 1765722611, 1776410229, 1786977448, 1797422458, 1807743469, 1817938713, 1828006442,
   1837944932, 1847752480, 1857427405, 1866968049, 1876372778, 1885639981, 1894768069, 1903755478, 1912600669, 1921302126, 1929858357, 1938267897, 1946529306, 1954641166, 1962602089, 1970410711, 1978065693, 1985565723, 1992909518, 2000095817]

/-- Entries 200 to 239 of the ROM table W (05 R147). -/
def fadeRom5 : List Nat :=
  [2007123391, 2013991034, 2020697571, 2027241852, 2033622755, 2039839188, 2045890085, 2051774409, 2057491152, 2063039335, 2068418007, 2073626247, 2078663161, 2083527887, 2088219592, 2092737471, 2097080750, 2101248686, 2105240563, 2109055699,
   2112693438, 2116153159, 2119434268, 2122536203, 2125458432, 2128200456, 2130761803, 2133142035, 2135340744, 2137357554, 2139192119, 2140844125, 2142313288, 2143599356, 2144702111, 2145621361, 2146356951, 2146908753, 2147276674, 2147460650]

/-- W[k] = round(2^31 × (0.5 − 0.5 cos(π (k + 0.5) / 240))), the raised-cosine curve of 240 samples (05 R147). -/
def fadeRom : List Nat := fadeRom0 ++ fadeRom1 ++ fadeRom2 ++ fadeRom3 ++ fadeRom4 ++ fadeRom5

/-- W at a sample of the fade; all 2^31 behind its end. -/
def fadeW (k : Nat) : Nat := if k < 240 then (fadeRom[k]?).getD 0 else 2147483648

/-- The same curve over 48 samples (05 R130). -/
def fadeW48 (k : Nat) : Nat := fadeW (5 * k + 2)

/-- A crossfade between two samples at a weight (05 R147). -/
def crossfade (w : Nat) (old new : Int) : Int := sat32 ((old * (2147483648 - (w : Int)) + new * w + 1073741824) / 2147483648)

/-- A contribution through its fade-in and fade-out at a media time (05 R147). -/
def faded (fadeIn fadeOut : Option Nat) (t : Nat) (x : Int) : Int :=
  let x := match fadeIn with
    | some a => if t < a then 0 else crossfade (fadeW (t - a)) 0 x
    | none => x
  match fadeOut with
  | some a => if t < a then x else crossfade (fadeW (t - a)) x 0
  | none => x

/-! ### Meters (05 R149) -/

/-- round(c × log10(num / den)) is at least r: (num / den)^(2c) ≥ 10^(2r − 1), for r at most 0. -/
def logAtLeast (c num den : Nat) (r : Int) : Bool := decide (den ^ (2 * c) ≤ num ^ (2 * c) * 10 ^ (1 - 2 * r).toNat)

/-- round(c × log10(num / den)), held between −1,024 and 0. -/
def logScale (c num den : Nat) : Int :=
  if num = 0 then -1024
  else if logAtLeast c num den 0 then 0
  else -1024 + (largestBits (fun k => decide (k ≤ 1024) && logAtLeast c num den (-1024 + k)) 11 0 : Nat)

/-- RMS of a 480-sample window in eighths of a dBFS. -/
def meterRms (sumSq : Nat) : Int := logScale 80 sumSq (480 * 2 ^ 62)

/-- Peak of a window in eighths of a dBFS. -/
def meterPeak (maxAbs : Nat) : Int := logScale 160 maxAbs (2 ^ 31)

/-- A level held between −127 and 0 dBov (05 R133). -/
def clampLevel (x : Int) : Int := clampInt (-127) 0 x

/-! ### The arithmetic of a DSP cell (14 R371 to R373) -/

/-- An 80-bit accumulator after adding or subtracting a product, saturated or wrapped (14 R371). -/
def accumulate (sat : Bool) (a : BitVec 80) (p : Int) (minus : Bool) : BitVec 80 :=
  let t := a.toInt + (if minus then -p else p)
  if sat then BitVec.ofInt 80 (max (-(2 ^ 79)) (min (2 ^ 79 - 1) t)) else BitVec.ofInt 80 t

/-- A fractional product is shifted left by 1 bit; −1 × −1 is the most positive value when S = 1 (14 R371). -/
def fracProduct (width : Nat) (sat : Bool) (x y : Int) : Int :=
  let p := 2 * (x * y)
  if sat then min (2 ^ (2 * width - 1) - 1) p else p

/-- The product of two operands of a width, in fractional form or not (14 R371). -/
def product (frac : Bool) (width : Nat) (sat : Bool) (x y : Int) : Int := if frac then fracProduct width sat x y else x * y

/-- Dual mode: P = Da × Db and Q = Da × Dc into two accumulators (14 R371). -/
def dualMode (frac sat minusP minusQ : Bool) (da db dc : U32) (a0 a1 : BitVec 80) : BitVec 80 × BitVec 80 :=
  (accumulate sat a0 (product frac 32 sat da.toInt db.toInt) minusP, accumulate sat a1 (product frac 32 sat da.toInt dc.toInt) minusQ)

/-- Quad mode: the products hh, ll, hl and lh of the 16-bit halves, into A0 to A3 (14 R371). -/
def quadMode (frac sat : Bool) (minus : BitVec 4) (da db : U32) (a : Vector (BitVec 80) 4) : Vector (BitVec 80) 4 :=
  let h (x : U32) : Int := (x.extractLsb' 16 16).toInt
  let l (x : U32) : Int := (x.extractLsb' 0 16).toInt
  let p (x y : Int) : Int := product frac 16 sat x y
  #v[accumulate sat (a.get 0) (p (h da) (h db)) (minus.getLsbD 0), accumulate sat (a.get 1) (p (l da) (l db)) (minus.getLsbD 1),
     accumulate sat (a.get 2) (p (h da) (l db)) (minus.getLsbD 2), accumulate sat (a.get 3) (p (l da) (h db)) (minus.getLsbD 3)]

/-- Extraction of an accumulator with a shift of 0 to 48, ties toward +∞ (14 R371). -/
def extract (sat : Bool) (k : Nat) (a : BitVec 80) : U32 :=
  let t := if k = 0 then a.toInt else (a.toInt + 2 ^ (k - 1)) / 2 ^ k
  BitVec.ofInt 32 (if sat then sat32 t else t)

/-- How a post-modify ends (14 R372). -/
inductive Modify where
  | address (p : BitVec 20) | badModify | illegal
  deriving DecidableEq, Repr

/-- Post-modify of Pn by an amount, kept inside the hoop that HSEL binds it to (14 R372). -/
def postModify (p : BitVec 20) (amount : Int) (bind : Nat) (hoops : Vector (BitVec 40) 4) : Modify :=
  if 5 ≤ bind then .illegal
  else
    let linear := Modify.address (BitVec.ofInt 20 (p.toNat + amount))
    match bind with
    | 0 => linear
    | b + 1 =>
      let hoop := (hoops[b]?).getD 0
      let first := (hoop.extractLsb' 0 20).toNat
      let span := (hoop.extractLsb' 20 20).toNat
      if span = 0 then linear
      else if (span : Int) ≤ amount ∨ amount ≤ -(span : Int) ∨ p.toNat < first ∨ first + span ≤ p.toNat ∨ 0x20000 < first + span then .badModify
      else
        let q : Int := p.toNat + amount
        .address (BitVec.ofInt 20 (if (first + span : Int) ≤ q then q - span else if q < first then q + span else q))

/-- An entry of the repeat stack, the innermost first: iterations left, first and last address of the body (14 R373). -/
abbrev Repeat := Nat × Nat × Nat

/-- A repeat instruction: a count of 0 skips the body; a fourth push faults with REPEAT_DEPTH, answered as none (14 R373). -/
def pushRepeat (stack : List Repeat) (r : Repeat) : Option (List Repeat) :=
  if r.1 = 0 then some stack else if stack.length < 3 then some (r :: stack) else none

/-- A branch pops every repeat whose body does not contain its target (14 R373). -/
def branchPop (stack : List Repeat) (target : Nat) : List Repeat := stack.filter (fun r => decide (r.2.1 ≤ target) && decide (target ≤ r.2.2))

/-- The end of a body's last instruction: back to its first while iterations are left, else the entry pops (14 R373). -/
def endOfBody : List Repeat → Nat → List Repeat × Nat
  | [], pc => ([], pc + 1)
  | (n, f, l) :: rest, pc => if pc = l then (if 1 < n then ((n - 1, f, l) :: rest, f) else (rest, pc + 1)) else ((n, f, l) :: rest, pc + 1)

end Sys2Proof.Machine
end

