-- ==== Sys2Proof/Machine/Frames.lean ====
section
/-! DEFINITION. The samples of pictures (06 R156, 07 R192 to R198): scaling, the order of drawing, blending, dither, safety regions in a feed. -/

namespace Sys2Proof.Machine

open Sys2Proof

/-! ### Pictures as samples (06 R156) -/

/-- Rows of a plane from its samples by column and row. -/
def makePlane (w h : Nat) (v : Nat → Nat → Nat) : List (List Nat) := (List.range h).map (fun y => (List.range w).map (fun x => v x y))

/-- A picture from its samples by component, column and row: 4:2:0 (06 R156). -/
def makeFrame (w h : Nat) (v : Nat → Nat → Nat → Nat) : Frame :=
  { w, h, luma := makePlane w h (v 0), cb := makePlane (ceilDiv' w 2) (ceilDiv' h 2) (v 1), cr := makePlane (ceilDiv' w 2) (ceilDiv' h 2) (v 2) }

/-- A component of a picture. -/
def planeOf (f : Frame) (c : Nat) : List (List Nat) := if c = 0 then f.luma else if c = 1 then f.cb else f.cr

/-- A sample of a picture, by component, column and row; beyond the edge, that of the edge (06 R164). -/
def sampleOf (f : Frame) (c x y : Nat) : Nat :=
  let p := planeOf f c
  let row := (p[min y (p.length - 1)]?).getD []
  (row[min x (row.length - 1)]?).getD 0

/-- Mid-grey: 512 in every component (06 R166). -/
def greyFrame (w h : Nat) : Frame := makeFrame w h (fun _ _ _ => 512)

/-! ### Scaling (R192, R193) -/

/-- Phases 0 to 15 of C (R192). -/
def tapRows0 : List (List Int) :=
  [ [0, 0, 0, 16384, 0, 0, 0, 0],
    [-25, 80, -226, 16377, 235, -83, 26, 0],
    [-49, 158, -443, 16356, 478, -168, 53, -1],
    [-71, 232, -651, 16319, 730, -255, 82, -2],
    [-93, 304, -850, 16271, 990, -345, 111, -4],
    [-113, 373, -1040, 16206, 1258, -436, 142, -6],
    [-132, 439, -1220, 16129, 1533, -529, 173, -9],
    [-149, 501, -1391, 16039, 1816, -624, 205, -13],
    [-165, 560, -1552, 15933, 2106, -719, 238, -17],
    [-180, 616, -1704, 15816, 2402, -816, 271, -21],
    [-193, 668, -1846, 15685, 2705, -914, 305, -26],
    [-205, 717, -1978, 15539, 3014, -1012, 340, -31],
    [-216, 763, -2101, 15382, 3329, -1111, 375, -37],
    [-226, 805, -2215, 15215, 3649, -1210, 410, -44],
    [-234, 843, -2319, 15033, 3974, -1308, 445, -50],
    [-241, 878, -2413, 14839, 4304, -1406, 481, -58] ]

/-- Phases 16 to 31 of C (R192). -/
def tapRows1 : List (List Int) :=
  [ [-247, 910, -2499, 14636, 4637, -1504, 516, -65],
    [-252, 938, -2575, 14419, 4975, -1600, 552, -73],
    [-255, 962, -2642, 14192, 5316, -1695, 587, -81],
    [-257, 984, -2700, 13956, 5659, -1789, 621, -90],
    [-259, 1001, -2749, 13710, 6005, -1881, 656, -99],
    [-259, 1016, -2790, 13453, 6353, -1970, 689, -108],
    [-258, 1027, -2822, 13187, 6702, -2057, 722, -117],
    [-256, 1036, -2846, 12911, 7053, -2142, 754, -126],
    [-254, 1041, -2862, 12630, 7403, -2223, 785, -136],
    [-250, 1043, -2870, 12338, 7754, -2301, 815, -145],
    [-246, 1042, -2870, 12039, 8104, -2375, 844, -154],
    [-241, 1038, -2863, 11736, 8453, -2446, 871, -164],
    [-236, 1032, -2849, 11425, 8800, -2512, 897, -173],
    [-229, 1023, -2828, 11106, 9146, -2573, 921, -182],
    [-223, 1012, -2800, 10783, 9489, -2629, 943, -191],
    [-215, 998, -2767, 10457, 9828, -2681, 963, -199] ]

/-- Phases 32 to 47 of C (R192). -/
def tapRows2 : List (List Int) :=
  [ [-207, 982, -2727, 10124, 10164, -2727, 982, -207],
    [-199, 963, -2681, 9828, 10457, -2767, 998, -215],
    [-191, 943, -2629, 9489, 10783, -2800, 1012, -223],
    [-182, 921, -2573, 9146, 11106, -2828, 1023, -229],
    [-173, 897, -2512, 8800, 11425, -2849, 1032, -236],
    [-164, 871, -2446, 8453, 11736, -2863, 1038, -241],
    [-154, 844, -2375, 8104, 12039, -2870, 1042, -246],
    [-145, 815, -2301, 7754, 12338, -2870, 1043, -250],
    [-136, 785, -2223, 7403, 12630, -2862, 1041, -254],
    [-126, 754, -2142, 7053, 12911, -2846, 1036, -256],
    [-117, 722, -2057, 6702, 13187, -2822, 1027, -258],
    [-108, 689, -1970, 6353, 13453, -2790, 1016, -259],
    [-99, 656, -1881, 6005, 13710, -2749, 1001, -259],
    [-90, 621, -1789, 5659, 13956, -2700, 984, -257],
    [-81, 587, -1695, 5316, 14192, -2642, 962, -255],
    [-73, 552, -1600, 4975, 14419, -2575, 938, -252] ]

/-- Phases 48 to 63 of C (R192). -/
def tapRows3 : List (List Int) :=
  [ [-65, 516, -1504, 4637, 14636, -2499, 910, -247],
    [-58, 481, -1406, 4304, 14839, -2413, 878, -241],
    [-50, 445, -1308, 3974, 15033, -2319, 843, -234],
    [-44, 410, -1210, 3649, 15215, -2215, 805, -226],
    [-37, 375, -1111, 3329, 15382, -2101, 763, -216],
    [-31, 340, -1012, 3014, 15539, -1978, 717, -205],
    [-26, 305, -914, 2705, 15685, -1846, 668, -193],
    [-21, 271, -816, 2402, 15816, -1704, 616, -180],
    [-17, 238, -719, 2106, 15933, -1552, 560, -165],
    [-13, 205, -624, 1816, 16039, -1391, 501, -149],
    [-9, 173, -529, 1533, 16129, -1220, 439, -132],
    [-6, 142, -436, 1258, 16206, -1040, 373, -113],
    [-4, 111, -345, 990, 16271, -850, 304, -93],
    [-2, 82, -255, 730, 16319, -651, 232, -71],
    [-1, 53, -168, 478, 16356, -443, 158, -49],
    [0, 26, -83, 235, 16377, -226, 80, -25] ]

/-- C[phase][tap]: round(16,384 × L(k − 3 − p / 64)) of the Lanczos kernel with a = 4; the tap nearest the centre makes each phase sum to 16,384. In phase 32, where two taps are equally near, it is tap 3 (DESIGN CHOICE, log 80). -/
def tapAt (p k : Nat) : Int := ((((if p < 16 then tapRows0 else if p < 32 then tapRows1 else if p < 48 then tapRows2 else tapRows3)[p % 16]?).getD [])[k]?).getD 0

/-- Position of an output column in 16.16 fixed point, relative to the crop origin (R192). -/
def scalePos (cw dw i : Nat) : Int := ((2 * (i : Int) + 1) * ((cw * 65536 / dw : Nat) : Int)) / 2 - 32768

/-- Whole part and phase of a position (R192). -/
def scaleTap (pos : Int) : Int × Nat := (pos / 65536, (pos / 1024 % 64).toNat)

/-- A line of samples scaled to a width (R192). -/
def scaleLine (dw : Nat) (src : List Nat) : List Nat :=
  let cw := src.length
  (List.range dw).map (fun i =>
    let t := scaleTap (scalePos cw dw i)
    let acc := (List.range 8).foldl (fun (acc : Int) k => acc + tapAt t.2 k * ((src[(clampInt 0 ((cw : Int) - 1) (t.1 - 3 + k)).toNat]?).getD 0 : Nat)) 8192
    (clampInt 0 1023 (acc / 16384)).toNat)

/-- Halve a line of samples: the rounded mean of each pair, a last odd sample repeated (R193). -/
def halve : List Nat → List Nat
  | [] => []
  | [a] => [a]
  | a :: b :: rest => (a + b + 1) / 2 :: halve rest

/-- Halve a line until it is at most twice the destination (R193); fuel bounds the halvings. -/
def halveTo (dw : Nat) : Nat → List Nat → List Nat
  | 0, l => l
  | n + 1, l => if 2 * dw < l.length then halveTo dw n (halve l) else l

/-- Columns of a plane as its rows. -/
def turn (rows : List (List Nat)) : List (List Nat) := (List.range ((rows.head?).elim 0 List.length)).map (fun i => rows.map (fun r => (r[i]?).getD 0))

/-- A plane scaled: its columns and rows are halved first where the ratio asks for it, then it is scaled horizontally, then vertically (R192, R193). -/
def scalePlane (dw dh : Nat) (rows : List (List Nat)) : List (List Nat) :=
  let across (f : List Nat → List Nat) (p : List (List Nat)) : List (List Nat) := p.map f
  let down (f : List Nat → List Nat) (p : List (List Nat)) : List (List Nat) := turn ((turn p).map f)
  down (scaleLine dh) (across (scaleLine dw) (down (halveTo dh 12) (across (halveTo dw 12) rows)))

/-- The part of a plane in a crop rectangle. -/
def cropPlane (x y w h : Nat) (rows : List (List Nat)) : List (List Nat) := ((rows.drop y).take h).map (fun r => (r.drop x).take w)

/-- A crop of a picture scaled to a size, chroma at half the size of luma; a crop beyond the picture is reduced to it, width 0 means the whole of it (R188, R192, R193). -/
def scaleFrame (f : Frame) (cx cy cw ch dw dh : Nat) : Frame :=
  let (cx, cy, cw, ch) := if cw = 0 then (0, 0, f.w, f.h) else (cx, cy, cw, ch)
  { w := dw, h := dh, luma := scalePlane dw dh (cropPlane cx cy cw ch f.luma),
    cb := scalePlane (dw / 2) (dh / 2) (cropPlane (cx / 2) (cy / 2) (ceilDiv' cw 2) (ceilDiv' ch 2) f.cb),
    cr := scalePlane (dw / 2) (dh / 2) (cropPlane (cx / 2) (cy / 2) (ceilDiv' cw 2) (ceilDiv' ch 2) f.cr) }

/-! ### Blending and the order of drawing (R194 to R196) -/

/-- A tile or border sample drawn over the canvas (R195). -/
def blend (alpha f b : Nat) : Nat := (alpha * f + (1024 - alpha) * b + 512) / 1024

/-- Samples by component, column and row. -/
abbrev Canvas := Nat → Nat → Nat → Nat

/-- Place of a sample inside a rectangle of luma samples, for its component; none outside. Even rectangles halve exactly. -/
def within2 (x y : Int) (w h c px py : Nat) : Option (Nat × Nat) :=
  let d : Nat := if c = 0 then 1 else 2
  let dx := (px : Int) - x / d
  let dy := (py : Int) - y / d
  if 0 ≤ dx ∧ dx < (w / d : Nat) ∧ 0 ≤ dy ∧ dy < (h / d : Nat) then some (dx.toNat, dy.toNat) else none

/-- A component of a colour: Y [9:0], Cb [19:10], Cr [29:20] (07 layout.tile). -/
def colourOf (v : BitVec 30) (c : Nat) : Nat := v.toNat / 1024 ^ c % 1024

/-- The inner rectangle of a tile: width and height inside its border (R194). -/
def innerSize (q : TileReq) : Nat × Nat := (q.w.toNat - 2 * q.border.toNat, q.h.toNat - 2 * q.border.toNat)

/-- One tile drawn over the canvas: its border in the outer BORDER samples, then its content (R194 to R196). -/
def drawTile (q : TileReq) (content : Content) (b : Canvas) : Canvas := fun c x y =>
  match within2 q.x.toInt q.y.toInt q.w.toNat q.h.toNat c x y with
  | none => b c x y
  | some _ =>
    let n := innerSize q
    match within2 (q.x.toInt + q.border.toNat) (q.y.toInt + q.border.toNat) n.1 n.2 c x y with
    | none => blend q.borderAlpha.toNat (colourOf q.borderColour c) (b c x y)
    | some p => match content with
      | .off => b c x y
      | .fill => blend q.alpha.toNat (colourOf q.fill c) (b c x y)
      | .pixels f => blend q.alpha.toNat (sampleOf f c p.1 p.2) (b c x y)

/-- One safety region drawn, opaque and unscaled (R199). -/
def drawRegion (content x y w h : Nat) (b : Canvas) : Canvas := fun c px py =>
  match within2 x y w h c px py with
  | some p => Config.overlaySample content c p.1 p.2
  | none => b c px py

/-- The background colour (R185, R194). -/
def background (bg : BitVec 10 × BitVec 10 × BitVec 10) : Canvas := fun c _ _ => if c = 0 then bg.1.toNat else if c = 1 then bg.2.1.toNat else bg.2.2.toNat

/-- Tiles in drawing order: ascending Z, then ascending tile number (R194). -/
def drawOrder (tiles : List (Nat × TileReq × Content)) : List (Nat × TileReq × Content) :=
  sortBy (fun a b => decide (a.2.1.z.toNat < b.2.1.z.toNat) || (a.2.1.z == b.2.1.z && decide (a.1 ≤ b.1))) tiles

/-- A slot drawn: the background, the tiles in order, the safety regions in ascending number (R194). Regions come with their overlay's samples, place and size. -/
def drawSlot (w h : Nat) (bg : BitVec 10 × BitVec 10 × BitVec 10) (tiles : List (Nat × TileReq × Content)) (regions : List (Nat × Nat × Nat × Nat × Nat)) : Frame :=
  let canvas := (drawOrder tiles).foldl (fun b t => drawTile t.2.1 t.2.2 b) (background bg)
  makeFrame w h (regions.foldl (fun b r => drawRegion r.1 r.2.1 r.2.2.1 r.2.2.2.1 r.2.2.2.2 b) canvas)

/-- The samples of a region in the order its signature takes them: Y in raster order, then Cb, then Cr, 2 bytes each (R200). -/
def regionBytes (f : Frame) (x y w h : Nat) : Bytes :=
  (cropPlane x y w h f.luma ++ cropPlane (x / 2) (y / 2) (w / 2) (h / 2) f.cb ++ cropPlane (x / 2) (y / 2) (w / 2) (h / 2) f.cr).flatten.flatMap (le 2)

/-- The signature Keystone expects of an overlay, from its own samples (16 R423, R200). -/
def expectedSignature (o : Overlay) : U32 := crc32c (regionBytes (makeFrame o.width o.height (Config.overlaySample o.content)) 0 0 o.width o.height)

/-- The notice card's dimensions halved until it fits the output (16 R423, R193); fuel bounds the halvings. -/
def fitCard (w h : Nat) : Nat → Frame → Frame
  | 0, f => f
  | n + 1, f =>
    let half (p : List (List Nat)) : List (List Nat) := turn ((turn (p.map halve)).map halve)
    if w < f.w ∨ h < f.h then fitCard w h n { w := ceilDiv' f.w 2, h := ceilDiv' f.h 2, luma := half f.luma, cb := half f.cb, cr := half f.cr } else f

/-- The notice card rendered for an output size: centred on its background, at even samples (16 R423; the rounding is the model's, log 80). -/
def cardFrame (p : PolicyImage) (w h : Nat) : Frame :=
  let card := fitCard w h 11 (makeFrame p.cardW p.cardH (Config.cardSample p.cardContent))
  let x := (w - card.w) / 4 * 2
  let y := (h - card.h) / 4 * 2
  makeFrame w h (fun c px py => match within2 x y card.w card.h c px py with
    | some q => sampleOf card c q.1 q.2
    | none => background p.cardBg c px py)

/-! ### Dither and safety regions in a feed (R197, R198) -/

/-- Table 7-2. -/
def ditherRows : List (List Nat) :=
  [ [0, 32, 8, 40, 2, 34, 10, 42], [48, 16, 56, 24, 50, 18, 58, 26], [12, 44, 4, 36, 14, 46, 6, 38], [60, 28, 52, 20, 62, 30, 54, 22],
    [3, 35, 11, 43, 1, 33, 9, 41], [51, 19, 59, 27, 49, 17, 57, 25], [15, 47, 7, 39, 13, 45, 5, 37], [63, 31, 55, 23, 61, 29, 53, 21] ]

/-- DITHER[row][column]. -/
def ditherAt (row col : Nat) : Nat := (((ditherRows[row % 8]?).getD [])[col % 8]?).getD 0

/-- A 10-bit sample dithered for an 8-bit feed at picture count n (R197). -/
def dither (n x y v : Nat) : Nat := min 255 (v / 4 + (if ditherAt (y + n / 8 % 8) (x + n % 8) < v % 4 * 16 then 1 else 0))

/-- A sample inside a safety region (R198). -/
def undithered (v : Nat) : Nat := v / 4

/-- A rectangle of a layout mapped into a feed's coordinates and rounded outward to even samples (R198). -/
def mapRect (w h w' h' : Nat) (r : Nat × Nat × Nat × Nat) : Nat × Nat × Nat × Nat :=
  let x0 := r.1 * w' / w / 2 * 2
  let y0 := r.2.1 * h' / h / 2 * 2
  (x0, y0, roundUp (ceilDiv' ((r.1 + r.2.2.1) * w') w) 2 - x0, roundUp (ceilDiv' ((r.2.1 + r.2.2.2) * h') h) 2 - y0)

/-- What an encode lane codes of a slot's picture: scaled to the layer's size, and for an 8-bit feed dithered outside the safety regions (R197, R198, R204). -/
def feedFrame (f : Frame) (rects : List (Nat × Nat × Nat × Nat)) (w h depth n : Nat) : Frame :=
  let g := scaleFrame f 0 0 0 0 w h
  if depth = 10 then g
  else
    let own := rects.map (mapRect f.w f.h w h)
    makeFrame w h (fun c x y => let v := sampleOf g c x y; if own.any (fun r => (within2 r.1 r.2.1 r.2.2.1 r.2.2.2 c x y).isSome) then undithered v else dither n x y v)

end Sys2Proof.Machine
end

