-- ==== Sys2Proof/Machine/Signal.lean ====
section
/-! DEFINITION. The signals of the sound path (05): jitter buffers and what they play, conversion, the chain of a leg, gains, the samples of the mixes and of the mix-minus outputs, meters and encodes. -/

namespace Sys2Proof.Machine

open Sys2Proof

namespace State

/-- Change the sound path. -/
def modSnd (s : State) (f : Sound → Sound) : State := { s with snd := f s.snd }
/-- Change a leg's sound state. -/
def modLegSnd (s : State) (l : Nat) (f : LegSound → LegSound) : State := s.modSnd (fun d => { d with legs := tmod d.legs l f })
/-- Change a mix. -/
def modMix (s : State) (x : Nat) (f : Mix → Mix) : State := s.modSnd (fun d => { d with mixes := tmod d.mixes x f })

/-- The leg talks: it sends audio and is no listener (04 R118). -/
def talker (s : State) (l : Nat) : Bool := (s.legLive l).any (fun q => LegOffer.sends q.offer 0 && !q.offer.listener)

end State

/-! ### Decoding and conversion (05 R122, R123, R131) -/

/-- The sampling rate of a codec's signal: its RTP clock, but for G.722, which samples at 16 kHz (Table 5-1). -/
def srcRate (codec clock : Nat) : Nat := if codec = 4 then 16000 else clock

/-- A decoded stereo sample downmixed (05 R123). -/
def downmix (channels : Nat) (p : Int × Int) : Int := sat32 (if channels = 2 then (p.1 + p.2) / 2 else p.1)

/-- Samples that a converter still holds: its group delay of 48 samples at 48 kHz, and for two different rates as many again (05 R131; the length of the filter is the model's, log 11). -/
def convHold (rin rout : Nat) : Nat := if rin = rout then 48 else 96 * rin / 48000 + 1

/-- Convert samples between two rates: n samples out, and what the converter holds then. Between equal rates the converter delays by its group delay and nothing else (05 R131). -/
def convertRun (rin rout : Nat) (held x : List Int) (n : Nat) : List Int × List Int :=
  let h := convHold rin rout
  let w := List.replicate (h - held.length) 0 ++ held ++ x
  ((List.range n).map (fun k => if rin = rout then (w[k]?).getD 0 else sat32 (Config.convert rin rout w k)), w.drop (w.length - h))

/-- Decode one frame of n samples at 48 kHz: the decoder's next state, what the converter holds, and the samples (05 R122, R123, R131). -/
def decodeRun (e : CodecEntry) (st : Bytes) (held : List Int) (i : DecodeIn) (n : Nat) : Bytes × List Int × List Int :=
  let rate := srcRate e.codec.toNat e.clockHz.toNat
  let count := n * rate / 48000
  let r := Config.decode e st i count
  let c := convertRun rate 48000 held ((r.2.take count).map (downmix e.channels.toNat)) n
  (r.1, c.2, c.1)

/-! ### Jitter buffers (05 R125 to R129) -/

/-- Play time of a timestamp (05 R125). -/
def Jitter.playOf (j : Jitter) (clock : Nat) (ts : U32) : Int := j.m0 + ((((ts - j.ts0).toNat * 48000 / clock : Nat)) : Int)

/-- Depth: the play time of the newest packet held, less the media time (05 R125). -/
def Jitter.depth (j : Jitter) (m : Nat) : Int :=
  match j.held.map (·.play) with
  | [] => 0
  | p :: ps => ps.foldl max p - m

/-- J95: the 95th percentile of d less the minimum of d over the last 2 s (05 R126), by the nearest rank. -/
def Jitter.j95 (j : Jitter) : Nat :=
  match sortBy (fun a b : Int => decide (a ≤ b)) (j.stats.map (·.2.1)) with
  | [] => 0
  | d :: ds => (((d :: ds)[ceilDiv' ((ds.length + 1) * 95) 100 - 1]?).getD d - d).toNat

/-- The target delay in ms (05 R126). -/
def Jitter.target (j : Jitter) (ptime : Nat) : Nat :=
  if j.fixed then j.minMs else max j.minMs (min j.maxMs (ceilDiv' (j.j95 + ptime) 48))

/-- Enter PRIMING with a new anchor (05 R125, R127). -/
def Jitter.anchor (j : Jitter) (m : Nat) (p : AudioPkt) : Jitter :=
  { j with state := .priming, ssrc := p.ssrc, ts0 := p.ts, m0 := (m : Int) + j.targetMs * 48, held := [], lastSeq := none, played := none, before := none,
           stats := [], skipped := [], levels := [], concealFrom := none, highSince := none, pcm := [], nextPlay := (m : Int) + j.targetMs * 48 }

/-- A timestamp breaks the sequence: it maps more than 1 s ahead of the newest play time or behind the oldest frame held, and the sequence numbers do not run on (05 R127). -/
def Jitter.breaks (j : Jitter) (play : Int) (seq : U16) : Bool :=
  match j.held.map (·.play) with
  | [] => decide (j.nextPlay + 48000 < play) && j.lastSeq != some (seq - 1)
  | p :: ps => (decide (ps.foldl max p + 48000 < play) || decide (play + 48000 < ps.foldl min p)) && j.lastSeq != some (seq - 1)

/-- PRIMING ends when the depth reaches the target (05 R127). -/
def Jitter.prime (j : Jitter) (m : Nat) : Jitter :=
  if j.state = .priming ∧ !j.held.isEmpty ∧ (j.targetMs * 48 : Int) ≤ j.depth m then
    { j with state := .playing, nextPlay := (j.held.head?).elim j.nextPlay (·.play) }
  else j

/-- Put a packet in timestamp order (05 R128). -/
def jbInsert (p : JbPkt) (l : List JbPkt) : List JbPkt := insertBy (fun a b => decide (a.play ≤ b.play)) p l

/-- A packet of another payload type: it is discarded and counted, and its number leaves no gap in the sequence (05 R124). -/
def Jitter.skip (j : Jitter) (seq : U16) : Jitter := { j with unknownPt := j.unknownPt + 1, skipped := (j.skipped ++ [seq]).drop (j.skipped.length - 255) }

/-- A packet of the chosen payload type enters its jitter buffer (05 R125 to R128). -/
def Jitter.arrive (j : Jitter) (m clock : Nat) (p : AudioPkt) : Jitter :=
  let fresh := j.state = .idle ∨ j.state = .starved ∨ p.ssrc ≠ j.ssrc ∨ j.breaks (j.playOf clock p.ts) p.seq
  let j := if fresh then j.anchor m p else j
  let play := j.playOf clock p.ts
  if j.stats.any (fun x => x.2.2 == p.seq) ∨ j.held.any (fun q => q.seq == p.seq) then { j with duplicate := j.duplicate + 1 }
  else
    let j := { j with stats := j.stats.filter (fun x : Nat × Int × U16 => decide (m < x.1 + 96000)) ++ [(m, (m : Int) - play, p.seq)] }
    let j := { j with targetMs := j.target p.ptimeSamples }
    if play < m then { j with late := j.late + 1 }
    else
      let j := { j with
        held := jbInsert { seq := p.seq, ts := p.ts, play, samples := p.ptimeSamples, level := p.level, fec := p.fec, payload := p.payload } j.held,
        levels := j.levels ++ [(play, p.ptimeSamples, p.level)], lastSeq := some p.seq }
      j.prime m

/-- The sequence numbers run on from one to another, those of discarded packets passed over (05 R124, R127). -/
def runsOn (skipped : List U16) (seq : U16) : Nat → U16 → Bool
  | 0, _ => false
  | n + 1, x => x + 1 == seq || (skipped.contains (x + 1) && runsOn skipped seq n (x + 1))

/-- A concealed sample after a number of samples of continuous concealment: from 60 ms it fades linearly to 0 over 20 ms (05 R127). -/
def concealed (run x : Int) : Int := if run ≤ 2880 then x else if 3840 ≤ run then 0 else x * (3840 - run) / 960

/-- Samples put out without a decoder are zeros, which `pcm` need not hold. -/
def Jitter.mute (j : Jitter) (n : Nat) : Jitter := { j with pcm := [], nextPlay := j.nextPlay + n }

/-- The state that a decoder has before the frame that plays next: it restarts with that frame, the frame before it decoded first where it is held; a G.722 decoder is reset at the first good frame after concealment (05 R128, R129). -/
def Jitter.decoder (j : Jitter) (e : CodecEntry) (q : JbPkt) : Bytes × List Int :=
  match j.dec with
  | some st => if e.codec = 4 ∧ j.state = .concealing then ([], j.conv) else (st, j.conv)
  | none =>
    match j.before with
    | some p => if p.seq + 1 = q.seq then let r := decodeRun e [] [] (.frame p.payload) (max 1 p.samples); (r.1, r.2.1) else ([], [])
    | none => ([], [])

/-- The frame that is due plays (05 R127, R128). -/
def Jitter.playFrame (j : Jitter) (e : CodecEntry) (decode : Bool) (q : JbPkt) (rest : List JbPkt) : Jitter :=
  let n := max 1 q.samples
  let j' := { j with state := .playing, held := rest, frame := n, played := some q.seq, before := some q, concealFrom := none }
  let stop := max (j.nextPlay + 1) (q.play + n)
  if decode then
    let d := j.decoder e q
    let r := decodeRun e d.1 d.2 (.frame q.payload) n
    { j' with dec := some r.1, conv := r.2.1, pcm := j.pcm ++ r.2.2.drop (j.nextPlay - q.play).toNat, nextPlay := stop }
  else { j' with pcm := [], dec := none, conv := [], nextPlay := stop }

/-- Samples of concealment or of the decoder's own DTX output, appended to what plays. -/
def Jitter.fill (j : Jitter) (e : CodecEntry) (i : DecodeIn) (n : Nat) (shape : Nat → Int → Int) : Jitter :=
  match j.dec with
  | some st =>
    let r := decodeRun e st j.conv i n
    { j with dec := some r.1, conv := r.2.1, pcm := j.pcm ++ r.2.2.zipIdx.map (fun p => shape p.2 p.1), nextPlay := j.nextPlay + n }
  | none => j.mute n

/-- No frame is due and none is missing: the Opus decoder's own output, or zero samples (05 R127). -/
def Jitter.silence (j : Jitter) (e : CodecEntry) (n : Nat) : Jitter :=
  let j := { j with state := .silent, concealFrom := none }
  if e.codec = 1 then j.fill e .dtx n (fun _ x => x)
  else { j with pcm := if j.dec.isSome then j.pcm ++ List.replicate n 0 else [], nextPlay := j.nextPlay + n }

/-- A frame is missing: it is lost, and concealed, from the in-band FEC of the packet behind it where an Opus packet carries one (05 R127, R128, Table 5-3). After 80 ms of it only zeros follow. -/
def Jitter.conceal (j : Jitter) (e : CodecEntry) (n : Nat) : Jitter :=
  let from_ := j.concealFrom.getD j.nextPlay
  let run := j.nextPlay - from_
  if 3840 ≤ run then { j with pcm := if j.dec.isSome then j.pcm ++ List.replicate n 0 else [], nextPlay := j.nextPlay + n }
  else
    let i := match j.held.head? with
      | some q => if e.codec = 1 ∧ q.fec ∧ j.played.any (fun x => x + 2 == q.seq) then DecodeIn.fec q.payload else .lost
      | none => .lost
    let j := { j with state := .concealing, concealFrom := some from_, lost := j.lost + 1, played := j.played.map (· + 1) }
    j.fill e i n (fun k x => concealed (run + k) x)

/-- Produce what plays up to a media time (05 R127, R128); fuel bounds the frames of one tick. -/
def Jitter.produce (e : CodecEntry) (decode : Bool) (upTo : Int) : Nat → Jitter → Jitter
  | 0, j => j
  | n + 1, j =>
    if upTo ≤ j.nextPlay then j
    else
      let on (seq : U16) : Bool := j.played.any (runsOn j.skipped seq (j.skipped.length + 1))
      match j.held with
      | q :: rest =>
        if q.play ≤ j.nextPlay then Jitter.produce e decode upTo n (j.playFrame e decode q rest)
        else
          let gap := (q.play - j.nextPlay).toNat
          if on q.seq then Jitter.produce e decode upTo n (j.silence e (min gap (upTo - j.nextPlay).toNat))
          else Jitter.produce e decode upTo n (j.conceal e (max 1 (min j.frame gap)))
      | [] =>
        if j.played.any (fun x => j.skipped.contains (x + 1)) then Jitter.produce e decode upTo n (j.silence e (upTo - j.nextPlay).toNat)
        else Jitter.produce e decode upTo n (j.conceal e (max 1 j.frame))

/-- Move every play time of the buffer. -/
def Jitter.shift (j : Jitter) (d : Int) : Jitter :=
  { j with m0 := j.m0 + d, nextPlay := j.nextPlay + d, held := j.held.map (fun q => { q with play := q.play + d }) }

/-- Time-scale modification: what waits to be played becomes d samples longer or shorter (05 R126). -/
def Jitter.stretch (j : Jitter) (d : Int) : Jitter :=
  let n := ((j.pcm.length : Int) + d).toNat
  { j.shift d with pcm := if j.dec.isSome then (List.range n).map (fun k => sat32 (Config.timescaled j.pcm d k)) else [] }

/-- Samples are taken out of what waits to be played, at once (05 R126). -/
def Jitter.cut (j : Jitter) (n : Nat) : Jitter := { j.shift (-(n : Int)) with pcm := j.pcm.drop n }

/-- Adapt the playout to the target: at most 10 ms more per 20 ms of output; once the target has lain 5 ms below the depth for 500 ms, a window below the speaker threshold is shortened at once, else at most 5 ms less per 100 ms (05 R126). -/
def Jitter.adapt (j : Jitter) (l m : Nat) (quiet : Bool) : Jitter :=
  if j.state = .playing ∨ j.state = .concealing ∨ j.state = .silent then
    let d := j.depth m
    let t : Int := j.targetMs * 48
    if !j.held.isEmpty ∧ d < t then { j.stretch (min 24 (Config.stretch l m) : Nat) with highSince := none }
    else if t + 240 ≤ d then
      match j.highSince with
      | none => { j with highSince := some m }
      | some since =>
        if m < since + 24000 then j
        else if m % 480 = 0 ∧ quiet then j.cut (min 480 (d - t).toNat)
        else j.stretch (-(min 2 (Config.stretch l m) : Nat))
    else { j with highSince := none }
  else j

/-- The 48 samples at m, and the buffer behind them. -/
def Jitter.take48 (j : Jitter) (m : Nat) : Jitter × List Int :=
  let start := j.nextPlay - j.pcm.length
  let sample (k : Nat) : Int := let i := ((m + k : Nat) : Int) - start; if i < 0 then 0 else (j.pcm[i.toNat]?).getD 0
  ({ j with pcm := j.pcm.drop (((m + 48 : Nat) : Int) - start).toNat }, (List.range 48).map sample)

/-- One stitch tick of a jitter buffer: what it puts out over the 48 samples at m (05 R127). A buffer whose talker is not decoded follows its frames and puts out zeros; its decoder is released (R129). -/
def Jitter.tick (j : Jitter) (e : CodecEntry) (decode quiet : Bool) (l m : Nat) : Jitter × List Int :=
  let j := if decode then j else { j with dec := none, conv := [], pcm := [] }
  let j := (j.prime m).adapt l m quiet
  if j.state = .playing ∨ j.state = .concealing ∨ j.state = .silent then
    let j := j.produce e decode ((m + 48 : Nat) : Int) 100
    (if j.state = .concealing then { j with concealedMs := j.concealedMs + 1 } else j).take48 m
  else ({ j with pcm := [] }, List.replicate 48 0)

/-- The buffer is empty and IDLE (05 R127). -/
def Jitter.idle (j : Jitter) : Jitter :=
  { j with state := .idle, held := [], lastSeq := none, played := none, before := none, skipped := [], concealFrom := none, pcm := [], dec := none, conv := [] }

/-- The buffer under another conference's media time, d samples on (05 R146). -/
def Jitter.rebase (j : Jitter) (d : Int) : Jitter :=
  { j.shift d with
    levels := j.levels.map (fun p => (p.1 + d, p.2)), stats := j.stats.map (fun x => ((x.1 + d).toNat, x.2)),
    concealFrom := j.concealFrom.map (· + d), highSince := j.highSince.map (fun t => (t + d).toNat), before := j.before.map (fun q => { q with play := q.play + d }) }

/-! ### Gains (05 R144, R145) -/

/-- The gain and mute switch after every step taken. -/
def Gain.cur (g : Gain) : Int × Bool := (g.steps.getLast?).elim (g.applied, g.mute) (·.2)

/-- The gain and mute switch at a sample that has yet to be delivered. -/
def Gain.atSample (g : Gain) (t : Nat) : Int × Bool := ((g.steps.filter (fun x => decide (x.1 ≤ t))).getLast?).elim (g.applied, g.mute) (·.2)

/-- A gain point applied to a sample (05 R144). -/
def Gain.on (g : Gain) (t : Nat) (x : Int) : Int := if (g.atSample t).2 then 0 else applyGain (g.atSample t).1 x

/-- A new target takes effect at its boundary, sample t: stepping goes on from the gain applied then (05 R145). -/
def Gain.aim (g : Gain) (t : Nat) (target : Int) (mute : Bool) (timeoutMs : Nat) : Gain :=
  { g with target, muteTarget := mute, timeoutMs, due := if g.cur = (target, mute) then none else some (g.due.getD t) }

/-- The changes whose boundary has come at a sample (05 R485). -/
def Gain.settle (g : Gain) (n : Nat) : Gain :=
  { (g.next.filter (fun c => decide (c.1 ≤ n))).foldl (fun g c => g.aim c.1 c.2.1 c.2.2.1 c.2.2.2) g with next := g.next.filter (fun c => decide (n < c.1)) }

/-- One step at sample n: the mute switch whole, and at most 4 eighths; the next step is due at the sample after (05 R145). -/
def Gain.step (g : Gain) (n : Nat) : Gain :=
  let a := g.cur.1 + clampInt (-4) 4 (g.target - g.cur.1)
  { g with steps := g.steps ++ [(n, a, g.muteTarget)], due := if a = g.target then none else some (n + 1) }

/-- The samples before one are delivered. -/
def Gain.deliver (g : Gain) (stop : Nat) : Gain :=
  let v := g.atSample (stop - 1)
  { g.settle stop with applied := v.1, mute := v.2, steps := g.steps.filter (fun x => decide (stop ≤ x.1)) }

/-- A gain under another conference's media time, d samples on (05 R146). -/
def Gain.rebase (g : Gain) (d : Int) : Gain :=
  { g with steps := g.steps.map (fun x => ((x.1 + d).toNat, x.2)), due := g.due.map (fun t => (t + d).toNat), next := g.next.map (fun c => ((c.1 + d).toNat, c.2)) }

/-- A signal crosses zero at a sample, its predecessor given (05 R145). -/
def crosses (x prev : Int) : Bool := x == 0 || Int.sign x != Int.sign prev

/-! ### The chain of a leg (05 R143) -/

/-- The envelope has reached a threshold in eighths of a dBFS, −768..0. -/
def gateReaches (threshold : Int) (env : Nat) : Bool := decide (2 ^ 4960 ≤ env ^ 160 * 10 ^ (-threshold).toNat)

/-- The noise gate over one sample: open at once to ramp where the envelope reaches THRESHOLD, held for HOLD_MS after it falls below, then ramped back (05 R143). -/
def gateRun (c : ChainReq) (g : Gate) (x : Int) : Gate × Int :=
  let up := 48 * (if c.gateAttackMs = 0 then 2 else c.gateAttackMs.toNat)
  let down := 48 * (if c.gateReleaseMs = 0 then 150 else c.gateReleaseMs.toNat)
  let full := up * down
  let att := if g.full = full then g.att else g.att * full / max 1 g.full
  let env := max x.natAbs (min g.env (Config.release g.env))
  let reached := gateReaches c.gateThreshold.toInt env
  let g : Gate := {
    env, full,
    hold := if reached then 48 * c.gateHoldMs.toNat else g.hold - 1,
    att := if reached ∨ g.hold ≠ 0 then att - down else min full (att + up) }
  (g, if g.att = 0 then x else sat32 (Config.gated (if c.gateRange = 0 then 96 else c.gateRange.toNat) g.att full x))

/-- The AGC over the sample at t: it measures a window of 10 ms through which the gate is open, moves its gain toward TARGET less the level within its limits, and holds while the gate is closed (05 R143). -/
def agcRun (c : ChainReq) (opened : Bool) (t : Nat) (a : Agc) (x : Int) : Agc × Int :=
  let unit : Int := 1000000
  let pos := t % 480
  let gain := a.gain0 + (a.gain1 - a.gain0) * pos / 480
  let sumSq := if opened then a.sumSq + x.natAbs ^ 2 else a.sumSq
  let count := if opened then a.count + 1 else a.count
  let a : Agc :=
    if pos ≠ 479 then { a with sumSq, count }
    else
      let target : Int := if c.agcTarget = 0 then -160 else c.agcTarget.toInt
      let want := clampInt (-(8 * (c.agcMaxCutDb.toNat : Int)) * unit) (8 * (c.agcMaxGainDb.toNat : Int) * unit) ((target - meterRms sumSq) * unit)
      let fall := 480 * unit / (if c.agcAttackMs = 0 then 50 else (c.agcAttackMs.toNat : Int))
      let rise := 480 * unit / (if c.agcReleaseMs = 0 then 2000 else (c.agcReleaseMs.toNat : Int))
      { gain0 := a.gain1, gain1 := if count = 480 then a.gain1 + clampInt (-fall) rise (want - a.gain1) else a.gain1 }
  (a, if gain = 0 then x else sat32 (Config.scaled gain x))

/-- The equaliser over its bands; a band of type 0 is off (05 R143). -/
def eqRun (bands : List EqBand) (h : Vector (Int × Int × Int × Int) 5) (x : Int) : Vector (Int × Int × Int × Int) 5 × Int :=
  (List.finRange 5).foldl (fun (acc : Vector (Int × Int × Int × Int) 5 × Int) k =>
    match bands[k.val]? with
    | some b =>
      if b.type = 0 then acc
      else
        let y := eqBand (Config.eqCoef b) (acc.1.get k) acc.2
        (acc.1.set k (eqNext (acc.1.get k) acc.2 y), y)
    | none => acc) (h, x)

/-- A leg's parameter set is swapped whole; RESET_STATE resets gate and AGC (05 R143). A kernel that the set names first finds its state 0 (14 R374). -/
def LegSound.swap (d : LegSound) (q : ChainReq) : LegSound :=
  { d with chain := q, gate := if q.resetState then {} else d.gate, agc := if q.resetState then {} else d.agc, kernelBypass := if q.kernel = 0xFFFF then d.kernelBypass else false,
           kState := if q.kernel = d.chain.kernel then d.kState else [] }

/-- The swaps whose sample has come (05 R143, R485). -/
def LegSound.swapTo (d : LegSound) (t : Nat) : LegSound :=
  if d.chainNext.all (fun c => decide (t < c.1)) then d
  else { (d.chainNext.filter (fun c => decide (c.1 ≤ t))).foldl (fun d c => d.swap c.2) d with chainNext := d.chainNext.filter (fun c => decide (t < c.1)) }

/-- A leg's sample at t through stages 2 to 4 of its chain: gate, equaliser, AGC; BYPASS passes it unchanged (05 R143). -/
def chainRun (t : Nat) (d : LegSound) (x : Int) : LegSound × Int :=
  let c := d.chain
  if c.bypass then (d, x)
  else
    let g := if c.gateOn = 0 then (d.gate, x) else gateRun c d.gate x
    let e := eqRun c.bands d.eq g.2
    let a := if c.agcOn = 0 then (d.agc, e.2) else agcRun c (c.gateOn == 0 || g.1.att == 0) t d.agc e.2
    ({ d with gate := g.1, eq := e.1, agc := a.1 }, a.2)

/-- Slot 5 of a leg's chain over a tick's 48 samples: the kernel is called once, works on them in place and keeps its state. A call that faults, or reaches CYCLES first, leaves the samples as they were and its state window is discarded; the slot is bypassed from that tick on (14 R374, R377). -/
def kernelSlot (call : ChainReq → Option (KernelCall × Nat)) (d : LegSound) (xs : List Int) : LegSound × List Int :=
  match (if d.chain.bypass || d.kernelBypass then none else call d.chain) with
  | none => (d, xs)
  | some k =>
    let r := Config.kernelRun { k.1 with state := d.kState, samples := xs }
    let cause : U8 := if r.2.2.2.1 != 0 then r.2.2.2.1 else if k.2 ≤ r.2.2.1 then 1 else 0
    if cause = 0 then ({ d with kState := r.2.1, kUsed := r.2.2.1 }, xs.zipIdx.map (fun x => sat32 ((r.1[x.2]?).getD 0)))
    else ({ d with kernelBypass := true, kUsed := r.2.2.1, kFault := some (cause, r.2.2.2.2) }, xs)

/-- A meter over the 48 samples at m (05 R149). The last hundred windows are kept, the longest period of a meter event. -/
def Meter.run (k : Meter) (m : Nat) (xs : List Int) : Meter :=
  let k := { k with sumSq := xs.foldl (fun acc x => acc + x.natAbs ^ 2) k.sumSq, maxAbs := xs.foldl (fun acc x => max acc x.natAbs) k.maxAbs }
  if (m + 48) % 480 = 0 then { wins := ((m + 48, k.sumSq, k.maxAbs) :: k.wins).take 100 } else k

/-- What a leg gives over one tick: its state behind it, the input of its gain, and the samples behind the gain (05 R143). -/
structure LegTick where
  d : LegSound
  pre : List Int
  out : List Int

/-- The 48 samples of a leg at m from what its jitter buffer puts out; the samples of a missed tick fade from the last one to 0, and the next good tick fades in (05 R130, R143). -/
def legTick (call : ChainReq → Option (KernelCall × Nat)) (m : Nat) (xs : List Int) (d : LegSound) : LegTick :=
  if d.missed then
    let last := (d.out.getLast?).getD 0
    { d := { d.swapTo (m + 47) with resume := true, preLast := 0 }, pre := List.replicate 48 0, out := (List.range 48).map (fun k => crossfade (fadeW48 k) last 0) }
  else
    let r := xs.zipIdx.foldl (fun (acc : LegSound × List Int) x =>
      let y := chainRun (m + x.2) (acc.1.swapTo (m + x.2)) x.1
      (y.1, acc.2 ++ [y.2])) (d, [])
    let r := kernelSlot call r.1 r.2
    let ys := r.2.zipIdx.map (fun p => d.gainIn.on (m + p.2) p.1)
    { d := { r.1 with resume := false, preLast := (r.2.getLast?).getD 0 }, pre := r.2,
      out := if d.resume then ys.zipIdx.map (fun p => crossfade (fadeW48 p.2) 0 p.1) else ys }

/-! ### Mixes (05 R138 to R141, R147 to R152) -/

/-- A change of an input's presence at a sample: a crossfade whose old side is the one that runs (05 R147, R148). -/
def MixInput.change (i : MixInput) (t : Nat) (there : Bool) : MixInput := if i.present = there then i else { i with fades := i.fades ++ [(t, there)] }

/-- A contribution through the crossfades of its input at a media time (05 R147, R148). -/
def MixInput.shape (i : MixInput) (t : Nat) (x : Int) : Int :=
  i.fades.foldl (fun v f => if t < f.1 then v else crossfade (fadeW (t - f.1)) v (if f.2 then x else 0)) (if i.was then x else 0)

/-- Inputs of a mix before a sample: the crossfades that have ended are past (05 R147). -/
def settleInputs (stop : Nat) (l : Table MixInput) : Table MixInput :=
  (tmap l (fun _ i =>
    let past := i.fades.filter (fun f => decide (f.1 + 240 ≤ stop))
    { i with was := (past.getLast?).elim i.was (·.2), fades := i.fades.filter (fun f => decide (stop < f.1 + 240)), gain := i.gain.deliver stop })).filter (fun p => p.2.was || !p.2.fades.isEmpty)

/-- The sums of a mix's contributions past the 48 samples at m: after route gain and fade, one speaker left out for its mix-minus (05 R138, R141). -/
def mixSums (x m : Nat) (q : Mix) (sample : Nat → Nat → Int) (without : Option Nat) : List Int :=
  (List.range 48).map (fun k =>
    q.inputs.foldl (fun acc i =>
      if without = some i.1 then acc
      else
        let v := sample i.1 k
        acc + i.2.shape (m + k) (if 8192 ≤ x then i.2.gain.on (m + k) v else v)) 0)

/-- A mix's output from its sums before the tone, which its master meter reads (05 R141, R149). -/
def mixBares (m : Nat) (q : Mix) (sums : List Int) : List Int :=
  sums.zipIdx.map (fun p => let g := q.master.atSample (m + p.2); if g.2 then 0 else mixBare g.1 p.1)

/-- A mix's output: the tone is added last, and saturates there (05 R141, R151). -/
def mixOuts (m : Nat) (bares : List Int) (tone : Nat → Int) : List Int := bares.zipIdx.map (fun p => sat32 (p.1 + tone (m + p.2)))

/-- What a mix gives over one tick: sums, output before the tone, output. -/
structure MixTick where
  sums : List Int
  bare : List Int
  out : List Int

/-- The 48 samples of a mix's shared output at m; those of a missed tick fade from the last one to 0, and the next good tick fades in (05 R130, R141). -/
def mixTick (x m : Nat) (q : Mix) (tone : Nat → Int) (sample : Nat → Nat → Int) : MixTick :=
  let last : Int := ((q.out.getLast?).getD 0).toInt
  if q.missed then
    let ys := (List.range 48).map (fun k => crossfade (fadeW48 k) last 0)
    { sums := List.replicate 48 0, bare := ys, out := ys }
  else
    let sums := mixSums x m q sample none
    let bare := mixBares m q sums
    let out := mixOuts m bare tone
    { sums, bare, out := if q.resume then out.zipIdx.map (fun p => crossfade (fadeW48 p.2) 0 p.1) else out }

/-- A mix behind its tick at m (05 R142, R149); `now` numbers the tick in TB3's count. -/
def Mix.after (q : Mix) (m now : Nat) (r : MixTick) : Mix :=
  { q with
    out := r.out.map (BitVec.ofInt 32), outTick := some now, sumLast := (r.sums.getLast?).getD 0, meter := q.meter.run m r.bare,
    master := q.master.deliver (m + 48), inputs := settleInputs (m + 48) q.inputs, resume := q.missed, missed := false }

/-- Encoder settings whose boundary has come before the tick at m (05 R142). -/
def Mix.settings (q : Mix) (m : Nat) : Mix :=
  match q.encNext with
  | some (t, kbps, ms, fec, dtx) => if t ≤ m then { q with kbps, frameMs := ms, fec, dtx, encNext := none } else q
  | none => q

/-! ### Encodes (05 R122, R139, R142) -/

/-- Add the samples of a tick to an encode's frame. -/
def Enc.add (n : Enc) (xs : List Int) : Enc := { n with frame := n.frame ++ xs }

/-- Code the frame of an encode of a profile under a mix's settings: it is converted to the encoder's rate, a stereo encode has the same signal on both channels (05 R123, R131, R142). Answers the frame. -/
def Enc.code (n : Enc) (q : Mix) (p : Nat × Nat × Nat) : Enc × Bytes :=
  let rate := srcRate p.1 p.2.1
  let xs := n.frame.drop (n.frame.length - 48 * q.frameMs)
  let c := convertRun 48000 rate n.conv xs (xs.length * rate / 48000)
  let ys := if p.2.2 = 2 then c.1.flatMap (fun y => [y, y]) else c.1
  let r := Config.encode { codec := p.1, rate, channels := p.2.2, kbps := q.kbps, fec := q.fec, dtx := q.dtx } n.state ys
  ({ state := r.1, conv := c.2, frame := [] }, r.2)

/-- An encode over the 48 samples at m: it adds them to its frame, and codes the frame where it ends (05 R139). -/
def Enc.run (n : Enc) (q : Mix) (p : Nat × Nat × Nat) (m : Nat) (xs : List Int) : Enc × Option Bytes :=
  let n := n.add xs
  if (m + 48) % (48 * q.frameMs) = 0 then let r := n.code q p; (r.1, some r.2) else (n, none)

/-- Bytes of a frame on the wire around an RTP or RTCP packet of a leg: authentication tag, UDP, IP, Ethernet with FCS and VLAN tag. -/
def wireBytes (o : LegOffer) (packet : Nat) : Nat :=
  let tag := if o.security = 4 then 0 else if o.security = 3 then 10 else 16
  packet + tag + 8 + (if o.af = 6 then 40 else 20) + 18 + (if o.vlan = 0 then 0 else 4)

/-- Payload bytes of one frame of an encode (05 R122, R142); none: Opus DTX sends nothing. -/
def payloadBytes (q : Mix) (e : CodecEntry) (frame : Bytes) : Option Nat :=
  match e.codec.toNat with
  | 1 => let n := min 1275 frame.length; if n = 0 then (if q.dtx then none else some 1) else some n
  | 5 => some (e.clockHz.toNat * q.frameMs / 1000 * 2 * e.channels.toNat)
  | _ => some (8 * q.frameMs)

end Sys2Proof.Machine
end

