-- ==== Sys2Proof/Machine/Sound.lean ====
section
/-! DEFINITION. The sound path (05): speaker selection, the stitch tick's samples and encodes, gains, routes and meters over the conferences; and the mix commands. -/

namespace Sys2Proof.Machine

open Sys2Proof

namespace State

/-- A conference as a seam sees it: applied, or basted in the same seam (02 R50). -/
def confFor (s : State) (c : Nat) (seam : U16) : Option Conf :=
  (tget s.model.confs c).filter (fun q => q.basted.isNone || (seam != 0xFFFF && q.basted == some seam))

/-- A mix as a seam sees it. -/
def mixFor (s : State) (x : Nat) (seam : U16) : Option Mix :=
  (tget s.snd.mixes x).filter (fun q => q.basted.isNone || (seam != 0xFFFF && q.basted == some seam))

/-- Keystone's notice tone is active in a conference (05 R151, 16 R425). -/
def toneOn (s : State) (c : Nat) : Bool :=
  s.ks.rules.any (fun r => r.conf == c && r.tone.any (fun t => decide (t ≤ s.media c)) && r.toneEnd.all (fun t => decide (s.media c < t)))

/-- The tone is active on a mix: its conference's, or one that followed a listener here (05 R152). -/
def mixTone (s : State) (q : Mix) : Bool := (q.conf :: q.tones).any s.toneOn

/-- The tone's sample at a media time: its samples from the start of each repetition, then silence until the period is over (16 R425). -/
def toneAt (s : State) (c t : Nat) : Int :=
  match s.ks.rules.find? (fun r => r.conf == c && r.tone.any (fun a => decide (a ≤ t)) && r.toneEnd.all (fun e => decide (t < e))) with
  | some r =>
    let pos := (t - r.tone.getD 0) % (48000 * max 1 s.ks.policy.tonePeriodS)
    if pos < s.ks.policy.toneSamples then (Config.toneSample s.ks.policy.toneContent pos).toInt else 0
  | none => 0

/-- The number, in TB3's count, of the stitch tick of a conference that begins at a media time (04 R106). -/
def tickNo (s : State) (c m : Nat) : Nat := (tget s.model.confs c).elim 0 (fun q => q.origin.getD 0 / 1000000 + (m - q.startMedia) / 48)

/-- The media time at which a conference's stitch tick of a number begins. -/
def tickMedia (s : State) (c n : Nat) : Nat := (tget s.model.confs c).elim 0 (fun q => q.startMedia + 48 * (n - q.origin.getD 0 / 1000000))

/-- The first stitch tick after now: the boundary of a sound change applied now (05 R485). -/
def nextTick (s : State) (c : Nat) : Nat := roundUp (s.media c + 1) 48

end State

/-! ### Arrivals (05 R124 to R128) -/

/-- Code of a jitter buffer state (mix.source). -/
def jbCode : JbState → Nat
  | .idle => 0 | .priming => 1 | .playing => 2 | .silent => 3 | .concealing => 4 | .starved => 5

/-- Code of a selection state (mix.source). -/
def selCode : SelState → Nat
  | .quiet => 0 | .contending => 1 | .speaking => 2 | .releasing => 3

/-- A packet's duration, in samples at 48 kHz, is one that its codec's decoder accepts (Table 5-1). -/
def decodable (e : CodecEntry) (p : AudioPkt) : Bool := if e.codec = 1 then within 120 5760 p.ptimeSamples else within 48 2880 p.ptimeSamples

/-- One audio packet of a leg (05 R124 to R128); a HELD leg's buffer stays IDLE (R127). A packet that the decoder does not accept is discarded (DESIGN CHOICE, log 79). -/
def audioArrival (l : Nat) (p : AudioPkt) (s : State) : State :=
  match s.legLive l with
  | none => s
  | some q =>
    if q.state ≠ .active ∨ !LegOffer.sends q.offer 0 ∨ (tget s.model.confs q.conf).all (fun c => c.origin.isNone) then s
    else
      match LegOffer.recvOf q.offer 0 with
      | none => s
      | some e =>
        if p.pt ≠ e.pt then s.modLegSnd l (fun d => { d with jb := d.jb.skip p.seq })
        else if !decodable e p then s
        else s.modLegSnd l (fun d => { d with jb := d.jb.arrive (s.arrivalMedia l p.seq q.conf) e.clockHz.toNat p })

/-- 80 ms of continuous concealment (05 R127). -/
def concealLimit (l : Nat) (s : State) : State :=
  s.modLegSnd l (fun d =>
    if d.jb.state = .concealing ∧ d.jb.concealFrom.any (fun a => decide (a + 3840 ≤ (s.media (s.confOfLeg l) : Int))) then
      { d with jb := { d.jb with state := .starved, held := [], pcm := [], concealFrom := none } }
    else d)

/-! ### The samples of a tick (05 R130, R138 to R141, R147) -/

namespace State

/-- The leg is an input of a further mix, or of a deleted one that still fades: it is decoded for it (05 R140). -/
def feedsMix (s : State) (l : Nat) : Bool :=
  s.snd.mixes.any (fun p => decide (8192 ≤ p.1) && thas p.2.inputs l) || s.snd.gone.any (fun p => thas p.2.1.inputs l)

/-- A leg's chain runs: the leg is in the decoded set, or an input of a further mix (05 R135, R140, R143). -/
def decodes (s : State) (l : Nat) (q : Leg) (d : LegSound) : Bool := d.decoded || (LegOffer.sends q.offer 0 && s.feedsMix l)

/-- Address of a kernel's constants within the data window (14 R374, R375). -/
def constAt (s : State) (k : Nat) : Nat := 0x18000 + total (s.disp.kernels.filter (fun p => decide (p.1 < k))) (fun p => p.2.req.constBytes.toNat)

/-- The call that a leg's chain makes at m, with the kernel's CYCLES: its entry registers and data window but for state and samples (14 R374). -/
def kernelCall (s : State) (l m : Nat) (c : ChainReq) : Option (KernelCall × Nat) :=
  (tget s.disp.kernels c.kernel.toNat).map (fun k =>
    ({ code := k.req.code, entry := k.req.entry.toNat, consts := s.disp.kernels.flatMap (fun p => p.2.req.consts), constAt := s.constAt c.kernel.toNat, state := [], samples := [],
       param := c.param, media := BitVec.ofNat 32 m, leg := BitVec.ofNat 16 l }, k.req.cycles.toNat))

/-- What a leg gives over a tick, by the tick's number: delivered, or computed from its jitter buffer through its chain and gain (05 R127, R129, R143). -/
def legAt (s : State) (n l : Nat) : Option LegTick :=
  match tget s.snd.legs l, s.legLive l with
  | some d, some q =>
    if d.outTick = some n then some { d, pre := [], out := d.out }
    else
      let m := s.tickMedia q.conf n
      let idle (d : LegSound) : LegTick := { d := { d.swapTo (m + 47) with preLast := 0, resume := false }, pre := List.replicate 48 0, out := List.replicate 48 0 }
      match LegOffer.recvOf q.offer 0 with
      | none => some (idle d)
      | some e =>
        let decode := s.decodes l q d
        let quiet := decide (d.level < (tget s.model.confs q.conf).elim (-50) (·.threshold))
        let r := d.jb.tick e decode quiet l m
        let d := { d with jb := r.1 }
        some (if decode then legTick (s.kernelCall l m) m r.2 d else idle d)
  | _, _ => none

/-- A leg's sample of a tick, from those already computed. -/
def sampleAt (s : State) (legs : Table LegTick) (n l k : Nat) : Int :=
  match tget legs l with
  | some r => (r.out[k]?).getD 0
  | none => ((s.legAt n l).elim 0 (fun r => (r.out[k]?).getD 0))

/-- The tones injected into a mix, at sample k of a tick (05 R151, R152). -/
def toneOf (s : State) (n : Nat) (q : Mix) (k : Nat) : Int := (q.conf :: q.tones).foldl (fun acc c => acc + s.toneAt c (s.tickMedia c n + k)) 0

/-- What a mix gives over a tick, by the tick's number: delivered, or computed from its inputs (05 R141). -/
def mixAt (s : State) (legs : Table LegTick) (n x : Nat) (q : Mix) : MixTick :=
  if q.outTick = some n then { sums := [], bare := [], out := q.out.map BitVec.toInt }
  else
    let m := s.tickMedia q.conf n
    mixTick x m q (fun t => s.toneOf n q (t - m)) (s.sampleAt legs n)

/-- A speaker's mix-minus over a tick: every input of the mix but its own (05 R138, R141), replaced like every signal of a missed tick (R130). -/
def minusAt (s : State) (legs : Table LegTick) (n x : Nat) (q : Mix) (l : Nat) (last : Int) : List Int :=
  let m := s.tickMedia q.conf n
  if q.missed then (List.range 48).map (fun k => crossfade (fadeW48 k) last 0)
  else
    let xs := mixOuts m (mixBares m q (mixSums x m q (s.sampleAt legs n) (some l))) (fun t => s.toneOf n q (t - m))
    if q.resume then xs.zipIdx.map (fun p => crossfade (fadeW48 p.2) 0 p.1) else xs

/-- A mix by number, a deleted one included while listeners fade from it (05 R147). -/
def mixOf (s : State) (x : Nat) : Option Mix := match tget s.snd.mixes x with | some q => some q | none => (tget s.snd.gone x).map (·.1)

end State

/-- What a stitch tick delivers: its number, and the legs and mixes computed for it. -/
structure TickView where
  n : Nat
  legs : Table LegTick
  mixes : Table MixTick

namespace State

/-- What a leg hears of a mix over a tick: the shared output, or of a main mix that it speaks in every other speaker (05 R138). -/
def streamOf (s : State) (v : TickView) (l : Nat) (d : LegSound) (x : Nat) : List Int :=
  match s.mixOf x with
  | none => List.replicate 48 0
  | some q =>
    if x < 8192 ∧ thas q.inputs l ∧ q.outTick ≠ some v.n then s.minusAt v.legs v.n x q l d.heardLast
    else match tget v.mixes x with
      | some r => r.out
      | none => (s.mixAt v.legs v.n x q).out

/-- What a leg hears over the tick at m: its mix, through the crossfades that run on its route, each from the one before it (05 R147, R148); where its encode missed the tick, the signal fades out, and at the next good one in (R130). -/
def heardAt (s : State) (v : TickView) (m l : Nat) (d : LegSound) : List Int :=
  let first := s.streamOf v l d ((d.listenFades.head?).elim d.listen (·.old))
  let xs := d.listenFades.foldl (fun xs f =>
    let new := s.streamOf v l d f.new
    xs.zipIdx.map (fun p => if m + p.2 < f.start then p.1 else crossfade (fadeW (m + p.2 - f.start)) p.1 ((new[p.2]?).getD 0))) first
  if d.encLate then (List.range 48).map (fun k => crossfade (fadeW48 k) d.heardLast 0)
  else if d.encResume then xs.zipIdx.map (fun p => crossfade (fadeW48 p.2) 0 p.1) else xs

end State

/-- The leg has its own encode over the tick at m: of its mix-minus, from P to P + 960 after it leaves the speakers, or of a crossfade and until it joins the new shared encode (05 R139, R147). -/
def LegSound.ownsEncode (d : LegSound) (conf m : Nat) : Bool :=
  (d.listen == conf && decide (d.minusFrom ≤ m) && (d.minus || d.minusUntil.any (fun u => decide (m < u)))) ||
  d.listenFades.any (fun f => decide (f.start < m + 48)) || d.ownUntil.any (fun u => decide (m < u))

/-- A leg's listen mix changes at sample t, with a crossfade; its own encode lasts to the first multiple of 960 at or after T + 240 (05 R147). -/
def LegSound.listenTo (d : LegSound) (x t : Nat) : LegSound :=
  if d.listen = x then { d with listenNext := none }
  else { d with listen := x, listenNext := none, listenFades := d.listenFades ++ [{ start := t, old := d.listen, new := x }], ownUntil := some (roundUp (t + 240) 960) }

/-- A leg behind the tick at m: its meter, its gain, what it heard, and a listen change that waited for the end of a crossfade (05 R145, R148, R149). -/
def LegSound.after (d : LegSound) (m n : Nat) (out heard : List Int) (own : Option Enc) : LegSound :=
  let d := { d with
    outTick := some n, out, meter := d.meter.run m out, missed := false, gainIn := d.gainIn.deliver (m + 48), heardLast := (heard.getLast?).getD 0,
    encResume := d.encLate, encLate := false, own, listenFades := d.listenFades.filter (fun f => decide (m + 48 < f.start + 240)),
    ownUntil := d.ownUntil.filter (fun u => decide (m + 48 < u)), minusUntil := d.minusUntil.filter (fun u => d.minus || decide (m + 48 < u)) }
  match d.listenNext with
  | some x => if d.listenFades.isEmpty then d.listenTo x (m + 48) else d
  | none => d

namespace State

/-- Send a packet of a leg through its transmit pipeline to its queue or level (10 R250, R270): slot kind 0 RTP, 2 RTCP. -/
def sendPacket (s : State) (l : Nat) (kind : Nat) (level : Option (Fin 8)) (packet : Nat) (ssrc : U32) (seq : U16) : State :=
  match tget s.model.legs l with
  | none => s
  | some q =>
    let (s, ok) := if q.offer.security = 4 then (s, true)
      else s.cipher { slot := 4 * l + kind, leg := l, received := false, ssrc, seq, encLength := packet - 12, authOk := true, authPrevOk := false }
    if ok then s.enqueue { length := wireBytes q.offer packet, level, leg := l, iface := q.offer.port, nextHopResolved := true } else s

/-- One audio frame of a mix for a listening leg (05 R138, R139, R142). -/
def sendAudio (s : State) (x : Mix) (l : Nat) (frame : Bytes) : State :=
  match s.legLive l, tget s.snd.legs l with
  | some q, some d =>
    match LegOffer.sendOf q.offer 0 with
    | some e =>
      if q.state ≠ .active then s
      else
        match payloadBytes x e frame with
        | some n => (s.sendPacket l 0 (some 3) (12 + n) d.ssrc d.txSeq).modLegSnd l (fun d => { d with txSeq := d.txSeq + 1 })
        | none => s
    | none => s
  | _, _ => s

/-- The live legs of a conference that have sound. -/
def soundLegs (s : State) (c : Nat) : List Nat := (s.snd.legs.filter (fun p => (s.legLive p.1).any (fun q => q.conf == c))).map (·.1)

/-- The mixes of a conference. -/
def liveMixes (s : State) (c : Nat) : List (Nat × Mix) := s.snd.mixes.filter (fun p => p.2.conf == c && p.2.basted.isNone)

/-- A leg's profile (04 R118). -/
def profileOf (s : State) (l : Nat) : Option (Nat × Nat × Nat) := (s.legLive l).bind (fun q => LegOffer.audioProfile q.offer)

/-- The shared encodes of a conference: one per profile on its main mix, and one per profile of the listeners of each further mix (05 R138, R140; 04 R118). -/
def sharedKeys (s : State) (c : Nat) : List (Nat × Nat × Nat × Nat) :=
  ((s.soundLegs c).flatMap (fun l => match s.profileOf l, tget s.snd.legs l with
    | some p, some d => [(c, p), (d.listen, p)]
    | _, _ => [])).eraseDups

/-- A shared encode's state. -/
def sharedEnc (s : State) (k : Nat × Nat × Nat × Nat) : Enc := ((s.snd.shared.find? (fun p => p.1 == k)).map (·.2)).getD {}

/-- What a shared encode codes over the tick at m: what the first leg hears that has no encode of its own, else the mix (05 R138). -/
def sharedInput (s : State) (c m : Nat) (heard : Table (List Int)) (v : TickView) (k : Nat × Nat × Nat × Nat) : List Int :=
  match (s.soundLegs c).find? (fun l => s.profileOf l == some k.2 && (tget s.snd.legs l).any (fun d => d.listen == k.1 && !d.ownsEncode c m)) with
  | some l => (tget heard l).getD []
  | none => (tget v.mixes k.1).elim (List.replicate 48 0) (·.out)

/-- A leg's own encode over the tick at m: it starts from a copy of the shared encode that the leg leaves (05 R139, R147). -/
def ownRun (s : State) (c m l : Nat) (d : LegSound) (heard : List Int) : Option (Enc × Option Bytes) :=
  match s.profileOf l, s.mixOf d.listen with
  | some p, some q =>
    if d.ownsEncode c m then some ((d.own.getD (s.sharedEnc ((d.listenFades.head?).elim d.listen (·.old), p))).run q p m heard) else none
  | _, _ => none

/-- The samples of the tick of a conference at media time m are delivered: jitter buffers and chains, mixes, what every leg hears, and the encodes (05 R127, R130, R138 to R149). -/
def stitchSound (s : State) (c m : Nat) : State :=
  let n := s.tickNo c m
  let s := (s.liveMixes c).foldl (fun s p => s.modMix p.1 (fun q => q.settings m)) s
  let ids := s.soundLegs c
  let legs := ids.filterMap (fun l => (s.legAt n l).map (fun r => (l, r)))
  let all := s.liveMixes c ++ (s.snd.gone.filter (fun p => p.2.1.conf == c)).map (fun p => (p.1, p.2.1))
  let v : TickView := { n, legs, mixes := all.map (fun p => (p.1, s.mixAt legs n p.1 p.2)) }
  let heard := ids.filterMap (fun l => (tget s.snd.legs l).map (fun d => (l, s.heardAt v m l d)))
  let own := ids.filterMap (fun l => (tget s.snd.legs l).bind (fun d => (s.ownRun c m l d ((tget heard l).getD [])).map (fun r => (l, r))))
  let shared : List ((Nat × Nat × Nat × Nat) × Enc × Option Bytes) := (s.sharedKeys c).filterMap (fun k => (tget s.snd.mixes k.1).map (fun q => (k, (s.sharedEnc k).run q k.2 m (s.sharedInput c m heard v k))))
  let frameOf (l : Nat) : Option (Mix × Bytes) :=
    match tget s.snd.legs l, s.profileOf l with
    | some d, some p =>
      (s.mixOf d.listen).bind (fun q =>
        (match (tget own l : Option (Enc × Option Bytes)) with
          | some r => r.2
          | none => (shared.find? (fun (r : (Nat × Nat × Nat × Nat) × Enc × Option Bytes) => r.1 == (d.listen, p))).bind (·.2.2)).map (fun b => (q, b)))
    | _, _ => none
  let frames := ids.filterMap (fun l => (frameOf l).map (fun f => (l, f)))
  let s := s.modSnd (fun d => { d with
    legs := tmap d.legs (fun l q => match tget legs l with
      | some r => LegSound.after r.d m n r.out ((tget heard l).getD []) ((tget own l).map (·.1))
      | none => q),
    mixes := tmap d.mixes (fun x q => match tget v.mixes x with
      | some r => { q.after m n r with tones := q.tones.filter s.toneOn }
      | none => q),
    gone := (tmap d.gone (fun x g => match tget v.mixes x with
      | some r => (g.1.after m n r, g.2)
      | none => g)).filter (fun p => p.2.1.conf != c || decide (m + 48 < p.2.2 + 240)),
    shared := d.shared.filter (fun p => !(all.any (fun x => x.1 == p.1.1))) ++ shared.map (fun r => (r.1, r.2.1)) })
  frames.foldl (fun s f => s.sendAudio f.2.1 f.1 f.2.2) s

end State

/-! ### Gains (05 R144, R145) -/

namespace State

/-- The gain of a point. -/
def gainAt (s : State) : GainPoint → Option Gain
  | .leg l => (tget s.snd.legs l).map (·.gainIn)
  | .master x => (tget s.snd.mixes x).map (·.master)
  | .route l x => (tget s.snd.mixes x).bind (fun m => (tget m.inputs l).map (·.gain))

/-- Change the gain of a point. -/
def modGain (s : State) (p : GainPoint) (f : Gain → Gain) : State :=
  match p with
  | .leg l => s.modLegSnd l (fun d => { d with gainIn := f d.gainIn })
  | .master x => s.modMix x (fun m => { m with master := f m.master })
  | .route l x => s.modMix x (fun m => { m with inputs := tmod m.inputs l (fun i => { i with gain := f i.gain }) })

/-- The conference in whose media time a gain point runs. -/
def gainConf (s : State) : GainPoint → Nat
  | .leg l => s.confOfLeg l
  | .master x | .route _ x => s.confOfMix x

/-- The input signal of a gain point over the running tick, with the sample before it: a leg's behind its kernel, a mix's sum, a route's leg (05 R141, R143). -/
def gainInput (s : State) (p : GainPoint) (n : Nat) : Int × List Int :=
  let out (l : Nat) : Int × List Int := (((tget s.snd.legs l).bind (fun d => d.out.getLast?)).getD 0, (s.legAt n l).elim [] (·.out))
  match p with
  | .leg l => ((tget s.snd.legs l).elim 0 (·.preLast), (s.legAt n l).elim [] (·.pre))
  | .master x => match tget s.snd.mixes x with
    | some q => (q.sumLast, (s.mixAt [] n x q).sums)
    | none => (0, [])
  | .route l _ => out l

/-- The input of a gain point crosses zero at a media sample of the running tick (05 R145). -/
def crossesAt (s : State) (p : GainPoint) (t : Nat) : Bool :=
  let c := s.gainConf p
  match tget s.snd.ticks c with
  | none => false
  | some k =>
    let r := s.gainInput p (s.tickNo c (48 * k))
    match (r.1 :: r.2)[t - 48 * k]?, r.2[t - 48 * k]? with
    | some prev, some x => decide (48 * k ≤ t) && crosses x prev
    | _, _ => false

end State

/-- The step of a gain that is due at the media time now, where its input crosses zero (05 R145). -/
def gainStep (p : GainPoint) (s : State) : State :=
  let t := s.media (s.gainConf p)
  let cross := s.crossesAt p t
  s.modGain p (fun g => let g := g.settle t; if cross ∧ g.due.any (fun u => decide (u ≤ t)) then g.step t else g)

/-- A step with no crossing applies TIMEOUT_MS after it fell due (05 R145). -/
def gainStepTimeout (p : GainPoint) (s : State) : State :=
  let t := s.media (s.gainConf p)
  s.modGain p (fun g => let g := g.settle t; if g.due.any (fun u => decide (u + 48 * g.timeoutMs ≤ t)) then g.step t else g)

/-! ### Speaker selection (05 R133 to R137) -/

/-- A talker speaks. -/
def LegSound.speaks (d : LegSound) : Bool := d.sel == .speaking || d.sel == .releasing

/-- Sum of L over the last 30 windows, −127 for the windows before the talker (05 R136). -/
def LegSound.sum30 (d : LegSound) : Int := ((d.levels ++ List.replicate (30 - d.levels.length) (-127)).take 30).foldl (· + ·) 0

/-- Loudest header level among the packets that play in the window that ends at sample e; none without a packet (05 R133). A packet plays in every window that its samples meet, as the worked example counts them (DEDUCED, log 79). -/
def Jitter.windowLevel (j : Jitter) (e : Nat) : Option (Option Nat) :=
  let inW := j.levels.filter (fun p => decide (p.1 < (e : Int)) && decide ((e : Int) - 480 < p.1 + p.2.1))
  if inW.isEmpty then none
  else some ((inW.filterMap (fun p => p.2.2)).foldl (fun acc v => some (match acc with | some a => min a v.toNat | none => v.toNat)) none)

/-- Sum of squares of a leg's meter in the window that ends at sample e (05 R149). -/
def LegSound.windowSq (d : LegSound) (e : Nat) : Nat := (d.meter.wins.find? (fun w => w.1 == e)).elim 0 (·.2.1)

/-- Level L of a talker in the window that ends at sample e, under the gain and mute switch applied at its last sample (05 R133). -/
def windowL (q : Leg) (d : LegSound) (e : Nat) : Int :=
  let g := d.gainIn.atSample (e - 1)
  if q.state ≠ .active ∨ g.2 then -127
  else
    match d.jb.windowLevel e with
    | none => -127
    | some v =>
      if q.offer.levels then (match v with | some n => clampLevel (-(n : Int) + g.1 / 8) | none => -127)
      else clampLevel (meterRms (d.windowSq e) / 8)

/-- Table 5-4 for one window (05 R134). Answers the new state, ATTACK, RELEASE, and whether a slot has come free. -/
def selStep (st : SelState) (attack release : Nat) (loud : Bool) : SelState × Nat × Nat × Bool :=
  match st, loud with
  | .quiet, true => (.contending, 1, release, false)
  | .quiet, false => (.quiet, attack, release, false)
  | .contending, false => (.quiet, 0, release, false)
  | .contending, true => (.contending, min 30 (attack + 1), release, false)
  | .speaking, false => (.releasing, attack, 1, false)
  | .speaking, true => (.speaking, attack, release, false)
  | .releasing, true => (.speaking, attack, 0, false)
  | .releasing, false => if 80 ≤ release + 1 then (.quiet, 0, 0, true) else (.releasing, attack, release + 1, false)

/-- The contender rank: ATTACK descending, L descending, leg index ascending (05 R135). -/
def rankBefore (a b : Nat × LegSound) : Bool :=
  decide (b.2.attack < a.2.attack) || (a.2.attack == b.2.attack && (decide (b.2.level < a.2.level) || (a.2.level == b.2.level && decide (a.1 ≤ b.1))))

namespace State

/-- The talkers of a conference with their sound state, in leg order. -/
def talkers (s : State) (c : Nat) : List (Nat × LegSound) :=
  s.snd.legs.filter (fun p => s.talker p.1 && s.confOfLeg p.1 == c)

/-- The leg carries header levels. -/
def levelled (s : State) (l : Nat) : Bool := (tget s.model.legs l).any (fun q => q.offer.levels)

/-- CONTENDING talkers in rank order (05 R135). -/
def contenders (s : State) (c : Nat) : List (Nat × LegSound) := sortBy rankBefore ((s.talkers c).filter (fun p => p.2.sel == .contending))

/-- The decoded set of a conference (05 R135). -/
def decodedSet (s : State) (c : Nat) : List Nat :=
  let two := (((s.contenders c).filter (fun p => s.levelled p.1)).take 2).map (·.1)
  ((s.talkers c).filter (fun p => p.2.speaks || !s.levelled p.1 || two.contains p.1)).map (·.1)

/-- Record a change of the speaker set decided at window sample e: it takes effect at P (05 R137). -/
def decide_ (s : State) (c : Nat) (incoming outgoing : Option Nat) (e : Nat) : State :=
  s.modSnd (fun d => { d with changes := d.changes ++ [{ conf := c, incoming, outgoing, p := roundUp e 960 }] })

/-- A speaker goes to QUIET with both counters at 0. -/
def quieten (s : State) (l : Nat) : State := s.modLegSnd l (fun d => { d with sel := .quiet, attack := 0, release := 0 })

/-- First pass over one talker (05 R136). -/
def firstPass (s : State) (c e : Nat) (l : Nat) : State :=
  match tget s.model.legs l, tget s.snd.legs l, tget s.model.confs c with
  | some q, some d, some k =>
    let lev := windowL q d e
    let r := selStep d.sel d.attack d.release (decide (k.threshold ≤ lev))
    let s := s.modLegSnd l (fun d => { d with
      level := lev, levels := (lev :: d.levels).take 30, sel := r.1, attack := r.2.1, release := r.2.2.1,
      jb := { d.jb with levels := d.jb.levels.filter (fun p => decide ((e : Int) < p.1 + p.2.1)) } })
    if r.2.2.2 then s.decide_ c none (some l) e else s
  | _, _, _ => s

/-- Speakers beyond N leave: the SPEAKING ones with the smallest sums, ties to the highest leg index (05 R137). -/
def lowerTo (s : State) (c e n : Nat) : Nat → State
  | 0 => s
  | fuel + 1 =>
    let sp := (s.talkers c).filter (fun p => p.2.speaks)
    if sp.length ≤ n then s
    else
      match sortBy (fun a b => decide (a.2.sum30 < b.2.sum30) || (a.2.sum30 == b.2.sum30 && decide (b.1 ≤ a.1))) (sp.filter (fun p => p.2.sel == .speaking)) with
      | [] => s
      | p :: _ => ((s.quieten p.1).decide_ c none (some p.1) e).lowerTo c e n fuel

/-- Promote one eligible contender at ATTACK 30 (05 R136). -/
def promote (s : State) (c e n margin : Nat) (l : Nat) : State :=
  match tget s.snd.legs l with
  | none => s
  | some d =>
    let sp := (s.talkers c).filter (fun p => p.2.speaks)
    let win (s : State) := s.modLegSnd l (fun d => { d with sel := .speaking, attack := 0 })
    if sp.length < n then (win s).decide_ c (some l) none e
    else
      match sortBy (fun a b => decide (b.2.release < a.2.release) || (a.2.release == b.2.release && decide (a.1 ≤ b.1))) (sp.filter (fun p => p.2.sel == .releasing)) with
      | r :: _ => (win (s.quieten r.1)).decide_ c (some l) (some r.1) e
      | [] =>
        match sortBy (fun a b => decide (a.2.sum30 < b.2.sum30) || (a.2.sum30 == b.2.sum30 && decide (b.1 ≤ a.1))) sp with
        | r :: _ => if r.2.sum30 + 30 * margin ≤ d.sum30 then (win (s.quieten r.1)).decide_ c (some l) (some r.1) e else s
        | [] => s

end State

/-- Window k of a conference, of the samples 480 k - 480 to 480 k - 1, which the last delivered stitch tick ended (05 R133 to R136). A talker that leaves the decoded set has its decoder released at once, be its fade still to come (R129, R137; log 79). -/
def speakerWindow (c k : Nat) (s : State) : State :=
  match tget s.model.confs c with
  | none => s
  | some q =>
    let e := 480 * k
    if k ≠ (tget s.snd.ticks c).getD 0 / 10 ∨ q.origin.isNone ∨ q.basted.isSome ∨ e ≤ q.startMedia ∨ (tget s.snd.windows c).any (fun w => decide (k ≤ w)) then s
    else
      let s := s.modSnd (fun d => { d with windows := tput d.windows c k })
      let s := (s.talkers c).foldl (fun s p => s.firstPass c e p.1) s
      let s := s.lowerTo c e q.speakers 9
      let set := s.decodedSet c
      let s := ((s.contenders c).filter (fun p => p.2.attack == 30 && set.contains p.1)).foldl (fun s p => s.promote c e q.speakers q.margin p.1) s
      let set := s.decodedSet c
      (s.talkers c).foldl (fun s p => s.modLegSnd p.1 (fun d => { d with decoded := set.contains p.1 })) s

namespace State

/-- A change of the speaker set takes effect: fades, mix-minus encodes and the speaker event (05 R137, R139). -/
def changeSpeakers (s : State) (g : SpeakerChg) : State :=
  let s := s.modMix g.conf (fun m =>
    let ins := match g.outgoing with
      | some l => tmod m.inputs l (fun i => i.change g.p false)
      | none => m.inputs
    { m with inputs := match g.incoming with
      | some l => tput ins l (((tget ins l).getD { was := false }).change g.p true)
      | none => ins })
  let s := match g.incoming with
    | some l => s.modLegSnd l (fun d => { d with minus := true, minusUntil := none, minusFrom := if d.ownsEncode g.conf g.p then d.minusFrom else g.p })
    | none => s
  let s := match g.outgoing with
    | some l => s.modLegSnd l (fun d => { d with minusUntil := some (g.p + 960) })
    | none => s
  let count := ((tget s.snd.mixes g.conf).elim [] (fun m => m.inputs.filter (fun i => MixInput.present i.2))).length
  s.raise 0x0480 St.ok (le 2 g.conf ++ le 2 (g.incoming.getD 0xFFFF) ++ le 2 (g.outgoing.getD 0xFFFF) ++ le 1 count ++ le 1 0 ++ le 8 g.p)

end State

/-- The changes of a conference whose P has come (05 R137). -/
def speakerChange (c : Nat) (s : State) : State :=
  let due (g : SpeakerChg) : Bool := g.conf == c && decide (g.p ≤ s.media c)
  let now := s.snd.changes.filter due
  (now.foldl (fun s g => s.changeSpeakers g) (s.modSnd (fun d => { d with changes := d.changes.filter (fun g => !due g) }))).fin

/-- At P + 960 an outgoing speaker switches to the shared encode (05 R139); the tick that ends there is still its own encode's. -/
def overlapEnd (c l : Nat) (s : State) : State :=
  s.modLegSnd l (fun d => if d.minusUntil.any (fun t => decide (t ≤ s.media c)) then { d with minus := false } else d)

/-! ### Meters (05 R150) -/

/-- Key of a metered object. -/
def meterKey (kind index : Nat) : Nat := kind * 65536 + index

/-- Peak hold over one window, in units of 1/200 dB: held value and the time left in ms (05 R150). -/
def holdPeak (holdMs decay : Nat) (held : Option (Int × Nat)) (peak : Int) : Int × Nat :=
  match held with
  | none => (peak * 25, holdMs)
  | some (h, t) =>
    if h ≤ peak * 25 then (peak * 25, holdMs)
    else if 10 < t then (h, t - 10)
    else (max (peak * 25) (h - 2 * decay), 0)

/-- A held peak rounded to the nearest eighth, ties toward +∞ (05 R150). -/
def peakEighths (h : Int) : Int := clampInt (-1024) 0 ((2 * h + 25) / 50)

/-- The windows of a metered object in the period of n windows that ends now, oldest first: sum of squares and largest magnitude (05 R149, R150). -/
def State.meterWins (s : State) (n : Nat) (q : MeterSet) : List (Nat × Nat) :=
  let wins := if q.kind = 0 then (tget s.snd.legs q.index).elim [] (·.meter.wins) else (tget s.snd.mixes q.index).elim [] (·.meter.wins)
  ((wins.take n).map (·.2)).reverse

namespace Mailbox

/-- Run the windows of a period through the peak holds. -/
def meterWindows (b : Mailbox) (wins : MeterSet → List (Nat × Nat)) : Mailbox :=
  { b with meterPeaks := b.meters.foldl (fun t q =>
      let k := meterKey q.kind.toNat q.index
      (wins q).foldl (fun t w => tput t k (holdPeak b.meterHoldMs b.meterDecay (tget t k) (meterPeak w.2))) t) b.meterPeaks }

/-- Entry of the meter event for one meter. -/
def meterEntry (b : Mailbox) (wins : MeterSet → List (Nat × Nat)) (q : MeterSet) : Bytes :=
  let rms := (wins q).foldl (fun acc w => max acc (meterRms w.1)) (-1024)
  let peak := match tget b.meterPeaks (meterKey q.kind.toNat q.index) with | some (h, _) => peakEighths h | none => -1024
  le 2 q.index ++ le 2 (q.kind.toNat + 32768) ++ leI 2 rms ++ leI 2 peak

end Mailbox

/-- The entries of a list in groups of three. -/
def threes {α : Type} : Nat → List α → List (List α)
  | 0, _ => []
  | n + 1, l => if l.isEmpty then [] else l.take 3 :: threes n (l.drop 3)

/-- The meter period of a mailbox that ends at the time `due` has ended: the meter events (05 R150). -/
def meterPeriod (m : Mbx) (due : Nat) (s : State) : State :=
  let b := s.box m
  if b.meters = [] ∨ b.meterDue ≠ some due ∨ s.clk < due then s
  else
    let ws := s.meterWins (b.meterPeriodMs / 10)
    let b := b.meterWindows ws
    let b := { b with meterDue := b.meterDue.map (fun t => t + b.meterPeriodMs * State.ticksPerMs) }
    let s := s.setBox m b
    ((threes b.meters.length b.meters).foldl (fun s g => s.raiseTo m 0x0481 St.ok (g.flatMap (b.meterEntry ws))) s).fin

/-! ### mix commands -/

/-- An empty parameter set: every stage off (05 R143). -/
def noChain : ChainReq :=
  { resetState := false, bypass := false, bands := List.replicate 5 { type := 0, freqHz := 0, gain := 0, q := 0 }, gateOn := 0, gateRange := 0, gateThreshold := 0,
    gateAttackMs := 0, gateHoldMs := 0, gateReleaseMs := 0, agcOn := 0, agcMaxGainDb := 12, agcTarget := 0, agcAttackMs := 0, agcReleaseMs := 0, agcMaxCutDb := 12,
    kernel := 0xFFFF, param := 0 }

/-- Create a mix. -/
def doMixCreate (conf x : Nat) (master : Int) (basted : Option U16) (s : State) : State :=
  s.modSnd (fun d => { d with mixes := tput d.mixes x { conf, master := { applied := master, target := master }, basted } })

/-- The further mix a create names, or the lowest free one. -/
def mixIndex (mix : U16) (s : State) : Option Nat :=
  if mix = 0xFFFF then lowest (fun x => !thas s.snd.mixes x) 8192 8192 else some mix.toNat

/-- mix.create (05 R140). -/
def rowMixCreate (conf mix master : U16) : Row where
  opcode := 0x0400
  layout := fun _ => [(0, 0, 16, conf.toNat), (2, 0, 16, mix.toNat), (4, 0, 16, master.toNat)]
  checks := fun c s =>
    let x := mixIndex mix s
    { fields := decide (conf.toNat < 8192) && (mix == 0xFFFF || within 8192 16383 mix.toNat) && gainOk master,
      objects := [need (s.confFor conf.toNat c.hdr.seam).isSome St.noObject],
      scope := some conf.toNat,
      items := match x with | some k => [.mix k] | none => [],
      busy := [need (mix == 0xFFFF || !thas s.snd.mixes mix.toNat) St.busy, s.stopIf (doMixCreate conf.toNat (x.getD 16384) 0 none s)],
      rest := [s.admission (doMixCreate conf.toNat (x.getD 16384) 0 none s)] }
  effect := fun _ s => match mixIndex mix s with
    | some x => (doMixCreate conf.toNat x master.toInt none s, Rep.ok (le 2 x))
    | none => (s, Rep.fail St.noCapacity [7, 1, 0])
  baste := fun c s => match mixIndex mix s with
    | some x => (doMixCreate conf.toNat x master.toInt (some c.hdr.seam) s, Rep.ok (le 2 x), some (.mixCreate 0 conf mix master, x))
    | none => (s, Rep.fail St.noCapacity [7, 1, 0], none)

/-- Delete a further mix at sample t: its listeners return to the main mix with a crossfade, for which it goes on under a number of its own (05 mix.delete, R147). -/
def doMixDelete (t x : Nat) (s : State) : State :=
  match tget s.snd.mixes x with
  | none => s
  | some mix =>
    let gone := 65536 + t * 16384 + x
    let name (y : Nat) : Nat := if y = x then gone else y
    s.modSnd (fun d => { d with
      mixes := tdel d.mixes x, gone := tput d.gone gone (mix, t), shared := d.shared.map (fun p => ((name p.1.1, p.1.2), p.2)),
      legs := tmap d.legs (fun _ q =>
        let q := { q with listen := name q.listen, listenNext := q.listenNext.filter (· != x), listenFades := q.listenFades.map (fun f => { f with old := name f.old, new := name f.new }) }
        if q.listen = gone then q.listenTo mix.conf t else q) })

/-- mix.delete (05 R152). -/
def rowMixDelete (mix : U16) : Row where
  opcode := 0x0401
  layout := fun _ => [(0, 0, 16, mix.toNat)]
  checks := fun c s =>
    { fields := within 8192 16383 mix.toNat,
      objects := [need (s.mixFor mix.toNat c.hdr.seam).isSome St.noObject],
      scope := some (s.confOfMix mix.toNat),
      items := [.mix mix.toNat],
      also := s.heldItems (fun i => match i with
        | .route _ x | .gainRoute _ x | .gainMaster x | .mixEncode x => x == mix.toNat
        | .listen l => s.listenOf l false == mix.toNat || s.listenOf l true == mix.toNat
        | _ => false),
      rest := [need (!(tget s.snd.mixes mix.toNat).any s.mixTone) St.isProtected] }
  effect := fun _ s => (doMixDelete (s.nextTick (s.confOfMix mix.toNat)) mix.toNat s, Rep.ok)
  baste := fun _ s => (s, Rep.ok, some (.mixDelete 0 mix, 0))

/-- A leg that leaves a mix for another takes the tones with it that are active there (05 R152). -/
def State.carryTones (s : State) (old new : Nat) : State :=
  match tget s.snd.mixes old with
  | none => s
  | some q => s.modMix new (fun y => { y with tones := y.tones ++ (q.conf :: q.tones).filter (fun c => s.toneOn c && c != y.conf && !y.tones.contains c) })

/-- The boundary of a change of an input: sample T, or for a change applied now on a route that is crossfading the first stitch tick at or after the crossfade's end (05 R148). -/
def MixInput.boundary (i : MixInput) (now : Bool) (t : Nat) : Nat := if now then i.fades.foldl (fun t f => max t (roundUp (f.1 + 240) 48)) t else t

/-- Change a route at sample t, the first stitch tick or T of a seam; a listen change applied now waits in the leg for the tick, and for the end of a crossfade (05 R146 to R148, R485). -/
def doMixRoute (now : Bool) (t l mode x : Nat) (gain : Int) (s : State) : State :=
  if mode = 0 then
    (s.carryTones (s.listenOf l false) x).modLegSnd l (fun d => if now then { d with listenNext := some x } else d.listenTo x t)
  else s.modMix x (fun q =>
    let i := (tget q.inputs l).getD { gain := { applied := gain, target := gain }, was := false }
    let t := i.boundary now t
    if mode = 1 then { q with inputs := tput q.inputs l { i.change t true with gain := if thas q.inputs l then { i.gain with next := i.gain.next ++ [(t, gain, i.gain.muteTarget, i.gain.timeoutMs)] } else i.gain } }
    else { q with inputs := tmod q.inputs l (fun i => i.change t false) })

/-- The items of a route change: a new input is its presence and its gain (02 R48). -/
def routeItems (l mode x : Nat) : List Item :=
  if mode = 0 then [.listen l] else if mode = 1 then [.route l x, .gainRoute l x] else [.route l x]

/-- The state with one more pending basted command, for its charge (04 R118). -/
def State.withPending (s : State) (i : Instr) : State :=
  let cmd : SeamCmd := { cell := 0, mbx := 0, version := 0x32, instr := i }
  { s with seams := { s.seams with list := s.seams.list ++ [{ id := 0xFFFF, owner := .pattern, scope := none, openUntil := 0, cmds := [cmd] }] } }

/-- mix.route (05 R140, R146). -/
def rowMixRoute (m : Mbx) (leg : U16) (mode : U8) (mix gain : U16) : Row where
  opcode := 0x0402
  layout := fun _ => [(0, 0, 16, leg.toNat), (2, 0, 8, mode.toNat), (4, 0, 16, mix.toNat)] ++ (if mode = 1 then [(6, 0, 16, gain.toNat)] else [])
  checks := fun c s =>
    let l := leg.toNat
    let x := mix.toNat
    let ins := s.mixInputs x true
    let after := s.withPending (.mixRoute m leg mode mix gain)
    { fields := decide (mode.toNat ≤ 2) && decide (x < 16384) && (mode == 0 || decide (8192 ≤ x)) && (mode != 1 || gainOk gain),
      objects := [need (s.legFor l c.hdr.seam).isSome St.noObject, need (s.mixFor x c.hdr.seam).isSome St.noObject,
                  need (mode != 2 || ins.contains l) St.noObject,
                  need (s.confOfMix x == s.confOfLeg l) St.badField,
                  need (x < 8192 || !((mode == 0 && ins.contains l) || (mode == 1 && s.listenOf l true == x))) St.badField],
      scope := some (s.confOfLeg l),
      items := routeItems l mode.toNat x,
      also := [.mix x],
      busy := [s.stopIf after],
      rest := [s.admission after (s.isEmergency l)],
      last := [need (mode != 1 || ins.contains l || decide (ins.length < 16)) St.refused [16]] }
  effect := fun _ s => (s.charging leg.toNat (doMixRoute true (s.nextTick (s.confOfLeg leg.toNat)) leg.toNat mode.toNat mix.toNat gain.toInt), Rep.ok)
  baste := fun _ s => (s.chargeLeg leg.toNat (s.withPending (.mixRoute m leg mode mix gain)), Rep.ok, some (.mixRoute m leg mode mix gain, 0))

/-- The point a mix.gain names. -/
def GainReq_point (q : GainReq) : GainPoint :=
  match q.kind.toNat with
  | 0 => .leg q.leg.toNat
  | 1 => .master q.mix.toNat
  | _ => .route q.leg.toNat q.mix.toNat

/-- Target, mute and timeout a mix.gain asks for over a gain (05 R144, R145). -/
def gainAfter (q : GainReq) (v14 : Bool) (g : Gain) : Int × Bool × Nat :=
  (if q.gain = 0x7FFF then (g.next.getLast?).elim g.target (·.2.1) else q.gain.toInt,
   if q.muteSet then q.mute else (g.next.getLast?).elim g.muteTarget (·.2.2.1),
   if v14 ∨ q.timeoutMs = 0 then 20 else q.timeoutMs.toNat)

/-- Set a gain target that takes effect at sample t (05 R145, R485). -/
def doMixGain (t : Nat) (v14 : Bool) (q : GainReq) (s : State) : State := s.modGain (GainReq_point q) (fun g => { g with next := g.next ++ [(t, gainAfter q v14 g)] })

/-- mix.gain (05 R145). -/
def rowMixGain (m : Mbx) (q : GainReq) : Row where
  opcode := 0x0403
  layout := fun v => [(0, 0, 8, q.kind.toNat), (1, 0, 1, bit q.muteSet), (1, 1, 1, bit q.mute), (2, 0, 16, q.leg.toNat), (4, 0, 16, q.mix.toNat), (6, 0, 16, q.gain.toNat)] ++
    (if v = 0x14 then [] else [(8, 0, 8, q.timeoutMs.toNat)])
  checks := fun c s =>
    let l := q.leg.toNat
    let x := q.mix.toNat
    let leg := need (s.legFor l c.hdr.seam).isSome St.noObject
    let mix := need (s.mixFor x c.hdr.seam).isSome St.noObject
    { fields := decide (q.kind.toNat ≤ 2) && (q.gain == 0x7FFF || gainOk q.gain) && (c.hdr.version == 0x14 || decide (q.timeoutMs.toNat ≤ 100)) && (q.kind == 0 || decide (x < 16384)) && (q.kind != 2 || decide (8192 ≤ x)),
      objects := match q.kind.toNat with
        | 0 => [leg]
        | 1 => [mix]
        | _ => [leg, mix, need ((s.mixInputs x (c.hdr.seam != 0xFFFF)).contains l) St.noObject],
      scope := some (if q.kind = 1 then s.confOfMix x else s.confOfLeg l),
      items := match q.kind.toNat with
        | 0 => [.gainIn l]
        | 1 => [.gainMaster x]
        | _ => [.gainRoute l x],
      also := if q.kind = 0 then [] else [.mix x] }
  effect := fun c s =>
    let t := doMixGain (s.nextTick (s.gainConf (GainReq_point q))) (c.hdr.version == 0x14) q s
    let g := (s.gainAt (GainReq_point q)).getD {}
    (t, Rep.ok (leI 2 g.cur.1 ++ leI 2 (gainAfter q false g).1))
  baste := fun c s =>
    let g := (s.gainAt (GainReq_point q)).getD {}
    (s, Rep.ok (leI 2 g.cur.1 ++ leI 2 (gainAfter q false g).1), some (.mixGain m (if c.hdr.version = 0x14 then { q with timeoutMs := 0 } else q), 0))

/-- The range checks of a parameter set (05 mix.chain). -/
def chainOk (q : ChainReq) : Bool :=
  q.bands.length == 5 &&
  q.bands.all (fun b => decide (b.type.toNat ≤ 5) && (b.type == 0 || (within 20 20000 b.freqHz.toNat && within 10 2000 b.q.toNat &&
    (decide (4 ≤ b.type.toNat) || (decide (-192 ≤ b.gain.toInt) && decide (b.gain.toInt ≤ 192)))))) &&
  decide (q.gateOn.toNat ≤ 1) && decide (q.gateRange.toNat ≤ 96) && decide (-768 ≤ q.gateThreshold.toInt) && decide (q.gateThreshold.toInt ≤ 0) &&
  withinOr 0 1 50 q.gateAttackMs.toNat && decide (q.gateHoldMs.toNat ≤ 1000) && withinOr 0 10 2000 q.gateReleaseMs.toNat &&
  decide (q.agcOn.toNat ≤ 1) && decide (q.agcMaxGainDb.toNat ≤ 30) && (q.agcTarget == 0 || (decide (-320 ≤ q.agcTarget.toInt) && decide (q.agcTarget.toInt ≤ -48))) &&
  withinOr 0 10 1000 q.agcAttackMs.toNat && withinOr 0 100 10000 q.agcReleaseMs.toNat && decide (q.agcMaxCutDb.toNat ≤ 30)

/-- A parameter set that is swapped in at sample t (05 R143, R485). -/
def doMixChain (t l : Nat) (q : ChainReq) (s : State) : State := s.modLegSnd l (fun d => { d with chainNext := d.chainNext ++ [(t, q)], pendKernel := none })

/-- The fields of a parameter set in mix.chain (05 mix.chain). -/
def chainFields (q : ChainReq) : List (Nat × Nat × Nat × Nat) :=
  [(2, 0, 1, bit q.resetState), (2, 1, 1, bit q.bypass)] ++
  q.bands.zipIdx.flatMap (fun p => [(0x04 + 8 * p.2, 0, 8, p.1.type.toNat), (0x06 + 8 * p.2, 0, 16, p.1.freqHz.toNat), (0x08 + 8 * p.2, 0, 16, p.1.gain.toNat), (0x0A + 8 * p.2, 0, 16, p.1.q.toNat)]) ++
  [(0x2C, 0, 8, q.gateOn.toNat), (0x2D, 0, 8, q.gateRange.toNat), (0x2E, 0, 16, q.gateThreshold.toNat), (0x30, 0, 16, q.gateAttackMs.toNat), (0x32, 0, 16, q.gateHoldMs.toNat),
   (0x34, 0, 16, q.gateReleaseMs.toNat), (0x38, 0, 8, q.agcOn.toNat), (0x39, 0, 8, q.agcMaxGainDb.toNat), (0x3A, 0, 16, q.agcTarget.toNat), (0x3C, 0, 16, q.agcAttackMs.toNat),
   (0x3E, 0, 16, q.agcReleaseMs.toNat), (0x40, 0, 8, q.agcMaxCutDb.toNat), (0x44, 0, 16, q.kernel.toNat), (0x48, 0, 32, q.param.toNat)]

/-- mix.chain (05 R143). -/
def rowMixChain (m : Mbx) (leg : U16) (q : ChainReq) : Row where
  opcode := 0x0404
  layout := fun _ => (0, 0, 16, leg.toNat) :: chainFields q
  checks := fun c s =>
    let l := leg.toNat
    let after := s.modLegSnd l (fun d => if c.hdr.seam = 0xFFFF then { d with chainNext := d.chainNext ++ [(0, q)], chain := { d.chain with kernel := q.kernel } } else { d with pendKernel := some q.kernel })
    { fields := chainOk q,
      objects := [need (s.legFor l c.hdr.seam).isSome St.noObject, need (q.kernel == 0xFFFF || thas s.disp.kernels q.kernel.toNat) St.noObject],
      scope := some (s.confOfLeg l),
      items := [.chain l],
      busy := [s.stopIf after],
      rest := [s.admission after (s.isEmergency l)] }
  effect := fun _ s => (s.charging leg.toNat (doMixChain (s.nextTick (s.confOfLeg leg.toNat)) leg.toNat q), Rep.ok)
  baste := fun _ s => (s.charging leg.toNat (fun s => s.modLegSnd leg.toNat (fun d => { d with pendKernel := some q.kernel })), Rep.ok, some (.mixChain m leg q, 0))

/-- Set the limits of a jitter buffer's target (05 mix.jitter). -/
def doMixJitter (source : U32) (minMs maxMs : U16) (fixed : Bool) (s : State) : State :=
  s.modLegSnd (source.toNat / 4) (fun d => { d with jb := { d.jb with
    minMs := if minMs = 0 then 20 else minMs.toNat, maxMs := if maxMs = 0 then 400 else maxMs.toNat, fixed } })

/-- mix.jitter (05 R126). -/
def rowMixJitter (m : Mbx) (source : U32) (minMs maxMs : U16) (fixed : Bool) : Row where
  opcode := 0x0405
  layout := fun _ => [(0, 0, 32, source.toNat), (4, 0, 16, minMs.toNat), (6, 0, 16, maxMs.toNat), (8, 0, 1, bit fixed)]
  checks := fun c s =>
    let l := source.toNat / 4
    let lo := if minMs = 0 then 20 else minMs.toNat
    let hi := if maxMs = 0 then 400 else maxMs.toNat
    { fields := source.toNat % 4 == 0 && decide (source.toNat < 262144) && within 20 400 lo && within 20 400 hi && decide (lo ≤ hi),
      objects := [need ((s.legFor l c.hdr.seam).any (fun q => LegOffer.sends q.offer 0)) St.noObject],
      scope := some (s.confOfLeg l),
      items := [.jitter l] }
  effect := fun _ s => (doMixJitter source minMs maxMs fixed s, Rep.ok)
  baste := fun _ s => (s, Rep.ok, some (.mixJitter m source minMs maxMs fixed, 0))

/-- Set a mix's encoder settings; they take effect at the first multiple of 960 at or after sample t (05 R142). -/
def doMixEncode (t x kbps frameMs : Nat) (fec dtx : Bool) (s : State) : State :=
  s.modMix x (fun q => { q.settings t with encNext := some (roundUp t 960, if kbps = 0 then 32 else kbps, if frameMs = 0 then 20 else frameMs, fec, dtx) })

/-- mix.encode (05 R142). -/
def rowMixEncode (m : Mbx) (mix kbps : U16) (frameMs : U8) (fec dtx : Bool) : Row where
  opcode := 0x0406
  layout := fun _ => [(0, 0, 16, mix.toNat), (2, 0, 16, kbps.toNat), (4, 0, 8, frameMs.toNat), (5, 0, 1, bit fec), (5, 1, 1, bit dtx)]
  checks := fun c s =>
    { fields := decide (mix.toNat < 16384) && withinOr 0 6 256 kbps.toNat && (frameMs == 0 || frameMs == 10 || frameMs == 20),
      objects := [need (s.mixFor mix.toNat c.hdr.seam).isSome St.noObject],
      scope := some (s.confOfMix mix.toNat),
      items := [.mixEncode mix.toNat], also := [.mix mix.toNat] }
  effect := fun _ s => (doMixEncode (s.nextTick (s.confOfMix mix.toNat)) mix.toNat kbps.toNat frameMs.toNat fec dtx s, Rep.ok)
  baste := fun _ s => (s, Rep.ok, some (.mixEncode m mix kbps frameMs fec dtx, 0))

/-- Set a conference's THRESHOLD and MARGIN (05 R134). -/
def doMixSpeakers (conf : Nat) (threshold marginDb : U8) (s : State) : State :=
  { s with model := { s.model with confs := tmod s.model.confs conf (fun q => { q with
      threshold := if threshold = 0 then -50 else threshold.toInt, margin := if marginDb = 0xFF then 6 else marginDb.toNat }) } }

/-- mix.speakers (05 R134). -/
def rowMixSpeakers (m : Mbx) (conf : U16) (threshold marginDb : U8) : Row where
  opcode := 0x0407
  layout := fun _ => [(0, 0, 16, conf.toNat), (2, 0, 8, threshold.toNat), (3, 0, 8, marginDb.toNat)]
  checks := fun c s =>
    { fields := decide (conf.toNat < 8192) && (threshold == 0 || (decide (-90 ≤ threshold.toInt) && decide (threshold.toInt ≤ -20))) && (marginDb == 0xFF || decide (marginDb.toNat ≤ 24)),
      objects := [need (s.confFor conf.toNat c.hdr.seam).isSome St.noObject],
      scope := some conf.toNat,
      items := [.threshold conf.toNat] }
  effect := fun _ s => (doMixSpeakers conf.toNat threshold marginDb s, Rep.ok)
  baste := fun _ s => (s, Rep.ok, some (.mixSpeakers m conf threshold marginDb, 0))

/-- The meters after a mix.meter. -/
def metersAfter (q : MeterReq) (l : List MeterSet) : List MeterSet :=
  let own : MeterSet := { kind := q.kind, index := q.index.toNat }
  match q.mode.toNat with
  | 0 => [own]
  | 1 => if l.contains own then l else l ++ [own]
  | 2 => l.filter (fun x => x != own)
  | _ => []

/-- mix.meter (05 R150). -/
def rowMixMeter (m : Mbx) (q : MeterReq) : Row where
  opcode := 0x0408
  layout := fun _ => [(0, 0, 8, q.mode.toNat), (1, 0, 8, q.kind.toNat), (2, 0, 16, q.index.toNat), (4, 0, 16, q.periodMs.toNat), (6, 0, 16, q.holdMs.toNat), (8, 0, 8, q.decayDbs.toNat)]
  checks := fun _ s =>
    { fields := decide (q.mode.toNat ≤ 3) && decide (q.kind.toNat ≤ 1) && (q.periodMs == 0 || (within 10 1000 q.periodMs.toNat && q.periodMs.toNat % 10 == 0)) &&
        (q.holdMs == 0xFFFF || decide (q.holdMs.toNat ≤ 10000)) && decide (q.decayDbs.toNat ≤ 100) && (decide (2 ≤ q.mode.toNat) || q.kind != 1 || decide (q.index.toNat < 16384)),
      objects := [need (decide (2 ≤ q.mode.toNat) || (if q.kind = 0 then (s.legLive q.index.toNat).isSome else (s.mixFor q.index.toNat 0xFFFF).isSome)) St.noObject],
      rest := [need (decide ((metersAfter q (s.box m).meters).length ≤ 1024)) St.refused [1024]] }
  effect := fun _ s =>
    let s := s.modBox m (fun b =>
      let ms := metersAfter q b.meters
      let period := if q.periodMs = 0 then b.meterPeriodMs else q.periodMs.toNat
      { b with
        meters := ms, meterPeriodMs := period,
        meterHoldMs := if q.holdMs = 0xFFFF then b.meterHoldMs else q.holdMs.toNat,
        meterDecay := if q.decayDbs = 0 then b.meterDecay else q.decayDbs.toNat,
        meterDue := if ms = [] then none else if b.meters = [] ∨ q.periodMs ≠ 0 then some (s.clk + period * State.ticksPerMs) else b.meterDue,
        meterPeaks := b.meterPeaks.filter (fun p => ms.any (fun x => meterKey x.kind.toNat x.index == p.1)) })
    (s, Rep.ok (le 2 (s.box m).meters.length))

/-- mix.query (05 R138). -/
def rowMixQuery (mix : U16) : Row where
  opcode := 0x0409
  layout := fun _ => [(0, 0, 16, mix.toNat)]
  checks := fun _ s => { objects := [need (s.mixFor mix.toNat 0xFFFF).isSome St.noObject] }
  effect := fun _ s =>
    match tget s.snd.mixes mix.toNat with
    | none => (s, Rep.fail St.noObject)
    | some q =>
      let ins := (q.inputs.filter (fun i => MixInput.present i.2)).map (·.1)
      (s, Rep.ok (le 2 q.conf ++ le 1 ins.length ++ le 1 (bit (s.mixTone q)) ++ ((ins ++ List.replicate 8 0xFFFF).take 8).flatMap (le 2) ++
        leI 2 q.master.cur.1 ++ le 2 0))

/-- mix.source (05). -/
def rowMixSource (leg : U16) : Row where
  opcode := 0x040A
  layout := fun _ => [(0, 0, 16, leg.toNat)]
  checks := fun _ s =>
    { objects := [need (s.legLive leg.toNat).isSome St.noObject, need ((s.legLive leg.toNat).any (fun q => LegOffer.sends q.offer 0)) St.badField] }
  effect := fun _ s =>
    match tget s.snd.legs leg.toNat with
    | none => (s, Rep.fail St.noObject)
    | some d =>
      let depth := max 0 (d.jb.depth (s.media (s.confOfLeg leg.toNat)))
      (s, Rep.ok (le 1 (jbCode d.jb.state) ++ le 1 (if s.talker leg.toNat then selCode d.sel else 0xFF) ++ le 2 d.jb.targetMs ++ le 2 (depth / 48).toNat ++
        leI 1 d.level ++ le 1 (bit d.decoded) ++ le 4 d.jb.lost.toNat ++ le 4 d.jb.late.toNat ++ le 4 d.jb.concealedMs.toNat ++ le 4 d.jb.unknownPt.toNat))

/-- MIX_CREATE. -/
def execMixCreate (m : Mbx) (conf mix master : U16) (s : State) : Host.Outcome State Fault Refusal := .next (s.run m (rowMixCreate conf mix master))
/-- MIX_DELETE. -/
def execMixDelete (m : Mbx) (mix : U16) (s : State) : Host.Outcome State Fault Refusal := .next (s.run m (rowMixDelete mix))
/-- MIX_ROUTE. -/
def execMixRoute (m : Mbx) (leg : U16) (mode : U8) (mix gain : U16) (s : State) : Host.Outcome State Fault Refusal := .next (s.run m (rowMixRoute m leg mode mix gain))
/-- MIX_GAIN. -/
def execMixGain (m : Mbx) (req : GainReq) (s : State) : Host.Outcome State Fault Refusal := .next (s.run m (rowMixGain m req))
/-- MIX_CHAIN. -/
def execMixChain (m : Mbx) (leg : U16) (req : ChainReq) (s : State) : Host.Outcome State Fault Refusal := .next (s.run m (rowMixChain m leg req))
/-- MIX_JITTER. -/
def execMixJitter (m : Mbx) (source : U32) (minMs maxMs : U16) (fixed : Bool) (s : State) : Host.Outcome State Fault Refusal := .next (s.run m (rowMixJitter m source minMs maxMs fixed))
/-- MIX_ENCODE. -/
def execMixEncode (m : Mbx) (mix kbps : U16) (frameMs : U8) (fec dtx : Bool) (s : State) : Host.Outcome State Fault Refusal := .next (s.run m (rowMixEncode m mix kbps frameMs fec dtx))
/-- MIX_SPEAKERS. -/
def execMixSpeakers (m : Mbx) (conf : U16) (threshold marginDb : U8) (s : State) : Host.Outcome State Fault Refusal := .next (s.run m (rowMixSpeakers m conf threshold marginDb))
/-- MIX_METER. -/
def execMixMeter (m : Mbx) (req : MeterReq) (s : State) : Host.Outcome State Fault Refusal := .next (s.run m (rowMixMeter m req))
/-- MIX_QUERY. -/
def execMixQuery (m : Mbx) (mix : U16) (s : State) : Host.Outcome State Fault Refusal := .next (s.run m (rowMixQuery mix))
/-- MIX_SOURCE. -/
def execMixSource (m : Mbx) (leg : U16) (s : State) : Host.Outcome State Fault Refusal := .next (s.run m (rowMixSource leg))
/-- AUDIO_PACKET_ARRIVAL. -/
def execAudioPacketArrival (leg : Nat) (pkt : AudioPkt) (s : State) : Host.Outcome State Fault Refusal := .next (audioArrival leg pkt s)
/-- JB_CONCEAL_LIMIT. -/
def execJbConcealLimit (leg : Nat) (s : State) : Host.Outcome State Fault Refusal := .next (concealLimit leg s)
/-- SPEAKER_WINDOW. -/
def execSpeakerWindow (conf window : Nat) (s : State) : Host.Outcome State Fault Refusal := .next (speakerWindow conf window s)
/-- SPEAKER_CHANGE. -/
def execSpeakerChange (conf : Nat) (s : State) : Host.Outcome State Fault Refusal := .next (speakerChange conf s)
/-- ENCODE_OVERLAP_END. -/
def execEncodeOverlapEnd (conf leg : Nat) (s : State) : Host.Outcome State Fault Refusal := .next (overlapEnd conf leg s)
/-- GAIN_STEP. -/
def execGainStep (point : GainPoint) (s : State) : Host.Outcome State Fault Refusal := .next (gainStep point s)
/-- GAIN_STEP_TIMEOUT. -/
def execGainStepTimeout (point : GainPoint) (s : State) : Host.Outcome State Fault Refusal := .next (gainStepTimeout point s)
/-- METER_PERIOD. -/
def execMeterPeriod (m : Mbx) (due : Nat) (s : State) : Host.Outcome State Fault Refusal := .next (meterPeriod m due s)

end Sys2Proof.Machine
end

