-- ==== Sys2Proof/Machine/Picture.lean ====
section
/-! DEFINITION. Picture coding (06): decode contexts and their placement, bounded decoding, concealment and key requests; encode contexts, key pictures and rate control. -/

namespace Sys2Proof.Machine

open Sys2Proof

namespace State

/-- Change the Picture region. -/
def modPic (s : State) (f : Picture → Picture) : State := { s with pic := f s.pic }
/-- Change a decode context. -/
def modDec (s : State) (k : Nat) (f : DecCtx → DecCtx) : State := s.modPic (fun p => { p with dec := tmod p.dec k f })
/-- Change an encode context. -/
def modEnc (s : State) (k : Nat) (f : EncCtx → EncCtx) : State := s.modPic (fun p => { p with enc := tmod p.enc k f })

/-- The decode context of a source, with its number (07 R189). -/
def decOf (s : State) (source : Nat) : Option (Nat × DecCtx) := s.pic.dec.find? (fun p => p.2.source == source)

/-- Conference of a source. -/
def confOfSource (s : State) (source : Nat) : Nat := s.confOfLeg (source / 4)

/-- The source's chosen RECV entry (04 R109). -/
def sourceEntry (s : State) (source : Nat) : Option CodecEntry :=
  (tget s.model.legs (source / 4)).bind (fun q => LegOffer.recvOf q.offer (source % 4))

/-- The source is live: its leg is ACTIVE and sends the kind (07 Table 7-1, 08 Table 8-2). -/
def sourceLive (s : State) (source : Nat) : Bool :=
  (s.legLive (source / 4)).any (fun q => q.state == .active && LegOffer.sends q.offer (source % 4))

/-! ### Placement (04 R119, R120; 07 R189) -/

/-- Largest charge among placements. -/
def placesMax (l : List (Nat × Nat × Nat)) : Nat := l.foldl (fun acc p => max acc p.2.2) 0

/-- Placements of a source after one more, which replaces an earlier one of the same tile. -/
def placesWith (l : List (Nat × Nat × Nat)) (y t k : Nat) : List (Nat × Nat × Nat) := l.filter (fun p => !(p.1 == y && p.2.1 == t)) ++ [(y, t, k)]

/-- The state with a source's lanes given up, in which a higher charge is placed. -/
def decLess (s : State) (source : Nat) : State :=
  match s.decOf source with
  | some (i, _) => s.modDec i (fun d => { d with lanes := [] })
  | none => s

/-- The check of a placement of a source: the lanes for its charge, where it grows (04 R116, R120). -/
def decPlaceCheck (s : State) (source y t k : Nat) : Option Rep :=
  match s.decOf source with
  | some (_, d) =>
    let after := placesMax (placesWith d.places y t k)
    if after ≤ d.kpxs then none else (s.decLess source).placeCheck 8 after
  | none => s.placeCheck 8 k

/-- Place a source in a tile: its context is created, or its charge follows the largest placement (07 R189). -/
def decPlace (s : State) (source y t k stallMs : Nat) : State :=
  match s.decOf source with
  | some (i, d) =>
    let places := placesWith d.places y t k
    let after := placesMax places
    let lanes := if after ≤ d.kpxs then d.lanes else ((s.decLess source).place 8 after).getD d.lanes
    s.modDec i (fun d => { d with places, kpxs := max after d.kpxs, lanes, stallMs := if stallMs = 0 then d.stallMs else stallMs })
  | none =>
    match lowest (fun i => !thas s.pic.dec i) 0 8192 with
    | none => s
    | some i => s.modPic (fun p => { p with dec := tput p.dec i {
        source, kpxs := k, lanes := (s.place 8 k).getD [], places := [(y, t, k)], stallMs := if stallMs = 0 then 2000 else stallMs, bucket := k * 48000 } })

/-- Lanes of a lower charge: the same lanes; a split charge that now fits one lane is placed as such a charge is, and stays split where no lane has the room (R120; that a lower charge keeps its lanes is the model's choice, log 78). -/
def shrinkLanes (s : State) (source : Nat) (lanes : List (Nat × Nat)) (k : Nat) : List (Nat × Nat) :=
  match lanes with
  | [p] => [(p.1, k)]
  | _ =>
    let halves := lanes.map (fun p => (p.1, ceilDiv' k 2))
    if k ≤ laneCap 8 then ((s.decLess source).place 8 k).getD halves else halves

/-- Remove a placement: the context and its charge are released with the last one (07 R189). -/
def decUnplace (s : State) (y t : Nat) : State :=
  s.modPic (fun p => { p with dec := p.dec.filterMap (fun e =>
    let d := e.2
    let places := d.places.filter (fun q => !(q.1 == y && q.2.1 == t))
    if places = [] then none
    else
      let k := placesMax places
      some (e.1, if k < d.kpxs then { d with places, kpxs := k, lanes := s.shrinkLanes d.source d.lanes k } else { d with places })) })

/-! ### Key requests (R169, 08 R219) -/

/-- Send the key requests of a source to its sender: FIR of 20 bytes and PLI of 12 on the leg's transport, counted by its context (R169). -/
def sendKey (s : State) (source : Nat) (fir pli : Bool) : State :=
  let s := s.modPic (fun p => { p with keyLast := tput p.keyLast source (s.media (s.confOfSource source)) })
  let s := if fir then (s.modPic (fun p => { p with firSeq := tput p.firSeq source ((((tget p.firSeq source).getD 0) + 1) % 256) })).sendPacket (source / 4) 2 (some 2) 20 0 0 else s
  let s := if pli then s.sendPacket (source / 4) 2 (some 2) 12 0 0 else s
  match s.decOf source with
  | some (i, _) => s.modDec i (fun d => { d with cFir := if fir then d.cFir + 1 else d.cFir, cPli := if pli then d.cPli + 1 else d.cPli })
  | none => s

/-- Ask a source's sender for a key picture: at most one request per 24,000 samples, a later one deferred to the interval's end (R169). -/
def askKey (s : State) (source : Nat) (fir pli : Bool) : State :=
  let late := (tget s.pic.keyLast source).any (fun t => decide (s.media (s.confOfSource source) < t + 24000))
  if late then s.modPic (fun p => { p with keyDue := tput p.keyDue source (let d := (tget p.keyDue source).getD (false, false); (d.1 || fir, d.2 || pli)) })
  else s.sendKey source fir pli

/-! ### Decode context states (R170) -/

/-- Code of a decode context state (Table 6-5). -/
def decCode : DecState → Nat
  | .idle => 0 | .clean => 1 | .damaged => 2 | .stalled => 3

/-- Put a decode context in a state; a change is reported by the context event (07). -/
def setDec (s : State) (i : Nat) (v : DecState) : State :=
  match tget s.pic.dec i with
  | none => s
  | some d =>
    if d.state = v then s
    else (s.modDec i (fun d => { d with state := v })).raise 0x0580 St.ok
      (le 2 i ++ le 1 (decCode v) ++ le 1 (decCode d.state) ++ le 4 d.source ++ le 8 d.picnum ++ leI 8 d.lastCapture)

/-- A decode context's lanes are without power. -/
def decDark (s : State) (d : DecCtx) : Bool := d.lanes.any (fun p => s.laneDark 8 p.1)

end State

/-- Capture time of a picture with a timestamp (R158). -/
def captureOf (anchor : U32 × Int) (ts : U32) : Int := anchor.2 + (((ts - anchor.1).toNat * 8 / 15 : Nat) : Int)

/-! ### Access units (R158, R167, R168) -/

/-- A sequence number lies behind another, the wrap handled. -/
def seqAfter (a b : U16) : Bool := a != b && decide ((a - b).toNat < 32768)

/-- Capture times of the pictures a context holds (R158). -/
def DecCtx.held (d : DecCtx) : List Int := d.units.map (·.capture) ++ d.buffer.map (·.capture) ++ d.outs.map (·.capture)

/-- A packet joins an access unit at its place in the order of sequence numbers; the marker bit ends the unit (R158). -/
def AccessUnit.take (u : AccessUnit) (p : VideoPkt) (m : Nat) : AccessUnit :=
  { u with seqs := insertBy (fun a b => !seqAfter a b) p.seq u.seqs, closed := u.closed || p.marker, marked := u.marked || p.marker, arrived := max u.arrived m }

/-- A snag marker on the context's input: the gap touches the unit being assembled, and the one that comes next (R167, 01 R40). -/
def DecCtx.snag (d : DecCtx) : DecCtx := { d with units := d.units.map (fun u => if u.closed then u else { u with snagged := true }), snagNext := true }

/-- One packet enters its decode context: anchor, access units and the rate bucket (R158, R167, R168). A packet of a unit that is finished, or one held already, is discarded. At throttle level 3 a layered source decodes temporal layer 0 only (17 Table 17-10). -/
def videoArrival (source : Nat) (p : VideoPkt) (s : State) : State :=
  match s.decOf source with
  | none => s
  | some (i, d) =>
    let last := if d.lastSeq.all (fun q => seqAfter p.seq q) then some p.seq else d.lastSeq
    if !s.sourceLive source ∨ s.decDark d then s
    else if 3 ≤ s.pwr.levelNow ∧ p.temporal.any (fun t => t != 0) then
      s.modDec i (fun d => { d with lastSeq := last, lastArrival := if p.marker then s.media (s.confOfSource source) else d.lastArrival })
    else
      let m := s.arrivalMedia (source / 4) p.seq (s.confOfSource source)
      let runs := d.lastSeq == some (p.seq - 1)
      let outside := d.anchor.any (fun a =>
        let c := captureOf a p.ts
        match d.held with
        | [] => false
        | x :: xs => decide (c + 48000 < xs.foldl min x) || decide (xs.foldl max x + 48000 < c))
      let fresh := d.anchor.isNone || p.ssrc != d.ssrc || (outside && !runs)
      let anchor := if fresh then (p.ts, (m : Int)) else d.anchor.getD (p.ts, (m : Int))
      let known := d.units.any (fun u => u.ts == p.ts)
      let s := s.modDec i (fun d => { d with anchor := some anchor, ssrc := p.ssrc, lastSeq := if fresh then some p.seq else last, lastArrival := if p.marker then m else d.lastArrival })
      if known then s.modDec i (fun d => { d with units := d.units.map (fun u => if u.ts = p.ts ∧ !u.seqs.contains p.seq then u.take p m else u) })
      else if !fresh ∧ d.done.any (fun q => !seqAfter p.seq q.1) then s
      else
        let unit : AccessUnit := { ts := p.ts, capture := captureOf anchor p.ts, seqs := [p.seq], marked := p.marker, closed := p.marker, snagged := d.snagNext, arrived := m }
        let cap := d.kpxs * 48000
        let held := min cap (d.bucket + d.kpxs * (m - d.bucketAt))
        let cost := p.lumaSamples * 48
        let add (d : DecCtx) (u : AccessUnit) : DecCtx := { d with units := d.units.map (fun u => { u with closed := true }) ++ [u], snagNext := false, bucketAt := m }
        if held < cost then
          let s := s.modDec i (fun d => { add d { unit with dropped := true } with bucket := held, cRateDrop := d.cRateDrop + 1, picnum := d.picnum + 1 })
          (if d.state = .clean ∧ !p.nonRef then s.setDec i .damaged else s).fin
        else s.modDec i (fun d => { add d unit with bucket := held - cost })

/-! ### Syntax records and the syntax buffer (R159 to R161) -/

/-- KIND of a record (Table 6-4). -/
def recCode : RecKind → Nat
  | .pictureStart => 1 | .segmentStart => 2 | .block => 3 | .segmentEnd => 4 | .pictureEnd => 5 | .conceal => 6 | .snag => 7

/-- LENGTH of a record: header and body, a multiple of 16 (R159, R160). -/
def SynRec.length (r : SynRec) : Nat := roundUp (16 + r.body.length) 16

/-- The bytes of a record (Table 6-4). -/
def SynRec.bytes (r : SynRec) : Bytes :=
  le 2 r.length ++ le 1 (recCode r.kind) ++ le 1 (bit r.intra + 2 * bit r.key + 4 * bit r.refMissing + 8 * bit r.nonRef) ++ le 2 r.x.toNat ++ le 2 r.y.toNat ++ le 4 r.picnum.toNat ++
  le 1 (r.temporal + 16 * r.spatial) ++ le 1 r.segment.toNat ++ le 1 (if r.kind = .block then min 255 r.work else 0) ++ le 1 0 ++ r.body ++ List.replicate (r.length - 16 - r.body.length) 0

/-- A tile is sealed with the CRC-32C of its 4,096 bytes (R159). -/
def SynTile.seal (t : SynTile) : SynTile := { t with crc := some (crc32c (t.recs.flatMap SynRec.bytes ++ List.replicate (4096 - t.used) 0)) }

/-- Bytes of the syntax buffer that a picture occupies. -/
def BufPic.size (b : BufPic) : Nat := match b.tiles.getLast? with | some t => 4096 * (b.tiles.length - 1) + t.used | none => 0

/-- A record is written: in the picture's last tile, or in a new one where it would cross the tile, which is then sealed (R159). -/
def BufPic.put (b : BufPic) (r : SynRec) : BufPic :=
  match b.tiles.getLast? with
  | some t =>
    if t.used + r.length ≤ 4096 then { b with tiles := b.tiles.dropLast ++ [{ t with recs := t.recs ++ [r], used := t.used + r.length }] }
    else { b with tiles := b.tiles.dropLast ++ [t.seal, { recs := [r], used := r.length }] }
  | none => { b with tiles := [{ recs := [r], used := r.length }] }

/-- The picture ends: its last tile is sealed (R159). -/
def BufPic.finish (b : BufPic) (end_ : SynRec) : BufPic :=
  let b := b.put end_
  { b with ended := true, tiles := match b.tiles.getLast? with | some t => b.tiles.dropLast ++ [t.seal] | none => [] }

/-- The allowance of a picture in the syntax buffer less the 32 bytes kept back (R161). -/
def pictureRoom : Nat := 512 * 4096 - 32

/-- A record within the allowance; none: it would take the picture past it and is not written (R161). -/
def BufPic.add (b : BufPic) (r : SynRec) : Option BufPic := let b' := b.put r; if pictureRoom < b'.size then none else some b'

/-- A record of a picture. -/
def recordOf (h : PicHdr) (picnum : Nat) (kind : RecKind) : SynRec := { kind, picnum := BitVec.ofNat 32 picnum, temporal := h.temporal.val, spatial := h.spatial.val }

/-- A SNAG record: a snag marker of 01 R36 with a gap of unknown size (R160). -/
def snagRec (h : PicHdr) (picnum : Nat) : SynRec := { recordOf h picnum .snag with body := le 4 0xFFFFFFFF ++ le 4 0 }

/-! ### Bounded decoding in the entropy cell (R157, R162, R163) -/

/-- The bin budget of a segment (R162). -/
def binsMax (seg : SegmentInfo) : Nat := 2 * seg.codedBits + 256 * seg.areas16 + 4096

/-- The work value of a block (R163). -/
def blockWork (areas : List BlockArea) : Nat := total areas (fun a => 1 + bit a.biPredicted + bit a.below8 + bit a.warped)

/-- The codec's decoder does not support the feature (Table 6-3). -/
def unsupported (codec : U8) : Feature → Bool
  | .fieldPicture | .mbaff | .fmo | .aso | .redundantSlice | .spSiSlice => codec == 0x10
  | .chromaFormat => codec == 0x10 || codec == 0x11 || codec == 0x13
  | .bitDepth => codec == 0x10 || codec == 0x13
  | .extension_ => codec == 0x11
  | .spatialLayers => codec == 0x13
  | .largeScaleTile => codec == 0x14

/-- A sequence header announces a picture within R156, of the profile admitted for the source, at a level no higher than the one that its entry states (R155, R156, *Illegal syntax*; that the admitted profile is the entry's own is DEDUCED, log 80). -/
def seqValid (e : CodecEntry) (h : SeqHdr) : Bool :=
  within 16 4096 h.width && within 16 4096 h.height && decide (h.width * h.height ≤ maxLuma) && (h.depth == 8 || h.depth == 10) &&
  h.profile.toNat == CodecEntry.profile e && (CodecEntry.level e == 0 || decide (h.level.toNat ≤ CodecEntry.level e))

/-- How the parse of a segment ends. -/
inductive SegEnd where
  | whole | illegal | cut | overflow
  deriving DecidableEq, Repr

/-- The entropy cell parses a segment: a record for each block, until the bin budget would be passed or a block cannot be decoded, where a CONCEAL record stands in for the rest (R161, R162, *Illegal syntax*). -/
def parseSegment (h : PicHdr) (picnum : Nat) (number : U8) (most : Nat) : List ParseStep → Nat → BufPic → BufPic × SegEnd
  | [], _, b => (b, .whole)
  | .illegal x y :: _, _, b =>
    match b.add { recordOf h picnum .conceal with x, y, segment := number } with
    | some b => (b, .illegal)
    | none => (b, .overflow)
  | .block x y intra areas bins body :: rest, n, b =>
    if most < n + bins then
      match b.add { recordOf h picnum .conceal with x, y, segment := number } with
      | some b => (b, .cut)
      | none => (b, .overflow)
    else
      match b.add { recordOf h picnum .block with x, y, intra, areas, body := body.take 4080, segment := number, work := blockWork areas } with
      | some b => parseSegment h picnum number most rest (n + bins) b
      | none => (b, .overflow)

/-- The picture that a segment opens: the sequence header that comes with it, the references it names, its PICTURE_START record (R160, R166, *Illegal syntax*). -/
def DecCtx.openPicture (d : DecCtx) (e : CodecEntry) (u : AccessUnit) (h : PicHdr) : DecCtx :=
  let seq := match h.seqHdr with
    | some q => if seqValid e q then (if h.key ∨ d.seq.isSome then some q else none) else none
    | none => d.seq
  let missing := !(h.refs ++ h.lower.toList).all d.named.contains
  let n := d.picnum + (d.buffer.filter (fun b => b.hdr.shown)).length
  let start : SynRec := { recordOf h n .pictureStart with intra := h.intra, key := h.key, refMissing := missing, nonRef := h.nonRef }
  let b : BufPic := { hdr := h, capture := u.capture, arrived := u.arrived, depth := seq.elim 8 (·.depth), missing, full := seq.all (fun q => decide (q.width < h.width) || decide (q.height < h.height)) }
  let b := b.put start
  { d with seq, named := (d.named ++ [h.name]).filter h.keeps.contains, buffer := d.buffer ++ [if u.snagged then b.put (snagRec h n) else b] }

/-- A segment of the picture being written (R160 to R162, R167): SEGMENT_START, its blocks or a CONCEAL record, SEGMENT_END; a picture past its allowance ends with SNAG and PICTURE_END. -/
def DecCtx.writeSegment (d : DecCtx) (codec : U8) (u : AccessUnit) (seg : SegmentInfo) (lost : Bool) : DecCtx :=
  match d.buffer.getLast? with
  | none => d
  | some b =>
    let h := b.hdr
    let n := d.picnum + ((d.buffer.dropLast).filter (fun b => b.hdr.shown)).length
    let mk (k : RecKind) : SynRec := { recordOf h n k with segment := seg.number }
    let first : U16 × U16 := match seg.steps.head? with | some (.block x y _ _ _ _) | some (.illegal x y) => (x, y) | none => (0, 0)
    let odd := seg.features.any (unsupported codec)
    let conceal (b : BufPic) (k : SegEnd) : BufPic × SegEnd := match b.add { mk .conceal with x := first.1, y := first.2 } with | some b => (b, k) | none => (b, .overflow)
    let r : BufPic × SegEnd := match b.add (mk .segmentStart) with
      | none => (b, SegEnd.overflow)
      | some b => if lost ∨ u.snagged then conceal b .whole else if odd then conceal b .illegal else parseSegment h n seg.number (binsMax seg) seg.steps 0 b
    let r : BufPic × SegEnd := if r.2 = .overflow then r else match r.1.add (mk .segmentEnd) with | some b => (b, r.2) | none => (r.1, .overflow)
    let past := decide (r.2 = .overflow)
    let b := if past then (r.1.put (snagRec h n)).finish (recordOf h n .pictureEnd) else if seg.lastOfPicture then r.1.finish (recordOf h n .pictureEnd) else r.1
    { d with
      buffer := d.buffer.dropLast ++ [b], units := if past then d.units.map (fun x => if x.ts = u.ts then { x with spent := true } else x) else d.units,
      cIllegal := if r.2 = .illegal then d.cIllegal + 1 else d.cIllegal, cBinCut := if r.2 = .cut then d.cBinCut + 1 else d.cBinCut, cOverflow := if past then d.cOverflow + 1 else d.cOverflow }

/-- A picture is being written. -/
def DecCtx.writing (d : DecCtx) : Bool := d.buffer.getLast?.any (fun b => !b.ended)

/-- The oldest access unit is finished; a picture of it still being written ends with it. -/
def DecCtx.endUnit (d : DecCtx) : DecCtx :=
  match d.units with
  | [] => d
  | u :: rest =>
    { d with
      units := rest, done := (u.seqs.getLast?).map (fun q => (q, u.marked)),
      buffer := match d.buffer.getLast? with | some b => if b.ended then d.buffer else d.buffer.dropLast ++ [b.finish (recordOf b.hdr 0 .pictureEnd)] | none => [] }

/-- Access units ahead of the one with a timestamp hold nothing that can be decoded, or were dropped: they are over. -/
def DecCtx.skipTo (ts : U32) : Nat → DecCtx → DecCtx
  | 0, d => d
  | n + 1, d => match d.units with
    | u :: _ => if u.ts = ts ∧ !u.dropped then d else DecCtx.skipTo ts n d.endUnit
    | [] => d

/-- One segment in the entropy cell (R157, R159 to R162, R166, R167). A segment with a packet missing waits while its access unit goes on; then it is concealed, and so is the first segment of a unit whose first packet is missing. A third picture waits for room. -/
def segmentDecode (i : Nat) (seg : SegmentInfo) (s : State) : State :=
  s.modDec i (fun d =>
    match s.sourceEntry d.source with
    | none => d
    | some e =>
      if s.decDark d ∨ !d.units.any (fun u => u.ts == seg.ts && !u.dropped) then d
      else
        let d := d.skipTo seg.ts d.units.length
        match d.units with
        | [] => d
        | u :: _ =>
          let missing := !seg.packets.all u.seqs.contains
          let firstLost := !d.writing && seg.number == 0 && d.done.any (fun q => q.2 && (u.seqs.head?).any (fun x => x != q.1 + 1))
          if u.spent then (if seg.lastOfUnit then d.endUnit else d)
          else if missing ∧ !u.closed then d
          else if !d.writing ∧ 2 ≤ d.buffer.length then { d with entropyStall := true }
          else
            let d := if d.writing then d else d.openPicture e u seg.hdr
            let d := d.writeSegment e.codec u seg (missing || firstLost)
            if seg.lastOfUnit then d.endUnit else d)

/-- The older picture's tiles are freed: a stalled entropy cell goes on (R159). -/
def stallResume (i : Nat) (s : State) : State :=
  s.modDec i (fun d => if d.buffer.length < 2 then { d with entropyStall := false } else d)

/-! ### Pixel lanes (R163 to R166, R170, R171) -/

/-- Records of a picture in order. -/
def BufPic.records (b : BufPic) : List SynRec := b.tiles.flatMap (·.recs)

/-- The lane's work budget of a picture: 3 units for each 8×8 luma area (R163). -/
def workMax (h : PicHdr) : Nat := 3 * (ceilDiv' h.width 8 * ceilDiv' h.height 8)

/-- The BLOCK records within a work budget; a record that would pass it ends them (R163). -/
def withinWork (most : Nat) : Nat → List SynRec → List SynRec
  | _, [] => []
  | n, r :: rest => if most < n + r.work then [] else r :: withinWork most (n + r.work) rest

/-- A picture as the lane reconstructs it: the samples of every area that a block covers, widened to 10 bits; the rest copied from the substitute picture with zero motion (R156, R165). -/
def reconstruct (h : PicHdr) (depth : Nat) (blocks : List SynRec) (refs : List Frame) (sub : Frame) : Frame :=
  let areas := blocks.flatMap (·.areas)
  let bodies := blocks.map (·.body)
  makeFrame h.width h.height (fun c x y =>
    let d := if c = 0 then 8 else 4
    if areas.any (fun a => a.x == x / d && a.y == y / d) then (if depth = 8 then Config.decoded bodies refs c x y % 256 * 4 else Config.decoded bodies refs c x y % 1024)
    else sampleOf sub c x y)

/-- An 8×8 area of the picture that no block covers is concealed (R161, R165). -/
def someConcealed (h : PicHdr) (blocks : List SynRec) : Bool :=
  let areas := blocks.flatMap (·.areas)
  (List.range (ceilDiv' h.height 8)).any (fun y => (List.range (ceilDiv' h.width 8)).any (fun x => !areas.any (fun a => a.x == x && a.y == y)))

/-- First block row of each segment, where the segment starts a row of coding blocks of a height (R171). -/
def segmentRows (height : Nat) : List SynRec → List Nat
  | [] => []
  | r :: rest =>
    match rest with
    | n :: _ => (if r.kind = .segmentStart ∧ n.y.toNat * 8 % height = 0 then [n.y.toNat * 8 / height] else []) ++ segmentRows height rest
    | [] => []

/-- How two lanes share a picture of k coding block rows: at a segment boundary within 2 rows of the middle they run in parallel, else the bottom lane runs one picture behind (R171). -/
def laneSplit (k : Nat) (bounds : List Nat) : Nat × Bool :=
  let half := ceilDiv' k 2
  match bounds.filter (fun b => decide (half ≤ b + 2) && decide (b ≤ half + 2) && decide (0 < b)) with
  | [] => (half, false)
  | b :: rest => (rest.foldl (fun best x => if (x - half) + (half - x) < (best - half) + (half - best) then x else best) b, true)

/-- The state a picture leads to (Table 6-5): key, never a reference, concealed, and whether its references are all present and clean. -/
def decAfter (st : DecState) (key nonRef concealed refsClean : Bool) : DecState :=
  let cleanKey := key && !concealed
  match st with
  | .idle => if cleanKey then .clean else .damaged
  | .clean => if concealed && !nonRef then .damaged else .clean
  | .damaged => if cleanKey then .clean else .damaged
  | .stalled => if cleanKey || (refsClean && !(concealed && !nonRef)) then .clean else .damaged

/-- Coding block row height of a codec (R172). -/
def rowHeight (codec : U8) : Nat := if codec = 0x10 ∨ codec = 0x12 then 16 else 64

/-- One picture in the pixel lane (R163 to R170): the oldest of the syntax buffer, whose number is n and whose tiles are freed. -/
def lanePicture (i n : Nat) (s : State) : State :=
  match tget s.pic.dec i with
  | none => s
  | some d =>
    match d.buffer with
    | [] => s
    | b :: rest =>
      if d.picnum ≠ n ∨ !b.ended ∨ s.decDark d ∨ (s.twin.state = .standby ∧ d.decided ≤ d.picnum) then s
      else
        let h := b.hdr
        let all := b.records.filter (fun r => r.kind == .block)
        let run := withinWork (workMax h) 0 all
        let good := if b.full then [] else (run.zipIdx.filter (fun p => !b.poisoned.contains p.2)).map (·.1)
        let refs := (h.refs ++ h.lower.toList).map (fun n => d.dpb.find? (fun r => r.name == n))
        let sub := (tget d.recent h.spatial.val).getD (greyFrame h.width h.height)
        let pixels := reconstruct h b.depth good (refs.map (fun r => r.elim sub (·.pixels))) sub
        let past := decide (run.length < all.length)
        let concealed := b.full || b.missing || someConcealed h good
        let refsClean := refs.all (fun r => r.any (·.clean))
        let clean := !concealed && refsClean
        let next := decAfter d.state h.key h.nonRef concealed refsClean
        let two := decide (1 < d.lanes.length)
        let codec := (s.sourceEntry d.source).elim 0 (·.codec)
        let out : OutPic := { capture := b.capture, arrived := b.arrived, pixels, concealed := !clean }
        let named : RefPic := { name := h.name, spatial := h.spatial.val, pixels, clean }
        let s := s.modDec i (fun d => { d with
          buffer := rest, picnum := if h.shown then d.picnum + 1 else d.picnum,
          dpb := (d.dpb ++ [named]).filter (fun r => h.keeps.contains r.name),
          recent := tput d.recent h.spatial.val pixels,
          outs := if h.shown then (d.outs.filter (fun o => decide (b.capture ≤ o.capture + 96000))) ++ [out] else d.outs,
          lastCapture := if h.shown then b.capture else d.lastCapture,
          split := if two then some (laneSplit (ceilDiv' h.height (rowHeight codec)) (segmentRows (rowHeight codec) b.records)) else none,
          cPictures := d.cPictures + 1,
          cConcealed := if clean then d.cConcealed else d.cConcealed + 1,
          cRefMissing := if b.missing then d.cRefMissing + 1 else d.cRefMissing,
          cWorkCut := if past then d.cWorkCut + 1 else d.cWorkCut,
          cPoisoned := d.cPoisoned + BitVec.ofNat 32 b.poisoned.length })
        let s := s.setDec i next
        let first := d.state == .idle && next == .damaged
        let s := if b.missing || first then s.askKey d.source true false
                 else if concealed && !h.nonRef then s.askKey d.source false true else s
        (s.mirror 16).fin

/-- What a context holds of its stream is lost; its counts and its placement stay. -/
def DecCtx.lose (d : DecCtx) : DecCtx :=
  { d with state := .idle, units := [], buffer := [], entropyStall := false, named := [], dpb := [], recent := [], outs := [], snagNext := false, seq := none }

/-- A tile of the oldest picture in the syntax buffer reads as poison: it is treated as a SNAG record, the rest of the picture has no records (15 R391, R161). -/
def DecCtx.poisonTile (d : DecCtx) (k : Nat) : DecCtx :=
  { d with buffer := match d.buffer with
    | b :: rest => { b with tiles := b.tiles.take k ++ [{ recs := [snagRec b.hdr d.picnum], used := 32 }] } :: rest
    | [] => [] }

/-- Blocks of the oldest picture in the syntax buffer that read a poisoned tile of the frame store (R164). -/
def DecCtx.poisonBlocks (d : DecCtx) (blocks : List Nat) : DecCtx :=
  { d with buffer := match d.buffer with
    | b :: rest => { b with poisoned := b.poisoned ++ blocks.filter (fun k => !b.poisoned.contains k) } :: rest
    | [] => [] }

/-- The end of the limit interval: deferred requests are sent once; a DAMAGED context repeats its request (R169). -/
def keyDeferred (source : Nat) (s : State) : State :=
  let due := (tget s.pic.keyLast source).all (fun t => decide (t + 24000 ≤ s.media (s.confOfSource source)))
  if !due then s
  else
    match tget s.pic.keyDue source with
    | some (fir, pli) => (s.modPic (fun p => { p with keyDue := tdel p.keyDue source })).sendKey source fir pli
    | none => if (s.decOf source).any (fun e => e.2.state == .damaged) then s.sendKey source false true else s

/-- No picture has arrived for STALL_MS (Table 6-5). -/
def decodeStall (i : Nat) (s : State) : State :=
  match tget s.pic.dec i with
  | none => s
  | some d =>
    if (d.state = .clean ∨ d.state = .damaged) ∧ d.lastArrival + d.stallMs * 48 ≤ s.media (s.confOfSource d.source) then (s.setDec i .stalled).fin else s

/-! ### Encoders (R172 to R182) -/

/-- QP step and largest QP of a codec (R179). -/
def qpStep (codec : U8) : Nat := if codec = 0x12 then 2 else if codec = 0x14 then 4 else 1
def qpMax (codec : U8) : Nat := if codec = 0x12 then 127 else if codec = 0x14 then 255 else 51

/-- Number of spatial layers of a feed. -/
def FeedReq_layers (q : FeedReq) : Nat := max 1 q.spatial.toNat

/-- Width and height of a spatial layer: 1 : 2 : 4 up to the feed's size (R172). -/
def layerSize (q : FeedReq) (k : Nat) : Nat × Nat := (q.width.toNat / 2 ^ (FeedReq_layers q - 1 - k), q.height.toNat / 2 ^ (FeedReq_layers q - 1 - k))

/-- Target of a spatial layer in bit/s. -/
def layerTarget (q : FeedReq) (k : Nat) : Nat := 1000 * (match k with | 0 => q.target0.toNat | 1 => q.target1.toNat | _ => q.target2.toNat)

/-- Pixel charge of a feed: the sum of its layers' pixel rates (04 R119). -/
def feedKpxs (q : FeedReq) : Nat := total (List.range (FeedReq_layers q)) (fun k => kpxs (layerSize q k).1 (layerSize q k).2 q.rate.toNat)

/-- Samples between pictures of a feed or slots of a layout. -/
def slotDelta (rate : Nat) : Nat := 48000 / rate

/-- A picture's budget before it is coded (R177): base, repayment, reserve per row, B and cap. -/
structure Budget where
  base : Nat
  repay : Nat
  resv : Nat
  b : Nat
  cap : Nat
  deriving DecidableEq, Repr

/-- The budget arithmetic (R177). -/
def budget (targetBps delta debt allow rows blocks areas16 : Nat) (key : Bool) : Budget :=
  let base := targetBps * delta / 48000
  let repay := min debt (base / 8)
  let resv := if key then 12 * areas16 else 24 + blocks
  let floorb := 1024 + rows * resv
  let b0 := if key then 4 * base - repay else base + allow - repay
  let cap := max (if key then 6 * base else 2 * base) floorb
  { base, repay, resv, b := min (max b0 floorb) cap, cap }

/-- What coding the rows of one half or picture leaves: bits used, rows that fell back, row QP and the sizes of rows coded normally. -/
structure Coded where
  used : Nat
  fell : List Nat := []
  qp : Nat
  est : Table Nat
  deriving DecidableEq, Repr

/-- Code rows i to the end under the budget (R178, R179): each row's bits coded normally and in fallback. -/
def codeRows (b resv rows step qp0 avail : Nat) : List (Nat × Nat) → Nat → Coded → Coded
  | [], _, c => c
  | (bits, fb) :: rest, i, c =>
    if c.fell = [] ∧ c.used + bits + (rows - i - 1) * resv ≤ b then
      let used := c.used + bits
      let target := avail * (i + 1) / rows
      let qp := if target + avail / 16 < used then min (qp0 + 6 * step) (c.qp + step)
                else if used + avail / 16 < target then max (qp0 - 6 * step) (c.qp - step) else c.qp
      codeRows b resv rows step qp0 avail rest (i + 1) { c with used, qp, est := tput c.est i bits }
    else codeRows b resv rows step qp0 avail rest (i + 1) { c with used := c.used + min fb resv, fell := c.fell ++ [i] }

/-- One spatial layer of a picture (R177 to R180): rows are coded in one half, or in a top and a bottom half with a share of B each (R171, R178). -/
def codeLayer (q : FeedReq) (k capture : Nat) (key : Bool) (twoLanes : Bool) (l : LayerRate) (c : LayerCode) : LayerRate :=
  let (w, h) := layerSize q k
  let rh := rowHeight q.codec
  let rows := ceilDiv' h rh
  let blocks := ceilDiv' w rh
  let areas16 := ceilDiv' w 16 * (rh / 16)
  let delta := capture - l.last.getD (capture - slotDelta q.rate.toNat)
  let g := budget (layerTarget q k) delta l.debt (if key then 0 else l.allow) rows blocks areas16 key
  let step := qpStep q.codec
  let qp0 := if key then l.qp - 3 * step else l.qp
  let given := (c.rows ++ List.replicate (rows - c.rows.length) (0, 0)).take rows
  let run (b : Nat) (rs : List (Nat × Nat)) (header first : Nat) (est : Table Nat) : Coded :=
    codeRows b g.resv rs.length step qp0 (b - rs.length * g.resv) rs 0 { used := header, qp := qp0, est := (est.filterMap (fun p => if first ≤ p.1 then some (p.1 - first, p.2) else none)) }
  let header := min 1024 c.headerBits
  let done : Coded :=
    if twoLanes then
      let top := ceilDiv' rows 2
      let bTop := g.b * top / rows
      let a := run bTop (given.take top) header 0 l.est
      let z := run (g.b - bTop) (given.drop top) 0 top l.est
      { used := a.used + z.used, fell := a.fell ++ z.fell.map (· + top), qp := z.qp,
        est := (a.est.filter (fun p => decide (p.1 < top))) ++ z.est.map (fun p => (p.1 + top, p.2)) }
    else run g.b given header 0 l.est
  let avail := g.b - rows * g.resv
  let size := done.used
  let allow := min (total done.fell (fun i => (tget done.est i).getD (avail / max 1 rows))) (g.base / 2)
  let qp := if done.fell ≠ [] then l.qp + 2 * step
            else if g.b - g.b / 16 < size then l.qp + step
            else if size < g.b - g.b / 4 then l.qp - step else l.qp
  { debt := l.debt + size - g.base, allow := if done.fell = [] then 0 else allow, qp := min (qpMax q.codec) qp, est := done.est, last := some capture,
    fell := done.fell, rowQp := done.qp, size }

namespace State

/-- The layout picture of a capture time may be coded: it is drawn, and Keystone has given its verdict (07 R201). -/
def slotReady (s : State) (y capture : Nat) : Bool :=
  (tget s.pic.layouts y).any (fun l => decide (capture ≤ l.lastSlot) && (decide (capture < l.lastSlot) || !l.awaiting) && !l.cardGate)

/-- The slot's picture that a feed codes at a capture time (07 R204). -/
def slotPic (s : State) (y capture : Nat) : Option SlotPic := (tget s.pic.layouts y).bind (fun l => l.picts.find? (fun p => decide (p.slot ≤ capture)))

/-- The samples that the spatial layers of a feed are coded from: the slot's picture, or Keystone's card with no region left out, scaled and dithered (07 R197, R198, R201, R204). -/
def feedInput (s : State) (q : FeedReq) (y capture n : Nat) : List Frame :=
  match s.slotPic y capture with
  | none => []
  | some p =>
    let f := if p.card then cardFrame s.ks.policy p.pixels.w p.pixels.h else p.pixels
    (List.range (FeedReq_layers q)).map (fun k => feedFrame f (if p.card then [] else p.rects) (layerSize q k).1 (layerSize q k).2 q.depth.toNat n)

/-- A key picture is due for a capture time: the first picture, a cause whose time has come, a receiver request outside KEY_MIN_MS (R174 to R176). -/
def keyDue (e : EncCtx) (q : FeedReq) (capture : Nat) : Bool :=
  let min_ := (if q.keyMinMs = 0xFFFF then 500 else q.keyMinMs.toNat) * 48
  e.picnum == 0 || e.keyAt.any (fun r => decide (r.1 ≤ capture) && (!r.2 || e.lastKey.all (fun k => decide (k + min_ ≤ capture))))

/-- Ask a feed's encoder for a key picture at or after a media time (R174, R175). -/
def wantKey (s : State) (ctx m : Nat) (receiver : Bool) : State := s.modEnc ctx (fun e => { e with keyAt := e.keyAt ++ [(m, receiver)] })

/-- Spatial layers a feed codes now: from throttle level 1 only S0 (17 Table 17-10). -/
def layersNow (s : State) (q : FeedReq) : Nat := if 1 ≤ s.pwr.levelNow then 1 else FeedReq_layers q

/-- Temporal layer of a picture count under 1 to 3 layers (R172). -/
def temporalOf (layers n : Nat) : Nat := if layers = 3 then (if n % 4 = 0 then 0 else if n % 2 = 0 then 1 else 2) else if layers = 2 then n % 2 else 0

/-- The picture count that a picture references: the previous T0 from a T0, the nearest lower layer from the others (R172). -/
def referenceOf (layers n : Nat) : Option Nat :=
  let back := match layers, temporalOf layers n with
    | 3, 0 => 4
    | 3, 1 => 2
    | 2, 0 => 2
    | _, _ => 1
  if n < back then none else some (n - back)

/-- RTP timestamp of a feed's picture (R173). -/
def feedTs (base : U32) (capture : Nat) : U32 := base + BitVec.ofNat 32 (capture * 15 / 8)

/-- Capture time of an encode context's next picture (R173). -/
def nextCapture (e : EncCtx) (rate : Nat) : Nat := e.first + e.picnum * slotDelta rate

end State

/-- One picture of an encode context (R172 to R182): a repeat when more than two wait, else a picture under the rate rules. -/
def encodePicture (i : Nat) (layers : List LayerCode) (s : State) : State :=
  match tget s.pic.enc i with
  | none => s
  | some e =>
    match tget s.pic.feeds e.feed with
    | none => s
    | some f =>
      let q := f.req
      let c := State.nextCapture e q.rate.toNat
      let m := s.media (((tget s.pic.layouts f.layout).elim 0 (·.conf)))
      if e.gated ∨ f.basted.isSome ∨ m < c ∨ !s.slotReady f.layout c ∨ (s.twin.state = .standby ∧ e.decided ≤ e.picnum) then s
      else
        let waiting := (m - c) / slotDelta q.rate.toNat + 1
        let s := s.mirror 16
        if (if s.twin.state = .standby then e.repeats.contains e.picnum else decide (2 < waiting)) then
          s.modEnc i (fun e => { e with
            picnum := e.picnum + 1, cRepeats := e.cRepeats + 1, waiting := waiting - 1, repeats := e.repeats.filter (fun n => n != e.picnum),
            temporal := State.temporalOf q.temporal.toNat e.picnum, ref := State.referenceOf q.temporal.toNat e.picnum, rtpTs := State.feedTs f.tsBase c })
        else
          let key := State.keyDue e q c
          let served (r : Nat × Bool) : Bool := decide (r.1 ≤ c)
          let two := decide (1 < e.lanes.length)
          let n := s.layersNow q
          let ls := (List.finRange 3).foldl (fun (acc : Vector LayerRate 3) (k : Fin 3) =>
            if k.val < n then acc.set k (codeLayer q k.val c key two (acc.get k) ((layers[k.val]?).getD { headerBits := 0, rows := [] })) else acc) e.layers
          let used := (List.range n).filterMap (fun k => ls[k]?)
          let bits := total used (·.size)
          let fell := total used (fun l => l.fell.length)
          s.modEnc i (fun e => { e with
            picnum := e.picnum + 1, layers := ls, waiting := waiting - 1, input := (s.feedInput q f.layout c e.picnum).take n,
            temporal := State.temporalOf q.temporal.toNat e.picnum, ref := if key then none else State.referenceOf q.temporal.toNat e.picnum, rtpTs := State.feedTs f.tsBase c,
            lastKey := if key && e.keyAt.any (fun r => served r && r.2) then some c else e.lastKey,
            keyAt := if key then e.keyAt.filter (fun r => !served r) else e.keyAt,
            cPictures := e.cPictures + 1,
            cKeys := if key then e.cKeys + 1 else e.cKeys,
            cFallbackPictures := if 0 < fell then e.cFallbackPictures + 1 else e.cFallbackPictures,
            cFallbackRows := e.cFallbackRows + BitVec.ofNat 32 fell,
            cBits := e.cBits + BitVec.ofNat 32 ((e.bitRest + bits) / 1024), bitRest := (e.bitRest + bits) % 1024 })

/-- VIDEO_PACKET_ARRIVAL. -/
def execVideoPacketArrival (source : Nat) (pkt : VideoPkt) (s : State) : Host.Outcome State Fault Refusal := .next (videoArrival source pkt s)
/-- SEGMENT_DECODE. -/
def execSegmentDecode (context : Nat) (seg : SegmentInfo) (s : State) : Host.Outcome State Fault Refusal := .next (segmentDecode context seg s)
/-- ENTROPY_STALL_RESUME. -/
def execEntropyStallResume (context : Nat) (s : State) : Host.Outcome State Fault Refusal := .next (stallResume context s)
/-- PIXEL_LANE_PICTURE. -/
def execPixelLanePicture (context picnum : Nat) (s : State) : Host.Outcome State Fault Refusal := .next (lanePicture context picnum s)
/-- KEY_REQUEST_DEFERRED. -/
def execKeyRequestDeferred (source : Nat) (s : State) : Host.Outcome State Fault Refusal := .next (keyDeferred source s)
/-- DECODE_STALL. -/
def execDecodeStall (context : Nat) (s : State) : Host.Outcome State Fault Refusal := .next (decodeStall context s)
/-- ENCODE_PICTURE. -/
def execEncodePicture (context : Nat) (layers : List LayerCode) (s : State) : Host.Outcome State Fault Refusal := .next (encodePicture context layers s)

end Sys2Proof.Machine
end

