-- ==== Sys2Proof/Machine/Compose.lean ====
section
/-! DEFINITION. Composition (07): layouts, slots, tiles, safety regions, Keystone's verdict and the notice card, feeds; the layout commands. -/

namespace Sys2Proof.Machine

open Sys2Proof

namespace State

/-- Change a layout. -/
def modLayout (s : State) (y : Nat) (f : Layout → Layout) : State := s.modPic (fun p => { p with layouts := tmod p.layouts y f })
/-- Change a feed. -/
def modFeed (s : State) (f : Nat) (g : Feed → Feed) : State := s.modPic (fun p => { p with feeds := tmod p.feeds f g })

/-- A layout as a seam sees it (02 R50). -/
def layoutFor (s : State) (y : Nat) (seam : U16) : Option Layout :=
  (tget s.pic.layouts y).filter (fun q => q.basted.isNone || (seam != 0xFFFF && q.basted == some seam))

/-- A feed as a seam sees it. -/
def feedFor (s : State) (f : Nat) (seam : U16) : Option Feed :=
  (tget s.pic.feeds f).filter (fun q => q.basted.isNone || (seam != 0xFFFF && q.basted == some seam))

/-- Conference of a layout. -/
def confOfLayout (s : State) (y : Nat) : Nat := (tget s.pic.layouts y).elim 0 (·.conf)

/-- Feeds of a layout. -/
def feedsOf (s : State) (y : Nat) : List Nat := (s.pic.feeds.filter (fun p => p.2.layout == y)).map (·.1)

/-! ### Deletion (07 layout.delete, 08 R216) -/

/-- Code of a forwarding entry state (08 Table 8-2). -/
def fwdCode : FwdState → Nat
  | .idle => 0 | .paused => 1 | .forwarding => 2 | .waitingUp => 3 | .transcoding => 4 | .noTranscode => 5

/-- The switch event of an entry (08). -/
def switchEvent (s : State) (e : Nat) (f : FwdEntry) (state : Nat) (media : Option Nat := none) : State :=
  let (cs, ct) := match f.cur with | some c => c | none => (15, 15)
  s.raise 0x0680 St.ok (le 4 e ++ le 2 f.leg ++ le 1 state ++ le 1 (ct + 16 * cs) ++ le 8 (media.getD (s.media (s.confOfLeg f.leg))) ++ le 4 (((tget s.fwd.lines f.leg).elim 0 (·.e))))

/-- Remove a layout with its feeds, contexts, placements and regions, its forwarding entries apart. -/
def dropLayout (s : State) (y : Nat) : State :=
  let fs := s.feedsOf y
  let s := (List.range 128).foldl (fun s t => if s.pic.dec.any (fun d => d.2.places.any (fun q => q.1 == y && q.2.1 == t)) then s.decUnplace y t else s) s
  s.modPic (fun p => { p with
    layouts := tdel p.layouts y, feeds := p.feeds.filter (fun f => !fs.contains f.1), enc := p.enc.filter (fun e => !fs.contains e.2.feed) })

/-- Delete forwarding entries with the transcodes they own, and the entries of those transcodes' feeds; fuel bounds the nesting (08 R216). -/
def dropEntries (s : State) : Nat → List Nat → State
  | _, [] => s
  | 0, _ => s
  | fuel + 1, es =>
    es.foldl (fun s e =>
      match tget s.fwd.entries e with
      | none => s
      | some f =>
        let s := s.switchEvent e { f with cur := none } 0xFF
        let s := { s with fwd := { s.fwd with entries := tdel s.fwd.entries e, hold := tput s.fwd.hold e s.chipNs } }
        match f.trans with
        | some (y, fd) =>
          let next := (s.fwd.entries.filter (fun p => p.2.isFeed && p.2.object == fd)).map (·.1)
          (s.dropLayout y).dropEntries fuel next
        | none => s) s

/-- Delete a layout and the forwarding entries of its feeds. -/
def deleteLayout (s : State) (y : Nat) : State :=
  let fs := s.feedsOf y
  let es := (s.fwd.entries.filter (fun p => p.2.isFeed && fs.contains p.2.object)).map (·.1)
  (s.dropLayout y).dropEntries 8 es

/-! ### Placements of tiles -/

/-- The reservation of a tile's change that waits for its slot or its seam becomes the tile's placement. -/
def settleTile (s : State) (y t : Nat) : State :=
  let s := s.decUnplace y t
  s.modPic (fun p => { p with dec := tmap p.dec (fun _ d => { d with places := d.places.map (fun q => if q.1 = y ∧ q.2.1 = t + 64 then (y, t, q.2.2) else q) }) })

/-- Reserve the decode placement of a tile's change (07 R189, 02 R47). -/
def reserveTile (s : State) (q : TileReq) : State :=
  let y := q.layout.toNat
  let t := q.tile.toNat
  let s := s.decUnplace y (t + 64)
  if q.content = 1 then
    let k := if q.decodeKpxs = 0 then (s.sourceEntry q.source.toNat).elim 0 (fun e => e.maxKpxs.toNat) else q.decodeKpxs.toNat
    s.decPlace q.source.toNat y (t + 64) k q.stallMs.toNat
  else s

end State

/-! ### Slots (R185 to R191) -/

/-- The next slot a layout draws (R185). -/
def Layout.next (l : Layout) : Nat := if l.lastSlot < l.firstSlot then l.firstSlot else l.lastSlot + slotDelta l.rate

/-- The first slot of a layout at or after a media time. -/
def slotAfter (rate m : Nat) : Nat := roundUp m (slotDelta rate)

namespace State

/-- Install a feed's new definition: a changed size or layer structure asks for a key picture, a changed target resets DEBT and ALLOW (06 R174, R177). -/
def setFeed (s : State) (f : Nat) (q : FeedReq) (slot : Nat) : State :=
  match tget s.pic.feeds f with
  | none => s
  | some old =>
    let shape := decide (q.width ≠ old.req.width) || decide (q.height ≠ old.req.height) || decide (q.spatial ≠ old.req.spatial) || decide (q.temporal ≠ old.req.temporal) ||
      decide (q.codec ≠ old.req.codec)
    let s := s.modFeed f (fun g => { g with req := q })
    s.modEnc old.ctx (fun e => { e with
      keyAt := if shape then e.keyAt ++ [(slot, false)] else e.keyAt,
      first := if q.rate = old.req.rate then e.first else roundUp slot (slotDelta q.rate.toNat) - e.picnum * slotDelta q.rate.toNat,
      layers := Vector.ofFn (fun k : Fin 3 =>
        let l := e.layers.get k
        if shape then {} else if layerTarget q k.val = layerTarget old.req k.val then l else { l with debt := 0, allow := 0 }) })

/-- Apply one change that falls due for a slot (R187). -/
def applyChange (s : State) (y slot : Nat) : LayoutChange → State
  | .tile q => (s.modLayout y (fun l => { l with tiles := if q.content = 0 ∧ q.border = 0 then tdel l.tiles q.tile.toNat else tput l.tiles q.tile.toNat q })).settleTile y q.tile.toNat
  | .region r g => s.modLayout y (fun l => { l with regions := match g with | some x => tput l.regions r x | none => tdel l.regions r })
  | .feed f q => s.setFeed f q slot
  | .delete => s.deleteLayout y

/-- A rectangle of an overlay. -/
def overlayAt (s : State) (g : Region) : Option (Nat × Nat × Nat × Nat) :=
  (s.ks.policy.overlays[g.overlay]?).map (fun o => (g.x, g.y, o.width, o.height))

/-- Two rectangles share a sample. -/
def meets (a b : Nat × Nat × Nat × Nat) : Bool :=
  decide (a.1 < b.1 + b.2.2.1) && decide (b.1 < a.1 + a.2.2.1) && decide (a.2.1 < b.2.1 + b.2.2.2) && decide (b.2.1 < a.2.1 + a.2.2.2)

/-- The safety regions drawn and signed: a host region that Keystone's overlay overlaps is not (16 R424). -/
def drawnRegions (s : State) (l : Layout) : Table Region :=
  match (l.regions.find? (fun p => p.2.byKeystone)).bind (fun p => s.overlayAt p.2) with
  | none => l.regions
  | some k => l.regions.filter (fun p => p.2.byKeystone || !(s.overlayAt p.2).any (fun r => meets k r))

/-- The decoded picture that a tile of a context takes in a slot: the newest one whose capture time has come, of those whose last packet arrived in time (R186). -/
def chosen (d : DecCtx) (slot hold : Nat) : Option OutPic :=
  (d.outs.filter (fun o => decide (o.capture ≤ (slot : Int)) && decide (o.arrived ≤ slot + hold))).foldl (fun best o => match best with
    | none => some o
    | some b => if b.capture ≤ o.capture then some o else some b) none

/-- A decode context still works on a picture that a slot may take: a whole access unit that the entropy cell has not finished, or an output picture in the syntax buffer (R186). An access unit whose end has not come is not waited for (DEDUCED, log 80). -/
def unfinished (d : DecCtx) (slot hold : Nat) : Bool :=
  d.units.any (fun u => u.closed && !u.dropped && !u.spent && decide (u.capture ≤ (slot : Int)) && decide (u.arrived ≤ slot + hold)) ||
  d.buffer.any (fun b => b.hdr.shown && decide (b.capture ≤ (slot : Int)) && decide (b.arrived ≤ slot + hold))

/-- The slot waits: an arrival up to HOLD behind it may still decide what a source tile shows, or a decode context has not finished such a picture (R186). -/
def slotWaits (s : State) (l : Layout) (slot : Nat) : Bool :=
  l.tiles.any (fun p => p.2.content == 1 && s.sourceLive p.2.source.toNat &&
    (decide (s.media l.conf ≤ slot + l.hold) || (s.decOf p.2.source.toNat).any (fun e => unfinished e.2 slot l.hold)))

/-- A picture in a tile: its crop, scaled to the inner rectangle; a crop outside the picture leaves nothing to draw (DESIGN CHOICE, log 80). -/
def tilePixels (q : TileReq) (f : Frame) : Content :=
  let n := innerSize q
  if q.cropW ≠ 0 ∧ (f.w ≤ q.cropX.toNat ∨ f.h ≤ q.cropY.toNat ∨ q.cropH = 0) then .off
  else .pixels (scaleFrame f q.cropX.toNat q.cropY.toNat q.cropW.toNat q.cropH.toNat n.1 n.2)

/-- What a tile shows in a slot (Table 7-1). -/
structure Showing where
  content : Content
  concealed : Bool := false
  stale : Bool := false
  /-- the source picture shown, with its mark -/
  source : Option (Frame × Bool) := none
  deriving DecidableEq, Repr

/-- Table 7-1, in its order; a snag on the tile's input comes before the picture it hides. Where no picture was ever shown, mid-grey stands in, concealed (DESIGN CHOICE, log 80). -/
def showTile (s : State) (l : Layout) (slot t : Nat) (q : TileReq) : Showing :=
  let n := innerSize q
  let grey : Showing := { content := .pixels (greyFrame n.1 n.2), concealed := true }
  if q.content = 0 then { content := .off }
  else if q.content = 2 ∨ !s.sourceLive q.source.toNat then { content := .fill }
  else
    match s.decOf q.source.toNat with
    | none => grey
    | some (_, d) =>
      let last := (tget l.shown t).map (fun p => (p.1, p.2))
      let pic := match chosen d slot l.hold with | some o => some (o.pixels, o.concealed) | none => last
      if d.state = .idle then grey
      else if d.state ≠ .stalled ∧ l.snags.contains t then { content := (tget l.contents t).getD grey.content, concealed := true, source := last }
      else
        match pic with
        | none => { grey with stale := d.state == .stalled, concealed := d.state != .stalled }
        | some p => { content := tilePixels q p.1, concealed := p.2 && d.state != .stalled, stale := d.state == .stalled, source := some p }

/-- Rectangles of a layout's safety regions that are drawn: the overlay's samples, place and size, in ascending region number (R194, R199). -/
def regionRects (s : State) (l : Layout) : List (Nat × Nat × Nat × Nat × Nat × Nat) :=
  (s.drawnRegions l).filterMap (fun p => (s.overlayAt p.2).map (fun r => (p.1, ((s.ks.policy.overlays[p.2.overlay]?).elim 0 (·.content)), r)))

/-- Every drawn region's signature has come, or its overlay cannot be drawn (R200, R202). -/
def signed (s : State) (l : Layout) : Bool := (s.drawnRegions l).all (fun p => thas l.signatures p.1 || l.bad.contains p.1)

/-- The notice event (07). -/
def noticeEvent (s : State) (y on region seq slot : Nat) : State :=
  s.raise 0x0581 St.ok (le 2 y ++ le 1 on ++ le 1 region ++ le 4 seq ++ le 8 slot)

/-- Keystone writes a fault record about a layout, and its own log record with the cause (R201, R202, 16 R429). -/
def noticeRecord (s : State) (y cause : Nat) : State :=
  let f := Config.noticeFault y
  let s := s.ksLog cause y 0
  s.faultRec f.1 f.2.1 f.2.2.1 f.2.2.2.1 (detail := f.2.2.2.2)

/-- A card frame store tile has failed: every feed of the layout is gated until the card is rendered again (R202). -/
def gateCard (s : State) (y : Nat) : State :=
  match tget s.pic.layouts y with
  | none => s
  | some l => ((s.modLayout y (fun l => { l with cardGate := true })).noticeRecord y 10).noticeEvent y 1 0xFF s.keep.seq l.next

/-- Keystone's verdict for a slot: the first region that mismatches, or none; a region whose overlay is poisoned mismatches (R200 to R202). -/
def verdictOf (s : State) (l : Layout) : Option Nat :=
  if l.noFit then some 3
  else ((s.drawnRegions l).find? (fun p => l.bad.contains p.1 || (tget l.signatures p.1) != s.ks.expected[p.2.overlay]?)).map (·.1)

/-- The card takes the place of a slot's picture (R201). -/
def Layout.cardAt (l : Layout) (slot : Nat) : Layout := { l with picts := l.picts.map (fun p => if p.slot = slot then { p with card := true } else p) }

/-- The card is substituted from a slot on: where it was not already, a fault record and the notice event say so (R201). -/
def startCard (s : State) (y region slot : Nat) : State :=
  match tget s.pic.layouts y with
  | none => s
  | some l =>
    let s := s.modLayout y (fun l => { Layout.cardAt l slot with card := true, matched := 0 })
    if l.card then s else (s.noticeRecord y 9).noticeEvent y 1 region s.keep.seq slot

/-- A verdict takes effect: the card is substituted from the first mismatch until 96,000 samples of slots have matched (R201). -/
def applyVerdict (s : State) (y : Nat) (bad : Option Nat) : State :=
  match tget s.pic.layouts y with
  | none => s
  | some l =>
    let d := slotDelta l.rate
    let s := s.modLayout y (fun l => { l with awaiting := false, sigUntil := none, bad := [] })
    match bad with
    | some r => (s.modLayout y (fun l => { l with cardSlots := l.cardSlots + 1 })).startCard y r l.lastSlot
    | none =>
      if !l.card then s
      else
        let s := s.modLayout y (fun l => { Layout.cardAt l l.lastSlot with matched := l.matched + d, cardSlots := l.cardSlots + 1 })
        if 96000 ≤ l.matched + d then (s.modLayout y (fun l => { l with card := false, matched := 0 })).noticeEvent y 0 0xFF 0 (l.lastSlot + d) else s

/-- A tile of a slot's picture fails at the encode lane's read: the card is shown where it lies in a safety region, else the samples of the slot before take its place (R202). -/
def outputPoison (s : State) (y slot x y0 w h : Nat) : State :=
  match (tget s.pic.layouts y).bind (fun l => l.picts.find? (fun p => p.slot == slot)) with
  | none => s
  | some p =>
    if p.rects.any (meets (x, y0, w, h)) then (s.startCard y (((tget s.pic.layouts y).elim [] (fun l => s.regionRects l)).find? (fun r => meets (x, y0, w, h) r.2.2) |>.elim 0 (·.1)) slot)
    else
      s.modLayout y (fun l =>
        match l.picts.find? (fun q => decide (q.slot < slot)) with
        | none => l
        | some before =>
          let patch (f : Frame) : Frame := makeFrame f.w f.h (fun c px py => if (within2 x y0 w h c px py).isSome then sampleOf before.pixels c px py else sampleOf f c px py)
          { l with picts := l.picts.map (fun q => if q.slot = slot then { q with pixels := patch q.pixels } else q) })

end State

/-- A slot's picture, once its changes are in: the tiles by Table 7-1, the drawing, the marks, and the signatures that reach Keystone (R186, R190, R191, R194, R200). -/
def drawLayout (y slot : Nat) (silent : List Nat) (s : State) : State :=
  match tget s.pic.layouts y with
  | none => s
  | some l =>
    let views := l.tiles.map (fun p => (p.1, p.2, s.showTile l slot p.1 p.2))
    let rects := s.regionRects l
    let good := rects.filter (fun r => !l.bad.contains r.1)
    let f := drawSlot l.width l.height l.bg (views.map (fun v => (v.1, v.2.1, v.2.2.content))) (good.map (·.2))
    let sign (r : Nat × Nat × Nat × Nat × Nat × Nat) : Nat × U32 := (r.1, crc32c (regionBytes f r.2.2.1 r.2.2.2.1 r.2.2.2.2.1 r.2.2.2.2.2))
    let own : SlotPic := { slot, pixels := f, rects := rects.map (·.2.2) }
    let s := s.modLayout y (fun l => { l with
      lastSlot := slot, awaiting := true, signatures := (good.filter (fun r => !silent.contains r.1)).map sign, sigUntil := some (slot + 2 * slotDelta l.rate),
      picts := own :: l.picts.filter (fun p => decide (slot ≤ p.slot + 192000)),
      shown := views.filterMap (fun v => v.2.2.source.map (fun p => (v.1, p))), contents := views.map (fun v => (v.1, v.2.2.content)), snags := [],
      concealed := (views.filter (fun v => v.2.2.concealed)).length, stale := (views.filter (fun v => v.2.2.stale)).length })
    if s.drawnRegions l = [] ∧ !l.noFit ∧ s.twin.state ≠ .standby then s.applyVerdict y none else s

/-- The output slot of a layout at a media time: its due changes, its picture, and the signatures sent to Keystone but for those that a fault keeps back (R185 to R191, R200). Where a picture may still be chosen, the slot waits. -/
def composeSlot (y slot : Nat) (silent : List Nat) (s : State) : State :=
  match tget s.pic.layouts y with
  | none => s
  | some l =>
    if l.next ≠ slot ∨ l.basted.isSome ∨ l.awaiting ∨ s.media l.conf < slot ∨ l.cells.any (fun p => s.laneDark 10 p.1) then s
    else
      let due := l.changes.filter (fun c => decide (c.1 ≤ slot))
      let t := s.modLayout y (fun l => { l with changes := l.changes.filter (fun c => !decide (c.1 ≤ slot)) })
      let t := due.foldl (fun t c => t.applyChange y slot c.2) t
      if (tget t.pic.layouts y).any (fun l => t.slotWaits l slot) then s else (drawLayout y slot silent t).fin

/-- Keystone gives its verdict once every signature has come (R201); a standby takes the primary's (R203). -/
def safetyVerdict (y : Nat) (s : State) : State :=
  match tget s.pic.layouts y with
  | none => s
  | some l => if !l.awaiting ∨ s.twin.state = .standby ∨ !s.signed l then s else ((s.applyVerdict y (s.verdictOf l)).mirror 16).fin

/-- A signature has not come within two slot intervals: a mismatch (16 R423). -/
def signatureTimeout (y : Nat) (s : State) : State :=
  match tget s.pic.layouts y with
  | none => s
  | some l =>
    if l.awaiting ∧ s.twin.state ≠ .standby ∧ l.sigUntil.any (fun t => decide (t ≤ s.media l.conf)) ∧ !s.signed l then
      ((s.applyVerdict y (s.verdictOf l)).mirror 16).fin
    else s

/-- Keystone has rendered the notice card again: the feeds are ungated (R202). -/
def cardRendered (y : Nat) (s : State) : State :=
  match tget s.pic.layouts y with
  | none => s
  | some l => if l.cardGate then ((s.modLayout y (fun l => { l with cardGate := false })).noticeEvent y 0 0xFF 0 l.next).fin else s

/-! ### layout commands -/

/-- The layout a create names, or the lowest free one. -/
def layoutIndex (q : LayoutReq) (s : State) : Option Nat :=
  if q.layout = 0xFFFF then lowest (fun y => !thas s.pic.layouts y) 0 2048 else some q.layout.toNat

/-- Create a layout whose first slot is the first at or after a media time (R185). -/
def newLayout (q : LayoutReq) (cells : List (Nat × Nat)) (m : Nat) (basted : Option U16) : Layout :=
  { conf := q.conf.toNat, width := q.width.toNat, height := q.height.toNat, rate := q.rate.toNat, standing := q.standing,
    hold := if q.holdSamples = 0xFFFF then 1920 else q.holdSamples.toNat, bg := (q.bgY, q.bgCb, q.bgCr),
    firstSlot := slotAfter q.rate.toNat m, cells, kpxs := kpxs q.width.toNat q.height.toNat q.rate.toNat, basted }

/-- Create a layout. -/
def doLayoutCreate (q : LayoutReq) (y m : Nat) (basted : Option U16) (s : State) : State :=
  s.modPic (fun p => { p with layouts := tput p.layouts y (newLayout q ((s.place 10 (kpxs q.width.toNat q.height.toNat q.rate.toNat)).getD []) m basted) })

/-- layout.create (R185). -/
def rowLayoutCreate (m : Mbx) (q : LayoutReq) : Row where
  opcode := 0x0500
  checks := fun c s =>
    let charge := kpxs q.width.toNat q.height.toNat q.rate.toNat
    let y := layoutIndex q s
    { fields := decide (q.conf.toNat < 8192) && (q.layout == 0xFFFF || decide (q.layout.toNat < 2048)) && sizeOk q.width && sizeOk q.height && decide (q.width.toNat * q.height.toNat ≤ maxLuma) &&
        rates.contains q.rate.toNat && (q.holdSamples == 0xFFFF || decide (q.holdSamples.toNat ≤ 19200)) && decide (charge ≤ 2000000),
      objects := [need (s.confFor q.conf.toNat c.hdr.seam).isSome St.noObject],
      scope := some q.conf.toNat,
      items := match y with | some k => [.layout k] | none => [],
      busy := [need (q.layout == 0xFFFF || !thas s.pic.layouts q.layout.toNat) St.busy, s.stopIf (doLayoutCreate q (y.getD 2048) 0 none s)],
      rest := [s.admission (doLayoutCreate q (y.getD 2048) 0 none s) (placed := [s.placeCheck 10 charge])] }
  layout := fun v => [(0, 0, 16, q.conf.toNat), (2, 0, 16, q.layout.toNat), (4, 0, 16, q.width.toNat), (6, 0, 16, q.height.toNat), (8, 0, 8, q.rate.toNat), (0x0A, 0, 16, q.holdSamples.toNat),
    (0x0C, 0, 10, q.bgY.toNat), (0x0C, 10, 10, q.bgCb.toNat), (0x0C, 20, 10, q.bgCr.toNat)] ++ (if v = 0x14 then [] else [(9, 0, 1, bit q.standing)])
  effect := fun c s =>
    let q := if c.hdr.version = 0x14 then { q with standing := false } else q
    match layoutIndex q s with
    | some y =>
      let t := doLayoutCreate q y (s.media q.conf.toNat + 96) none s
      (t, Rep.ok (le 2 y ++ le 6 0 ++ le 8 ((tget t.pic.layouts y).elim 0 (·.firstSlot))))
    | none => (s, Rep.fail St.noCapacity [13, 1, 0])
  baste := fun c s => match layoutIndex q s with
    | some y => (doLayoutCreate q y 0 (some c.hdr.seam) s, Rep.ok (le 2 y ++ le 14 0), some (.layoutCreate m q, y))
    | none => (s, Rep.fail St.noCapacity [13, 1, 0], none)

/-- A change waits for the first slot at or after a media time (R187). -/
def State.waitSlot (s : State) (y m : Nat) (c : LayoutChange) : State := s.modLayout y (fun l => { l with changes := l.changes ++ [(m, c)] })

/-- layout.delete. -/
def rowLayoutDelete (m : Mbx) (layout : U16) : Row where
  opcode := 0x0501
  checks := fun c s =>
    let y := layout.toNat
    { objects := [need (s.layoutFor y c.hdr.seam).isSome St.noObject],
      scope := some (s.confOfLayout y),
      items := [.layout y],
      also := s.heldItems (fun i => match i with
        | .tile k _ | .region k _ => k == y
        | .feed f => (tget s.pic.feeds f).any (fun g => g.layout == y)
        | _ => false),
      rest := [need ((tget s.pic.layouts y).all (fun l => !l.regions.any (fun p => p.2.byKeystone))) St.isProtected],
      last := [need ((tget s.pic.layouts y).all (fun l => l.owner.isNone)) St.refused] }
  layout := fun _ => [(0, 0, 16, layout.toNat)]
  effect := fun _ s => (s.waitSlot layout.toNat (s.media (s.confOfLayout layout.toNat) + 96) .delete, Rep.ok)
  baste := fun _ s => (s, Rep.ok, some (.layoutDelete m layout, 0))

/-- An even 16-bit field. -/
def even (x : U16) : Bool := x.toNat % 2 == 0

/-- The range checks of layout.tile (R188, R196). -/
def tileOk (q : TileReq) : Bool :=
  decide (q.tile.toNat ≤ 63) && decide (q.content.toNat ≤ 2) && even q.x && even q.y && even q.w && even q.h && within 2 4096 q.w.toNat && within 2 4096 q.h.toNat &&
  even q.cropX && even q.cropY && even q.cropW && even q.cropH && decide (q.border.toNat ≤ 64) && q.border.toNat % 2 == 0 &&
  decide (q.alpha.toNat ≤ 1024) && decide (q.borderAlpha.toNat ≤ 1024) && withinOr 0 100 10000 q.stallMs.toNat &&
  (q.content != 1 || (q.source.toNat % 4 != 0 && decide (q.source.toNat < 262144)))

/-- DECODE_KPXS of a placement: MAX_KPXS where the command states none (04 R119). -/
def tileCharge (s : State) (q : TileReq) : Nat :=
  if q.decodeKpxs = 0 then (s.sourceEntry q.source.toNat).elim 0 (fun e => e.maxKpxs.toNat) else q.decodeKpxs.toNat

/-- A source exists: its leg does, and the offer declares it (04 R104). -/
def State.hasSource (s : State) (source : Nat) (seam : U16) : Bool :=
  (s.legFor (source / 4) seam).any (fun q => LegOffer.sends (State.offerOf q (seam != 0xFFFF)) (source % 4))

/-- layout.tile (R188, R189). -/
def rowLayoutTile (m : Mbx) (q : TileReq) : Row where
  opcode := 0x0502
  checks := fun c s =>
    let y := q.layout.toNat
    let src := q.source.toNat
    let k := tileCharge s q
    { fields := decide (y < 2048) && tileOk q,
      objects := [need (s.layoutFor y c.hdr.seam).isSome St.noObject,
                  need (q.content != 1 || s.hasSource src c.hdr.seam) St.noObject,
                  need (q.content != 1 || s.confOfSource src == s.confOfLayout y) St.badField,
                  need (q.content != 1 || decide (k ≤ (s.sourceEntry src).elim 0 (fun e => e.maxKpxs.toNat))) St.badField],
      scope := some (s.confOfLayout y),
      items := [.tile y q.tile.toNat],
      also := [.layout y],
      busy := [if q.content = 1 then s.stopIf (s.reserveTile q) else none],
      rest := [if q.content = 1 then s.admission (s.reserveTile q) (placed := [(s.decUnplace y (q.tile.toNat + 64)).decPlaceCheck src y (q.tile.toNat + 64) k]) else none],
      last := [need ((tget s.pic.layouts y).all (fun l => l.owner.isNone)) St.refused] }
  layout := fun _ => [(0, 0, 16, q.layout.toNat), (2, 0, 8, q.tile.toNat), (3, 0, 8, q.content.toNat), (4, 0, 32, q.source.toNat), (8, 0, 16, q.x.toNat), (0x0A, 0, 16, q.y.toNat), (0x0C, 0, 16, q.w.toNat),
    (0x0E, 0, 16, q.h.toNat), (0x10, 0, 16, q.cropX.toNat), (0x12, 0, 16, q.cropY.toNat), (0x14, 0, 16, q.cropW.toNat), (0x16, 0, 16, q.cropH.toNat), (0x18, 0, 8, q.z.toNat), (0x19, 0, 8, q.border.toNat),
    (0x1A, 0, 16, q.alpha.toNat), (0x1C, 0, 16, q.borderAlpha.toNat), (0x1E, 0, 16, q.stallMs.toNat), (0x20, 0, 30, q.fill.toNat), (0x24, 0, 30, q.borderColour.toNat), (0x28, 0, 32, q.decodeKpxs.toNat)]
  effect := fun _ s => ((s.reserveTile q).waitSlot q.layout.toNat (s.media (s.confOfLayout q.layout.toNat) + 96) (.tile q), Rep.ok)
  baste := fun _ s => (s.reserveTile q, Rep.ok, some (.layoutTile m q, 0))

/-- The regions a layout will hold: those it holds with the changes that wait. -/
def regionsAfter (l : Layout) : Table Region :=
  l.changes.foldl (fun acc c => match c.2 with
    | .region r (some g) => tput acc r g
    | .region r none => tdel acc r
    | _ => acc) l.regions

/-- The regions of a layout that a new one may not meet: those it will hold, and those that seams in progress hold for it; the command's own item is replaced (02 R47, R49). -/
def regionsNear (s : State) (y region : Nat) : List Region :=
  let live := (tget s.pic.layouts y).elim [] (fun l => ((regionsAfter l).filter (fun p => p.1 != region)).map (·.2))
  live ++ s.basts.filterMap (fun i => match i with
    | .layoutSafety _ layout r overlay x y0 => if layout.toNat = y ∧ r.toNat ≠ region ∧ overlay ≠ 0xFF then some { overlay := overlay.toNat, x := x.toNat, y := y0.toNat } else none
    | _ => none)

/-- layout.safety (R199). -/
def rowLayoutSafety (m : Mbx) (layout : U16) (region overlay : U8) (x y0 : U16) : Row where
  opcode := 0x0503
  checks := fun c s =>
    let y := layout.toNat
    let g : Region := { overlay := overlay.toNat, x := x.toNat, y := y0.toNat }
    let rect := s.overlayAt g
    { fields := decide (y < 2048) && decide (region.toNat ≤ 3) && even x && even y0,
      objects := [need (s.layoutFor y c.hdr.seam).isSome St.noObject, need (overlay == 0xFF || rect.isSome) St.noObject,
        need (overlay == 0xFF || (tget s.pic.layouts y).any (fun l => rect.any (fun r =>
          decide (r.1 + r.2.2.1 ≤ l.width) && decide (r.2.1 + r.2.2.2 ≤ l.height) &&
          !(regionsNear s y region.toNat).any (fun p => !p.byKeystone && (s.overlayAt p).any (fun o => State.meets r o))))) St.badField],
      scope := some (s.confOfLayout y),
      items := [.region y region.toNat],
      also := [.layout y],
      rest := [need ((tget s.pic.layouts y).all (fun l => !l.regions.any (fun p => p.1 == region.toNat && p.2.byKeystone))) St.isProtected],
      last := [need ((tget s.pic.layouts y).all (fun l => l.owner.isNone)) St.refused] }
  layout := fun _ => [(0, 0, 16, layout.toNat), (2, 0, 8, region.toNat), (3, 0, 8, overlay.toNat), (4, 0, 16, x.toNat), (6, 0, 16, y0.toNat)]
  effect := fun _ s =>
    let g : Region := { overlay := overlay.toNat, x := x.toNat, y := y0.toNat }
    (s.waitSlot layout.toNat (s.media (s.confOfLayout layout.toNat) + 96) (.region region.toNat (if overlay = 0xFF then none else some g)),
     Rep.ok (match s.overlayAt g with | some r => le 2 r.2.2.1 ++ le 2 r.2.2.2 | none => le 4 0))
  baste := fun _ s =>
    (s, Rep.ok (match s.overlayAt { overlay := overlay.toNat, x := 0, y := 0 } with | some r => le 2 r.2.2.1 ++ le 2 r.2.2.2 | none => le 4 0), some (.layoutSafety m layout region overlay x y0, 0))

/-- The range checks of layout.feed (06 Table 6-1, Table 6-2; 07 card). -/
def feedOk (q : FeedReq) : Bool :=
  let p := q.profileLevel.toNat / 256
  let lv := q.profileLevel.toNat % 256
  let n := q.spatial.toNat
  let tgt (k v : Nat) : Bool := if k < n then within 16 400000 v else v == 0
  (match q.codec.toNat with
    | 0x10 => [0x42, 0x64].contains p && (lv == 0 || lv == 9 || within 10 51 lv)
    | 0x11 => [0x01, 0x02].contains p && (lv == 0 || within 10 51 lv)
    | 0x12 => p == 0 && lv == 0
    | 0x14 => p == 0 && (lv == 0 || within 20 51 lv)
    | _ => false) &&
  (q.depth == 8 || (q.depth == 10 && q.codec != 0x10 && q.codec != 0x12)) &&
  sizeOk q.width && sizeOk q.height && decide (q.width.toNat * q.height.toNat ≤ maxLuma) && rates.contains q.rate.toNat &&
  within 1 3 q.temporal.toNat && within 1 3 n && (n == 1 || q.codec == 0x14) &&
  q.width.toNat % (8 * 2 ^ (n - 1)) == 0 && q.height.toNat % (8 * 2 ^ (n - 1)) == 0 &&
  (q.keyMinMs == 0xFFFF || decide (q.keyMinMs.toNat ≤ 5000)) && tgt 0 q.target0.toNat && tgt 1 q.target1.toNat && tgt 2 q.target2.toNat &&
  (q.codec != 0x12 || decide (feedKpxs q ≤ 375000)) && decide (feedKpxs q ≤ 750000)

/-- A feed's place in its layout: its rate and its size (R204). -/
def feedFits (l : Layout) (q : FeedReq) : Bool :=
  slotDelta q.rate.toNat % slotDelta l.rate == 0 && decide (q.width.toNat ≤ l.width) && decide (q.height.toNat ≤ l.height)

/-- A new feed: its SSRCs and TS_BASE are drawn, its encode context is created (06 R172, R173; 12 R315). -/
def newFeed (q : FeedReq) (y f m : Nat) (basted : Option U16) (s : State) : State :=
  let lanes := (s.place 9 (feedKpxs q)).getD []
  let ctx := (lowest (fun i => !thas s.pic.enc i) 0 2048).getD 2048
  let r := (List.range (FeedReq_layers q)).foldl (fun (acc : State × List U32) _ => let d := acc.1.draw32; (d.2, acc.2 ++ [d.1])) (s, [])
  let (ts, s) := r.1.draw32
  let slot := slotAfter ((tget s.pic.layouts y).elim 30 (·.rate)) m
  s.modPic (fun p => { p with
    feeds := tput p.feeds f { layout := y, req := q, ssrc := r.2, tsBase := ts, ctx, basted },
    enc := tput p.enc ctx { feed := f, kpxs := feedKpxs q, lanes, first := roundUp slot (slotDelta q.rate.toNat) } })

/-- An existing feed gives up its lanes for a new charge (04 R120). -/
def State.feedCharge (s : State) (f : Nat) (q : FeedReq) : State :=
  match tget s.pic.feeds f with
  | none => s
  | some g =>
    if (tget s.pic.enc g.ctx).any (fun e => e.kpxs == feedKpxs q) then s
    else
      let t := s.modEnc g.ctx (fun e => { e with lanes := [] })
      s.modEnc g.ctx (fun e => { e with kpxs := feedKpxs q, lanes := (t.place 9 (feedKpxs q)).getD e.lanes })

/-- SSRC of each spatial layer. -/
def ssrcBytes (g : Feed) : Bytes := (List.range 3).flatMap (fun k => le 4 (((g.ssrc[k]?).getD 0).toNat))

/-- The feed a layout.feed names, or the lowest free one. -/
def feedIndex (q : FeedReq) (s : State) : Option Nat := if q.feed = 0xFFFF then lowest (fun f => !thas s.pic.feeds f) 0 16384 else some q.feed.toNat

/-- layout.feed (R204). -/
def rowLayoutFeed (m : Mbx) (q : FeedReq) : Row where
  opcode := 0x0504
  checks := fun c s =>
    let y := q.layout.toNat
    let new := q.feed == 0xFFFF
    let after := if new then newFeed q y ((feedIndex q s).getD 16384) 0 none s else s.feedCharge q.feed.toNat q
    let less := if new then s else (match tget s.pic.feeds q.feed.toNat with | some g => s.modEnc g.ctx (fun e => { e with lanes := [] }) | none => s)
    { fields := decide (y < 2048) && (new || decide (q.feed.toNat < 16384)) && feedOk q,
      objects := [need (s.layoutFor y c.hdr.seam).isSome St.noObject,
                  need (new || (s.feedFor q.feed.toNat c.hdr.seam).isSome) St.noObject,
                  need (new || (tget s.pic.feeds q.feed.toNat).any (fun g => g.layout == y)) St.badField,
                  need ((tget s.pic.layouts y).any (fun l => feedFits l q)) St.badField],
      scope := some (s.confOfLayout y),
      items := match feedIndex q s with | some f => [.feed f] | none => [],
      also := [.layout y],
      busy := [s.stopIf after],
      rest := [s.admission after (placed := [less.placeCheck 9 (feedKpxs q)])],
      last := [need ((tget s.pic.layouts y).all (fun l => l.owner.isNone)) St.refused] }
  layout := fun _ => [(0, 0, 16, q.layout.toNat), (2, 0, 16, q.feed.toNat), (4, 0, 8, q.codec.toNat), (5, 0, 8, q.depth.toNat), (6, 0, 16, q.profileLevel.toNat), (8, 0, 16, q.width.toNat), (0x0A, 0, 16, q.height.toNat),
    (0x0C, 0, 8, q.rate.toNat), (0x0D, 0, 4, q.temporal.toNat), (0x0D, 4, 4, q.spatial.toNat), (0x0E, 0, 16, q.keyMinMs.toNat), (0x10, 0, 32, q.target0.toNat), (0x14, 0, 32, q.target1.toNat), (0x18, 0, 32, q.target2.toNat)]
  effect := fun _ s =>
    let y := q.layout.toNat
    let due := s.media (s.confOfLayout y) + 96
    match feedIndex q s with
    | none => (s, Rep.fail St.noCapacity [12, 1, 0])
    | some f =>
      let t := if q.feed = 0xFFFF then newFeed q y f due none s else (s.feedCharge f q).waitSlot y due (.feed f q)
      (t, Rep.ok (le 2 f ++ le 2 0 ++ ((tget t.pic.feeds f).elim [] ssrcBytes)))
  baste := fun c s =>
    match feedIndex q s with
    | none => (s, Rep.fail St.noCapacity [12, 1, 0], none)
    | some f =>
      let t := if q.feed = 0xFFFF then newFeed q q.layout.toNat f 0 (some c.hdr.seam) s else s.feedCharge f q
      (t, Rep.ok (le 2 f ++ le 2 0 ++ ((tget t.pic.feeds f).elim [] ssrcBytes)), some (.layoutFeed m q, f))

/-- layout.keypic (06 R175). -/
def rowLayoutKeypic (m : Mbx) (feed : U16) : Row where
  opcode := 0x0505
  checks := fun c s =>
    { objects := [need (s.feedFor feed.toNat c.hdr.seam).isSome St.noObject],
      scope := some (s.confOfLayout ((tget s.pic.feeds feed.toNat).elim 0 (·.layout))),
      items := [.feed feed.toNat],
      also := ((tget s.pic.feeds feed.toNat).map (fun g => Item.layout g.layout)).toList }
  layout := fun _ => [(0, 0, 16, feed.toNat)]
  effect := fun _ s =>
    match tget s.pic.feeds feed.toNat with
    | some g => (s.wantKey g.ctx (s.media (s.confOfLayout g.layout) + 96) false, Rep.ok)
    | none => (s, Rep.fail St.noObject)
  baste := fun _ s => (s, Rep.ok, some (.layoutKeypic m feed, 0))

/-- layout.query. -/
def rowLayoutQuery (layout : U16) : Row where
  opcode := 0x0506
  checks := fun _ s => { objects := [need (s.layoutFor layout.toNat 0xFFFF).isSome St.noObject] }
  layout := fun _ => [(0, 0, 16, layout.toNat)]
  effect := fun _ s =>
    match tget s.pic.layouts layout.toNat with
    | none => (s, Rep.fail St.noObject)
    | some l =>
      (s, Rep.ok (le 2 l.conf ++ le 1 (l.tiles.filter (fun p => p.2.content != 0)).length ++
        le 1 (total l.regions (fun p => 2 ^ p.1) + 16 * bit l.card) ++ le 1 l.concealed ++ le 1 l.stale ++ le 2 (s.feedsOf layout.toNat).length ++
        le 8 l.lastSlot ++ le 4 l.kpxs ++ le 4 l.cardSlots.toNat))

/-- Counters of a decode context, in the order of 06 R184. -/
def decCounters (d : DecCtx) : List U32 :=
  [d.cPictures, d.cConcealed, d.cIllegal, d.cRefMissing, d.cBinCut, d.cWorkCut, d.cOverflow, d.cPoisoned, d.cRateDrop, d.cFir, d.cPli]

/-- Counters of an encode context, in the order of 06 R184. -/
def encCounters (e : EncCtx) : List U32 := [e.cPictures, e.cKeys, e.cFallbackPictures, e.cFallbackRows, e.cRepeats, e.cBits]

/-- layout.context. -/
def rowLayoutContext (kind : U8) (index : U16) : Row where
  opcode := 0x0507
  checks := fun _ s =>
    { fields := decide (kind.toNat ≤ 1) && decide (index.toNat < 8192) && (kind == 0 || decide (index.toNat < 2048)),
      objects := [need (if kind = 0 then thas s.pic.dec index.toNat else thas s.pic.enc index.toNat) St.noObject] }
  layout := fun _ => [(0, 0, 8, kind.toNat), (2, 0, 16, index.toNat)]
  effect := fun _ s =>
    if kind = 0 then
      match tget s.pic.dec index.toNat with
      | none => (s, Rep.fail St.noObject)
      | some d => (s, Rep.ok (le 1 (State.decCode d.state) ++ le 1 d.lanes.length ++ le 2 0 ++ le 4 d.source ++ le 8 d.picnum ++ le 4 d.kpxs ++ le 4 d.places.length ++
          (decCounters d).flatMap (fun x => le 4 x.toNat)))
    else
      match tget s.pic.enc index.toNat with
      | none => (s, Rep.fail St.noObject)
      | some e => (s, Rep.ok (le 1 (bit e.gated) ++ le 1 e.lanes.length ++ le 2 0 ++ le 4 e.feed ++ le 8 e.picnum ++ le 4 e.kpxs ++ le 4 0 ++
          (encCounters e).flatMap (fun x => le 4 x.toNat)))

/-- COMPOSE_SLOT. -/
def execComposeSlot (layout slot : Nat) (silent : List Nat) (s : State) : Host.Outcome State Fault Refusal := .next (composeSlot layout slot silent s)
/-- SAFETY_VERDICT. -/
def execSafetyVerdict (layout : Nat) (s : State) : Host.Outcome State Fault Refusal := .next (safetyVerdict layout s)
/-- SIGNATURE_TIMEOUT. -/
def execSignatureTimeout (layout : Nat) (s : State) : Host.Outcome State Fault Refusal := .next (signatureTimeout layout s)
/-- NOTICE_CARD_RENDERED. -/
def execNoticeCardRendered (layout : Nat) (s : State) : Host.Outcome State Fault Refusal := .next (cardRendered layout s)
/-- LAYOUT_CREATE. -/
def execLayoutCreate (m : Mbx) (req : LayoutReq) (s : State) : Host.Outcome State Fault Refusal := .next (s.run m (rowLayoutCreate m req))
/-- LAYOUT_DELETE. -/
def execLayoutDelete (m : Mbx) (layout : U16) (s : State) : Host.Outcome State Fault Refusal := .next (s.run m (rowLayoutDelete m layout))
/-- LAYOUT_TILE. -/
def execLayoutTile (m : Mbx) (req : TileReq) (s : State) : Host.Outcome State Fault Refusal := .next (s.run m (rowLayoutTile m req))
/-- LAYOUT_SAFETY. -/
def execLayoutSafety (m : Mbx) (layout : U16) (region overlay : U8) (x y : U16) (s : State) : Host.Outcome State Fault Refusal :=
  .next (s.run m (rowLayoutSafety m layout region overlay x y))
/-- LAYOUT_FEED. -/
def execLayoutFeed (m : Mbx) (req : FeedReq) (s : State) : Host.Outcome State Fault Refusal := .next (s.run m (rowLayoutFeed m req))
/-- LAYOUT_KEYPIC. -/
def execLayoutKeypic (m : Mbx) (feed : U16) (s : State) : Host.Outcome State Fault Refusal := .next (s.run m (rowLayoutKeypic m feed))
/-- LAYOUT_QUERY. -/
def execLayoutQuery (m : Mbx) (layout : U16) (s : State) : Host.Outcome State Fault Refusal := .next (s.run m (rowLayoutQuery layout))
/-- LAYOUT_CONTEXT. -/
def execLayoutContext (m : Mbx) (kind : U8) (index : U16) (s : State) : Host.Outcome State Fault Refusal := .next (s.run m (rowLayoutContext kind index))

end Sys2Proof.Machine
end

