-- ==== Sys2Proof/Machine/Forward.lean ====
section
/-! DEFINITION. Layered forwarding (08): line estimates, layer choice, switching, rewriting, key requests, transcodes, and the fwd commands. -/

namespace Sys2Proof.Machine

open Sys2Proof

/-! ### Allocation (R211 to R213), as pure rules -/

/-- A layer combination (s, t) with its rate in bit/s. -/
abbrev Combo := (Nat × Nat) × Nat

/-- Combinations in ascending order of rate, ties by (s, t) (R212). -/
def comboLe (a b : Combo) : Bool :=
  decide (a.2 < b.2) || (a.2 == b.2 && (decide (a.1.1 < b.1.1) || (a.1.1 == b.1.1 && decide (a.1.2 ≤ b.1.2))))

/-- One entry in an allocation: its priority, its eligible combinations in order, and whether it transcodes. -/
structure Bid where
  entry : Nat
  priority : Nat
  trans : Bool
  combos : List Combo
  /-- position in the list of the combination held; none: none -/
  held : Option Nat := none
  stopped : Bool := false
  deriving DecidableEq, Repr

/-- The rate a bid holds. -/
def Bid.rate (b : Bid) : Nat := match b.held with | some k => ((b.combos[k]?).map (·.2)).getD 0 | none => 0
/-- The combination a bid holds. -/
def Bid.combo (b : Bid) : Option (Nat × Nat) := match b.held with | some k => (b.combos[k]?).map (·.1) | none => none

/-- Share of a transcoding entry in kbit/s (R213 step 1). -/
def shareOf (v : Int) (priority weights : Nat) : Nat := max 64 (v * (1 + priority) / weights).toNat

/-- Step 2: the lowest combination, if it fits the remainder. -/
def takeLowest : List Bid → Int → List Bid × Int
  | [], r => ([], r)
  | b :: bs, r =>
    match b.combos with
    | c :: _ =>
      if (c.2 : Int) ≤ r then let x := takeLowest bs (r - c.2); ({ b with held := some 0 } :: x.1, x.2)
      else let x := takeLowest bs r; (b :: x.1, x.2)
    | [] => let x := takeLowest bs r; (b :: x.1, x.2)

/-- Step 3, one round: each entry steps to its next combination if the added rate fits; one that does not steps no more. -/
def stepRound : List Bid → Int → List Bid × Int
  | [], r => ([], r)
  | b :: bs, r =>
    match b.held with
    | some k =>
      match b.combos[k + 1]? with
      | some c =>
        if !b.stopped ∧ (c.2 : Int) - b.rate ≤ r then let x := stepRound bs (r - ((c.2 : Int) - b.rate)); ({ b with held := some (k + 1) } :: x.1, x.2)
        else let x := stepRound bs r; ({ b with stopped := true } :: x.1, x.2)
      | none => let x := stepRound bs r; ({ b with stopped := true } :: x.1, x.2)
    | none => let x := stepRound bs r; (b :: x.1, x.2)

/-- Rounds of step 3; no entry has more than nine combinations, so nine rounds end it. -/
def stepRounds : Nat → List Bid × Int → List Bid × Int
  | 0, x => x
  | n + 1, x => stepRounds n (stepRound x.1 x.2)

/-- The allocation of a budget of v kbit/s: the bids of the forwarding entries with the combinations they hold (R213). -/
def allocate (v : Int) (bids : List Bid) (weights : Nat) : List Bid :=
  let shares := total (bids.filter (·.trans)) (fun b => shareOf v b.priority weights)
  let order := sortBy (fun (a b : Bid) => decide (b.priority < a.priority) || (a.priority == b.priority && decide (a.entry ≤ b.entry))) (bids.filter (fun b => !b.trans))
  if v ≤ 0 then order else (stepRounds 9 (takeLowest order ((v - shares) * 1000))).1

/-- The next line estimate from the window's figures (R208). -/
def nextE (e minKbps rDel loss ce qMs : Nat) : Nat :=
  if 100 < loss ∨ 50 < ce ∨ 100 < qMs then max minKbps (rDel * 85 / 100)
  else if 20 < loss ∨ 40 < qMs then e
  else
    let up := e + max 8 (e * 5 / 100)
    if rDel * 3 / 2 < up then max e (rDel * 3 / 2) else up

/-- The median of a list of numbers, the lower of the two middle values of an even count. -/
def medianNat (l : List Nat) : Nat := ((sortBy (fun a b : Nat => decide (a ≤ b)) l)[(l.length - 1) / 2]?).getD 0

namespace State

/-! ### Entries and objects -/

/-- Change the forwarding state. -/
def modFwd (s : State) (f : Fwd → Fwd) : State := { s with fwd := f s.fwd }
/-- Change an entry. -/
def modEntry (s : State) (e : Nat) (f : FwdEntry → FwdEntry) : State := s.modFwd (fun w => { w with entries := tmod w.entries e f })
/-- A leg's line. -/
def line (s : State) (l : Nat) : Line := (tget s.fwd.lines l).getD {}
/-- Change a leg's line. -/
def modLine (s : State) (l : Nat) (f : Line → Line) : State := s.modFwd (fun w => { w with lines := tput w.lines l (f (s.line l)) })
/-- Settings of a source. -/
def fwdSrc (s : State) (src : Nat) : FwdSource := (tget s.fwd.sources src).getD {}
/-- The object of an entry: settings and measured rates. -/
def objectRates (s : State) (isFeed : Bool) (o : Nat) : FwdSource := if isFeed then (tget s.fwd.feedRates o).getD {} else s.fwdSrc o

/-- Conference of an object (R205). -/
def objectConf (s : State) (isFeed : Bool) (o : Nat) : Nat :=
  if isFeed then (tget s.pic.feeds o).elim 0 (fun g => s.confOfLayout g.layout) else s.confOfSource o

/-- Codec of an object. -/
def objectCodec (s : State) (isFeed : Bool) (o : Nat) : Option U8 :=
  if isFeed then (tget s.pic.feeds o).map (fun g => g.req.codec) else (s.sourceEntry o).map (·.codec)

/-- The object is present: its leg is ACTIVE and sends the source, or the feed exists (Table 8-2). -/
def objectLive (s : State) (isFeed : Bool) (o : Nat) : Bool :=
  if isFeed then (tget s.pic.feeds o).any (fun g => g.basted.isNone) else s.sourceLive o

/-- Spatial layers of an object (R206, R172). -/
def objectLayers (s : State) (isFeed : Bool) (o : Nat) : Nat :=
  if isFeed then (tget s.pic.feeds o).elim 1 (fun g => FeedReq_layers g.req)
  else match s.sourceEntry o with
    | some e => if e.codec = 0x14 ∧ (s.fwdSrc o).ddExt ≠ 0 then CodecEntry.layersS e else 1
    | none => 1

/-- MAX_KPXS of an object: the source's RECV entry, or the feed's top layer. -/
def objectKpxs (s : State) (isFeed : Bool) (o : Nat) : Nat :=
  if isFeed then (tget s.pic.feeds o).elim 0 (fun g => kpxs g.req.width.toNat g.req.height.toNat g.req.rate.toNat)
  else (s.sourceEntry o).elim 0 (fun e => e.maxKpxs.toNat)

/-- The receiver's usable SEND entry for a codec (R212, R221). -/
def sendFor (s : State) (leg : Nat) (codec : Option U8) : Option CodecEntry :=
  (tget s.model.legs leg).bind (fun q => q.offer.codecs.find? (fun e => CodecEntry.sendFor e 1 && some e.codec == codec))

/-- The receiver is ACTIVE and the entry's object is present. -/
def entryLive (s : State) (f : FwdEntry) : Bool := f.basted.isNone && (s.legLive f.leg).any (fun q => q.state == .active) && s.objectLive f.isFeed f.object

/-- Entries of a receiving leg, those of open seams apart. -/
def entriesOf (s : State) (l : Nat) : Table FwdEntry := s.fwd.entries.filter (fun p => p.2.leg == l && p.2.basted.isNone)

/-- Media time of an entry's conference. -/
def entryMedia (s : State) (f : FwdEntry) : Nat := s.media (s.confOfLeg f.leg)

/-! ### Layer combinations (R212) -/

/-- Bits per second of the layers up to (a, t), measured over the last 1,000 ms. -/
def layerBits (r : FwdSource) (m a t : Nat) : Nat :=
  total (r.arrivals.filter (fun x => decide (m < x.1 + 48000) && decide (x.2.1 / 16 ≤ a) && decide (x.2.1 % 16 ≤ t))) (fun x => 8 * x.2.2)

/-- A layer carried data in the last 1,000 ms. -/
def layerSeen (r : FwdSource) (m a t : Nat) : Bool := r.arrivals.any (fun x => decide (m < x.1 + 48000) && x.2.1 == 16 * a + t)

/-- Spatial layers above what a tile shows are left out: the limit is the smallest layer whose width and height reach the tile, or the top layer; where sizes are unknown there is no limit (R212, Table 8-1). -/
def tileLimit (s : State) (f : FwdEntry) : Nat :=
  let sizes : List (Nat × Nat) :=
    if f.isFeed then (tget s.pic.feeds f.object).elim [] (fun g => (List.range (FeedReq_layers g.req)).map (layerSize g.req))
    else if s.objectCodec false f.object = some 0x14 ∧ (s.fwdSrc f.object).ddExt ≠ 0 then (s.fwdSrc f.object).sizes else []
  if sizes = [] ∨ f.tileW = 0 ∨ f.tileH = 0 then 2
  else ((List.range sizes.length).find? (fun k => (sizes[k]?).any (fun z => decide (f.tileW ≤ z.1) && decide (f.tileH ≤ z.2)))).getD (sizes.length - 1)

/-- The eligible combinations of an entry, in ascending order of rate (R212). -/
def combos (s : State) (f : FwdEntry) (m : Nat) : List Combo :=
  match s.sendFor f.leg (s.objectCodec f.isFeed f.object) with
  | none => []
  | some snd =>
    let r := s.objectRates f.isFeed f.object
    let n := s.objectLayers f.isFeed f.object
    let all := (List.range 3).flatMap (fun a => (List.range 3).map (fun t => (a, t)))
    let ok (c : Nat × Nat) : Bool :=
      (List.range (c.1 + 1)).all (fun a => (List.range (c.2 + 1)).all (fun t => layerSeen r m a t)) &&
      decide (c.1 ≤ f.maxS) && decide (c.2 ≤ f.maxT) && decide (c.1 + 1 ≤ CodecEntry.layersS snd) && decide (c.2 + 1 ≤ CodecEntry.layersT snd) &&
      decide (s.objectKpxs f.isFeed f.object / 4 ^ (n - 1 - c.1) ≤ snd.maxKpxs.toNat) && decide (c.1 ≤ s.tileLimit f)
    sortBy comboLe ((all.filter ok).map (fun c => (c, layerBits r m c.1 c.2)))

/-! ### Lines (R207 to R211) -/

/-- Packet rate and bit rate of the audio a leg hears, in kbit/s (R211). -/
def audioKbps (s : State) (l : Nat) : Nat :=
  match s.legLive l, tget s.snd.legs l with
  | some q, some d =>
    match LegOffer.sendOf q.offer 0, tget s.snd.mixes d.listen with
    | some e, some x =>
      let rate := match e.codec.toNat with
        | 1 => x.kbps
        | 5 => ceilDiv' (e.clockHz.toNat * 16 * e.channels.toNat) 1000
        | _ => 64
      rate + 1000 / x.frameMs * 480 / 1000
    | _, _ => 0
  | _, _ => 0

/-- The ceiling of a leg's estimate: the smaller of MAX_RECV_KBPS and the TMMBR in force, 0 meaning none (R208, R209). -/
def lineCeiling (s : State) (l : Nat) : Nat :=
  let a := (tget s.model.legs l).elim 0 (fun q => q.offer.maxRecvKbps.toNat)
  let b := (s.line l).tmmbr
  if a = 0 then b else if b = 0 then a else min a b

/-- An estimate within MIN_KBPS and the ceiling (R208). -/
def boundE (s : State) (l e : Nat) : Nat := let c := s.lineCeiling l; max (s.line l).minKbps (if c = 0 then e else min e c)

/-- At entry to ACTIVE a leg's estimate starts (R210). -/
def startLine (s : State) (l : Nat) : State :=
  match tget s.model.legs l with
  | none => s
  | some q =>
    let k := s.line l
    let from_ := match q.record.bind (fun r => s.record r) with
      | some r => if r.sessions = 0 then 1000 else r.p25
      | none => 1000
    let e := s.boundE l (if k.startKbps = 0 then from_ else k.startKbps)
    let m := s.media q.conf
    s.modLine l (fun k => { k with e, v := (e * 95 / 100 : Nat) - (s.audioKbps l : Int), lastRtcp := m, lastUpdate := some (m / 4800), reports := [] })

/-- The window's figures of a line at media time m: r_del, loss, ce and q_ms (R208). -/
def lineFigures (s : State) (l m : Nat) : Nat × Nat × Nat × Nat :=
  let k := s.line l
  let win := k.reports.filter (fun r => decide (m < r.1 + 24000) && decide (r.1 ≤ m))
  let full := win.filter (fun r => r.2.rfc8888)
  if full = [] then
    match win.getLast? with
    | none => (0, 0, 0, 0)
    | some r =>
      let sent := 8 * total ((s.legQ l).departures.filter (fun d => decide (s.chipNs < d.1 + 500000000))) (·.2) / 500
      (sent * (256 - r.2.fractionLost.toNat) / 256, r.2.fractionLost.toNat * 1000 / 256, 0, 0)
  else
    let received := total full (fun r => r.2.packetsReceived)
    let lost := total full (fun r => r.2.packetsLost)
    let owds (w : Nat) := (k.reports.filter (fun r => decide (m < r.1 + w) && decide (r.1 ≤ m))).flatMap (fun r => r.2.owdMs)
    let q := match owds 480000 with
      | [] => 0
      | x :: xs => let low := xs.foldl min x; medianNat ((owds 9600).map (fun o => (o - low).toNat))
    (total full (fun r => r.2.bitsReceived) / 500, lost * 1000 / (received + lost), total full (fun r => r.2.packetsCe) * 1000 / received, q)

/-! ### Transcodes (R221, R222) -/

/-- Halve a size, rounded down to multiples of 8, until its pixel rate fits (R221). -/
def fitSize (rate limit : Nat) : Nat → Nat → Nat → Nat × Nat
  | 0, w, h => (w, h)
  | n + 1, w, h => if w * h * rate ≤ 1000 * limit then (w, h) else fitSize rate limit n (w / 2 / 8 * 8) (h / 2 / 8 * 8)

/-- Weights of a leg's entries that are not IDLE (R213). -/
def weights (s : State) (l : Nat) : Nat := total ((s.entriesOf l).filter (fun p => p.2.state != .idle)) (fun p => 1 + p.2.priority)

/-- The tile of a transcode: the source, whole, over the whole layout. -/
def transTile (y w h src : Nat) : TileReq :=
  { layout := y, tile := 0, content := 1, source := src, x := 0, y := 0, w := w, h := h, cropX := 0, cropY := 0, cropW := 0, cropH := 0,
    z := 0, border := 0, alpha := 1024, borderAlpha := 0, stallMs := 0, fill := 0, borderColour := 0, decodeKpxs := 0 }

/-- The receiver's first usable SEND entry, in offer order, that Table 6-1 encodes (06 R154, R221). -/
def encodeEntry (s : State) (l : Nat) : Option CodecEntry :=
  (tget s.model.legs l).bind (fun q => q.offer.codecs.find? (fun c => CodecEntry.sendFor c 1 && CodecEntry.encodes c))

/-- The transcode of an entry, made without regard to room: a single-tile layout and one feed owned by the entry, and the checks of its placements (R204, R221). None: the receiver has nothing that the device encodes, its record forbids transcoding, or its size is none that the device encodes (06 R156). -/
def transcodeDraft (s : State) (e : Nat) (basted : Option U16) : Option (State × List (Option Rep)) :=
  match tget s.fwd.entries e with
  | none => none
  | some f =>
    let conf := s.confOfLeg f.leg
    let y := (lowest (fun y => !thas s.pic.layouts y) 0 2048).getD 2048
    let fd := (lowest (fun k => !thas s.pic.feeds k) 0 16384).getD 16384
    if (tget s.model.legs f.leg).any (fun q => q.deny.getLsbD 3) then none
    else match s.encodeEntry f.leg with
    | none => none
    | some c =>
      let rate := if f.rate = 0 then 15 else f.rate
      let size := fitSize rate c.maxKpxs.toNat 8 (max 64 (f.tileW / 8 * 8)) (max 64 (f.tileH / 8 * 8))
      if !(encodeSize size.1 size.2 && (c.codec != 0x12 || decide (kpxs size.1 size.2 rate ≤ 375000))) then none
      else
      let m := s.media conf + 96
      let lq : LayoutReq := { conf, layout := y, width := size.1, height := size.2, rate, standing := false, holdSamples := 0xFFFF, bgY := 64, bgCb := 512, bgCr := 512 }
      let share := shareOf (s.line f.leg).v f.priority (max (s.weights f.leg) (1 + f.priority))
      let fq : FeedReq := { layout := y, feed := fd, codec := c.codec, depth := 8, profileLevel := CodecEntry.encodeLevel c, width := size.1, height := size.2, rate,
                            temporal := 1, spatial := 1, keyMinMs := 500, target0 := share, target1 := 0, target2 := 0 }
      let a := (doLayoutCreate lq y m basted s).modLayout y (fun l => { l with owner := some e })
      let b := newFeed fq y fd m basted a
      let k := s.objectKpxs false f.object
      let t := if f.isFeed then b else (b.decPlace f.object y 0 k 0).modLayout y (fun l => { l with tiles := [(0, transTile y size.1 size.2 f.object)] })
      some (t.modEntry e (fun f => { f with trans := some (y, fd), transTarget := share }),
        [if f.isFeed then none else s.decPlaceCheck f.object y 0 k, s.placeCheck 9 (feedKpxs fq), s.placeCheck 10 (kpxs size.1 size.2 rate)])

/-- Build the transcode of an entry with its charges; none where there is none to build or a charge is refused (R221). -/
def buildTranscode (s : State) (e : Nat) (basted : Option U16) : Option State :=
  match s.transcodeDraft e basted with
  | none => none
  | some (t, placed) => if (s.admission t ((tget s.fwd.entries e).any (fun f => s.isEmergency f.leg)) (placed := placed)).isNone then some t else none

/-- A new run: numbering continues, the timestamp offset is set afresh at its first packet (R218). -/
def newRun (f : FwdEntry) : FwdEntry := { f with nums := tmap f.nums (fun _ n => { n with restart := true }), tsOff := none, picOff := none, announce := true }

/-- Put an entry in a state and raise the switch event if its state or combination changed (R215). -/
def setEntry (s : State) (e : Nat) (st : FwdState) (cur : Option (Nat × Nat)) (media : Option Nat := none) : State :=
  match tget s.fwd.entries e with
  | none => s
  | some f =>
    if f.state = st ∧ f.cur = cur then s
    else
      let f := { f with
        state := st, cur, pausedSince := if st = .paused then some (f.pausedSince.getD (s.entryMedia f)) else none,
        switches := if cur ≠ f.cur then f.switches + 1 else f.switches,
        announce := f.announce || cur != f.cur, target := if st = .waitingUp then f.target else none }
      (s.modEntry e (fun _ => f)).switchEvent e f (fwdCode st) media

/-- Try the transcode: TRANSCODING, or NO_TRANSCODE until a retry (R221). -/
def tryTranscode (s : State) (e : Nat) : State :=
  match s.buildTranscode e none with
  | some t => (t.modEntry e newRun).setEntry e .transcoding none
  | none => (s.modEntry e (fun f => { f with retries := 0, allocs := [] })).setEntry e .noTranscode none

/-- Release the transcode an entry owns. -/
def dropTranscode (s : State) (e : Nat) : State :=
  match (tget s.fwd.entries e).bind (·.trans) with
  | some (y, _) => (s.deleteLayout y).modEntry e (fun f => { f with trans := none, returning := false, couldSince := none })
  | none => s

/-- The entry needs a transcode from the start: MODE 2, or no usable SEND entry for the codec (R221). -/
def mustTranscode (s : State) (f : FwdEntry) : Bool := f.mode == 2 || (f.mode == 0 && (s.sendFor f.leg (s.objectCodec f.isFeed f.object)).isNone)

/-- An entry follows its receiver and its object: to IDLE when one is not there, out of IDLE when both are (Table 8-2). -/
def refreshEntry (s : State) (e : Nat) : State :=
  match tget s.fwd.entries e with
  | none => s
  | some f =>
    if f.basted.isSome then s
    else if !s.entryLive f then (s.modEntry e (fun f => { f with allocs := [], upSince := none, couldSince := none, returning := false })).setEntry e .idle none
    else if f.state = .idle then
      if f.trans.isSome then (s.modEntry e newRun).setEntry e .transcoding none
      else if s.mustTranscode f then s.tryTranscode e else s.setEntry e .paused none
    else s

/-- Every entry of a leg as receiver or as object's leg follows the leg's state. -/
def refreshLeg (s : State) (l : Nat) : State :=
  ((s.fwd.entries.filter (fun p => p.2.leg == l || (!p.2.isFeed && p.2.object / 4 == l))).map (·.1)).foldl (fun s e => s.refreshEntry e) s

/-! ### The update (R207 to R214, R222, R223) -/

/-- What an allocation does to a forwarding entry at an update that takes effect at `at_` (R214). -/
def applyAlloc (s : State) (e m at_ : Nat) (rate : (Nat × Nat) → Nat) (a : Option (Nat × Nat)) (kbps upHoldMs : Nat) : State :=
  match tget s.fwd.entries e with
  | none => s
  | some f =>
    let done := f.allocs.filter (fun x => decide (x.1 ≤ m))
    let s := s.modEntry e (fun f => { f with allocs := done.drop (done.length - 1) ++ f.allocs.filter (fun x => decide (m < x.1)) ++ [(at_, a)], allocKbps := kbps })
    match f.cur with
    | none => s.modEntry e (fun f => { f with upSince := none })
    | some c =>
      let above := match a with
        | some x => x ≠ c && comboLe (c, rate c) (x, rate x)
        | none => false
      if !above then
        let s := s.modEntry e (fun f => { f with upSince := none })
        if f.state = .waitingUp then s.setEntry e .forwarding f.cur else s
      else if f.state = .waitingUp then s
      else
        let since := f.upSince.getD m
        let s := s.modEntry e (fun f => { f with upSince := some since })
        if since + upHoldMs * 48 ≤ m then
          (s.modEntry e (fun f => { f with target := a, targetAt := at_, keyAsked := false })).setEntry e .waitingUp f.cur
        else s

/-- What an update does to a transcoding entry: its feed's target follows its share, and it may return (R221, R222). -/
def applyShare (s : State) (e m share : Nat) (could : Option (Nat × Nat)) : State :=
  match tget s.fwd.entries e with
  | none => s
  | some f =>
    let s := s.modEntry e (fun f => { f with allocKbps := share })
    let s :=
      if f.transTarget < 8 * (max share f.transTarget - min share f.transTarget) then
        match f.trans.bind (fun t => (tget s.pic.feeds t.2).map (fun g => (t.2, g))) with
        | some (fd, g) => (s.setFeed fd { g.req with target0 := share } m).modEntry e (fun f => { f with transTarget := share })
        | none => s
      else s
    if f.mode ≠ 0 then s
    else match could with
      | none => s.modEntry e (fun f => { f with couldSince := none })
      | some c =>
        let since := f.couldSince.getD m
        let s := s.modEntry e (fun f => { f with couldSince := some since, target := if f.returning then some c else f.target })
        if since + 480000 ≤ m ∧ !f.returning then
          let s := s.modEntry e (fun f => { f with returning := true, target := some c })
          if f.isFeed then (match tget s.pic.feeds f.object with | some g => s.wantKey g.ctx m false | none => s)
          else s.askKey f.object false true
        else s

/-- Mode changes of fwd.set enter at the update: a forward-only entry gives its transcode up, a transcode-only entry builds one. -/
def enterMode (s : State) (e : Nat) : State :=
  match tget s.fwd.entries e with
  | none => s
  | some f =>
    if f.mode = 1 ∧ f.trans.isSome then ((s.dropTranscode e).modEntry e newRun).setEntry e .paused none
    else if f.mode = 1 ∧ f.state = .noTranscode then s.setEntry e .paused none
    else if f.mode = 2 ∧ f.trans.isNone ∧ (f.state = .paused ∨ f.state = .forwarding ∨ f.state = .waitingUp) then s.tryTranscode e
    else s

/-- A refused transcode is tried again at every tenth update (R221). -/
def retryEntry (s : State) (e : Nat) : State :=
  match tget s.fwd.entries e with
  | none => s
  | some f =>
    if f.state ≠ .noTranscode then s
    else if f.retries + 1 < 10 then s.modEntry e (fun f => { f with retries := f.retries + 1 })
    else s.tryTranscode e

/-- The allocation of a leg's budget among its entries, taken from media time `at_` on (R211 to R213). -/
def allocateLeg (s : State) (l m at_ : Nat) : State :=
  let v := (s.line l).v
  let up := (s.line l).upHoldMs
  let es := (s.entriesOf l).filter (fun p => p.2.state != .idle)
  let w := s.weights l
  let bid (p : Nat × FwdEntry) : Bid := { entry := p.1, priority := p.2.priority, trans := p.2.trans.isSome, combos := s.combos p.2 m }
  let bids := (es.filter (fun p => p.2.state != .noTranscode)).map bid
  let result := allocate v bids w
  es.foldl (fun s p =>
    let rate (c : Nat × Nat) : Nat := layerBits (s.objectRates p.2.isFeed p.2.object) m c.1 c.2
    if p.2.state = .noTranscode then s
    else if p.2.trans.isSome then
      if v ≤ 0 then s.setEntry p.1 .paused none
      else
        let again := allocate v (bids.map (fun b => if b.entry = p.1 then { b with trans := false } else b)) w
        let s := if p.2.state = .paused then s.setEntry p.1 .transcoding none else s
        s.applyShare p.1 m (shareOf v p.2.priority w) (((again.find? (fun b => b.entry == p.1)).bind Bid.combo))
    else
      let b := result.find? (fun b => b.entry == p.1)
      s.applyAlloc p.1 m at_ rate (b.bind Bid.combo) ((b.elim 0 Bid.rate) / 1000) up) s

end State

/-- Update k of a leg's line at media time 4,800k: the estimate of the update before takes effect on the shaper, the next is computed, and the budget is allocated (R207 to R214, R223). -/
def lineUpdate (l : Nat) (s : State) : State :=
  match s.legLive l with
  | none => s
  | some q =>
    let m := s.media q.conf
    let k := m / 4800
    let old := s.line l
    if q.state ≠ .active ∨ !(old.lastUpdate.all (fun j => decide (j < k))) then s
    else
      let at_ := 4800 * (k + 1)
      let s := s.setShaper l (old.e * old.pacePct / 100)
      let fig := s.lineFigures l m
      let silent := decide (old.lastRtcp + 48000 ≤ m)
      let primary := s.twin.state != .standby
      let e := if !primary then old.e
        else s.boundE l (if silent then old.e / 2 else nextE old.e old.minKbps fig.1 fig.2.1 fig.2.2.1 fig.2.2.2)
      let s := s.modLine l (fun x => { x with
        e, v := (e * 95 / 100 : Nat) - (s.audioKbps l : Int), loss := fig.2.1, qMs := fig.2.2.2, lastUpdate := some k,
        history := e :: x.history, lossHistory := fig.2.1 :: x.lossHistory,
        reports := x.reports.filter (fun r => decide (m < r.1 + 480000)) })
      let s := s.mirror 16
      let es := (s.entriesOf l).map (·.1)
      let s := es.foldl (fun s e => ((s.refreshEntry e).enterMode e).retryEntry e) s
      (s.allocateLeg l m at_).fin

/-- LINE_UPDATE. -/
def execLineUpdate (leg : Nat) (s : State) : Host.Outcome State Fault Refusal := .next (lineUpdate leg s)

/-- A report from a leg: its figures enter the window, its NACKs are counted and not relayed (R208, R219). -/
def rtcpFeedback (l : Nat) (r : RtcpReport) (s : State) : State :=
  match s.legLive l with
  | none => s
  | some q =>
    if q.state ≠ .active then s
    else
      let m := s.media q.conf
      s.modLine l (fun k => { k with reports := k.reports ++ [(m, r)], lastRtcp := m, nacks := k.nacks + BitVec.ofNat 32 r.nacks })

/-- RTCP_FEEDBACK. -/
def execRtcpFeedback (leg : Nat) (report : RtcpReport) (s : State) : Host.Outcome State Fault Refusal := .next (rtcpFeedback leg report s)

/-- A TMMBR sets the ceiling from the next update on; the device answers with TMMBN (R209). -/
def tmmbr (l kbps : Nat) (s : State) : State :=
  match s.legLive l with
  | none => s
  | some q =>
    if q.state ≠ .active then s
    else ((s.modLine l (fun k => { k with tmmbr := kbps, lastRtcp := s.media q.conf })).sendPacket l 2 (some 2) 20 0 0).fin

/-- TMMBR. -/
def execTmmbr (leg kbps : Nat) (s : State) : Host.Outcome State Fault Refusal := .next (tmmbr leg kbps s)

/-! ### Settings of entries (R215, R220) -/

/-- fwd.set's new values, which enter at the next update. -/
def doFwdSet (q : FwdSetReq) (s : State) : State :=
  s.modEntry q.entry.toNat (fun f => { f with
    priority := if q.change.getLsbD 0 then q.priority.toNat else f.priority,
    tileW := if q.change.getLsbD 1 then q.tileW.toNat else f.tileW, tileH := if q.change.getLsbD 1 then q.tileH.toNat else f.tileH,
    mode := if q.change.getLsbD 2 then q.mode.toNat else f.mode,
    maxS := if q.change.getLsbD 3 then q.maxSpatial.toNat else f.maxS, maxT := if q.change.getLsbD 3 then q.maxTemporal.toNat else f.maxT,
    rate := if q.change.getLsbD 4 then q.transcodeRate.toNat else f.rate })

/-- A retarget: the wait of WAITING_UP is cancelled, an earlier retarget replaced, and a key picture asked for at once (R220). -/
def doFwdRetarget (e src : Nat) (s : State) : State :=
  match tget s.fwd.entries e with
  | none => s
  | some f =>
    let s := if f.state = .waitingUp then s.setEntry e .forwarding f.cur else s
    let s := s.modEntry e (fun f => { f with retarget := some src, upSince := none, keyReq := f.keyReq + 1 })
    s.askKey src false true

/-- What a change of a seam does to its entry. -/
def State.fwdChange (s : State) (e : Nat) : FwdChange → State
  | .set q => doFwdSet q s
  | .retarget src => doFwdRetarget e src s
  | .unsubscribe => s.dropEntries 8 [e]

/-- The entry that a basted command changes at that entry's own packets, and the change (02 Table 2-2: each receiver–source pair decides on its own packets). -/
def pairChange : Instr → Option (Nat × FwdChange)
  | .fwdSet _ q => some (q.entry.toNat, .set q)
  | .fwdRetarget _ entry source => some (entry.toNat, .retarget source.toNat)
  | .fwdUnsubscribe _ entry => some (entry.toNat, .unsubscribe)
  | _ => none

/-- T in a conference's media time: the seam's own, or the counterpart recorded at close (02 R54). -/
def State.mediaT (s : State) (k : Seam) (c : Nat) : Nat := if k.scope = some c then k.t.toNat else (tget k.tMedia c).getD (s.media c)

/-- A committed seam's command that changes an entry at a packet of a capture time. -/
def dueFor (s : State) (e conf : Nat) (capture : Int) (k : Seam) (c : SeamCmd) : Option FwdChange :=
  if k.state = .committed ∧ ((s.mediaT k conf : Nat) : Int) ≤ capture then ((pairChange c.instr).filter (fun x => x.1 == e)).map (·.2) else none

/-- The seams' changes of an entry, at its first packet of T or later: those whose participant's boundary has come, then those of seams committed meanwhile (02 R59, R215). -/
def State.takeDue (s : State) (e : Nat) (capture : Int) : State :=
  match tget s.fwd.entries e with
  | none => s
  | some f =>
    let own := (f.due.filter (fun d => decide ((d.1 : Int) ≤ capture))).map (·.2)
    let conf := s.confOfLeg f.leg
    let early := s.seams.list.flatMap (fun k => k.cmds.filterMap (dueFor s e conf capture k))
    if own = [] ∧ early = [] then s
    else
      let s := s.modEntry e (fun f => { f with due := f.due.filter (fun d => !decide ((d.1 : Int) ≤ capture)) })
      let s : State := { s with seams := { s.seams with list := s.seams.list.map (fun k => { k with cmds := k.cmds.filter (fun c => (dueFor s e conf capture k c).isNone) }) } }
      (own ++ early).foldl (fun s c => s.fwdChange e c) s

/-- At its participant's boundary, a change waits for the entry's first packet of T or later; an entry that carries nothing, its receiver or its object not there, takes it at once (DESIGN CHOICE, log 81). -/
def State.armEntry (s : State) (e t : Nat) (c : FwdChange) : State :=
  match tget s.fwd.entries e with
  | none => s
  | some f => if s.entryLive f then s.modEntry e (fun f => { f with due := f.due ++ [(t, c)] }) else s.fwdChange e c

/-! ### Packets (R206, R214, R217, R218, R220) -/

/-- Sequence numbering of one packet: the numbering after it, the output number if it is sent, and whether it is late (R217, R218). -/
def Numbering.take (n : Numbering) (seq : U16) (selected : Bool) : Numbering × Option U16 × Bool :=
  if n.restart then
    if selected then
      let out := n.lastOut + 1
      ({ n with restart := false, seqOff := out - seq, high := seq, dropped := 0, gaps := [], lastOut := out }, some out, false)
    else (n, none, false)
  else
    let d := (seq - n.high).toInt
    if 0 < d then
      let missing := (List.range (min d.toNat 1024 - 1)).map (fun k => (seq - 1 - BitVec.ofNat 16 k, n.dropped))
      let gaps := (n.gaps ++ missing.reverse).filter (fun g => decide ((seq - g.1).toNat ≤ 1023))
      let n := { n with high := seq, gaps }
      if selected then
        let out := seq + n.seqOff - n.dropped
        ({ n with lastOut := out }, some out, false)
      else ({ n with dropped := n.dropped + 1 }, none, false)
    else
      match n.gaps.find? (fun g => g.1 == seq) with
      | some g => ({ n with gaps := n.gaps.filter (fun x => x.1 != seq) }, (if selected then some (seq + n.seqOff - g.2) else none), false)
      | none => (n, none, true)

/-- The layer of a packet as the device can tell it (R206, Table 8-1): one combination where nothing identifies layers. -/
def sourceLayer (codec : U8) (r : FwdSource) (p : MediaPkt) : Nat × Nat :=
  match codec.toNat with
  | 0x10 => if r.fmExt = 0 then (0, 0) else (0, p.temporal)
  | 0x14 => if r.ddExt = 0 then (0, 0) else (p.spatial, p.temporal)
  | _ => (0, p.temporal)

namespace State

/-- The capture time of a source's packet under the mapping of R158, with the mapping after it. -/
def sourceCapture (r : FwdSource) (p : MediaPkt) (m : Nat) : Int × FwdSource :=
  let a := r.anchor.getD (p.ts, (m : Int))
  let c := captureOf a p.ts
  let outside := decide (c + 48000 < r.lastCapture) || decide (r.lastCapture + 48000 < c)
  if r.anchor.isNone ∨ (outside ∧ p.seq ≠ r.lastSeq + 1) then ((m : Int), { r with anchor := some (p.ts, (m : Int)), lastSeq := p.seq, lastCapture := m })
  else (c, { r with anchor := some a, lastSeq := p.seq, lastCapture := max c r.lastCapture })

/-- A new picture brings a source's new extension IDs (fwd.source). -/
def settleSource (r : FwdSource) (capture : Int) : FwdSource :=
  match (r.next.filter (fun x => decide ((x.1 : Int) ≤ capture))).getLast? with
  | none => r
  | some x => { r with ddExt := x.2.1, fmExt := x.2.2, next := r.next.filter (fun y => !decide ((y.1 : Int) ≤ capture)) }

/-- The capture time of a feed's packet: its timestamp is TS_BASE + floor(capture × 15 / 8), taken nearest to now (06 R173). -/
def feedCapture (tsBase ts : U32) (m : Nat) : Int :=
  let d := (BitVec.ofNat 32 (m * 15 / 8) - (ts - tsBase)).toInt
  (m : Int) - d * 8 / 15

/-- Count a packet in its object's measured rates, with IP and UDP headers (R212), and keep the mapping and switching points. -/
def measure (s : State) (o : Nat) (isFeed : Bool) (m : Nat) (layer : Nat × Nat) (length : Nat) (r : FwdSource) (switch : Bool) : State :=
  let r := { r with arrivals := r.arrivals.filter (fun x => decide (m < x.1 + 48000)) ++ [(m, 16 * layer.1 + layer.2, length)], switchSeen := r.switchSeen || switch }
  if isFeed then s.modFwd (fun w => { w with feedRates := tput w.feedRates o r }) else s.modFwd (fun w => { w with sources := tput w.sources o r })

/-- The allocation in force for a packet of a capture time. -/
def allocAt (f : FwdEntry) (capture : Int) : Option (Option (Nat × Nat)) := ((f.allocs.filter (fun x => decide ((x.1 : Int) ≤ capture))).getLast?).map (·.2)

/-- The picture is a switching point for a combination, seen from the current one (R206, R214). -/
def switchesTo (f : FwdEntry) (p : MediaPkt) (layer : Nat × Nat) (c : Nat × Nat) : Bool :=
  p.key || (match f.cur with
    | some (cs, ct) => decide (c.1 ≤ cs) && (if f.isFeed then decide (ct < layer.2) && decide (layer.2 ≤ c.2) else p.switchPoint && decide (layer.2 ≤ c.2))
    | none => !f.isFeed && p.switchPoint && decide (layer.1 ≤ c.1) && decide (layer.2 ≤ c.2))

/-- The changes of combination that a new picture brings (R214, R215, R220, R222). -/
def switchEntry (s : State) (e : Nat) (p : MediaPkt) (layer : Nat × Nat) (capture : Int) : State :=
  match tget s.fwd.entries e with
  | none => s
  | some f =>
    let media := some capture.toNat
    match f.state with
    | .paused =>
      match allocAt f capture with
      | some (some c) => if f.trans.isNone ∧ switchesTo f p layer c then s.setEntry e .forwarding (some c) media else s
      | _ => s
    | .forwarding | .waitingUp =>
      let cur := f.cur.getD (0, 0)
      match allocAt f capture with
      | some none => s.setEntry e .paused none media
      | some (some a) =>
        let r := s.objectRates f.isFeed f.object
        let m := s.entryMedia f
        let lower := a ≠ cur && comboLe (a, layerBits r m a.1 a.2) (cur, layerBits r m cur.1 cur.2)
        if lower then s.setEntry e .forwarding (some a) media
        else if f.state = .waitingUp ∧ (f.targetAt : Int) ≤ capture then
          match f.target with
          | some t => if switchesTo f p layer t then (s.modEntry e (fun f => { f with upSince := none })).setEntry e .forwarding (some t) media else s
          | none => s
        else s
      | none => s
    | .transcoding =>
      if f.returning ∧ p.key then
        match f.target with
        | some t => (((s.dropTranscode e).modEntry e newRun).modEntry e (fun f => { f with allocs := [], upSince := none })).setEntry e .forwarding (some t) media
        | none => s
      else s
    | _ => s

/-- An entry's new source has sent its first key picture: the new run starts, at (0, 0) until the next update allocates (R220). -/
def retargetEntry (s : State) (e : Nat) (src : Nat) : State :=
  match tget s.fwd.entries e with
  | none => s
  | some f =>
    let s := s.modEntry e (fun f => newRun { f with object := src, retarget := none, allocs := [], upSince := some 0 })
    match f.state with
    | .forwarding | .waitingUp => s.setEntry e .forwarding (some (0, 0))
    | .transcoding => (s.dropTranscode e).tryTranscode e
    | _ => s

/-- Send a packet of an entry's run, rewritten, to the receiver (R217, R218). -/
def rewrite (s : State) (e : Nat) (p : MediaPkt) (ssrc : U32) (codec : Option U8) (selected : Bool) (tsOff : FwdEntry → U32) : State :=
  match tget s.fwd.entries e with
  | none => s
  | some f =>
    let n : Numbering := (tget f.nums ssrc.toNat).getD { restart := true, seqOff := 0, high := 0, lastOut := f.seqBase - 1 }
    let (n, out, late) := n.take p.seq selected
    let off := f.tsOff.getD (tsOff f)
    let first := f.nums = []
    let wide : Nat := if codec = some 0x14 then 65536 else 32768
    let go (last : Nat) (x : Nat) : Int := (last : Int) + (if first then 0 else 1) - x
    let pic := f.picOff.getD (go f.lastPic p.pictureId, go f.lastTl0 p.tl0)
    let picOut := (((p.pictureId : Int) + pic.1) % wide).toNat
    let tl0 := (((p.tl0 : Int) + pic.2) % 256).toNat
    let s := s.modEntry e (fun f => { f with nums := tput f.nums ssrc.toNat n, late := if late then f.late + 1 else f.late })
    match out with
    | none => s
    | some q =>
      let pt := ((s.sendFor f.leg codec).map (·.pt)).getD 0
      let dd : U8 := if codec = some 0x14 then f.rxDd else 0
      let sent : FwdSent := { entry := e, ssrc, pt, seq := q, ts := p.ts + off, pictureId := picOut, tl0, marker := p.marker, dd, targets := if f.announce ∧ dd ≠ 0 then f.cur else none }
      let s := s.modEntry e (fun f => { f with tsOff := some off, picOff := some pic, lastPic := picOut, lastTl0 := tl0, announce := false })
      let s := s.modFwd (fun w => { w with sent := w.sent ++ [sent] })
      s.sendPacket f.leg 0 none p.length ssrc q

/-- One packet of an object at one entry: a seam's changes, switching, selection, rewriting. A new picture is the first packet with a new RTP timestamp (R214). -/
def entryPacket (s : State) (e : Nat) (o : Nat) (isFeed : Bool) (p : MediaPkt) (newPicture : Bool) (layer : Nat × Nat) (capture : Int) : State :=
  let s := s.takeDue e capture
  match tget s.fwd.entries e with
  | none => s
  | some f =>
    let codec := s.objectCodec isFeed o
    let s := if newPicture then
        (if !isFeed ∧ f.retarget = some o ∧ p.key then s.retargetEntry e o else s) else s
    match tget s.fwd.entries e with
    | none => s
    | some f0 =>
      let own := f0.isFeed == isFeed && f0.object == o
      let s := if own ∧ newPicture then s.switchEntry e p layer capture else s
      match tget s.fwd.entries e with
      | none => s
      | some f =>
        if own ∧ (f.state = .forwarding ∨ f.state = .waitingUp) then
          let sel := match f.cur with | some c => decide (layer.1 ≤ c.1) && decide (layer.2 ≤ c.2) | none => false
          let ssrc := if isFeed then (((tget s.pic.feeds o).bind (fun g => g.ssrc[p.spatial]?)).getD 0) else f.outSsrc
          s.rewrite e p ssrc codec sel (fun f => f.tsBase + BitVec.ofInt 32 (capture * 15 / 8) - p.ts)
        else if isFeed ∧ f.state = .transcoding ∧ f.trans.any (fun t => t.2 == o) then
          let ssrc := if f.isFeed then (((tget s.pic.feeds o).bind (fun g => g.ssrc[0]?)).getD 0) else f.outSsrc
          s.rewrite e p ssrc codec true (fun f => f.tsBase + BitVec.ofInt 32 (capture * 15 / 8) - p.ts)
        else s

end State

/-- A feed sends nothing of a spatial layer: its context or that layer is gated (06 R183). -/
def State.feedSilent (s : State) (f spatial : Nat) : Bool :=
  (tget s.pic.feeds f).any (fun g => (tget s.pic.enc g.ctx).any (fun e => e.gated) || decide (s.layersNow g.req ≤ spatial))

/-- A packet of a source or a feed: measured, then selected, switched and rewritten for each receiving entry, in the order of the entries (R206, R212, R214, R217). -/
def forwardPacket (o : Nat) (isFeed : Bool) (p : MediaPkt) (s : State) : State :=
  if !s.objectLive isFeed o ∨ (isFeed ∧ s.feedSilent o p.spatial) ∨ !s.atWork 2 1 then s
  else
    let conf := s.objectConf isFeed o
    let m := s.media conf
    let r := s.objectRates isFeed o
    let fresh := r.lastTs.all (fun t => decide (0 < (p.ts - t).toInt))
    let (capture, r) := if isFeed then ((State.feedCapture ((tget s.pic.feeds o).elim 0 (·.tsBase)) p.ts m), r) else State.sourceCapture r p m
    let r := if fresh then State.settleSource { r with lastTs := some p.ts, sizes := if p.sizes = [] then r.sizes else p.sizes } capture else r
    let layer := if isFeed then (p.spatial, p.temporal) else sourceLayer ((s.objectCodec isFeed o).getD 0) r p
    let v6 := !isFeed && (tget s.model.legs (o / 4)).any (fun q => q.offer.af == 6)
    let s := s.measure o isFeed m layer (p.length + (if v6 then 48 else 28)) r p.switchPoint
    let s := s.modFwd (fun w => { w with sent := [] })
    let es := (s.fwd.entries.filter (fun x => x.2.basted.isNone && ((x.2.isFeed == isFeed && x.2.object == o) || (!isFeed && x.2.retarget == some o) ||
      (isFeed && x.2.trans.any (fun t => t.2 == o))))).map (·.1)
    (es.foldl (fun s e => s.entryPacket e o isFeed p fresh layer capture) s).fin

/-- FORWARD_PACKET. -/
def execForwardPacket (object : Nat) (isFeed : Bool) (pkt : MediaPkt) (s : State) : Host.Outcome State Fault Refusal := .next (forwardPacket object isFeed pkt s)

/-! ### Key requests and transcodes in time -/

/-- The device's own request for a key picture of an entry's object: PLI to a source's sender, the layer-switch cause to a feed's encoder (R214, R219). -/
def State.ownKey (s : State) (e : Nat) (f : FwdEntry) : State :=
  let s := s.modEntry e (fun f => { f with keyAsked := true, keyReq := f.keyReq + 1 })
  if f.isFeed then (match tget s.pic.feeds f.object with | some g => s.wantKey g.ctx (s.entryMedia f) false | none => s)
  else s.askKey f.object false true

/-- The switch an entry waits for needs a key picture (R214). -/
def needsKey (s : State) (f : FwdEntry) : Bool :=
  match f.state, f.target with
  | .waitingUp, some t => decide ((f.cur.getD (0, 0)).1 < t.1) || (!f.isFeed && !(s.fwdSrc f.object).switchSeen)
  | _, _ => false

/-- An entry that starts from PAUSED waits for a key picture or switching point of its allocation. -/
def startWait (f : FwdEntry) (m : Nat) : Bool :=
  f.state == .paused && (match f.allocs with | (at_, some _) :: _ => decide (at_ + 4800 ≤ m) | _ => false)

/-- 200 ms after the target was set no key picture has come: the device asks for one (R214). -/
def switchKeyWait (e : Nat) (s : State) : State :=
  match tget s.fwd.entries e with
  | none => s
  | some f =>
    let m := s.entryMedia f
    if !f.keyAsked ∧ ((needsKey s f ∧ f.targetAt + 4800 ≤ m) ∨ startWait f m) then (s.ownKey e f).fin else s

/-- SWITCH_KEY_WAIT. -/
def execSwitchKeyWait (entry : Nat) (s : State) : Host.Outcome State Fault Refusal := .next (switchKeyWait entry s)

/-- An entry PAUSED for TRANSCODE_AFTER_MS in MODE 0 is transcoded (R221). -/
def transcodeAfter (e : Nat) (s : State) : State :=
  match tget s.fwd.entries e with
  | none => s
  | some f =>
    let after := (s.line f.leg).transcodeAfterMs
    if f.state = .paused ∧ f.mode = 0 ∧ f.trans.isNone ∧ s.entryLive f ∧ after ≠ 0xFFFF ∧ f.pausedSince.any (fun t => decide (t + after * 48 ≤ s.entryMedia f)) then
      (s.tryTranscode e).fin
    else s

/-- TRANSCODE_AFTER. -/
def execTranscodeAfter (entry : Nat) (s : State) : Host.Outcome State Fault Refusal := .next (transcodeAfter entry s)

/-- A PLI or FIR from a receiver: relayed to the source's sender, or given to the feed's encoder (R219, 06 R174 to R176). -/
def receiverKey (e : Nat) (fir : Bool) (s : State) : State :=
  match tget s.fwd.entries e with
  | none => s
  | some f =>
    if f.basted.isSome ∨ f.state = .idle then s
    else
      let s := s.modEntry e (fun f => { f with keyReq := f.keyReq + 1 })
      let feed := match f.state, f.trans with
        | .transcoding, some t => some t.2
        | _, _ => if f.isFeed then some f.object else none
      (match feed with
        | some k => (match tget s.pic.feeds k with | some g => s.wantKey g.ctx (s.entryMedia f + 48) true | none => s)
        | none => s.askKey f.object fir (!fir)).fin

/-- RECEIVER_KEY_REQUEST. -/
def execReceiverKeyRequest (entry : Nat) (fir : Bool) (s : State) : Host.Outcome State Fault Refusal := .next (receiverKey entry fir s)

/-! ### fwd commands -/

/-- A tile size: 0, or 16 to 4,096. -/
def tileSizeOk (x : U16) : Bool := withinOr 0 16 4096 x.toNat

/-- The entry a subscription takes. -/
def entryIndex (q : SubscribeReq) (s : State) : Option Nat :=
  if q.entry = 0xFFFFFFFF then lowest (fun e => !thas s.fwd.entries e && !s.inHold s.fwd.hold e) 0 1048576 else some q.entry.toNat

/-- A subscription as a slot of a version reads it. -/
def subscribeAt (q : SubscribeReq) (v : U8) : SubscribeReq := if v = 0x14 then { q with mode := 1, rxDdExt := 0 } else q

/-- Create an entry: its OUT_SSRC, SEQ_BASE and TS_BASE are drawn (R217, R218). -/
def newEntry (q : SubscribeReq) (e : Nat) (basted : Option U16) (s : State) : State :=
  let (ssrc, s) := if q.kind = 0 then s.draw32 else (0, s)
  let (seq, s) := s.draw32
  let (ts, s) := s.draw32
  s.modFwd (fun w => { w with
    hold := tdel w.hold e,
    entries := tput w.entries e {
      leg := q.leg.toNat, isFeed := q.kind == 1, object := q.object.toNat, priority := q.priority.toNat, tileW := q.tileW.toNat, tileH := q.tileH.toNat,
      mode := q.mode.toNat, maxS := q.maxSpatial.toNat, maxT := q.maxTemporal.toNat, rxDd := q.rxDdExt, rate := q.transcodeRate.toNat, state := .idle,
      outSsrc := ssrc, seqBase := seq.truncate 16, tsBase := ts, basted } })

/-- The subscription takes effect: the entry leaves IDLE if its receiver and object are there. -/
def doSubscribe (e : Nat) (s : State) : State := (s.modEntry e (fun f => { f with basted := none })).refreshEntry e

/-- The reply of fwd.subscribe. -/
def subscribeReply (e : Nat) (s : State) : Bytes :=
  match tget s.fwd.entries e with
  | some f => le 4 e ++ le 4 f.outSsrc.toNat ++ le 1 (State.fwdCode f.state) ++ le 3 0
  | none => le 12 0

/-- fwd.subscribe (R205, R221). In MODE 2 a receiver for which the device can encode nothing is BAD_FIELD: the card names no other status (DESIGN CHOICE, log 78). -/
def rowFwdSubscribe (m : Mbx) (req : SubscribeReq) : Row where
  opcode := 0x0600
  checks := fun c s =>
    let q := subscribeAt req c.hdr.version
    let l := q.leg.toNat
    let o := q.object.toNat
    let isFeed := q.kind == 1
    let seam := c.hdr.seam
    let e := entryIndex q s
    let t := newEntry q (e.getD 1048576) none s
    let draft := if q.mode = 2 then t.transcodeDraft (e.getD 1048576) none else none
    let denied := (tget s.model.legs l).any (fun g => g.deny.getLsbD 3)
    { fields := decide (q.kind.toNat ≤ 1) && decide (q.priority.toNat ≤ 7) && tileSizeOk q.tileW && tileSizeOk q.tileH && decide (q.mode.toNat ≤ 2) &&
        decide (q.maxSpatial.toNat ≤ 2) && decide (q.maxTemporal.toNat ≤ 2) && decide (q.rxDdExt.toNat ≤ 14) && (q.transcodeRate == 0 || rates.contains q.transcodeRate.toNat) &&
        (q.entry == 0xFFFFFFFF || decide (q.entry.toNat < 1048576)) && (if isFeed then decide (o < 16384) else o % 4 != 0 && decide (o < 262144)),
      objects := [need (s.legFor l seam).isSome St.noObject,
                  need (if isFeed then (s.feedFor o seam).isSome else s.hasSource o seam) St.noObject,
                  need (s.objectConf isFeed o == s.confOfLeg l) St.badField,
                  need (q.mode != 1 || (s.sendFor l (s.objectCodec isFeed o)).isSome) St.badField,
                  need (q.mode != 2 || denied || draft.isSome) St.badField],
      scope := some (s.confOfLeg l),
      items := match e with | some k => [.fwdEntry k] | none => [],
      busy := [need (q.entry == 0xFFFFFFFF || !thas s.fwd.entries q.entry.toNat) St.busy, need (q.entry == 0xFFFFFFFF || !s.inHold s.fwd.hold q.entry.toNat) St.busy [0xFFFF], s.stopIf t],
      rest := [need (!(q.mode == 2 && denied)) St.refused [3],
               match draft with
               | some (u, placed) => s.admission u (s.isEmergency l) (placed := placed)
               | none => s.admission t (s.isEmergency l)] }
  layout := fun v => [(0, 0, 16, req.leg.toNat), (2, 0, 8, req.kind.toNat), (3, 0, 8, req.priority.toNat), (4, 0, 32, req.object.toNat), (8, 0, 32, req.entry.toNat), (0x0C, 0, 16, req.tileW.toNat), (0x0E, 0, 16, req.tileH.toNat),
    (0x10, 2, 2, req.maxSpatial.toNat), (0x10, 4, 2, req.maxTemporal.toNat), (0x12, 0, 8, req.transcodeRate.toNat)] ++ (if v = 0x14 then [] else [(0x10, 0, 2, req.mode.toNat), (0x11, 0, 8, req.rxDdExt.toNat)])
  effect := fun c s =>
    let q := subscribeAt req c.hdr.version
    match entryIndex q s with
    | none => (s, Rep.fail St.noCapacity [14, 1, 0])
    | some e =>
      let s := newEntry q e none s
      let s := if q.mode = 2 then (s.buildTranscode e none).getD s else s
      let s := doSubscribe e s
      (s, Rep.ok (subscribeReply e s))
  baste := fun c s =>
    let q := subscribeAt req c.hdr.version
    match entryIndex q s with
    | none => (s, Rep.fail St.noCapacity [14, 1, 0], none)
    | some e =>
      let s := newEntry q e (some c.hdr.seam) s
      let s := if q.mode = 2 then (s.buildTranscode e (some c.hdr.seam)).getD s else s
      (s, Rep.ok (subscribeReply e s), some (.fwdSubscribe m q, e))

/-- FWD_SUBSCRIBE. -/
def execFwdSubscribe (m : Mbx) (req : SubscribeReq) (s : State) : Host.Outcome State Fault Refusal := .next (s.run m (rowFwdSubscribe m req))

/-- The entry of a number that a command may name. -/
def entryFor (s : State) (e : Nat) (seam : U16) : Option FwdEntry := (tget s.fwd.entries e).filter (fun f => f.basted.isNone || (seam != 0xFFFF && f.basted == some seam))

/-- The conference of an entry. -/
def entryConf (s : State) (e : Nat) : Nat := (tget s.fwd.entries e).elim 0 (fun f => s.confOfLeg f.leg)

/-- fwd.unsubscribe (R216). -/
def rowFwdUnsubscribe (m : Mbx) (entry : U32) : Row where
  opcode := 0x0601
  checks := fun c s =>
    { objects := [need (entryFor s entry.toNat c.hdr.seam).isSome St.noObject], scope := some (entryConf s entry.toNat), items := [.fwdEntry entry.toNat] }
  layout := fun _ => [(0, 0, 32, entry.toNat)]
  effect := fun _ s => (s.dropEntries 8 [entry.toNat], Rep.ok)
  baste := fun _ s => (s, Rep.ok, some (.fwdUnsubscribe m entry, 0))

/-- FWD_UNSUBSCRIBE. -/
def execFwdUnsubscribe (m : Mbx) (entry : U32) (s : State) : Host.Outcome State Fault Refusal := .next (s.run m (rowFwdUnsubscribe m entry))

/-- fwd.set. -/
def rowFwdSet (m : Mbx) (q : FwdSetReq) : Row where
  opcode := 0x0602
  checks := fun c s =>
    let ch := q.change
    { fields := decide (q.entry.toNat < 1048576) && decide (ch.toNat < 32) && (!ch.getLsbD 0 || decide (q.priority.toNat ≤ 7)) && (!ch.getLsbD 1 || (tileSizeOk q.tileW && tileSizeOk q.tileH)) &&
        (!ch.getLsbD 2 || decide (q.mode.toNat ≤ 2)) && (!ch.getLsbD 3 || (decide (q.maxSpatial.toNat ≤ 2) && decide (q.maxTemporal.toNat ≤ 2))) &&
        (!ch.getLsbD 4 || q.transcodeRate == 0 || rates.contains q.transcodeRate.toNat),
      objects := [need (entryFor s q.entry.toNat c.hdr.seam).isSome St.noObject,
                  need (!(ch.getLsbD 2 && q.mode == 1 && (tget s.fwd.entries q.entry.toNat).any (fun f => f.state == .transcoding && (s.sendFor f.leg (s.objectCodec f.isFeed f.object)).isNone))) St.badField],
      scope := some (entryConf s q.entry.toNat), items := [.fwdEntry q.entry.toNat] }
  layout := fun _ => [(0, 0, 32, q.entry.toNat), (4, 0, 8, q.change.toNat), (7, 0, 8, q.priority.toNat), (0x10, 0, 16, q.tileW.toNat), (0x12, 0, 16, q.tileH.toNat), (0x14, 0, 2, q.mode.toNat),
    (0x14, 2, 2, q.maxSpatial.toNat), (0x14, 4, 2, q.maxTemporal.toNat), (0x16, 0, 8, q.transcodeRate.toNat)]
  effect := fun _ s => (doFwdSet q s, Rep.ok)
  baste := fun _ s => (s, Rep.ok, some (.fwdSet m q, 0))

/-- FWD_SET. -/
def execFwdSet (m : Mbx) (req : FwdSetReq) (s : State) : Host.Outcome State Fault Refusal := .next (s.run m (rowFwdSet m req))

/-- fwd.retarget (R220). -/
def rowFwdRetarget (m : Mbx) (entry source : U32) : Row where
  opcode := 0x0603
  checks := fun c s =>
    let e := entry.toNat
    let src := source.toNat
    { fields := decide (e < 1048576) && src % 4 != 0 && decide (src < 262144),
      objects := [need (entryFor s e c.hdr.seam).isSome St.noObject,
                  need (s.hasSource src c.hdr.seam) St.noObject,
                  need ((tget s.fwd.entries e).any (fun f => !f.isFeed)) St.badField,
                  need (s.confOfSource src == entryConf s e) St.badField],
      scope := some (entryConf s e), items := [.fwdEntry e] }
  layout := fun _ => [(0, 0, 32, entry.toNat), (4, 0, 32, source.toNat)]
  effect := fun _ s => (doFwdRetarget entry.toNat source.toNat s, Rep.ok)
  baste := fun _ s => (s, Rep.ok, some (.fwdRetarget m entry source, 0))

/-- FWD_RETARGET. -/
def execFwdRetarget (m : Mbx) (entry source : U32) (s : State) : Host.Outcome State Fault Refusal := .next (s.run m (rowFwdRetarget m entry source))

/-- Set a source's extension IDs: every entry of the source follows from its next picture of media time t or later (R206, fwd.source). -/
def doFwdSource (src : Nat) (ddExt fmExt : U8) (t : Nat) (s : State) : State :=
  s.modFwd (fun w => { w with sources := tput w.sources src { s.fwdSrc src with next := (s.fwdSrc src).next ++ [(t, ddExt, fmExt)] } })

/-- fwd.source (R206). -/
def rowFwdSource (m : Mbx) (source : U32) (ddExt fmExt : U8) : Row where
  opcode := 0x0604
  checks := fun c s =>
    let src := source.toNat
    { fields := src % 4 != 0 && decide (src < 262144) && decide (ddExt.toNat ≤ 14) && decide (fmExt.toNat ≤ 14),
      objects := [need (s.hasSource src c.hdr.seam) St.noObject], scope := some (s.confOfSource src), items := [.fwdSource src] }
  layout := fun _ => [(0, 0, 32, source.toNat), (4, 0, 8, ddExt.toNat), (5, 0, 8, fmExt.toNat)]
  effect := fun _ s => (doFwdSource source.toNat ddExt fmExt 0 s, Rep.ok)
  baste := fun _ s => (s, Rep.ok, some (.fwdSource m source ddExt fmExt, 0))

/-- FWD_SOURCE. -/
def execFwdSource (m : Mbx) (source : U32) (ddExt fmExt : U8) (s : State) : Host.Outcome State Fault Refusal := .next (s.run m (rowFwdSource m source ddExt fmExt))

/-- fwd.line's settings; values that keep the current one leave it. -/
def doFwdLine (q : FwdLineReq) (s : State) : State :=
  s.modLine q.leg.toNat (fun k => { k with
    pacePct := if q.pacePct = 0 then k.pacePct else q.pacePct.toNat, minKbps := if q.minKbps = 0 then k.minKbps else q.minKbps.toNat,
    startKbps := q.startKbps.toNat, upHoldMs := if q.upHoldMs = 0xFFFF then k.upHoldMs else q.upHoldMs.toNat,
    transcodeAfterMs := if q.transcodeAfterMs = 0 then k.transcodeAfterMs else q.transcodeAfterMs.toNat })

/-- fwd.line (R207, R210, R214, R221, R223). -/
def rowFwdLine (m : Mbx) (q : FwdLineReq) : Row where
  opcode := 0x0605
  checks := fun c s =>
    { fields := withinOr 0 100 300 q.pacePct.toNat && withinOr 0 32 10000 q.minKbps.toNat && withinOr 0 64 400000 q.startKbps.toNat &&
        withinOr 0xFFFF 0 10000 q.upHoldMs.toNat && (q.transcodeAfterMs == 0xFFFF || withinOr 0 500 60000 q.transcodeAfterMs.toNat),
      objects := [need (s.legFor q.leg.toNat c.hdr.seam).isSome St.noObject], scope := some (s.confOfLeg q.leg.toNat), items := [.fwdLine q.leg.toNat] }
  layout := fun _ => [(0, 0, 16, q.leg.toNat), (2, 0, 16, q.pacePct.toNat), (4, 0, 32, q.minKbps.toNat), (8, 0, 32, q.startKbps.toNat), (0x0C, 0, 16, q.upHoldMs.toNat), (0x0E, 0, 16, q.transcodeAfterMs.toNat)]
  effect := fun _ s => (doFwdLine q s, Rep.ok)
  baste := fun _ s => (s, Rep.ok, some (.fwdLine m q, 0))

/-- FWD_LINE. -/
def execFwdLine (m : Mbx) (req : FwdLineReq) (s : State) : Host.Outcome State Fault Refusal := .next (s.run m (rowFwdLine m req))

/-- A combination as fwd.query gives it, 0xFF when none. -/
def comboByte (c : Option (Nat × Nat)) : Bytes := match c with | some (a, t) => le 1 (t + 16 * a) | none => le 1 255

/-- fwd.query. -/
def rowFwdQuery (entry : U32) : Row where
  opcode := 0x0606
  checks := fun _ s => { objects := [need (entryFor s entry.toNat 0xFFFF).isSome St.noObject] }
  layout := fun _ => [(0, 0, 32, entry.toNat)]
  effect := fun _ s =>
    match tget s.fwd.entries entry.toNat with
    | none => (s, Rep.fail St.noObject)
    | some f =>
      (s, Rep.ok (le 1 (State.fwdCode f.state) ++ comboByte f.cur ++ comboByte (if f.state = .waitingUp then f.target else f.cur) ++ le 1 0 ++ le 4 f.object ++
        le 4 f.allocKbps ++ le 4 f.switches.toNat ++ le 4 f.late.toNat ++ le 4 f.keyReq.toNat))

/-- FWD_QUERY. -/
def execFwdQuery (m : Mbx) (entry : U32) (s : State) : Host.Outcome State Fault Refusal := .next (s.run m (rowFwdQuery entry))

/-- fwd.leg. -/
def rowFwdLeg (leg : U16) : Row where
  opcode := 0x0607
  checks := fun _ s => { objects := [need (s.legLive leg.toNat).isSome St.noObject] }
  layout := fun _ => [(0, 0, 16, leg.toNat)]
  effect := fun _ s =>
    let k := s.line leg.toNat
    (s, Rep.ok (le 4 k.e ++ leI 4 k.v ++ le 2 k.loss ++ le 2 k.qMs ++ le 4 (s.lineCeiling leg.toNat) ++ le 4 k.nacks.toNat ++ le 4 (s.entriesOf leg.toNat).length))

/-- FWD_LEG. -/
def execFwdLeg (m : Mbx) (leg : U16) (s : State) : Host.Outcome State Fault Refusal := .next (s.run m (rowFwdLeg leg))

end Sys2Proof.Machine
end

