-- ==== Sys2Proof/Machine/Roster.lean ====
section
/-! DEFINITION. Roster records as the legs use them (13 R335 to R340, 04 R111, R112): buckets, lookup, creation, the update at an open, at a handshake and at a close. -/

namespace Sys2Proof.Machine

open Sys2Proof

/-! ### Buckets (13 R335) -/

/-- Home bucket of an endpoint key: its 16 bytes at ascending offsets. -/
def homeBucket (key : U128) : Nat := (crc32c (le 16 key.toNat)).toNat % 2097152

/-- The 64 record numbers a key may have, in bucket order. -/
def slotsOf (key : U128) : List Nat := (List.range 64).map (fun k => 16 * ((homeBucket key + k / 16) % 2097152) + k % 16)

/-! ### Records -/

/-- The default content of a new record (Table 13-3). -/
def newRecord (key : U128) (keepTime : Nat) : Record := { key, firstSeen := keepTime, lastSeen := keepTime }

/-- The bits of the codecs usable in a direction. -/
def codecBits (l : List CodecEntry) : U32 := l.foldl (fun acc e => acc ||| BitVec.ofNat 32 (2 ^ e.codec.toNat)) 0

/-- The largest of a list. -/
def maxOf (l : List Nat) : Nat := l.foldl max 0

/-- A record under a leg's offer: what the last offer could do (Table 13-3). -/
def Record.offered (r : Record) (o : LegOffer) : Record :=
  let recv := o.codecs.filter (fun e => CodecEntry.recvFor e 0 || CodecEntry.recvFor e 1)
  let snd := o.codecs.filter (fun e => CodecEntry.sendFor e 0 || CodecEntry.sendFor e 1)
  { r with
    codecRecv := codecBits recv, codecSend := codecBits snd,
    maxKpxsRecv := BitVec.ofNat 32 (maxOf (recv.map (fun e => e.maxKpxs.toNat))), maxKpxsSend := BitVec.ofNat 32 (maxOf (snd.map (fun e => e.maxKpxs.toNat))),
    temporal := maxOf (o.codecs.map (fun e => CodecEntry.layersT e)), spatial := maxOf (o.codecs.map (fun e => CodecEntry.layersS e)), sources := o.sources,
    suite := if sdesLeg o && o.keyLen != 0 then o.keyBlock.suite else r.suite }

/-- A percentile's move towards a session figure (R338). -/
def movePct (q x p : Nat) : Nat :=
  if q < x then q + max 1 ((x - q) * p / 800) else if x < q then q - max 1 ((q - x) * (100 - p) / 800) else q

/-- The update of a record at a leg close (R338). -/
def Record.closed (r : Record) (keepTime cause activeMin : Nat) (session : Option (Nat × Nat)) : Record :=
  let r := { r with
    lastSeen := keepTime, lastCause := BitVec.ofNat 8 cause, activeMin := min 4294967295 (r.activeMin + activeMin),
    dtlsFails := if cause = 2 then min 255 (r.dtlsFails + 1) else r.dtlsFails }
  match session with
  | none => r
  | some (x, loss) =>
    let r := if r.sessions = 0 then { r with p10 := x, p25 := x, p50 := x, p90 := x, lossP50 := loss }
      else { r with p10 := movePct r.p10 x 10, p25 := movePct r.p25 x 25, p50 := movePct r.p50 x 50, p90 := movePct r.p90 x 90, lossP50 := movePct r.lossP50 loss 50 }
    { r with sessions := min 65535 (r.sessions + 1) }

namespace State

/-- The format a write stores: the highest that the firmware and the pair's Truss version allow; a record never goes down in format (R340). -/
def writeFormat (s : State) (old : Nat) : Nat := max old (min s.firmware.formatMax (if s.twin.linkUp ∧ s.twin.version = 0x20 then 2 else 3))

/-- A record as it is written: its format, one more update (R340). -/
def stamped (s : State) (r : Record) : Record := { r with format := s.writeFormat r.format, updates := r.updates + 1 }

/-- The content of a record number as commands see it: stored, staged, or basted for creation in a seam, which takes the place of a record whose slot is reused (04 R111, R336). -/
def recordSeen (s : State) (r : Nat) : Option Record :=
  match (s.keep.basted.find? (fun b => b.2.1 == r && b.2.2.isSome)).bind (fun b => b.2.2) with
  | some x => if (s.record r).any (fun y => y.key == x.key) then s.record r else some x
  | none => s.record r

/-- The record of a key (R335). -/
def findKey (s : State) (key : U128) : Option Nat := if key = 0 then none else (slotsOf key).find? (fun r => (s.recordSeen r).any (fun x => x.key == key))

/-- Open legs that use a record. -/
def usersOf (s : State) (r : Nat) : Nat := (s.model.legs.filter (fun p => p.2.record == some r)).length

/-- A record may be reused (R336): no open leg uses it, and no seam holds a write of it. -/
def reusable (s : State) (r : Nat) : Bool :=
  s.keep.retainDays != 0 && s.usersOf r == 0 && !s.keep.basted.any (fun b => b.2.1 == r) && (s.record r).any (fun x => !x.pinned && decide (x.lastSeen + s.keep.retainDays * 86400 < s.keepTime))

/-- The slot a new record of a key takes: the lowest free one, or the reusable one seen longest ago (R336). -/
def newSlot (s : State) (key : U128) : Option Nat :=
  if s.keep.level = 3 ∨ s.noStore then none
  else match (slotsOf key).find? (fun r => (s.recordSeen r).isNone) with
    | some r => some r
    | none => ((sortBy (fun (a b : Nat × Nat) => decide (a.2 < b.2) || (a.2 == b.2 && decide (a.1 ≤ b.1)))
        (((slotsOf key).filter s.reusable).map (fun r => (r, (s.record r).elim 0 (·.lastSeen))))).head?).map (·.1)

/-- Lookups must wait for step 7 of the mount (04 R112). -/
def lookupWaits (s : State) (key : U128) : Bool := key != 0 && !s.noStore && !s.lookupUp

/-- The roster's part of a leg open applied now: the record found or created and written; its number, whether it is new, and whether it is held back (04 R111, R112). -/
def rosterOpen (s : State) (o : LegOffer) : State × Option Nat × Bool × Bool :=
  if o.endpointKey = 0 ∨ s.noStore then (s, none, false, false)
  else
    let write (s : State) (r : Nat) (x : Record) (new : Bool) :=
      let x := Record.offered { x with legsOpened := x.legsOpened + 1 } o
      let w := s.rosterWrite r (if (s.record r).all (fun y => y.key != x.key) then { x with format := s.writeFormat 0 } else s.stamped x)
      (w.1, some r, new, w.2)
    match s.findKey o.endpointKey with
    | some r => write s r ((s.recordSeen r).getD (newRecord o.endpointKey s.keepTime)) false
    | none =>
      match s.newSlot o.endpointKey with
      | some r => write s r (newRecord o.endpointKey s.keepTime) true
      | none => (s, none, false, false)

/-- The roster's part of a basted leg open: a record to create is numbered, nothing is written (04 R111). -/
def rosterBaste (s : State) (o : LegOffer) (seam : U16) : State × Option Nat × Bool :=
  if o.endpointKey = 0 ∨ s.noStore then (s, none, false)
  else match s.findKey o.endpointKey with
    | some r => (s, some r, false)
    | none =>
      match s.newSlot o.endpointKey with
      | some r => (s.modKeep (fun k => { k with basted := k.basted ++ [(seam, r, some (newRecord o.endpointKey s.keepTime))] }), some r, true)
      | none => (s, none, false)

/-- A change of a record by the leg lifecycle; answers whether it is held back (04 R112). -/
def rosterChange (s : State) (r : Option Nat) (f : Record → Record) : State × Bool :=
  match r with
  | none => (s, false)
  | some r =>
    match s.recordSeen r with
    | some x => s.rosterWrite r (s.stamped (f x))
    | none => (s, false)

/-- Entitlements and key policy of a key's record; a reference that the active policy does not define counts as 0 (04 R111, Table 13-3). -/
def entitled (s : State) (key : U128) : U32 × Nat :=
  if s.noStore then (0, 0)
  else match (s.findKey key).bind s.recordSeen with
    | some x => (x.deny, if x.keyPolicy.toNat < s.ks.policy.keyPolicies.length then x.keyPolicy.toNat else 0)
    | none => (0, 0)

end State

/-- The lowest DENY bit that forbids what an offer asks (Table 13-5). -/
def deniedBit (deny : U32) (o : LegOffer) : Option Nat :=
  let video := LegOffer.sends o 1 || LegOffer.sends o 2 || LegOffer.sends o 3
  let asks : List Bool := [video, o.codecs.any (fun e => CodecEntry.sendFor e 1), LegOffer.sends o 2, false, o.maxRecvKbps == 0 || decide (8000 < o.maxRecvKbps.toNat), o.security == 4]
  (List.range 6).find? (fun k => deny.getLsbD k && (asks[k]?).getD false)

/-- ROSTER_DEFERRED_WRITE: a record held back is written once the journal accepts writes (04 R112). -/
def rosterDeferred (r : Nat) (s : State) : State :=
  match tget s.keep.unwritten r with
  | none => s
  | some x =>
    if s.rosterRoom 288 = St.ok ∧ !s.notPrimary then (s.modKeep (fun k => { k with unwritten := tdel k.unwritten r })).journalRoster (match x with | some rec => .put r rec | none => .clear r) else s

/-- ROSTER_DEFERRED_WRITE. -/
def execRosterDeferredWrite (record : Nat) (s : State) : Host.Outcome State Fault Refusal := .next (rosterDeferred record s)

end Sys2Proof.Machine
end

