-- ==== Sys2Proof/Machine/Legs.lean ====
section
/-! DEFINITION. Legs (04 R108 to R115, R118, R121): the offer's checks, opening, keys, progress, hold, update, closing, and the leg rows. -/

namespace Sys2Proof.Machine

open Sys2Proof

/-! ### The offer (R108 to R110; 16 R418) -/

/-- KEY_BLOCK's checks: 112 bytes, suite 1 for SECURITY 3, suite 2 or 3 for SECURITY 2, the rest of its keys and salts 0 (16 R418, Table 16-6). `update`: an update without KEY_BLOCK keeps the keys. -/
def keyBlockOk (o : LegOffer) (update : Bool) : Bool :=
  if !sdesLeg o then true
  else if update ∧ o.keyLen = 0 then true
  else
    let b := o.keyBlock
    let keys := if b.suite = 3 then true else decide (b.txKey.toNat < 2 ^ 128) && decide (b.rxKey.toNat < 2 ^ 128)
    let salts := if b.suite = 1 then true else decide (b.txSalt.toNat < 2 ^ 96) && decide (b.rxSalt.toNat < 2 ^ 96)
    o.keyLen == 112 && (if o.security = 3 then b.suite == 1 else b.suite == 2 || b.suite == 3) && keys && salts

/-- Order 5 of an offer: the first field out of range on its own, with its byte offset (R109, 16 R418). -/
def offerFields (o : LegOffer) (keys update : Bool) : Option Rep :=
  match LegOffer.badAt o with
  | some off => some (Rep.fail St.badField [off])
  | none => if keys ∧ !keyBlockOk o update then some (Rep.fail St.badField [0x280]) else none

namespace State

/-- Order 8 of an offer: PORT exists under its port's split, LOCAL_ADDR is an address of PORT (R108, 09 R238). -/
def offerAgrees (s : State) (o : LegOffer) : Option Rep :=
  firstFail [need (s.hasIface o.port.toNat) St.badField [0x018], need (s.localAddr o.port.toNat o.af o.localAddr) St.badField [0x020]]

/-- Order 10 of an offer: SECURITY 4 and EMERGENCY are permitted to the mailbox; a record's key policy other than 0 allows the suite or SECURITY 4 (R110, 16 R416, Table 16-4). -/
def offerPermitted (s : State) (m : Mbx) (o : LegOffer) (policy : Nat) : Option Rep :=
  let pol := (s.ks.policy.keyPolicies[policy]?)
  firstFail
    [ need (o.security != 4 || s.permits m 1) St.isProtected,
      need (!o.emergency || s.permits m 0) St.isProtected,
      need (policy == 0 || pol.all (fun p => if o.security = 4 then p.allowNone else !sdesLeg o || p.suites.getLsbD o.keyBlock.suite.toNat)) St.isProtected ]

/-! ### Life of a leg (R113) -/

/-- Send what a close sends: RTCP BYE, and a DTLS close_notify where DTLS is used; nothing on a close by RESYNC (Tables 4-4 and 4-5). -/
def farewell (s : State) (l cause : Nat) (q : Leg) : State :=
  if cause = 9 then s
  else
    let s := if q.keyed then s.sendPacket l 2 (some 2) 8 0 0 else s
    if dtlsLeg q.offer ∧ !s.notPrimary then s.enqueue { length := Config.closeNotifyBytes + wireBytes { q.offer with security := 4 } 0, level := some 2, leg := l, iface := q.offer.port, nextHopResolved := true } else s

/-- Close a leg: its farewell, CLOSING with the cause, and its forwarding entries follow; a leg already CLOSING keeps its first cause (R113 to R115). -/
def shutLeg (s : State) (l cause : Nat) : State :=
  match s.legLive l with
  | none => s
  | some q => if q.state = .closing then s else ((s.farewell l cause q).closeLeg l cause).refreshLeg l

/-- The jitter buffer empties and returns to IDLE (05 R127). -/
def idleBuffer (s : State) (l : Nat) : State := s.modLegSnd l (fun d => { d with jb := d.jb.idle })

/-- A leg enters ACTIVE or HELD: the line starts, or the jitter buffer empties; forwarding entries follow (R113, 08 R210, 05 R127). -/
def enterLeg (s : State) (l : Nat) (st : LegState) : State :=
  let s := s.setLegState l st
  let s := if st = .active then s.startLine l else s.idleBuffer l
  s.refreshLeg l

/-- A leg that is connected and keyed leaves CONNECTING (R113). -/
def progress (s : State) (l : Nat) : State :=
  match s.legLive l with
  | none => s
  | some q =>
    if q.state = .connecting ∧ q.connected ∧ q.keyed then (s.modLeg l (fun q => { q with holdRecorded := false })).enterLeg l (if q.holdRecorded then .held else .active)
    else s

/-- Sound state of a new leg: it listens to its conference's main mix, with no chain; SSRC, sequence and timestamp bases are drawn (05 R143, R146; 12 R315). -/
def newSound (s : State) (l conf : Nat) : State :=
  let (ssrc, s) := s.draw32
  let (seq, s) := s.draw32
  let (ts, s) := s.draw32
  s.modSnd (fun d => { d with legs := tput d.legs l { listen := conf, chain := noChain, ssrc, txSeq := seq.truncate 16, tsBase := ts } })

/-- A leg starts: CONNECTING, its timers, its keys where they came with the offer (R113, R114). -/
def startLeg (s : State) (l : Nat) : State :=
  match tget s.model.legs l with
  | none => s
  | some q =>
    let o := q.offer
    let s := s.modLeg l (fun q => { q with
      state := .connecting, basted := none, connected := !o.ice, keyed := o.security == 4 || sdesLeg o, openedS := s.chipS,
      connectUntil := s.now + LegOffer.connectS o * ticksPerS, consentUntil := if o.ice then some (s.now + LegOffer.consentSec o * ticksPerS) else none })
    let s := s.legEvent l q.conf 2 (if q.basted.isSome then 1 else 0) 0xFF
    let s := if sdesLeg o then s.loadLeg l o.keyBlock.suite.toNat o.keyBlock.txRoc.toNat o.keyBlock.rxRoc.toNat (State.blockKeys o.keyBlock) else if dtlsLeg o then s.pkAsk l else s
    s.progress l

/-- The leg of an offer, admitted. -/
def legOf (s : State) (o : LegOffer) (deny : U32) (policy : Nat) (basted : Option U16) : Leg :=
  { state := if basted.isSome then .basted else .connecting, conf := o.conf.toNat, offer := o, emergency := o.emergency, record := none, basted,
    deny, keyPolicy := policy, openedS := s.chipS }

/-- The leg index an offer takes: the one it names, or the lowest that is free and outside its hold-off (R105). Where every free one lies in its hold-off the spec names no status; the model answers NO_CAPACITY with LEGS, 1 and 0 (DESIGN CHOICE, log 78). -/
def legIndex (s : State) (o : LegOffer) : Option Nat :=
  if o.leg = 0xFFFF then lowest (fun l => !thas s.model.legs l && !s.inHold s.model.legHold l) 0 65536 else some o.leg.toNat

/-- The state with an offer's leg in it, as the admission counts it. -/
def withLeg (s : State) (l : Nat) (q : Leg) : State := { s with model := { s.model with legs := tput s.model.legs l q, legHold := tdel s.model.legHold l } }

end State

/-- Flags of the leg.open reply (04). SEARCHED is set for a record that a direct search found; for a record that such a search did not find and the device created it stays 0 (R112 and the reply table can be read either way; DESIGN CHOICE, log 78). -/
def openFlags (new anonymous unwritten searched : Bool) (noSend : Nat) : Nat := bit new + 2 * bit anonymous + 4 * bit unwritten + 8 * bit searched + 16 * noSend

/-- The reply of leg.open and leg.update. -/
def openReply (l flags : Nat) (record : Option Nat) (tenths : Int) : Bytes := le 2 l ++ le 2 flags ++ le 4 (record.getD 4294967295) ++ leI 4 tenths ++ le 4 0

/-- The checks of leg.open and leg.check (R108 to R112, R116, R121). -/
def openChecks (m : Mbx) (c : Cmd) (o : LegOffer) (s : State) (check : Bool) : Checks :=
  let conf := o.conf.toNat
  let l := s.legIndex o
  let (deny, policy) := s.entitled o.endpointKey
  let t := s.withLeg (l.getD 65536) (s.legOf o deny policy none)
  { fields := true,
    pre := offerFields o (!check) false,
    objects := [need (s.confFor conf c.hdr.seam).isSome St.noObject, s.offerAgrees o],
    scope := some conf,
    items := match l with | some k => [.leg k] | none => [],
    busy := [need (s.isReady 3) St.busy, need (!s.lookupWaits o.endpointKey) St.busy [0xFFFC], s.stoppedCheck,
             need (o.leg == 0xFFFF || !thas s.model.legs o.leg.toNat) St.busy, need (o.leg == 0xFFFF || !s.inHold s.model.legHold o.leg.toNat) St.busy [0xFFFF]],
    rest := [s.offerPermitted m o policy,
             (deniedBit deny o).map (fun k => Rep.fail St.refused [k]),
             s.admission t o.emergency (some conf)] }

/-- leg.open applied now, at an index: the roster first, then the leg with its charges, then CONNECTING (R111, R113, R116). -/
def doLegOpen (o : LegOffer) (l : Nat) (s : State) : State × Rep :=
  let conf := o.conf.toNat
  let (deny, policy) := s.entitled o.endpointKey
  let (s1, rec_, new, held) := s.rosterOpen o
  let t := s1.charging l (fun s => (s.withLeg l { s.legOf o deny policy none with record := rec_, unwritten := held }).newSound l conf)
  let tenths : Int := ((t.soundOf conf).tenths : Int) - (s1.soundOf conf).tenths
  let t := t.startLeg l
  (t, Rep.ok (openReply l (openFlags new rec_.isNone held (rec_.isSome && !new && !s.isReady 5) (LegOffer.noSend o)) rec_ tenths))

/-- leg.open. -/
def rowLegOpen (m : Mbx) (offer : LegOffer) : Row where
  opcode := 0x0301
  layout := LegOffer.fields offer
  checks := fun c s => openChecks m c (LegOffer.atVersion offer c.hdr.version) s false
  effect := fun c s =>
    let o := LegOffer.atVersion offer c.hdr.version
    match s.legIndex o with
    | some l => doLegOpen o l s
    | none => (s, Rep.fail St.noCapacity [1, 1, 0])
  baste := fun c s =>
    let o := LegOffer.atVersion offer c.hdr.version
    match s.legIndex o with
    | none => (s, Rep.fail St.noCapacity [1, 1, 0], none)
    | some l =>
      let conf := o.conf.toNat
      let (deny, policy) := s.entitled o.endpointKey
      let (s1, rec_, new) := s.rosterBaste o c.hdr.seam
      let t := s1.charging l (fun s => (s.withLeg l { s.legOf o deny policy (some c.hdr.seam) with record := rec_ }).newSound l conf)
      let tenths : Int := ((t.soundOf conf).tenths : Int) - (s1.soundOf conf).tenths
      (t, Rep.ok (openReply l (openFlags new rec_.isNone false (rec_.isSome && !new && !s.isReady 5) (LegOffer.noSend o)) rec_ tenths), some (.legOpen m o, l))

/-- LEG_OPEN. -/
def execLegOpen (m : Mbx) (offer : LegOffer) (s : State) : Host.Outcome State Fault Refusal := .next (s.run m (rowLegOpen m offer))

/-- A basted leg.open applies at its boundary: the record is written, the leg starts (R111, 02 R50). -/
def applyLegOpen (l : Nat) (s : State) : State :=
  match tget s.model.legs l with
  | none => s
  | some q =>
    let s := match q.record with
      | none => s
      | some r =>
        let basted := s.keep.basted.find? (fun b : U16 × Nat × Option Record => b.2.1 == r && b.2.2.isSome && some b.1 == q.basted)
        match basted with
        | some (_, _, some x) =>
          let s := s.modKeep (fun k => { k with basted := k.basted.filter (fun b : U16 × Nat × Option Record => !(b.2.1 == r && some b.1 == q.basted)) })
          if (s.record r).any (fun (y : Record) => y.key == x.key) then (s.rosterChange (some r) (fun x => Record.offered { x with legsOpened := x.legsOpened + 1 } q.offer)).1
          else (s.rosterWrite r (Record.offered { x with legsOpened := 1, format := s.writeFormat 0, firstSeen := s.keepTime, lastSeen := s.keepTime } q.offer)).1
        | _ => (s.rosterChange (some r) (fun x => Record.offered { x with legsOpened := x.legsOpened + 1 } q.offer)).1
    s.startLeg l

/-- leg.check: every check and charge of leg.open, and nothing admitted. -/
def rowLegCheck (m : Mbx) (offer : LegOffer) : Row where
  opcode := 0x0300
  layout := LegOffer.fields offer
  checks := fun c s => openChecks m c (LegOffer.atVersion offer c.hdr.version) s true
  effect := fun c s =>
    let o := LegOffer.atVersion offer c.hdr.version
    let conf := o.conf.toNat
    let (deny, policy) := s.entitled o.endpointKey
    let t := s.withLeg ((s.legIndex o).getD 65536) (s.legOf o deny policy none)
    let a := s.soundOf conf
    let b := t.soundOf conf
    (s, Rep.ok (le 4 (b.tenths - a.tenths) ++ le 4 (b.decodes - a.decodes) ++ le 4 (b.encodes - a.encodes)))

/-- LEG_CHECK. -/
def execLegCheck (m : Mbx) (offer : LegOffer) (s : State) : Host.Outcome State Fault Refusal := .next (s.run m (rowLegCheck m offer))

/-! ### leg.update -/

/-- The association of an offer: AF, local and remote address and port. -/
def addrOf (o : LegOffer) : U8 × (U128 × U16) × (U128 × U16) := (o.af, (o.localAddr, o.localUdp), (o.remoteAddr, o.remoteUdp))

/-- An offer with the association of another. -/
def withAddr (o : LegOffer) (a : U8 × (U128 × U16) × (U128 × U16)) : LegOffer :=
  { o with af := a.1, localAddr := a.2.1.1, localUdp := a.2.1.2, remoteAddr := a.2.2.1, remoteUdp := a.2.2.2 }

/-- A leg's sound under another conference's media time, d samples on; it is no speaker there, and has no level yet (05 R136, R146). -/
def LegSound.rebase (q : LegSound) (d : Int) : LegSound :=
  let later (t : Nat) : Nat := (t + d).toNat
  { q with
    jb := q.jb.rebase d, gainIn := q.gainIn.rebase d, chainNext := q.chainNext.map (fun c => (later c.1, c.2)),
    meter := { q.meter with wins := q.meter.wins.map (fun w => (later w.1, w.2)) },
    listenFades := q.listenFades.map (fun f => { f with start := later f.start }), ownUntil := q.ownUntil.map later,
    sel := .quiet, attack := 0, release := 0, level := -127, levels := [], minus := false, minusUntil := none, decoded := false }

/-- The sound of a leg that moves to another conference: its media time is that conference's, it listens to its main mix, with a crossfade from the mix it leaves and the tones active there; it leaves every further mix, and the speaker selection, which knows no level of it in the new conference (05 R136, R146, R147, R152). -/
def moveSound (l conf : Nat) (s : State) : State :=
  let old := s.confOfLeg l
  let by_ : Int := (s.media conf : Int) - s.media old
  let speaker := (tget s.snd.mixes old).any (fun x => (tget x.inputs l).any MixInput.present)
  let s := s.carryTones (s.listenOf l false) conf
  let s := s.modSnd (fun d => { d with
    mixes := tmap d.mixes (fun x q => if decide (8192 ≤ x) && q.conf == old then { q with inputs := tmod q.inputs l (fun i => i.change (s.nextTick old) false) } else q),
    legs := tmod d.legs l (fun q => (q.rebase by_).listenTo conf (s.nextTick conf)),
    changes := d.changes.filter (fun g => g.incoming != some l) })
  if speaker then s.modSnd (fun d => { d with changes := d.changes ++ [{ conf := old, incoming := none, outgoing := some l, p := roundUp (s.media old + 1) 960 }] }) else s

/-- Apply an update to a leg: a leg CLOSING or gone takes none (R115). -/
def doLegUpdate (o : LegOffer) (s : State) : State × Bool :=
  let l := o.leg.toNat
  match s.legLive l with
  | none => (s, false)
  | some q =>
    if q.state = .closing then (s.charging l (fun s => s.modLeg l (fun q => { q with pendOffer := none })), false)
    else
      let conf := o.conf.toNat
      let same := addrOf o == addrOf q.offer
      let kept := withAddr o (addrOf q.offer)
      let s := s.charging l (fun s =>
        (if conf ≠ q.conf then moveSound l conf s else s).modLeg l (fun q =>
          { q with pendOffer := none, conf, offer := kept, emergency := o.emergency, newAddr := if same then none else some (addrOf o) }))
      let s := if sdesLeg o ∧ o.keyLen ≠ 0 then s.rekeyed l o.keyBlock.suite.toNat o.keyBlock.txRoc.toNat o.keyBlock.rxRoc.toNat (State.blockKeys o.keyBlock) else s
      let (s, held) := s.rosterChange q.record (fun x => Record.offered x o)
      (s.refreshLeg l, held)

/-- leg.update. -/
def rowLegUpdate (m : Mbx) (offer : LegOffer) : Row where
  opcode := 0x0302
  layout := LegOffer.fields offer
  checks := fun c s =>
    let o := offer
    let l := o.leg.toNat
    let seam := c.hdr.seam
    let old := s.legFor l seam
    let conf := o.conf.toNat
    let moved := old.any (fun q => q.conf != conf)
    let same (f : LegOffer → Bool) (off : Nat) : Option Rep := need (old.all (fun q => f q.offer)) St.badField [off]
    let t := s.modLeg l (fun q => if seam = 0xFFFF then { q with conf, offer := o, emergency := o.emergency, pendOffer := none } else { q with pendOffer := some o })
    { pre := offerFields o true true,
      objects := [need old.isSome St.noObject, need (s.confFor conf seam).isSome St.noObject,
                  same (fun q => q.endpointKey == o.endpointKey) 0x008, same (fun q => q.port == o.port) 0x018, same (fun q => q.security == o.security) 0x01D,
                  same (fun q => q.fingerprint == o.fingerprint) 0x060, s.offerAgrees o,
                  need (!moved || seam == 0xFFFF || (s.seamForBasting m seam).all (fun k => k.scope.isNone)) St.badField],
      scope := some (old.elim conf (fun q => q.conf)),
      items := [.leg l],
      busy := [s.stopIf t],
      rest := [s.offerPermitted m o (old.elim 0 (·.keyPolicy)),
               need (!(old.any (fun q => q.emergency) && !o.emergency) || s.permits m 0) St.isProtected,
               (deniedBit (old.elim 0 (·.deny)) o).map (fun k => Rep.fail St.refused [k]),
               if old.any (fun q => q.state == .closing) then none else s.admission t o.emergency (some conf)] }
  effect := fun _ s =>
    let o := offer
    let l := o.leg.toNat
    let old := (tget s.model.legs l).elim 0 (·.conf)
    let conf := o.conf.toNat
    let confs := if old = conf then [conf] else [old, conf]
    let before := total confs (fun c => (s.soundOf c).tenths)
    let (t, held) := doLegUpdate o s
    let after := total confs (fun c => (t.soundOf c).tenths)
    let rec_ := (tget s.model.legs l).bind (·.record)
    (t, Rep.ok (openReply l (openFlags false rec_.isNone held false (LegOffer.noSend o)) rec_ ((after : Int) - before)))
  baste := fun _ s =>
    let o := offer
    let l := o.leg.toNat
    let old := (tget s.model.legs l).elim 0 (·.conf)
    let conf := o.conf.toNat
    let confs := if old = conf then [conf] else [old, conf]
    let before := total confs (fun c => (s.soundOf c).tenths)
    let t := s.charging l (fun s => s.modLeg l (fun q => if q.state = .closing then q else { q with pendOffer := some o }))
    let after := total confs (fun c => (t.soundOf c).tenths)
    let rec_ := (tget s.model.legs l).bind (·.record)
    (t, Rep.ok (openReply l (openFlags false rec_.isNone false false (LegOffer.noSend o)) rec_ ((after : Int) - before)), some (.legUpdate m o, 0))

/-- LEG_UPDATE. -/
def execLegUpdate (m : Mbx) (offer : LegOffer) (s : State) : Host.Outcome State Fault Refusal := .next (s.run m (rowLegUpdate m offer))

/-! ### leg.close, leg.hold, leg.query -/

/-- leg.close. -/
def rowLegClose (m : Mbx) (leg : U16) : Row where
  opcode := 0x0303
  layout := fun _ => [(0, 0, 16, leg.toNat)]
  checks := fun c s =>
    let q := s.legFor leg.toNat c.hdr.seam
    { objects := [need q.isSome St.noObject], scope := some (s.confOfLeg leg.toNat), items := [.leg leg.toNat, .legHold leg.toNat],
      rest := [need (!q.any (fun q => q.emergency) || s.permits m 0) St.isProtected] }
  effect := fun _ s => (s.shutLeg leg.toNat 0, Rep.ok)
  baste := fun _ s => (s, Rep.ok, some (.legClose m leg, 0))

/-- LEG_CLOSE. -/
def execLegClose (m : Mbx) (leg : U16) (s : State) : Host.Outcome State Fault Refusal := .next (s.run m (rowLegClose m leg))

/-- Hold or resume a leg; during CONNECTING the hold is recorded (R113). -/
def doLegHold (l : Nat) (hold : Bool) (s : State) : State :=
  match s.legLive l with
  | none => s
  | some q =>
    match q.state with
    | .connecting => s.modLeg l (fun q => { q with holdRecorded := hold })
    | .active => if hold then s.enterLeg l .held else s
    | .held => if hold then s else s.enterLeg l .active
    | _ => s

/-- leg.hold. -/
def rowLegHold (m : Mbx) (leg : U16) (hold : Bool) : Row where
  opcode := 0x0304
  layout := fun _ => [(0, 0, 16, leg.toNat), (2, 0, 1, bit hold)]
  checks := fun c s =>
    { objects := [need (s.legFor leg.toNat c.hdr.seam).isSome St.noObject], scope := some (s.confOfLeg leg.toNat), items := [.legHold leg.toNat],
      busy := [match s.holder [.leg leg.toNat] c.hdr.seam with | some k => some (Rep.fail St.busy [k.toNat]) | none => none] }
  effect := fun _ s => (doLegHold leg.toNat hold s, Rep.ok)
  baste := fun _ s => (s, Rep.ok, some (.legHold m leg hold, 0))

/-- LEG_HOLD. -/
def execLegHold (m : Mbx) (leg : U16) (hold : Bool) (s : State) : Host.Outcome State Fault Refusal := .next (s.run m (rowLegHold m leg hold))

/-- leg.query. -/
def rowLegQuery (leg : U16) : Row where
  opcode := 0x0305
  layout := fun _ => [(0, 0, 16, leg.toNat)]
  checks := fun _ s => { objects := [need (s.legLive leg.toNat).isSome St.noObject] }
  effect := fun c s =>
    let later := c.hdr.version != 0x14
    match tget s.model.legs leg.toNat with
    | none => (s, Rep.fail St.noObject)
    | some q =>
      (s, Rep.ok (le 1 (State.legCode q.state) ++ le 1 (if q.state = .closing then q.cause.toNat else 255) ++ le 2 q.conf ++
        le 2 (bit (q.emergency && later) + 2 * bit (q.record.isNone && later) + 4 * bit (q.holdRecorded && later)) ++ le 2 q.offer.sources.toNat ++ le 4 (q.record.getD 4294967295) ++
        le 4 (24 + s.kernelTenths (s.kernelOf leg.toNat false)) ++ le 4 (s.fwd.entries.filter (fun p => p.2.leg == leg.toNat)).length ++ le 4 0))

/-- LEG_QUERY. -/
def execLegQuery (m : Mbx) (leg : U16) (s : State) : Host.Outcome State Fault Refusal := .next (s.run m (rowLegQuery leg))

/-! ### What reaches a leg from outside -/

/-- Bytes of the UDP payload of a STUN success response: header, XOR-MAPPED-ADDRESS, MESSAGE-INTEGRITY, FINGERPRINT. -/
def stunBytes (v6 : Bool) : Nat := 20 + (if v6 then 24 else 12) + 24 + 8

/-- A STUN binding request whose integrity check passes: it is answered, connects the leg, refreshes its consent, and from the new remote address puts a changed association in use (R113, R114, leg.update). -/
def stunRequest (l : Nat) (fromNew integrityOk : Bool) (s : State) : State :=
  match s.legLive l with
  | none => s
  | some q =>
    if !integrityOk ∨ q.state = .closing ∨ (fromNew ∧ q.newAddr.isNone) then s
    else
      let o := match fromNew, q.newAddr with
        | true, some a => withAddr q.offer a
        | _, _ => q.offer
      let s := s.modLeg l (fun q => { q with
        offer := o, newAddr := if fromNew then none else q.newAddr, connected := true,
        consentUntil := if o.ice then some (s.now + LegOffer.consentSec o * State.ticksPerS) else q.consentUntil })
      let s := if s.notPrimary then s else s.enqueue { length := wireBytes { o with security := 4 } (stunBytes (o.af == 6)), level := some 2, leg := l, iface := o.port, nextHopResolved := true }
      (s.progress l).fin

/-- STUN_BINDING_REQUEST. -/
def execStunBindingRequest (leg : Nat) (fromNew integrityOk : Bool) (s : State) : Host.Outcome State Fault Refusal := .next (stunRequest leg fromNew integrityOk s)

/-- A leg's DTLS handshake ends: its keys are loaded and it may go ACTIVE, or it closes with DTLS_FAILED (R113, R114, 10 R271). One that waits for the public-key engine does not (16 R419). -/
def dtlsDone (l : Nat) (ok : Bool) (suite version : U8) (s : State) : State :=
  match s.legLive l with
  | none => s
  | some q =>
    if q.state ≠ .connecting ∨ q.keyed ∨ !dtlsLeg q.offer ∨ s.pkWaits l then s
    else
    let s := s.pkDone l
    if !ok then ((s.shutLeg l 2).mirror 32).fin
    else
      let s := (s.loadLeg l suite.toNat 0 0 (s.dtlsKeys l)).modLeg l (fun q => { q with keyed := true }) |>.mirror 32
      let s := (s.rosterChange q.record (fun x => { x with dtlsVersion := version, suite })).1
      (s.progress l).fin

/-- DTLS_HANDSHAKE_DONE. -/
def execDtlsHandshakeDone (leg : Nat) (ok : Bool) (suite dtlsVersion : U8) (s : State) : Host.Outcome State Fault Refusal := .next (dtlsDone leg ok suite dtlsVersion s)

/-- Timers of legs are measured by the primary or a unit alone (R114). -/
def measures (s : State) : Bool := !s.notPrimary

/-- A close that a timer causes: the primary mirrors it with its cause (R114). -/
def timedClose (l cause : Nat) (s : State) : State := ((s.shutLeg l cause).mirror (Config.configBytes 0x10008)).fin

/-- CONNECT_TIMEOUT_S expires (R114). -/
def connectTimeout (l : Nat) (s : State) : State :=
  if measures s && (s.legLive l).any (fun q => q.state == .connecting && decide (q.connectUntil ≤ s.now)) then timedClose l 1 s else s

/-- CONNECT_TIMEOUT. -/
def execConnectTimeout (leg : Nat) (s : State) : Host.Outcome State Fault Refusal := .next (connectTimeout leg s)

/-- No consent refresh within CONSENT_S, with ICE = 1 only (R114). -/
def consentLost (l : Nat) (s : State) : State :=
  if measures s && (s.legLive l).any (fun q => (q.state == .active || q.state == .held) && q.consentUntil.any (fun t => decide (t ≤ s.now))) then timedClose l 3 s else s

/-- CONSENT_LOST. -/
def execConsentLost (leg : Nat) (s : State) : Host.Outcome State Fault Refusal := .next (consentLost leg s)

/-- A slot SPENT or LOST for REKEY_S without a rekey closes the leg with KEY_FAILED (10 R276). -/
def rekeyTimeout (l : Nat) (s : State) : State :=
  let wait := (s.cip.classes.get (if s.classOf l = 1 then 1 else 0)).rekeyS * 1000000000
  match (s.rekey l).spentSince with
  | some t => if t + wait ≤ s.chipNs ∧ measures s then timedClose l 6 (s.modRekey l (fun r => { r with spentSince := none })) else s
  | none => s

/-- REKEY_TIMEOUT. -/
def execRekeyTimeout (leg : Nat) (s : State) : Host.Outcome State Fault Refusal := .next (rekeyTimeout leg s)

/-! ### Release (R105, R113, R216; 13 R338; 10 R258, R271) -/

/-- The session figure of a leg: the medians of E and of loss over its ACTIVE updates (13 R338). -/
def sessionOf (k : Line) : Option (Nat × Nat) := if k.history = [] then none else some (medianNat k.history, medianNat k.lossHistory)

namespace State

/-- A leg's sources are gone: what is kept for them goes too. -/
def dropSources (s : State) (l : Nat) : State :=
  let own (k : Nat) : Bool := k / 4 == l
  let s := s.modFwd (fun w => { w with sources := w.sources.filter (fun p => !own p.1) })
  s.modPic (fun p => { p with keyLast := p.keyLast.filter (fun x => !own x.1), keyDue := p.keyDue.filter (fun x => !own x.1), firSeq := p.firSeq.filter (fun x => !own x.1) })

/-- A leg's sound state goes; a speaker's place is given up at the next multiple of 960. -/
def dropSound (s : State) (l : Nat) : State :=
  let c := s.confOfLeg l
  let speaker := (tget s.snd.mixes c).any (fun x => (tget x.inputs l).any MixInput.present)
  s.modSnd (fun d => { d with
    legs := tdel d.legs l,
    mixes := tmap d.mixes (fun x q => if 8192 ≤ x then { q with inputs := tdel q.inputs l } else q),
    changes := d.changes.filter (fun g => g.incoming != some l) ++ (if speaker then [{ conf := c, incoming := none, outgoing := some l, p := roundUp (s.media c + 1) 960 }] else []) })

/-- Take a leg's place away: forwarding entries, queue, keys, line and sound. -/
def dropLeg (s : State) (l : Nat) : State :=
  let es := (s.fwd.entries.filter (fun p => p.2.leg == l || (!p.2.isFeed && p.2.object / 4 == l))).map (·.1)
  let s := if (s.rekey l).waiting = [] then s else s.answerRekey l 5
  let s := s.dropEntries 8 es
  let s := s.modFwd (fun w => { w with entries := tmap w.entries (fun _ f => if f.retarget.any (fun r => r / 4 == l) then { f with retarget := none } else f) })
  let s := ((s.emptyQueue l).emptyLeg l).dropSources l
  let s := (s.dropSound l).modFwd (fun w => { w with lines := tdel w.lines l })
  { s with model := { s.model with legs := tdel s.model.legs l, ghosts := (s.model.ghosts.map (fun g => { g with legs := g.legs.filter (fun p => p.1 != l) })).filter (fun g => !g.legs.isEmpty) } }

/-- A leg's index is withheld for 2 s (R105). -/
def holdLeg (s : State) (l : Nat) : State := { s with model := { s.model with legHold := tput s.model.legHold l s.chipNs } }

/-- A leg becomes FREE: its record is updated, its charges are released, its index is withheld for 2 s (R105, R113). -/
def freeLeg (s : State) (l : Nat) : State :=
  match s.legLive l with
  | none => s
  | some q =>
    let s := if s.notPrimary then s else (s.rosterChange q.record (fun x => Record.closed x s.keepTime q.cause.toNat (q.activeS / 60) (sessionOf (s.line l)))).1
    ((s.dropLeg l).holdLeg l).legEvent l q.conf 0 5 0xFF

end State

/-- CLOSING ends: the queue is drained, or 20 ms have passed (R113); the primary or a unit alone measures it, and the primary mirrors the end (R114). -/
def closingDrainEnd (l : Nat) (s : State) : State :=
  match s.legLive l with
  | none => s
  | some q =>
    if measures s ∧ q.state = .closing ∧ ((s.legQ l).frames = [] ∨ q.drainUntil ≤ s.now) then ((s.freeLeg l).mirror (Config.configBytes 0x10009)).fin else s

/-- CLOSING_DRAIN_END. -/
def execClosingDrainEnd (leg : Nat) (s : State) : Host.Outcome State Fault Refusal := .next (closingDrainEnd leg s)

end Sys2Proof.Machine
end

