-- ==== Sys2Proof/Machine/Confs.lean ====
section
/-! DEFINITION. Conferences (04 R104 to R107, R116, R118): creation, origin, deletion, settings, and the conf rows. -/

namespace Sys2Proof.Machine

open Sys2Proof

/-- The first TB3 stitch tick at or after a TB3 value (R106). -/
def tickAfter (tb3 : Nat) : Nat := roundUp tb3 1000000

/-- The conference a state item belongs to; none: no conference's item. -/
def State.itemConf (s : State) : Item → Option Nat
  | .conf c | .confSpeakers c | .threshold c => some c
  | .leg l | .legHold l | .listen l | .route l _ | .gainIn l | .gainRoute l _ | .chain l | .jitter l | .fwdLine l | .legQueue l => some (s.confOfLeg l)
  | .mix x | .gainMaster x | .mixEncode x => some (s.confOfMix x)
  | .layout y | .tile y _ | .region y _ => some (s.confOfLayout y)
  | .feed f => some ((tget s.pic.feeds f).elim 0 (fun g => s.confOfLayout g.layout))
  | .fwdEntry e => some (entryConf s e)
  | .fwdSource x => some (s.confOfSource x)
  | _ => none

/-- A conference's main mix (05 R138). -/
def mainMix (c : Nat) (basted : Option U16) : Mix := { conf := c, basted }

/-- Create a conference with its main mix; its origin is the first TB3 stitch tick at or after a TB3 value (R104, R106). -/
def doConfCreate (c speakers : Nat) (standing : Bool) (legLimit startMedia notBefore : Nat) (basted : Option U16) (s : State) : State :=
  let q : Conf := { speakers, standing, legLimit, startMedia, notBefore, basted }
  let s : State := { s with model := { s.model with confs := tput s.model.confs c q, confHold := tdel s.model.confHold c } }
  s.modSnd (fun d => { d with mixes := tput d.mixes c (mainMix c basted) })

/-- The conference a create names, or the lowest free one outside its hold-off (R105). Where every free one lies in its hold-off the spec names no status; the model answers NO_CAPACITY with CONFERENCES, 1 and 0 (DESIGN CHOICE, log 78). -/
def confIndex (conf : U16) (s : State) : Option Nat :=
  if conf = 0xFFFF then lowest (fun c => !thas s.model.confs c && !s.inHold s.model.confHold c) 0 8192 else some conf.toNat

/-- SPEAKERS with its default. -/
def speakersOf (n : U8) : Nat := if n = 0 then 4 else n.toNat

/-- conf.create's request as a slot of a version reads it. -/
def createAt (v : U8) (standing : Bool) (startMedia : U64) : Bool × Nat := if v = 0x14 then (false, 0) else (standing, startMedia.toNat)

/-- conf.create (R104 to R106, R116). -/
def rowConfCreate (m : Mbx) (conf : U16) (speakers : U8) (standing : Bool) (legLimit : U32) (startMedia : U64) : Row where
  opcode := 0x0200
  layout := fun v => [(0, 0, 16, conf.toNat), (2, 0, 8, speakers.toNat), (4, 0, 32, legLimit.toNat)] ++ (if v = 0x14 then [] else [(3, 0, 1, bit standing), (8, 0, 64, startMedia.toNat)])
  checks := fun c s =>
    let (st, start) := createAt c.hdr.version standing startMedia
    let k := confIndex conf s
    { fields := (conf == 0xFFFF || decide (conf.toNat < 8192)) && decide (speakers.toNat ≤ 8) && decide (legLimit.toNat ≤ 65536) && start % 48 == 0,
      scope := none,
      items := match k with | some i => [.conf i] | none => [],
      busy := [need (s.isReady 2) St.busy, s.stoppedCheck, need (conf == 0xFFFF || !thas s.model.confs conf.toNat) St.busy,
               need (conf == 0xFFFF || !s.inHold s.model.confHold conf.toNat) St.busy [0xFFFF]],
      rest := [s.admission (doConfCreate (k.getD 8192) (speakersOf speakers) st legLimit.toNat start 0 none s)] }
  effect := fun c s =>
    let (st, start) := createAt c.hdr.version standing startMedia
    match confIndex conf s with
    | none => (s, Rep.fail St.noCapacity [2, 1, 0])
    | some k =>
      let t0 := tickAfter (s.tbNs 3)
      (doConfCreate k (speakersOf speakers) st legLimit.toNat start (s.tbNs 3) none s, Rep.ok (le 2 k ++ le 6 0 ++ le 8 (t0 / 1000000000) ++ le 4 (t0 % 1000000000)))
  baste := fun c s =>
    let (st, start) := createAt c.hdr.version standing startMedia
    match confIndex conf s with
    | none => (s, Rep.fail St.noCapacity [2, 1, 0], none)
    | some k =>
      (doConfCreate k (speakersOf speakers) st legLimit.toNat start 0 (some c.hdr.seam) s, Rep.ok (le 2 k ++ le 18 0), some (.confCreate m conf speakers st legLimit (BitVec.ofNat 64 start), k))

/-- CONF_CREATE. -/
def execConfCreate (m : Mbx) (conf : U16) (speakers : U8) (standing : Bool) (legLimit : U32) (startMedia : U64) (s : State) : Host.Outcome State Fault Refusal :=
  .next (s.run m (rowConfCreate m conf speakers standing legLimit startMedia))

/-- A conference takes its origin. -/
def setOrigin (c tb3 : Nat) (s : State) : State :=
  { s with model := { s.model with confs := tmod s.model.confs c (fun q => { q with origin := some tb3, basted := none }) } }

/-- The conference's origin tick has come: media time runs from it (R106). In a pair both units take the primary's: it is mirrored, and the other unit waits for it (R107). -/
def confOrigin (c : Nat) (s : State) : State :=
  match tget s.model.confs c with
  | none => s
  | some q =>
    let t0 := tickAfter q.notBefore
    let waits := s.twin.state == .standby || s.twin.state == .resync
    if q.origin.isNone ∧ q.basted.isNone ∧ t0 ≤ s.tbNs 3 ∧ !waits then ((setOrigin c t0 s).mirror (Config.configBytes 0x1000A)).fin else s

/-- CONF_ORIGIN_TICK. -/
def execConfOriginTick (conf : Nat) (s : State) : Host.Outcome State Fault Refusal := .next (confOrigin conf s)

/-- Remove what a conference holds: layouts with their feeds, forwarding entries of its legs, mixes, waiting speaker changes; then the conference. Its legs, which close, keep their charges until they are FREE (R113). -/
def removeConf (c : Nat) (s : State) : State :=
  let ys := (s.pic.layouts.filter (fun p => p.2.conf == c)).map (·.1)
  let s := ys.foldl (fun s y => s.deleteLayout y) s
  let legs := (s.legsOf c).map (·.1)
  let left : Ghosts := { speakers := (tget s.model.confs c).elim 0 (·.speakers), legs := legs.map (fun l => (l, s.kernelTenths (s.kernelOf l true))) }
  let es := (s.fwd.entries.filter (fun p => legs.contains p.2.leg)).map (·.1)
  let s := s.dropEntries 8 es
  let s := s.modSnd (fun d => { d with mixes := d.mixes.filter (fun p => p.2.conf != c), gone := d.gone.filter (fun p => p.2.1.conf != c), shared := d.shared.filter (fun p => (tget d.mixes p.1.1).any (fun q => q.conf != c)), changes := d.changes.filter (fun g => g.conf != c), windows := tdel d.windows c, ticks := tdel d.ticks c })
  let s : State := { s with ks := { s.ks with rules := s.ks.rules.filter (fun r => r.conf != c) } }
  { s with model := { s.model with confs := tdel s.model.confs c, ghosts := if legs = [] then s.model.ghosts else s.model.ghosts ++ [left] } }

/-- Another seam holds an item of a conference (R49, R115). -/
def State.confHeld (s : State) (c : Nat) (own : U16) : Option Rep :=
  (s.seams.list.find? (fun k => k.id != own && k.entries.any (fun e => k.holds e.item && s.itemConf e.item == some c))).map (fun k => Rep.fail St.busy [k.id.toNat])

/-- conf.set's new SPEAKERS, which the Sound cell holds: the next selection window follows it (05 R137). -/
def doConfSpeakers (c : Nat) (speakers : U8) (s : State) : State :=
  { s with model := { s.model with confs := tmod s.model.confs c (fun q => { q with speakers := if speakers = 0 then q.speakers else speakers.toNat, pendSpeakers := none }) } }

/-- conf.set's new admission record, which Pier holds. -/
def doConfLimits (c : Nat) (standing legField : Bool) (legLimit : U32) (s : State) : State :=
  { s with model := { s.model with confs := tmod s.model.confs c (fun q => { q with standing, legLimit := if legField then legLimit.toNat else q.legLimit }) } }

/-- conf.set's new values. -/
def doConfSet (c : Nat) (speakers : U8) (standing legField : Bool) (legLimit : U32) (s : State) : State := doConfLimits c standing legField legLimit (doConfSpeakers c speakers s)

/-- conf.set. -/
def rowConfSet (m : Mbx) (conf : U16) (speakers : U8) (standing legField : Bool) (legLimit : U32) : Row where
  opcode := 0x0202
  layout := fun _ => [(0, 0, 16, conf.toNat), (2, 0, 8, speakers.toNat), (3, 0, 1, bit standing), (3, 1, 1, bit legField), (4, 0, 32, legLimit.toNat)]
  checks := fun c s =>
    let k := conf.toNat
    let t : State := { s with model := { s.model with confs := tmod s.model.confs k (fun q => if speakers = 0 then q else { q with pendSpeakers := some speakers.toNat }) } }
    { fields := decide (conf.toNat < 8192) && decide (speakers.toNat ≤ 8) && (!legField || decide (legLimit.toNat ≤ 65536)),
      objects := [need (s.confFor k c.hdr.seam).isSome St.noObject], scope := some k,
      items := if speakers = 0 then [.conf k] else [.conf k, .confSpeakers k],
      busy := [s.stopIf t],
      rest := [s.admission t] }
  effect := fun _ s => (doConfSet conf.toNat speakers standing legField legLimit s, Rep.ok)
  baste := fun _ s =>
    ({ s with model := { s.model with confs := tmod s.model.confs conf.toNat (fun q => if speakers = 0 then q else { q with pendSpeakers := some speakers.toNat }) } },
     Rep.ok, some (.confSet m conf speakers standing legField legLimit, 0))

/-- CONF_SET. -/
def execConfSet (m : Mbx) (conf : U16) (speakers : U8) (standing legField : Bool) (legLimit : U32) (s : State) : Host.Outcome State Fault Refusal :=
  .next (s.run m (rowConfSet m conf speakers standing legField legLimit))

/-- conf.query. -/
def rowConfQuery (conf : U16) : Row where
  opcode := 0x0203
  layout := fun _ => [(0, 0, 16, conf.toNat)]
  checks := fun _ s => { objects := [need (s.confFor conf.toNat 0xFFFF).isSome St.noObject] }
  effect := fun c s =>
    let k := conf.toNat
    match tget s.model.confs k with
    | none => (s, Rep.fail St.noObject)
    | some q =>
      let legs := (s.legsOf k).map (·.1)
      (s, Rep.ok (le 4 legs.length ++ le 1 q.speakers ++ le 1 (bit (q.standing && c.hdr.version != 0x14)) ++ le 2 0 ++ le 4 (s.soundOf k).tenths ++
        le 4 (s.fwd.entries.filter (fun p => legs.contains p.2.leg)).length ++ le 8 (s.media k)))

/-- CONF_QUERY. -/
def execConfQuery (m : Mbx) (conf : U16) (s : State) : Host.Outcome State Fault Refusal := .next (s.run m (rowConfQuery conf))

/-- LARGEST of conf.capacity: the largest single charge admissible now to an ordinary leg. -/
def largestOf (s : State) (code : Nat) : Nat :=
  if code = 3 then maxOf ((s.model.confs.filter (fun p => p.2.legLimit != 0)).map (fun p => p.2.legLimit - s.limitLegs p.1))
  else if code = 8 ∨ code = 9 ∨ code = 10 then
    let lanes := List.range (State.laneCount code)
    max (largestRoom (s.laneRoom code) lanes false) (largestRoom (s.laneRoom code) lanes true)
  else s.room code false

/-- conf.capacity. -/
def rowConfCapacity : Row where
  opcode := 0x0204
  checks := fun _ _ => {}
  effect := fun _ s =>
    (s, Rep.ok (le 8 14 ++ (List.range 14).flatMap (fun i => le 2 (i + 1) ++ le 2 0 ++ le 4 (s.totalOf (i + 1)) ++ le 4 (s.admitted (i + 1)) ++ le 4 (largestOf s (i + 1)))))

/-- CONF_CAPACITY. -/
def execConfCapacity (m : Mbx) (s : State) : Host.Outcome State Fault Refusal := .next (s.run m rowConfCapacity)

/-- A freed index's 2 s of chip time have passed: it may be given out again (R105, 08 R216). -/
def holdoffEnd (kind : HoldKind) (i : Nat) (s : State) : State :=
  let drop (t : Table Nat) : Table Nat := if s.inHold t i then t else tdel t i
  match kind with
  | .conference => { s with model := { s.model with confHold := drop s.model.confHold } }
  | .leg => { s with model := { s.model with legHold := drop s.model.legHold } }
  | .fwdEntry => s.modFwd (fun w => { w with hold := drop w.hold })

/-- INDEX_HOLDOFF_END. -/
def execIndexHoldoffEnd (kind : HoldKind) (index : Nat) (s : State) : Host.Outcome State Fault Refusal := .next (holdoffEnd kind index s)

end Sys2Proof.Machine
end

