-- ==== Sys2Proof/Machine/Seams.lean ====
section
/-! DEFINITION. Seams (02 R43 to R63): their decision, what an unpick frees, the boundary of each participant, the seam rows, and conf.delete, which unpicks the seams of its conference. -/

namespace Sys2Proof.Machine

open Sys2Proof

/-- STATE of seam.query (02). -/
def seamCode : SeamState → Nat
  | .open => 0 | .confirming => 1 | .committed => 2 | .applied => 3 | .unpicked => 4

/-- The origin of a conference: the one laid down, or the one it will get, the first stitch tick from now on (04 R106). -/
def Conf.originAt (c : Conf) (tb3 : Nat) : Nat := c.origin.getD (roundUp (max c.notBefore tb3) 1000000)

/-- TB3 nanoseconds at which a conference's media time reaches a sample (04 R106), as seen at a TB3 value. -/
def tb3Of (c : Conf) (now sample : Nat) : Nat := c.originAt now + ceilDiv' ((sample - c.startMedia) * 62500) 3

/-- The first sample of a conference whose TB3 time is at or after a value; a conference that has yet to be there starts with its first one. -/
def sampleFrom (c : Conf) (now tb3 : Nat) : Nat := if c.basted.isSome then c.startMedia else c.startMedia + ceilDiv' ((tb3 - c.originAt now) * 3) 62500

/-- Distinct cells of a list of entries, in the order in which they were basted. -/
def seamCells (l : List SeamEntry) : List U16 := (l.map (·.cell)).eraseDups

/-- 100 µs in ticks (R57). -/
def ackTicks : Nat := 31250

namespace State

/-! ### Events that a decision raises -/

/-- The seam-done event: the result of a closed seam's seam.close, or to the mailbox that opened it (R43, R56). -/
def seamDone (s : State) (k : Seam) : State :=
  match k.owner with
  | .host m =>
    let data := le 2 k.id.toNat ++ le 1 k.reason.toNat ++ le 1 (seamCode k.state) ++ le 2 k.island.toNat ++ le 2 k.pstatus.toNat ++ le 8 k.t.toNat
    let st := if k.state = .unpicked then St.seamUnpicked else St.ok
    match k.closer with
    | some n => s.raiseDone m n 0x0180 st data
    | none => s.raiseTo m 0x0180 st data
  | _ => s

/-- The pattern-done event: to the issuer of the command, or to the mailbox whose apply set the automatic revert (R65, R72). -/
def patternDone (s : State) (issuer : Option (Mbx × Nat)) (st : U8) (op gen seam island count : Nat) : State :=
  let data := le 2 op ++ le 2 0 ++ le 4 gen ++ le 2 seam ++ le 2 island ++ le 2 count ++ le 2 0
  match issuer with
  | some (m, n) => s.raiseDone m n 0x0E80 st data
  | none => match s.patt.revertFor with
    | some m => s.raiseTo m 0x0E80 st data
    | none => s

/-- Code of a device state (Table 17-1). -/
def powerCode : PowerState → Nat
  | .full => 0 | .trim => 1 | .quiet => 2 | .park => 3

/-- The power event (17 R436). -/
def powerEvent (s : State) (m : Mbx) (seq : Nat) (op : Nat) (st : U8) (cause : Nat) (island : U16) (gated : Nat) : State :=
  s.raiseDone m seq 0x0F80 st (le 2 op ++ le 1 (powerCode s.pwr.state) ++ le 1 cause ++ le 2 island.toNat ++ le 2 gated ++ le 8 s.chipS)

/-- The power event of a vote that was deferred: its command has completed (17 R438). -/
def deferredEvent (s : State) (m : Mbx) (st : U8) : State :=
  s.raiseTo m 0x0F80 st (le 2 0x0F01 ++ le 1 (powerCode s.pwr.state) ++ le 1 0 ++ le 2 0xFFFF ++ le 2 0 ++ le 8 s.chipS)

/-- The power events of a request: to the issuer of power.state and to the power.vote commands that joined it. -/
def powerEvents (s : State) (q : PwrReq) (st : U8) (cause : Nat) (island : U16) (gated : Nat) : State :=
  let s := match q.issuer with | some (m, n) => s.powerEvent m n 0x0F00 st cause island gated | none => s
  q.voters.foldl (fun s v => s.powerEvent v.2.1 v.2.2 0x0F01 st cause island gated) s

/-- A power change is unpicked: its domains stay up, deferred enables are answered, the refused domain takes its hold-off, a latched wake is discarded (17 R436, R438, R443). -/
def powerUnpicked (s : State) (k : Seam) : State :=
  match s.pwr.running with
  | none => s
  | some (q, _) =>
    let cause := match k.reason.toNat with | 1 => k.pstatus.toNat | 2 => 3 | 3 => 5 | _ => 0
    let isl := if k.island = 0xFFFF then k.island else blockOfIsland k.island
    let quiet := q.target == some .quiet
    let s : State := { s with pwr := { s.pwr with running := none, refusals := s.pwr.refusals + 1 } }
    let s := if quiet then
        { s with
          model := { s.model with stopped := s.pwr.supply != .normal && s.pwr.supply != .ride },
          pwr := { s.pwr with wake := none, wakesDiscarded := if s.pwr.wake.isSome then s.pwr.wakesDiscarded + 1 else s.pwr.wakesDiscarded } }
      else s
    let s := if k.reason = 6 then s else s.powerEvents q St.refused cause isl 0
    let s := if k.reason = 6 then s else s.pwr.domains.foldl (fun s p => p.2.deferred.foldl (fun s v => s.deferredEvent v St.ok) s) s
    { s with pwr := { s.pwr with domains := tmap s.pwr.domains (fun d x =>
        { x with state := if x.state = .changing then .up else x.state, deferred := [],
                 holdUntil := if d = isl.toNat ∧ k.reason ≠ 6 then some (s.chipNs + 100000000) else x.holdUntil }) } }

/-- A pattern change is unpicked: the running configuration stands (R69). -/
def patternUnpicked (s : State) (k : Seam) : State :=
  match s.patt.change with
  | none => s
  | some c =>
    let s := if k.reason = 6 then s else s.patternDone c.issuer St.seamUnpicked c.opcode s.patt.running k.id.toNat k.island.toNat 0
    { s with patt := { s.patt with change := none } }

/-! ### What an unpick frees (R47, R50) -/

/-- Free what one basted command reserved beside the objects it created. -/
def freeCmd (s : State) (i : Instr) : State :=
  match i with
  | .legUpdate _ o => s.charging o.leg.toNat (fun s => s.modLeg o.leg.toNat (fun q => { q with pendOffer := none }))
  | .confSet _ c _ _ _ _ => { s with model := { s.model with confs := tmod s.model.confs c.toNat (fun q => { q with pendSpeakers := none }) } }
  | .mixChain _ l _ => s.charging l.toNat (fun s => s.modLegSnd l.toNat (fun d => { d with pendKernel := none }))
  | .mixRoute _ l _ _ _ => s.modLeg l.toNat (fun q => { q with charged := q.charged - ((s.withPending i).admitted 4 - s.admitted 4) })
  | .layoutTile _ q => s.decUnplace q.layout.toNat (q.tile.toNat + 64)
  | .layoutFeed _ q =>
    match tget s.pic.feeds q.feed.toNat with
    | some g => if g.basted.isNone then s.feedCharge q.feed.toNat g.req else s
    | none => s
  | _ => s

/-- An unpicked seam's shadow state is discarded: the objects it created go, their indices return to the free pool, and the room it reserved is freed (R47, R50). -/
def releaseBasted (s : State) (k : Seam) : State :=
  let mine (b : Option U16) : Bool := b == some k.id
  let s := k.cmds.foldl (fun s c => s.freeCmd c.instr) s
  let s := s.modFwd (fun w => { w with entries := w.entries.filter (fun p => !mine p.2.basted) })
  let s := ((s.pic.layouts.filter (fun p => mine p.2.basted)).map (·.1)).foldl (fun s y => s.dropLayout y) s
  let fs := (s.pic.feeds.filter (fun p => mine p.2.basted)).map (·.1)
  let s := s.modPic (fun p => { p with feeds := p.feeds.filter (fun f => !fs.contains f.1), enc := p.enc.filter (fun e => !fs.contains e.2.feed) })
  let s := (s.model.legs.filter (fun p => mine p.2.basted)).foldl (fun s p => ((s.dropLeg p.1).holdLeg p.1).legEvent p.1 p.2.conf 0 1 0xFF) s
  let s := s.modSnd (fun d => { d with mixes := d.mixes.filter (fun p => !mine p.2.basted) })
  let cs := (s.model.confs.filter (fun p => mine p.2.basted)).map (·.1)
  { s with
    model := { s.model with confs := s.model.confs.filter (fun p => !mine p.2.basted), confHold := cs.foldl (fun t c => tput t c s.chipNs) s.model.confHold },
    acc := { s.acc with ports := s.acc.ports.map (fun a => { a with gems := a.gems.filter (fun g => !mine g.2.basted) }) },
    keep := { s.keep with basted := s.keep.basted.filter (fun b => b.1 != k.id) } }

/-! ### Decisions (R56 to R58) -/

/-- A seam is over: the device keeps the last 256 finished seams of each mailbox for seam.query. -/
def finishSeam (s : State) (id : U16) (f : Seam → Seam) : State :=
  let n := s.seams.finishCount
  let l := s.seams.list.map (fun k => if k.id == id && k.inProgress then { f k with finishedAt := n, cmds := [] } else k)
  let later (k : Seam) : Nat := (l.filter (fun j => !j.inProgress && j.owner == k.owner && decide (k.finishedAt < j.finishedAt))).length
  { s with seams := { s.seams with
      list := l.filter (fun k => k.inProgress || (k.owner != .pattern && k.owner != .power && decide (later k < 256))),
      finishCount := n + 1 } }

/-- Unpick a seam that is in progress: record the outcome, discard what it holds, tell every participant, raise the events (R56 to R58). A seam that was never closed has no closing mailbox: its unpick raises the event only for CONF_DELETED, which R43 sends to the mailbox that opened it. -/
def unpickSeam (s : State) (id : U16) (reason : Nat) (isl : U16 := 0xFFFF) (pstatus : U8 := 0) : State :=
  match s.seamLive id with
  | none => s
  | some was =>
    let k := { was with state := .unpicked, reason := BitVec.ofNat 8 reason, island := isl, pstatus }
    let s := (s.finishSeam id (fun _ => k)).releaseBasted k
    let cells := seamCells k.entries
    let s : State := { s with seams := { s.seams with unacked := s.seams.unacked.filter (fun u => !cells.contains u.1) ++ cells.map (fun c => (c, s.clk + ackTicks)) } }
    match k.owner with
    | .host _ => if was.state = .open ∧ reason ≠ 8 then s else s.seamDone k
    | .pattern => s.patternUnpicked k
    | .power => s.powerUnpicked k

/-- Unpick every seam that satisfies a test. -/
def unpickAll (s : State) (p : Seam → Bool) (reason : Nat) (isl : U16 := 0xFFFF) : State :=
  ((s.seamsLive.filter p).map (·.id)).foldl (fun s id => s.unpickSeam id reason isl) s

/-- A seam is open, or closed and not yet decided. -/
def undecided (k : Seam) : Bool := k.state == .open || k.state == .confirming

/-- A fence or a block reset takes participants out of service: their undecided seams are unpicked with PARTICIPANT_FAULT (R56, 01 R28). -/
def faultSeams (s : State) (hit : U16 → Bool) (isl : U16) : State := s.unpickAll (fun k => undecided k && k.entries.any (fun e => hit e.cell)) 2 isl

/-- The seams that a fault unpicks: the first identifier and their number (01 Table 1-7). -/
def faultedSeams (s : State) (hit : U16 → Bool) : U16 × Nat :=
  let l := s.seamsLive.filter (fun k => undecided k && k.entries.any (fun e => hit e.cell))
  (((l.head?).map (·.id)).getD 0xFFFF, l.length)

/-- The session of a mailbox ends: its open seams are unpicked (03 R100). The seams that a unit in RESYNC or STANDBY holds are its primary's, under the primary's mailboxes (02 R62). -/
def endSession (s : State) (m : Mbx) : State :=
  let s := if s.twin.state = .resync ∨ s.twin.state = .standby then s else s.unpickAll (fun k => k.state == .open && k.owner == .host m) 5
  s.dropSession m

/-- The confirmation deadline, one stitch tick before T in the seam's own kind of time, has not come (R56). -/
def beforeDeadline (s : State) (k : Seam) : Bool :=
  match k.scope with
  | some c => decide (s.media c + 48 < k.t.toNat)
  | none => decide (s.chipNs + 1000000 < k.t.toNat * 1000000000 + k.tNs.toNat)

/-- The object of an item still exists (R55). -/
def itemExists (s : State) (i : Item) : Bool :=
  match i with
  | .conf c | .confSpeakers c | .threshold c => thas s.model.confs c
  | .leg l | .legHold l | .listen l | .gainIn l | .chain l | .jitter l | .fwdLine l | .legQueue l => thas s.model.legs l
  | .route l x | .gainRoute l x => thas s.model.legs l && thas s.snd.mixes x
  | .mix x | .gainMaster x | .mixEncode x => thas s.snd.mixes x
  | .layout y | .tile y _ | .region y _ => thas s.pic.layouts y
  | .feed f => thas s.pic.feeds f
  | .fwdEntry e => thas s.fwd.entries e
  | .fwdSource x => thas s.model.legs (x / 4)
  | _ => true

/-- This unit decides seams: on a standby the primary's decision binds (R62, R63). -/
def decides (s : State) : Bool := s.twin.state != .standby

/-- Commit a seam: the decision is recorded, then the seam-done event is raised (R56). -/
def commitSeam (s : State) (id : U16) : State :=
  let s := s.modSeam id (fun k => { k with state := .committed })
  match s.seamLive id with
  | some k => s.seamDone k
  | none => s

/-- The boundary of a participant has come (R59, Table 2-2): sound, picture and forwarding cells of a conference seam go by media time, everything else by chip time. -/
def boundaryDue (s : State) (k : Seam) (cell : U16) : Bool :=
  let byMedia := decide (regionOf cell ≤ 1) || (regionOf cell == 2 && blockNo cell == 1)
  match k.scope with
  | some c => if byMedia then decide (k.t.toNat ≤ s.media c) else decide (k.tChipNs ≤ s.chipNs)
  | none =>
    let confs := (k.entries.filter (fun e => e.cell == cell)).filterMap (fun e => s.itemConf e.item)
    decide (k.t.toNat * 1000000000 + k.tNs.toNat ≤ s.chipNs) && (!byMedia || confs.all (fun c => (tget k.tMedia c).all (fun t => decide (t ≤ s.media c))))

/-! ### Opening and closing -/

/-- The next identifier: those in progress are skipped, and the count wraps after 0xFFFE (R44). -/
def nextSeamId (s : State) : U16 :=
  BitVec.ofNat 16 (((List.range 65).map (fun k => (s.seams.nextId.toNat + k) % 65535)).find? (fun i => !s.seamsLive.any (fun q => q.id.toNat == i)) |>.getD 0)

/-- Open a seam (R44, R52). -/
def openSeam (s : State) (owner : SeamFor) (scope : Option Nat) (timeoutS : Nat) : State × U16 :=
  let id := s.nextSeamId
  ({ s with seams := { s.seams with
      nextId := BitVec.ofNat 16 ((id.toNat + 1) % 65535),
      list := s.seams.list ++ [{ id, owner, scope, openUntil := s.clk + timeoutS * ticksPerS }] } }, id)

/-- The conferences whose items a seam holds. -/
def touched (s : State) (k : Seam) : List Nat := (k.entries.filterMap (fun e => s.itemConf e.item)).eraseDups

/-- The counterparts of T in the other kind of time, computed once from TB3 and TB0 as they stand (R54): chip time of a conference seam, and samples of each conference that a chip-wide seam touches. -/
def counterparts (s : State) (k : Seam) (t tNs : Nat) : Nat × Table Nat :=
  let tb3 := s.tbNs 3
  match k.scope with
  | some c => ((tget s.model.confs c).elim s.chipNs (fun q => ((s.chipNs : Int) + ((tb3Of q tb3 t : Int) - (tb3 : Int))).toNat), [])
  | none =>
    let ns := t * 1000000000 + tNs
    (ns, (s.touched k).filterMap (fun c => (tget s.model.confs c).map (fun q => (c, sampleFrom q tb3 ((tb3 : Int) + ((ns : Int) - (s.chipNs : Int))).toNat))))

/-- Close an open seam at T: the counterparts are recorded, the participants are named; an empty seam is over at once (R53 to R56). -/
def closeSeamAs (s : State) (id : U16) (t tNs : Nat) (closer : Option Nat) (counter : Nat × Table Nat) : State :=
  let f (k : Seam) : Seam :=
    { k with
      state := if k.entries = [] then .applied else .confirming,
      t := BitVec.ofNat 64 t, tNs := BitVec.ofNat 32 tNs, closer := if k.entries = [] then none else closer,
      tChipNs := counter.1, tMedia := counter.2, parts := (seamCells k.entries).map (fun c => { cell := c }) }
  match s.seamLive id with
  | none => s
  | some k => if k.entries = [] then s.finishSeam id f else s.modSeam id f

/-- Close an open seam at T with its counterparts as this unit computes them. -/
def closeSeam (s : State) (id : U16) (t tNs : Nat) (closer : Option Nat) : State :=
  match s.seamLive id with
  | none => s
  | some k => s.closeSeamAs id t tNs closer (s.counterparts k t tNs)

/-- T as the ASAP flag chooses it (R53). -/
def asapT (s : State) (k : Seam) : Nat × Nat :=
  match k.scope with
  | some c => (roundUp (s.media c + 144) 48, 0)
  | none => let ns := roundUp (s.chipNs + 3000000) 1000000; (ns / 1000000000, ns % 1000000000)

/-- The checks of T's lead (R53). -/
def leadCheck (s : State) (k : Seam) (t tNs : Nat) : Option Rep :=
  match k.scope with
  | some c => firstFail [need (decide (s.media c + 96 ≤ t)) St.seamTooLate, need (decide (t ≤ s.media c + 28800000)) St.badField]
  | none =>
    let ns := t * 1000000000 + tNs
    firstFail [need (decide (tNs ≤ 999999999)) St.badField, need (decide (s.chipNs + 2000000 ≤ ns)) St.seamTooLate, need (decide (ns ≤ s.chipNs + 600000000000)) St.badField]

/-- The seam of an identifier as a mailbox may name it: its own in progress, else its own latest finished one (R45). -/
def ownSeam (s : State) (m : Mbx) (id : U16) : Option Seam :=
  match s.seamLive id with
  | some k => if k.owner = .host m then some k else none
  | none => (sortBy (fun (a b : Seam) => decide (b.finishedAt ≤ a.finishedAt)) (s.seams.list.filter (fun k => k.id == id && k.owner == .host m))).head?

end State

/-! ### seam commands -/

/-- seam.open (R43, R44). -/
def rowSeamOpen (m : Mbx) (scope timeoutS : U16) : Row where
  opcode := 0x0100
  checks := fun _ s =>
    { fields := (decide (scope.toNat ≤ 8191) || scope == 0xFFFF) && decide (timeoutS.toNat ≤ 600),
      objects := [need (scope == 0xFFFF || (s.confFor scope.toNat 0xFFFF).isSome) St.noObject],
      busy := [need (!s.patternSeam) St.busy],
      rest := [need (decide (s.seamsLive.length < 64)) St.seamFull] }
  layout := fun _ => [(0, 0, 16, scope.toNat), (2, 0, 16, timeoutS.toNat)]
  effect := fun _ s =>
    let (t, id) := s.openSeam (.host m) (if scope = 0xFFFF then none else some scope.toNat) (if timeoutS = 0 then 10 else timeoutS.toNat)
    (t, Rep.ok (le 2 id.toNat ++ le 2 t.seamsLive.length))

/-- SEAM_OPEN. -/
def execSeamOpen (m : Mbx) (scope timeoutS : U16) (s : State) : Host.Outcome State Fault Refusal := .next (s.run m (rowSeamOpen m scope timeoutS))

/-- seam.close (R53 to R56). -/
def rowSeamClose (m : Mbx) (seamId : U16) (asap : Bool) (tNs : U32) (t : U64) : Row where
  opcode := 0x0101
  checks := fun _ s =>
    match s.ownSeam m seamId with
    | none => { objects := [need false St.noObject] }
    | some k =>
      { objects := [need (k.state != .unpicked) St.seamUnpicked, need (k.state == .open) St.seamTooLate,
                    if asap then none else s.leadCheck k t.toNat (if k.scope.isSome then 0 else tNs.toNat)] }
  layout := fun _ => [(0, 0, 16, seamId.toNat), (2, 0, 1, bit asap), (4, 0, 32, tNs.toNat), (8, 0, 64, t.toNat)]
  effect := fun c s =>
    match s.ownSeam m seamId with
    | none => (s, Rep.fail St.noObject)
    | some k =>
      let v := if asap then s.asapT k else (t.toNat, if k.scope.isSome then 0 else tNs.toNat)
      let data := le 8 v.1 ++ le 4 v.2 ++ le 2 k.entries.length ++ le 2 (seamCells k.entries).length
      (s.closeSeam seamId v.1 v.2 (some c.seq), if k.entries = [] then Rep.ok data else Rep.pend data)

/-- SEAM_CLOSE. -/
def execSeamClose (m : Mbx) (seamId : U16) (asap : Bool) (tNs : U32) (t : U64) (s : State) : Host.Outcome State Fault Refusal :=
  .next (s.run m (rowSeamClose m seamId asap tNs t))

/-- seam.unpick (R58). -/
def rowSeamUnpick (m : Mbx) (seamId : U16) : Row where
  opcode := 0x0102
  checks := fun _ s =>
    match s.ownSeam m seamId with
    | none => { objects := [need false St.noObject] }
    | some k => { objects := [need (k.state != .unpicked) St.seamUnpicked, need (State.undecided k) St.seamTooLate] }
  layout := fun _ => [(0, 0, 16, seamId.toNat)]
  effect := fun _ s => (s.unpickSeam seamId 5, Rep.ok)

/-- SEAM_UNPICK. -/
def execSeamUnpick (m : Mbx) (seamId : U16) (s : State) : Host.Outcome State Fault Refusal := .next (s.run m (rowSeamUnpick m seamId))

/-- seam.query. -/
def rowSeamQuery (m : Mbx) (seamId : U16) : Row where
  opcode := 0x0103
  checks := fun _ s => { objects := [need (s.ownSeam m seamId).isSome St.noObject] }
  layout := fun _ => [(0, 0, 16, seamId.toNat)]
  effect := fun _ s =>
    match s.ownSeam m seamId with
    | none => (s, Rep.fail St.noObject)
    | some k =>
      (s, Rep.ok (le 1 (seamCode k.state) ++ le 1 k.reason.toNat ++ le 2 (k.scope.getD 65535) ++ le 2 k.entries.length ++ le 2 k.island.toNat ++
        le 8 k.t.toNat ++ le 4 k.tNs.toNat ++ le 2 k.pstatus.toNat ++ le 2 0))

/-- SEAM_QUERY. -/
def execSeamQuery (m : Mbx) (seamId : U16) (s : State) : Host.Outcome State Fault Refusal := .next (s.run m (rowSeamQuery m seamId))

/-! ### What happens to a seam in time -/

/-- An open seam's timeout expires (R52). -/
def seamOpenTimeout (id : U16) (s : State) : State :=
  match s.seamLive id with
  | some k => if s.decides ∧ k.state = .open ∧ k.openUntil ≤ s.clk then (s.unpickSeam id 4).fin else s
  | none => s

/-- SEAM_OPEN_TIMEOUT. -/
def execSeamOpenTimeout (seamId : U16) (s : State) : Host.Outcome State Fault Refusal := .next (seamOpenTimeout seamId s)

/-- A Sound or Picture block carries a placed charge, a task, or a decode or encode context (17 R433). -/
def State.blockWork (s : State) (blk : U16) : Bool :=
  let on (code : Nat) (l : List (Nat × Nat)) : Bool := l.any (fun p => blockOfIsland (State.laneIsland code p.1) == blk)
  if regionOf blk = 0 then
    s.disp.tasks.any (fun p => p.2.block == blockNo blk) || s.model.confs.any (fun p => decide ((s.legsOf p.1) ≠ []) && blockOfIsland (s.soundCell p.1) == blk)
  else if regionOf blk = 1 then
    s.pic.dec.any (fun p => on 8 p.2.lanes) || s.pic.enc.any (fun p => on 9 p.2.lanes) || s.pic.layouts.any (fun p => on 10 p.2.cells)
  else false

/-- Cause of Table 17-5 for which a block refuses a power seam: it holds entries of another seam, carries work, or is in fault handling. -/
def powerRefusal (s : State) (id : U16) (blk : U16) : Option U8 :=
  if s.seamsLive.any (fun k => k.id != id && k.entries.any (fun e => blockOfIsland e.cell == blk)) then some 1
  else if (s.pwr.running.any (fun r => r.1.target != some .quiet)) ∧ s.blockWork blk then some 2
  else if s.fab.cells.any (fun p => p.2.fault.isSome && blockOfIsland (BitVec.ofNat 16 p.1) == blk) || (s.block blk).phase == .draining || (s.block blk).phase == .selfTest then some 3
  else none

/-- The deadline of a seam that is not decided: it is unpicked, and ISLAND names the first silent participant (R56). -/
def confirmationDeadline (id : U16) (s : State) : State :=
  match s.seamLive id with
  | none => s
  | some k =>
    if s.decides ∧ k.state = .confirming ∧ !s.beforeDeadline k then
      (s.unpickSeam id 3 (((k.parts.find? (fun p => !p.confirmed)).map (·.cell)).getD 0xFFFF)).fin
    else s

/-- CONFIRMATION_DEADLINE. -/
def execConfirmationDeadline (seamId : U16) (s : State) : Host.Outcome State Fault Refusal := .next (confirmationDeadline seamId s)

/-! ### conf.delete -/

/-- conf.delete: with FORCE its legs close with CONF_DELETED; the undecided seams of the conference are unpicked; its index is withheld for 2 s (02 R43, 04 R105). -/
def doConfDelete (c : Nat) (s : State) : State :=
  let s := (s.legsOf c).foldl (fun s p => s.shutLeg p.1 4) s
  let s := removeConf c s
  let s := s.unpickAll (fun k => k.scope == some c && State.undecided k) 8
  { s with model := { s.model with confHold := tput s.model.confHold c s.chipNs } }

/-- conf.delete. -/
def rowConfDelete (m : Mbx) (conf : U16) (force : Bool) : Row where
  opcode := 0x0201
  layout := fun _ => [(0, 0, 16, conf.toNat), (2, 0, 1, bit force)]
  checks := fun c s =>
    let k := conf.toNat
    { objects := [need (s.confFor k c.hdr.seam).isSome St.noObject], scope := none, items := [.conf k],
      busy := [s.confHeld k c.hdr.seam],
      rest := [need (!(force && (s.legsOf k).any (fun p => p.2.emergency)) || s.permits m 0) St.isProtected],
      last := [need (force || (s.legsOf k).isEmpty) St.refused [(s.legsOf k).length]] }
  effect := fun _ s => (doConfDelete conf.toNat s, Rep.ok)
  baste := fun _ s => (s, Rep.ok, some (.confDelete m conf force, 0))

/-- CONF_DELETE. -/
def execConfDelete (m : Mbx) (conf : U16) (force : Bool) (s : State) : Host.Outcome State Fault Refusal := .next (s.run m (rowConfDelete m conf force))

end Sys2Proof.Machine
end

