-- ==== Sys2Proof/Machine/Doorbell.lean ====
section
/-! DEFINITION. Mailboxes as the host drives them (03 R75 to R103): enable, quiesce, halt and reset, doorbells, fetching, the SMBus side of mailbox 16, and the sys commands. -/

namespace Sys2Proof.Machine

open Sys2Proof

namespace State

/-! ### Enable, halt and reset (R97 to R100) -/

/-- The mailbox serves in the image that runs: in recovery only mailboxes 0 and 16 do (18 R463). -/
def serves (s : State) (m : Mbx) : Bool := !s.boot.recovery || m == 0 || m == 16

/-- What a mailbox's ring and commands in flight become at a halt or reset: nothing further is written, and completions of fetched commands are discarded (R99). The count of dropped events that EVENTS_LOST has not yet reported starts again (DESIGN CHOICE, log 73: the rule is silent on it). -/
def cutOff (b : Mailbox) : Mailbox :=
  let late (c : Cmd) : Bool := b.waiting.any (fun q => q.seq == some c.seq && !q.event && q.entry.status == St.pending)
  { b with
    running := false, quiesced := false, waiting := [], ring := [],
    inflight := (b.inflight.filter (fun c => c.stage != .done || late c)).map (fun c => { c with orphan := true, stage := if c.stage = .done then .pending else c.stage }),
    lostCount := 0, lostFirst := 0, lostLast := 0, lostFaults := 0, irqHeld := false }

/-- Halt a mailbox with a cause: it stops, raises one interrupt and ends its session (R99). A halted mailbox stays as it is. -/
def halt (s : State) (m : Mbx) (cause : Nat) : State :=
  if (s.box m).halted then s
  else
    let s := s.modBox m (fun b => { cutOff b with halted := true, haltCause := BitVec.ofNat 8 cause })
    (s.endSession m).irq m

/-- Start an enabled mailbox: its bases and configuration are checked and loaded, its indices start at 0 (R77, R97). -/
def startBox (s : State) (m : Mbx) : State :=
  let b := s.box m
  let log2 := b.cfg.toNat % 16
  if !s.serves m then s
  else if log2 < 9 ∨ 14 < log2 ∨ b.cmdBase.toNat % 4096 ≠ 0 ∨ b.cplBase.toNat % 4096 ≠ 0 then s.halt m 6
  else s.setBox m { b with
    running := true, hostRing := true, ldCmdBase := b.cmdBase, ldCplBase := b.cplBase, ldLog2 := log2, ldHoldoff := b.cfg.toNat / 256 % 256,
    cmdHead := 0, pos := 0, pi := 0, ci := 0, ring := [], waiting := [] }

/-- A write of ENABLE = 1 without RESET (R97, R98): a quiesced mailbox resumes; one never enabled starts, now or when READY rises; a halted one ignores it. -/
def enableBox (s : State) (m : Mbx) : State :=
  let b := s.box m
  if m = 16 ∨ b.halted ∨ b.enable then s
  else if b.quiesced then s.putBox m ({ b with enable := true, quiesced := false, running := true } : Mailbox).settle
  else
    let s := s.setBox m { b with enable := true }
    if s.boot.ready then s.startBox m else s

/-- A write of ENABLE = 0 without RESET: a running mailbox is quiesced (R98). -/
def quiesceBox (s : State) (m : Mbx) : State :=
  let b := s.box m
  if m = 16 ∨ b.halted then s
  else if b.running ∧ !b.quiesced then s.setBox m { b with enable := false, quiesced := true } else s.setBox m { b with enable := false }

/-- A write of RESET (R99, R100). -/
def resetBox (s : State) (m : Mbx) : State :=
  if m = 16 then s
  else
    let s := s.modBox m (fun b => { cutOff b with enable := false, halted := false, haltCause := 0, cmdHead := 0, pos := 0, pi := 0, ci := 0 })
    s.endSession m

/-- A quiesced mailbox has written the last entry of the commands it had fetched: RUNNING clears (R98). -/
def quiesceDone (s : State) (m : Mbx) : State :=
  let b := s.box m
  if b.quiesced ∧ b.running ∧ b.inFlight = 0 ∧ b.waiting = [] then s.setBox m { b with running := false } else s

/-! ### Waking (17 R440, R443) -/

/-- A wake event: in Quiet it starts the wake, and a unit of a pair sends the wake pattern unless it was the pattern that woke it (R442); from step 1 of a Quiet entry it is latched, else it means nothing. -/
def noteWake (s : State) (source : Nat) : State :=
  if s.pwr.state = .quiet ∧ !s.pwr.waking then
    let pair := s.twin.state == .primary || s.twin.state == .standby
    { s with pwr := { s.pwr with waking := true, wake := some (source, s.clk), lastWake := source, wakeSent := pair && source != 3, trussUntil := if pair then some (s.clk + ticksPerS) else none },
             ks := { s.ks with lowPower := false } }
  else if s.pwr.state ≠ .quiet ∧ s.pwr.running.any (fun r => r.1.target == some .quiet) ∧ s.pwr.wake.isNone then
    { s with pwr := { s.pwr with wake := some (source, s.clk) } }
  else s

/-! ### Doorbells (R78, R79, R84) -/

/-- A write to PIER_MBX_CMD_DB (R79): recorded, or out of range, which halts; ignored by a mailbox neither running nor quiesced. On an enabled mailbox it wakes the device from Quiet (17 R441). -/
def cmdDoorbell (s : State) (m : Mbx) (value : Nat) : State :=
  let b := s.box m
  if m = 16 ∨ b.halted ∨ !(b.running || b.quiesced) then s
  else
    let pi := value % 512
    let s := if b.running then s.noteWake 4 else s
    if 256 < (pi + 512 - b.cmdHead) % 512 ∨ 256 < (pi + 512 - b.pi) % 512 then s.halt m 1 else s.setBox m { b with pi }

/-- A write to PIER_MBX_CPL_DB: the consumed entries leave the ring, and waiting entries are written (R84, R85). -/
def cplDoorbell (s : State) (m : Mbx) (value : Nat) : State :=
  let b := s.box m
  if m = 16 ∨ b.halted ∨ !(b.running || b.quiesced) then s
  else
    let ci := value % 65536
    s.putBox m ({ b with ci, ring := b.ring.drop ((ci + 65536 - b.ci) % 65536) } : Mailbox).settle

/-! ### Fetching (R92, R93; 17 R440) -/

/-- Opcodes that mailbox 16 answers in Quiet without waking (17 R440). -/
def quietOps (op : Nat) : Bool := op / 256 == 0 || op == 0x0F04 || op == 0x0F00 || op == 0x1201

/-- COMMAND_FETCH: the mailbox whose turn it is fetches one slot. The operands are what host memory holds: the 256 bytes at `Mailbox.slotAddr` of CMD_HEAD and, of an indirect command, those at REQ_ADDR; and the DMA error that the command's buffers meet, if any (log 14). Mailbox 16 takes the oldest queued slot. In Quiet any other command is a wake event and runs after the wake. -/
def commandFetch (s : State) (m : Mbx) (slot request : Bytes) (bufErr : Fin 3) : State :=
  match s.nextTurn with
  | none => s
  | some k =>
    if k ≠ m then s
    else
      let slot := if m = 16 then (s.pl.smb.queue.head?).getD [] else slot
      if s.pwr.asleep ∧ !(m = 16 ∧ quietOps (parseSlot slot).opcode.toNat) then s.noteWake (if m = 16 then 6 else 4)
      else
        let s := if m = 16 then { s with pl := { s.pl with smb := { s.pl.smb with queue := s.pl.smb.queue.drop 1, queueFull := false } } } else s
        s.fetch m slot request bufErr ((s.tokenFor m).getD false)

/-- The fenced command that waits in a mailbox starts once every earlier command of the mailbox has completed (R93). -/
def fencedStart (s : State) (m : Mbx) : State :=
  match (s.box m).inflight.find? (fun c => c.stage == .fenced) with
  | none => s
  | some c => if (s.box m).inflight.any (fun d => decide (d.seq < c.seq)) then s else s.startCmd m c

/-- The gap of HOLDOFF_US has passed: the interrupt it held is sent (R86). -/
def holdoffExpiry (s : State) (m : Mbx) : State := if (s.box m).irqHeld ∧ !s.inHoldoff m then s.sendIrq m else s

end State

/-- MBX_ENABLE. -/
def execMbxEnable (m : Mbx) (s : State) : Host.Outcome State Fault Refusal := .next (s.enableBox m).fin
/-- MBX_QUIESCE. -/
def execMbxQuiesce (m : Mbx) (s : State) : Host.Outcome State Fault Refusal := .next (s.quiesceBox m)
/-- MBX_RESET. -/
def execMbxReset (m : Mbx) (s : State) : Host.Outcome State Fault Refusal := .next (s.resetBox m).fin
/-- QUIESCE_COMPLETE. -/
def execQuiesceComplete (m : Mbx) (s : State) : Host.Outcome State Fault Refusal := .next (s.quiesceDone m)
/-- CMD_DOORBELL. -/
def execCmdDoorbell (m : Mbx) (value : U32) (s : State) : Host.Outcome State Fault Refusal := .next (s.cmdDoorbell m value.toNat).fin
/-- CPL_DOORBELL. -/
def execCplDoorbell (m : Mbx) (value : U32) (s : State) : Host.Outcome State Fault Refusal := .next (s.cplDoorbell m value.toNat)
/-- RING_DMA_ERROR: HALT_CAUSE 2 or 3 (PIER_MBX_STATUS). -/
def execRingDmaError (m : Mbx) (completion : Bool) (s : State) : Host.Outcome State Fault Refusal :=
  .next (if m ≠ 16 ∧ ((s.box m).running ∨ (s.box m).quiesced) then (s.halt m (if completion then 3 else 2)).fin else s)
/-- COMMAND_FETCH. -/
def execCommandFetch (m : Mbx) (slot : Bytes) (s : State) (request : Bytes := []) (bufErr : Fin 3 := 0) : Host.Outcome State Fault Refusal :=
  .next (s.commandFetch m slot request bufErr).fin
/-- FENCED_COMMAND_START. -/
def execFencedCommandStart (m : Mbx) (s : State) : Host.Outcome State Fault Refusal := .next (s.fencedStart m).fin
/-- HOLDOFF_EXPIRY. -/
def execHoldoffExpiry (m : Mbx) (s : State) : Host.Outcome State Fault Refusal := .next (s.holdoffExpiry m)

/-! ### SMBus transactions (R101, R102) -/

/-- Bytes put into a buffer at an offset. -/
def splice (b : Bytes) (off : Nat) (d : Bytes) : Bytes := b.take off ++ d ++ b.drop (off + d.length)

namespace State

/-- Change the SMBus side. -/
def modSmb (s : State) (f : Smbus → Smbus) : State := { s with pl := { s.pl with smb := f s.pl.smb } }

/-- One SMBus transaction: before READY nothing is acknowledged; a wrong PEC is counted and the transaction ignored (R101). -/
def smbus (s : State) (pecOk : Bool) (act : State → State) : State :=
  if !s.boot.ready then s.modSmb (fun b => { b with acked := false, answer := [] })
  else if !pecOk then (s.modBox 16 (fun b => { b with cBadPec := b.cBadPec + 1 })).modSmb (fun b => { b with acked := false, answer := [] })
  else act (s.modSmb (fun b => { b with acked := true, answer := [] }))

/-- The transaction is not acknowledged and changes nothing. -/
def nack (s : State) : State := s.modSmb (fun b => { b with acked := false })

/-- SLOT_WRITE: bytes into the slot being assembled. -/
def slotWrite (off16 : U8) (d : Bytes) (s : State) : State :=
  if d.length = 0 ∨ 128 < d.length ∨ 256 < 16 * off16.toNat + d.length then s.nack else s.modSmb (fun b => { b with slot := splice b.slot (16 * off16.toNat) d })

/-- SLOT_SUBMIT: the assembled slot is queued, unless 256 are. Its bytes stay in the slot being assembled (DESIGN CHOICE, log 73: the rule is silent on an accepted one). -/
def slotSubmit (s : State) : State :=
  if 256 ≤ s.pl.smb.queue.length then (s.modSmb (fun b => { b with queueFull := true })).nack else s.modSmb (fun b => { b with queue := b.queue ++ [b.slot] })

/-- CPL_READ: the oldest unread entry is returned and consumed. -/
def cplRead (s : State) : State :=
  let b := s.box 16
  match b.ring with
  | [] => s
  | e :: r => (s.modSmb (fun q => { q with answer := entryBytes e })).putBox 16 ({ b with ring := r, ci := (b.ci + 1) % 65536 } : Mailbox).settle

/-- STATUS. -/
def smbStatus (s : State) : State :=
  let b := s.box 16
  s.modSmb (fun q => { q with answer := le 1 (bit b.session.isSome + 2 * bit (!b.ring.isEmpty) + 4 * bit q.queueFull + 8 * bit s.boot.ready + 16 * bit (b.lostCount != 0)) })

/-- STAGE_WRITE: bytes into the request staging buffer. -/
def stageWrite (off : U16) (d : Bytes) (s : State) : State :=
  if d.length = 0 ∨ 128 < d.length ∨ 4096 < off.toNat + d.length then s.nack else s.modSmb (fun b => { b with staging := splice b.staging off.toNat d })

/-- REPLY_READ: up to 128 bytes of the reply buffer. -/
def replyRead (off : U16) (s : State) : State := s.modSmb (fun b => { b with answer := (b.reply.drop off.toNat).take 128 })

/-- The Alert Response Address: the device answers with its own address while it asserts SMB_ALERT_N (R102). -/
def alertAnswer (s : State) : State :=
  if s.pins.smbAlert then s.modSmb (fun b => { b with answer := le 1 (2 * (0x58 + s.pins.mgmtAddr.toNat)) }) else s.nack

end State

/-- SLOT_WRITE. -/
def execSlotWrite (pecOk : Bool) (offset16 : U8) (data : Bytes) (s : State) : Host.Outcome State Fault Refusal := .next (s.smbus pecOk (State.slotWrite offset16 data))
/-- SLOT_SUBMIT. -/
def execSlotSubmit (pecOk : Bool) (s : State) : Host.Outcome State Fault Refusal := .next (s.smbus pecOk State.slotSubmit)
/-- CPL_READ. -/
def execCplRead (pecOk : Bool) (s : State) : Host.Outcome State Fault Refusal := .next (s.smbus pecOk State.cplRead)
/-- SMBUS_STATUS. -/
def execSmbusStatus (pecOk : Bool) (s : State) : Host.Outcome State Fault Refusal := .next (s.smbus pecOk State.smbStatus)
/-- STAGE_WRITE. -/
def execStageWrite (pecOk : Bool) (offset : U16) (data : Bytes) (s : State) : Host.Outcome State Fault Refusal := .next (s.smbus pecOk (State.stageWrite offset data))
/-- REPLY_READ. -/
def execReplyRead (pecOk : Bool) (offset : U16) (s : State) : Host.Outcome State Fault Refusal := .next (s.smbus pecOk (State.replyRead offset))
/-- ALERT_RESPONSE: the transaction goes to the Alert Response Address, which needs READY as the device's own does. -/
def execAlertResponse (s : State) : Host.Outcome State Fault Refusal := .next (s.smbus true State.alertAnswer)

/-! ### sys commands (R103) -/

/-- FW_RELEASE of the image that runs (R103). -/
def State.fwRelease (s : State) : Nat := s.firmware.release.toNat

/-- The highest Pledom version served: the image's header bounds it (R87, 18 Table 18-5). -/
def State.pledomMax (s : State) : Nat := ((supported.filter (fun v => decide (v ≤ s.firmware.pledomMax))).getLast?).getD 0x14

/-- READINESS as a reply gives it: MAILBOXES is always 1 (Table 3-12). -/
def State.readinessNow (s : State) : Nat := (s.boot.readiness ||| 1).toNat

/-- The highest supported version within a range (R88). -/
def commonVersion (lo hi : Nat) : Option Nat := (supported.filter (fun v => decide (lo ≤ v) && decide (v ≤ hi))).getLast?

/-- The reply of sys.hello. -/
def helloReply (s : State) (m : Mbx) (v : Nat) : Bytes :=
  le 1 v ++ le 1 0x14 ++ le 1 s.pledomMax ++ le 1 (bit s.boot.fellBack + 2 * bit (!(s.box m).helloSeen) + 4 * bit s.boot.skippedGen) ++
    le 1 s.boot.cause.toNat ++ le 1 m.val ++ le 2 s.readinessNow ++ le 4 s.patt.running ++ le 4 s.patt.proven ++ le 4 s.fwRelease ++ le 4 s.uptimeS

/-- sys.hello (R88, R103): it ends an existing session, then negotiates; seam-done events of the ended session go to a new one at 2.0 or later (R100). -/
def rowSysHello (m : Mbx) (lo hi : U8) : Row where
  opcode := 0x0000
  layout := fun _ => [(0, 0, 8, lo.toNat), (1, 0, 8, hi.toNat)]
  checks := fun _ _ => { fields := decide (lo ≤ hi) }
  effect := fun _ s =>
    let s := if (s.box m).session.isSome then s.endSession m else s
    match commonVersion lo.toNat (min hi.toNat s.pledomMax) with
    | none => (s, { status := St.badVersion, data := le 1 0 ++ le 1 0x14 ++ le 1 s.pledomMax ++ le 21 0 })
    | some v =>
      let b := s.box m
      let st := if !b.helloSeen ∧ s.boot.fellBack ∧ 0x20 ≤ v then St.patternUnproven else St.ok
      let data := helloReply s m v
      let s := s.setBox m { b with session := some (BitVec.ofNat 8 v), subs := [], helloSeen := true, held := [] }
      let s := if 0x20 ≤ v then b.held.foldl (fun s e => s.raiseTo m e.opcode.toNat e.status e.result) s else s
      (s, { status := st, data })

/-- SYS_HELLO. -/
def execSysHello (m : Mbx) (minVersion maxVersion : U8) (s : State) : Host.Outcome State Fault Refusal := .next (s.run m (rowSysHello m minVersion maxVersion))

/-- Event bits a family defines in a version, and those that are always delivered. -/
def familyBits (family v : Nat) (always : Bool) : U32 :=
  BitVec.ofNat 32 (total (eventCards.filter (fun e => e.code / 256 == family && decide (e.since ≤ v) && (!always || e.always))) (fun e => 2 ^ (e.code % 256 - 0x80)))

/-- sys.subscribe. -/
def rowSysSubscribe (m : Mbx) (family mode : U8) (select : U32) : Row where
  opcode := 0x0001
  layout := fun _ => [(0, 0, 8, family.toNat), (1, 0, 8, mode.toNat), (4, 0, 32, select.toNat)]
  checks := fun c _ =>
    let v := c.hdr.version.toNat
    { pre := need ((familySince family.toNat).any (fun f => decide (f ≤ v))) St.notInVersion,
      fields := decide (mode.toNat ≤ 2) && (select &&& ~~~ familyBits family.toNat v false) == 0 }
  effect := fun c s =>
    let f := family.toNat
    let old := (tget (s.box m).subs f).getD 0
    let new := if mode = 0 then select else if mode = 1 then old ||| select else old &&& ~~~ select
    (s.modBox m (fun b => { b with subs := tput b.subs f new }), Rep.ok (le 4 (new ||| familyBits f c.hdr.version.toNat true).toNat))

/-- SYS_SUBSCRIBE. -/
def execSysSubscribe (m : Mbx) (family mode : U8) (select : U32) (s : State) : Host.Outcome State Fault Refusal := .next (s.run m (rowSysSubscribe m family mode select))

/-- sys.info. -/
def rowSysInfo (m : Mbx) : Row where
  opcode := 0x0002
  checks := fun _ _ => {}
  effect := fun _ s =>
    (s, Rep.ok (le 2 0x9640 ++ le 1 0xC0 ++ le 1 (bit s.keep.runB) ++ le 4 s.fwRelease ++ le 1 m.val ++ le 1 (if m = 16 then 255 else m.val) ++ le 1 (bit s.pins.twinSide) ++
      le 1 (((s.box m).session).elim 0 (·.toNat)) ++ le 2 s.readinessNow ++ le 2 s.tokensFree ++ le 8 Config.serial.toNat))

/-- SYS_INFO. -/
def execSysInfo (m : Mbx) (s : State) : Host.Outcome State Fault Refusal := .next (s.run m (rowSysInfo m))

/-- sys.echo. -/
def rowSysEcho (data : Bytes) : Row where
  opcode := 0x0003
  layout := fun _ => data.zipIdx.map (fun p => (p.2, 0, 8, p.1.toNat))
  checks := fun _ _ => {}
  effect := fun _ s => (s, Rep.ok (fit 24 data))

/-- SYS_ECHO. -/
def execSysEcho (m : Mbx) (data : Bytes) (s : State) : Host.Outcome State Fault Refusal := .next (s.run m (rowSysEcho data))

/-- sys.goodbye: its completion is written, then the session ends (R100). -/
def rowSysGoodbye (m : Mbx) : Row where
  opcode := 0x0004
  checks := fun _ _ => {}
  effect := fun _ s => (s.endSession m, Rep.ok)

/-- SYS_GOODBYE. -/
def execSysGoodbye (m : Mbx) (s : State) : Host.Outcome State Fault Refusal := .next (s.run m (rowSysGoodbye m))

/-- sys.counters. -/
def rowSysCounters (m : Mbx) (clear : Bool) : Row where
  opcode := 0x0005
  layout := fun _ => [(0, 0, 1, bit clear)]
  checks := fun _ _ => {}
  effect := fun _ s =>
    let b := s.box m
    let data := le 4 b.cFetched.toNat ++ le 4 b.cCompleted.toNat ++ le 4 b.cEvents.toNat ++ le 4 b.cLost.toNat ++ le 4 b.cTokenWaits.toNat ++ le 4 b.cBadPec.toNat
    (if clear then s.setBox m { b with cFetched := 0, cCompleted := 0, cEvents := 0, cLost := 0, cTokenWaits := 0, cBadPec := 0 } else s, Rep.ok data)

/-- SYS_COUNTERS. -/
def execSysCounters (m : Mbx) (clear : Bool) (s : State) : Host.Outcome State Fault Refusal := .next (s.run m (rowSysCounters m clear))

end Sys2Proof.Machine
end

