-- ==== Sys2Proof/Machine/Access.lean ====
section
/-! DEFINITION. The access ports (11): activation of the terminal role, bursts, keys, OMCI and sleep, the head role's tree and its bandwidth map, and the access commands. -/

namespace Sys2Proof.Machine

open Sys2Proof

/-- Upstream rate in kbit/s (Table 11-1). -/
def usKbps (gen usRate : Nat) : Nat := if gen ≠ 2 then 9953280 else if usRate = 1 then 12441600 else 24883200

namespace State

/-! ### What both roles share -/

/-- The claim group of a port: 32 + p by default (R301). -/
def claimGroup (s : State) (p : Fin 2) : Nat := match (s.accPort p).cfg with | some q => if q.claimGroup = 0xFF then 32 + p.val else q.claimGroup.toNat % 64 | none => 32 + p.val

/-- This unit holds a claim group (12 R323, KS_HELD). -/
def holdsGroup (s : State) (g : Nat) : Bool := (tget s.twin.claims g).any (·.held)

/-- The outputs of a claim group are enabled, policy permitting (16 R421, KS_GATED). -/
def gatedOn (s : State) (g : Nat) : Bool := s.ks.state == .run && s.ks.released && s.twin.busOk && s.holdsGroup g

/-- Keystone's laser policy permits the port's role (16 Table 16-4, section 10). -/
def laserOk (s : State) (p : Fin 2) : Bool :=
  let l := (s.ks.policy.laser[p.val]?).getD (false, false)
  if (s.accPort p).role = 2 then l.2 else l.1

/-- The port may transmit: its claim group's outputs are enabled and the laser policy permits it (R301, 16 R421). -/
def claimed (s : State) (p : Fin 2) : Bool := s.gatedOn (s.claimGroup p) && s.laserOk p

/-- Raise the access state event (11). -/
def accessEvent (s : State) (p : Fin 2) (terminal new old cause : Nat) (serial : U64) : State :=
  s.raise 0x0B80 St.ok (le 1 p.val ++ le 1 terminal ++ le 1 new ++ le 1 old ++ le 1 cause ++ le 3 0 ++ le 8 serial.toNat ++ le 8 s.chipS)

/-- PLOAM messages are sent (Table 11-3). -/
def ploam (s : State) (p : Fin 2) (l : List PloamMsg) : State := s.modAcc p (fun a => { a with ploamSent := a.ploamSent + BitVec.ofNat 32 l.length, ploamOut := l })

/-- The keys of a terminal-role port are discarded. -/
def dropKeys (s : State) (p : Fin 2) : State :=
  (List.range 4).foldl (fun s k => (s.modSlot (accSlot p k) (fun _ => {})).modCip (fun c => { c with tiles := tdel c.tiles (accSlot p k) })) s

/-- A terminal-role port enters a state of Table 11-2: leaving O5 for a state other than O6 discards its ONU-ID, Alloc-IDs and keys; O1 forgets the generation found and the profile (R280, R283). -/
def accState (s : State) (p : Fin 2) (new cause : Nat) : State :=
  let a := s.accPort p
  let old := a.state
  if old = new then s
  else
    let s := s.modAcc p (fun a => { a with state := new })
    let s := if (old = 5 ∨ old = 6) ∧ new ≠ 5 ∧ new ≠ 6 then (s.modAcc p (fun a => { a with onuId := none, allocIds := [], sleeping := false })).dropKeys p else s
    let s := if new = 1 then
        s.modAcc p (fun a => { a with
          profile := false, to1 := none, to2 := none, onuId := none, allocIds := [],
          gen := if a.cfg.all (fun q => q.gen == 0) then 0 else a.gen, synced := if a.cfg.all (fun q => q.gen == 0) then false else a.synced })
      else s
    let s := s.accessEvent p 0xFF new old cause (a.identity.getD 0)
    if (old = 5) != (new = 5) then s.linkEvent (16 + p.val) else s

/-- A port in terminal role. -/
def isTerminal (s : State) (p : Fin 2) : Bool := (s.accPort p).role == 1
/-- A port in head role whose tree runs. -/
def treeRuns (s : State) (p : Fin 2) : Bool := (s.accPort p).role == 2 && (s.accPort p).state == 5

/-- The terminal identity of a port: "WRNV" and the low 32 bits of CRC-32C over the serial number and the port number (R284). -/
def identityOf (p : Fin 2) : U64 := BitVec.ofNat 64 (0x57524E56 * 4294967296 + (crc32c (le 8 Config.serial.toNat ++ le 1 p.val)).toNat)

/-- Sync and burst profile are learned: O2-3, where the port takes its identity at its first activation (R283, R284). -/
def toO23 (s : State) (p : Fin 2) : State :=
  let a := s.accPort p
  if a.state = 1 ∧ a.synced ∧ a.profile then
    let s := if a.identity.isSome then s else s.mirror 32
    (s.modAcc p (fun a => { a with identity := some (a.identity.getD (identityOf p)) })).accState p 2 0
  else s

/-! ### Terminal role: activation (R280 to R285) -/

/-- Every 500 ms without sync the framer of an automatic port hunts at the other rate (R280). -/
def hunt (p : Fin 2) (s : State) : State :=
  let a := s.accPort p
  if s.isTerminal p ∧ a.gen = 0 ∧ !a.synced then s.modAcc p (fun a => { a with huntFast := !a.huntFast }) else s

/-- Downstream sync is gained: the generation is known; O6 returns to O5 before TO2 (R280, R283). -/
def syncGained (p : Fin 2) (s : State) : State :=
  let a := s.accPort p
  if !s.isTerminal p ∨ a.synced then s
  else
    let s := s.modAcc p (fun a => { a with
      synced := true, gen := if a.gen ≠ 0 then a.gen else (match a.cfg with | some q => if q.gen = 0 then (if a.huntFast then 2 else 1) else q.gen.toNat | none => 0) })
    if a.state = 6 ∧ a.to2.all (fun t => decide (s.clk < t)) then (s.modAcc p (fun a => { a with to2 := none })).accState p 5 0 else s.toO23 p

/-- Downstream sync is lost: O2-3 returns to O1, O5 goes to O6 and TO2 starts (R283). -/
def syncLost (p : Fin 2) (s : State) : State :=
  let a := s.accPort p
  if !s.isTerminal p ∨ !a.synced then s
  else
    let s := s.modAcc p (fun a => { a with synced := false })
    let to2 := match a.cfg with | some q => if q.to2Ms = 0 then 100 else q.to2Ms.toNat | none => 100
    if a.state = 2 then s.accState p 1 0
    else if a.state = 5 then (s.modAcc p (fun a => { a with to2 := some (s.clk + to2 * ticksPerMs) })).accState p 6 0
    else s

/-- A downstream superframe starts: the framer latches the four time bases, a key index stated for it is in force, and a new claim holder may enable downstream (R281, R294, R298, R303). -/
def superframe (p : Fin 2) (n : Nat) (s : State) : State :=
  let a := s.accPort p
  if !((s.isTerminal p && a.synced) || s.treeRuns p) then s
  else s.modAcc p (fun a => { a with
    superframe := n, waits := false,
    latches := a.latches.filter (fun l => decide (s.clk ≤ l.tick + 2 * ticksPerS)) ++ [{ count := n, bases := Vector.ofFn (fun b : Fin 4 => s.tbNs b), tick := s.clk }],
    keyIndex := match a.keySwitch with | some (k, at_) => if at_ ≤ n then k else a.keyIndex | none => a.keyIndex,
    keySwitch := a.keySwitch.filter (fun k => decide (n < k.2)),
    bcastIndex := match a.bcastSwitch with | some (k, at_) => if at_ ≤ n then k else a.bcastIndex | none => a.bcastIndex,
    bcastSwitch := a.bcastSwitch.filter (fun k => decide (n < k.2)),
    groupIndex := a.groupSwitch.foldl (fun t g => if g.2.2 ≤ n then tput t g.1 (g.2.1, s.chipS) else t) a.groupIndex,
    groupSwitch := a.groupSwitch.filter (fun g => decide (n < g.2.2)) })

/-- TO1 expires in O4. -/
def to1Expiry (p : Fin 2) (s : State) : State :=
  if s.isTerminal p ∧ (s.accPort p).state = 4 ∧ (s.accPort p).to1.any (fun t => decide (t ≤ s.clk)) then s.accState p 1 2 else s

/-- TO2 expires in O6. -/
def to2Expiry (p : Fin 2) (s : State) : State :=
  if s.isTerminal p ∧ (s.accPort p).state = 6 ∧ (s.accPort p).to2.any (fun t => decide (t ≤ s.clk)) then s.accState p 1 2 else s

/-- A serial-number grant in O2-3 is answered after a random delay of 0 to 48 µs, taken from the mirrored draws (R283). -/
def snGrant (p : Fin 2) (s : State) : State :=
  if s.isTerminal p ∧ (s.accPort p).state = 2 then
    let (d, s) := s.draw32
    let s := s.modAcc p (fun a => { a with snDelay := d.toNat % 48001 })
    let a := s.accPort p
    if s.claimed p then s.ploam p [.serialNumberOnu (a.identity.getD 0) a.snDelay] else s
  else s

/-- A Burst_Profile gives the upstream profile, and the upstream rate of a 50G-class port (R280, R283). -/
def burstProfile (p : Fin 2) (usRate : U8) (s : State) : State :=
  if s.isTerminal p ∧ (s.accPort p).synced then
    (s.modAcc p (fun a => { a with profile := true, usRate := if a.gen = 2 then usRate.toNat else 0 })).toO23 p
  else s

/-- Assign_ONU-ID that names the terminal's serial number: O4, and TO1 starts. -/
def assignOnu (p : Fin 2) (onu : Nat) (serial : U64) (s : State) : State :=
  let a := s.accPort p
  let to1 := match a.cfg with | some q => if q.to1S = 0 then 10 else q.to1S.toNat | none => 10
  if s.isTerminal p ∧ a.state = 2 ∧ a.identity = some serial then
    (s.modAcc p (fun a => { a with onuId := some onu, to1 := some (s.clk + to1 * ticksPerS) })).accState p 4 1
  else s

/-- Ranging_Time: its delay applies from the first burst after the next frame boundary; in O4 before TO1 it completes the activation, and TB2 is armed again (R283, R285, 09 R245). -/
def rangingTime (p : Fin 2) (relative : Bool) (bits : Int) (s : State) : State :=
  let a := s.accPort p
  let next := if relative then a.eqdNext.getD a.eqd + bits else bits
  if !s.isTerminal p then s
  else if a.state = 4 then
    if a.to1.any (fun t => decide (t ≤ s.clk)) then s.accState p 1 2
    else
      let s := (s.modAcc p (fun a => { a with eqdNext := some next, to1 := none })).accState p 5 1
      s.modBase 2 (fun b => if b.enabled then { b with armed := true } else b)
  else if a.state = 5 then s.modAcc p (fun a => { a with eqdNext := some next })
  else s

/-- Deactivate_ONU-ID in O5. -/
def deactivate (p : Fin 2) (onu : Nat) (s : State) : State :=
  let a := s.accPort p
  if s.isTerminal p ∧ a.state = 5 ∧ a.onuId = some onu then s.accState p 1 1 else s

/-- Disable_Serial_Number: O7, or with the enable option from O7 to O1. -/
def disableSerial (p : Fin 2) (enable : Bool) (serial : U64) (s : State) : State :=
  let a := s.accPort p
  if !s.isTerminal p ∨ a.identity ≠ some serial then s
  else if enable then (if a.state = 7 then s.accState p 1 1 else s)
  else if a.state = 2 ∨ a.state = 4 ∨ a.state = 5 then s.accState p 7 1
  else s

/-- The Registration that carries REG_ID (R284). -/
def register (s : State) (p : Fin 2) : State := s.ploam p [.registration ((s.accPort p).onuId.getD 255) ((s.accPort p).cfg.elim 0 (·.regId))]

/-- Request_Registration is answered with the Registration that carries REG_ID (R284). -/
def requestRegistration (p : Fin 2) (s : State) : State :=
  if s.isTerminal p ∧ ((s.accPort p).state = 4 ∨ (s.accPort p).state = 5) then s.register p else s

/-- Assign_Alloc-ID gives the terminal an Alloc-ID. -/
def assignAlloc (p : Fin 2) (alloc : Nat) (s : State) : State :=
  let a := s.accPort p
  if s.isTerminal p ∧ a.onuId.isSome ∧ (a.state = 4 ∨ a.state = 5) then
    s.modAcc p (fun a => { a with allocIds := if a.allocIds.contains alloc then a.allocIds else a.allocIds ++ [alloc] })
  else s

/-! ### Terminal role: keys, sleep, power (R290, R293 to R295) -/

/-- Key_Control: Keystone generates or takes the key, reports it, and loads it into the slot of the named index, which is in force from the stated superframe (R294). -/
def keyControl (p : Fin 2) (k : Fin 2) (broadcast : Bool) (at_ : Nat) (s : State) : State :=
  if !(s.isTerminal p && (s.accPort p).state == 5) then s
  else
    let (key, s) := s.drawKey
    if broadcast then ((s.loadSlot (accSlot p (2 + k.val)) 4 2 p.val 0 key).modAcc p (fun a => { a with bcastSwitch := some (k.val, at_) }))
    else (((s.loadSlot (accSlot p k.val) 4 2 p.val 0 key).modAcc p (fun a => { a with keySwitch := some (k.val, at_) })).ploam p [.keyReport k.val])

/-- The conditions of watchful sleep (R290). -/
def maySleep (s : State) (p : Fin 2) : Bool :=
  let a := s.accPort p
  a.cfg.any (fun q => q.sleepOk) && a.sleepAllow && a.state == 5 &&
    (s.pwr.state == .quiet || !s.model.legs.any (fun l => l.2.state == .active && l.2.offer.port.toNat == 16 + p.val))

/-- A port enters or leaves watchful sleep, and tells the head end (R290, Table 11-3). -/
def sleepTo (s : State) (p : Fin 2) (asleep : Bool) : State :=
  if (s.accPort p).sleeping = asleep then s else (s.modAcc p (fun a => { a with sleeping := asleep })).ploam p [.sleepRequest asleep]

/-- Sleep_Allow ON permits watchful sleep, OFF ends it. -/
def sleepAllow (p : Fin 2) (on : Bool) (s : State) : State :=
  if !s.isTerminal p then s
  else
    let s := s.modAcc p (fun a => { a with sleepAllow := on })
    s.sleepTo p (on && s.maySleep p)

/-- A frame queued for upstream, or the device leaving Quiet, ends watchful sleep. -/
def sleepWake (p : Fin 2) (s : State) : State := s.sleepTo p false

/-- Change_Power_Level: acted on where the module reports power levels; acknowledged either way (Table 11-3). -/
def powerLevel (p : Fin 2) (level : Nat) (reports : Bool) (s : State) : State :=
  if s.isTerminal p ∧ ((s.accPort p).state = 4 ∨ (s.accPort p).state = 5) then
    (if reports then s.modAcc p (fun a => { a with powerLevel := level }) else s).ploam p [.acknowledge ((s.accPort p).onuId.getD 255) !reports]
  else s

/-- Power_Consumption_Inquire is answered (Table 11-3). -/
def powerInquire (p : Fin 2) (s : State) : State := if s.isTerminal p ∧ (s.accPort p).state = 5 then s.ploam p [.powerConsumptionReport] else s

/-- A PLOAM message that fails its integrity check, or whose type the role ignores, is counted (R286). -/
def ploamIgnored (p : Fin 2) (micFail : Bool) (s : State) : State :=
  if (s.accPort p).role = 0 then s
  else if micFail then s.countAcc p 4 else s.modAcc p (fun a => { a with cPloamIgnored := a.cPloamIgnored + 1 })

/-! ### Terminal role: bursts (R286, R292) -/

/-- The bindings active on a port carry a kind of traffic: 0 priority, 1 media, 2 both. -/
def kindOn (l : List Gem) (kind : Nat) : Bool := l.any (fun g => g.active && g.basted.isNone && (g.kind == kind || g.kind == 2))

/-- The bindings whose T-CONT holds an Alloc-ID, as the agent's MIB ties them (R287, R292). -/
def gemsOf (s : State) (p : Fin 2) (alloc : Nat) : List Gem :=
  let a := s.accPort p
  (a.gems.filter (fun g => a.mib.any (fun e => e.cls == 268 && e.gemId == g.1 && e.allocId == alloc))).map (·.2)

/-- Discard the head frames of a port that can never leave, and what is queued of a kind that no active binding carries, counted as TX_LINK_DOWN (R292, 10 R258, R263). -/
def accClean (s : State) (p : Fin 2) : State :=
  let i := 16 + p.val
  let s := s.clean i
  let gems := (s.accPort p).gems.map (·.2)
  let s := if kindOn gems 0 then s
    else (s.modAcc p (fun a => { a with fifos := a.fifos.map (fun q => { q with frames := [] }) })).countIface i 14 (total (s.accPort p).fifos.toList (fun q => q.frames.length))
  if kindOn gems 1 then s
  else
    let n := total (s.queuesOf i) (fun l => (s.legQ l).frames.length)
    ((s.queuesOf i).foldl (fun s l => s.modLegQ l (fun q => { q with frames := [], tag := none })) s).countIface i 14 n

/-- A frame is fragmented: so many of its bytes have left (R292). -/
def fragment (s : State) (p : Fin 2) (lv : Option (Fin 8)) (c : Candidate) (n : Nat) : State :=
  let cut (l : List QFrame) : List QFrame := match l with | f :: t => { f with length := f.length - n } :: t | [] => []
  match c.leg, lv with
  | some l, _ => s.modLegQ l (fun q => { q with frames := cut q.frames })
  | none, some j => s.modAcc p (fun a => { a with fifos := a.fifos.set (fifo4 j) { a.fifos.get (fifo4 j) with frames := cut (a.fifos.get (fifo4 j)).frames } })
  | _, _ => s

/-- Fill the bytes of a grant: the FIFOs P0 to P3 in order, then the leg queues; a frame that does not fit is fragmented (R292). Answers the bytes left, which idle XGEM frames fill. -/
def fillGrant (p : Fin 2) (gem : Nat) (prio media : Bool) : Nat → Nat → State → State × Nat
  | 0, left, s => (s, left)
  | _, 0, s => (s, 0)
  | fuel + 1, left, s =>
    let i := 16 + p.val
    let head : Option (Option (Fin 8) × Candidate) :=
      match (if prio then (List.finRange 4).findSome? (fun j => ((s.fifoFrames i (j.castLE (by decide))).head?).map (fun f => (some (j.castLE (by decide)), ({ leg := none, frame := f, since := 0 } : Candidate)))) else none) with
      | some x => some x
      | none => if media then (s.groupPick i).map (fun c => (none, c)) else none
    match head with
    | none => (s, left)
    | some (lv, c) =>
      if c.frame.length ≤ left then
        let s := s.serve i lv c
        let k := (s.accPort p).keyIndex
        let (s, sent) := s.accUse p k
        fillGrant p gem prio media fuel (left - c.frame.length) (if sent then (s.depart i (lv.elim 8 lvl9) c.leg.isSome c.frame).modAcc p (fun a => { a with sent := some (gem, k) }) else s)
      else (s.fragment p lv c left, 0)

/-- The bytes queued for an Alloc-ID by the kinds of its bindings, in 4-byte units, saturated (R286). -/
def bufferReport (s : State) (p : Fin 2) (prio media : Bool) : Nat :=
  let i := 16 + p.val
  let n := (if prio then total (s.accPort p).fifos.toList (fun q => queued q.frames) else 0) + (if media then total (s.queuesOf i) (fun l => queued (s.legQ l).frames) else 0)
  min Config.reportMax ((n + 3) / 4)

/-- ns before and after a burst for which its enable stands (R286). -/
def enableNs (a : AccPort) : Nat × Nat :=
  match a.cfg with
  | none => (25, 10)
  | some q => (if q.benLeadNs = 0xFFFF then 25 else q.benLeadNs.toNat, if q.benLagNs = 0xFFFF then 10 else q.benLagNs.toNat)

/-- An allocation of the bandwidth map that names one of the terminal's Alloc-IDs, or in O4 its ONU-ID for the Registration (R283, R285, R286). -/
def burstGrant (p : Fin 2) (g : Allocation) (s : State) : State :=
  let a := s.accPort p
  if !s.isTerminal p ∨ !(a.state = 4 ∨ a.state = 5) ∨ !s.claimed p ∨ a.sleeping then s
  else if a.state = 4 ∧ a.onuId = some g.allocId then s.register p
  else if !a.allocIds.contains g.allocId then s
  else if g.startBit < a.lastBurstEnd then s.countAcc p 5
  else
    let stop := g.startBit + 8 * g.lengthBytes
    let s := ((s.modAcc p (fun a => { a with lastBurstEnd := stop, eqd := a.eqdNext.getD a.eqd, eqdNext := none })).countAcc p 3).accClean p
    let b := s.gemsOf p g.allocId
    let report := if g.statusReport then some (s.bufferReport p (kindOn b 0) (kindOn b 1)) else none
    let id := (a.mib.find? (fun e => e.cls == 268 && e.allocId == g.allocId)).elim 0 (·.gemId)
    let (s, idle) := fillGrant p id (kindOn b 0) (kindOn b 1) 4096 (g.lengthBytes - (if g.statusReport then 4 else 0)) s
    s.modAcc p (fun a => { a with burst := some { allocId := g.allocId, start := g.startBit, stop, leadNs := (enableNs a).1, lagNs := (enableNs a).2, report, idle } })

/-! ### Terminal role: the OMCI agent (R287 to R289) -/

/-- The entities that only the head end makes, and those whose attributes it may set (Table 11-4). -/
def entities : List Nat := [2, 7, 131, 134, 347, 256, 257, 262, 263, 266, 268, 277, 332, 336]

/-- The agent's MIB has an entity: those of the device stand in it from the start. -/
def inMib (a : AccPort) (cls inst : Nat) : Bool := (cls != 266 && cls != 268) || a.mib.any (fun e => e.cls == cls && e.inst == inst)

/-- The agent's answer to a request (R287, Table 11-4); what an entity supports beside the named answers is refused as not supported (DEDUCED, log 83). -/
def omciResult (a : AccPort) (q : OmciReq) : OmciResult :=
  let known (cls inst : Nat) (r : OmciResult) : OmciResult := if !entities.contains cls then .unknownEntity else if !inMib a cls inst then .unknownInstance else r
  match q with
  | .mibUpload | .mibReset | .timeOfDay _ _ _ | .setAllocId _ _ | .alarm _ => .success
  | .get cls inst => known cls inst .success
  | .set cls inst _ _ => known cls inst (if cls = 134 ∨ cls = 347 then .attributeFailed else if [131, 262, 263, 266, 268, 332, 336].contains cls then .success else .notSupported)
  | .create cls inst _ _ target =>
    if !entities.contains cls then .unknownEntity
    else if cls ≠ 266 ∧ cls ≠ 268 then .notSupported
    else if inMib a cls inst then .instanceExists
    else if cls = 266 ∧ target ≠ 134 ∧ target ≠ 347 then .parameterError else .success
  | .delete cls inst => known cls inst (if cls = 266 ∨ cls = 268 then .success else .notSupported)
  | .reboot => .processingError
  | .download => .notSupported

/-- The MIB's data sync counter counts a change: 1 follows 255. -/
def bumpMib (a : AccPort) : AccPort := { a with mibSync := if a.mibSync = 255 then 1 else a.mibSync + 1 }

/-- The binding of a GEM port becomes active or pending. -/
def gemActive (on : Bool) (id : Nat) (a : AccPort) : AccPort := { a with gems := tmod a.gems id (fun g => { g with active := on }) }

/-- What a request that succeeds does to the MIB and to the bindings (R287, access.gem). -/
def omciEffect (a : AccPort) (q : OmciReq) : AccPort :=
  match q with
  | .mibReset => { a with mib := [], mibSync := 0, gems := tmap a.gems (fun _ g => { g with active := false }) }
  | .set cls inst attr value =>
    let e := (a.mib.find? (fun e => e.cls == cls && e.inst == inst)).getD { cls, inst }
    bumpMib { a with mib := a.mib.filter (fun x => !(x.cls == cls && x.inst == inst)) ++ [{ e with attrs := tput e.attrs attr value }] }
  | .create cls inst gemId allocId _ =>
    let a := bumpMib { a with mib := a.mib ++ [{ cls, inst, gemId, allocId }] }
    if cls = 268 then gemActive true gemId a else a
  | .delete cls inst =>
    let a' := bumpMib { a with mib := a.mib.filter (fun e => !(e.cls == cls && e.inst == inst)) }
    match a.mib.find? (fun e => e.cls == cls && e.inst == inst) with
    | some e => if cls = 268 then gemActive false e.gemId a' else a'
    | none => a'
  | .setAllocId inst allocId => bumpMib { a with mib := a.mib.filter (fun e => !(e.cls == 262 && e.inst == inst)) ++ [{ cls := 262, inst, allocId }] }
  | _ => a

/-- The head end's time of day of a superframe is one phase comparison of TB2's servo with the latch of that superframe; a write whose latch is gone or more than 2 s old is discarded and counted (R289). -/
def timeOfDay (s : State) (p : Fin 2) (n sec ns : Nat) : State :=
  let a := s.accPort p
  match a.latches.find? (fun l => l.count == n && decide (s.clk ≤ l.tick + 2 * ticksPerS)) with
  | none => s.modAcc p (fun a => { a with cLateTod := a.cLateTod + 1 })
  | some l =>
    if (s.base 2).source ≠ 5 then s
    else servoCompare 2 ((l.bases.get 2 : Int) - ((sec * 1000000000 + ns : Nat) + Config.todDelayNs a.gen a.eqd ((a.cfg.map (fun q => q.refractPpm.toInt)).getD 0))) true s

/-- A terminal's alarm, as the head reports it (R299). -/
def omciAlarm (s : State) (p : Fin 2) (onu : Nat) : State :=
  match tget (s.accPort p).terminals onu with
  | some t => if s.treeRuns p then s.accessEvent p onu t.state t.state 5 t.serial else s
  | none => s

/-- An OMCI message: the agent answers it; every message counts (R287). In head role an alarm of a terminal (R299). -/
def omci (p : Fin 2) (q : OmciReq) (s : State) : State :=
  match q with
  | .alarm onu => s.omciAlarm p onu
  | _ =>
    if !s.isTerminal p ∨ (s.accPort p).state ≠ 5 then s
    else
      let r := omciResult (s.accPort p) q
      let s := (s.countAcc p 6).modAcc p (fun a => { (if r = .success then omciEffect a q else a) with omciAnswer := some r })
      match q with
      | .timeOfDay n sec ns => s.timeOfDay p n sec ns
      | _ => s

/-! ### Head role: terminals of the tree (R297 to R299) -/

/-- Change a terminal of the tree. -/
def modTerminal (s : State) (p : Fin 2) (onu : Nat) (f : Terminal → Terminal) : State := s.modAcc p (fun a => { a with terminals := tmod a.terminals onu f })

/-- A terminal of the tree changes state (11 access state event). -/
def termState (s : State) (p : Fin 2) (onu new cause : Nat) : State :=
  match tget (s.accPort p).terminals onu with
  | none => s
  | some t => if t.state = new then s else (s.modTerminal p onu (fun t => { t with state := new, regUntil := none })).accessEvent p onu new t.state cause t.serial

/-- A serial number arrives in a window: an admitted terminal gets its ONU-ID and is ranged; another is reported under AUTO_DISCOVER and given nothing (R297). -/
def serialReceived (p : Fin 2) (serial : U64) (s : State) : State :=
  let a := s.accPort p
  if !s.treeRuns p ∨ !a.inWindow then s
  else match a.terminals.find? (fun t => t.2.serial == serial) with
    | some (onu, t) =>
      if t.disabled ∨ t.state = 5 ∨ t.state = 4 then s
      else ((s.termState p onu 4 1).modTerminal p onu (fun t => { t with regUntil := some (s.clk + 10 * ticksPerS) })).ploam p [.assignOnuId onu serial, .requestRegistration onu]
    | none => if a.cfg.any (fun q => q.autoDiscover) then s.accessEvent p 0xFF 0 0 1 serial else s

/-- The equalization delay in upstream bits that makes a terminal's round trip 250 µs at the port's arrival reference (Table 11-6, R303). -/
def eqdFor (a : AccPort) (roundTripNs : Nat) : Int := (250000 + a.shiftNs - (roundTripNs : Int)) * (usKbps a.gen a.usRate : Int) / 1000000

/-- A Registration completes the activation: the terminal gets its equalization delay and its Alloc-IDs, the OMCI manager sets it up, the time of day is written, the group key is sent (R297 to R299). -/
def registrationReceived (p : Fin 2) (onu roundTripNs : Nat) (s : State) : State :=
  match tget (s.accPort p).terminals onu with
  | some t =>
    if s.treeRuns p ∧ t.state = 4 then
      let a := s.accPort p
      let conts := a.tconts.filter (fun c => c.1 / 4 == onu)
      let n := 5 + conts.length + 2 * (a.gems.filter (fun g => g.2.terminal == onu && g.2.basted.isNone)).length
      let eqd := eqdFor a roundTripNs
      (((s.termState p onu 5 1).modTerminal p onu (fun t => { t with eqd })).ploam p
        ([.rangingTime onu eqd] ++ conts.map (fun c => .assignAllocId onu (1024 + c.1)) ++ [.sleepAllowOff onu, .keyControl onu t.keyGroup ((tget a.groupIndex t.keyGroup).getD (0, 0)).1 a.superframe])).countAcc p 6 n
    else s
  | none => s

/-- A terminal's Key_Report says that it holds its group's key (R298). -/
def keyReport (p : Fin 2) (onu : Nat) (s : State) : State := if s.treeRuns p then s.modTerminal p onu (fun t => { t with keyed := true }) else s

/-- A terminal's Acknowledge: one with an error leaves its group's key unreported, so that it is sent again (Table 11-3). -/
def acknowledge (p : Fin 2) (onu : Nat) (error : Bool) (s : State) : State :=
  if s.treeRuns p ∧ error then s.modTerminal p onu (fun t => { t with keyed := false }) else s

/-- No Registration within 10 s: Deactivate_ONU-ID (R297). -/
def registrationTimeout (p : Fin 2) (onu : Nat) (s : State) : State :=
  match tget (s.accPort p).terminals onu with
  | some t => if s.treeRuns p ∧ t.state = 4 ∧ t.regUntil.any (fun u => decide (u ≤ s.clk)) then (s.termState p onu 0 2).ploam p [.deactivateOnuId onu] else s
  | none => s

/-- The bursts of a terminal are missing for 8 consecutive frames: it is deactivated (R297). -/
def missingBursts (p : Fin 2) (onu : Nat) (s : State) : State :=
  match tget (s.accPort p).terminals onu with
  | some t => if s.treeRuns p ∧ t.state = 5 then (s.termState p onu 0 0).ploam p [.deactivateOnuId onu] else s
  | none => s

/-- Every 100 ms a quiet window of 250 µs opens, while AUTO_DISCOVER is set or an admitted terminal is not operating (Table 11-6). -/
def snWindow (p : Fin 2) (s : State) : State :=
  let a := s.accPort p
  if s.treeRuns p ∧ (a.windowAt = 0 ∨ a.windowAt + 100 * ticksPerMs ≤ s.clk) ∧
      (a.cfg.any (fun q => q.autoDiscover) ∨ a.terminals.any (fun t => t.2.state != 5 && !t.2.disabled)) then
    s.modAcc p (fun a => { a with windowAt := s.clk, inWindow := true })
  else s

/-- A key group rotates: a new key under the other index, sent to every member, which the head states in force from a superframe (R298). -/
def groupRotate (p : Fin 2) (g at_ : Nat) (s : State) : State :=
  let a := s.accPort p
  let every := match a.cfg with | some q => if q.keyRotateS = 0 then 3600 else q.keyRotateS.toNat | none => 3600
  let now := (tget a.groupIndex g).getD (0, 0)
  if s.treeRuns p ∧ g < 14 ∧ !thas a.groupSwitch g ∧ (now.2 + every ≤ s.chipS ∨ (s.keySlot (accSlot p (groupSlot a g))).state = .nearSpent) then
    let k := 1 - now.1
    let (key, s) := s.drawKey
    let s := s.loadSlot (accSlot p (4 + 2 * g + k)) 4 2 p.val 0 key
    let members := (a.terminals.filter (fun t => t.2.keyGroup == g && t.2.state == 5)).map (·.1)
    (s.modAcc p (fun a => { a with groupSwitch := tput a.groupSwitch g (k, at_), terminals := tmap a.terminals (fun _ t => if t.keyGroup = g then { t with keyed := false } else t) })).ploam p
      (members.map (fun onu => .keyControl onu g k at_))
  else s

/-- Every 10 s the head writes OLT-G to each operating terminal (Table 11-6). -/
def oltg (p : Fin 2) (s : State) : State :=
  let a := s.accPort p
  if s.treeRuns p ∧ a.oltgAt + 10 * ticksPerS ≤ s.clk then
    (s.modAcc p (fun a => { a with oltgAt := s.clk })).countAcc p 6 (a.terminals.filter (fun t => t.2.state == 5)).length
  else s

/-- The head measures the next operating terminal in turn (R299). -/
def rssi (p : Fin 2) (power : BitVec 16) (s : State) : State :=
  let a := s.accPort p
  let on := (a.terminals.filter (fun t => t.2.state == 5)).map (·.1)
  if !s.treeRuns p then s
  else match (match on.find? (fun t => decide (a.rssiNext ≤ t)) with | some t => some t | none => on.head?) with
    | some t => (s.modTerminal p t (fun t => { t with rxPower := power })).modAcc p (fun a => { a with rssiNext := t + 1 })
    | none => s

end State

/-! ### Head role: the bandwidth map (R300) -/

/-- Bytes of an upstream frame and of the overhead of a burst (Table 11-6). -/
def frameBytes (gen usRate : Nat) : Nat × Nat := if gen ≠ 2 then (155520, 48) else if usRate = 1 then (194400, 64) else (388800, 96)
/-- The least multiple of 4 at or above a number. -/
def round4 (x : Nat) : Nat := (x + 3) / 4 * 4
/-- The greatest multiple of 4 at or below a number. -/
def floor4 (x : Nat) : Nat := x / 4 * 4

/-- One T-CONT in the allocation: Alloc-ID order, its grant, what it still needs, its weight and its ceiling in bytes. -/
structure Share where
  id : Nat
  grant : Nat
  need : Nat
  weight : Nat
  cap : Nat
  deriving DecidableEq, Repr

/-- The fixed and assured part of a T-CONT's grant. -/
def firstShare (id fixed assured max weight report : Nat) : Share :=
  let g := round4 (fixed / 64)
  let need := report - g
  let a := min need (round4 (assured / 64))
  { id, grant := g + a, need := need - a, weight, cap := round4 (max / 64) }

/-- Four bytes at a time, by ascending Alloc-ID. -/
def fourEach : Nat → List Share → List Share
  | _, [] => []
  | left, x :: t => if 4 ≤ left ∧ 0 < x.need ∧ x.grant < x.cap then { x with grant := x.grant + 4, need := x.need - 4 } :: fourEach (left - 4) t else x :: fourEach left t

/-- The passes that share what is left by weight. -/
def sharePasses : Nat → Nat → List Share → List Share
  | 0, _, l => l
  | fuel + 1, left, l =>
    let on (x : Share) : Bool := decide (0 < x.need) && decide (x.grant < x.cap)
    let w := total (l.filter on) (·.weight)
    if w = 0 ∨ left < 4 then l
    else
      let s (x : Share) : Nat := if on x then min (min (floor4 (left * x.weight / w)) x.need) (x.cap - x.grant) else 0
      let sum := total l s
      if sum = 0 then fourEach left l
      else sharePasses fuel (left - sum) (l.map (fun x => { x with grant := x.grant + s x, need := x.need - s x }))

namespace State

/-- The T-CONTs of operating terminals with their reports of two frames ago. -/
def shares (a : AccPort) : List Share :=
  (a.tconts.filter (fun c => (tget a.terminals (c.1 / 4)).any (fun t => t.state == 5))).map (fun c =>
    firstShare (1024 + c.1) c.2.fixed c.2.assured (if c.2.max = 0 then usKbps a.gen a.usRate else c.2.max) c.2.weight c.2.report)

/-- The map of one frame: Alloc-IDs with their bytes. -/
def bandwidthMap (a : AccPort) : List (Nat × Nat) :=
  let f := frameBytes a.gen a.usRate
  let bursts := (a.terminals.filter (fun t => t.2.state == 5 && a.tconts.any (fun c => c.1 / 4 == t.1 && (c.2.fixed != 0 || c.2.report != 0)))).length
  let first := shares a
  let left := f.1 - bursts * f.2 - total first (·.grant)
  ((sharePasses (left + 1) left first).filter (fun x => x.grant != 0)).map (fun x => (x.id, x.grant))

/-- Once per 125 µs frame the reports move on by one frame and the head computes the map; a frame that a serial-number window covers grants nothing (R296, R300). -/
def allocateUpstream (p : Fin 2) (reports : List (Nat × Nat)) (s : State) : State :=
  if !s.treeRuns p then s
  else
    let s := s.modAcc p (fun a => { a with
      inWindow := a.inWindow && decide (s.clk < a.windowAt + ticksOfUs 250),
      tconts := tmap a.tconts (fun k c => { c with report := c.report1, report1 := (tget reports (1024 + k)).getD 0 }) })
    s.modAcc p (fun a =>
      let m := if a.inWindow then [] else bandwidthMap a
      { a with map := m, tconts := tmap a.tconts (fun k c => { c with grant := (tget m (1024 + k)).getD 0 }) })

/-- The terminal that a frame of a head port goes to, by the table of learned addresses; none: unknown, or broadcast (R298). -/
def terminalOf (a : AccPort) (f : QFrame) : Option Nat := f.dst.bind (fun d => (a.macTable.find? (fun x => x.1 == d)).map (·.2))

/-- The GEM port of a frame of a kind: an active binding of its terminal that carries the kind, or of the broadcast GEM port (R292, R298). -/
def gemFor (a : AccPort) (onu : Option Nat) (kind : Nat) : Option Nat :=
  (a.gems.find? (fun g => g.2.active && g.2.basted.isNone && (g.2.kind == kind || g.2.kind == 2) && g.2.terminal == onu.getD 255)).map (·.1)

/-- One downstream frame of a head port takes the next queued frame in the order of R292, to the GEM port of its terminal under its group's key, or to the broadcast GEM port under the broadcast key; with no active binding the frame is discarded and counted as TX_LINK_DOWN (R292, R298). -/
def headServe (p : Fin 2) (s : State) : State :=
  let i := 16 + p.val
  if !s.treeRuns p ∨ !s.claimed p ∨ (s.accPort p).waits then s
  else
    let s := s.accClean p
    match s.pick i with
    | none => s
    | some (lv, c) =>
      let a := s.accPort p
      let onu := terminalOf a c.frame
      let s := s.serve i lv c
      match gemFor a onu (bit c.leg.isSome) with
      | none => s.countIface i 14
      | some gem =>
        let k := match onu.bind (tget a.terminals) with | some t => groupSlot a t.keyGroup | none => a.bcastIndex
        let (s, sent) := s.accUse p k
        if sent then (s.depart i (lv.elim 8 lvl9) c.leg.isSome c.frame).modAcc p (fun a => { a with sent := some (gem, k) }) else s

/-- Discard what is queued for an access port that counts as link down, counted as TX_LINK_DOWN (R291, 09 R227). -/
def accDrop (s : State) (p : Fin 2) : State :=
  let i := 16 + p.val
  let n := total (s.accPort p).fifos.toList (fun q => q.frames.length) + total (s.queuesOf i) (fun l => (s.legQ l).frames.length)
  let s := (s.queuesOf i).foldl (fun s l => s.modLegQ l (fun q => { q with frames := [], tag := none })) s
  (s.modAcc p (fun a => { a with fifos := a.fifos.map (fun q => { q with frames := [] }) })).countIface i 14 n

end State

/-- One scheduling decision of an interface: Ethernet (10 R254), or an access port, whose terminal role is filled by its grants (R292). -/
def decision (i : Nat) (s : State) : State :=
  if i < 16 then schedule i s
  else if 17 < i then s
  else if s.linkState i ≠ 2 then s.accDrop (fin2 i)
  else s.headServe (fin2 i)

/-- SCHEDULING_DECISION. -/
def execSchedulingDecision (iface : U8) (s : State) : Host.Outcome State Fault Refusal := .next (decision iface.toNat s)

/-! ### access.port -/

/-- A port in a new role: its bindings, T-CONTs and terminals are deleted (R282); a head's tree runs. -/
def freshPort (a : AccPort) (q : AccessPortReq) : AccPort :=
  { role := q.role.toNat, cfg := some q, state := if q.role = 2 then 5 else 1, gen := q.gen.toNat, usRate := q.usRate.toNat,
    identity := a.identity, addrs := a.addrs, routes := a.routes, neigh := a.neigh, counters := a.counters, ifaceCounters := a.ifaceCounters, mib := a.mib, mibSync := a.mibSync }

/-- Set a port (R282, R301): a change of ROLE or GEN stops it and starts it anew. -/
def setPort (p : Fin 2) (q : AccessPortReq) (s : State) : State :=
  let a := s.accPort p
  let oldGroup := s.claimGroup p
  let up := s.linkState (16 + p.val) == 2
  let new := a.role ≠ q.role.toNat ∨ a.cfg.all (fun c => c.gen != q.gen)
  let s := if new then s.dropKeys p else s
  let s := s.modAcc p (fun a => if new then freshPort a q else { a with cfg := some q, usRate := if q.role = 2 then q.usRate.toNat else a.usRate })
  let g := s.claimGroup p
  let others := (s.claimGroup (if p = 0 then 1 else 0))
  let t := if oldGroup ≠ g ∧ oldGroup ≠ 0 ∧ oldGroup ≠ others then tmod s.twin.claims oldGroup (fun c => { c with used := false }) else s.twin.claims
  let s : State := { s with twin := { s.twin with claims := tput t g { (tget t g).getD {} with used := true, homing := q.homing } } }
  let s := if a.state ≠ (s.accPort p).state then s.accessEvent p 0xFF (s.accPort p).state a.state 4 (a.identity.getD 0) else s
  if up != (s.linkState (16 + p.val) == 2) then s.linkEvent (16 + p.val) else s

/-- The range checks of access.port. -/
def accPortOk (q : AccessPortReq) : Bool :=
  decide (q.port.toNat ≤ 1) && decide (q.role.toNat ≤ 2) && decide (q.gen.toNat ≤ 2) && (q.gen != 0 || q.role != 2) &&
  (if q.role = 2 ∧ q.gen = 2 then q.usRate == 1 || q.usRate == 2 else q.usRate == 0) && (q.claimGroup == 0xFF || decide (q.claimGroup.toNat ≤ 63)) &&
  withinOr 0 1518 9000 q.mtu.toNat && decide (q.to1S.toNat ≤ 60) && (if q.role = 2 then [0, 1, 3].contains q.todBase.toNat else q.todBase == 0) &&
  withinOr 0 10 1000 q.to2Ms.toNat && withinOr 0xFFFF 0 200 q.benLeadNs.toNat && withinOr 0xFFFF 0 200 q.benLagNs.toNat &&
  (q.role != 2 || (decide (q.headFibreNs.toNat ≤ 100000) && withinOr 0 60 86400 q.keyRotateS.toNat && q.regId == 0))

/-- The claim group that access.port gives a port (R301). -/
def portGroup (p : Fin 2) (q : AccessPortReq) : Nat := if q.claimGroup = 0xFF then 32 + p.val else q.claimGroup.toNat % 64

/-- access.port; a ninth homing group is refused as by twin.claim (12 R328). -/
def rowAccessPort (q : AccessPortReq) : Row where
  opcode := 0x0B00
  checks := fun _ s =>
    let p := fin2 q.port.toNat
    let a := s.accPort p
    let legs := s.legsOnPort (fun x => x == 16 + p.val)
    let change := a.role != q.role.toNat || a.cfg.all (fun c => c.gen != q.gen)
    let laser := (s.ks.policy.laser[p.val]?).getD (false, false)
    let held : Option U16 := s.holderOf (fun i => match i with | .gem k _ | .tcont k _ _ | .tree k _ => k == p.val | _ => false)
    { fields := accPortOk q,
      busy := [match held with | some id => if change then some (Rep.fail St.busy [id.toNat]) else none | none => none],
      rest := [need (q.role != 1 || laser.1) St.isProtected, need (q.role != 2 || laser.2) St.isProtected, need (!change || legs == 0) St.refused [legs],
               need (!q.homing || decide ((s.twin.claims.filter (fun c => c.2.homing && c.1 != portGroup p q)).length < 8)) St.refused [8]] }
  layout := fun _ => [(0, 0, 8, q.port.toNat), (1, 0, 8, q.role.toNat), (2, 0, 8, q.gen.toNat), (3, 0, 8, q.usRate.toNat), (4, 0, 8, q.claimGroup.toNat), (5, 0, 1, bit q.homing), (5, 1, 1, bit q.sleepOk),
    (5, 2, 1, bit q.autoDiscover), (6, 0, 16, q.mtu.toNat), (8, 0, 48, netOrder 6 q.mac.toNat), (0x0E, 0, 8, q.to1S.toNat), (0x0F, 0, 8, q.todBase.toNat), (0x10, 0, 16, q.to2Ms.toNat), (0x12, 0, 16, q.benLeadNs.toNat),
    (0x14, 0, 16, q.benLagNs.toNat), (0x16, 0, 16, q.refractPpm.toNat), (0x18, 0, 32, q.headFibreNs.toNat), (0x1C, 0, 32, q.keyRotateS.toNat), (0x20, 0, 288, q.regId.toNat)]
  effect := fun _ s => (setPort (fin2 q.port.toNat) (if q.mtu = 0 then { q with mtu := 9000 } else q) s, Rep.ok)

/-! ### access.gem, access.tcont, access.tree -/

/-- Bind or remove a GEM port: a terminal-role binding is pending until the head end's OMCI creates the GEM port. -/
def doGem (p : Fin 2) (mode : U8) (gemId kind terminal alloc : Nat) (s : State) : State :=
  if mode = 1 then s.modAcc p (fun a => { a with gems := tdel a.gems gemId })
  else s.modAcc p (fun a => { a with gems := tput a.gems gemId { kind, terminal, allocId := alloc, active := a.role == 2 || a.mib.any (fun e => e.cls == 268 && e.gemId == gemId) } })

/-- A binding as a command may name it: applied, or basted in the same seam (02 R50). -/
def bindingFor (a : AccPort) (gemId : Nat) (seam : U16) : Option Gem := (tget a.gems gemId).filter (fun g => g.basted.isNone || (seam != 0xFFFF && g.basted == some seam))

/-- ONU-IDs that a seam will admit on a port, of the commands basted so far (02 R50). -/
def treeOf (s : State) (p : Fin 2) (seam : U16) : List Nat :=
  (s.seamsLive.filter (fun k => k.id == seam)).flatMap (fun k => k.cmds.filterMap (fun q => match q.instr with
    | .accessTree _ port 0 _ _ _ => if fin2 port.toNat = p then some q.tag else none
    | _ => none))

/-- A terminal as a command may name it: admitted, or admitted earlier in the same seam (02 R50). -/
def termThere (s : State) (p : Fin 2) (o : Nat) (seam : U16) : Bool := thas (s.accPort p).terminals o || (seam != 0xFFFF && (treeOf s p seam).contains o)

/-- A T-CONT as a command may name it: set, or set earlier in the same seam (02 R50). -/
def tcontThere (s : State) (p : Fin 2) (k : Nat) (seam : U16) : Bool :=
  thas (s.accPort p).tconts k || (seam != 0xFFFF && (s.seamsLive.filter (fun q => q.id == seam)).any (fun q => q.cmds.any (fun c => match c.instr with
    | .accessTcont _ port 0 terminal index _ _ _ _ => fin2 port.toNat == p && 4 * terminal.toNat + index.toNat == k
    | _ => false)))

/-- STATE of access.gem's reply. -/
def gemState (s : State) (p : Fin 2) (gemId : Nat) : Nat := bit !((s.accPort p).role == 2 || (s.accPort p).mib.any (fun e => e.cls == 268 && e.gemId == gemId))

/-- access.gem (R292, R296). -/
def rowAccessGem (m : Mbx) (port mode : U8) (gemId : U16) (kind terminal : U8) (allocId : U16) : Row where
  opcode := 0x0B01
  checks := fun c s =>
    let p := fin2 port.toNat
    let a := s.accPort p
    let g := gemId.toNat
    let head := a.role == 2
    let al := allocId.toNat
    { fields := decide (port.toNat ≤ 1) && decide (mode.toNat ≤ 1) && gemId != 0xFFFF && decide (kind.toNat ≤ 2) && (terminal == 0xFF || decide (terminal.toNat ≤ 127)),
      objects := [need (a.role != 0) St.noObject, need (mode == 0 || (bindingFor a g c.hdr.seam).isSome) St.noObject,
                  need (mode == 1 || head || (terminal == 0xFF && allocId == 0)) St.badField,
                  need (mode == 1 || !head || terminal == 0xFF || termThere s p terminal.toNat c.hdr.seam) St.noObject,
                  need (mode == 1 || !head || (decide (1024 ≤ al) && tcontThere s p (al - 1024) c.hdr.seam)) St.noObject],
      items := [.gem p.val g],
      last := [need (mode == 1 || thas a.gems g || decide (a.gems.length < 1024)) St.refused [1024]] }
  layout := fun _ => [(0, 0, 8, port.toNat), (1, 0, 8, mode.toNat), (2, 0, 16, gemId.toNat), (4, 0, 8, kind.toNat), (5, 0, 8, terminal.toNat), (6, 0, 16, allocId.toNat)]
  effect := fun _ s =>
    let p := fin2 port.toNat
    (doGem p mode gemId.toNat kind.toNat terminal.toNat allocId.toNat s, Rep.ok (if mode = 1 then [] else le 1 (gemState s p gemId.toNat)))
  baste := fun c s =>
    let p := fin2 port.toNat
    let g := gemId.toNat
    let t := if mode = 1 ∨ thas (s.accPort p).gems g then s
      else s.modAcc p (fun a => { a with gems := tput a.gems g { kind := kind.toNat, terminal := terminal.toNat, allocId := allocId.toNat, active := false, basted := some c.hdr.seam } })
    (t, Rep.ok (if mode = 1 then [] else le 1 (gemState s p g)), some (.accessGem m port mode gemId kind terminal allocId, 0))

/-- Set or remove a T-CONT. -/
def doTcont (p : Fin 2) (mode : U8) (k : Nat) (t : Tcont) (s : State) : State :=
  if mode = 1 then s.modAcc p (fun a => { a with tconts := tdel a.tconts k })
  else s.modAcc p (fun a => { a with tconts := tput a.tconts k (match tget a.tconts k with | some o => { t with report := o.report, report1 := o.report1, grant := o.grant } | none => t) })

/-- A port's T-CONTs with every pending change. -/
def tcontsAfter (s : State) (p : Fin 2) : Table (Nat × Nat) :=
  s.basts.foldl (fun acc i => match i with
    | .accessTcont _ port mode terminal index fixed assured _ _ =>
      if fin2 port.toNat ≠ p then acc else if mode = 1 then tdel acc (4 * terminal.toNat + index.toNat) else tput acc (4 * terminal.toNat + index.toNat) (fixed.toNat, assured.toNat)
    | _ => acc) (tmap (s.accPort p).tconts (fun _ c => (c.fixed, c.assured)))

/-- access.tcont (R300). -/
def rowAccessTcont (m : Mbx) (port mode terminal index : U8) (fixed assured max : U32) (weight : U16) : Row where
  opcode := 0x0B02
  checks := fun c s =>
    let p := fin2 port.toNat
    let a := s.accPort p
    let k := 4 * terminal.toNat + index.toNat
    let used (t : Table (Nat × Nat)) : Nat := total ((tdel t k).map (·.2)) (fun x => x.1 + x.2)
    let room := usKbps a.gen a.usRate * 9 / 10 - Nat.max (used (tmap a.tconts (fun _ c => (c.fixed, c.assured)))) (used (tcontsAfter s p))
    { fields := decide (port.toNat ≤ 1) && decide (mode.toNat ≤ 1) && decide (terminal.toNat ≤ 127) && decide (index.toNat ≤ 3) &&
        decide (fixed.toNat ≤ 24883200) && decide (assured.toNat ≤ 24883200) && (max == 0 || decide (fixed.toNat + assured.toNat ≤ max.toNat)) && decide (weight.toNat ≤ 1024),
      objects := [need (a.role != 1) St.badField, need (a.role == 2) St.noObject, need (termThere s p terminal.toNat c.hdr.seam) St.noObject,
                  need (mode == 0 || tcontThere s p k c.hdr.seam) St.noObject],
      items := [.tcont p.val terminal.toNat index.toNat],
      last := [need (mode == 1 || decide (fixed.toNat + assured.toNat ≤ room)) St.refused [room]] }
  layout := fun _ => [(0, 0, 8, port.toNat), (1, 0, 8, mode.toNat), (2, 0, 8, terminal.toNat), (3, 0, 8, index.toNat), (4, 0, 32, fixed.toNat), (8, 0, 32, assured.toNat), (0x0C, 0, 32, max.toNat), (0x10, 0, 16, weight.toNat)]
  effect := fun _ s =>
    (doTcont (fin2 port.toNat) mode (4 * terminal.toNat + index.toNat)
      { fixed := fixed.toNat, assured := assured.toNat, max := max.toNat, weight := if weight = 0 then 1 else weight.toNat } s, Rep.ok)
  baste := fun _ s => (s, Rep.ok, some (.accessTcont m port mode terminal index fixed assured max weight, 0))

/-- The head sends Disable_Serial_Number, with or without its enable option, to a terminal of a running tree (Table 11-3). -/
def State.tellSerial (s : State) (p : Fin 2) (onu : Nat) (enable : Bool) : State :=
  match tget (s.accPort p).terminals onu with
  | some t => if s.treeRuns p then s.ploam p [.disableSerialNumber t.serial enable] else s
  | none => s

/-- Admit, remove, disable or enable a terminal. A removed terminal's T-CONTs and bindings go with it. -/
def doTree (p : Fin 2) (mode : U8) (onu keyGroup : Nat) (serial : U64) (s : State) : State :=
  match mode.toNat with
  | 0 => s.modAcc p (fun a => { a with terminals := tput a.terminals onu { serial, keyGroup } })
  | 1 =>
    let s := s.termState p onu 0 4
    let s := if s.treeRuns p then s.ploam p [.deactivateOnuId onu] else s
    s.modAcc p (fun a => { a with
      terminals := tdel a.terminals onu, tconts := a.tconts.filter (fun c => c.1 / 4 != onu), gems := a.gems.filter (fun g => g.2.terminal != onu),
      macTable := a.macTable.filter (fun x => x.2 != onu) })
  | 2 => ((s.termState p onu 7 4).modTerminal p onu (fun t => { t with disabled := true })).tellSerial p onu false
  | _ => State.tellSerial (p := p) (onu := onu) (enable := true) <| (if (tget (s.accPort p).terminals onu).any (fun t => t.state == 7) then s.termState p onu 0 4 else s).modTerminal p onu (fun t => { t with disabled := false })

/-- ONU-IDs and serial numbers that seams in progress will admit on a port. -/
def treeBasts (s : State) (p : Fin 2) : List (Nat × U64) :=
  s.seamsLive.flatMap (fun k => k.cmds.filterMap (fun c => match c.instr with
    | .accessTree _ port 0 _ _ serial => if fin2 port.toNat = p then some (c.tag, serial) else none
    | _ => none))

/-- The ONU-ID an admission takes. -/
def onuFor (s : State) (p : Fin 2) (onu : U8) : Option Nat :=
  if onu = 0xFF then lowest (fun i => !thas (s.accPort p).terminals i && !(treeBasts s p).any (fun b => b.1 == i)) 0 128 else some onu.toNat

/-- access.tree (R297). -/
def rowAccessTree (m : Mbx) (port mode onuId keyGroup : U8) (serial : U64) : Row where
  opcode := 0x0B03
  checks := fun c s =>
    let p := fin2 port.toNat
    let a := s.accPort p
    let o := onuId.toNat
    let pend := treeBasts s p
    { fields := decide (port.toNat ≤ 1) && decide (mode.toNat ≤ 3) && (decide (o ≤ 127) || (onuId == 0xFF && mode == 0)) && decide (keyGroup.toNat ≤ 13),
      objects := [need (a.role != 1) St.badField, need (a.role == 2) St.noObject, need (mode == 0 || termThere s p o c.hdr.seam) St.noObject],
      items := match onuFor s p onuId with | some k => [.tree p.val k] | none => [],
      busy := [need (mode != 0 || !(a.terminals.any (fun t => t.1 == o || t.2.serial == serial) || pend.any (fun b => b.1 == o || b.2 == serial))) St.busy],
      last := [need (mode != 0 || decide (a.terminals.length + pend.length < 128)) St.refused [128]] }
  layout := fun _ => [(0, 0, 8, port.toNat), (1, 0, 8, mode.toNat), (2, 0, 8, onuId.toNat), (3, 0, 8, keyGroup.toNat), (4, 0, 64, serial.toNat)]
  effect := fun _ s =>
    let p := fin2 port.toNat
    match onuFor s p onuId with
    | some o => (doTree p mode o keyGroup.toNat serial s, Rep.ok (le 1 o))
    | none => (s, Rep.fail St.refused [128])
  baste := fun _ s =>
    match onuFor s (fin2 port.toNat) onuId with
    | some o => (s, Rep.ok (le 1 o), some (.accessTree m port mode onuId keyGroup serial, o))
    | none => (s, Rep.fail St.refused [128], none)

/-- access.query. -/
def rowAccessQuery (port terminal : U8) : Row where
  opcode := 0x0B04
  checks := fun _ s =>
    let a := s.accPort (fin2 port.toNat)
    { fields := decide (port.toNat ≤ 1) && (terminal == 0xFF || decide (terminal.toNat ≤ 127)),
      objects := [need (terminal == 0xFF || (a.role == 2 && thas a.terminals terminal.toNat)) St.noObject] }
  layout := fun _ => [(0, 0, 8, port.toNat), (1, 0, 8, terminal.toNat)]
  effect := fun _ s =>
    let p := fin2 port.toNat
    let a := s.accPort p
    let t := tget a.terminals terminal.toNat
    let own := terminal == 0xFF
    (s, Rep.ok (le 1 a.role ++ le 1 (if own then a.state else t.elim 0 (·.state)) ++ le 1 a.gen ++ le 1 a.usRate ++
      le 1 (if own then a.onuId.getD 255 else terminal.toNat) ++ le 1 (bit a.sleeping + 2 * bit (s.holdsGroup (s.claimGroup p))) ++ le 2 0 ++
      leI 4 (if own then a.eqd else t.elim 0 (·.eqd)) ++ le 2 (if own then a.rxPower.toNat else t.elim 0 (fun t => t.rxPower.toNat)) ++ le 2 a.txPower.toNat ++
      le 8 (if own then (a.identity.getD 0).toNat else t.elim 0 (fun t => t.serial.toNat)) ++ a.counters.toList.flatMap (fun x => le 8 x.toNat)))

/-- A PLOAM or OMCI message that a port takes is canon on a primary: 48 bytes, as the standards frame it (12 R311). -/
def State.consumed (s : State) (p : Fin 2) : State := if (s.accPort p).role = 0 then s else s.canonise 48

/-! ### The rows -/

/-- GENERATION_HUNT. -/
def execGenerationHunt (port : Fin 2) (s : State) : Host.Outcome State Fault Refusal := .next (State.hunt port s)
/-- DOWNSTREAM_SYNC_GAINED. -/
def execDownstreamSyncGained (port : Fin 2) (s : State) : Host.Outcome State Fault Refusal := .next (State.syncGained port s).fin
/-- DOWNSTREAM_SYNC_LOST. -/
def execDownstreamSyncLost (port : Fin 2) (s : State) : Host.Outcome State Fault Refusal := .next (State.syncLost port s).fin
/-- DOWNSTREAM_SUPERFRAME. -/
def execDownstreamSuperframe (port : Fin 2) (superframe : Nat) (s : State) : Host.Outcome State Fault Refusal := .next (State.superframe port superframe s)
/-- TO1_EXPIRY. -/
def execTo1Expiry (port : Fin 2) (s : State) : Host.Outcome State Fault Refusal := .next (State.to1Expiry port s).fin
/-- TO2_EXPIRY. -/
def execTo2Expiry (port : Fin 2) (s : State) : Host.Outcome State Fault Refusal := .next (State.to2Expiry port s).fin
/-- SERIAL_NUMBER_GRANT. -/
def execSerialNumberGrant (port : Fin 2) (s : State) : Host.Outcome State Fault Refusal := .next (State.snGrant port s)
/-- BURST_GRANT. -/
def execBurstGrant (port : Fin 2) (alloc : Allocation) (s : State) : Host.Outcome State Fault Refusal := .next (State.burstGrant port alloc s).fin
/-- BURST_PROFILE. -/
def execBurstProfile (port : Fin 2) (usRate : U8) (s : State) : Host.Outcome State Fault Refusal := .next (State.burstProfile port usRate (s.consumed port)).fin
/-- ASSIGN_ONU_ID. -/
def execAssignOnuId (port : Fin 2) (onuId : Nat) (serial : U64) (s : State) : Host.Outcome State Fault Refusal := .next (State.assignOnu port onuId serial (s.consumed port)).fin
/-- RANGING_TIME. -/
def execRangingTime (port : Fin 2) (relative : Bool) (bits : Int) (s : State) : Host.Outcome State Fault Refusal := .next (State.rangingTime port relative bits (s.consumed port)).fin
/-- DEACTIVATE_ONU_ID. -/
def execDeactivateOnuId (port : Fin 2) (onuId : Nat) (s : State) : Host.Outcome State Fault Refusal := .next (State.deactivate port onuId (s.consumed port)).fin
/-- DISABLE_SERIAL_NUMBER. -/
def execDisableSerialNumber (port : Fin 2) (enable : Bool) (serial : U64) (s : State) : Host.Outcome State Fault Refusal := .next (State.disableSerial port enable serial (s.consumed port)).fin
/-- REQUEST_REGISTRATION. -/
def execRequestRegistration (port : Fin 2) (s : State) : Host.Outcome State Fault Refusal := .next (State.requestRegistration port (s.consumed port))
/-- ASSIGN_ALLOC_ID. -/
def execAssignAllocId (port : Fin 2) (allocId : Nat) (s : State) : Host.Outcome State Fault Refusal := .next (State.assignAlloc port allocId (s.consumed port))
/-- KEY_CONTROL. -/
def execKeyControl (port : Fin 2) (keyIndex : Fin 2) (broadcast : Bool) (superframe : Nat) (s : State) : Host.Outcome State Fault Refusal := .next (State.keyControl port keyIndex broadcast superframe (s.consumed port)).fin
/-- SLEEP_ALLOW. -/
def execSleepAllow (port : Fin 2) (on : Bool) (s : State) : Host.Outcome State Fault Refusal := .next (State.sleepAllow port on (s.consumed port))
/-- CHANGE_POWER_LEVEL. -/
def execChangePowerLevel (port : Fin 2) (level : Nat) (moduleReports : Bool) (s : State) : Host.Outcome State Fault Refusal := .next (State.powerLevel port level moduleReports (s.consumed port))
/-- POWER_CONSUMPTION_INQUIRE. -/
def execPowerConsumptionInquire (port : Fin 2) (s : State) : Host.Outcome State Fault Refusal := .next (State.powerInquire port (s.consumed port))
/-- PLOAM_IGNORED. -/
def execPloamIgnored (port : Fin 2) (micFail : Bool) (s : State) : Host.Outcome State Fault Refusal := .next (State.ploamIgnored port micFail (s.consumed port))
/-- OMCI_MESSAGE. -/
def execOmciMessage (port : Fin 2) (req : OmciReq) (s : State) : Host.Outcome State Fault Refusal := .next (State.omci port req (s.consumed port)).fin
/-- WATCHFUL_SLEEP_WAKE. -/
def execWatchfulSleepWake (port : Fin 2) (s : State) : Host.Outcome State Fault Refusal := .next (State.sleepWake port s)
/-- SERIAL_NUMBER_RECEIVED. -/
def execSerialNumberReceived (port : Fin 2) (serial : U64) (s : State) : Host.Outcome State Fault Refusal := .next (State.serialReceived port serial (s.consumed port)).fin
/-- REGISTRATION_RECEIVED. -/
def execRegistrationReceived (port : Fin 2) (onuId : Nat) (s : State) (roundTripNs : Nat := 0) : Host.Outcome State Fault Refusal := .next (State.registrationReceived port onuId roundTripNs (s.consumed port)).fin
/-- KEY_REPORT_RECEIVED. -/
def execKeyReportReceived (port : Fin 2) (onuId : Nat) (s : State) : Host.Outcome State Fault Refusal := .next (State.keyReport port onuId (s.consumed port))
/-- PLOAM_ACKNOWLEDGE. -/
def execPloamAcknowledge (port : Fin 2) (onuId : Nat) (error : Bool) (s : State) : Host.Outcome State Fault Refusal := .next (State.acknowledge port onuId error (s.consumed port))
/-- REGISTRATION_TIMEOUT. -/
def execRegistrationTimeout (port : Fin 2) (onuId : Nat) (s : State) : Host.Outcome State Fault Refusal := .next (State.registrationTimeout port onuId s).fin
/-- MISSING_BURSTS. -/
def execMissingBursts (port : Fin 2) (onuId : Nat) (s : State) : Host.Outcome State Fault Refusal := .next (State.missingBursts port onuId s).fin
/-- UPSTREAM_ALLOCATION. -/
def execUpstreamAllocation (port : Fin 2) (reports : List (Nat × Nat)) (s : State) : Host.Outcome State Fault Refusal := .next (State.allocateUpstream port reports s)
/-- SERIAL_NUMBER_WINDOW. -/
def execSerialNumberWindow (port : Fin 2) (s : State) : Host.Outcome State Fault Refusal := .next (State.snWindow port s)
/-- GROUP_KEY_ROTATE. -/
def execGroupKeyRotate (port : Fin 2) (group : Nat) (s : State) (superframe : Nat := 0) : Host.Outcome State Fault Refusal := .next (State.groupRotate port group superframe s).fin
/-- OLT_G_PERIODIC. -/
def execOltGPeriodic (port : Fin 2) (s : State) : Host.Outcome State Fault Refusal := .next (State.oltg port s)
/-- RSSI_TRIGGER. -/
def execRssiTrigger (port : Fin 2) (power : BitVec 16) (s : State) : Host.Outcome State Fault Refusal := .next (State.rssi port power s)
/-- ACCESS_PORT. -/
def execAccessPort (m : Mbx) (req : AccessPortReq) (s : State) : Host.Outcome State Fault Refusal := .next (s.run m (rowAccessPort req))
/-- ACCESS_GEM. -/
def execAccessGem (m : Mbx) (port mode : U8) (gemId : U16) (kind terminal : U8) (allocId : U16) (s : State) : Host.Outcome State Fault Refusal :=
  .next (s.run m (rowAccessGem m port mode gemId kind terminal allocId))
/-- ACCESS_TCONT. -/
def execAccessTcont (m : Mbx) (port mode terminal index : U8) (fixedKbps assuredKbps maxKbps : U32) (weight : U16) (s : State) : Host.Outcome State Fault Refusal :=
  .next (s.run m (rowAccessTcont m port mode terminal index fixedKbps assuredKbps maxKbps weight))
/-- ACCESS_TREE. -/
def execAccessTree (m : Mbx) (port mode onuId keyGroup : U8) (serial : U64) (s : State) : Host.Outcome State Fault Refusal :=
  .next (s.run m (rowAccessTree m port mode onuId keyGroup serial))
/-- ACCESS_QUERY. -/
def execAccessQuery (m : Mbx) (port terminal : U8) (s : State) : Host.Outcome State Fault Refusal := .next (s.run m (rowAccessQuery port terminal))

end Sys2Proof.Machine
end

