-- ==== Sys2Proof/Machine/Twin.lean ====
section
/-! DEFINITION. Twin operation (12): unit states, leaving synchronisation, the claim bus, swaps, the link's timers, and the twin commands. What Truss frames do to a standby is in Mirror.lean. -/

namespace Sys2Proof.Machine

open Sys2Proof

/-- Code of a unit state (Table 12-1). -/
def twinCode : TwinState → Nat
  | .alone => 0 | .joining => 1 | .resync => 2 | .standby => 3 | .primary => 4 | .outOfSync => 5

/-- Stitch ticks of TB3 counted from its start. -/
def State.tick3 (s : State) : Nat := s.tbNs 3 / 1000000

namespace State

/-- Change twin operation. -/
def modTwin (s : State) (f : Twin → Twin) : State := { s with twin := f s.twin }

/-- Change a claim group. -/
def modClaim (s : State) (g : Nat) (f : Claim → Claim) : State := s.modTwin (fun t => { t with claims := tmod t.claims g f })

/-- Raise the twin event (12). -/
def twinEvent (s : State) (old cause group : Nat) (won : Bool) : State :=
  s.raise 0x0C80 St.ok (le 1 (twinCode s.twin.state) ++ le 1 old ++ le 1 cause ++ le 1 group ++ le 4 (bit won + 2 * bit s.twin.busOk) ++ le 8 s.chipS)

/-- READINESS.TWIN: joined to a twin peer and in synchronisation (03 Table 3-12). -/
def twinReady (s : State) : State :=
  s.readyBit 4 (s.twin.state == .standby || (s.twin.state == .primary && s.twin.peerState == some 3))

/-- Keystone draws a new EPOCH each time a unit becomes PRIMARY or ALONE (13 R355). -/
def newEpoch (s : State) : State :=
  let d := s.draw32
  d.2.modKeep (fun k => { k with epoch := d.1, ownFrom := k.rseq, epochOwn := true })

/-- The first Keystone to run PRIMARY or ALONE under a PAIR_ID generates the pair's certificate (16 R420). -/
def newCert (s : State) : State :=
  if s.ks.cert.any (fun c => c.1 == s.ks.policy.pairId) then s
  else { s with draws := s.draws + 1, ks := { s.ks with cert := some (s.ks.policy.pairId, s.draws) } }

/-- Enter a unit state (R304). A change of state by CAUSE CLAIM is that of group 0, won (12, twin event). -/
def setTwin (s : State) (new : TwinState) (cause : Nat) : State :=
  if s.twin.state = new then s
  else
    let old := twinCode s.twin.state
    let s := if new = .primary ∨ new = .alone then s.newEpoch.newCert else s
    ((s.modTwin (fun t => { t with state := new, cause := BitVec.ofNat 8 cause, lastChange := s.chipS })).twinEvent old cause (if cause = 17 then 0 else 0xFF) (cause == 17)).twinReady

/-! ### Swaps (R329) -/

/-- The groups a swap names: one, or every group this unit holds. -/
def swapGroups (s : State) (w : Swap) : List Nat :=
  match w.group with
  | some g => [g]
  | none => (s.twin.claims.filter (fun p => p.2.held || p.2.yielding)).map (·.1)

/-- A swap ends: its event goes to the issuer of twin.swap. K is given as the media time that TB3 counts to its tick. -/
def endSwap (s : State) (st : U8) (cause : Nat) : State :=
  match s.twin.swap with
  | none => s
  | some w =>
    let s := s.modTwin (fun t => { t with swap := none, claims := tmap t.claims (fun _ c => { c with yielding := false }) })
    match w.issuer with
    | some (m, n) => s.raiseDone m n 0x0C81 st (le 1 (w.group.getD 255) ++ le 7 0 ++ le 8 (48 * w.tick) ++ le 1 cause)
    | none => s

/-- Elapsed ticks at which each homing group whose home is the peer falls due, once the peer is STANDBY (R328). -/
def homeTimers (s : State) : State :=
  s.modTwin (fun t => { t with claims := tmap t.claims (fun _ c =>
    { c with homeAt := if c.homing ∧ t.state = .primary ∧ t.peerState = some 3 ∧ c.homeSide ≠ s.pins.twinSide then (if c.homeAt.isSome then c.homeAt else some (s.clk + c.holdOffS * ticksPerS)) else none }) })

/-- The peer's state as the link reports it. A peer that leaves synchronisation before K ends a pending swap REFUSED (R329). -/
def setPeer (s : State) (p : Option U8) (cause : Nat) : State :=
  let s := ((s.modTwin (fun t => { t with peerState := p })).homeTimers).twinReady
  if s.twin.state = .primary ∧ p ≠ some 3 ∧ s.twin.swap.any (fun w => !w.dropped) then s.endSwap St.refused cause else s

/-! ### Leaving synchronisation (R325) -/

/-- The mirrored media state of a unit that leaves synchronisation, or of one whose Sound and Picture state is gone, is discarded; configuration stays. -/
def dropMedia (s : State) : State :=
  let s := s.modSnd (fun d => { d with legs := tmap d.legs (fun _ l => { l with
    jb := l.jb.idle, sel := .quiet, attack := 0, release := 0, decoded := false }) })
  let s := s.modPic (fun p => { p with
    dec := tmap p.dec (fun _ d => d.lose),
    enc := tmap p.enc (fun _ e => { e with waiting := 0, layers := Vector.replicate 3 {} }) })
  s.modFwd (fun w => { w with entries := tmap w.entries (fun _ e => { e with nums := tmap e.nums (fun _ n => { n with restart := true }) }) })

/-- Elapsed ticks of the failed resyncs that count: those within 1 hour (R325). -/
def recentFails (s : State) : List Nat := s.twin.failedAt.filter (fun t => decide (s.chipS < t + 3600))

/-- A unit in RESYNC or STANDBY goes to OUT_OF_SYNC for a cause of Table 12-7; a failed resync is counted, and the third within 1 hour leaves no retry (R325). -/
def leaveSync (s : State) (cause : Nat) : State :=
  if s.twin.state ≠ .standby ∧ s.twin.state ≠ .resync then s
  else
    let fails := if s.twin.state = .resync then s.recentFails ++ [s.chipS] else s.recentFails
    let s := s.dropMedia
    let s := s.modTwin (fun t => { t with
      failedAt := fails, retryAt := if 3 ≤ fails.length then none else some (s.clk + t.retryHoldS * ticksPerS),
      step := 0, resyncUntil := none, canonHeld := [], canonEnd := none, ingress := [], draws := [], stateItems := [], stateDone := false,
      raised0 := false, throttleAsk := none, swap := none, claims := tmap t.claims (fun _ c => { c with taking := false, yielding := false }) })
    s.setTwin .outOfSync cause

/-- RESYNC starts: its time runs from the moment the Truss link is up (R327). -/
def startResync (s : State) (cause : Nat) : State :=
  let s := s.modTwin (fun t => { t with
    step := if t.authed then 2 else 1, resyncUntil := if t.linkUp then some (s.clk + t.resyncS * ticksPerS) else none, retryAt := none, stateItems := [], stateDone := false, joinWins := 0 })
  s.setTwin .resync cause

/-! ### Taking the primary role -/

/-- Every encode context codes a key picture at its first picture at or after its feed's media time (06 R174). -/
def keyAll (s : State) (at_ : Conf → Nat) : State :=
  s.pic.enc.foldl (fun s p =>
    match (tget s.pic.feeds p.2.feed).bind (fun f => tget s.model.confs (s.confOfLayout f.layout)) with
    | some c => s.wantKey p.1 (at_ c) false
    | none => s) s

/-- A candidate that wins group 0 takes over cold: it serves with the configuration it holds, and every encoder inserts a key picture (R321). -/
def coldTakeover (s : State) (cause : Nat) : State :=
  let s := s.modTwin (fun t => { t with
    step := 0, resyncUntil := none, retryAt := none, joinWins := 0, canonHeld := [], canonEnd := none, draws := [], ingress := [], stateItems := [], stateDone := false })
  ((s.keyAll (fun _ => 0)).setTwin .primary cause).homeTimers

/-- A standby that wins group 0 is the new primary: a failover takes every group it uses at rank 0xE; the canon switch follows at the next stitch tick (Table 12-8, R329). -/
def takeOver (s : State) : State :=
  let planned := s.twin.swap.any (fun w => w.dropped && (w.group.isNone || w.group == some 0))
  let s := s.modTwin (fun t => { t with
    raised0 := false, switchDue := true, throttleAsk := none,
    switchFrom := if planned then t.swap.map (fun w => (s.chipNs : Int) + 1000000 * (w.tick : Int) - (s.tbNs 3 : Int)) else none, swap := none, failovers := if planned then t.failovers else t.failovers + 1,
    peerState := if planned then some 3 else none,
    claims := tmap t.claims (fun _ c => if !planned && c.used then { c with taking := true } else c) })
  (s.setTwin .primary (if planned then 15 else 16)).homeTimers

/-- The old primary of a swap becomes STANDBY and reads the new canon (R329). -/
def stepDown (s : State) : State :=
  let s := s.modTwin (fun t => { t with canonHeld := [], canonEnd := none, ingress := [], draws := [], lastDecision := s.clk, peerState := some 4 })
  s.setTwin .standby 15

/-! ### The claim bus (R320 to R324) -/

/-- Claims are released: by a chip-level fault, a reset, Park, or a shed (R320). -/
def releaseClaims (s : State) : State :=
  s.modTwin (fun t => { t with released := true, claims := tmap t.claims (fun _ c => { c with held := false, taking := false, yielding := false }) })

/-- The rank a unit claims a group at (R321); 0 while Keystone has not released the unit, and in fault, trip or Park (R320, 16 R422). -/
def rankOf (s : State) (g : Nat) (c : Claim) : Nat :=
  if !c.used ∨ s.twin.released ∨ !s.ks.released ∨ s.ks.state = .trip ∨ s.ks.state = .park then 0
  else
    match s.twin.state with
    | .alone => 0xC
    | .joining | .resync | .outOfSync => 4
    | .standby => if c.taking ∨ (g = 0 ∧ s.twin.raised0) then 0xE else if c.held then 0xC else 8
    | .primary => if c.taking then 0xE else if c.held ∧ !c.yielding then 0xC else 8

/-- The claim number: rank and the side's preference; 0 when not claiming (R321). -/
def claimNo (s : State) (g : Nat) : Nat :=
  match tget s.twin.claims g with
  | some c => let r := s.rankOf g c; if r = 0 then 0 else r * 4096 + (if s.pins.twinSide then c.prefB else c.prefA) % 4096
  | none => 0

/-- A claim for an access port's group is won by a unit of a pair: the terminal role activates again, the head role takes the tree over (11 R302, R303). -/
def takePort (s : State) (p : Fin 2) : State :=
  let a := s.accPort p
  if a.role = 1 then (if 2 < a.state ∧ a.state ≠ 7 then (s.accState p 2 3).modAcc p (fun a => { a with eqd := 0, eqdNext := none, to1 := none, to2 := none }) else s)
  else if a.role = 2 then
    let own : Int := (a.cfg.elim 0 (fun q => q.headFibreNs.toNat) : Nat)
    let diff := own - ((s.twin.peerFibre.get p : Nat) : Int)
    if 5000 < diff.natAbs then
      a.terminals.foldl (fun s t =>
        if t.2.state = 0 then s
        else (s.modAcc p (fun a => { a with terminals := tput a.terminals t.1 { t.2 with state := 0, regUntil := none } })).accessEvent p t.1 0 t.2.state 3 t.2.serial)
        ((s.modAcc p (fun a => { a with waits := true })).ploam p (((a.terminals.filter (fun t => t.2.state != 0)).map (fun t => .deactivateOnuId t.1))))
    else s.modAcc p (fun a => { a with waits := true, shiftNs := a.shiftNs + 2 * diff })
  else s

/-- What winning or losing group 0 does to the unit (Table 12-1). -/
def group0 (s : State) (won : Bool) (peer : Nat) (yielded : Bool) : State :=
  let s := s.modTwin (fun t => { t with peerHolds := peer / 4096 == 0xC })
  match s.twin.state with
  | .joining =>
    let s := s.modTwin (fun t => { t with joinWins := if won ∧ peer / 4096 ≤ 8 then t.joinWins + 1 else 0 })
    if 2 ≤ s.twin.joinWins then s.coldTakeover 17
    else if s.twin.peerHolds ∧ s.twin.authed ∧ s.twin.linkUp then s.startResync 0
    else s
  | .resync | .outOfSync => if won then s.coldTakeover 16 else s
  | .standby => if won then s.takeOver else s
  | .primary => if yielded ∧ !won then s.stepDown else s
  | .alone => s

/-- The unit wins a group's frame: it claims, and its claim is the higher one, or equal to the peer's and SIDE decides for it (R321, R322). -/
def claimWon (s : State) (g : Nat) (f : ClaimFrame) : Bool :=
  let my := s.claimNo g
  let peer := (f.peerClaim.getD 0).toNat
  my != 0 && (decide (peer < my) || (peer == my && decide (bit f.peerSide ≤ bit s.pins.twinSide)))

/-- One group's frame decides the group: the higher claim wins, SIDE decides equal claims, and a taking unit falls to 0xC once the peer shows 0x8 or below or is silent in a later frame (R321 to R323). -/
def decideGroup (s : State) (g : Nat) (f : ClaimFrame) : State :=
  match tget s.twin.claims g with
  | none => s
  | some c =>
    let peer := (f.peerClaim.getD 0).toNat
    let won := s.claimWon g f
    let still := c.taking && !(c.held && won && decide (peer / 4096 ≤ 8))
    let s := s.modClaim g (fun c => { c with held := won, taking := still, yielding := c.yielding && won, wonRounds := if won then c.wonRounds + 1 else 0 })
    let s := if won = c.held then s else s.twinEvent (twinCode s.twin.state) 17 g won
    let s := if won ∧ !c.held ∧ s.twin.state ≠ .alone then ([0, 1] : List (Fin 2)).foldl (fun s p => if s.claimGroup p = g then s.takePort p else s) s else s
    let s := if g = 0 then s.group0 won peer c.yielding else s
    let s := if s.twin.state = .standby ∧ won ∧ s.twin.swap.any (fun w => w.dropped && w.group == some g) then s.modTwin (fun t => { t with swap := none }) else s
    if s.twin.swap.any (fun w => w.dropped) ∧ c.yielding ∧ !won ∧ !s.twin.claims.any (fun p => p.2.yielding) then s.endSwap St.ok 15 else s

/-- A round ends: it is valid if every frame was. Two consecutive valid rounds in which the unit lost no group it claims as holder bring the bus back (R324). -/
def endRound (s : State) (valid : Bool) : State :=
  let beaten := s.twin.claims.any (fun p => decide (0xC ≤ s.rankOf p.1 p.2) && !p.2.held)
  let good := if valid ∧ s.ks.released ∧ !beaten then s.twin.goodRounds + 1 else 0
  let back := !s.twin.busOk && decide (2 ≤ good)
  let s := s.modTwin (fun t => { t with round := none, goodRounds := good, busOk := t.busOk || back, lastRound := if valid then s.clk else t.lastRound })
  let s : State := { s with ks := { s.ks with seenRounds := if s.ks.released then s.ks.seenRounds else if valid then s.ks.seenRounds + 1 else 0 } }
  if back then s.twinEvent (twinCode s.twin.state) 18 0xFF false else s

/-- CRC-8 of the claim bus: polynomial 0x07, bits from the most significant (Table 12-6). -/
def crc8 (bytes : Bytes) : U8 :=
  bytes.foldl (fun h x => (List.range 8).foldl (fun (h : U8) _ => if h.getLsbD 7 then (h <<< 1) ^^^ 0x07 else h <<< 1) (h ^^^ x)) 0

/-- The frame this unit sends for a group (Table 12-6). -/
def claimWord (s : State) (g : Nat) : U32 :=
  let top : BitVec 24 := BitVec.ofNat 24 (g % 64 * 262144 + s.claimNo g % 65536 * 4 + 2 * bit s.pins.twinSide)
  top ++ crc8 [top.extractLsb' 16 8, top.extractLsb' 8 8, top.extractLsb' 0 8]

end State

/-- A claim round begins (R322). A round that had not ended counts as invalid. -/
def claimRoundStart (s : State) : State :=
  if s.boot.stage = .held then s
  else s.modTwin (fun t => { t with round := some (0, true), lastStart := s.clk, goodRounds := if t.round.isSome then 0 else t.goodRounds })

/-- CLAIM_ROUND_START. -/
def execClaimRoundStart (s : State) : Host.Outcome State Fault Refusal := .next (claimRoundStart s)

/-- A frame of the running round ends (R322, R323): the frames of a round come in ascending order; one whose CRC fails decides nothing and makes the round invalid. -/
def claimFrame (f : ClaimFrame) (s : State) : State :=
  match s.twin.round with
  | none => s
  | some (n, valid) =>
    if f.group.toNat ≠ n then s
    else
      let s := s.modTwin (fun t => { t with sentClaim := s.claimWord n })
      let s := if f.crcOk then s.decideGroup n f else s
      let valid := valid && f.crcOk
      (if n < 63 then s.modTwin (fun t => { t with round := some (n + 1, valid) }) else s.endRound valid).fin

/-- CLAIM_FRAME. -/
def execClaimFrame (frame : ClaimFrame) (s : State) : Host.Outcome State Fault Refusal := .next (claimFrame frame s)

/-- No valid round in 1,500 µs: the bus is lost, gated outputs are off, and a STANDBY whose link is lost too leaves synchronisation (R324). -/
def claimBusLost (s : State) : State :=
  if s.twin.busOk ∧ s.twin.lastRound + State.ticksOfUs 1500 ≤ s.clk then
    let s := s.modTwin (fun t => { t with busOk := false, goodRounds := 0, round := none })
    let s := s.twinEvent (twinCode s.twin.state) 18 0xFF false
    (if s.twin.state = .standby ∧ !s.twin.linkUp then s.leaveSync 1 else s).fin
  else s

/-- CLAIM_BUS_LOST. -/
def execClaimBusLost (s : State) : Host.Outcome State Fault Refusal := .next (claimBusLost s)

/-! ### The link's timers -/

/-- A sender with nothing else to send transmits an IDLE frame (R308). -/
def trussIdleTimer (s : State) : State :=
  if s.twin.linkUp then s.modTwin (fun t => { t with unacked := t.unacked ++ [(t.txSeq, 20)], txSeq := t.txSeq + 1 }) else s

/-- TRUSS_IDLE_TIMER. -/
def execTrussIdleTimer (s : State) : Host.Outcome State Fault Refusal := .next (trussIdleTimer s)

/-- No valid frame for 100 µs: the link is lost; a STANDBY or a unit in RESYNC leaves synchronisation, a primary never leaves its state (R308, R325, R326). -/
def trussLinkLost (s : State) : State :=
  if s.twin.linkUp ∧ s.twin.lastFrame + State.ticksOfUs 100 ≤ s.clk then
    let s := s.modTwin (fun t => { t with linkUp := false, authed := false, version := 0, unacked := [], mirrorStopped := false, rxSeq := 0xFFFFFFFF, txSeq := 0 })
    let s := s.setPeer none 1
    (s.leaveSync 1).fin
  else s

/-- TRUSS_LINK_LOST. -/
def execTrussLinkLost (s : State) : Host.Outcome State Fault Refusal := .next (trussLinkLost s)

/-- A lane that its FEC cannot correct for 1 ms leaves service (R307). -/
def trussLaneFail (lane : Fin 4) (s : State) : State := s.modTwin (fun t => { t with laneMap := t.laneMap &&& ~~~ (BitVec.ofNat 4 (2 ^ lane.val)) })

/-- TRUSS_LANE_FAIL. -/
def execTrussLaneFail (lane : Fin 4) (s : State) : Host.Outcome State Fault Refusal := .next (trussLaneFail lane s)

/-- The oldest unacknowledged frames that fit a number of bytes are gone. -/
def freeFrames : Nat → List (U32 × Nat) → List (U32 × Nat)
  | _, [] => []
  | n, (q, b) :: t => if b ≤ n then freeFrames (n - b) t else (q, b) :: t

/-- Acknowledgements free room in the store, and mirroring that had stopped goes on (R308). -/
def mirrorStoreFree (bytes : Nat) (s : State) : State :=
  let s := s.modTwin (fun t => { t with unacked := freeFrames bytes t.unacked })
  s.modTwin (fun t => { t with mirrorStopped := t.mirrorStopped && decide (8388608 ≤ total t.unacked (·.2)) })

/-- MIRROR_STORE_FREE. -/
def execMirrorStoreFree (bytes : Nat) (s : State) : Host.Outcome State Fault Refusal := .next (mirrorStoreFree bytes s)

/-- A tick's decision record is more than 20 ms late: the next was due one stitch tick after the last (R313, 06 R182). -/
def decisionLate (s : State) : State :=
  if s.twin.state = .standby ∧ !s.pwr.asleep ∧ s.twin.lastDecision + 21 * State.ticksPerMs < s.clk then (s.leaveSync 2).fin else s

/-- DECISION_LATE. -/
def execDecisionLate (s : State) : Host.Outcome State Fault Refusal := .next (decisionLate s)

/-- RESYNC_S has passed (R327). -/
def resyncTimeout (s : State) : State :=
  if s.twin.state = .resync ∧ s.twin.resyncUntil.any (fun t => decide (t ≤ s.clk)) then (s.leaveSync 10).fin else s

/-- RESYNC_TIMEOUT. -/
def execResyncTimeout (s : State) : Host.Outcome State Fault Refusal := .next (resyncTimeout s)

/-- RETRY_HOLD_S has passed: RESYNC starts (R325). -/
def retryHoldExpiry (s : State) : State :=
  if s.twin.state = .outOfSync ∧ s.twin.retryAt.any (fun t => decide (t ≤ s.clk)) then (s.startResync 0).fin else s

/-- RETRY_HOLD_EXPIRY. -/
def execRetryHoldExpiry (s : State) : Host.Outcome State Fault Refusal := .next (retryHoldExpiry s)

/-! ### Homing and swaps (R328, R329) -/

/-- A homing group's hold-off ends: its holder starts a swap of the group at a tick it chooses, 20 ticks ahead; a pending swap is waited for (R328). -/
def homingHoldOff (g : Nat) (s : State) : State :=
  match tget s.twin.claims g with
  | none => s
  | some c =>
    if s.twin.state = .primary ∧ c.held ∧ c.homeAt.any (fun t => decide (t ≤ s.clk)) ∧ s.twin.swap.isNone ∧ s.twin.peerState = some 3 then
      ((s.modClaim g (fun c => { c with homeAt := none })).modTwin (fun t => { t with swap := some { group := some g, tick := s.tick3 + 20, issuer := none } })).mirror (Config.configBytes 0x0C02)
    else s

/-- HOMING_HOLD_OFF. -/
def execHomingHoldOff (group : BitVec 6) (s : State) : Host.Outcome State Fault Refusal := .next (homingHoldOff group.toNat s)

/-- The takeover tick: the holder drops the named groups to 0x8, the peer raises them to 0xE (R329). -/
def swapTick (s : State) : State :=
  match s.twin.swap with
  | none => s
  | some w =>
    if w.dropped ∨ s.tick3 < w.tick then s
    else if s.twin.state = .primary then
      let gs := s.swapGroups w
      s.modTwin (fun t => { t with swap := some { w with dropped := true }, claims := tmap t.claims (fun g c => if gs.contains g && c.held then { c with yielding := true } else c) })
    else if s.twin.state = .standby then
      s.modTwin (fun t => { t with
        swap := some { w with dropped := true },
        claims := tmap t.claims (fun g c => if c.used && !c.held && (w.group.isNone || w.group == some g) then { c with taking := true } else c) })
    else s

/-- SWAP_TICK. -/
def execSwapTick (s : State) : Host.Outcome State Fault Refusal := .next (swapTick s)

/-- The canon switch of a failover or a swap of group 0, at the next stitch tick: the unit's own held ingress stamped at or after the last canon stamp less 20 µs, or in a swap at or after K, enters in stamp order, policing runs with full buckets, and the unit decides the seams that its own cells have confirmed (Table 12-8 steps 2 and 3, R329, 10 R261, 02 R62). -/
def failoverCanonSwitch (s : State) : State :=
  if !s.twin.switchDue then s
  else
    let from_ := s.twin.canonStamp - 20000
    let mine := s.twin.ingress.filter (fun x => match s.twin.switchFrom with | some k => decide (k ≤ (x.2.1 : Int)) | none => decide (from_ ≤ x.2.1))
    let s := s.modTwin (fun t => { t with switchDue := false, switchFrom := none, ingress := [], canonHeld := [], canonEnd := none, draws := [] })
    let s := s.model.legs.foldl (fun s p => s.fullBuckets p.1) s
    let s := (sortBy (fun (a b : Nat × Nat × RxFrame) => decide (a.2.1 ≤ b.2.1)) mine).foldl (fun s x => s.toLeg x.1 x.2.2.length x.2.2) s
    let ready := (s.seamsLive.filter (fun k => k.state == .confirming && s.beforeDeadline k && k.parts.all (fun p => p.confirmed))).map (·.id)
    let refused := s.seamsLive.filterMap (fun k => if k.state = .confirming then (k.parts.find? (fun p => p.refused.isSome)).map (fun p => (k.id, p)) else none)
    let s := ready.foldl (fun s id => s.commitSeam id) s
    (refused.foldl (fun s r => s.unpickSeam r.1 1 r.2.cell (r.2.refused.getD 0)) s).fin

/-- FAILOVER_CANON_SWITCH. -/
def execFailoverCanonSwitch (s : State) : Host.Outcome State Fault Refusal := .next (failoverCanonSwitch s)

/-! ### twin commands -/

/-- The settings of twin.config: ENABLE = 1 takes an ALONE unit to JOINING, ENABLE = 0 dissolves the pair (R304). -/
def doTwinConfig (enable singleSend : Bool) (resyncS retryHoldS : Nat) (s : State) : State :=
  let s := s.modTwin (fun t => { t with
    enabled := enable, singleSend, resyncS := if resyncS = 0 then 120 else resyncS, retryHoldS := if retryHoldS = 0 then 10 else retryHoldS })
  if enable then (if s.twin.state = .alone then (s.modTwin (fun t => { t with joinWins := 0 })).setTwin .joining 15 else s)
  else if s.twin.state = .primary then (s.setPeer none 15).setTwin .alone 15
  else if s.twin.state = .alone then s
  else (s.leaveSync 15)

/-- twin.config. -/
def rowTwinConfig (enable singleSend : Bool) (resyncS retryHoldS : U16) : Row where
  opcode := 0x0C00
  checks := fun _ _ => { fields := withinOr 0 10 900 resyncS.toNat && withinOr 0 1 600 retryHoldS.toNat, items := [.twin] }
  layout := fun _ => [(0, 0, 1, bit enable), (0, 1, 1, bit singleSend), (2, 0, 16, resyncS.toNat), (4, 0, 16, retryHoldS.toNat)]
  effect := fun _ s => (doTwinConfig enable singleSend resyncS.toNat retryHoldS.toNat s, Rep.ok)

/-- TWIN_CONFIG. -/
def execTwinConfig (m : Mbx) (enable singleSend : Bool) (resyncS retryHoldS : U16) (s : State) : Host.Outcome State Fault Refusal :=
  .next (s.run m (rowTwinConfig enable singleSend resyncS retryHoldS))

/-- The settings of a claim group (R321, R328). -/
def doTwinClaim (g : Nat) (homing homeSide : Bool) (holdOffS prefA prefB : Nat) (s : State) : State :=
  (s.modTwin (fun t => { t with claims := tput t.claims g { (tget t.claims g).getD {} with
    homing, homeSide, holdOffS := if holdOffS = 0 then 60 else holdOffS,
    prefA := if prefA = 0 then 0x800 else prefA, prefB := if prefB = 0 then 0x400 else prefB, homeAt := none } })).homeTimers

/-- twin.claim. -/
def rowTwinClaim (group : U8) (homing homeSide : Bool) (holdOffS : U16) (prefA prefB : BitVec 12) : Row where
  opcode := 0x0C01
  checks := fun _ s =>
    let others := (s.twin.claims.filter (fun p => p.2.homing && p.1 != group.toNat)).length
    { fields := decide (group.toNat ≤ 63) && withinOr 0 10 3600 holdOffS.toNat, items := [.claim group.toNat],
      rest := [need (!s.ks.policy.claimFixed.contains group.toNat) St.isProtected, need (!homing || decide (others < 8)) St.refused [8]] }
  layout := fun _ => [(0, 0, 8, group.toNat), (1, 0, 1, bit homing), (1, 1, 1, bit homeSide), (2, 0, 16, holdOffS.toNat), (4, 0, 12, prefA.toNat), (6, 0, 12, prefB.toNat)]
  effect := fun _ s => (doTwinClaim group.toNat homing homeSide holdOffS.toNat prefA.toNat prefB.toNat s, Rep.ok)

/-- TWIN_CLAIM. -/
def execTwinClaim (m : Mbx) (group : U8) (homing homeSide : Bool) (holdOffS : U16) (prefA prefB : BitVec 12) (s : State) : Host.Outcome State Fault Refusal :=
  .next (s.run m (rowTwinClaim group homing homeSide holdOffS prefA prefB))

/-- twin.swap (R329). -/
def rowTwinSwap (m : Mbx) (group : U8) (leadTicks : U16) : Row where
  opcode := 0x0C02
  checks := fun _ s =>
    let holds := if group = 0xFF then s.twin.claims.any (fun p => p.2.held) else (tget s.twin.claims group.toNat).any (·.held)
    { fields := (decide (group.toNat ≤ 63) || group == 0xFF) && withinOr 0 10 1000 leadTicks.toNat,
      busy := [need s.twin.swap.isNone St.busy],
      rest := [need (s.twin.state == .primary && s.twin.peerState == some 3 && holds) St.refused] }
  layout := fun _ => [(0, 0, 8, group.toNat), (2, 0, 16, leadTicks.toNat)]
  effect := fun c s =>
    (s.modTwin (fun t => { t with swap := some {
      group := if group = 0xFF then none else some group.toNat,
      tick := s.tick3 + (if leadTicks = 0 then 20 else leadTicks.toNat), issuer := some (m, c.seq) } }), Rep.pend)

/-- TWIN_SWAP. -/
def execTwinSwap (m : Mbx) (group : U8) (leadTicks : U16) (s : State) : Host.Outcome State Fault Refusal := .next (s.run m (rowTwinSwap m group leadTicks))

/-- twin.resync: the failure count is cleared and RESYNC starts at once (R325). -/
def rowTwinResync : Row where
  opcode := 0x0C03
  checks := fun _ s =>
    { busy := [need (s.twin.state != .resync) St.busy], rest := [need (s.twin.state == .outOfSync) St.refused] }
  effect := fun _ s => ((s.modTwin (fun t => { t with failedAt := [] })).startResync 15, Rep.ok)

/-- TWIN_RESYNC. -/
def execTwinResync (m : Mbx) (s : State) : Host.Outcome State Fault Refusal := .next (s.run m rowTwinResync)

/-- KS_HELD: bit g for each group this unit holds. -/
def State.heldMap (s : State) : Nat := total s.twin.claims (fun p => if p.2.held then 2 ^ p.1 else 0)

/-- twin.query. -/
def rowTwinQuery : Row where
  opcode := 0x0C04
  checks := fun _ _ => {}
  effect := fun _ s =>
    let t := s.twin
    (s, Rep.ok (le 1 (twinCode t.state) ++ le 1 (t.peerState.getD 255).toNat ++ le 1 t.version.toNat ++ le 1 t.cause.toNat ++
      le 1 ((if t.linkUp then t.laneMap.toNat else 0) + 16 * bit t.busOk + 32 * bit t.singleNow) ++ le 1 t.step ++ le 2 0 ++ le 8 s.heldMap ++ le 8 t.canon.toNat ++ le 4 t.lagUs ++
      leI 4 t.tbOffsetPs ++ le 4 t.failovers.toNat ++ le 4 t.resyncs.toNat ++ le 8 t.lastChange ++ le 4 t.peerFw.toNat ++ le 12 0))

/-- TWIN_QUERY. -/
def execTwinQuery (m : Mbx) (s : State) : Host.Outcome State Fault Refusal := .next (s.run m rowTwinQuery)

end Sys2Proof.Machine
end

