-- ==== Sys2Proof/Machine/Keep.lean ====
section
/-! DEFINITION. The Keeping region (13): journal groups and their commit, snapshot passes, mount, scrub and health, and the keep commands other than those of firmware images. -/

namespace Sys2Proof.Machine

open Sys2Proof

/-- A record as the running format reads it: a field that its format lacks reads as its default (R339, Table 13-4). -/
def Record.read (r : Record) : Record :=
  let r := if r.format < 2 then { r with lossP50 := 0, hostData := 0 } else r
  if r.format < 3 then { r with keyPolicy := 0, dtlsVersion := 0, suite := 0 } else r

namespace State

/-- Raise the keep event (13). -/
def keepEvent (s : State) (kind torn count : Nat) : State :=
  s.raise 0x0D80 St.ok (le 1 kind ++ le 1 s.keep.level.toNat ++ le 2 torn ++ le 4 count ++ le 8 s.keepTime)

/-! ### Health (R353) -/

/-- Mean and highest erase count, spares per mille and projected days of an area. -/
def wearOf (s : State) (k : Fin 3) : Nat × Nat × Nat × Nat := Config.wear k.val s.keep.nextGseq (s.keep.areas.get k).bad

/-- The level that wear gives: CRITICAL, WARN or OK (R353). -/
def wearLevel (s : State) : Nat :=
  let w := (List.finRange 3).map s.wearOf
  if w.any (fun x => decide (x.2.2.2 < 90) || x.2.2.1 == 0) then 2 else if w.any (fun x => decide (x.2.2.2 < 730) || decide (x.2.2.1 < 10)) then 1 else 0

/-- The health level now; a change raises LEVEL (R353). A level of STORE_FAULT stands. -/
def setLevel (s : State) (level : Nat) : State :=
  let l := if s.keep.level = 3 then 3 else level
  if s.keep.level.toNat = l then s else (s.modKeep (fun k => { k with level := BitVec.ofNat 8 l })).keepEvent 2 0 0

/-! ### Commit (R341, R342, R354) -/

/-- Records that waited for a SEQ_MARK take their numbers (R354). -/
def numberWaiting (s : State) : State :=
  let l := s.keep.logWait
  l.foldl (fun s f => s.writeFault f) (s.modKeep (fun k => { k with logWait := [] }))

/-- An entry takes effect in the store: the roster, the segment directory, the pattern table, the retired cells, the fault log (R341, R350 step 5). -/
def applyEntry (s : State) (gseq : Nat) (e : JEntry) : State :=
  match e.kind with
  | .put r rec => s.modKeep (fun k => { k with
      recs := tput k.recs r rec, dirtySegs := if k.dirtySegs.contains (r / 4096) then k.dirtySegs else k.dirtySegs ++ [r / 4096],
      older := match tget k.newest r with | some x => tput k.older r x | none => k.older, newest := tput k.newest r (gseq, rec) })
  | .clear r => s.modKeep (fun k => { k with
      recs := tdel k.recs r, dirtySegs := if k.dirtySegs.contains (r / 4096) then k.dirtySegs else k.dirtySegs ++ [r / 4096],
      older := tdel k.older r, newest := tdel k.newest r })
  | .fault f => s.modKeep (fun k => { k with log := (k.log ++ [f]).drop (k.log.length + 1 - 32768) })
  | .segment n loc => s.modKeep (fun k => { k with segLoc := tput k.segLoc n loc })
  | .checkpoint _ => s
  | .pattern gen arg => if arg = 1 then { s with patt := { s.patt with gens := tmod s.patt.gens gen (fun g => { g with proven := true }), proven := gen } } else s
  | .retire i => s.modKeep (fun k => { k with retired := if k.retired.contains i then k.retired else k.retired ++ [i] })
  | .park => s
  | .seqMark mark => (s.modKeep (fun k => { k with mark := max k.mark mark, ksMark := max k.ksMark mark, markDue := none })).numberWaiting

/-- The number a committed entry's command answers with. -/
def ackData (e : JEntry) : Bytes :=
  match e.kind with
  | .put r _ => le 4 r
  | .clear r => le 4 r
  | _ => []

/-- A group commits: its entries apply in order and the commands they complete are answered (R342). -/
def commitGroup (s : State) (g : JGroup) : State :=
  let s := s.modKeep (fun k => { k with groupTime := g.keepTime, parked := g.entries.any (fun (e : JEntry) => e.kind == .park) })
  g.entries.foldl (fun s e =>
    let s := s.applyEntry g.gseq e
    match e.ack with
    | some (m, n) => s.finish m n (Rep.ok (ackData e))
    | none => s) s

/-- Every group at the head of the queue that has been programmed commits, in GSEQ order (R342). -/
def commitReady (s : State) : Nat → State
  | 0 => s
  | n + 1 =>
    match s.keep.groups with
    | g :: rest => if g.programmed then ((s.modKeep (fun k => { k with groups := rest })).commitGroup g).commitReady n else s
    | [] => s

end State

/-- The open group closes 5 ms after its first entry (R342). -/
def journalGroupClose (s : State) : State :=
  if s.keep.open_ ≠ [] ∧ s.keep.openAt + 5 * State.ticksPerMs ≤ s.now then s.closeGroup else s

/-- JOURNAL_GROUP_CLOSE. -/
def execJournalGroupClose (s : State) : Host.Outcome State Fault Refusal := .next (journalGroupClose s)

/-- A closed group's program ends. On success it commits once every lower group has; a block that fails is retired and the group is programmed again, and a journal without spares is a STORE_FAULT (R333, R342, R353). -/
def groupProgramDone (gseq : Nat) (ok : Bool) (s : State) : State :=
  if !s.keep.groups.any (fun g => g.gseq == gseq && !g.programmed) then s
  else if ok then
    let s := s.modKeep (fun k => { k with
      groups := k.groups.map (fun g => if g.gseq = gseq then { g with programmed := true } else g),
      lastPage := (k.groups.filter (fun g => g.gseq == gseq)).foldl (fun t g => tput t g.die g.page) k.lastPage })
    (s.commitReady s.keep.groups.length).fin
  else
    let s := s.modKeep (fun k => { k with areas := k.areas.set 1 { bad := (k.areas.get 1).bad + 1 } })
    (s.setLevel (if (s.wearOf 1).2.2.1 = 0 then 3 else s.wearLevel)).fin

/-- GROUP_PROGRAM_DONE. -/
def execGroupProgramDone (gseq : Nat) (ok : Bool) (s : State) : Host.Outcome State Fault Refusal := .next (groupProgramDone gseq ok s)

/-! ### Snapshot passes (R345, R346) -/

namespace State

/-- A pass starts: it covers every segment changed since its last image, at the GSEQ below which every group has committed (R345). -/
def startPass (s : State) (for_ : Option (Mbx × Nat)) : State :=
  let start := match s.keep.groups with | g :: _ => g.gseq | [] => s.keep.nextGseq
  s.modKeep (fun k => { k with pass := some (start, k.dirtySegs, 0), dirtySegs := [], lastPass := s.keepTime, passFor := for_ })

end State

/-- A pass falls due: the span reaches 32 GiB, or 24 hours of KEEP_TIME have passed (R345). -/
def snapshotPassStart (s : State) : State :=
  if s.journalUp ∧ s.keep.pass.isNone ∧ (34359738368 ≤ s.keep.span ∨ s.keep.lastPass + 86400 ≤ s.keepTime) then s.startPass none else s

/-- SNAPSHOT_PASS_START. -/
def execSnapshotPassStart (s : State) : Host.Outcome State Fault Refusal := .next (snapshotPassStart s)

/-- A segment's new image is whole: its SEGMENT entry is journaled (R346). -/
def segmentImageDone (n : Nat) (loc : U32) (s : State) : State :=
  match s.keep.pass with
  | some (start, left, done) =>
    if left.contains n then (s.modKeep (fun k => { k with pass := some (start, left.filter (fun x => x != n), done + 1) })).journal { kind := .segment n loc } else s
  | none => s

/-- SEGMENT_IMAGE_DONE. -/
def execSegmentImageDone (segment : Nat) (location : U32) (s : State) : Host.Outcome State Fault Refusal := .next (segmentImageDone segment location s)

/-- A pass ends: the checkpoint is written to the copy not written last, and the journal blocks below the pass's start are freed (R346). A pass that fails frees nothing. -/
def snapshotPassEnd (ok : Bool) (s : State) : State :=
  match s.keep.pass with
  | none => s
  | some (start, left, done) =>
    if ok ∧ left ≠ [] then s
    else
      let kept := min s.keep.span ((s.keep.nextGseq - start) * 16384)
      let freed := if ok then (s.keep.span - kept) / 1048576 else 0
      let for_ := s.keep.passFor
      let s := s.modKeep (fun k => { k with pass := none, passFor := none })
      let s := if ok then
          (s.modKeep (fun k => { k with
            span := kept, ckptCopy := 1 - k.ckptCopy, ckptGseq := start,
            newest := k.newest.filter (fun p => decide (start ≤ p.2.1)), older := k.older.filter (fun p => decide (start ≤ p.2.1)) })).journal { kind := .checkpoint (1 - s.keep.ckptCopy) }
        else s.modKeep (fun k => { k with dirtySegs := k.dirtySegs ++ left.filter (fun x => !k.dirtySegs.contains x) })
      (match for_ with
        | some (m, n) => s.raiseDone m n 0x0D81 (if ok then St.ok else St.storeFault) (le 4 done ++ le 4 0 ++ le 8 start ++ le 4 freed)
        | none => s).fin

/-- SNAPSHOT_PASS_END. -/
def execSnapshotPassEnd (ok : Bool) (s : State) : Host.Outcome State Fault Refusal := .next (snapshotPassEnd ok s)

/-! ### Scrub (R352) -/

/-- The scrub or a read meets a codeword: one near its limit has its block refreshed; one that cannot be corrected costs the record, unless the journal holds an older copy, or damages the pattern generation, which a boot then passes over (02 R68), and a fault record is written (R352). A scrub that has read every block is followed by the next, which has SCRUB_DAYS. -/
def scrubRead (corrected : Nat) (soft : Bool) (reads : Nat) (uncorrectable : Bool) (record generation : Option Nat) (s : State) : State :=
  if !s.journalUp then s
  else
    let whole := decide (100 ≤ Config.scrubPct (s.keep.scrubbed + 1))
    let s := s.modKeep (fun k => { k with
      scrubbed := if whole then 0 else k.scrubbed + 1, scrubBy := if whole then s.keepTime + 86400 * k.scrubDays else k.scrubBy,
      refreshed := if k.refreshBits < corrected ∨ soft ∨ 200000 ≤ reads then k.refreshed + 1 else k.refreshed })
    if !uncorrectable then s
    else
      let s := match record with
        | none => s
        | some r =>
          if !thas s.keep.recs r ∨ (jFind r (s.keep.groups.flatMap (fun (g : JGroup) => g.entries) ++ s.keep.open_)).isSome then s
          else match tget s.keep.older r with
            | some x => s.modKeep (fun k => { k with recs := tput k.recs r x.2, newest := tput k.newest r x, older := tdel k.older r })
            | none => (s.modKeep (fun k => { k with recs := tdel k.recs r, newest := tdel k.newest r, lost := k.lost + 1 })).keepEvent 3 0 1
      let s := match generation with
        | some g => { s with patt := { s.patt with gens := tmod s.patt.gens g (fun x => { x with damaged := true }) } }
        | none => s
      let f := Config.storeFault s.draws
      let s := { s with draws := s.draws + 1 }
      (s.faultRec f.1 f.2.1 f.2.2.1 f.2.2.2.1 0xFFFF 0 f.2.2.2.2).fin

/-- SCRUB_READ. -/
def execScrubRead (corrected : Nat) (soft : Bool) (reads : Nat) (uncorrectable : Bool) (record : Option Nat) (s : State) (generation : Option Nat := none) : Host.Outcome State Fault Refusal :=
  .next (scrubRead corrected soft reads uncorrectable record generation s)

/-! ### Mount (R350) -/

/-- The attached store meets Table 13-1 (R332). -/
def State.storeOk (s : State) : Bool :=
  let n := s.keep.nand
  within 16 32 s.keep.dies && within 1024 4096 s.keep.gib && s.keep.dies % 2 == 0 && n.tlc && n.even && n.onePart && n.pageBytes == 16384 &&
    decide (2048 ≤ n.spareBytes) && decide (30000 ≤ n.slcCycles) && decide (3000 ≤ n.tlcCycles) && decide (n.slcProgramUs ≤ 200)

/-- Step 6: the journal accepts writes. The fault counter resumes at the higher of the two marks, the records that waited are journaled in order, and entries staged before a reset of the region alone are offered again (R350, R354). After a power-off the scrub reads every block within 24 hours (R352). A store that fails Table 13-1 is not used (R332). -/
def mountJournalReady (r : MountResult) (s : State) : State :=
  if s.keep.mount ≠ .reading then s
  else if !s.storeOk then ((s.modKeep (fun k => { k with mount := .unusable })).setLevel 3).fin
  else
    let held := s.keep.logHeld
    let poweredOff := s.boot.cause == 0 || s.boot.cause == 5 || s.boot.cause == 6
    let staged := s.keep.staged
    let s := s.modKeep (fun k => { k with
      mount := .ready, torn := r.torn, parked := r.parkTail, keepBase := s.now, keepTime := max k.keepTime k.groupTime,
      mark := max k.mark k.ksMark, markDue := none, logHeld := [], staged := [],
      scrubbed := if poweredOff then 0 else k.scrubbed, scrubBy := if poweredOff then max k.keepTime k.groupTime + 86400 else k.scrubBy })
    let s := if s.twin.state = .alone ∨ s.twin.state = .primary then s.newEpoch else s
    let s := held.foldl (fun s f => s.journal { kind := .fault f }) s
    let s := staged.foldl (fun s e => s.journal e) s
    let s := s.readyBit 1 true
    (s.keepEvent 0 r.torn 0).fin

/-- MOUNT_JOURNAL_READY. -/
def execMountJournalReady (result : MountResult) (s : State) : Host.Outcome State Fault Refusal := .next (mountJournalReady result s)

/-- Step 7: lookups are served by direct search (R350). -/
def mountSummariesLoaded (s : State) : State := if s.keep.mount = .ready then s.modKeep (fun k => { k with mount := .summaries }) else s

/-- MOUNT_SUMMARIES_LOADED. -/
def execMountSummariesLoaded (s : State) : Host.Outcome State Fault Refusal := .next (mountSummariesLoaded s)

/-- Step 8: the index is built (R350). -/
def mountIndexed (s : State) : State :=
  if s.keep.mount = .summaries then (((s.modKeep (fun k => { k with mount := .indexed })).readyBit 5 true).keepEvent 1 0 0).fin else s

/-- MOUNT_INDEXED. -/
def execMountIndexed (s : State) : Host.Outcome State Fault Refusal := .next (mountIndexed s)

/-! ### keep commands -/

/-- keep.lookup. -/
def rowKeepLookup (byRecord : U8) (record : U32) (key : U128) : Row where
  opcode := 0x0D00
  checks := fun _ s =>
    let hit := if byRecord = 1 then (s.recordSeen record.toNat).isSome else (s.findKey key).isSome
    { fields := decide (byRecord.toNat ≤ 1) && (byRecord != 1 || decide (record.toNat ≤ 33554431)) && (byRecord != 0 || key != 0),
      objects := if s.lookupUp then [need hit St.noObject] else [],
      busy := [need (s.noStore || s.lookupUp) St.busy],
      rest := [need (!s.noStore) St.storeFault] }
  layout := fun _ => [(0, 0, 8, byRecord.toNat), (4, 0, 32, record.toNat), (8, 0, 128, key.toNat)]
  effect := fun _ s =>
    let r := if byRecord = 1 then some record.toNat else s.findKey key
    match r, r.bind s.recordSeen with
    | some r, some x =>
      (s, Rep.ok (le 4 (bit (s.keep.mount == .summaries) + 2 * bit (thas s.keep.unwritten r)) ++ le 4 r ++ le 1 x.format ++ le 7 0 ++ recordBytes (Record.read x)))
    | _, _ => (s, Rep.fail St.noObject)

/-- KEEP_LOOKUP. -/
def execKeepLookup (m : Mbx) (byRecord : U8) (record : U32) (key : U128) (s : State) : Host.Outcome State Fault Refusal := .next (s.run m (rowKeepLookup byRecord record key))

/-- The record a keep.record names. -/
def State.recordOf (s : State) (q : RecordReq) : Option Nat :=
  if q.mode = 0 ∨ q.record = 0xFFFFFFFF then s.findKey q.endpointKey else if (s.recordSeen q.record.toNat).isSome then some q.record.toNat else none

/-- A record with the fields that keep.record sets; the reserved bits of DENY are taken as 0 (Table 13-5, 00 R6). -/
def Record.edit (r : Record) (q : RecordReq) : Record :=
  let r := if q.setDeny then { r with deny := q.deny &&& 0x3F } else r
  let r := if q.setPolicy then { r with keyPolicy := q.keyPolicy } else r
  let r := if q.setPin then { r with pinned := q.pinned } else r
  if q.setHost then { r with hostData := q.hostData } else r

/-- The record number and the content that keep.record writes; no content clears it. -/
def State.recordWrite (s : State) (q : RecordReq) : Option (Nat × Option Record) :=
  if q.mode = 0 then
    (s.newSlot q.endpointKey).map (fun r => (r, some (Record.edit { newRecord q.endpointKey s.keepTime with format := s.writeFormat 0 } q)))
  else
    (s.recordOf q).bind (fun r => (s.recordSeen r).map (fun x => (r, if q.mode = 2 then none else some (s.stamped (Record.edit x q)))))

/-- The write of keep.record is accepted at a seam's T; at the cap it is held (04 R112, 13 keep.record). -/
def applyKeepRecord (seam : U16) (r : Nat) (s : State) : State :=
  match s.keep.basted.find? (fun b => b.1 == seam && b.2.1 == r) with
  | none => s
  | some b =>
    let s := s.modKeep (fun k => { k with basted := k.basted.filter (fun x => !(x.1 == seam && x.2.1 == r)) })
    if s.rosterRoom 288 = St.ok then
      (s.modKeep (fun k => { k with unwritten := tdel k.unwritten r })).journalRoster (match b.2.2 with | some x => .put r x | none => .clear r)
    else s.modKeep (fun k => { k with unwritten := tput k.unwritten r b.2.2 })

/-- keep.record (R336, R341). Basted, its write stands in `keep.basted` until T, and the seam keeps the record number. -/
def rowKeepRecord (m : Mbx) (q : RecordReq) : Row where
  opcode := 0x0D01
  checks := fun c s =>
    let users := (s.recordOf q).elim 0 s.usersOf
    { fields := decide (q.mode.toNat ≤ 2) && (q.mode == 0 || q.record == 0xFFFFFFFF || decide (q.record.toNat ≤ 33554431)) &&
        (!(q.mode == 0 || q.record == 0xFFFFFFFF) || q.endpointKey != 0),
      objects := [need (q.mode == 0 || !s.lookupUp || (s.recordOf q).isSome) St.noObject,
                  need (!q.setPolicy || decide (q.keyPolicy.toNat < s.ks.policy.keyPolicies.length)) St.badField],
      items := (((s.recordOf q).orElse (fun _ => (s.recordWrite q).map (·.1))).map Item.record).toList,
      busy := [need (s.noStore || s.lookupUp) St.busy, need (c.hdr.seam != 0xFFFF || s.rosterRoom 288 != St.busy) St.busy],
      rest := [need (!q.setPolicy || s.permits m 3) St.isProtected],
      last := [need (!s.noStore && s.keep.level != 3) St.storeFault,
               need (q.mode != 2 || users == 0) St.refused [users],
               need (q.mode != 0 || (s.recordOf q).isNone) St.refused [(s.recordOf q).getD 0],
               need ((s.recordWrite q).isSome && (c.hdr.seam != 0xFFFF || s.rosterRoom 288 != St.storeFull)) St.storeFull] }
  layout := fun _ => [(0, 0, 8, q.mode.toNat), (1, 0, 1, bit q.setDeny), (1, 1, 1, bit q.setPolicy), (1, 2, 1, bit q.setPin), (1, 3, 1, bit q.setHost), (4, 0, 32, q.record.toNat),
    (8, 0, 128, q.endpointKey.toNat), (0x18, 0, 6, q.deny.toNat), (0x1C, 0, 16, q.keyPolicy.toNat), (0x1E, 0, 1, bit q.pinned), (0x20, 0, 512, q.hostData.toNat)]
  effect := fun c s =>
    match s.recordWrite q with
    | none => (s, Rep.fail St.storeFull)
    | some (r, x) =>
      ((s.modKeep (fun k => { k with unwritten := tdel k.unwritten r })).journalRoster (match x with | some x => .put r x | none => .clear r) (some (m, c.seq)), Rep.goesOn)
  baste := fun c s =>
    match s.recordWrite q with
    | none => (s, Rep.fail St.storeFull, none)
    | some (r, x) =>
      (s.modKeep (fun k => { k with basted := k.basted.filter (fun b => !(b.1 == c.hdr.seam && b.2.1 == r)) ++ [(c.hdr.seam, r, x)] }), Rep.ok (le 4 r), some (.rosterDeferredWrite r, r))

/-- KEEP_RECORD. -/
def execKeepRecord (m : Mbx) (req : RecordReq) (s : State) : Host.Outcome State Fault Refusal := .next (s.run m (rowKeepRecord m req))

/-- keep.health. -/
def rowKeepHealth : Row where
  opcode := 0x0D02
  checks := fun _ _ => {}
  effect := fun _ s =>
    let area (k : Fin 3) : Bytes :=
      let w := s.wearOf k
      let n := (s.keep.areas.get k).bad
      le 4 w.1 ++ le 4 w.2.1 ++ le 2 w.2.2.1 ++ le 2 n ++ le 4 (if w.1 = 0 ∧ w.2.1 = 0 then 0xFFFFFFFF else w.2.2.2)
    (s, Rep.ok (le 1 s.keep.level.toNat ++ le 1 s.keep.dies ++ le 2 s.keep.gib ++ le 4 s.keep.recs.length ++ le 4 s.keep.lost.toNat ++ le 4 s.dirtyBytes ++
      le 4 (s.keep.span / 1048576) ++ le 2 (min 100 (Config.scrubPct s.keep.scrubbed)) ++ le 2 s.keep.torn ++ area 0 ++ area 1 ++ area 2 ++ le 8 s.keepTime ++ le 16 0))

/-- KEEP_HEALTH. -/
def execKeepHealth (m : Mbx) (s : State) : Host.Outcome State Fault Refusal := .next (s.run m rowKeepHealth)

/-- keep.faults. -/
def rowKeepFaults (first count : U32) : Row where
  opcode := 0x0D03
  checks := fun _ s =>
    let kept := s.keep.log.head?.any (fun f => decide (f.seq ≤ first.toNat)) && s.keep.log.getLast?.any (fun f => decide (first.toNat ≤ f.seq))
    { fields := within 1 1024 count.toNat, objects := [need kept St.noObject] }
  layout := fun _ => [(0, 0, 32, first.toNat), (4, 0, 32, count.toNat)]
  effect := fun _ s =>
    let l := (s.keep.log.filter (fun f => decide (first.toNat ≤ f.seq))).take count.toNat
    (s, Rep.ok (le 4 l.length ++ le 4 0 ++ l.flatMap faultBytes))

/-- KEEP_FAULTS. -/
def execKeepFaults (m : Mbx) (first : U32) (count : U32) (s : State) : Host.Outcome State Fault Refusal := .next (s.run m (rowKeepFaults first count))

/-- keep.snapshot (R345). -/
def rowKeepSnapshot (m : Mbx) : Row where
  opcode := 0x0D04
  checks := fun _ s =>
    { busy := [need s.keep.pass.isNone St.busy, need (s.noStore || s.journalUp) St.busy], rest := [need (!s.noStore && s.keep.level != 3) St.storeFault] }
  effect := fun c s => (s.startPass (some (m, c.seq)), Rep.pend)

/-- KEEP_SNAPSHOT. -/
def execKeepSnapshot (m : Mbx) (s : State) : Host.Outcome State Fault Refusal := .next (s.run m (rowKeepSnapshot m))

/-- The settings of keep.config (R336, R352). -/
def doKeepConfig (retainDays scrubDays refreshBits : Nat) (s : State) : State :=
  s.modKeep (fun k => { k with
    retainDays := if retainDays = 65535 then k.retainDays else retainDays,
    scrubDays := if scrubDays = 0 then k.scrubDays else scrubDays, refreshBits := if refreshBits = 0 then k.refreshBits else refreshBits })

/-- keep.config. -/
def rowKeepConfig (retainDays scrubDays refreshBits : U16) : Row where
  opcode := 0x0D05
  checks := fun _ _ =>
    { fields := (retainDays == 0xFFFF || decide (retainDays.toNat ≤ 3650)) && withinOr 0 7 90 scrubDays.toNat && withinOr 0 8 96 refreshBits.toNat, items := [.keepCfg] }
  layout := fun _ => [(0, 0, 16, retainDays.toNat), (2, 0, 16, scrubDays.toNat), (4, 0, 16, refreshBits.toNat)]
  effect := fun _ s => (doKeepConfig retainDays.toNat scrubDays.toNat refreshBits.toNat s, Rep.ok)

/-- KEEP_CONFIG. -/
def execKeepConfig (m : Mbx) (retainDays scrubDays refreshBits : U16) (s : State) : Host.Outcome State Fault Refusal :=
  .next (s.run m (rowKeepConfig retainDays scrubDays refreshBits))

/-- keep.format: the erase begins; STORE_FORMAT_DONE ends it and resets the device. -/
def rowKeepFormat (m : Mbx) (confirm : U32) : Row where
  opcode := 0x0D06
  checks := fun _ s =>
    { fields := confirm == 0x464F524D, busy := [need s.keep.formatFor.isNone St.busy],
      rest := [need (m == 0 || m == 16) St.isProtected, need (s.twin.state == .alone) St.refused] }
  layout := fun _ => [(0, 0, 32, confirm.toNat)]
  effect := fun c s => (s.modKeep (fun k => { k with formatFor := some (m, c.seq) }), Rep.goesOn)

/-- KEEP_FORMAT. -/
def execKeepFormat (m : Mbx) (confirm : U32) (s : State) : Host.Outcome State Fault Refusal := .next (s.run m (rowKeepFormat m confirm))

end Sys2Proof.Machine
end

