-- ==== Sys2Proof/Machine/Disp.lean ====
section
/-! DEFINITION. Task dispatch and DSP cell kernels (14): tasks and their flags, the stitch tick, deficit round robin, the trace ring, the arithmetic of a DSP cell, and the kernel and trace commands. -/

namespace Sys2Proof.Machine

open Sys2Proof

/-! ### Tasks (R357 to R360) -/

/-- Flag bits of Table 14-2. -/
def flagInput0 : U32 := 0x1
def flagTick : U32 := 0x100
def flagWindow : U32 := 0x200
def flagJoin : U32 := 0x400
def flagSwap : U32 := 0x800
def flagFw : U32 := 0xFF000000

/-- Place of a kind in Table 14-1. -/
def kindNo : TaskKind → Nat
  | .receive => 0 | .chain => 1 | .mix => 2 | .encode => 3 | .select => 4 | .service => 5

/-- Group of a kind (Table 14-1); a CHAIN task's kernel may give it another. -/
def kindGroup : TaskKind → Nat
  | .receive => 1 | .chain => 2 | .mix => 0 | .encode => 0 | .select => 3 | .service => 4

/-- ALL_MASK of a kind (Table 14-1). -/
def kindAll : TaskKind → U32
  | .receive => flagTick | .chain => flagTick ||| flagInput0 | .mix => flagTick ||| flagJoin | .encode => flagJoin | .select => flagWindow | .service => 0

/-- ANY_MASK of a kind (Table 14-1). -/
def kindAny : TaskKind → U32
  | .service => flagFw
  | _ => 0

/-- The flags meet R359. -/
def Task.ready (t : Task) : Bool := (t.flags &&& t.allMask) == t.allMask && (t.anyMask == 0 || (t.flags &&& t.anyMask) != 0)

namespace State

/-- Change the dispatcher's state. -/
def modDisp (s : State) (f : Disp → Disp) : State := { s with disp := f s.disp }
/-- Change a task. -/
def modTask (s : State) (t : Nat) (f : Task → Task) : State := s.modDisp (fun d => { d with tasks := tmod d.tasks t f })
/-- A Sound block's hand-out state. -/
def dispBlock (s : State) (b : Nat) : DispBlock := (tget s.disp.blocks b).getD {}
/-- Change a Sound block's hand-out state. -/
def modDispBlock (s : State) (b : Nat) (f : DispBlock → DispBlock) : State := s.modDisp (fun d => { d with blocks := tput d.blocks b (f ((tget d.blocks b).getD {})) })
/-- A DSP cell. -/
def dsp (s : State) (c : U16) : Dsp := (tget s.disp.cells c.toNat).getD {}
/-- Change a DSP cell. -/
def modDsp (s : State) (c : U16) (f : Dsp → Dsp) : State := s.modDisp (fun d => { d with cells := tput d.cells c.toNat (f ((tget d.cells c.toNat).getD {})) })

/-- The conference a task works for. -/
def taskConf (s : State) (t : Task) : Option Nat :=
  match t.kind with
  | .receive | .chain | .encode => some (s.confOfLeg t.object)
  | .mix => some (s.confOfMix t.object)
  | .select => some t.object
  | .service => none

/-! ### Trace (R368, R369) -/

/-- Records a ring holds. -/
def ringSize (q : TraceReq) : Nat := 2 ^ q.ringLog2.toNat / 16

/-- Put a record into the ring: a full WRAP ring loses its oldest; a full STOP ring takes none, counts it and raises FULL once (R369). -/
def tracePut (s : State) (q : TraceReq) (r : TraceRec) : State :=
  if q.stop ∧ ringSize q ≤ s.disp.ring.length then
    let s' := s.modDisp (fun d => { d with dropped := d.dropped + 1, full := true })
    if s.disp.full then s' else s'.raise 0x1180 St.ok (le 8 s.disp.next)
  else s.modDisp (fun d => { d with ring := (d.ring ++ [r]).drop (d.ring.length + 1 - ringSize q), next := d.next + 1 })

/-- Write a trace record, if trace is on and the record passes the filters (R368). One that the dispatcher cannot write as fast is dropped; the next one it can write comes behind a LOST record of how many were (R369). -/
def traceRec (s : State) (cell : U16) (task group reason detail : Nat) : State :=
  match s.disp.trace with
  | none => s
  | some q =>
    let pass := q.reasonMask.getLsbD reason && q.groupMask.getLsbD group && (q.cell == 0xFFFF || q.cell == cell) && within q.taskFirst.toNat q.taskLast.toNat task &&
      (!(reason == 1 || reason == 2) || task % 2 ^ q.sample.toNat == 0)
    if !q.enable ∨ !pass then s
    else if Config.traceLags s.disp.tries then s.modDisp (fun d => { d with tries := d.tries + 1, dropped := d.dropped + 1, lost := d.lost + 1 })
    else
      let r : TraceRec := { timeNs := s.chipSub, timeS := s.chipS % 65536, cell, task, group, reason, detail }
      let n := s.disp.lost
      let s := s.modDisp (fun d => { d with tries := d.tries + 1, lost := 0 })
      (if n = 0 then s else s.tracePut q { r with cell := 0xFFFF, task := 0, group := 0, reason := 10, detail := n }).tracePut q r

/-! ### Creation and deletion of a conference's tasks (R357, R360) -/

/-- The first Sound block in service from the one Pier gives an object (01 R23, R367). -/
def homeBlock (s : State) (k : TaskKind) (object : Nat) : Nat :=
  let b := Config.taskBlock (kindNo k) object % 32
  let inService (b : Nat) : Bool := !s.blockOut (blockIsland 0 b) && decide ((s.outCells 0 b).length < 16)
  ((List.range 32).map (fun k => (b + k) % 32)).find? inService |>.getD b

/-- Weight of a group: firmware's for 0 to 7, the kernel's for 8 to 15 (R362, R376). -/
def groupWeight (s : State) (g : Nat) : Nat :=
  if h : g < 8 then s.disp.weights[g]
  else match s.disp.kernels.find? (fun p => p.2.req.group.toNat == g) with
    | some p => if p.2.req.weight = 0 then 1 else p.2.req.weight.toNat
    | none => 1

/-- Group of a CHAIN task: that of the kernel its chain names, where it has one of 8 to 15 (R376). -/
def chainGroup (s : State) (l : Nat) : Nat :=
  match tget s.disp.kernels (s.kernelOf l false).toNat with
  | some k => if 8 ≤ k.req.group.toNat then k.req.group.toNat else 2
  | none => 2

/-- The legs whose audio is encoded for them: one of each profile among the listeners of a mix, and each with an encode of its own (05 R139, R140, R147). -/
def encodeLegs (s : State) (c : Nat) : List Nat :=
  let l := (s.legsOf c).filterMap (fun p => match (tget s.snd.legs p.1), LegOffer.audioProfile p.2.offer with
    | some d, some a => if p.2.state = .basted then none else some (p.1, d, a)
    | _, _ => none)
  let shared := l.filter (fun x => !x.2.1.minus && x.2.1.own.isNone)
  let first := shared.filter (fun x => !shared.any (fun y => decide (y.1 < x.1) && y.2.1.listen == x.2.1.listen && y.2.2 == x.2.2))
  (l.filter (fun x => x.2.1.minus || x.2.1.own.isSome)).map (·.1) ++ first.map (·.1)

/-- The tasks a conference needs (Table 14-1). -/
def wantedTasks (s : State) (c : Nat) : List (TaskKind × Nat) :=
  let talk := (s.snd.legs.filter (fun p => s.talker p.1 && s.confOfLeg p.1 == c)).map (·.1)
  let mixes := (s.snd.mixes.filter (fun p => p.2.conf == c && p.2.basted.isNone)).map (·.1)
  talk.map (fun l => (.receive, l)) ++
  (talk.filter (fun l => (tget s.snd.legs l).any (·.decoded))).map (fun l => (.chain, l)) ++
  mixes.map (fun x => (.mix, x)) ++ (s.encodeLegs c).map (fun l => (.encode, l)) ++ [(.select, c)]

/-- The lowest free task number. -/
def freeTask (s : State) : Nat := (lowest (fun n => !thas s.disp.tasks n) 0 262144).getD 0

/-- Create a task (R357). -/
def makeTask (s : State) (k : TaskKind) (object : Nat) : State :=
  let t : Task := { kind := k, object, block := if k = .service then object else s.homeBlock k object,
                    group := if k = .chain then s.chainGroup object else kindGroup k, allMask := kindAll k, anyMask := kindAny k, est := Config.nominalEst (kindNo k) }
  s.modDisp (fun d => { d with tasks := tput d.tasks s.freeTask t })

/-- A held leg's RECEIVE and CHAIN tasks are parked, and resumed with it (R360, 04 R113). Table 14-3 names the way from READY; a task that is WAITING when its leg is held is parked too (DEDUCED, log 26). -/
def parkTask (s : State) (n : Nat) (t : Task) : State :=
  let held := (t.kind == .receive || t.kind == .chain) && (s.legLive t.object).any (fun q => q.state == .held)
  if held ∧ (t.state = .waiting ∨ t.state = .ready) then (s.modTask n (fun t => { t with state := .parked })).traceRec 0xFFFF n t.group 8 0
  else if !held ∧ t.state = .parked then (s.modTask n (fun t => { t with state := .waiting })).traceRec 0xFFFF n t.group 9 0
  else s

/-- Pier firmware sets the weights of groups 0 to 7 from the admitted load, each its share of the tasks that admission has made (R362; the measure is the model's, log 26). -/
def reweigh (s : State) : State :=
  let n (g : Nat) : Nat := (s.disp.tasks.filter (fun p => p.2.group == g)).length
  s.modDisp (fun d => { d with weights := Vector.ofFn (fun g => max 1 (255 * n g.val / max 1 d.tasks.length)) })

/-- Pier firmware brings a conference's tasks up to date with its objects: missing ones are created, those without an object are deleted (at the end of a run in progress), and a block's housekeeping task exists. -/
def syncTasks (s : State) (c : Nat) : State :=
  let want := s.wantedTasks c
  let mine := s.disp.tasks.filter (fun p => s.taskConf p.2 == some c && !p.2.deleted)
  let s := (mine.filter (fun p => !want.any (fun w => w.1 == p.2.kind && w.2 == p.2.object))).foldl (fun s p =>
    if p.2.state = .running then s.modTask p.1 (fun t => { t with deleted := true }) else s.modDisp (fun d => { d with tasks := tdel d.tasks p.1 })) s
  let s := (want.filter (fun w => !mine.any (fun p => w.1 == p.2.kind && w.2 == p.2.object))).foldl (fun s w => s.makeTask w.1 w.2) s
  let s := (List.range 32).foldl (fun s b => if s.disp.tasks.any (fun p => p.2.kind == .service && p.2.object == b) then s else s.makeTask .service b) s
  let mine := s.disp.tasks.filter (fun p => s.taskConf p.2 == some c)
  mine.foldl (fun s p =>
    let s := if p.2.kind = .chain then s.modTask p.1 (fun t => { t with group := s.chainGroup t.object }) else s
    s.parkTask p.1 p.2) s.reweigh

/-- Set flags of a task and test it (R358, R359). -/
def setFlags (s : State) (n : Nat) (f : U32) : State :=
  s.modTask n (fun t =>
    let t := { t with flags := t.flags ||| f }
    if t.state = .waiting ∧ Task.ready t then { t with state := .ready, readyAt := s.chipNs } else t)

/-- The producer tasks of a task: a MIX waits for the CHAIN tasks of its inputs, an ENCODE for the MIX its leg listens to (R358, Table 14-1). -/
def producers (s : State) (t : Task) : List Nat :=
  match t.kind with
  | .mix =>
    let ins := (tget s.snd.mixes t.object).elim [] (fun x => x.inputs.map (·.1))
    (s.disp.tasks.filter (fun p => p.2.kind == .chain && ins.contains p.2.object)).map (·.1)
  | .encode =>
    let x := (tget s.snd.legs t.object).elim 0 (·.listen)
    (s.disp.tasks.filter (fun p => p.2.kind == .mix && p.2.object == x)).map (·.1)
  | _ => []

/-- Every producer of a task has ended its run for the conference's current tick (R358, JOIN). -/
def joined (s : State) (t : Task) : Bool :=
  let now := ((s.taskConf t).bind (fun c => tget s.snd.ticks c)).elim 0 (· + 1)
  (s.producers t).all (fun p => (tget s.disp.tasks p).all (fun q => q.state == .parked || decide (now ≤ q.ended)))

/-- Set JOIN on the MIX and ENCODE tasks of a conference whose producers have ended. -/
def joinTasks (s : State) (c : Nat) : State :=
  let now := (tget s.snd.ticks c).elim 0 (· + 1)
  (s.disp.tasks.filter (fun p => (p.2.kind == .mix || p.2.kind == .encode) && s.taskConf p.2 == some c && decide (p.2.ended < now))).foldl (fun s p =>
    if s.joined p.2 then s.setFlags p.1 flagJoin else s) s

/-! ### The stitch tick (R358, R361, R367) -/

/-- The signal that a sound task gives, as the decision records name it (05 R130, 12 R313). SELECT and SERVICE tasks give none. -/
def signalOf (t : Task) : Option LocalEvent :=
  match t.kind with
  | .receive | .chain => some (.leg t.object)
  | .mix => some (.mix t.object)
  | .encode => some (.encode t.object)
  | .select | .service => none

/-- The running tick's 48 samples of a signal are missing: they are replaced (05 R130). A snag is its consumer's own. -/
def missed (s : State) (e : LocalEvent) : State :=
  match e with
  | .leg l => s.modLegSnd l (fun d => { d with missed := true })
  | .mix x => s.modMix x (fun q => { q with missed := true })
  | .encode l => s.modLegSnd l (fun d => { d with encLate := true })
  | .snag _ _ | .poison _ => s

/-- A task misses its tick: its signal is replaced under 05 R130. The primary decides it, and its next decision record names it; a standby applies the primary's events, and one that the primary's record of the tick does not name costs it its synchronisation (01 R12, 12 R313, R315). -/
def missSignal (s : State) (t : Task) : State :=
  match signalOf t with
  | none => s
  | some e =>
    if s.twin.state = .standby then (if s.twin.events.contains e then s else s.leaveSync 3)
    else
      let s := s.missed e
      if s.twin.state = .primary then s.modTwin (fun w => { w with events := w.events ++ [e] }) else s

/-- A new tick finds a task that has not run for the previous one: READY, its earlier run is dropped with a LATE record; RUNNING, the record follows at its end (R361). An ENCODE task, which no TICK drives, misses its tick in the same way, with no record (05 R130). -/
def lateTask (s : State) (n : Nat) (t : Task) : State :=
  if t.allMask &&& flagTick = 0 then (if t.kind = .encode ∧ (t.state = .ready ∨ t.state = .running) then s.missSignal t else s)
  else if t.state = .ready then
    let s := (s.traceRec 0xFFFF n t.group 3 1).modDispBlock t.block (fun b => { b with late := b.late.set! t.group ((b.late[t.group]?).getD 0 + 1) })
    s.missSignal t
  else if t.state = .running then (s.modTask n (fun t => { t with late := t.late + 1 })).missSignal t
  else s

/-- Healthy cells of a Sound block that can run tasks. -/
def soundCells (s : State) (b : Nat) : Nat := if s.blockOut (blockIsland 0 b) then 0 else 16 - (s.outCells 0 b).length

/-- Tasks of a Sound block. -/
def blockTasks (s : State) (b : Nat) : Nat := (s.disp.tasks.filter (fun p => p.2.block == b && p.2.kind != .service)).length

/-- The block that a task of a block with cells out moves to: of those that would still have fewer tasks to a healthy cell, the one with the fewest, the lowest number on a tie (01 R21; the measure and the tie are the model's, log 12). -/
def lighterBlock (s : State) (b : Nat) : Option Nat :=
  let less (n c n' c' : Nat) : Bool := decide (n * c' < n' * c)
  let here := (s.blockTasks b, s.soundCells b)
  let fits := (List.range 32).filter (fun k => k != b && s.soundCells k != 0 && less (s.blockTasks k + 1) (s.soundCells k) here.1 here.2)
  fits.foldl (fun best k => match best with
    | none => some k
    | some j => if less (s.blockTasks k) (s.soundCells k) (s.blockTasks j) (s.soundCells j) then some k else some j) none

/-- The dispatcher rebalances tasks across the Sound blocks, between runs: those of a block without a healthy cell move, and those of a block with some cells out where that evens the load (R367, 01 R21). -/
def rebalance (s : State) (n : Nat) (t : Task) : State :=
  let cells := s.soundCells t.block
  if cells = 16 ∨ t.state = .running ∨ t.kind = .service then s
  else
    let b := if cells = 0 then s.homeBlock t.kind t.object else (s.lighterBlock t.block).getD t.block
    if b = t.block then s else (s.modTask n (fun t => { t with block := b })).traceRec (blockIsland 0 t.block) n t.group 7 b

/-- What the kernel calls of a conference's delivered tick at m report: the most cycles used; a fault is counted, traced and told (R377). -/
def kernelsTold (s : State) (c m : Nat) : State :=
  (s.snd.legs.filter (fun p => (p.2.kUsed != 0 || p.2.kFault.isSome) && s.confOfLeg p.1 == c)).foldl (fun s p =>
    let k := p.2.chain.kernel.toNat
    let s := s.modLegSnd p.1 (fun d => { d with kUsed := 0, kFault := none })
    let s := s.modDisp (fun d => { d with kernels := tmod d.kernels k (fun x => { x with maxUsed := max x.maxUsed p.2.kUsed, faults := if p.2.kFault.isSome then x.faults + 1 else x.faults }) })
    match p.2.kFault with
    | none => s
    | some f =>
      let s := match s.disp.tasks.find? (fun t => t.2.kind == .chain && t.2.object == p.1) with
        | some t => s.traceRec t.2.ranOn t.1 t.2.group 5 f.1.toNat
        | none => s
      s.raise 0x1380 St.fault (le 2 p.1 ++ le 1 k ++ le 1 f.1.toNat ++ le 2 f.2.toNat ++ le 2 0 ++ le 8 m)) s

end State

/-- A stitch tick of a conference (R358). The samples of the tick before are delivered, those of late tasks replaced (05 R130); then the new tick begins: tasks follow the objects, TICK, SWAP and WINDOW are set. A standby runs a tick only once the primary's record of it has arrived (12 R313). -/
def stitchTick (c : Nat) (s : State) : State :=
  match tget s.model.confs c with
  | none => s
  | some q =>
    let k := s.media c / 48
    let waits := (s.twin.state == .standby || s.twin.state == .resync) && !s.twin.canonEnd.any (fun r => decide (s.tick3 ≤ r.1 + 1))
    if q.origin.isNone ∨ q.basted.isSome ∨ waits ∨ (tget s.snd.ticks c).any (fun p => decide (k ≤ p)) then s
    else
      let mine (s : State) := s.disp.tasks.filter (fun p => s.taskConf p.2 == some c)
      let s := (mine s).foldl (fun s p => s.lateTask p.1 p.2) s
      let s := match tget s.snd.ticks c with | some p => (s.stitchSound c (48 * p)).kernelsTold c (48 * p) | none => s
      let s := (s.modSnd (fun d => { d with ticks := tput d.ticks c k })).syncTasks c
      let s := (mine s).foldl (fun s p => s.rebalance p.1 p.2) s
      let s := (mine s).foldl (fun s p =>
        let swap := if p.2.kind = .chain ∧ (tget s.snd.legs p.2.object).any (fun d => d.chainNext.any (fun q => decide (q.1 ≤ 48 * k))) then flagSwap else 0
        let f := (if p.2.allMask &&& flagTick ≠ 0 then flagTick else 0) ||| swap ||| (if p.2.kind = .select ∧ k % 10 = 0 then flagWindow else 0)
        s.setFlags p.1 f) s
      let s := (s.joinTasks c).modTwin (fun t => { t with singleNow := t.singleSend, events := if t.state = .standby then t.events else [] })
      (s.mirror (Config.configBytes 0x10007)).fin

/-- STITCH_TICK. -/
def execStitchTick (conf : Nat) (s : State) : Host.Outcome State Fault Refusal := .next (stitchTick conf s)

/-! ### Hand-out (R362 to R364) -/

/-- The deficit round robin of R363 over the heads of a block's ready queues, from its persistent PTR, FRESH and DEFICIT. -/
def drr (head : Nat → Option (Nat × Nat)) (weight : Nat → Nat) : Nat → DispBlock → DispBlock × Option Nat
  | 0, b => (b, none)
  | n + 1, b =>
    let g := b.ptr % 16
    match head g with
    | none => drr head weight n { b with deficit := b.deficit.set! g 0, ptr := (g + 1) % 16, fresh := true }
    | some (t, est) =>
      let d := (b.deficit[g]?).getD 0 + (if b.fresh then 1024 * (weight g : Int) else 0)
      if 0 < d then ({ b with deficit := b.deficit.set! g (d - est), fresh := false }, some t)
      else drr head weight n { b with deficit := b.deficit.set! g d, ptr := (g + 1) % 16, fresh := true }

/-- Turns of the loop that surely reach a hand-out: each round adds at least 1,024 to a group's deficit. -/
def drrTurns (b : DispBlock) : Nat := 16 * (b.deficit.toList.foldl (fun acc d => max acc ((-d).toNat / 1024 + 3)) 3)

/-- A kernel's entry registers (R374). -/
def kernelEntry (param media leg const_ : Nat) : Dsp :=
  { d := (((Vector.replicate 16 0).set 0 (BitVec.ofNat 32 param)).set 1 (BitVec.ofNat 32 media)).set 2 (BitVec.ofNat 32 leg),
    p := (((Vector.replicate 8 0).set 0 0x1E400).set 1 0x1E000).set 2 (BitVec.ofNat 20 const_) |>.set 3 0x1C000 }

namespace State

/-- The head of a block's ready queue of a group: the task READY longest, ties to the lower number (R362). -/
def readyHead (s : State) (b g : Nat) : Option (Nat × Nat) :=
  ((sortBy (fun (x y : Nat × Task) => decide (x.2.readyAt < y.2.readyAt) || (x.2.readyAt == y.2.readyAt && decide (x.1 ≤ y.1)))
    (s.disp.tasks.filter (fun p => p.2.block == b && p.2.group == g && p.2.state == .ready))).head?).map (fun p => (p.1, p.2.est))

/-- Hand a task to a cell: its flags of ALL_MASK and ANY_MASK are cleared in one step; the cell runs it, or holds it as its one task ahead (R359, R364). A CHAIN task whose chain names a kernel leaves the kernel's entry registers in the cell (R374). -/
def handOut (s : State) (cell : U16) (n : Nat) : State :=
  match tget s.disp.tasks n with
  | none => s
  | some t =>
    let s := s.traceRec cell n t.group 1 t.flags.toNat
    let s := s.modTask n (fun t => { t with state := .running, cell, ranOn := cell, flags := t.flags &&& ~~~ (t.allMask ||| t.anyMask) })
    let s := s.modDispBlock t.block (fun b => { b with handouts := b.handouts.set! t.group ((b.handouts[t.group]?).getD 0 + 1), blocked := b.blocked.filter (fun c => c != cell) })
    let k := s.kernelOf t.object false
    let s := if t.kind = .chain ∧ thas s.disp.kernels k.toNat then
        let e := kernelEntry ((tget s.snd.legs t.object).elim 0 (fun d => d.chain.param.toNat)) (48 * ((tget s.snd.ticks (s.confOfLeg t.object)).getD 0)) t.object (s.constAt k.toNat)
        s.modDsp cell (fun x => { e with running := x.running, prefetched := x.prefetched })
      else s
    s.modDsp cell (fun x => if x.running.isNone then { x with running := some n } else { x with prefetched := some n })

/-- Serve a GET of a cell: a hand-out, or the cell stays blocked (R363). -/
def serveGet (s : State) (cell : U16) : State :=
  let b := blockNo cell
  if !s.disp.tasks.any (fun p => p.2.block == b && p.2.state == .ready) then
    s.modDispBlock b (fun d => if d.blocked.contains cell then d else { d with blocked := d.blocked ++ [cell] })
  else
    let r := drr (s.readyHead b) s.groupWeight (drrTurns (s.dispBlock b)) (s.dispBlock b)
    let s := s.modDispBlock b (fun _ => r.1)
    match r.2 with
    | some n => s.handOut cell n
    | none => s

/-- A DSP cell that can take work. -/
def dspOk (s : State) (cell : U16) : Bool := regionOf cell == 0 && decide (blockNo cell < 32) && decide (cellNo cell < 16) && !s.cellOut cell && !s.blockOut (blockOfIsland cell) && (s.block (blockOfIsland cell)).phase == .inService

/-- A failed operation of a cell: its block handles it from now (01 R20). -/
def cellFail (s : State) (cell : U16) (cause : Nat) (detail : U32 := 0) : State :=
  if (s.cell cell).fault.isSome ∨ s.cellOut cell then s
  else { s with fab := { s.fab with cells := tput s.fab.cells cell.toNat { s.cell cell with fault := some { cause := BitVec.ofNat 8 cause, detail, since := s.clk } } } }

end State

/-- DISPATCH_GET: a cell that holds no task ahead executes GET (R363, R364). -/
def dispatchGet (cell : U16) (s : State) : State :=
  if s.dspOk cell ∧ (s.dsp cell).prefetched.isNone then (s.serveGet cell).fin else s

/-- DISPATCH_GET. -/
def execDispatchGet (cell : U16) (s : State) : Host.Outcome State Fault Refusal := .next (dispatchGet cell s)

/-- A task became READY and a cell of its block is blocked in GET: the one that has waited longest is served (R363). -/
def taskReadyHandout (n : Nat) (s : State) : State :=
  match tget s.disp.tasks n with
  | none => s
  | some t =>
    if t.state ≠ .ready then s
    else match ((s.dispBlock t.block).blocked.filter s.dspOk).head? with
      | some cell => (s.serveGet cell).fin
      | none => s

/-- TASK_READY_HANDOUT. -/
def execTaskReadyHandout (task : Nat) (s : State) : Host.Outcome State Fault Refusal := .next (taskReadyHandout task s)

namespace State

/-- Flags that the end of a task's run sets in the tasks it feeds: a RECEIVE fills input spool 0 of its leg's CHAIN; a CHAIN or MIX may complete a JOIN (R358). -/
def feedTasks (s : State) (t : Task) : State :=
  let s := if t.kind = TaskKind.receive then
      (s.disp.tasks.filter (fun (p : Nat × Task) => p.2.kind == TaskKind.chain && p.2.object == t.object)).foldl (fun s p => s.setFlags p.1 flagInput0) s
    else s
  match s.taskConf t with
  | some c => s.joinTasks c
  | none => s

end State

/-- A cell executes END: the group's deficit and EST are corrected, the task is tested again, and the cell goes on with the task it holds ahead (R359, R361, R363, R365). -/
def taskEnd (n used : Nat) (how : RunEnd) (s : State) : State :=
  match tget s.disp.tasks n with
  | none => s
  | some t =>
    let cell := t.cell
    if t.state ≠ .running ∨ (s.dsp cell).running ≠ some n then s
    else
      let s := s.modDispBlock t.block (fun b => { b with deficit := b.deficit.set! t.group ((b.deficit[t.group]?).getD 0 + t.est - used) })
      let s := s.traceRec cell n t.group 2 used
      let s := if t.late ≠ 0 then
          (s.traceRec cell n t.group 3 t.late).modDispBlock t.block (fun b => { b with late := b.late.set! t.group ((b.late[t.group]?).getD 0 + 1) })
        else s
      let s := match how with
        | .firmwareCap => (s.traceRec cell n t.group 4 0).cellFail cell 2
        | .done => s
      let now := ((s.taskConf t).bind (fun c => tget s.snd.ticks c)).elim 0 (· + 1)
      let s := s.modDsp cell (fun x => { x with running := x.prefetched, prefetched := none })
      let s := if t.deleted then s.modDisp (fun d => { d with tasks := tdel d.tasks n })
        else s.modTask n (fun t =>
          let t := { t with est := used, cell := 0xFFFF, late := 0, ended := now, state := .waiting }
          if Task.ready t then { t with state := .ready, readyAt := s.chipNs } else t)
      (s.feedTasks t).fin

/-- TASK_END. -/
def execTaskEnd (task : Nat) (used : Nat) (how : RunEnd) (s : State) : Host.Outcome State Fault Refusal := .next (taskEnd task used how s)

/-- A fenced DSP cell gives its tasks back: the running one waits for its next flags, the one held ahead returns to the head of its queue (R367, 01 R21). -/
def State.fenceDsp (s : State) (cell : U16) : State :=
  let x := s.dsp cell
  let back (s : State) (n : Option Nat) (running : Bool) : State :=
    match n.bind (fun n => (tget s.disp.tasks n).map (fun t => (n, t))) with
    | none => s
    | some (n, t) =>
      let s := if t.deleted then s.modDisp (fun d => { d with tasks := tdel d.tasks n })
        else s.modTask n (fun t => { t with state := if running then .waiting else .ready, cell := 0xFFFF, late := 0 })
      let s := s.traceRec cell n t.group 6 0
      if running then s.missSignal t else s
  let s := back s x.running true
  let s := back s x.prefetched false
  let s := s.modDsp cell (fun _ => {})
  s.modDispBlock (blockNo cell) (fun b => { b with blocked := b.blocked.filter (fun c => c != cell) })

/-! ### kernel commands -/

/-- Chains that name a kernel. -/
def State.chainsOf (s : State) (k : Nat) : Nat :=
  (s.snd.legs.filter (fun p => (s.kernelOf p.1 false).toNat == k || (s.kernelOf p.1 true).toNat == k || (p.2.chainNext.any (fun q => q.2.kernel.toNat == k)))).length

/-- KERNEL_TENTHS of a kernel for one leg (R376). -/
def kernelCost (cycles stateBytes : Nat) : Nat := ceilDiv' (cycles + (40 + ceilDiv' stateBytes 32)) 100

/-- The header checks of kernel.load. -/
def kernelOk (q : KernelReq) : Bool :=
  q.magic == 0x4B424C51 && q.abi == 1 && (q.group == 0 || within 8 15 q.group.toNat) && (q.kernel == 0xFFFF || decide (q.kernel.toNat ≤ 15)) &&
  within 8 8192 q.codeBytes.toNat && q.codeBytes.toNat % 8 == 0 && decide (q.constBytes.toNat ≤ 16384) && q.constBytes.toNat % 8 == 0 &&
  decide (q.stateBytes.toNat ≤ 1024) && q.stateBytes.toNat % 8 == 0 && within 64 20000 q.cycles.toNat && q.entry.toNat % 8 == 0 && decide (q.entry.toNat < q.codeBytes.toNat)

/-- Store a kernel under an identifier (R375). -/
def doKernelLoad (k : Nat) (q : KernelReq) (s : State) : State := s.modDisp (fun d => { d with kernels := tput d.kernels k { req := q } })

/-- The identifier kernel.load takes. -/
def State.kernelIndex (s : State) (q : KernelReq) : Option Nat := if q.kernel = 0xFFFF then lowest (fun k => !thas s.disp.kernels k) 0 16 else some q.kernel.toNat

/-- kernel.load. -/
def rowKernelLoad (q : KernelReq) : Row where
  opcode := 0x1300
  checks := fun c s =>
    let codeFree := 16384 - total s.disp.kernels (fun p => p.2.req.codeBytes.toNat)
    let constFree := 16384 - total s.disp.kernels (fun p => p.2.req.constBytes.toNat)
    { pre := need (decide (64 + q.codeBytes.toNat + q.constBytes.toNat ≤ c.hdr.reqLen.toNat)) St.length,
      fields := kernelOk q,
      word := match q.badInstr with | some off => some (Rep.fail St.badField [off]) | none => none,
      objects := [need (q.group == 0 || s.disp.kernels.all (fun p => p.2.req.group != q.group)) St.badField],
      items := ((s.kernelIndex q).map Item.kernel).toList,
      busy := [need (q.kernel == 0xFFFF || !thas s.disp.kernels q.kernel.toNat) St.busy],
      rest := [need (decide (q.codeBytes.toNat ≤ codeFree)) St.refused [1, codeFree], need (decide (q.constBytes.toNat ≤ constFree)) St.refused [2, constFree],
               need (s.kernelIndex q).isSome St.refused [3, 0]] }
  layout := fun _ => [(0, 0, 32, q.magic.toNat), (4, 0, 8, q.abi.toNat), (5, 0, 8, q.group.toNat), (6, 0, 16, q.kernel.toNat), (8, 0, 16, q.codeBytes.toNat),
    (0x0A, 0, 16, q.constBytes.toNat), (0x0C, 0, 16, q.stateBytes.toNat), (0x0E, 0, 8, q.weight.toNat), (0x10, 0, 32, q.cycles.toNat), (0x14, 0, 16, q.entry.toNat),
    (0x18, 0, 64, q.build.toNat), (0x40, 0, 8 * q.codeBytes.toNat, leVal q.code), (0x40 + q.codeBytes.toNat, 0, 8 * q.constBytes.toNat, leVal q.consts)]
  effect := fun _ s =>
    let k := (s.kernelIndex q).getD 0
    (doKernelLoad k q s, Rep.ok (le 4 k ++ le 4 (kernelCost q.cycles.toNat q.stateBytes.toNat)))

/-- KERNEL_LOAD. -/
def execKernelLoad (m : Mbx) (req : KernelReq) (s : State) : Host.Outcome State Fault Refusal := .next (s.run m (rowKernelLoad req))

/-- kernel.unload. -/
def rowKernelUnload (kernel : U16) : Row where
  opcode := 0x1301
  checks := fun _ s =>
    { objects := [need (thas s.disp.kernels kernel.toNat) St.noObject], items := [.kernel kernel.toNat],
      rest := [need (s.chainsOf kernel.toNat == 0) St.refused [s.chainsOf kernel.toNat]] }
  layout := fun _ => [(0, 0, 16, kernel.toNat)]
  effect := fun _ s => (s.modDisp (fun d => { d with kernels := tdel d.kernels kernel.toNat }), Rep.ok)

/-- KERNEL_UNLOAD. -/
def execKernelUnload (m : Mbx) (kernel : U16) (s : State) : Host.Outcome State Fault Refusal := .next (s.run m (rowKernelUnload kernel))

/-- kernel.query. -/
def rowKernelQuery (kernel : U16) : Row where
  opcode := 0x1302
  checks := fun _ s => { objects := [need (thas s.disp.kernels kernel.toNat) St.noObject] }
  layout := fun _ => [(0, 0, 16, kernel.toNat)]
  effect := fun _ s =>
    match tget s.disp.kernels kernel.toNat with
    | none => (s, Rep.fail St.noObject)
    | some k =>
      (s, Rep.ok (le 4 k.req.cycles.toNat ++ le 2 k.req.stateBytes.toNat ++ le 1 (if k.req.group = 0 then 2 else k.req.group.toNat) ++ le 1 k.req.weight.toNat ++
        le 4 (kernelCost k.req.cycles.toNat k.req.stateBytes.toNat) ++ le 4 (s.chainsOf kernel.toNat) ++ le 4 k.faults.toNat ++ le 4 k.maxUsed))

/-- KERNEL_QUERY. -/
def execKernelQuery (m : Mbx) (kernel : U16) (s : State) : Host.Outcome State Fault Refusal := .next (s.run m (rowKernelQuery kernel))

/-! ### trace commands -/

/-- trace.config: the settings replace those in force and the ring is emptied (R368). -/
def rowTraceConfig (q : TraceReq) : Row where
  opcode := 0x1100
  checks := fun _ s =>
    { fields := within 20 30 q.ringLog2.toNat && decide (q.sample.toNat ≤ 16) && decide (q.taskFirst.toNat ≤ q.taskLast.toNat), items := [.trace],
      rest := [need (decide (2 ^ q.ringLog2.toNat ≤ s.disp.room)) St.noCapacity] }
  layout := fun _ => [(0, 0, 1, bit q.enable), (0, 1, 1, bit q.stop), (1, 0, 8, q.ringLog2.toNat), (2, 0, 8, q.sample.toNat), (4, 0, 32, q.reasonMask.toNat), (8, 0, 16, q.groupMask.toNat),
    (0x0A, 0, 16, q.cell.toNat), (0x0C, 0, 32, q.taskFirst.toNat), (0x10, 0, 32, q.taskLast.toNat)]
  effect := fun _ s => (s.modDisp (fun d => { d with trace := some q, ring := [], next := 0, dropped := 0, tries := 0, lost := 0, full := false }), Rep.ok)

/-- TRACE_CONFIG. -/
def execTraceConfig (m : Mbx) (req : TraceReq) (s : State) : Host.Outcome State Fault Refusal := .next (s.run m (rowTraceConfig req))

/-- A trace record's bytes (Table 14-4). -/
def traceBytes (r : TraceRec) : Bytes :=
  le 4 r.timeNs ++ le 2 r.timeS ++ le 2 r.cell.toNat ++ le 4 (r.task % 262144 + 262144 * (r.group % 16) + 16777216 * r.reason) ++ le 4 r.detail

/-- trace.read. -/
def rowTraceRead (start : U64) (count : U32) : Row where
  opcode := 0x1101
  checks := fun c s =>
    { pre := need (decide (32 ≤ c.hdr.replyLen.toNat)) St.length, fields := within 1 1048575 count.toNat,
      objects := [need (decide (start.toNat < s.disp.next)) St.noObject] }
  layout := fun _ => [(0, 0, 64, start.toNat), (8, 0, 32, count.toNat)]
  effect := fun c s =>
    let oldest := s.disp.next - s.disp.ring.length
    let first := max start.toNat oldest
    let l := ((s.disp.ring.drop (first - oldest)).take count.toNat).take ((c.hdr.replyLen.toNat - 16) / 16)
    (s, Rep.ok (le 8 first ++ le 4 l.length ++ le 4 (bit (decide (start.toNat < oldest))) ++ l.flatMap traceBytes))

/-- TRACE_READ. -/
def execTraceRead (m : Mbx) (start : U64) (count : U32) (s : State) : Host.Outcome State Fault Refusal := .next (s.run m (rowTraceRead start count))

/-- trace.query. -/
def rowTraceQuery (block : U8) : Row where
  opcode := 0x1102
  checks := fun _ _ => { fields := decide (block.toNat ≤ 31) }
  layout := fun _ => [(0, 0, 8, block.toNat)]
  effect := fun _ s =>
    let b := s.dispBlock block.toNat
    let group (g : Nat) : Bytes :=
      let n := (s.disp.tasks.filter (fun p => p.2.block == block.toNat && p.2.group == g && p.2.state == .ready)).length
      le 1 (s.groupWeight g) ++ le 3 n ++ leI 4 ((b.deficit[g]?).getD 0) ++ le 4 ((b.handouts[g]?).getD 0).toNat ++ le 4 ((b.late[g]?).getD 0).toNat
    (s, Rep.ok (le 8 s.disp.dropped ++ le 8 s.disp.next ++ (List.range 16).flatMap group))

/-- TRACE_QUERY. -/
def execTraceQuery (m : Mbx) (block : U8) (s : State) : Host.Outcome State Fault Refusal := .next (s.run m (rowTraceQuery block))

end Sys2Proof.Machine
end

