-- ==== Sys2Proof/Machine/Reset.lean ====
section
/-! DEFINITION. Resets: what survives one, Keystone's adoption of a policy at every reset (16 R411 to R415), the start of a boot (18 R459), and the rows of RESET_N, of live insertion and of keep.format's end. -/

namespace Sys2Proof.Machine

open Sys2Proof

/-! ### Policy images (16 R411 to R415) -/

/-- A policy key slot is enrolled (R411). -/
def Keystone.enrolled (k : Keystone) : Bool := k.fuses.toList.any (fun f => f.key.isSome)

/-- The fuse slot that holds a key. -/
def Keystone.slotOf (k : Keystone) (key : BitVec 384) : Option Nat := (List.range 4).find? (fun i => (k.fuses.toList[i]?).any (fun f => f.key == some key))

/-- The lowest free fuse slot. -/
def Keystone.freeSlot (k : Keystone) : Option Nat := (List.range 4).find? (fun i => (k.fuses.toList[i]?).any (fun f => f.key.isNone))

/-- The test of R411 as LAST_ADOPT reports it: 0 passes, 2 signature, 3 SVN below the fused one, 5 revoked key. -/
def Keystone.test (k : Keystone) (p : Proposal) : Nat :=
  let svn := if p.image.svn.toNat < k.fusedSvn then 3 else 0
  if !p.sigOk then 2
  else if !k.enrolled then (if p.image.keySlot = 0xFF ∧ p.signer = Config.rootKey then svn else 2)
  else match k.fuses.toList[p.image.keySlot.toNat]? with
    | none => 2
    | some f => if f.key ≠ some p.signer then 2 else if f.revoked then 5 else if p.image.enrolKey.isSome ∧ p.image.enrolKey = f.key then 2 else svn

/-- The image holds a section. -/
def Proposal.has (p : Proposal) (type : Nat) : Bool := p.sections.any (fun x => x.type.toNat == type)

/-- The content of an image; a missing section takes its shipped value (R410). -/
def Proposal.policy (p : Proposal) : PolicyImage :=
  let i := p.image
  let d := shippedPolicy
  { i with
    permissions := if Proposal.has p 1 then i.permissions else d.permissions,
    reserveSound := if Proposal.has p 2 then i.reserveSound else d.reserveSound, reserveFwd := if Proposal.has p 2 then i.reserveFwd else d.reserveFwd,
    claimFixed := if Proposal.has p 3 then i.claimFixed else d.claimFixed, ctlGroup := if Proposal.has p 3 then i.ctlGroup else d.ctlGroup,
    checkFixed := if Proposal.has p 4 then i.checkFixed else d.checkFixed, limitFixed := if Proposal.has p 4 then i.limitFixed else d.limitFixed, tcS1 := if Proposal.has p 4 then i.tcS1 else d.tcS1,
    overlays := if Proposal.has p 5 then i.overlays else d.overlays,
    cardW := if Proposal.has p 6 then i.cardW else d.cardW, cardH := if Proposal.has p 6 then i.cardH else d.cardH,
    cardContent := if Proposal.has p 6 then i.cardContent else d.cardContent, cardBg := if Proposal.has p 6 then i.cardBg else d.cardBg,
    toneContent := if Proposal.has p 7 then i.toneContent else d.toneContent, toneSamples := if Proposal.has p 7 then i.toneSamples else d.toneSamples,
    tonePeriodS := if Proposal.has p 7 then i.tonePeriodS else d.tonePeriodS,
    rules := if Proposal.has p 8 then i.rules else d.rules, tripC := if Proposal.has p 9 then i.tripC else d.tripC, laser := if Proposal.has p 10 then i.laser else d.laser,
    keyPolicies := if Proposal.has p 11 then i.keyPolicies else d.keyPolicies, enrolKey := if Proposal.has p 12 then i.enrolKey else none }

/-- Bytes of a 4:2:0 picture whose samples take 2 bytes each (Table 16-4). -/
def pictureBytes (w h : Nat) : Nat := 3 * w * h

/-- A section lies within its limits (Table 16-4, R412). -/
def sectionOk (i : PolicyImage) (length type : Nat) : Bool :=
  let over5 := total i.overlays (fun o => pictureBytes o.width o.height)
  let both := decide (over5 + pictureBytes i.cardW i.cardH ≤ 3932160)
  match type with
  | 1 => length == 68 && i.permissions.length == 17
  | 2 => decide (i.reserveSound ≤ 1024000) && decide (i.reserveFwd ≤ 65536)
  | 3 => i.claimFixed.all (fun g => within 1 63 g) && i.ctlGroup.length == 8 && i.ctlGroup.all (fun c => c.1.all (fun g => within 1 63 g))
  | 4 => i.checkFixed.length == 3 && i.limitFixed.length == 3
  | 5 => decide (i.overlays.length ≤ 16) && i.overlays.all (fun o => o.width % 2 == 0 && o.height % 2 == 0 && within 16 512 o.width && within 16 256 o.height) && decide (over5 ≤ 3145728) && both
  | 6 => i.cardW % 2 == 0 && i.cardH % 2 == 0 && within 2 1280 i.cardW && within 2 720 i.cardH && decide (pictureBytes i.cardW i.cardH ≤ 2764800) && both
  | 7 => decide (i.toneSamples ≤ 96000) && within 1 60 i.tonePeriodS
  | 8 => decide (i.rules.length ≤ 32) && i.rules.all (fun r => decide (r.trigger.toNat ≤ 2) && decide (r.overlay.toNat < i.overlays.length))
  | 9 => within 100 115 i.tripC
  | 10 => i.laser.length == 2
  | 11 => within 1 256 i.keyPolicies.length
  | 12 => length == 97 && i.enrolKey.isSome
  | _ => false

/-- The bytes at which a header, a directory entry or a section of an image fails R412. A section that breaks a limit is named by its first byte (DEDUCED, log 84). -/
def Proposal.faults (p : Proposal) : List Nat :=
  let i := Proposal.policy p
  let n := p.sections.length
  let bad (ok : Bool) (offset : Nat) : List Nat := if ok then [] else [offset]
  bad (p.magic == 0x594C5053) 0x00 ++ bad (p.format == 1) 0x04 ++ bad (decide (i.svn.toNat ≤ 63)) 0x05 ++ bad (decide (i.keySlot.toNat ≤ 3) || i.keySlot == 0xFF) 0x06 ++
  bad (!i.enrol || i.enrolKey.isSome) 0x07 ++ bad (within 4096 4194304 p.size) 0x0C ++ bad (within 1 16 n) 0x20 ++
  p.sections.zipIdx.flatMap (fun x =>
    let e := x.1
    let entry := 0x40 + 16 * x.2
    bad (within 1 12 e.type.toNat && !(p.sections.take x.2).any (fun y => y.type == e.type)) entry ++
    bad (decide (0x40 + 16 * n ≤ e.offset.toNat) && decide (e.offset.toNat + e.length.toNat + 96 ≤ p.size)) (entry + 4) ++
    bad e.crcOk (entry + 12) ++ bad (sectionOk i e.length.toNat e.type.toNat) e.offset.toNat) ++ p.badOffset.toList

/-- Byte offset of the first field that makes an image malformed (R411, R412); ENROL where every fuse slot is used. -/
def Keystone.malformed (k : Keystone) (p : Proposal) : Option Nat :=
  let full := (Proposal.policy p).enrol && k.freeSlot.isNone && !((Proposal.policy p).enrolKey.bind k.slotOf).isSome
  (Proposal.faults p ++ (if full then [0x07] else [])).min?

/-- The image in a policy slot. -/
def Keystone.slotImage (k : Keystone) (i : Nat) : Option Proposal := (k.slots.toList[i]?).join

/-- The fuses an adopted image burns: the thermometer up to its SVN, an enrolment or a revocation (R411, R414). Answers the fuse slots touched. -/
def Keystone.burn (k : Keystone) (i : PolicyImage) : Keystone × List Nat :=
  let k := { k with fusedSvn := max k.fusedSvn i.svn.toNat }
  match i.enrolKey with
  | none => (k, [])
  | some key =>
    match k.slotOf key with
    | some n => ({ k with fuses := k.fuses.set! n { (k.fuses.toList[n]?).getD {} with revoked := true } }, [n])
    | none =>
      if i.enrol then
        match k.freeSlot with
        | some n => ({ k with fuses := k.fuses.set! n { key := some key } }, [n])
        | none => (k, [])
      else (k, [])

/-- Cipher classes under the policy's fixed settings (16 Table 16-4). -/
def policyClasses (p : PolicyImage) (v : Vector KeyClass 3) : Vector KeyClass 3 :=
  Vector.ofFn (fun k : Fin 3 =>
    let c := v.get k
    { c with check := ((p.checkFixed[k.val]?).getD none).getD c.check, useLimit := (((p.limitFixed[k.val]?).getD none).map (·.toNat)).getD c.useLimit })

namespace State

/-- The claim groups in use under a policy: group 0, the access ports' 32 and 33, and those of the control outputs (12 R320, 16 Table 16-4). -/
def policyClaims (p : PolicyImage) : Table Claim :=
  (p.ctlGroup.filterMap (·.1)).foldl (fun t g => if thas t g then t else tput t g { used := true }) (({} : Twin).claims)

/-- L1_C + 6 must lie below TRIP_C; where a stored value breaks the rule, TRIP_C − 7 is used and a fault record is written (17 R451). -/
def l1Rule (s : State) : State :=
  let trip := s.ks.policy.tripC
  if s.pwr.l1 + 6 < trip then { s with pwr := { s.pwr with l1Clamp := none } }
  else
    let f := Config.l1Fault s.pwr.l1
    ({ s with pwr := { s.pwr with l1Clamp := some (trip - 7) } } : State).faultRec f.1 f.2.1 f.2.2.1 f.2.2.2.1 (detail := f.2.2.2.2)

/-- Keystone checks the pending image and adopts it, or unmarks it; either way it writes a log record (R414). A slot that no longer holds an image is a NOR fault. -/
def adoptPending (s : State) : State :=
  let k := s.ks
  let idle := 1 - k.activeSlot
  match (if k.pending then k.slotImage idle else none) with
  | none => if k.pending then ({ s with ks := { k with pending := false, lastAdopt := 6 } } : State).ksLog 6 6 0 else { s with ks := { k with lastAdopt := 0 } }
  | some p =>
    let code := if k.test p ≠ 0 then k.test p else if (k.malformed p).isSome then 4 else 0
    if code = 0 then
      let (k, burnt) := k.burn (Proposal.policy p)
      let s : State := { s with ks := { k with pending := false, lastAdopt := 1, activeSlot := idle } }
      let s := s.ksLog 5 1 p.image.svn.toNat
      burnt.foldl (fun s n => s.ksLog 8 n p.image.svn.toNat) s
    else ({ s with ks := { k with pending := false, lastAdopt := code } } : State).ksLog 6 code p.image.svn.toNat

/-- The active image governs, or the other slot's where the active one fails its signature or CRC, or the built-in policy (R415). Keystone computes the signatures that it expects of the overlays (R423). -/
def takePolicy (s : State) : State :=
  let k := s.ks
  let whole (p : Proposal) : Bool := p.sigOk && p.sections.all (·.crcOk)
  let take (p : Proposal) : Keystone := { k with policy := Proposal.policy p, policyOk := true, expected := (Proposal.policy p).overlays.map expectedSignature }
  match (k.slotImage k.activeSlot).filter whole with
  | some p => { s with ks := take p }
  | none =>
    match (k.slotImage (1 - k.activeSlot)).filter (fun p => k.test p == 0 && (k.malformed p).isNone) with
    | some p => ({ s with ks := { take p with activeSlot := 1 - k.activeSlot } } : State).ksLog 7 k.lastAdopt p.image.svn.toNat
    | none => ({ s with ks := { k with policy := builtInPolicy, policyOk := false, expected := [] } } : State).ksLog 7 k.lastAdopt 0

/-! ### What survives a reset -/

end State

/-- A trial that any reset ends before its commit: the slot is REJECTED and the fallback boots (18 R462). -/
def Keep.endTrial (k : Keep) (outcome : Nat) : Keep :=
  if k.runB then (if k.slotB.state = .trial then { k with slotB := { k.slotB with state := .rejected }, bootB := false, lastOutcome := outcome } else k)
  else (if k.slotA.state = .trial then { k with slotA := { k.slotA with state := .rejected }, bootB := true, lastOutcome := outcome } else k)

/-- What the NAND, the NOR and the fuses keep across a reset: every committed group, and nothing staged (13 R351, R354; 18 R461). -/
def Keep.across (k : Keep) : Keep :=
  let mark := max k.mark k.ksMark
  let named := if k.bootB then k.slotB else k.slotA
  { recs := k.recs, nextGseq := k.groups.head?.elim k.nextGseq (·.gseq), span := k.span, keepTime := k.groupTime, groupTime := k.groupTime,
    rseq := k.rseq, epoch := k.epoch, ownFrom := k.ownFrom, epochOwn := k.epochOwn, newest := k.newest, older := k.older, dirtySegs := k.dirtySegs, segLoc := k.segLoc, lastPass := k.lastPass,
    ckptCopy := k.ckptCopy, ckptGseq := k.ckptGseq, refreshed := k.refreshed, areas := k.areas, dies := k.dies, gib := k.gib, nand := k.nand, lastPage := k.lastPage, scrubBy := k.scrubBy, lost := k.lost,
    log := k.log, seq := mark, mark, ksMark := k.ksMark, retired := k.retired, parked := k.parked, flushPark := k.flushPark, slotA := k.slotA, slotB := k.slotB,
    bootB := k.bootB, runB := k.runB, lastOutcome := k.lastOutcome, fusedSvn := k.fusedSvn, archive := k.archive,
    commitS := if named.state = .staged then k.commitS else none }

/-- What Keystone keeps across a reset: the policy slots, the fuses, the log, the pair's certificate and the core rails' set points; a trip's cause until the next reset but its own (16 R409, R429; 18 Table 18-6). -/
def Keystone.across (k : Keystone) (trip : Bool) : Keystone :=
  { slots := k.slots, activeSlot := k.activeSlot, pending := k.pending, fuses := k.fuses, fusedSvn := k.fusedSvn, log := k.log, logNext := k.logNext,
    repeats := k.repeats, bootCount := k.bootCount, cert := k.cert, wrapBoot := k.wrapBoot, entropy := { taken := k.entropy.taken }, trips := if trip then k.trips else 0,
    avsMv := k.avsMv, avsMiss := k.avsMiss, avsStuck := k.avsStuck }

/-- Retired cells and blocks stay out across every reset (01 R22, R23). -/
def retiredFabric (retired : List Nat) : Fabric :=
  { cells := (retired.filter (fun i => i % 64 != 63)).foldl (fun t i => tput t i { retired := true }) [],
    blocks := (retired.filter (fun i => i % 64 == 63)).foldl (fun t i => tput t i { phase := .retired }) [] }

/-- The cells that stay out across a device reset: retired ones, and fenced ones until the self-test of their block, which runs at the reset (01 R22, R23). Chip time starts again (09 R244), so no count of fences spans the reset (DEDUCED, log 75). -/
def keptFabric (f : Fabric) (retired : List Nat) : Fabric :=
  let still := f.cells.filter (fun p => p.2.fenced && !p.2.retired)
  let base := retiredFabric retired
  { cells := still.foldl (fun t p => if thas t p.1 then t else tput t p.1 { fenced := true }) base.cells,
    blocks := still.foldl (fun t p => let b := (blockOfIsland (BitVec.ofNat 16 p.1)).toNat; if thas t b then t else tput t b { phase := .selfTest }) base.blocks }


namespace State

/-- The running generation is unproven (02 R68). -/
def unproven (s : State) : Bool := s.patt.running != 0 && !(tget s.patt.gens s.patt.running).any (·.proven)

/-- The device in reset: everything at its reset value but what survives (02 R60, 03 R99, 18 R465). -/
def wiped (s : State) (cause outcome : Nat) : State :=
  { pins := { s.pins with smbAlert := false, ppsOut := false },
    boot := { cause := BitVec.ofNat 8 cause, fellBack := if s.boot.stage = .held then s.boot.fellBack else s.unproven },
    time := { now := s.time.now, tsRefclk := s.time.tsRefclk },
    fab := keptFabric s.fab s.keep.retired,
    keep := (s.keep.endTrial outcome).across,
    ks := s.ks.across (cause == 7),
    patt := { gens := s.patt.gens, highest := s.patt.highest, proven := s.patt.proven },
    mem := { host := s.landed },
    pending := s.pending,
    draws := s.draws }

/-- Step 1 of a boot: Keystone starts and adopts, the Keeping region starts its mount (18 R459, 16 R414, R417). -/
def bootStart (s : State) : State :=
  let (wrapKey, s) := s.drawKey
  let s : State := { s with
    boot := { s.boot with stage := .keystone, releasedAt := s.now },
    ks := { s.ks with state := .boot, released := false, verified := false, seenRounds := 0, startedAt := s.now, bootCount := s.ks.bootCount + 1, wrapBoot := s.ks.wrapBoot + 1, wrapKey, wraps := 0 },
    time := { now := s.time.now, tsRefclk := s.time.tsRefclk },
    keep := { s.keep with mount := .reading } }
  let s := s.adoptPending.takePolicy
  let s := s.modTwin (fun t => { t with claims := policyClaims s.ks.policy })
  let s := s.modCip (fun c => { c with classes := policyClasses s.ks.policy c.classes })
  s.l1Rule

/-- The event that completes a PENDING command of an opcode (02, 12, 13, 17). -/
def resultEvent (op : Nat) : Nat :=
  if op = 0x0101 then 0x0180 else if op / 256 = 0x0E then 0x0E80 else if op = 0x0D04 then 0x0D81 else if op = 0x0C02 then 0x0C81 else 0x0F80

/-- Commands that are executing when the device resets itself complete with FAULT; of a PENDING one the result event has it, with nothing else in it (01 R29). -/
def faultAll (s : State) : State :=
  (allMbx.flatMap (fun m => ((s.box m).inflight.filter (fun c => c.stage == .acting || c.stage == .pending)).map (fun c => (m, c)))).foldl (fun s p =>
    if p.2.stage = .acting then s.complete p.1 p.2 (Rep.fail St.fault) else s.raiseDone p.1 p.2.seq (resultEvent p.2.hdr.opcode.toNat) St.fault (le 24 0)) s |>.fin

/-- The record of a device reset (01 R30): level chip, action 5. -/
def resetRec (s : State) (location : U16) (cause : U8) (detail : U32) : FaultRec :=
  { seq := 0, location, level := 3, cause, timeS := s.chipS, timeNs := s.chipSub, action := 5,
    fencedNow := BitVec.ofNat 8 (s.outCells (regionOf location) (blockNo location)).length, seamId := 0xFFFF, seamCount := 0, detail }

/-- The record of a device reset that no fault of Table 1-8 caused. -/
def plainReset (s : State) (cause : Nat) : FaultRec := let f := Config.resetFault cause; s.resetRec f.1 f.2.1 f.2.2

/-- The device resets itself, with RESET_N high: executing commands complete with FAULT, it boots again at once, and the reset is recorded (01 R20, R25, R29, R30; 16 R427, R428; 17 R450; 18 R462). -/
def deviceReset (s : State) (cause : Nat) (outcome : Nat := 3) (rec_ : Option FaultRec := none) : State :=
  ((s.faultAll.wiped cause outcome).bootStart).writeFault (rec_.getD (s.plainReset cause))

end State

/-! ### RESET_N, live insertion and the format of the store -/

/-- RESET_N falls: a low pulse shorter than 1 µs is ignored, one of 2 µs or more resets; the manual leaves one between open (19 Table 19-7). RESET_N held low keeps the device in reset. -/
def resetNAssert (lowNs : Nat) (s : State) : State :=
  let open_ := decide (1000 ≤ lowNs) && decide (lowNs < 2000)
  let resets := decide (2000 ≤ lowNs) || (open_ && (Config.draw s.draws).getLsbD 0)
  let s : State := if open_ then { s with draws := s.draws + 1 } else s
  if !resets ∨ !s.pins.resetN then s
  else
    let s := s.wiped 1 3
    { s with pins := { s.pins with resetN := false } }

/-- RESET_N_ASSERT. -/
def execResetNAssert (lowNs : Nat) (s : State) : Host.Outcome State Fault Refusal := .next (resetNAssert lowNs s)

/-- RESET_N rises: the straps are latched and step 1 of the boot runs; a device reset by RESET_N is recorded (18 R457, R459; 01 R30). -/
def resetNRelease (bootSrc twinSide : Bool) (mgmtAddr : BitVec 3) (s : State) : State :=
  if s.pins.resetN then s
  else
    let s := ({ s with pins := { s.pins with resetN := true, bootSrc, twinSide, mgmtAddr } } : State).bootStart
    (if s.boot.cause = 1 then s.writeFault (s.plainReset 1) else s).fin

/-- RESET_N_RELEASE. -/
def execResetNRelease (bootSrc twinSide : Bool) (mgmtAddr : BitVec 3) (s : State) : Host.Outcome State Fault Refusal :=
  .next (resetNRelease bootSrc twinSide mgmtAddr s)

/-- The card meets the backplane with its supplies rising and RESET_N low: a power-on. The boot that follows reports cause 5 where the store's tail is a PARK group that a flush wrote (18 R455, 17 R450). The core rails start at 0.75 V (19 R471). -/
def liveInsertion (s : State) : State :=
  let s := s.wiped (if s.keep.parked ∧ s.keep.flushPark then 5 else 0) 3
  { s with pins := { s.pins with resetN := false }, fab := retiredFabric s.keep.retired, ks := { s.ks with avsMv := ({} : Keystone).avsMv, avsMiss := ({} : Keystone).avsMiss, avsStuck := ({} : Keystone).avsStuck } }

/-- LIVE_INSERTION. -/
def execLiveInsertion (s : State) : Host.Outcome State Fault Refusal := .next (liveInsertion s)

/-- Every area of the store is erased and the empty checkpoint written (13 keep.format): the command completes and the device resets with cause 1. Retirements and the numbers of fault records are never undone (01 R22, R30). Without the command it is the format of a blank store, which holds nothing (18 R460). -/
def storeFormatDone (s : State) : State :=
  match s.keep.formatFor with
  | none => s
  | some (m, n) =>
    let s := s.finish m n (Rep.ok)
    let s := s.modKeep (fun k => {
      areas := k.areas, dies := k.dies, gib := k.gib, nand := k.nand, seq := k.seq, ksMark := k.ksMark, mark := k.mark, retired := k.retired,
      slotA := k.slotA, slotB := k.slotB, bootB := k.bootB, runB := k.runB, lastOutcome := k.lastOutcome, fusedSvn := k.fusedSvn })
    (({ s with patt := {} } : State).deviceReset 1).fin

/-- STORE_FORMAT_DONE. -/
def execStoreFormatDone (s : State) : Host.Outcome State Fault Refusal := .next (storeFormatDone s)

end Sys2Proof.Machine
end

