-- ==== Sys2Proof/Machine/Cells.lean ====
section
/-! DEFINITION. Cells, blocks, regions and spans: fault handling level by level (01 R15, R16, R20 to R30), and spools (01 R31 to R41). -/

namespace Sys2Proof.Machine

open Sys2Proof

/-- The identifier of a region as a whole (01 R10). -/
def regionIsland (r : Nat) : U16 := BitVec.ofNat 16 (r * 4096 + 0xFFF)

/-- The kind of a cell within its block (Table 1-1). -/
def cellKind (region block cell : Nat) : Nat :=
  match region with
  | 1 => if block < 12 then (if cell < 4 then 0 else 1) else 0
  | 2 => if block = 0 then cell / 2 else 0
  | 3 | 4 => cell
  | 5 => if block = 0 ∧ cell = 2 then 1 else 0
  | 6 => if block = 1 then cell else 0
  | _ => 0

/-- The kind of a block within its region (Table 1-1). -/
def blockKind (region block : Nat) : Nat :=
  match region with
  | 1 => if block < 8 then 0 else if block < 12 then 1 else 2
  | 2 | 5 | 6 => block
  | _ => 0

/-- Blocks of a region. -/
def blocksOf (region : Nat) : List Nat := (List.range 64).filter (fun b => cellsOf region b != 0)

/-- An identifier names a cell that exists. -/
def isCell (i : U16) : Bool := decide (cellNo i < cellsOf (regionOf i) (blockNo i)) && decide (i.toNat < 32768)

/-- An identifier names a block that exists. -/
def isBlock (i : U16) : Bool := cellNo i == 63 && cellsOf (regionOf i) (blockNo i) != 0 && decide (i.toNat < 32768)

/-! ### Spools (01 R31 to R41) -/

/-- A spool before its first item. -/
def freshSpool (n : Nat) : Spool :=
  let k := Config.spoolKind n
  { frames := k.1, class0 := k.2.1, producer := k.2.2.1, consumer := k.2.2.2, depth := 2307 + Config.spoolExtra n }

/-- A snag marker (R36). -/
def snagSlot (dropped firstSeq : Nat) : Slot := { tag := 2, word := BitVec.ofNat 64 (min dropped 0xFFFFFFFF + firstSeq * 4294967296) }

/-- DROPPED of a marker. -/
def Slot.dropped (x : Slot) : Nat := x.word.toNat % 4294967296

/-- Add dropped items to an unread marker at the tail, or write a new one into the reserved slot (R36). -/
def addSnag (l : List Slot) (n firstSeq : Nat) : List Slot :=
  match l.getLast? with
  | some x => if x.tag = 2 then l.dropLast ++ [snagSlot (x.dropped + n) (x.word.toNat / 4294967296 % 65536)] else l ++ [snagSlot n firstSeq]
  | none => [snagSlot n firstSeq]

/-- Slots before the reserved one, whose frame is withdrawn. -/
def beforeReserved (l : List Slot) : List Slot := l.takeWhile (fun x => x.tag != 3)

namespace Spool

/-- Credits of the spool's producer: the free slots less the reserved one (R13, Table 1-2, class 3). -/
def credits (q : Spool) : Nat := q.depth - 1 - q.slots.length

/-- An item is accepted while at least two slots are free (R35). -/
def accepts (q : Spool) : Bool := decide (q.slots.length + 2 ≤ q.depth)

/-- A consumer that was stalled goes on once the oldest slot holds an item it may read (R33). -/
def wake (q : Spool) : Spool := { q with stalled := q.stalled && q.slots.head?.all (fun x => x.tag == 3) }

/-- A frame is dropped while it is written: the write pointer moves back to its reserved slot (R36, R37). -/
def withdraw (q : Spool) (discarding : Bool) : Spool :=
  if q.openSince.isSome then
    wake { q with slots := addSnag (beforeReserved q.slots) 1 q.frameSeq.toNat, frameSeq := q.frameSeq + 1, openSince := none, discarding }
  else q

/-- The data words of a frame of n bytes, the last one padded with zero bytes (R34). -/
def padLast (n : Nat) (words : List Slot) : List Slot :=
  if n % 8 = 0 then words
  else words.dropLast ++ (words.drop (words.length - 1)).map (fun x => { x with word := BitVec.ofNat 64 (x.word.toNat % 2 ^ (8 * (n % 8))) })

/-- What a producer's write does (R34 to R36). A length word is written once the frame has 1 to 9,216 bytes and the words that they take; before that the slot stays reserved. FRAME_SEQ counts from 0 (DESIGN CHOICE, log 32: the manual gives the count no start). A class 0 spool holds its producer back instead of dropping (R41). -/
def write (q : Spool) (now : Nat) (op : SpoolOp) : Spool :=
  match op with
  | .word w =>
    if q.frames then q
    else if q.accepts then wake { q with slots := q.slots ++ [{ tag := 0, word := w }] }
    else if q.class0 then q else wake { q with slots := addSnag q.slots 1 0 }
  | .openFrame =>
    if !q.frames ∨ q.openSince.isSome ∨ q.discarding then q
    else if q.accepts then { q with slots := q.slots ++ [{ tag := 3, word := 0 }], openSince := some now }
    else if q.class0 then q else wake { q with slots := addSnag q.slots 1 q.frameSeq.toNat, frameSeq := q.frameSeq + 1, discarding := true }
  | .frameWord w =>
    if q.discarding ∨ q.openSince.isNone then q
    else if q.accepts then { q with slots := q.slots ++ [{ tag := 0, word := w }] }
    else if q.class0 then q else q.withdraw true
  | .closeFrame lw =>
    if q.discarding then { q with discarding := false }
    else if q.openSince.isNone then q
    else
      let n := lw.toNat % 65536
      let word := BitVec.ofNat 64 (lw.toNat / 4294967296 * 4294967296 + q.frameSeq.toNat * 65536 + n)
      let words := (q.slots.dropWhile (fun x => x.tag != 3)).drop 1
      if n = 0 ∨ 9216 < n ∨ words.length ≠ (n + 7) / 8 then q
      else wake { q with slots := beforeReserved q.slots ++ { tag := 1, word } :: padLast n words, frameSeq := q.frameSeq + 1, openSince := none }

/-- The producer's block is reset, or its task abandoned: a frame in a reserved slot is discarded and a gap of unknown size follows; a full spool's marker takes it (R36, R39). -/
def producerLost (q : Spool) : Spool :=
  let l := beforeReserved q.slots
  let first := if q.frames then q.frameSeq.toNat else 0
  wake { q with slots := if l.length < q.depth then l ++ [snagSlot 0xFFFFFFFF first] else addSnag l 0xFFFFFFFF first, openSince := none, discarding := false,
                frameSeq := if q.openSince.isSome then q.frameSeq + 1 else q.frameSeq }

/-- FRAME_SEQ of the first frame that a spool holds; 0 on a word spool (R36). -/
def firstSeq (q : Spool) : Nat :=
  if !q.frames then 0
  else match q.slots.find? (fun x => x.tag != 0) with
    | some x => if x.tag = 2 then x.word.toNat / 4294967296 % 65536 else if x.tag = 1 then x.word.toNat / 65536 % 65536 else q.frameSeq.toNat
    | none => q.frameSeq.toNat

/-- Items of a list of slots: frames on a frame spool, words on a word spool; a marker counts what it counts. -/
def items (q : Spool) : Nat := total q.slots (fun x => if x.tag = 2 then x.dropped else if q.frames then bit (x.tag != 0) else 1)

/-- The consumer's block is reset: the spool is emptied, and a marker counts what it held (R39). It is the first item read also where nothing was held (DEDUCED, log 32). -/
def consumerLost (q : Spool) : Spool :=
  { q with slots := [snagSlot q.items q.firstSeq], openSince := none, discarding := q.openSince.isSome || q.discarding, stalled := false, wordsLeft := 0,
           frameSeq := if q.openSince.isSome then q.frameSeq + 1 else q.frameSeq }

/-- A cell is fenced, or a block reset: the spools that a cell there produces into get their marker, and those that a reset block's cells read are emptied (R21, R39). -/
def lostIn (q : Spool) (i : U16) : Spool :=
  let inI (c : U16) : Bool := c == i || (cellNo i == 63 && blockOfIsland c == i)
  let q := if inI q.producer then q.producerLost else q
  if cellNo i = 63 ∧ inI q.consumer then q.consumerLost else q

end Spool

namespace State

/-- A spool; one not yet listed has met every fence and reset since the device's own (R21, R39). -/
def spool (s : State) (n : Nat) : Spool := (tget s.fab.spools n).getD (s.fab.lost.foldl Spool.lostIn (freshSpool n))
/-- Change a spool. -/
def modSpool (s : State) (n : Nat) (f : Spool → Spool) : State := { s with fab := { s.fab with spools := tput s.fab.spools n (f (s.spool n)) } }
/-- A cell is fenced or a block reset, as every spool meets it. -/
def loseSpools (s : State) (i : U16) : State := { s with fab := { s.fab with spools := tmap s.fab.spools (fun _ q => q.lostIn i), lost := s.fab.lost ++ [i] } }

/-! ### Records of cells, blocks and regions -/

/-- Change a cell. -/
def modCell (s : State) (i : U16) (f : Cell → Cell) : State := { s with fab := { s.fab with cells := tput s.fab.cells i.toNat (f (s.cell i)) } }
/-- Change a block. -/
def modBlock (s : State) (b : U16) (f : Block → Block) : State := { s with fab := { s.fab with blocks := tput s.fab.blocks b.toNat (f (s.block b)) } }
/-- DEGRADED follows the cells and blocks out of service, and the channels out of use (03 Table 3-12, 15 R381). -/
def degrade (s : State) : State := s.readyBit 6 (s.degradedNow || s.mem.chans.toList.any (fun c => c.state == 2))

/-- Healthy cells of a kind in a block. -/
def kindLeft (s : State) (region blk kind : Nat) : Nat :=
  ((List.range (cellsOf region blk)).filter (fun c => cellKind region blk c == kind && !s.cellOut (island region blk c))).length

/-- A region has a block of a kind that is not retired. -/
def blockLeft (s : State) (region kind : Nat) : Bool :=
  (blocksOf region).any (fun b => blockKind region b == kind && (s.block (blockIsland region b)).phase != .retired)

/-! ### What a reset loses (01 R24, R29) -/

/-- Commands that act on a region when it is reset complete with FAULT (R29): the Ethernet block's net.port, and what the Keeping region carries out. -/
def faultCommands (s : State) (region blk : Nat) : State :=
  if region = 2 ∧ blk = 0 then
    ([0, 1] : List (Fin 2)).foldl (fun s p =>
      match (s.port p).initFor with
      | some (m, n) => (s.modPort p (fun q => { q with initFor := none })).finish m n (Rep.fail St.fault)
      | none => s) s
  else if region = 5 then
    let pass := s.keep.passFor
    let image := s.keep.imageFor
    let saving := s.patt.saving
    let format := s.keep.formatFor
    let waits := (s.keep.open_ ++ s.keep.groups.flatMap (·.entries) ++ s.keep.staged).filterMap (·.ack)
    let s := match format with
      | some (m, n) => s.finish m n (Rep.fail St.fault)
      | none => s
    let s := waits.foldl (fun s a => s.finish a.1 a.2 (Rep.fail St.fault)) s
    let s := match pass with
      | some (m, n) => s.raiseDone m n 0x0D81 St.fault (le 24 0)
      | none => s
    let s := match image with
      | some (m, n, _, _) => s.finish m n (Rep.fail St.fault)
      | none => s
    let s := match saving with
      | some (m, n, _, _) => s.patternDone (some (m, n)) St.fault 0x0E00 s.patt.running 0xFFFF 0xFFFF 0
      | none => s
    let done (l : List JEntry) : List JEntry := l.map (fun e => { e with ack := none })
    { s with keep := { s.keep with pass := none, passFor := none, imageFor := none, formatFor := none, open_ := done s.keep.open_, staged := done s.keep.staged,
                                   groups := s.keep.groups.map (fun g => { g with entries := done g.entries }) }, patt := { s.patt with saving := none } }
  else s

/-- The work a block carried is lost at its reset; its configuration comes back with it (R24, R28). -/
def loseBlock (s : State) (region blk : Nat) : State :=
  let mine (code : Nat) (l : List (Nat × Nat)) : Bool := l.any (fun p => blockOfIsland (laneIsland code p.1) == blockIsland region blk)
  let s := s.faultCommands region blk
  match region with
  | 0 => (List.range 16).foldl (fun s c => s.fenceDsp (island 0 blk c)) (s.modDisp (fun d => { d with blocks := tdel d.blocks blk }))
  | 1 =>
    let keyed := (s.pic.enc.filter (fun p => mine 9 p.2.lanes)).map (·.1)
    let s := s.modPic (fun p => { p with
      dec := tmap p.dec (fun _ d => if mine 8 d.lanes then d.lose else d),
      enc := tmap p.enc (fun _ e => if mine 9 e.lanes then { e with waiting := 0, layers := Vector.replicate 3 {} } else e) })
    keyed.foldl (fun s i => s.wantKey i 0 false) s
  | 2 =>
    if blk = 0 then s.modNet (fun n => { n with ports := n.ports.map (fun p => { p with tsq := [] }), ifaces := tmap n.ifaces (fun _ f => { f with occupancy := 0 }) })
    else if blk = 2 then s.modNet (fun n => { n with legq := tmap n.legq (fun _ q => { q with frames := [], tag := none }), ifaces := tmap n.ifaces (fun _ f => { f with fifos := Vector.replicate 8 {} }) })
    else s
  | 3 => if s.isTerminal (fin2 blk) ∧ 1 < (s.accPort (fin2 blk)).state ∧ (s.accPort (fin2 blk)).state ≠ 7 then s.accState (fin2 blk) 1 0 else s
  | 5 => (s.modKeep (fun k => { k with mount := .unmounted, keepTime := s.keepTime, staged := k.staged ++ k.groups.flatMap (·.entries) ++ k.open_, groups := [], open_ := [],
                                       nextGseq := k.groups.head?.elim k.nextGseq (·.gseq) })).setReadiness (s.boot.readiness &&& ~~~ 0x0022)
  | _ => s

/-- A block is reset: seams not yet decided lose it, its spools are emptied or marked, its work is lost, its cells' requests that wait are gone with it, and its self-test begins (R22, R24, R28, R39). The seams it unpicked are kept for its record. -/
def resetBlock (s : State) (b : U16) : State :=
  let inB (c : U16) : Bool := blockOfIsland c == b
  let seams := s.faultedSeams inB
  let s := (s.faultSeams inB b).loseSpools b
  let s := s.loseBlock (regionOf b) (blockNo b)
  let s := s.modVia (fun v => { v with waiting := v.waiting.filter (fun r => !inB r.cell), balance := tdel v.balance b.toNat })
  s.modBlock b (fun x => { x with phase := .selfTest, fenceAt := none, seamId := seams.1, seamCount := seams.2 })

/-! ### Chip level (R20, R25, R27) -/

/-- Claims are released and the peer is told (12 R320, R326). -/
def claimStep (s : State) : State := (s.releaseClaims).mirror 16

/-- The device resets for a fault; its record is written by the boot that follows (R25, R30). -/
def faultReset (s : State) (location : U16) (cause : Nat) (detail : U32) : State := s.deviceReset 2 3 (some (s.resetRec location (BitVec.ofNat 8 cause) detail))

/-- A fault reaches the chip level: claims go, gated outputs fall, then the region or the device resets (R20, R25). The record of the escalation has the level that passed it on. -/
def chipLevel (s : State) (region cause : Nat) (detail : U32 := 0) (fromLevel : Nat := 2) : State :=
  let s := s.claimStep
  if region = 4 ∨ region = 6 then s.faultReset (regionIsland region) cause detail
  else
    let hit (c : U16) : Bool := regionOf c == region
    let seams := s.faultedSeams hit
    let live := (blocksOf region).filter (fun b => (s.block (blockIsland region b)).phase != .retired)
    let s := live.foldl (fun s b => s.resetBlock (blockIsland region b)) s
    let s : State := { s with fab := { s.fab with regions := tput s.fab.regions region { cause := BitVec.ofNat 8 cause, since := s.clk } } }
    if fromLevel < 3 then s.faultRec (regionIsland region) fromLevel cause 6 seams.1 seams.2 detail else s

/-- Every block of a region under reset has left its self-test: the region is recovered. A unit without a peer has its outputs released again; in a pair it rejoins; the Keeping region mounts (R26, R27). -/
def regionDone (s : State) (region : Nat) : State :=
  match tget s.fab.regions region with
  | none => s
  | some r =>
    if (blocksOf region).any (fun b => (s.block (blockIsland region b)).phase == .selfTest) then s
    else
      let s : State := { s with fab := { s.fab with regions := tdel s.fab.regions region } }
      let s := s.faultRec (regionIsland region) 3 r.cause.toNat 4
      let s := if s.fab.regions = [] then
          let s := s.modTwin (fun t => { t with released := false })
          if s.twin.state = .alone then s else if s.twin.state = .joining then s else (s.dropMedia.modTwin (fun t => { t with joinWins := 0, step := 0, resyncUntil := none, retryAt := none })).setTwin .joining 0
        else s
      s

/-! ### Region level (R20, R24) -/

/-- A block fault passes to the region: it drains the block (R20); in the Memory and Pier regions it leads to device reset (R25, 15 R382). -/
def blockFault (s : State) (b : U16) (cause : Nat) (detail : U32 := 0) : State :=
  let region := regionOf b
  if region = 7 ∨ !isBlock b ∨ (s.block b).phase ≠ .inService ∨ thas s.fab.regions region then s
  else
    let s := s.faultRec b 1 cause 6 (detail := detail)
    if region = 4 ∨ region = 6 then s.chipLevel region cause detail
    else s.modBlock b (fun x => { x with phase := .draining, cause := BitVec.ofNat 8 cause, detail, since := s.clk })

/-! ### Block level (R20 to R22) -/

/-- Fences of the last 24 hours of chip time. -/
def recentFences (s : State) (i : U16) : List Nat := (s.cell i).fences.filter (fun t => decide (s.chipS < t + 86400))

/-- A block fences a cell (R21, R22, R28): its seams, its tasks, its spools; the third fence within 24 hours retires it. A fence on the standby alone that touches media costs it its synchronisation (12 R315). Where no healthy cell of its kind is left, the fault passes to the region. -/
def fence (s : State) (i : U16) (cause : Nat) (detail : U32 := 0) : State :=
  if !isCell i ∨ s.cellOut i ∨ regionOf i = 7 then s
  else
    let seams := s.faultedSeams (fun c => c == i)
    let fences := s.recentFences i ++ [s.chipS]
    let s := s.modCell i (fun c => { c with fenced := true, fault := none, fences })
    let s := if regionOf i = 0 then s.fenceDsp i else s
    let s := (s.loseSpools i).modVia (fun v => { v with waiting := v.waiting.filter (fun r => r.cell != i) })
    let s := s.modBlock (blockOfIsland i) (fun b => { b with fenceAt := some (s.clk, detail) })
    let s := s.faultSeams (fun c => c == i) i
    let s := s.faultRec i 1 cause 1 seams.1 seams.2 detail
    let s := if 3 ≤ fences.length then
        ((s.modCell i (fun c => { c with retired := true })).journal { kind := .retire i.toNat }).faultRec i 1 0xD 3
      else s
    let s := s.degrade
    let s := if regionOf i ≤ 2 then s.leaveSync 3 else s
    if s.kindLeft (regionOf i) (blockNo i) (cellKind (regionOf i) (blockNo i) (cellNo i)) = 0 then s.blockFault (blockOfIsland i) cause detail else s

end State

/-! ### Cell rows -/

/-- A cipher pipeline reports a failed operation: in a class of twin-compute it is a mismatch, counted as COMPARE_FAIL on the packet's leg (10 R278). -/
def State.compareFail (s : State) (cell : U16) (cause : U8) : State :=
  match (List.range 10).find? (fun p => pipeCell p == cell) with
  | some p =>
    match tget s.cip.pipes p with
    | some n => if cause ≠ 1 ∧ (s.cip.classes[(s.keySlot n).cls]?).any (·.check) then s.countCipher (if n < accessBase then some (n / 4) else none) 6 else s
    | none => s
  | none => s

/-- A cell detects a fault of its state or a failed operation, and retries it once (R20). -/
def cellFaultDetect (cell : U16) (cause : U8) (detail : U32) (s : State) : State :=
  let s := s.compareFail cell cause
  if isCell cell ∧ regionOf cell ≠ 7 ∧ (s.block (blockOfIsland cell)).phase = .inService then s.cellFail cell cause.toNat detail else s

/-- CELL_FAULT_DETECT. -/
def execCellFaultDetect (cell : U16) (cause : U8) (detail : U32) (s : State) : Host.Outcome State Fault Refusal := .next (cellFaultDetect cell cause detail s)

/-- The retry ends: a success is counted, and recorded the first time in each hour of chip time (R30); a failure passes to the block, which fences the cell. A control spool's snag keeps its own cause (R41). -/
def cellRetryResult (cell : U16) (ok : Bool) (s : State) : State :=
  match (s.cell cell).fault with
  | none => s
  | some f =>
    if ok then
      let first := (s.cell cell).lastRecord.all (fun t => t / 3600 != s.chipS / 3600)
      let s := s.modCell cell (fun c => { c with fault := none, corrected := c.corrected + 1, lastRecord := if first then some s.chipS else c.lastRecord })
      (if first then s.faultRec cell 0 f.cause.toNat 0 (detail := f.detail) else s).fin
    else (s.fence cell (if f.cause = 0xC then 0xC else 2) f.detail).fin

/-- CELL_RETRY_RESULT. -/
def execCellRetryResult (cell : U16) (ok : Bool) (s : State) : Host.Outcome State Fault Refusal := .next (cellRetryResult cell ok s)

/-- CELL_SILENT: a cell that does not answer its block within 100 µs is treated as a failed retry (R20). -/
def execCellSilent (cell : U16) (s : State) : Host.Outcome State Fault Refusal := .next (s.fence cell 3).fin

/-- A participant that has not acknowledged an unpick within 100 µs counts as silent (02 R57). -/
def unpickAckTimeout (cell : U16) (s : State) : State :=
  if s.seams.unacked.any (fun u => u.1 == cell && decide (u.2 ≤ s.clk)) then
    let s : State := { s with seams := { s.seams with unacked := s.seams.unacked.filter (fun u => u.1 != cell) } }
    (s.fence cell 3).fin
  else s

/-- UNPICK_ACK_TIMEOUT. -/
def execUnpickAckTimeout (cell : U16) (s : State) : Host.Outcome State Fault Refusal := .next (unpickAckTimeout cell s)

/-- A level has not finished within its bound, and the fault passes on with BOUND_EXPIRED (R20): a cell's retry after 10 µs, a block's fencing after 1 ms, a region's work on a block after 5 ms. Whether fencing has finished is the row's own word: the state holds when it began. -/
def boundExpired (i : U16) (s : State) : State :=
  if cellNo i ≠ 63 then
    if (s.cell i).fault.any (fun f => decide (f.since + State.ticksOfUs 10 ≤ s.clk)) then (s.fence i 9).fin else s
  else
    let b := s.block i
    if (b.phase = .draining ∨ (b.phase = .selfTest ∧ b.cause ≠ 0)) ∧ !thas s.fab.regions (regionOf i) ∧ b.since + 5 * State.ticksPerMs ≤ s.clk then
      (s.chipLevel (regionOf i) 9 b.detail).fin
    else match b.fenceAt with
      | some f => if b.phase = .inService ∧ f.1 + State.ticksPerMs ≤ s.clk then ((s.modBlock i (fun x => { x with fenceAt := none })).blockFault i 9 f.2).fin else s
      | none => s

/-- BOUND_EXPIRED. -/
def execBoundExpired (island : U16) (s : State) : Host.Outcome State Fault Refusal := .next (boundExpired island s)

/-! ### Block and region rows -/

/-- Self-test of a block's cells: a fenced cell that passes returns to service, one that fails stays or becomes fenced; a new fence is recorded, counts toward retirement, and touches no seam or task (R22, R30). A retired cell stays out. -/
def State.selfTested (s : State) (b : U16) (failed : List Nat) : State :=
  (List.range (cellsOf (regionOf b) (blockNo b))).foldl (fun s c =>
    let i := island (regionOf b) (blockNo b) c
    if (s.cell i).retired then s
    else if !failed.contains c then (if thas s.fab.cells i.toNat then s.modCell i (fun q => { q with fenced := false, fault := none }) else s)
    else if (s.cell i).fenced then s.modCell i (fun q => { q with fault := none })
    else
      let fences := s.recentFences i ++ [s.chipS]
      let s := (s.modCell i (fun q => { q with fenced := true, fault := none, fences })).faultRec i 2 0xA 1
      if 3 ≤ fences.length then ((s.modCell i (fun q => { q with retired := true })).journal { kind := .retire i.toNat }).faultRec i 2 0xD 3 else s) s

/-- A reset block's self-test ends: it returns with the fenced cells that pass, or is retired, which faults the region where its kind is gone (R22, R23). -/
def blockSelfTest (b : U16) (failed : List Nat) (pass : Bool) (s : State) : State :=
  let x := s.block b
  if x.phase ≠ .selfTest then s
  else
    let region := regionOf b
    let alone := !thas s.fab.regions region
    if pass then
      let s := (s.modBlock b (fun y => { y with phase := .inService })).selfTested b failed
      let s := if alone ∧ x.cause ≠ 0 then s.faultRec b 2 x.cause.toNat 2 x.seamId x.seamCount x.detail else s
      let s := s.degrade
      let s := s.regionDone region
      (if region = 5 ∧ s.keep.mount = .unmounted ∧ !thas s.fab.regions 5 ∧ (s.block (blockIsland 5 0)).phase ≠ .selfTest ∧ (s.block (blockIsland 5 1)).phase ≠ .selfTest then
        s.modKeep (fun k => { k with mount := .reading }) else s).fin
    else
      let s := s.modBlock b (fun y => { y with phase := .retired })
      let s := (s.journal { kind := .retire b.toNat }).faultRec b 2 0xA 3
      let s := s.degrade
      (if s.blockLeft region (blockKind region (blockNo b)) then s.regionDone region else s.chipLevel region 0xA).fin

/-- BLOCK_SELF_TEST_DONE. -/
def execBlockSelfTestDone (block : U16) (failedCells : List Nat) (blockPass : Bool) (s : State) : Host.Outcome State Fault Refusal :=
  .next (blockSelfTest block failedCells blockPass s)

/-- BLOCK_MEM_PARITY: a block fault; DETAIL is the failing word address (R20, Table 1-7). -/
def execBlockMemParity (block : U16) (address : U32) (s : State) : Host.Outcome State Fault Refusal := .next (s.blockFault block 4 address).fin

/-- A fault that reaches the chip level names a region; Keystone is outside the chain (R20, R25). -/
def chipFault (region : Nat) (cause detail : Nat) (s : State) : State :=
  if region = 7 ∨ thas s.fab.regions region then s else (s.chipLevel region cause (BitVec.ofNat 32 detail) 3).fin

/-- CHIP_FAULT. -/
def execChipFault (region : Fin 8) (cause : U8) (detail : U32) (s : State) : Host.Outcome State Fault Refusal := .next (chipFault region.val cause.toNat detail.toNat s)

/-- An arbiter's fault passes to the level above: a block arbiter's to the region, a region arbiter's to the chip, the chip arbiter's to device reset (R17, R20). The cell's own arbiter has no fault of its own. -/
def arbiterFault (i : U16) (level : Nat) (s : State) : State :=
  match level with
  | 1 => (s.blockFault (blockOfIsland i) 8).fin
  | 2 => if regionOf i = 7 ∨ thas s.fab.regions (regionOf i) then s else (s.chipLevel (regionOf i) 8).fin
  | 3 => (s.claimStep.faultReset i 8 0).fin
  | _ => s

/-- ARBITER_FAULT. -/
def execArbiterFault (island : U16) (level : Fin 4) (s : State) : Host.Outcome State Fault Refusal := .next (arbiterFault island level.val s)

/-- A region not recovered within 250 ms resets the device (R20). -/
def regionTimeout (region : Nat) (s : State) : State :=
  match tget s.fab.regions region with
  | some r => if r.since + 250 * State.ticksPerMs ≤ s.clk then (s.faultReset (regionIsland region) 9 0).fin else s
  | none => s

/-- REGION_RECOVERY_TIMEOUT. -/
def execRegionRecoveryTimeout (region : Fin 8) (s : State) : Host.Outcome State Fault Refusal := .next (regionTimeout region.val s)

/-! ### Spans (R15, R16) -/

/-- A span's fault: of the block at its port, or of the region on the receiving side (R16). -/
def State.spanFault (s : State) (span : Nat) (dieCrossing toRegion : Bool) (target : U16) (cause : Nat) : State :=
  if toRegion ∧ !dieCrossing then (s.blockFault (blockOfIsland target) cause (BitVec.ofNat 32 span)).fin else chipFault (regionOf target) cause span s

/-- A flit fails parity or CRC: it is resent once, or the link replays up to 8 times within 1 µs; then the span faults (R15, R16). The 1 µs runs from the first replay of the run; an error later than that starts a new run at 1 (DESIGN CHOICE, log 74: Table 1-3 says only up to 8 times within 1 µs). -/
def spanFlitError (span : Nat) (dieCrossing toRegion resent : Bool) (target : U16) (s : State) : State :=
  if !dieCrossing then (if resent then s.spanFault span false toRegion target 5 else s)
  else
    let x := (tget s.fab.spans span).getD {}
    let x : Span := if x.replays ≠ 0 ∧ s.clk ≤ x.firstReplay + State.ticksOfUs 1 then { x with replays := x.replays + 1 } else { replays := 1, firstReplay := s.clk }
    if 8 < x.replays then
      let s : State := { s with fab := { s.fab with spans := tdel s.fab.spans span } }
      s.spanFault span true toRegion target 6
    else { s with fab := { s.fab with spans := tput s.fab.spans span x } }

/-- SPAN_FLIT_ERROR. -/
def execSpanFlitError (span : Nat) (dieCrossing toRegion resent : Bool) (target : U16) (s : State) : Host.Outcome State Fault Refusal :=
  .next (spanFlitError span dieCrossing toRegion resent target s)

/-- SPAN_WATCHDOG (R15, R16). -/
def execSpanWatchdog (span : Nat) (dieCrossing toRegion : Bool) (target : U16) (s : State) : Host.Outcome State Fault Refusal :=
  .next (s.spanFault span dieCrossing toRegion target 7)

/-! ### Spool rows -/

/-- Credits of class 0 on the span of a cell's block: 4 are reserved, and an item of a control spool to another block holds one until its consumer has taken it (R13, R41; that class 0 has no other credits: DESIGN CHOICE, log 74). -/
def State.controlCredits (s : State) (c : U16) : Nat :=
  4 - total s.fab.spools (fun p => if p.2.class0 && blockOfIsland p.2.producer == blockOfIsland c && blockOfIsland p.2.consumer != blockOfIsland c then p.2.slots.length else 0)

/-- A producer of a control spool writes only when it holds a credit (R41). -/
def State.mayWrite (s : State) (n : Nat) : Bool :=
  let q := s.spool n
  !q.class0 || (decide (0 < q.credits) && (blockOfIsland q.producer == blockOfIsland q.consumer || decide (0 < s.controlCredits q.producer)))

/-- SPOOL_WRITE (R34 to R36): a producer without a credit waits. -/
def execSpoolWrite (spool : Nat) (op : SpoolOp) (s : State) : Host.Outcome State Fault Refusal :=
  .next (if s.mayWrite spool then s.modSpool spool (fun q => q.write s.clk op) else s)

/-- The spool that a consumer cell serves next: the one whose frame it is reading, else a control spool, else the others, by rotating pick, one item per turn (R17, R31). -/
def State.cellPick (s : State) (c : U16) : Option Nat :=
  let mine := s.fab.spools.filter (fun p => p.2.consumer == c && p.2.slots.head?.any (fun x => x.tag != 3))
  match s.fab.spools.find? (fun p => p.2.consumer == c && p.2.wordsLeft != 0) with
  | some p => some p.1
  | none =>
    let control := mine.filter (fun p => p.2.class0)
    rotPick ((if control = [] then mine else control).map (·.1)) (tget s.fab.via.inputTurn c.toNat)

/-- OBJECT of the frames around the oldest slot: of the frame before the gap, or of the one after it (R40). -/
def Spool.around (q : Spool) : Nat := if q.object ≠ 0 then q.object else ((q.slots.find? (fun x => x.tag == 1)).map (fun x => x.word.toNat / 281474976710656)).getD 0

/-- What the consumer of a media spool does at a snag marker, by the cell that reads it (Table 1-9). The queues' drops and the lost stamp are each unit's own (12 R315); a Keeping spool never has a marker. -/
def State.snagAct (s : State) (n : Nat) (q : Spool) (dropped : Nat) : State :=
  let x := q.around
  let d := BitVec.ofNat 32 dropped
  match regionOf q.consumer, blockNo q.consumer with
  | 0, _ =>
    if q.frames then s.modLegSnd x (fun l => { l with jb := { l.jb with lost := l.jb.lost + d } })
    else
      let o := Config.spoolObject n
      if o < 65536 then s.modLegSnd o (fun l => { l with missed := true }) else s.modMix (o - 65536) (fun m => { m with missed := true })
  | 1, b => if b < 12 then s.modDec x (·.snag) else s.modLayout x (fun y => { y with snags := y.snags ++ [Config.spoolObject n % 64] })
  | 2, b =>
    if b = 0 then s.modPort (fin2 (cellNo q.consumer)) (fun p => { p with tsq := p.tsq.dropLast, tsqOverflow := p.tsqOverflow + BitVec.ofNat 64 dropped })
    else if b = 1 then s.modFwd (fun w => { w with sources := tput w.sources x (let y := (tget w.sources x).getD {}; { y with gaps := y.gaps + d }) })
    else if b = 2 then s.modLegQ x (fun l => { l with qdropFull := l.qdropFull + d })
    else if b = 3 then s.countCipher (some x) 7 dropped
    else s
  | _, _ => s

/-- A snag on a media spool is the primary's to decide: it acts and names the event in its next decision record; a standby acts only on the primary's word, and one of its own costs it its synchronisation (R12, R40; 12 R313, R315). Forwarding, queues and stamps are each unit's own. -/
def State.mediaSnag (s : State) (n : Nat) (q : Spool) (dropped : Nat) : State :=
  if regionOf q.consumer = 2 then s.snagAct n q dropped
  else if s.twin.state = .standby then (if s.twin.events.contains (.snag n dropped) then s else s.leaveSync 3)
  else
    let s := s.snagAct n q dropped
    if s.twin.state = .primary then s.modTwin (fun t => { t with events := t.events ++ [.snag n dropped] }) else s

/-- A consumer reads, where the arbiter of its inputs serves this spool: it stalls on an empty spool and on a reserved slot, else takes the oldest slot; at a marker it acts; one on a control spool is a fault of the producer cell (R31, R33, R40, R41). -/
def spoolRead (n : Nat) (s : State) : State :=
  let s := s.modSpool n (fun q => q)
  let q := s.spool n
  if (s.cellPick q.consumer).any (fun k => k != n) ∧ q.slots.head?.any (fun x => x.tag != 3) then s
  else match q.slots with
  | [] => s.modSpool n (fun q => { q with stalled := true, taken := none })
  | x :: rest =>
    if x.tag = 3 then s.modSpool n (fun q => { q with stalled := true, taken := none })
    else
      let left := if x.tag = 1 then (x.word.toNat % 65536 + 7) / 8 else if x.tag = 0 then q.wordsLeft - 1 else 0
      let s := s.modSpool n (fun q => { q with
        slots := rest, stalled := false, taken := some x, wordsLeft := left,
        object := if x.tag = 1 then x.word.toNat / 281474976710656 else q.object,
        snagged := if x.tag = 2 then q.snagged + x.dropped else q.snagged })
      let s := if left = 0 then s.modVia (fun v => { v with inputTurn := tput v.inputTurn q.consumer.toNat n }) else s
      if x.tag ≠ 2 then s else if q.class0 then s.cellFail q.producer 0xC (BitVec.ofNat 32 n) else (s.mediaSnag n { q with slots := rest } x.dropped).fin

/-- SPOOL_READ. -/
def execSpoolRead (spool : Nat) (s : State) : Host.Outcome State Fault Refusal := .next (spoolRead spool s)

/-- A reserved length slot is not filled within 10 µs: the frame is withdrawn and the producer is treated as having failed its retry (R37). -/
def lengthUnfilled (n : Nat) (s : State) : State :=
  let q := s.spool n
  if q.openSince.any (fun t => decide (t + State.ticksOfUs 10 ≤ s.clk)) then ((s.modSpool n (fun q => q.withdraw true)).fence q.producer 0xB (BitVec.ofNat 32 n)).fin else s

/-- LENGTH_UNFILLED. -/
def execLengthUnfilled (spool : Nat) (s : State) : Host.Outcome State Fault Refusal := .next (lengthUnfilled spool s)

end Sys2Proof.Machine
end

