-- ==== Sys2Proof/Machine/Viaduct.lean ====
section
/-! DEFINITION. The Viaduct and what shares it: traffic classes and credits (01 R13, R14, R42), the arbiters of Table 1-4 with the region weights and the chip floors (01 R17 to R19), and the bank queues of a memory channel with the order of its activates (15 R384 to R386). -/

namespace Sys2Proof.Machine

open Sys2Proof

/-! ### Traffic classes and credits (Table 1-2) -/

/-- The traffic classes of a span (Table 1-2). -/
inductive TrafficClass where
  | control | request | response | spool
  deriving DecidableEq, Repr

namespace State

/-- Change the memory region. -/
def modMem (s : State) (f : Memory → Memory) : State := { s with mem := f s.mem }
/-- A channel. -/
def chan (s : State) (c : Nat) : MemChan := (s.mem.chans.toList[c]?).getD {}
/-- Change a channel. -/
def modChan (s : State) (c : Nat) (f : MemChan → MemChan) : State := s.modMem (fun m => { m with chans := m.chans.set! c (f (s.chan c)) })

/-- Requests that a channel holds: in its bank queues, or issued and not yet complete. -/
def held (s : State) (c : Nat) : List DramReq := (s.chan c).queues.flatMap (·.2) ++ (s.chan c).issued

/-- Outstanding class 1 requests of a cell (R42). -/
def outstanding (s : State) (cell : U16) : Nat := total (List.range 12) (fun c => ((s.held c).filter (fun r => r.cell == cell)).length)

/-- Credits of a cell for a class, by Table 1-2: each class by its own rule, so none blocks another (R13). A response is granted with its request. -/
def credits (s : State) (k : TrafficClass) (cell : U16) (spool : Nat) : Nat :=
  match k with
  | .control => s.controlCredits cell
  | .request => 64 - s.outstanding cell
  | .response => s.outstanding cell
  | .spool => (s.spool spool).credits

/-- Requests that a bank queue holds (15 R384). -/
def bankQueue (s : State) (c bank : Nat) : List DramReq := (tget (s.chan c).queues bank).getD []

/-- Waiting requests that their cell may send now: the oldest of a cell to its target, with a credit, to a bank queue with room (R13, R14, R42). -/
def sendable (s : State) : List DramReq :=
  s.fab.via.waiting.filter (fun r =>
    !s.fab.via.waiting.any (fun x => decide (x.seq < r.seq) && x.cell == r.cell && x.chan == r.chan) &&
    s.credits .request r.cell 0 != 0 && decide ((s.bankQueue r.chan r.bank).length < 32) && !s.cellOut r.cell)

/-! ### The arbiters (R17 to R19) -/

/-- Floors of Table 1-5 in bytes per µs at full population; Keystone's is its bound. -/
def floorAtFull (region : Nat) : Nat :=
  match region with
  | 0 => 20000 | 1 => 220000 | 2 => 110000 | 3 => 8000 | 4 => 4000 | 5 => 16000 | 6 => 16000 | _ => 2000

/-- A bandwidth at full population, as the card's channels and rate scale it (R19). -/
def scaled (s : State) (bytes : Nat) : Nat := bytes * (s.mem.n * (s.chan 0).rate) / (12 * 6400)

/-- DRAM floor of a region on this card, in bytes per µs: every floor but Keystone's scales (R19). -/
def dramFloor (s : State) (region : Nat) : Nat := if region = 7 then floorAtFull 7 else s.scaled (floorAtFull region)

/-- Bytes that the controllers deliver in 1 µs: the sustained planning figure, scaled (R19). -/
def sustained (s : State) : Nat := s.scaled 430000

/-- Bytes that a region was served in the running interval. -/
def servedOf (s : State) (region : Nat) : Nat := (tget s.fab.via.served region).getD 0

/-- Region weight of a block, as Pier sets it from the admitted load: 1 and its load, so that blocks of one kind weigh the same unless their loads differ (R18; the measure is the model's, log 74). -/
def loadWeight (s : State) (region blk : Nat) : Nat :=
  1 + (match region with
    | 0 => s.blockTasks blk
    | 1 => total [8, 9, 10] (fun code => total (List.range (laneCount code)) (fun l => if blockOfIsland (laneIsland code l) = blockIsland 1 blk then s.laneUsed code l else 0))
    | _ => 0)

/-- Weight of a block at the last refill. -/
def weightOf (s : State) (b : U16) : Nat := (tget s.fab.via.weights b.toNat).getD 1

/-- Credit that a refill gives a block: its region's floor, shared by weight (R17). -/
def refillShare (s : State) (b : U16) : Nat :=
  let region := regionOf b
  let all := total (blocksOf region) (fun k => s.weightOf (blockIsland region k))
  max 1 (s.dramFloor region * s.weightOf b / max 1 all)

/-- Credit balance of a block; one that has not issued holds one refill. -/
def balanceOf (s : State) (b : U16) : Int := (tget s.fab.via.balance b.toNat).getD (s.refillShare b)

/-- Blocks with a request to send. -/
def askingBlocks (s : State) : List U16 := (s.sendable.map (fun r => blockOfIsland r.cell)).eraseDups

/-- Intervals of 1 µs until some block that asks has a positive balance; at least one. -/
def intervalsDue (s : State) : Nat :=
  let need (b : U16) : Nat := ((1 - s.balanceOf b).toNat + s.refillShare b - 1) / s.refillShare b
  max 1 ((s.askingBlocks.map need).foldl min (((s.askingBlocks.map need).head?).getD 1))

/-- Intervals of 1 µs begin: Pier's weights are the load's, every balance refills, at most to one interval's share, and the service counts start again (R17, R18; the bound on a balance is the model's, log 74). -/
def refill (s : State) (intervals : Nat) : State :=
  let weights := [0, 1].flatMap (fun r => (blocksOf r).map (fun b => ((blockIsland r b).toNat, s.loadWeight r b)))
  let s := s.modVia (fun v => { v with weights, served := [], refillAt := s.clk })
  s.modVia (fun v => { v with balance := tmap v.balance (fun b x => min (x + (intervals * s.refillShare (BitVec.ofNat 16 b) : Nat)) (s.refillShare (BitVec.ofNat 16 b))) })

/-- The chip arbiter's choice among requests: Keystone's first, within its bound; else the region that has been served the least of its floor, so that floors are met first and what is left over goes by floors; ties to the lower region (R17, R19; which region goes first: the model's, log 74). -/
def pickRegion (s : State) (l : List DramReq) : Option Nat :=
  let delivered := total (List.range 8) s.servedOf
  let asks (r : Nat) : Bool := l.any (fun q => regionOf q.cell == r && decide (0 < s.balanceOf (blockOfIsland q.cell)))
  if s.sustained ≤ delivered then none
  else if asks 7 ∧ s.servedOf 7 < s.dramFloor 7 then some 7
  else ((List.range 7).filter asks).foldl (fun best r => match best with
    | none => some r
    | some k => if s.servedOf r * s.dramFloor k < s.servedOf k * s.dramFloor r then some r else some k) none

/-- The region arbiter's choice: of the blocks with a positive balance, the one with the highest; ties to the lower block (R17; which of them: the model's, log 74). -/
def pickBlock (s : State) (region : Nat) (l : List DramReq) : Option U16 :=
  let asks := (blocksOf region).filter (fun b => decide (0 < s.balanceOf (blockIsland region b)) && l.any (fun q => blockOfIsland q.cell == blockIsland region b))
  (asks.foldl (fun best b => match best with
    | none => some b
    | some k => if s.balanceOf (blockIsland region k) < s.balanceOf (blockIsland region b) then some b else some k) none).map (blockIsland region)

/-- The request that goes next: chip, region, then the block's rotating pick among its cells, then the cell's oldest (R14, R17). -/
def pickRequest (s : State) (l : List DramReq) : Option DramReq := do
  let region ← s.pickRegion l
  let b ← s.pickBlock region l
  let mine := l.filter (fun q => blockOfIsland q.cell == b)
  let cells := (List.range 63).filter (fun c => mine.any (fun q => cellNo q.cell == c))
  let c ← rotPick cells (tget s.fab.via.blockTurn b.toNat)
  mine.find? (fun q => cellNo q.cell == c)

/-! ### Bank queues (15 R384 to R386) -/

/-- A request is a write. -/
def isWrite (r : DramReq) : Bool := match r.op with | .tableWrite .. => true | .read .. => false

/-- A bank queue takes a request: a Keystone request at the head, or behind the write that holds the bank in in-order mode (R384). -/
def queueIn (q : List DramReq) (mode : Option Nat) (r : DramReq) : List DramReq :=
  if regionOf r.cell ≠ 7 then q ++ [r]
  else match mode with
    | none => r :: q
    | some w => q.takeWhile (fun x => x.seq != w) ++ q.filter (fun x => x.seq == w) ++ r :: (q.dropWhile (fun x => x.seq != w)).drop 1

/-- In-order mode after a read has come: until the newest pending write to its row has issued (R384). -/
def modeAfter (q : List DramReq) (mode : Option Nat) (r : DramReq) : Option Nat :=
  if isWrite r then mode
  else match (q.filter (fun x => isWrite x && x.row == r.row)).getLast? with
    | none => mode
    | some w => match mode with
      | none => some w.seq
      | some k => if q.any (fun x => x.seq == k) ∧ (q.takeWhile (fun x => x.seq != k)).any (fun x => x.seq == w.seq) then some k else some w.seq

/-- A request leaves its cell: the block's balance and the counts of the arbiters take it, and its bank queue holds it. -/
def send (s : State) (r : DramReq) : State :=
  let b := blockOfIsland r.cell
  let s := s.modVia (fun v => { v with
    waiting := v.waiting.filter (fun x => x.seq != r.seq), balance := tput v.balance b.toNat (s.balanceOf b - r.bytes),
    served := tput v.served (regionOf r.cell) (s.servedOf (regionOf r.cell) + r.bytes), blockTurn := tput v.blockTurn b.toNat (cellNo r.cell) })
  s.modChan r.chan (fun c =>
    let q := (tget c.queues r.bank).getD []
    let mode := modeAfter q (tget c.inOrder r.bank) r
    { c with queues := tput c.queues r.bank (queueIn q mode r), inOrder := match mode with | some w => tput c.inOrder r.bank w | none => c.inOrder })

end State

/-- The request that a bank serves next: strictly the oldest in in-order mode, else the oldest that hits the open row, else the oldest (R384). -/
def MemChan.nextOf (c : MemChan) (bank : Nat) : Option DramReq :=
  let q := (tget c.queues bank).getD []
  if thas c.inOrder bank then q.head? else (q.find? (fun r => tget c.openRow bank == some r.row)).or q.head?

/-- Banks with a request, in their order. -/
def MemChan.busyBanks (c : MemChan) : List Nat := (c.queues.filter (fun p => p.2 != [])).map (·.1)

/-- The bank that gets the controller's next activate: the first after the last one whose next request needs another row (R385). -/
def MemChan.nextActivate (c : MemChan) : Option (Nat × Nat) := do
  let wants := c.busyBanks.filter (fun b => (c.nextOf b).any (fun r => tget c.openRow b != some r.row))
  let b ← rotPick wants (some c.lastAct)
  let r ← c.nextOf b
  some (b, r.row)

/-- The request whose column command goes next: the oldest of those that hit their open row (R384, R385). -/
def MemChan.nextColumn (c : MemChan) : Option DramReq :=
  (c.busyBanks.filterMap (fun b => (c.nextOf b).filter (fun r => tget c.openRow b == some r.row))).foldl (fun best r => match best with
    | none => some r
    | some k => if r.seq < k.seq then some r else some k) none

/-! ### Activate counting (15 R386) -/

/-- The entry with the lowest count, the lowest number on a tie. -/
def lowestEntry (t : ActTable) : Option Nat :=
  (t.zipIdx.foldl (fun (acc : Option (Nat × Nat)) p =>
    match acc with
    | none => some (p.1.2, p.2)
    | some (c, i) => if p.1.2 < c then some (p.1.2, p.2) else some (c, i)) none).map (·.2)

/-- An activate of a row in a bank's table: the table, and whether the row has reached the threshold (R386). -/
def activate (t : ActTable) (row threshold : Nat) : ActTable × Bool :=
  let t :=
    if t.any (fun e => e.1 == row) then t.map (fun e => if e.1 = row then (e.1, e.2 + 1) else e)
    else if t.length < 16 then t ++ [(row, 1)]
    else match lowestEntry t with
      | some i => t.set i (row, ((t[i]?).map (·.2)).getD 0 + 1)
      | none => t
  if t.any (fun e => e.1 == row && decide (threshold ≤ e.2)) then (t.map (fun e => if e.1 = row then (e.1, 0) else e), true) else (t, false)

/-- A channel activates a row of a bank: the row is open, and its count may refresh its neighbours (R385, R386). -/
def MemChan.activateRow (c : MemChan) (bank row : Nat) : MemChan :=
  let r := activate ((tget c.act bank).getD []) row c.actThreshold
  { c with act := tput c.act bank r.1, neighbour := if r.2 then c.neighbour + 1 else c.neighbour, openRow := tput c.openRow bank row, lastAct := bank }

/-- A request leaves its bank queue; the write that held the bank in in-order mode ends the mode (R384). -/
def MemChan.issue (c : MemChan) (r : DramReq) : MemChan :=
  { c with queues := tmod c.queues r.bank (fun q => q.filter (fun x => x.seq != r.seq)), inOrder := if tget c.inOrder r.bank = some r.seq then tdel c.inOrder r.bank else c.inOrder }

end Sys2Proof.Machine
end

