-- ==== Sys2Proof/Machine/Memory.lean ====
section
/-! DEFINITION. DDR5 memory (15): bytes in one canonical form, the address map, tiles and their checksums, error correction, activate counting, training while running, the patrol, and the mem commands. -/

namespace Sys2Proof.Machine

open Sys2Proof

/-- Both memories are in canonical form. -/
def Memory.wf (m : Memory) : Bool := memWf 0 m.dram && memWf 0 m.host

/-! ### The address map (R380, Table 15-2) -/

namespace State

/-- First byte of a pool (Table 15-2). -/
def poolBase (s : State) (k : Nat) : Nat := ((s.mem.pools[k]?).getD (0, 0)).1
/-- Bytes of a pool (Table 15-2). -/
def poolSize (s : State) (k : Nat) : Nat := ((s.mem.pools[k]?).getD (0, 0)).2
/-- The bytes of a host window; one of KIND 1 gives the whole TRACE pool (R395). -/
def windowBytes (s : State) (w : Window) : Nat := if w.kind = 1 then s.poolSize 4 else w.sizeMib * 1048576

/-- DRAM_TOP: channels in use times the capacity of each. -/
def dramTop (s : State) : Nat := s.mem.n * (s.chan 0).gib * 1073741824

/-- The channel of an address (R380). -/
def chanOf (s : State) (a : Nat) : Nat := if s.mem.n = 0 then 0 else a / 4096 % s.mem.n

/-- The window that holds an address. -/
def windowAt (s : State) (a : Nat) : Option (Nat × Window) := s.mem.windows.find? (fun p => decide (p.2.base ≤ a) && decide (a < p.2.base + s.windowBytes p.2))

/-- Pool of an address as mem.map numbers them: 0 FIRMWARE, 1 CHECKSUM, 2 MEDIA, 3 TABLE, 4 TRACE, 5 WINDOW; 6: none. -/
def poolOf (s : State) (a : Nat) : Nat :=
  match (List.range 6).find? (fun k => decide (s.poolBase k ≤ a) && decide (a < s.poolBase k + s.poolSize k)) with
  | some k => k
  | none => if (s.windowAt a).isSome then 5 else 6

/-- First byte of the tile an address lies in: 4,096 bytes in MEDIA, 64 in TABLE (R387). -/
def tileOf (s : State) (a : Nat) : Nat := if s.poolOf a = 2 then a - (a - s.poolBase 2) % 4096 else a - (a - s.poolBase 3) % 64

/-- A tile. -/
def tile (s : State) (a : Nat) : Tile := (tget s.mem.tiles (s.tileOf a)).getD {}

/-! ### The mem event: events of one kind on one channel within 10 ms are one -/

/-- A mem event arises. -/
def memEvent (s : State) (kind channel pool a : Nat) : State :=
  if s.mem.events.any (fun e => e.kind == kind && e.channel == channel) then
    s.modMem (fun m => { m with events := m.events.map (fun e => if e.kind = kind ∧ e.channel = channel then { e with count := e.count + 1 } else e) })
  else s.modMem (fun m => { m with events := m.events ++ [{ kind, channel, pool, count := 1, addr := BitVec.ofNat 64 a, atNs := s.chipNs }] })

/-- Mem events whose 10 ms have passed are raised. -/
def memFlush (s : State) : State :=
  let due := s.mem.events.filter (fun e => decide (e.atNs + 10000000 ≤ s.chipNs))
  if due = [] then s
  else
    let s := s.modMem (fun m => { m with events := m.events.filter (fun e => !decide (e.atNs + 10000000 ≤ s.chipNs)) })
    (due.foldl (fun s e =>
      s.raise 0x1480 St.fault (le 1 e.kind ++ le 1 e.channel ++ le 1 e.pool ++ le 1 0 ++ le 4 e.count ++ le 8 e.addr.toNat ++ le 8 s.chipS)) s).fin

/-- A tile fails: its poison bit is set, CRC_FAIL counts, TILE_POISONED arises. A poisoned tile is left as it is (R390). -/
def poisonTile (s : State) (a : Nat) : State :=
  if (s.tile a).poison then s
  else
    let s := s.modMem (fun m => { m with tiles := tput m.tiles (s.tileOf a) { s.tile a with poison := true } })
    let s := s.modChan (s.chanOf a) (fun c => { c with crcFail := c.crcFail + 1 })
    s.memEvent 1 (s.chanOf a) (s.poolOf a) (s.tileOf a)

/-- A media tile verified whole, or a table tile (R390). -/
def checked (s : State) (a : Nat) : Bool := (s.poolOf a == 2 && (s.tile a).state == .sealed_) || s.poolOf a == 3

/-- Error correction of one burst (R383): the counts, and the poison of an uncorrectable tile. -/
def eccRead (s : State) (a : Nat) (ecc : EccResult) : State :=
  match ecc with
  | .clean => s
  | .corrected => s.modChan (s.chanOf a) (fun c => { c with eccCorrected := c.eccCorrected + 1 })
  | .uncorrectable =>
    let s := s.modChan (s.chanOf a) (fun c => { c with eccUncorr := c.eccUncorr + 1 })
    let s := s.memEvent 0 (s.chanOf a) (s.poolOf a) a
    if s.poolOf a = 2 ∨ s.poolOf a = 3 then s.poisonTile a else s

/-- What the user of a tile does when it reads poison (Table 15-3). Pier rewrites a table tile of a forwarding entry, leg or roster index from what it holds at once: the table allows it 1 ms (DESIGN CHOICE, log 68). -/
def userPoison (s : State) (u : TileUse) (a : Nat) : State :=
  let rewritten := s.modMem (fun m => { m with tiles := tput m.tiles (s.tileOf a) { s.tile a with poison := false } })
  match u with
  | .jitter l q => s.modLegSnd l (fun d => { d with jb := { d.jb with held := d.jb.held.filter (fun p => p.seq != q) } })
  | .syntaxBuffer c k => s.modDec c (fun d => d.poisonTile k)
  | .frameStore c blocks => s.modDec c (fun d => d.poisonBlocks blocks)
  | .region y r => s.modLayout y (fun l => { l with bad := l.bad ++ [r] })
  | .output y slot x y0 w h => s.outputPoison y slot x y0 w h
  | .card y => s.gateCard y
  | .trace => s.modDisp (fun d => { d with dropped := d.dropped + 1 })
  | .keySlot n => s.slotLost n
  | .fwdEntry _ | .legState _ | .rosterIndex _ => rewritten
  | .release | .other => s

/-- The user's action changes media output (R392). -/
def changesMedia (u : TileUse) : Bool :=
  match u with
  | .jitter .. | .syntaxBuffer .. | .frameStore .. | .region .. | .output .. | .card _ => true
  | .keySlot _ | .fwdEntry _ | .legState _ | .rosterIndex _ | .trace | .release | .other => false

/-- A user reads poison. In a pair, what changes media output is the primary's to decide: it acts and names the event in its next decision record; the same on the standby alone costs it its synchronisation (R391, R392). -/
def tellPoison (s : State) (u : TileUse) (a : Nat) : State :=
  if !changesMedia u then s.userPoison u a
  else if s.twin.state = .standby then (if s.twin.events.contains (.poison u) then s else s.leaveSync 3)
  else
    let s := s.userPoison u a
    if s.twin.state = .primary then s.modTwin (fun t => { t with events := t.events ++ [.poison u] }) else s

end State

/-! ### Reads and writes of a tile (R383, R388 to R391) -/

/-- A read by a user of the tile: error correction, then the tile's CRC; poison is delivered for a tile that fails or has failed, and for an OPEN one. An owner that frees its media tile with the read leaves it FREE and unpoisoned (R388, R390). An uncorrectable read in FIRMWARE is a Pier fault. -/
def readTile (a : Nat) (ecc : EccResult) (crcOk : Bool) (user : TileUse) (s : State) : State :=
  let s := s.eccRead a ecc
  if ecc = .uncorrectable ∧ s.poolOf a = 0 then (s.chipLevel 6 (Config.dramCause 0)).fin
  else
    let s := if ecc ≠ .uncorrectable ∧ s.checked a ∧ !crcOk then s.poisonTile a else s
    let tiled := s.poolOf a == 2 || s.poolOf a == 3
    let isOpen := match (s.tile a).state with | .open_ _ => s.poolOf a == 2 | _ => false
    let delivered := tiled && ((s.tile a).poison || isOpen)
    let s := if delivered then s.tellPoison user a else s
    (if user = .release ∧ s.poolOf a = 2 then s.modMem (fun m => { m with tiles := tdel m.tiles (s.tileOf a) }) else s).fin

/-- A write to a media tile: its owner opens a FREE one for the writing cell, which seals it with its last byte. One that is SEALED, or OPEN for another cell, is not written: that is a failed operation of the cell (R388; the second case is the model's, log 68). -/
def mediaWrite (a : Nat) (last : Bool) (crc : U32) (cell : U16) (s : State) : State :=
  let put (st : TileState) : State := s.modMem (fun m => { m with tiles := tput m.tiles (s.tileOf a) { s.tile a with state := st, crc := if last then crc else (s.tile a).crc } })
  let go := put (if last then .sealed_ else .open_ cell)
  match (s.tile a).state with
  | .free => go
  | .open_ c => if c = cell then go else s.cellFail cell 2
  | .sealed_ => s.cellFail cell 2

/-- A write to a tile. A table tile takes data and CRC: a whole write clears poison, a partial one verifies first and is not made where that fails (R389). -/
def tableWrite (a : Nat) (whole crcOk : Bool) (crc : U32) (cell : U16) (s : State) : State :=
  if s.poolOf a = 2 then mediaWrite a whole crc cell s
  else if s.poolOf a ≠ 3 then s
  else if whole then s.modMem (fun m => { m with tiles := tput m.tiles (s.tileOf a) { s.tile a with crc, poison := false } })
  else if (s.tile a).poison then s
  else if crcOk then s.modMem (fun m => { m with tiles := tput m.tiles (s.tileOf a) { s.tile a with crc } })
  else s.poisonTile a

/-- What a request does at its tile. -/
def DramReq.act (r : DramReq) (s : State) : State :=
  match r.op with
  | .read ecc crcOk user => readTile r.addr ecc crcOk user s
  | .tableWrite whole crcOk crc => tableWrite r.addr whole crcOk crc r.cell s

/-! ### Requests on their way (R384, R385; 01 R13, R14, R17) -/

namespace State

/-- Reads that have issued complete once no older request of their cell is left in the channel: a cell's requests to one target complete in issue order (01 R14). Poison that has come meanwhile is delivered (R390). -/
def completed (s : State) (c : Nat) : State :=
  let mine := s.chan c
  let queued := mine.queues.flatMap (·.2)
  let done := mine.issued.filter (fun r => !(queued ++ mine.issued).any (fun x => x.cell == r.cell && decide (x.seq < r.seq)))
  match done with
  | [] => s
  | r :: _ => r.act (s.modChan c (fun k => { k with issued := k.issued.filter (fun x => x.seq != r.seq) }))

/-- A channel's next command: a read that may complete, else a column command, else an activate (R384, R385). A write takes effect as it issues. None: nothing to do. -/
def channelTurn (s : State) (c : Nat) : Option State :=
  let k := s.chan c
  let s' := s.completed c
  if (s'.chan c).issued.length < k.issued.length then some s'
  else match k.nextColumn with
    | some r => if isWrite r then some (r.act (s.modChan c (fun k => k.issue r))) else some (s.modChan c (fun k => { k.issue r with issued := k.issued ++ [r] }))
    | none => (k.nextActivate).map (fun b => s.modChan c (fun k => k.activateRow b.1 b.2))

/-- One turn of the fabric: the arbiters send a request to its bank queue; else a channel has its next command; else, where requests wait for a balance, the next intervals begin. None: nothing moves. -/
def fabricTurn (s : State) : Option State :=
  let l := s.sendable
  match s.pickRequest l with
  | some r => some (s.send r)
  | none => match (List.range 12).findSome? s.channelTurn with
    | some t => some t
    | none => if l = [] then none else some (s.refill s.intervalsDue)

/-- Turns of the fabric until nothing moves. -/
def fabricRun : Nat → State → State
  | 0, s => s
  | n + 1, s => match s.fabricTurn with
    | some t => fabricRun n t
    | none => s

/-- Requests anywhere between their cells and their completion. -/
def underway (s : State) : Nat := s.fab.via.waiting.length + total (List.range 12) (fun c => (s.held c).length)

/-- Every request completes that can: each one is sent, activates its row, issues and completes, with a refill before it at most. -/
def fabricDrain (s : State) : State := fabricRun (6 * s.underway + 1) s

/-- A cell issues a request. The intervals of 1 µs that have passed since the last refill count first (01 R17). A cell that is out, or whose block is not in service, sends none (01 R21, R24); an address that does not exist is refused. Where the channel is not busy, the request completes at once, and all that waited before it. -/
def request (s : State) (addr : Nat) (op : DramOp) (path : DramPath) : State :=
  if s.dramTop ≤ addr ∨ s.cellOut path.cell ∨ (s.block (blockOfIsland path.cell)).phase ≠ .inService then s
  else
    let s := if s.fab.via.refillAt + ticksOfUs 1 ≤ s.clk then s.refill ((s.clk - s.fab.via.refillAt) / ticksOfUs 1) else s
    let bytes := if s.poolOf addr = 2 then 4096 else 64
    let r : DramReq := { seq := s.fab.via.nextSeq, cell := path.cell, addr, chan := s.chanOf addr, bytes, bank := path.bank, row := path.row, op }
    let s := s.modVia (fun v => { v with waiting := v.waiting ++ [r], nextSeq := v.nextSeq + 1 })
    if path.wait then s else s.fabricDrain

end State

/-- DRAM_READ (R383): the read goes its way through the arbiters and its bank queue, and acts where it completes. -/
def execDramRead (addr : U64) (ecc : EccResult) (crcOk : Bool) (user : TileUse) (s : State) (path : DramPath := { cell := 0, bank := 0, row := 0, wait := false }) : Host.Outcome State Fault Refusal :=
  .next (s.request addr.toNat (.read ecc crcOk user) path)

/-- TABLE_TILE_WRITE (R388, R389): a write to a tile of TABLE or MEDIA; an address of another pool holds no tile. -/
def execTableTileWrite (addr : U64) (whole crcOk : Bool) (crc : U32) (s : State) (path : DramPath := { cell := 0, bank := 0, row := 0, wait := false }) : Host.Outcome State Fault Refusal :=
  .next (if s.poolOf addr.toNat = 2 ∨ s.poolOf addr.toNat = 3 then s.request addr.toNat (.tableWrite whole crcOk crc) path else s)

/-- A block's drain has ended: every request it has outstanding completes and its results are discarded, with which its credits return; then the block is reset (01 R24). -/
def drainDone (b : U16) (s : State) : State :=
  if (s.block b).phase ≠ .draining then s
  else
    let drop (r : DramReq) : DramReq := if blockOfIsland r.cell = b then { r with op := match r.op with | .read ecc crcOk _ => .read ecc crcOk .other | op => op } else r
    let s := s.modVia (fun v => { v with waiting := v.waiting.map drop })
    let s := s.modMem (fun m => { m with chans := m.chans.map (fun c => { c with queues := tmap c.queues (fun _ q => q.map drop), issued := c.issued.map drop }) })
    (s.fabricDrain.resetBlock b).fin

/-- REGION_BLOCK_DRAIN_DONE. -/
def execRegionBlockDrainDone (block : U16) (s : State) : Host.Outcome State Fault Refusal := .next (drainDone block s)

/-! ### The patrol (R393) -/

/-- The patrol's next burst: every one is corrected, SEALED media tiles and table tiles are checked; no user acts. A pass that ends takes the PATROL_H set last (R393, mem.config). -/
def patrolRead (channel a : Nat) (ecc : EccResult) (crcOk : Bool) (s : State) : State :=
  if s.dramTop ≤ a ∨ a ≠ s.mem.patrolAt ∨ s.chanOf a ≠ channel then s
  else
    let s := s.eccRead a ecc
    let next := s.mem.patrolAt + 64
    let s := s.modMem (fun m => if s.dramTop ≤ next then { m with patrolAt := 0, patrolH := m.patrolNext } else { m with patrolAt := next })
    if ecc = .uncorrectable ∧ s.poolOf a = 0 then (s.chipLevel 6 (Config.dramCause 0)).fin
    else (if ecc ≠ .uncorrectable ∧ s.checked a ∧ !crcOk then s.poisonTile a else s).fin

/-- PATROL_READ. -/
def execPatrolRead (channel : Nat) (addr : U64) (ecc : EccResult) (crcOk : Bool) (s : State) : Host.Outcome State Fault Refusal :=
  .next (patrolRead channel addr.toNat ecc crcOk s)

/-! ### Activate counting and training (R382, R386) -/

/-- A channel's controller runs: the channel is in service, and the device is not in Quiet, where DRAM refreshes itself (15 R381, 17 Table 17-2). -/
def State.chanRuns (s : State) (channel : Nat) : Bool := (s.chan channel).state == 1 && !s.pwr.asleep

/-- A row is activated: at the threshold its neighbours are refreshed and counted once (R386). While the channel holds requests, only the activate that its order gives next takes place (R385). -/
def rowActivate (channel bank row : Nat) (s : State) : State :=
  let c := s.chan channel
  if !s.chanRuns channel ∨ (c.busyBanks ≠ [] ∧ c.nextActivate ≠ some (bank, row)) then s else s.modChan channel (fun c => c.activateRow bank row)

/-- ROW_ACTIVATE. -/
def execRowActivate (channel bank row : Nat) (s : State) : Host.Outcome State Fault Refusal := .next (rowActivate channel bank row s)

/-- The refresh window of a channel: 32 ms, or 16 ms while its devices report more than 85 °C (R386). -/
def MemChan.windowMs (c : MemChan) : Nat := if 85 < c.tempC then 16 else 32

/-- REFRESH_WINDOW_END: every entry is cleared, and the ACT_THRESHOLD set last comes into force (R386, mem.config). -/
def execRefreshWindowEnd (channel : Nat) (s : State) : Host.Outcome State Fault Refusal :=
  .next (if s.chanRuns channel ∧ (s.chan channel).lastRefresh + (s.chan channel).windowMs * State.ticksPerMs ≤ s.clk then
    s.modChan channel (fun c => { c with act := [], actThreshold := s.mem.actThreshold, lastRefresh := s.clk }) else s)

/-- ZQ_CALIBRATION: every 128 ms (R382). -/
def execZqCalibration (channel : Nat) (s : State) : Host.Outcome State Fault Refusal :=
  .next (if s.chanRuns channel ∧ (s.chan channel).lastZq + 128 * State.ticksPerMs ≤ s.clk then s.modChan channel (fun c => { c with lastZq := s.clk }) else s)

/-- A subchannel retrains, RETRAIN_MS after the last time, or once its sensor has moved 10 °C since; a margin below the PHY's limit is told, and the second in a row is a block fault of the channel (R382). -/
def retrain (channel : Nat) (tempC : Int) (marginOk : Bool) (s : State) : State :=
  let k := s.chan channel
  if !s.chanRuns channel ∨ (s.clk < k.lastTrain + k.retrainMs * State.ticksPerMs ∧ (tempC - k.trainC).natAbs < 10) then s
  else
    let s := s.modChan channel (fun c => { c with
      retrains := c.retrains + 1, lastTrain := s.clk, tempC, trainC := tempC, retrainMs := s.mem.retrainMs,
      retrainFails := if marginOk then c.retrainFails else c.retrainFails + 1, failRun := if marginOk then 0 else c.failRun + 1 })
    if marginOk then s
    else
      let s := s.memEvent 2 channel 0xFF 0
      (if 2 ≤ (s.chan channel).failRun then s.blockFault (blockIsland 4 channel) (Config.dramCause 1) else s).fin

/-- PERIODIC_RETRAIN. -/
def execPeriodicRetrain (channel : Nat) (tempC : Int) (marginOk : Bool) (s : State) : Host.Outcome State Fault Refusal :=
  .next (retrain channel tempC marginOk s)

/-! ### mem commands -/

/-- mem.config. -/
def rowMemConfig (actThreshold : U16) (patrolH : U8) (retrainMs : U16) : Row where
  opcode := 0x1400
  checks := fun _ _ =>
    { fields := withinOr 0 256 16384 actThreshold.toNat && withinOr 0 1 168 patrolH.toNat && withinOr 0 100 10000 retrainMs.toNat, items := [.memCfg] }
  layout := fun _ => [(0, 0, 16, actThreshold.toNat), (2, 0, 8, patrolH.toNat), (4, 0, 16, retrainMs.toNat)]
  effect := fun _ s =>
    (s.modMem (fun m => { m with
      actThreshold := if actThreshold = 0 then m.actThreshold else actThreshold.toNat,
      patrolNext := if patrolH = 0 then m.patrolNext else patrolH.toNat,
      retrainMs := if retrainMs = 0 then m.retrainMs else retrainMs.toNat }), Rep.ok)

/-- MEM_CONFIG. -/
def execMemConfig (m : Mbx) (actThreshold : U16) (patrolH : U8) (retrainMs : U16) (s : State) : Host.Outcome State Fault Refusal :=
  .next (s.run m (rowMemConfig actThreshold patrolH retrainMs))

/-- mem.query. -/
def rowMemQuery (channel : U8) (clear : Bool) : Row where
  opcode := 0x1401
  checks := fun _ _ => { fields := decide (channel.toNat ≤ 11) }
  layout := fun _ => [(0, 0, 8, channel.toNat), (1, 0, 1, bit clear)]
  effect := fun _ s =>
    let k := channel.toNat
    let c := s.chan k
    let poisoned := (s.mem.tiles.filter (fun p => p.2.poison && s.chanOf p.1 == k)).length
    let pct := if s.dramTop = 0 then 0 else s.mem.patrolAt * 100 / s.dramTop
    let data := le 1 c.state ++ le 1 c.ranks ++ le 2 c.rate ++ le 2 c.gib ++ leI 2 c.tempC ++ le 4 c.eccCorrected.toNat ++ le 4 c.eccUncorr.toNat ++ le 4 c.crcFail.toNat ++
      le 4 poisoned ++ le 4 c.neighbour.toNat ++ le 4 c.retrains.toNat ++ le 4 c.retrainFails.toNat ++ le 2 pct ++ le 10 0
    (if clear then s.modChan k (fun c => { c with eccCorrected := 0, eccUncorr := 0, crcFail := 0, neighbour := 0, retrains := 0, retrainFails := 0 }) else s, Rep.ok data)

/-- MEM_QUERY. -/
def execMemQuery (m : Mbx) (channel : U8) (clear : Bool) (s : State) : Host.Outcome State Fault Refusal := .next (s.run m (rowMemQuery channel clear))

/-- mem.map. -/
def rowMemMap : Row where
  opcode := 0x1402
  checks := fun _ _ => {}
  effect := fun _ s =>
    let entry (pool window base size : Nat) : Bytes := le 1 pool ++ le 1 window ++ le 6 0 ++ le 8 base ++ le 8 size
    let pools := (List.range 5).flatMap (fun k => entry k 255 (s.poolBase k) (s.poolSize k))
    let windows := s.mem.windows.flatMap (fun p => entry 5 p.1 p.2.base (s.windowBytes p.2))
    (s, Rep.ok (le 1 (5 + s.mem.windows.length) ++ le 7 0 ++ le 8 s.dramTop ++ pools ++ windows))

/-- MEM_MAP. -/
def execMemMap (m : Mbx) (s : State) : Host.Outcome State Fault Refusal := .next (s.run m rowMemMap)

namespace State

/-- MiB of the windows of KIND 0. -/
def windowMib (s : State) : Nat := total s.mem.windows (fun p => if p.2.kind = 0 then p.2.sizeMib else 0)

/-- MiB that windows may still take: of the 16 GiB, and of the DRAM left (mem.window). -/
def windowFree (s : State) : Nat := min 16384 (s.poolSize 5 / 1048576) - s.windowMib

/-- The lowest base in the WINDOWS pool at which a size fits among the windows that exist. -/
def windowBase (s : State) (bytes : Nat) : Option Nat :=
  let used := (s.mem.windows.filter (fun p => p.2.kind == 0)).map (fun p => (p.2.base, p.2.base + s.windowBytes p.2))
  let fits (b : Nat) : Bool := decide (b + bytes ≤ s.poolBase 5 + s.poolSize 5) && used.all (fun u => decide (u.2 ≤ b) || decide (b + bytes ≤ u.1))
  (sortBy (fun (x y : Nat) => decide (x ≤ y)) (s.poolBase 5 :: used.map (·.2))).find? fits

/-- The window number a create takes. -/
def windowIndex (s : State) (q : WindowReq) : Option Nat :=
  if q.window = 0xFF then lowest (fun k => !thas s.mem.windows k) 0 16 else if thas s.mem.windows q.window.toNat then none else some q.window.toNat

end State

/-- mem.window (R395). -/
def rowMemWindow (m : Mbx) (q : WindowReq) : Row where
  opcode := 0x1403
  checks := fun _ s =>
    let create := q.mode == 0
    let bytes := q.sizeMib.toNat * 1048576
    { fields := decide (q.mode.toNat ≤ 1) && (decide (q.window.toNat ≤ 15) || (q.window == 0xFF && create)) && decide (q.kind.toNat ≤ 1) &&
        (!create || (if q.kind = 0 then within 1 16384 q.sizeMib.toNat else q.sizeMib == 0 && !q.chWrite)),
      objects := [need (create || thas s.mem.windows q.window.toNat) St.noObject, need (!create || q.kind == 0 || s.disp.trace.isSome) St.noObject],
      items := [.window q.window.toNat],
      busy := [need (!create || (s.windowIndex q).isSome) St.busy],
      rest := [need (m == 0 || m == 16) St.isProtected,
               need (!create || q.kind == 1 || (decide (q.sizeMib.toNat ≤ s.windowFree) && (s.windowBase bytes).isSome)) St.noCapacity [s.windowFree]] }
  layout := fun _ => [(0, 0, 8, q.mode.toNat), (1, 0, 8, q.window.toNat), (2, 0, 8, q.kind.toNat), (3, 0, 1, bit q.chRead), (3, 1, 1, bit q.chWrite), (4, 0, 32, q.sizeMib.toNat)]
  effect := fun _ s =>
    if q.mode = 1 then (s.modMem (fun m => { m with windows := tdel m.windows q.window.toNat }), Rep.ok)
    else
      let k := (s.windowIndex q).getD 0
      let base := if q.kind = 1 then s.poolBase 4 else (s.windowBase (q.sizeMib.toNat * 1048576)).getD 0
      (s.modMem (fun m => { m with windows := tput m.windows k { kind := q.kind.toNat, chRead := q.chRead, chWrite := q.chWrite, sizeMib := q.sizeMib.toNat, base } }),
       Rep.ok (le 1 k ++ le 7 0 ++ le 8 base))

/-- MEM_WINDOW. -/
def execMemWindow (m : Mbx) (req : WindowReq) (s : State) : Host.Outcome State Fault Refusal := .next (s.run m (rowMemWindow m req))

end Sys2Proof.Machine
end

