-- ==== Sys2Proof/Machine/Dma.lean ====
section
/-! DEFINITION. DMA channels (15 R394 to R406), the plain registers of the PCIe functions (03 R76, R77), and the events of those functions (03 R99, 15 R406). -/

namespace Sys2Proof.Machine

open Sys2Proof

/-! ### Splits (R399) -/

/-- The next access at an address with some bytes left: a whole 64-byte block, else the largest naturally aligned piece of 8, 4, 2 and 1 bytes. -/
def pieceLen (a left : Nat) : Nat :=
  if a % 64 = 0 ∧ 64 ≤ left then 64
  else if a % 8 = 0 ∧ 8 ≤ left then 8
  else if a % 4 = 0 ∧ 4 ≤ left then 4
  else if a % 2 = 0 ∧ 2 ≤ left then 2
  else 1

/-- The accesses of a range in ascending order: address and bytes. -/
def pieces : Nat → Nat → Nat → List (Nat × Nat)
  | 0, _, _ => []
  | fuel + 1, a, left => if left = 0 then [] else (a, pieceLen a left) :: pieces fuel (a + pieceLen a left) (left - pieceLen a left)

/-- The accesses of [a, a + n). -/
def splitRange (a n : Nat) : List (Nat × Nat) := pieces n a n

/-- Bytes before the first access that fails, and that access. -/
def upTo (bad : Nat × Nat → Bool) : List (Nat × Nat) → Nat × Option (Nat × Nat)
  | [] => (0, none)
  | p :: t => if bad p then (0, some p) else let r := upTo bad t; (p.2 + r.1, r.2)

/-- Bytes of the leading accesses that end within n bytes. -/
def wholeWithin (n : Nat) : List (Nat × Nat) → Nat
  | [] => 0
  | p :: t => if p.2 ≤ n then p.2 + wholeWithin (n - p.2) t else 0

/-! ### Descriptors (R396, Table 15-4) -/

/-- SRC and DST lie in the same space, and DST inside (SRC, SRC + COUNT): the copy runs downward (R400). -/
def Desc.overlaps (d : Desc) : Bool :=
  d.src.getLsbD 63 == d.dst.getLsbD 63 && decide (d.src.toNat < d.dst.toNat) && decide (d.dst.toNat < d.src.toNat + d.count.toNat)

/-- A field is invalid: COUNT 0, or a CRC_ADDR that is not 4-byte aligned (R396). -/
def Desc.invalid (d : Desc) : Bool := d.count == 0 || (d.crc && d.crcAddr.toNat % 4 != 0)

/-- A descriptor as its 64 bytes spell it. -/
def descOf (addr : U64) (b : Bytes) : Desc :=
  let f (off n : Nat) : Nat := leVal ((b.drop off).take n)
  { src := f 0 8, dst := f 8 8, count := f 0x10 4, crc := (f 0x14 4) % 2 == 1, irq := (f 0x14 4) / 2 % 2 == 1,
    last := (f 0x18 8) % 2 == 1, link := BitVec.ofNat 64 ((f 0x18 8) / 64 * 64), crcAddr := f 0x20 8, addr }

/-- Descriptor 0, the register image (R397, R398). -/
def Dma.image (c : Dma) : Desc :=
  { src := c.src, dst := c.dst, count := c.count, crc := c.flags.getLsbD 0, irq := c.flags.getLsbD 1,
    last := c.next.getLsbD 0, link := BitVec.ofNat 64 (c.next.toNat / 64 * 64), crcAddr := c.crcAddr, addr := 0 }

/-- CAUSE of DMA_STATUS. -/
def dmaCause : DmaError → Nat
  | .readError => 1 | .writeError => 2 | .window => 3 | .descError => 4 | .overlapCrc => 5 | .poisoned => 6 | .bme => 7

namespace State

/-- A channel. -/
def dmaOf (s : State) (c : Fin 16) : Dma := s.dma.get c
/-- Change a channel. -/
def modDma (s : State) (c : Fin 16) (f : Dma → Dma) : State := { s with dma := s.dma.set c (f (s.dma.get c)) }

/-! ### Accesses (R394, R395, R404) -/

/-- A host address: bit 63 is 1 (Table 15-2). -/
def isHost (a : Nat) : Bool := decide (9223372036854775808 ≤ a)

/-- The error of one access of a channel, if it may not be made: host memory without Bus Master Enable; for a host-owned channel anything but a window with the right; for the others the reserved range, a write that a SEALED tile does not take, and a read of poison (R388, R390). -/
def accessErr (s : State) (c : Fin 16) (write : Bool) (a n : Nat) : Option DmaError :=
  if isHost a then (if s.pl.busMaster.get 0 then none else some .bme)
  else if c.val < 8 then
    (if s.mem.windows.any (fun p => decide (p.2.base ≤ a) && decide (a + n ≤ p.2.base + s.windowBytes p.2) && (if write then p.2.chWrite && p.2.kind == 0 else p.2.chRead)) then none else some .window)
  else if s.dramTop < a + n then some (if write then .writeError else .readError)
  else if s.poolOf a ≠ 2 ∧ s.poolOf a ≠ 3 then none
  else match (s.tile a).state with
    | .sealed_ => if write then some .writeError else if (s.tile a).poison then some .poisoned else none
    | .open_ _ => if write then none else some .poisoned
    | .free => if !write ∧ (s.tile a).poison then some .poisoned else none

/-- A byte of the trace ring (14 R368): the newest record of the slot it lies in. -/
def traceByte (s : State) (off : Nat) : BitVec 8 :=
  match s.disp.trace with
  | none => 0
  | some q =>
    let size := ringSize q
    let oldest := s.disp.next - s.disp.ring.length
    let slot := off / 16
    match (List.range s.disp.ring.length).find? (fun k => (oldest + k) % size == slot) with
    | some k => (((s.disp.ring[k]?).map (fun r => ((traceBytes r)[off % 16]?).getD 0))).getD 0
    | none => 0

/-- The byte of host memory at an address: the last posted write that covers it, else what has landed. -/
def hostByte (s : State) (a : Nat) : BitVec 8 :=
  match s.postedAll.reverse.find? (fun w => decide (w.1 ≤ a) && decide (a < w.1 + w.2.length)) with
  | some w => (w.2[a - w.1]?).getD 0
  | none => memRead s.mem.host a

/-- The byte at an address of Table 15-2. -/
def dmaByte (s : State) (a : Nat) : BitVec 8 :=
  if isHost a then s.hostByte (a - 9223372036854775808)
  else if (s.windowAt a).any (fun p => p.2.kind == 1) then s.traceByte (a - s.poolBase 4)
  else memRead s.mem.dram a

/-- Bytes from an address up. -/
def dmaBytes (s : State) (a n : Nat) : Bytes := (List.range n).map (fun k => s.dmaByte (a + k))

/-- Write bytes from an address up. -/
def dmaPut (s : State) (a : Nat) (b : Bytes) : State :=
  if isHost a then (if s.postedAll.isEmpty then s else s.landPosted).modMem (fun m => { m with host := memPut m.host (a - 9223372036854775808) b }) else s.modMem (fun m => { m with dram := memPut m.dram a b })

/-! ### Interrupts (R402) -/

/-- A DMA_IRQ bit becomes set: MSI-X entry 1 + n of the physical function, held pending where the entry is masked. -/
def dmaIrq (s : State) (c : Fin 16) (b : Nat) : State :=
  if (s.dmaOf c).irq.getLsbD b then s
  else
    let s := s.modDma c (fun d => { d with irq := d.irq ||| BitVec.ofNat 4 (2 ^ b) })
    if 8 ≤ c.val then s
    else if (s.box 0).vectorOpen (1 + c.val) then s.modDma c (fun d => { d with msgs := d.msgs + 1 })
    else s.modBox 0 (fun x => { x with msixPba := x.msixPba ||| BitVec.ofNat 64 (2 ^ (1 + c.val)) })

/-- The channel halts: the failing address, direction and cause are latched (R404). -/
def dmaHalt (s : State) (c : Fin 16) (e : DmaError) (a : Nat) (write : Bool) : State :=
  (s.modDma c (fun d => { d with state := .halted, cause := dmaCause e, dir := write, failAddr := BitVec.ofNat 64 a, desc := none, ahead := [], doorbell := false })).dmaIrq c 3

/-- A descriptor that is turned away before its first access: the manual names no failing address and no direction for it; both are free (log 33). -/
def dmaRefuse (s : State) (c : Fin 16) (e : DmaError) : State :=
  let v := Config.draw s.draws
  ({ s with draws := s.draws + 2 } : State).dmaHalt c e v.toNat ((Config.draw (s.draws + 1)).getLsbD 0)

/-! ### Starting and following a chain (R398) -/

/-- Descriptors fetched ahead of the last one, at most n more, along links that may be read. -/
def prefetch (s : State) (c : Fin 16) : Nat → Desc → List Desc
  | 0, _ => []
  | n + 1, d =>
    if d.last ∨ (s.accessErr c false d.link.toNat 64).isSome then []
    else let x := descOf d.link (s.dmaBytes d.link.toNat 64); x :: s.prefetch c n x

/-- A channel takes up a descriptor: an invalid one and an overlap with CRC halt it with no access made (R396, R400, R404). -/
def dmaBegin (s : State) (c : Fin 16) (d : Desc) (ahead : List Desc) : State :=
  let s := s.modDma c (fun x => { x with cur := d.addr })
  if d.invalid then s.dmaRefuse c .descError
  else if d.overlaps ∧ d.crc then s.dmaRefuse c .overlapCrc
  else
    let more := s.prefetch c (8 - ahead.length) ((ahead.getLast?).getD d)
    s.modDma c (fun x => { x with state := .running, desc := some d, ahead := ahead ++ more })

/-- A channel takes up the descriptor at an address; 0 is the register image. -/
def dmaAt (s : State) (c : Fin 16) (a : U64) : State :=
  if a = 0 then s.dmaBegin c (s.dmaOf c).image []
  else match s.accessErr c false a.toNat 64 with
    | some e => (s.modDma c (fun x => { x with cur := a })).dmaHalt c e a.toNat false
    | none => s.dmaBegin c (descOf a (s.dmaBytes a.toNat 64)) []

/-- Begin the descriptor at a link that was just followed. -/
def dmaLink (s : State) (c : Fin 16) (a : U64) : State :=
  match s.accessErr c false a.toNat 64 with
  | some e => (s.modDma c (fun x => { x with cur := a })).dmaHalt c e a.toNat false
  | none => s.dmaBegin c (descOf a (s.dmaBytes a.toNat 64)) []

/-- What an accepted START clears (Table 15-6, DMA_STATUS). -/
def dmaAccept (s : State) (c : Fin 16) : State :=
  s.modDma c (fun d => { d with startIgnored := false, cause := 0, dir := false, doneRun := 0, desc := none, ahead := [], doorbell := false })

/-- The word at 0x18 of a tail, read again: an error, or END and LINK (R405). -/
def tailWord (s : State) (c : Fin 16) (tail : U64) : DmaError ⊕ (Bool × U64) :=
  if tail = 0 then .inr ((s.dmaOf c).image.last, (s.dmaOf c).image.link)
  else match s.accessErr c false (tail.toNat + 0x18) 8 with
    | some e => .inl e
    | none => let w := leVal (s.dmaBytes (tail.toNat + 0x18) 8); .inr (w % 2 == 1, BitVec.ofNat 64 (w / 64 * 64))

/-! ### Moving the data (R399 to R401) -/

/-- The write of n bytes of a descriptor, the first n in its order. -/
def copied (s : State) (d : Desc) (n : Nat) : State :=
  let off := if d.overlaps then d.count.toNat - n else 0
  s.dmaPut (d.dst.toNat + off) (s.dmaBytes (d.src.toNat + off) n)

/-- The accesses of a descriptor's reads and writes in its order (R400). -/
def orderOf (d : Desc) (a : Nat) : List (Nat × Nat) := if d.overlaps then (splitRange a d.count.toNat).reverse else splitRange a d.count.toNat

/-- The data of a descriptor up to a first access that fails: the bytes written, and the error with its address and direction (R399, R404). A write follows the reads it needs. -/
def dmaData (s : State) (c : Fin 16) (d : Desc) : State × Option (DmaError × Nat × Bool) :=
  let rd := upTo (fun p => (s.accessErr c false p.1 p.2).isSome) (orderOf d d.src.toNat)
  let wr := upTo (fun p => (s.accessErr c true p.1 p.2).isSome) (orderOf d d.dst.toNat)
  match rd.2, wr.2 with
  | none, none => (s.copied d d.count.toNat, none)
  | _, some w => if w.2 + wr.1 ≤ rd.1 then (s.copied d wr.1, (s.accessErr c true w.1 w.2).map (fun e => (e, w.1, true)))
                 else match rd.2 with
                   | some r => (s.copied d (wholeWithin rd.1 (orderOf d d.dst.toNat)), (s.accessErr c false r.1 r.2).map (fun e => (e, r.1, false)))
                   | none => (s.copied d wr.1, (s.accessErr c true w.1 w.2).map (fun e => (e, w.1, true)))
  | some r, none => (s.copied d (wholeWithin rd.1 (orderOf d d.dst.toNat)), (s.accessErr c false r.1 r.2).map (fun e => (e, r.1, false)))

/-- The CRC store behind the data (R401). -/
def dmaCrc (s : State) (c : Fin 16) (d : Desc) (v : U32) : State × Option (DmaError × Nat × Bool) :=
  if !d.crc then (s, none)
  else match s.accessErr c true d.crcAddr.toNat 4 with
    | some e => (s, some (e, d.crcAddr.toNat, true))
    | none => (s.dmaPut d.crcAddr.toNat (le 4 v.toNat), none)

/-- The DONE word of a descriptor in memory (R402). -/
def dmaDone (s : State) (c : Fin 16) (d : Desc) : State × Option (DmaError × Nat × Bool) :=
  if d.addr = 0 then (s, none)
  else match s.accessErr c true (d.addr.toNat + 0x28) 4 with
    | some e => (s, some (e, d.addr.toNat + 0x28, true))
    | none => (s.dmaPut (d.addr.toNat + 0x28) (le 4 0x80000000), none)

/-- The channel comes to rest behind its tail, or goes on where the chain has grown (R402, R403, R405). -/
def dmaTail (s : State) (c : Fin 16) (d : Desc) (stopping : Bool) : State :=
  let park (s : State) : State :=
    if stopping then (s.modDma c (fun x => { x with state := .stopped, cur := 0, desc := none, ahead := [] })).dmaIrq c 2
    else (s.modDma c (fun x => { x with state := .parked, cur := d.addr, desc := none, ahead := [] })).dmaIrq c 1
  if (s.dmaOf c).doorbell then
    let s := s.modDma c (fun x => { x with doorbell := false })
    match s.tailWord c d.addr with
    | .inl e => s.dmaHalt c e (d.addr.toNat + 0x18) false
    | .inr (true, _) => park s
    | .inr (false, link) =>
      if stopping then (s.modDma c (fun x => { x with state := .stopped, cur := link, desc := none, ahead := [] })).dmaIrq c 2 else s.dmaLink c link
  else park s

end State

/-! ### The rows of a channel -/

/-- START at the register image (R398). -/
def dmaStart (c : Fin 16) (s : State) : State :=
  match (s.dmaOf c).state with
  | .running | .stopping => s.modDma c (fun d => { d with startIgnored := true })
  | _ => (s.dmaAccept c).dmaAt c 0

/-- DMA_START. -/
def execDmaStart (ch : Fin 16) (s : State) : Host.Outcome State Fault Refusal := .next (dmaStart ch s)

/-- START with RESUME: from STOPPED and HALTED at DMA_CUR_DESC, else as START (R398, R403, R404). -/
def dmaResume (c : Fin 16) (s : State) : State :=
  match (s.dmaOf c).state with
  | .running | .stopping => s.modDma c (fun d => { d with startIgnored := true })
  | .stopped | .halted => (s.dmaAccept c).dmaAt c (s.dmaOf c).cur
  | _ => (s.dmaAccept c).dmaAt c 0

/-- DMA_RESUME. -/
def execDmaResume (ch : Fin 16) (s : State) : Host.Outcome State Fault Refusal := .next (dmaResume ch s)

/-- STOP acts at the next descriptor boundary; a PARKED channel stops at once (R403). -/
def dmaStop (c : Fin 16) (s : State) : State :=
  match (s.dmaOf c).state with
  | .running => s.modDma c (fun d => { d with state := .stopping })
  | .parked => (s.modDma c (fun d => { d with state := .stopped, cur := 0 })).dmaIrq c 2
  | _ => s

/-- DMA_STOP. -/
def execDmaStop (ch : Fin 16) (s : State) : Host.Outcome State Fault Refusal := .next (dmaStop ch s)

/-- DMA_ABORT: from STOPPED, PARKED or HALTED to IDLE (DMA_CTRL). -/
def execDmaAbort (ch : Fin 16) (s : State) : Host.Outcome State Fault Refusal :=
  .next (if (s.dmaOf ch).state = .stopped ∨ (s.dmaOf ch).state = .parked ∨ (s.dmaOf ch).state = .halted then s.modDma ch (fun d => { d with state := .idle }) else s)

/-- The append doorbell (Table 15-7). -/
def dmaAppend (c : Fin 16) (s : State) : State :=
  let d := s.dmaOf c
  let ignored := s.modDma c (fun d => { d with appendIgnored := d.appendIgnored + 1 })
  match d.state with
  | .parked =>
    match s.tailWord c d.cur with
    | .inl e => s.dmaHalt c e (d.cur.toNat + 0x18) false
    | .inr (true, _) => ignored
    | .inr (false, link) => s.dmaLink c link
  | .running | .stopping =>
    if ((d.ahead.getLast?).or d.desc).any (·.last) then s.modDma c (fun d => { d with doorbell := true }) else ignored
  | _ => ignored

/-- DMA_APPEND. -/
def execDmaAppend (ch : Fin 16) (s : State) : Host.Outcome State Fault Refusal := .next (dmaAppend ch s)

/-- DMA_IRQ_CLEAR. -/
def execDmaIrqClear (ch : Fin 16) (bits : BitVec 4) (s : State) : Host.Outcome State Fault Refusal :=
  .next (s.modDma ch (fun d => { d with irq := d.irq &&& ~~~ bits }))

/-- The descriptor in progress completes: data, CRC, DONE word, counts and interrupt; then the next one, or the end of the run (R399 to R405). An access that may not be made halts the channel instead. In Quiet the DMA cell is off (17 Table 17-2). -/
def dmaDescriptorDone (c : Fin 16) (s : State) : State :=
  let ch := s.dmaOf c
  match ch.desc with
  | none => s
  | some d =>
    if (ch.state ≠ .running ∧ ch.state ≠ .stopping) ∨ s.pwr.asleep then s
    else
      let crc := crc32c (s.dmaBytes d.src.toNat d.count.toNat)
      match s.dmaData c d with
      | (s, some (e, a, w)) => s.dmaHalt c e a w
      | (s, none) =>
        match s.dmaCrc c d crc with
        | (s, some (e, a, w)) => s.dmaHalt c e a w
        | (s, none) =>
          match s.dmaDone c d with
          | (s, some (e, a, w)) => s.dmaHalt c e a w
          | (s, none) =>
            let s := s.modDma c (fun x => { x with descDone := x.descDone + 1, doneRun := x.doneRun + 1 })
            let s := if d.irq then s.dmaIrq c 0 else s
            let stopping := ch.state == .stopping
            if d.last then s.dmaTail c d stopping
            else if stopping then (s.modDma c (fun x => { x with state := .stopped, cur := d.link, desc := none, ahead := [], doorbell := false })).dmaIrq c 2
            else match ch.ahead with
              | x :: rest => s.dmaBegin c x rest
              | [] => s.dmaLink c d.link

/-- DMA_DESCRIPTOR_DONE. -/
def execDmaDescriptorDone (ch : Fin 16) (s : State) : Host.Outcome State Fault Refusal := .next (dmaDescriptorDone ch s)

/-- An access fails outside the device: a PCIe error, a DRAM write that cannot be made, a poisoned tile (R404). Bytes written before it stay written. The other causes follow from the state and are raised where the access is judged. -/
def dmaError (c : Fin 16) (e : DmaError) (a : Nat) (write : Bool) (s : State) : State :=
  let ch := s.dmaOf c
  if ch.state ≠ .running ∧ ch.state ≠ .stopping then s
  else
    match e with
    | .readError | .writeError | .poisoned =>
      let w := e == .writeError || (e == .readError && write)
      let s := match ch.desc with
        | none => s
        | some d =>
          let before (l : List (Nat × Nat)) : Option Nat :=
            let r := upTo (fun p => decide (p.1 ≤ a) && decide (a < p.1 + p.2)) l
            r.2.map (fun _ => r.1)
          match (if w then before (State.orderOf d d.dst.toNat) else (before (State.orderOf d d.src.toNat)).map (fun n => wholeWithin n (State.orderOf d d.dst.toNat))) with
          | some n => s.copied d n
          | none => if w ∧ d.crc ∧ a = d.crcAddr.toNat then s.copied d d.count.toNat else s
      s.dmaHalt c e a w
    | _ => s

/-- DMA_HALT. -/
def execDmaHalt (ch : Fin 16) (err : DmaError) (addr : U64) (write : Bool) (s : State) : Host.Outcome State Fault Refusal := .next (dmaError ch err addr.toNat write s)

/-! ### Functions and plain registers -/

/-- VF Enable is cleared: mailboxes 1 to 15 halt with cause 4 (03 R99). -/
def haltVfs (s : State) : State :=
  if s.pl.vfEnable then (allMbx.filter (fun m => m != 0 && m != 16)).foldl (fun s m => s.halt m 4) ({ s with pl := { s.pl with vfEnable := false } } : State) else s

/-- A function level reset: its mailbox halts with cause 5, and the configuration registers of the function return to their reset values; of the physical function every host-owned channel returns to reset, windows stay, and VF Enable with it is cleared (03 R99, 15 R406). -/
def functionReset (fn : Fin 16) (s : State) : State :=
  let m : Mbx := fn.castLE (by decide)
  let s := s.halt m 5
  let s := if fn = 0 then haltVfs s else s
  let s : State := { s with pl := { s.pl with busMaster := s.pl.busMaster.set fn false } }
  let s := s.modBox m (fun b => { b with msix := [], msixPba := 0, msixEnable := false, msixMask := false })
  if fn = 0 then ((List.finRange 16).filter (fun c => decide (c.val < 8))).foldl (fun s c => s.modDma c (fun _ => {})) s else s

/-- FUNCTION_LEVEL_RESET. -/
def execFunctionLevelReset (fn : Fin 16) (s : State) : Host.Outcome State Fault Refusal := .next (functionReset fn s).fin

/-- VF Enable is cleared (03 R99), with the events that this raises. -/
def vfCleared (s : State) : State := if s.pl.vfEnable then (haltVfs s).fin else s

/-- VF_ENABLE_CLEARED. -/
def execVfEnableCleared (s : State) : Host.Outcome State Fault Refusal := .next (vfCleared s)

/-- BUS_MASTER_ENABLE_CLEAR: channels halt at their next host access (15 R406). -/
def execBusMasterEnableClear (fn : Fin 16) (s : State) : Host.Outcome State Fault Refusal :=
  .next { s with pl := { s.pl with busMaster := s.pl.busMaster.set fn false } }

/-- A 64-bit register written whole or by a half (03 R76). -/
def putPart (old : U64) (part : RegPart) (v : U64) : U64 :=
  match part with
  | .whole => v
  | .low => BitVec.ofNat 64 (old.toNat / 4294967296 * 4294967296 + v.toNat % 4294967296)
  | .high => BitVec.ofNat 64 (v.toNat % 4294967296 * 4294967296 + old.toNat % 4294967296)

/-- A pending vector that may send again sends its message and clears its pending bit; mailbox 0's and a virtual function's vector 0 is subject to HOLDOFF_US (03 R76, R86; 15 R402). -/
def sendPending (s : State) (m : Mbx) (e : Fin 9) : State :=
  if (s.box m).vectorOpen e.val ∧ (s.box m).msixPba.getLsbD e.val then
    let s := s.modBox m (fun b => { b with msixPba := b.msixPba &&& ~~~ BitVec.ofNat 64 (2 ^ e.val) })
    if e = 0 then s.irq m else s.modDma ⟨e.val - 1, by omega⟩ (fun x => { x with msgs := x.msgs + 1 })
  else s

/-- A write to a register that only stores its value: the mailbox bases and configuration while the mailbox is neither enabled nor quiesced nor halted (03 R77, R99), the MSI-X table (R76), the functions' enables, and a channel's register image while it neither runs nor stops (15 R397). -/
def registerWrite (reg : PlainReg) (part : RegPart) (v : U64) (s : State) : State :=
  let open_ (m : Mbx) : Bool := m != 16 && !(s.box m).enable && !(s.box m).quiesced && !(s.box m).halted
  let free (c : Fin 16) : Bool := (s.dmaOf c).state != .running && (s.dmaOf c).state != .stopping
  match reg with
  | .mbxCmdBase m => if open_ m then s.modBox m (fun b => { b with cmdBase := putPart b.cmdBase part v }) else s
  | .mbxCplBase m => if open_ m then s.modBox m (fun b => { b with cplBase := putPart b.cplBase part v }) else s
  | .mbxCfg m => if open_ m then s.modBox m (fun b => { b with cfg := v.truncate 32 }) else s
  | .msixEntry m e d =>
    if m = 16 ∨ (s.box m).halted ∨ (m ≠ 0 ∧ e ≠ 0) then s
    else
      let old := (tget (s.box m).msix e.val).getD (BitVec.ofNat 128 (2 ^ 96))
      let sh := 32 * d.val
      let new : U128 := (old &&& ~~~ (0xFFFFFFFF#128 <<< sh)) ||| ((v.truncate 32).zeroExtend 128 <<< sh)
      s.modBox m (fun b => { b with msix := tput b.msix e.val new }) |> (sendPending · m e)
  | .pciBusMaster fn => { s with pl := { s.pl with busMaster := s.pl.busMaster.set fn (v.getLsbD 0) } }
  | .pciMsix fn =>
    let m : Mbx := fn.castLE (by decide)
    (List.finRange 9).foldl (fun s e => sendPending s m e) (s.modBox m (fun b => { b with msixEnable := v.getLsbD 15, msixMask := v.getLsbD 14 }))
  | .pciVfEnable => if v.getLsbD 0 then { s with pl := { s.pl with vfEnable := true } } else vfCleared s
  | .dmaSrc c => if free c then s.modDma c (fun x => { x with src := putPart x.src part v }) else s
  | .dmaDst c => if free c then s.modDma c (fun x => { x with dst := putPart x.dst part v }) else s
  | .dmaCount c => if free c then s.modDma c (fun x => { x with count := v.truncate 32 }) else s
  | .dmaFlags c => if free c then s.modDma c (fun x => { x with flags := v.truncate 32 }) else s
  | .dmaNext c => if part = .whole then s.modDma c (fun x => { x with next := v }) else s
  | .dmaCrcAddr c => if free c then s.modDma c (fun x => { x with crcAddr := putPart x.crcAddr part v }) else s
  | .readOnly | .reserved => s

/-! ### What the host reads from the pages (00 R3, R8; 03 R76, R77; 15 R397) -/

/-- The low or high 32 bits of a 64-bit register. -/
def half (v : U64) (high : Bool) : U32 := if high then (v >>> 32).truncate 32 else v.truncate 32

/-- PIER_MBX_STATUS (03 R77). -/
def mbxStatus (s : State) (m : Mbx) : U32 :=
  let b := s.box m
  BitVec.ofNat 32 (bit s.boot.ready + 2 * bit b.running + 4 * bit b.halted + 8 * bit b.session.isSome + 256 * b.haltCause.toNat + 65536 * b.session.elim 0 (·.toNat))

/-- The 32 bits at an offset of a function's doorbell page: write-only registers and reserved offsets read 0, and PIER_MBX_CTRL.RESET does (00 R8; 03 R76, R77, Table 3-2). -/
def doorbellRead (s : State) (fn : Fin 16) (off : Nat) : U32 :=
  let m : Mbx := fn.castLE (by decide)
  let b := s.box m
  match off with
  | 0x000 => half b.cmdBase false
  | 0x004 => half b.cmdBase true
  | 0x008 => half b.cplBase false
  | 0x00C => half b.cplBase true
  | 0x010 => b.cfg
  | 0x014 => BitVec.ofNat 32 (bit b.enable)
  | 0x018 => mbxStatus s m
  | 0x01C => b.lostTotal
  | 0xC00 => half b.msixPba false
  | 0xC04 => half b.msixPba true
  | _ =>
    if 0x800 ≤ off ∧ off < 0x800 + 16 * (if fn = 0 then 9 else 1) ∧ off % 4 = 0 then
      (((tget b.msix ((off - 0x800) / 16)).getD (BitVec.ofNat 128 (2 ^ 96))) >>> (32 * ((off - 0x800) / 4 % 4))).truncate 32
    else 0

/-- The code of a channel's state (Table 15-6). -/
def dmaStateCode : DmaState → Nat
  | .idle => 0 | .running => 1 | .parked => 2 | .stopping => 3 | .stopped => 4 | .halted => 5

/-- The 32 bits at an offset of a DMA channel's page: DMA_CTRL and DMA_APPEND read 0, as reserved offsets do (00 R8; 15 R397, Table 15-5). -/
def dmaRead (s : State) (c : Fin 16) (off : Nat) : U32 :=
  let d := s.dmaOf c
  match off with
  | 0x00 => half d.src false
  | 0x04 => half d.src true
  | 0x08 => half d.dst false
  | 0x0C => half d.dst true
  | 0x10 => d.count
  | 0x14 => d.flags
  | 0x18 => half d.next false
  | 0x1C => half d.next true
  | 0x20 => half d.crcAddr false
  | 0x24 => half d.crcAddr true
  | 0x2C => BitVec.ofNat 32 (dmaStateCode d.state + 8 * bit d.startIgnored + 256 * d.cause + 4096 * bit d.dir + 65536 * d.doneRun.toNat)
  | 0x30 => half d.cur false
  | 0x34 => half d.cur true
  | 0x38 => half d.failAddr false
  | 0x3C => half d.failAddr true
  | 0x44 => d.appendIgnored
  | 0x48 => d.descDone
  | 0x4C => d.irq.zeroExtend 32
  | _ => 0

/-- REGISTER_WRITE_PLAIN. -/
def execRegisterWritePlain (reg : PlainReg) (part : RegPart) (value : U64) (s : State) : Host.Outcome State Fault Refusal :=
  .next (registerWrite reg part value s)

end Sys2Proof.Machine
end

