-- ==== Sys2Proof/Machine/Images.lean ====
section
/-! DEFINITION. Firmware images (18 R461 to R464): the image slots, activation and trial, the parking of the journal (13 R348, R349), and the rows of keep.image, keep.activate, keep.images and of NOR writes. -/

namespace Sys2Proof.Machine

open Sys2Proof

/-- Replace slot A or B. -/
def Keep.setImage (k : Keep) (b : Bool) (x : ImageSlot) : Keep := if b then { k with slotB := x } else { k with slotA := x }

/-- Code of an image state (keep.images). -/
def imgCode : ImgState → Nat
  | .empty => 0 | .staged => 1 | .trial => 2 | .committed => 3 | .rejected => 4

namespace State

/-- Every group closed or open is programmed and commits, in GSEQ order (13 R348, R349). -/
def commitAll (s : State) : State :=
  let s := s.closeGroup
  let s := s.modKeep (fun k => { k with groups := k.groups.map (fun g => { g with programmed := true }) })
  s.commitReady s.keep.groups.length

/-- The journal is flushed and closed by a PARK group (13 R348, R349). A store that does not take writes is left as it is. -/
def parkJournal (s : State) (byFlush : Bool) : State :=
  if s.journalUp then (((s.commitAll.commitAll.journal { kind := .park }).commitAll).modKeep (fun k => { k with flushPark := byFlush })) else s

/-- A slot runs: never in recovery (18 R463). -/
def imageRuns (s : State) (b : Bool) : Bool := !s.boot.recovery && s.keep.runB == b

/-- The slot that runs is in TRIAL (18 R462). -/
def inTrial (s : State) : Bool := !s.boot.recovery && (s.keep.image s.keep.runB).state == .trial

/-- A slot is in TRIAL. -/
def anyTrial (s : State) : Bool := s.keep.slotA.state == .trial || s.keep.slotB.state == .trial

/-- The COMMITTED slot that is not running (keep.activate MODE 2). -/
def fallback (s : State) : Option Bool := [false, true].find? (fun b => !s.imageRuns b && (s.keep.image b).state == .committed)

end State

/-- Byte offset of the first field of the header that makes an image malformed (18 Table 18-5, R461): a recovery image, of major 0, is written at manufacture only, and SIZE must be the bytes received (DEDUCED, log 85). -/
def PierImage.malformed (i : PierImage) (received : Nat) : Option Nat :=
  let bad (ok : Bool) (offset : Nat) : List Nat := if ok then [] else [offset]
  (bad (i.magic == 0x52504950) 0x00 ++ bad (i.format == 1) 0x04 ++ bad (decide (i.fwSvn.toNat ≤ 63)) 0x05 ++ bad (i.reserved == 0) 0x06 ++ bad (decide (0x01000000 ≤ i.fwRelease.toNat)) 0x08 ++
    bad (within 65536 8388608 i.size.toNat && i.size.toNat == received) 0x0C ++ i.badOffset.toList).min?

/-- keep.image: the image is received and verified, then written into the NOR; NOR_WRITE_DONE ends it. -/
def rowKeepImage (m : Mbx) (slot : U8) (image : PierImage) : Row where
  opcode := 0x0D07
  checks := fun c s =>
    { pre := need (decide (c.hdr.reqLen.toNat ≤ 8388608)) St.length,
      fields := decide (slot.toNat ≤ 1),
      word := (PierImage.malformed image c.hdr.reqLen.toNat).map (fun n => Rep.fail St.badField [n]),
      busy := [need (s.keep.imageFor.isNone && s.ks.writing.isNone) St.busy],
      rest := [need (m == 0 || m == 16) St.isProtected, need (image.sigOk && decide (s.keep.fusedSvn ≤ image.fwSvn.toNat)) St.isProtected,
               need (!s.imageRuns (slot == 1) && !s.anyTrial) St.refused] }
  layout := fun _ => [(0x00, 0, 32, image.magic.toNat), (0x04, 0, 8, image.format.toNat), (0x05, 0, 8, image.fwSvn.toNat), (0x06, 0, 16, image.reserved.toNat), (0x08, 0, 32, image.fwRelease.toNat),
    (0x0C, 0, 32, image.size.toNat), (0x10, 0, 8, image.pledomMax.toNat), (0x11, 0, 8, image.trussMax.toNat), (0x12, 0, 8, image.schemaMax.toNat), (0x13, 0, 8, image.formatMax.toNat)]
  effect := fun c s => (s.modKeep (fun k => { k with imageFor := some (m, c.seq, slot == 1, image) }), Rep.goesOn)

/-- KEEP_IMAGE. -/
def execKeepImage (m : Mbx) (slot : U8) (image : PierImage) (s : State) : Host.Outcome State Fault Refusal := .next (s.run m (rowKeepImage m slot image))

/-- The trial commits: the slot is COMMITTED, the thermometer is burnt, and a fallback below it is REJECTED (18 R462). -/
def commitTrial (s : State) : State :=
  let b := s.keep.runB
  let x := s.keep.image b
  let y := s.keep.image (!b)
  let svn := max s.keep.fusedSvn x.svn
  s.modKeep (fun k => { (k.setImage b { x with state := .committed }).setImage (!b) (if y.state = .committed ∧ y.svn < svn then { y with state := .rejected } else y) with
    fusedSvn := svn, commitS := none, lastOutcome := 2 })

/-- The image state record names a slot to boot, and the device resets within 100 ms (18 R462). -/
def nameImage (b : Bool) (commitS : Option Nat) (s : State) : State :=
  s.modKeep (fun k => { k with bootB := b, commitS, activateAt := some (s.clk + 100 * State.ticksPerMs) })

/-- keep.activate (18 R462, R464). -/
def rowKeepActivate (m : Mbx) (mode slot : U8) (force : Bool) (commitS : U32) : Row where
  opcode := 0x0D08
  checks := fun _ s =>
    let x := s.keep.image (slot == 1)
    let resets := mode != 1
    { fields := decide (mode.toNat ≤ 2) && (if mode == 0 then decide (slot.toNat ≤ 1) && withinOr 0 60 86400 commitS.toNat else slot == 0),
      objects := [need (mode != 0 || x.state != .empty) St.noObject, need (mode != 2 || s.fallback.isSome) St.noObject,
                  need (mode != 1 || s.inTrial) St.badField],
      busy := [need (s.pwr.supply == .normal && s.pwr.running.isNone && s.keep.activateAt.isNone) St.busy, need (mode != 0 || !s.anyTrial) St.busy],
      rest := [need (m == 0 || m == 16) St.isProtected,
               need (!resets || force || s.twin.state != .primary || s.twin.peerState != some 3) St.refused [1],
               need (mode != 0 || x.state == .staged || x.state == .committed) St.refused] }
  layout := fun _ => [(0, 0, 8, mode.toNat), (1, 0, 8, slot.toNat), (2, 0, 1, bit force), (4, 0, 32, commitS.toNat)]
  effect := fun _ s =>
    if mode = 1 then (commitTrial s, Rep.ok)
    else if mode = 0 then
      let b := slot == 1
      (nameImage b (if (s.keep.image b).state = .staged then some (if commitS = 0 then 600 else commitS.toNat) else none) s, Rep.ok)
    else (nameImage (s.fallback.getD false) none s, Rep.ok)

/-- KEEP_ACTIVATE. -/
def execKeepActivate (m : Mbx) (mode slot : U8) (force : Bool) (commitS : U32) (s : State) : Host.Outcome State Fault Refusal :=
  .next (s.run m (rowKeepActivate m mode slot force commitS))

/-- One entry of keep.images. -/
def imageEntry (state svn release stagedS : Nat) : Bytes := le 1 state ++ le 1 svn ++ le 2 0 ++ le 4 release ++ le 8 stagedS

/-- keep.images. -/
def rowKeepImages (m : Mbx) : Row where
  opcode := 0x0D09
  checks := fun _ _ => { rest := [need (m == 0 || m == 16) St.isProtected] }
  effect := fun _ s =>
    let e (x : ImageSlot) : Bytes := imageEntry (imgCode x.state) x.svn x.release.toNat x.stagedS
    (s, Rep.ok (le 1 (if s.boot.recovery then 2 else bit s.keep.runB) ++ le 1 s.keep.lastOutcome ++ le 1 s.keep.fusedSvn ++ le 5 0 ++ e s.keep.slotA ++ e s.keep.slotB ++
      imageEntry Config.recoveryImage.1.toNat Config.recoveryImage.2.toNat (Config.fwRelease.toNat % 16777216) 0))

/-- KEEP_IMAGES. -/
def execKeepImages (m : Mbx) (s : State) : Host.Outcome State Fault Refusal := .next (s.run m (rowKeepImages m))

/-- An accepted activation: the journal is committed and parked, then the device resets with cause 4 (13 R349, 18 R462). A COMMITTED slot is booted directly: outcome 6. -/
def activationReset (s : State) : State :=
  match s.keep.activateAt with
  | none => s
  | some _ =>
    let s := (s.parkJournal false).fin
    let s := if (s.keep.image s.keep.bootB).state = .committed then s.modKeep (fun k => { k with lastOutcome := 6 }) else s
    let b := s.keep.bootB
    let s := s.deviceReset 4 6
    (s.modKeep (fun k => { k with bootB := b })).fin

/-- ACTIVATION_RESET. -/
def execActivationReset (s : State) : Host.Outcome State Fault Refusal := .next (activationReset s)

/-- MEDIA is not set within 60 s of RESET_N release of a trial boot: outcome 4 (18 R462). Chip time starts at the release (log 75). -/
def trialMediaTimeout (s : State) : State :=
  if s.inTrial ∧ !s.isReady 3 ∧ 60 * State.ticksPerS ≤ s.clk then (s.deviceReset 4 4).fin else s

/-- TRIAL_MEDIA_TIMEOUT. -/
def execTrialMediaTimeout (s : State) : Host.Outcome State Fault Refusal := .next (trialMediaTimeout s)

/-- No commit within COMMIT_S of RESET_N release: outcome 5 (18 R462). -/
def trialCommitTimeout (s : State) : State :=
  if s.inTrial ∧ s.keep.commitS.any (fun t => decide (t * State.ticksPerS ≤ s.clk)) then (s.deviceReset 4 5).fin else s

/-- TRIAL_COMMIT_TIMEOUT. -/
def execTrialCommitTimeout (s : State) : Host.Outcome State Fault Refusal := .next (trialCommitTimeout s)

/-! ### NOR writes (16 R413, 18 keep.image) -/

/-- The write of a firmware image ends: the slot is STAGED and its archive copy kept where the store is used. A write that fails answers STORE_FAULT, and whether the slot still holds what it held is left open by the manual: it keeps its state or is EMPTY. -/
def imageWritten (ok : Bool) (s : State) : State :=
  match s.keep.imageFor with
  | none => s
  | some (m, n, b, x) =>
    let s := s.modKeep (fun k => { k with imageFor := none })
    let s :=
      if ok then
        let t := s.keepTime
        let up := s.journalUp
        s.modKeep (fun k => { (k.setImage b { state := .staged, svn := x.fwSvn.toNat, release := x.fwRelease, pledomMax := x.pledomMax.toNat, trussMax := x.trussMax.toNat, schemaMax := x.schemaMax.toNat, formatMax := x.formatMax.toNat, stagedS := t }) with
          archive := if up then tput k.archive (bit b) x.fwRelease else k.archive })
      else if (Config.draw s.draws).getLsbD 0 then ({ s with draws := s.draws + 1 } : State).modKeep (fun k => k.setImage b {})
      else { s with draws := s.draws + 1 }
    (s.finish m n (if ok then Rep.ok else Rep.fail St.storeFault)).fin

/-- The write of a proposed policy image ends: it stands in the slot that is not active, marked pending (16 R413). A write that fails answers STORE_FAULT, and whether the slot keeps what it held is left open. -/
def policyWritten (ok : Bool) (s : State) : State :=
  match s.ks.writing with
  | none => s
  | some (m, n, p) =>
    let s : State := { s with ks := { s.ks with writing := none } }
    let idle := 1 - s.ks.activeSlot
    let s : State :=
      if ok then { s with ks := { s.ks with slots := s.ks.slots.set! idle (some p), pending := true } }
      else if (Config.draw s.draws).getLsbD 0 then { s with draws := s.draws + 1, ks := { s.ks with slots := s.ks.slots.set! idle none, pending := false } }
      else { s with draws := s.draws + 1 }
    (s.finish m n (if ok then Rep.ok else Rep.fail St.storeFault)).fin

/-- NOR_WRITE_DONE. -/
def execNorWriteDone (policy ok : Bool) (s : State) : Host.Outcome State Fault Refusal := .next (if policy then policyWritten ok s else imageWritten ok s)

end Sys2Proof.Machine
end

