-- ==== Sys2Proof/Machine/Keystone.lean ====
section
/-! DEFINITION. Keystone (16): its window and state, the ks commands, release, mandatory overlays and tone, sensors, trips and lockstep, the throttle ladder (17 R451, R452) and the core rails (19 R471). -/

namespace Sys2Proof.Machine

open Sys2Proof

/-! ### The Keystone window (R409, Table 16-2) -/

/-- STATE of KS_STATE: HOLD while the release is pending or the claim bus is lost. -/
def State.ksCode (s : State) : Nat :=
  match s.ks.state with
  | .boot => 0 | .trip => 3 | .park => 4
  | .run | .hold => if s.ks.released && s.twin.busOk then 1 else 2

/-- The regulator is in low-power mode: in Quiet and Park, but not while Keystone writes the NOR or runs a public-key operation (17 R444, R445). -/
def State.regLow (s : State) : Bool := s.ks.lowPower && s.ks.writing.isNone && s.keep.imageFor.isNone && s.ks.pkOps.isEmpty

/-- KS_STATE. -/
def State.ksStateWord (s : State) : Nat :=
  s.ksCode + 8 * bit s.ks.policyOk + 16 * bit s.ks.pending + 32 * bit s.twin.busOk + 64 * bit s.ks.released + 256 * bit s.regLow + 65536 * s.ks.lastAdopt

/-- Fuse slots that satisfy a test, a bit each. -/
def fuseMap (k : Keystone) (p : KeyFuse → Bool) : Nat := total (List.range 4) (fun i => if (k.fuses.toList[i]?).any p then 2 ^ i else 0)

/-- KS_POLICY_SVN. -/
def State.ksSvnWord (s : State) : Nat :=
  s.ks.policy.svn.toNat + 256 * s.ks.fusedSvn + 65536 * fuseMap s.ks (fun f => f.key.isSome) + 1048576 * fuseMap s.ks (fun f => f.revoked)

/-- The hottest sensor that has not failed: its number and its reading in 0.125 °C, the lowest number among equals. -/
def Keystone.hottest (k : Keystone) : Option (Nat × Int) :=
  (List.range k.sensors.length).foldl (fun acc i =>
    match (k.sensors[i]?).join with
    | some v => if k.failed.contains i then acc else match acc with
      | some (_, w) => if w < v then some (i, v) else acc
      | none => some (i, v)
    | none => acc) none

/-- KS_TEMP. -/
def State.ksTempWord (s : State) : Nat :=
  (match s.ks.hottest with | some (i, v) => (BitVec.ofInt 16 v).toNat + 65536 * (i % 32) | none => 0) + 16777216 * (s.ks.failed.length % 256)

/-- A claim group has an output here that policy permits: an access port's or a control output's (R421, Table 16-7). -/
def State.hasOutput (s : State) (g : Nat) : Bool :=
  ([0, 1] : List (Fin 2)).any (fun p => (s.accPort p).role != 0 && s.claimGroup p == g && s.laserOk p) || s.ks.policy.ctlGroup.any (fun c => c.1 == some g)

/-- KS_GATED: bit g while the outputs of group g are enabled. -/
def State.gatedMap (s : State) : Nat := total (List.range 64) (fun g => if s.gatedOn g && s.hasOutput g then 2 ^ g else 0)

/-- CTL_OUTn as driven: none is its safe level, which policy gives (R421). -/
def State.ctlEnabled (s : State) (n : Nat) : Bool := (s.ks.policy.ctlGroup[n]?).any (fun c => c.1.any s.gatedOn)

/-- Level of CTL_OUTn: high impedance in reset and before Keystone has read its policy, else the safe level or, enabled, the other (19 R474, 18 R455; that enabled is the other level: DEDUCED, log 86). -/
def State.ctlPin (s : State) (n : Nat) : Option Bool :=
  if !s.pins.resetN || s.boot.stage == .held then none else (s.ks.policy.ctlGroup[n]?).map (fun c => if s.ctlEnabled n then !c.2 else c.2)

/-- ACCp_BURST_EN may rise: terminal role, claimed and permitted (R421). -/
def State.burstEnabled (s : State) (p : Fin 2) : Bool := s.isTerminal p && s.claimed p

/-- ACCp_TX_EN: head role, the tree running, claimed and permitted (R421, 11 R301). -/
def State.txEnabled (s : State) (p : Fin 2) : Bool := s.treeRuns p && s.claimed p && !(s.accPort p).waits

/-- ACCp_TX_DIS is high: in O1 and O7, in head role while the tree is stopped, whenever policy forbids transmission, and while the output is not enabled (R421, 11 R301). -/
def State.txDisabled (s : State) (p : Fin 2) : Bool :=
  !s.claimed p || (s.isTerminal p && ((s.accPort p).state == 1 || (s.accPort p).state == 7)) || ((s.accPort p).role == 2 && !s.treeRuns p) || (s.accPort p).role == 0

/-- KS_NOTICE: mixes that carry the tone, layouts that substitute the card. -/
def State.ksNoticeWord (s : State) : Nat :=
  (s.snd.mixes.filter (fun p => s.toneOn p.2.conf)).length % 65536 + 65536 * ((s.pic.layouts.filter (fun p => p.2.card)).length % 65536)

/-- A 32-bit read of the window; offsets not listed read 0. -/
def State.ksRead (s : State) (offset : Nat) : Nat :=
  match offset with
  | 0x000 => 0x01C09640
  | 0x004 => s.ksStateWord
  | 0x008 => Config.serial.toNat % 4294967296
  | 0x00C => Config.serial.toNat / 4294967296
  | 0x010 => s.ks.policy.version.toNat
  | 0x014 => s.ksSvnWord
  | 0x018 => s.gatedMap % 4294967296
  | 0x01C => s.gatedMap / 4294967296
  | 0x020 => s.heldMap % 4294967296
  | 0x024 => s.heldMap / 4294967296
  | 0x028 => s.ks.trips.toNat
  | 0x02C => s.ksTempWord
  | 0x030 => s.ks.rejects.toNat
  | 0x034 => s.ks.rejectLast.toNat
  | 0x038 => s.ks.logNext.toNat
  | 0x03C => s.ksNoticeWord
  | 0x040 => (s.model.legs.filter (fun p => p.2.emergency)).length
  | 0x044 => s.ksTick
  | _ => 0

/-- Raise the Keystone event (16). -/
def State.ksEvent (s : State) (kind rule conf detail media : Nat) : State :=
  s.raise 0x1280 St.ok (le 1 kind ++ le 1 rule ++ le 2 conf ++ le 4 detail ++ le 8 media)

/-- A write aimed at Keystone is ignored and counted (R408). -/
def ksWriteReject (source offset : U16) (s : State) : State :=
  if !s.pins.resetN then s
  else
    let last : U32 := BitVec.ofNat 32 (source.toNat + 65536 * offset.toNat)
    let told := s.ks.rejectAt == some s.chipS
    let s : State := { s with ks := { s.ks with rejects := satInc s.ks.rejects, rejectLast := last, rejectAt := some s.chipS } }
    (if told then s else s.ksEvent 4 0xFF 0xFFFF last.toNat 0).fin

/-- KS_WRITE_REJECT. -/
def execKsWriteReject (source offset : U16) (s : State) : Host.Outcome State Fault Refusal := .next (ksWriteReject source offset s)

/-! ### ks commands -/

/-- ks.status. -/
def rowKsStatus : Row where
  opcode := 0x1200
  checks := fun _ _ => {}
  effect := fun _ s => (s, Rep.ok (le 4 s.ksStateWord ++ le 4 s.ks.policy.version.toNat ++ le 4 s.ksSvnWord ++ le 4 s.ks.trips.toNat ++ le 4 s.ksTempWord ++ le 4 s.ks.rejects.toNat))

/-- KS_STATUS. -/
def execKsStatus (m : Mbx) (s : State) : Host.Outcome State Fault Refusal := .next (s.run m rowKsStatus)

/-- ks.propose (R411 to R413): REQ_LEN 0 withdraws the pending image; the image's SIZE is REQ_LEN (DEDUCED, log 84). -/
def rowKsPropose (m : Mbx) (proposal : Option Proposal) : Row where
  opcode := 0x1201
  checks := fun c s =>
    let asked := c.hdr.reqLen != 0
    { pre := need (decide (c.hdr.reqLen.toNat ≤ 4194304)) St.length,
      word := if !asked then none else match proposal with
        | none => some (Rep.fail St.badField [0])
        | some p => if p.size = c.hdr.reqLen.toNat then (s.ks.malformed p).map (fun n => Rep.fail St.badField [n]) else some (Rep.fail St.badField [((s.ks.malformed p).map (min 0x0C)).getD 0x0C]),
      busy := [need (s.ks.writing.isNone && s.keep.imageFor.isNone) St.busy],
      rest := [need (s.permits m 4) St.isProtected, need (!asked || proposal.all (fun p => s.ks.test p == 0)) St.isProtected] }
  layout := fun _ => match proposal with
    | none => []
    | some p => [(0, 0, 32, p.magic.toNat), (4, 0, 8, p.format.toNat), (5, 0, 8, p.image.svn.toNat), (6, 0, 8, p.image.keySlot.toNat), (7, 0, 1, bit p.image.enrol), (8, 0, 32, p.image.version.toNat),
        (0x0C, 0, 32, p.size), (0x10, 0, 128, p.image.pairId.toNat), (0x20, 0, 16, p.sections.length)] ++
        p.sections.zipIdx.flatMap (fun x => [(0x40 + 16 * x.2, 0, 8, x.1.type.toNat), (0x44 + 16 * x.2, 0, 32, x.1.offset.toNat), (0x48 + 16 * x.2, 0, 32, x.1.length.toNat), (0x4C + 16 * x.2, 0, 32, x.1.crc.toNat)])
  effect := fun c s =>
    match (if c.hdr.reqLen = 0 then none else proposal) with
    | none => ({ s with ks := { s.ks with pending := false } }, Rep.ok)
    | some p => ({ s with ks := { s.ks with writing := some (m, c.seq, p) } }, Rep.goesOn)

/-- KS_PROPOSE. -/
def execKsPropose (m : Mbx) (proposal : Option Proposal) (s : State) : Host.Outcome State Fault Refusal := .next (s.run m (rowKsPropose m proposal))

/-- ks.cert (R420). -/
def rowKsCert : Row where
  opcode := 0x1202
  checks := fun _ s => { objects := [need s.ks.cert.isSome St.noObject] }
  effect := fun _ s =>
    match s.ks.cert with
    | none => (s, Rep.fail St.noObject)
    | some (_, n) => (s, Rep.ok (le 32 (Config.fingerprint n).toNat ++ le 8 (Config.certificate n).length ++ Config.certificate n))

/-- KS_CERT. -/
def execKsCert (m : Mbx) (s : State) : Host.Outcome State Fault Refusal := .next (s.run m rowKsCert)

/-- The bytes of a Keystone log record (Table 16-8). -/
def ksRecBytes (r : KsRec) : Bytes :=
  le 4 r.seq.toNat ++ le 1 r.cause.toNat ++ le 1 r.bootCount.toNat ++ le 2 r.repeats ++ le 8 r.timeS ++ le 4 r.uptimeMs ++ le 4 r.detail ++ le 4 r.value ++ le 4 0

/-- ks.log (R429, R430). -/
def rowKsLog (first : U32) (count : U16) : Row where
  opcode := 0x1203
  checks := fun _ s => { fields := within 1 256 count.toNat, objects := [need (s.ks.log.any (fun r => r.seq == first)) St.noObject] }
  layout := fun _ => [(0, 0, 32, first.toNat), (4, 0, 16, count.toNat)]
  effect := fun _ s =>
    let l := ((s.ks.log.dropWhile (fun r => r.seq != first)).take count.toNat)
    (s, Rep.ok (le 4 l.length ++ le 4 0 ++ l.flatMap ksRecBytes))

/-- KS_LOG. -/
def execKsLog (m : Mbx) (first : U32) (count : U16) (s : State) : Host.Outcome State Fault Refusal := .next (s.run m (rowKsLog first count))

/-- ks.policy: the active section as stored, under its CRC-32C. -/
def rowKsPolicy (type : U8) : Row where
  opcode := 0x1204
  checks := fun _ _ => { fields := [1, 2, 3, 4, 8, 9, 10, 11].contains type.toNat }
  layout := fun _ => [(0, 0, 8, type.toNat)]
  effect := fun _ s =>
    let b := if type = 1 then s.ks.policy.permissions.flatMap (fun w => le 4 w.toNat) else Config.section_ type.toNat (if s.ks.policyOk then s.ks.activeSlot else 2)
    (s, Rep.ok (le 4 (crc32c b).toNat ++ le 4 0 ++ b))

/-- KS_POLICY. -/
def execKsPolicy (m : Mbx) (type : U8) (s : State) : Host.Outcome State Fault Refusal := .next (s.run m (rowKsPolicy type))

/-! ### Release (R422) -/

/-- Keystone sets RELEASED once the Pier image has verified and it has observed two valid claim rounds without driving, or no start condition for 1,500 µs (R422); never in recovery (18 R463). -/
def keystoneRelease (s : State) : State :=
  let silent := decide (s.twin.lastStart + State.ticksOfUs 1500 ≤ s.clk)
  if s.ks.state = .run ∧ s.ks.verified ∧ !s.ks.released ∧ !s.boot.recovery ∧ (2 ≤ s.ks.seenRounds ∨ silent) then
    let s : State := { s with ks := { s.ks with released := true } }
    if s.twin.state = .alone then s.newCert else s
  else s

/-- KEYSTONE_RELEASE. -/
def execKeystoneRelease (s : State) : Host.Outcome State Fault Refusal := .next (keystoneRelease s)

/-! ### Mandatory overlays and the notice tone (R423 to R425) -/

/-- A rule's trigger holds in a conference (R424). -/
def State.triggered (s : State) (c : Nat) (r : PolicyRule) : Bool :=
  match r.trigger.toNat with
  | 0 => (s.legsOf c).any (fun p => p.2.emergency && p.2.state == .active)
  | 1 => (s.legsOf c).any (fun p => p.2.state != .basted && (s.ks.policy.keyPolicies[p.2.keyPolicy]?).any (fun k => k.consent))
  | _ => true

/-- The rule that wins region 3 of a conference: the lowest whose trigger holds (R424). -/
def State.winner (s : State) (c : Nat) : Option (Nat × PolicyRule) :=
  ((s.ks.policy.rules.zipIdx.filter (fun p => s.triggered c p.1)).map (fun p => (p.2, p.1))).head?

/-- Where a rule's overlay lies in a layout: at its anchor corner within the margin (0 top left, 1 top right, 2 bottom left, 3 bottom right); none if it does not fit. -/
def placeOverlay (l : Layout) (r : PolicyRule) (o : Overlay) : Option Region :=
  let m := r.margin.toNat
  if l.width < o.width + m ∨ l.height < o.height + m then none
  else some {
    overlay := r.overlay.toNat, byKeystone := true,
    x := if r.anchor.toNat % 2 = 1 then l.width - o.width - m else m,
    y := if r.anchor.toNat / 2 % 2 = 1 then l.height - o.height - m else m }

/-- At the first slot after a rule's trigger changes, Keystone places or removes its overlay in region 3; an overlay that does not fit shows the card (R424). -/
def ruleOverlay (y : Nat) (s : State) : State :=
  match tget s.pic.layouts y with
  | none => s
  | some l =>
    let now := tget l.regions 3
    let mine := now.any (fun g => g.byKeystone)
    if l.awaiting ∨ l.basted.isSome then s
    else match s.winner l.conf with
      | some (n, r) =>
        match (s.ks.policy.overlays[r.overlay.toNat]?).bind (placeOverlay l r) with
        | some g =>
          if now = some g then s
          else ((s.modLayout y (fun l => { l with regions := tput l.regions 3 g, noFit := false })).ksEvent 2 n l.conf 0 l.next).fin
        | none =>
          let s := s.modLayout y (fun l => { l with noFit := true, regions := tdel l.regions 3 })
          (if mine then s.ksEvent 3 n l.conf 0 l.next else s).fin
      | none =>
        let s := s.modLayout y (fun l => { l with noFit := false, regions := if mine then tdel l.regions 3 else l.regions })
        (if mine then s.ksEvent 3 0xFF l.conf 0 l.next else s).fin

/-- RULE_OVERLAY_PLACE. -/
def execRuleOverlayPlace (layout : Nat) (s : State) : Host.Outcome State Fault Refusal := .next (ruleOverlay layout s)

/-- One rule's tone in a conference: it starts at the first multiple of 960 samples at or after the trigger, and stops at the end of the repetition in which the trigger ends (R425). -/
def State.toneStep (s : State) (c m n : Nat) (r : PolicyRule) : State :=
  let period := 48000 * max 1 s.ks.policy.tonePeriodS
  let run := s.ks.rules.find? (fun q => q.rule == n && q.conf == c)
  let others := s.ks.rules.filter (fun q => !(q.rule == n && q.conf == c))
  match run with
  | none =>
    if r.tone ∧ s.triggered c r then
      let t := roundUp m 960
      ({ s with ks := { s.ks with rules := s.ks.rules ++ [{ rule := n, conf := c, tone := some t }] } } : State).ksEvent 0 n c 0 t
    else s
  | some q =>
    let start := q.tone.getD m
    match q.toneEnd with
    | some e => if e ≤ m then { s with ks := { s.ks with rules := others } } else s
    | none =>
      if s.triggered c r then s
      else
        let e := start + ((m - start) / period + 1) * period
        ({ s with ks := { s.ks with rules := others ++ [{ q with toneEnd := some e }] } } : State).ksEvent 1 n c 0 e

/-- The notice tone of a conference follows its rules (R425). -/
def noticeTone (c : Nat) (s : State) : State :=
  match tget s.model.confs c with
  | none => s
  | some q =>
    if q.basted.isSome ∨ q.origin.isNone then s
    else
      let m := s.media c
      (s.ks.policy.rules.zipIdx.foldl (fun s p => s.toneStep c m p.2 p.1) s).fin

/-- NOTICE_TONE. -/
def execNoticeTone (conf : Nat) (s : State) : Host.Outcome State Fault Refusal := .next (noticeTone conf s)

/-! ### Gating of encoders (06 R183, 17 Table 17-10) -/

namespace State

/-- An encode context must be gated: by the throttle level, or because its lanes are without power. -/
def encGate (s : State) (e : EncCtx) : Bool :=
  let owned := ((tget s.pic.feeds e.feed).bind (fun f => tget s.pic.layouts f.layout)).any (fun l => l.owner.isSome)
  decide (2 ≤ s.pwr.levelNow) || (decide (1 ≤ s.pwr.levelNow) && owned) || e.lanes.any (fun p => s.laneDark 9 p.1)

/-- Media time of an encode context's conference. -/
def encMedia (s : State) (e : EncCtx) : Nat := s.media (s.confOfLayout ((tget s.pic.feeds e.feed).elim 0 (·.layout)))

/-- A context restarts after a gating: it kept its picture count, its first picture is a key picture, DEBT and ALLOW are 0 (06 R183). -/
def encRestart (s : State) (e : EncCtx) : EncCtx :=
  let d := slotDelta ((tget s.pic.feeds e.feed).elim 30 (fun f => f.req.rate.toNat))
  { e with
    gated := false, keyAt := e.keyAt ++ [(0, false)], first := max e.first (roundUp (s.encMedia e) d - e.picnum * d), waiting := 0,
    layers := e.layers.map (fun l => { l with debt := 0, allow := 0 }) }

/-- Gate and restart the encode contexts as the level and the power of their lanes say. -/
def regate (s : State) : State :=
  s.modPic (fun p => { p with enc := tmap p.enc (fun _ e => if s.encGate e then { e with gated := true } else if e.gated then s.encRestart e else e) })

/-- Raise the power notice (17). None is raised from the flush step on. -/
def powerNotice (s : State) (kind detail : Nat) : State :=
  if s.pwr.supply = .flush then s else s.raise 0x0F81 St.ok (le 1 kind ++ le 1 detail ++ le 1 (powerCode s.pwr.state) ++ le 5 0 ++ le 8 s.chipS)

/-! ### The throttle ladder (17 R451, R452; 12 R319) -/

/-- L1_C in use. -/
def l1Now (s : State) : Nat := s.pwr.l1Clamp.getD s.pwr.l1

/-- The threshold of level k + 1 in 0.125 °C (17 Table 17-10). -/
def levelAt (s : State) (k : Nat) : Int := 8 * ((s.l1Now : Int) + 3 * (k : Int))

/-- A frame of this unit to its peer, kept until acknowledged (12 R308). -/
def sendFrame (s : State) (payload : Nat) : State :=
  if s.twin.linkUp ∧ s.twin.authed then s.modTwin (fun t => { t with unacked := t.unacked ++ [(t.txSeq, 20 + payload)], txSeq := t.txSeq + 1 }) else s

/-- The level this unit decides: a primary takes the higher of the two units' levels (17 R452). A standby asks the primary in a NOTICE frame and waits 100 ms (12 R319). -/
def decideLevel (s : State) : State :=
  let cur := s.pwr.levelDue.getD s.pwr.levelNow
  if s.twin.state = .standby then
    let s := s.sendFrame 16
    if cur < s.pwr.level ∧ s.twin.throttleAsk.isNone then s.modTwin (fun t => { t with throttleAsk := some (s.pwr.level, s.clk + 100 * ticksPerMs) }) else s
  else
    let want := if s.twin.state = .primary then max s.pwr.level s.pwr.peerLevel else s.pwr.level
    if want = cur then s else ({ s with pwr := { s.pwr with levelDue := some want } } : State).mirror 16

/-- One reading's effect on the level: entered at two consecutive readings at or above a threshold, left after 10 s at or below it less 4 °C (17 R451). -/
def ladder (s : State) (hot : Int) : State :=
  let p := s.pwr
  let above := Vector.ofFn (fun k : Fin 3 => decide (s.levelAt k.val ≤ hot))
  let cool := Vector.ofFn (fun k : Fin 3 => if hot ≤ s.levelAt k.val - 32 then (if (p.coolSince.get k).isSome then p.coolSince.get k else some s.clk) else none)
  let entered := (List.finRange 3).foldl (fun acc k => if above.get k && p.hotOnce.get k then k.val + 1 else acc) 0
  let left (k : Fin 3) : Bool := (cool.get k).any (fun t => decide (t + 10 * ticksPerS ≤ s.clk))
  let down := (List.finRange 3).foldl (fun acc k => if k.val < p.level ∧ !left k then k.val + 1 else acc) 0
  let new := if p.level < entered then entered else down
  let s : State := { s with pwr := { p with hotOnce := above, coolSince := cool, level := new } }
  if new = p.level then s else s.decideLevel

/-! ### Trips (R426, R427) -/

/-- Change Keystone. -/
def modKs (s : State) (f : Keystone → Keystone) : State := { s with ks := f s.ks }

/-- A trip: gated outputs fall, a log record is written, and every domain but the always-on one is held in reset (R427). -/
def trip (s : State) (cause detail value : Nat) (thermal : Bool) : State :=
  let s := s.ksLog cause detail value
  let k := s.ks
  let s := s.wiped 7 3
  { s with ks := { k with
      state := .trip, released := false, trips := k.trips ||| BitVec.ofNat 32 (2 ^ cause), tripThermal := thermal, verified := false, seenRounds := 0,
      clearSince := some s.clk, writing := none, rules := [] } }

end State

/-- A reading in −40 to 150 °C (R426). -/
def sensorOk (v : Option Int) : Bool := v.any (fun x => decide (-320 ≤ x) && decide (x ≤ 1200))

/-- Every 1 ms Keystone reads all 32 sensors: failures, the trip, the throttle level, the warning near TRIP_C; in a thermal trip, the time for which every sensor is cool enough (R426, R427, 17 R451). -/
def sensorRead (readings : List (Option Int)) (s : State) : State :=
  if !s.pins.resetN ∨ s.ks.state = .boot ∨ s.ks.state = .park then s
  else
    let vs := (readings ++ List.replicate 32 none).take 32
    let fresh := (List.range 32).filter (fun i => !sensorOk ((vs[i]?).join) && !s.ks.failed.contains i)
    let s := fresh.foldl (fun s i => s.ksLog 2 i (match (vs[i]?).join with | some v => (BitVec.ofInt 32 v).toNat | none => 0)) s
    let s : State := { s with ks := { s.ks with prev := s.ks.sensors, sensors := vs, failed := s.ks.failed ++ fresh } }
    let k := s.ks
    let good := (List.range 32).filter (fun i => !k.failed.contains i)
    let at_ (l : List (Option Int)) (i : Nat) : Option Int := (l[i]?).join
    let limit : Int := 8 * (k.policy.tripC : Int)
    if k.state = .trip then
      let cool := good.all (fun i => (at_ vs i).any (fun v => decide (v < limit - 160)))
      if k.tripThermal then
        { s with ks := { k with clearSince := if cool then (if k.clearSince.isSome then k.clearSince else some s.clk) else none } }
      else s
    else
      let hot := good.find? (fun i => (at_ vs i).any (fun v => decide (limit ≤ v)) && (at_ k.prev i).any (fun v => decide (limit ≤ v)))
      match hot with
      | some i => (s.trip 0 i ((at_ vs i).elim 0 (fun v => (BitVec.ofInt 32 v).toNat)) true).modKs (fun k => { k with clearSince := none })
      | none =>
        if 2 ≤ k.failed.length then (s.trip 0 (k.failed.headD 0) 0 true).modKs (fun k => { k with clearSince := none })
        else
          let h := k.hottest.elim (-320) (·.2)
          let near := decide (limit - 40 ≤ h)
          let s := if near ∧ !k.nearTold then s.ksEvent 5 0xFF 0xFFFF s.ksTempWord 0 else s
          (({ s with ks := { s.ks with nearTold := near } } : State).ladder h).fin

/-- KEYSTONE_SENSOR_READ. -/
def execKeystoneSensorRead (readings : List (Option Int)) (s : State) : Host.Outcome State Fault Refusal := .next (sensorRead readings s)

/-- A decided level takes effect at its picture boundary: encoders are gated or restart (17 R452, 06 R183). -/
def throttleChange (level : Nat) (s : State) : State :=
  if s.pwr.levelDue ≠ some level then s
  else
    let old := s.pwr.levelNow
    let s : State := { s with pwr := { s.pwr with levelNow := level, levelDue := none } }
    let s := s.regate
    let s := if old ≠ 0 ∧ level = 0 then
        s.pic.enc.foldl (fun s p => if !p.2.gated ∧ (tget s.pic.feeds p.2.feed).any (fun f => decide (1 < FeedReq_layers f.req)) then s.wantKey p.1 0 false else s) s
      else s
    (s.powerNotice 5 level).fin

/-- THROTTLE_LEVEL_CHANGE. -/
def execThrottleLevelChange (level : Fin 4) (s : State) : Host.Outcome State Fault Refusal := .next (throttleChange level.val s)

/-- No decision within 100 ms: the standby leaves synchronisation with THERMAL and throttles alone (12 R319). -/
def throttleTimeout (s : State) : State :=
  if s.twin.state = .standby ∧ s.twin.throttleAsk.any (fun t => decide (t.2 ≤ s.clk)) then (s.leaveSync 8).decideLevel.fin else s

/-- THROTTLE_REQUEST_TIMEOUT. -/
def execThrottleRequestTimeout (s : State) : Host.Outcome State Fault Refusal := .next (throttleTimeout s)

/-- Number of a rail: its place in Table 19-3. -/
def railNo : Rail → Nat
  | .vddAoIn => 0 | .vddAo => 1 | .vddM0 => 2 | .vddM1 => 3 | .vddIod => 4 | .vddDdrPhy => 5 | .vddSerdes => 6 | .vddq => 7 | .vddhSerdes => 8 | .vddio18 => 9 | .vccqNand => 10

/-- A rail lies within its trip window (19 Table 19-3); the core rails' windows follow the acknowledged set point (19 R471). -/
def State.railOk (s : State) (r : Rail) (mV : Nat) : Bool :=
  match r with
  | .vddAoIn | .vddio18 => within 1620 1980 mV
  | .vddAo => within 680 830 mV
  | .vddM0 => within (92 * s.ks.avsMv.get 0) (108 * s.ks.avsMv.get 0) (100 * mV)
  | .vddM1 => within (92 * s.ks.avsMv.get 1) (108 * s.ks.avsMv.get 1) (100 * mV)
  | .vddIod | .vddDdrPhy => within 690 810 mV
  | .vddSerdes => within 700 800 mV
  | .vddq => within 1010 1190 mV
  | .vddhSerdes | .vccqNand => within 1100 1300 mV

/-- A monitored rail has stayed outside its trip window for more than 50 µs (R426). In a trip it starts the 100 ms of R427 again. -/
def supplyTrip (r : Rail) (mV : Nat) (s : State) : State :=
  if !s.pins.resetN ∨ s.railOk r mV then s
  else if s.ks.state = .trip then (if s.ks.tripThermal then s else { s with ks := { s.ks with clearSince := some s.clk } })
  else s.trip 1 (railNo r) mV false

/-- SUPPLY_TRIP. -/
def execSupplyTrip (rail : Rail) (mV : Nat) (s : State) : Host.Outcome State Fault Refusal := .next (supplyTrip rail mV s)

/-- The condition of the trip has cleared for long enough: 10 s for a thermal trip, 100 ms for a supply trip; the device boots with cause 7 (R427). -/
def tripClear (s : State) : State :=
  let need := if s.ks.tripThermal then 10 * State.ticksPerS else 100 * State.ticksPerMs
  if s.ks.state = .trip ∧ s.ks.clearSince.any (fun t => decide (t + need ≤ s.clk)) then (s.deviceReset 7).fin else s

/-- TRIP_CLEAR. -/
def execTripClear (s : State) : Host.Outcome State Fault Refusal := .next (tripClear s)

/-- The two sequencers disagree: the log record is written, and the device resets with cause 3 (R428, 01 R25). -/
def lockstep (s : State) : State := if !s.pins.resetN then s else ((s.ksLog 3 0 0).deviceReset 3).fin

/-- LOCKSTEP_MISMATCH. -/
def execLockstepMismatch (s : State) : Host.Outcome State Fault Refusal := .next (lockstep s)

/-! ### The core rails (19 R471) -/

/-- A step of a core rail: 5 mV towards its set point, at most one per 10 µs; only an acknowledged step counts. A step without an acknowledgement waits for it, or for its retries. -/
def avsStep (r : Fin 2) (target : Nat) (ack : Bool) (s : State) : State :=
  let k := s.ks
  let mv := k.avsMv.get r
  let soon := (k.avsAt.get r).any (fun t => decide (s.clk < t + State.ticksOfUs 10))
  let next := if mv < target then min target (mv + 5) else max target (mv - 5)
  let wait := k.avsWait.get r
  if k.state = .trip ∨ k.state = .park ∨ !s.pins.resetN ∨ k.avsStuck.get r ∨ mv = target ∨ !within 700 850 target ∨ (soon ∧ !wait) ∨ (wait ∧ !ack) then s
  else if ack then { s with ks := { k with avsMv := k.avsMv.set r next, avsAt := k.avsAt.set r (some s.clk), avsMiss := k.avsMiss.set r 0, avsWait := k.avsWait.set r false } }
  else { s with ks := { k with avsAt := k.avsAt.set r (some s.clk), avsWait := k.avsWait.set r true } }

/-- AVS_RAIL_STEP. -/
def execAvsRailStep (rail : Fin 2) (targetMv : Nat) (ack : Bool) (s : State) : Host.Outcome State Fault Refusal := .next (avsStep rail targetMv ack s)

/-- A regulator that has not acknowledged within 1 ms is retried 3 times; then the rail stays where it is. -/
def avsTimeout (r : Fin 2) (s : State) : State :=
  let k := s.ks
  if !k.avsWait.get r ∨ !(k.avsAt.get r).any (fun t => decide (t + State.ticksPerMs ≤ s.clk)) then s
  else
    let n := k.avsMiss.get r + 1
    { s with ks := { k with avsMiss := k.avsMiss.set r n, avsAt := k.avsAt.set r (some s.clk), avsStuck := k.avsStuck.set r (decide (3 < n)), avsWait := k.avsWait.set r (decide (n ≤ 3)) } }

/-- AVS_ACK_TIMEOUT. -/
def execAvsAckTimeout (rail : Fin 2) (s : State) : Host.Outcome State Fault Refusal := .next (avsTimeout rail s)

end Sys2Proof.Machine
end

