-- ==== Sys2Proof/Machine/Power.lean ====
section
/-! DEFINITION. Power (17): domains and their voters, power changes through Pier's seams, Quiet and waking, the supply response, Park and brown-out, and the power commands. -/

namespace Sys2Proof.Machine

open Sys2Proof

/-! ### Domains and voters (R432 to R434) -/

/-- The votable block domains (Table 17-2). -/
def votable : List U16 :=
  (List.range 32).map (blockIsland 0) ++ (List.range 14).map (blockIsland 1) ++ (List.range 2).map (blockIsland 3)

/-- Code of a domain's state (power.vote DSTATE). -/
def domCode : DomState → Nat
  | .up => 0 | .changing => 1 | .gated => 2 | .poweringUp => 3

/-- A domain lies in the masks of Trim. -/
def inMask (sound : U32) (picture : BitVec 14) (access : BitVec 2) (d : U16) : Bool :=
  match regionOf d with
  | 0 => sound.getLsbD (blockNo d)
  | 1 => picture.getLsbD (blockNo d)
  | 3 => access.getLsbD (blockNo d)
  | _ => false

namespace State

/-- Change a domain. -/
def modDomain (s : State) (d : U16) (f : Domain → Domain) : State := { s with pwr := { s.pwr with domains := tput s.pwr.domains d.toNat (f (s.domain d)) } }

/-- Voter 18: a Sound or Picture block that carries a charge, a task or a context. -/
def voteAdmission (s : State) (d : U16) : Bool := s.blockWork d

/-- Voter 19: an access port block whose role is not disabled. -/
def voteAccess (s : State) (d : U16) : Bool := regionOf d == 3 && (s.accPort (fin2 (blockNo d))).role != 0

/-- Voter 31 under a device state and masks (Table 17-3). -/
def voteState (st : PowerState) (sound : U32) (picture : BitVec 14) (access : BitVec 2) (d : U16) : Bool :=
  match st with
  | .full => true
  | .trim => !inMask sound picture access d
  | _ => false

/-- A domain is held in a device state. In Quiet the state alone decides: only the QUIET_PORT block is on (Table 17-2). -/
def heldIn (s : State) (st : PowerState) (port : U8) (sound : U32) (picture : BitVec 14) (access : BitVec 2) (d : U16) : Bool :=
  if st = .quiet then regionOf d == 3 && blockNo d == port.toNat
  else (s.domain d).votes != 0 || s.voteAdmission d || s.voteAccess d || voteState st sound picture access d

/-- A domain is held in the state in force. -/
def heldNow (s : State) (d : U16) : Bool := s.heldIn s.pwr.state s.pwr.quietPort s.pwr.trimSound s.pwr.trimPicture s.pwr.trimAccess d

/-- A unit of a formed pair (12 R306). -/
def formed (s : State) : Bool := s.twin.state == .standby || (s.twin.state == .primary && s.twin.peerState == some 3)

/-- The voters that hold a domain, as a bitmap. -/
def voters (s : State) (d : U16) : Nat :=
  (s.domain d).votes.toNat + 131072 * bit (s.formed && (s.domain d).state == .up) + 262144 * bit (s.voteAdmission d) + 524288 * bit (s.voteAccess d) +
    2147483648 * bit (voteState s.pwr.state s.pwr.trimSound s.pwr.trimPicture s.pwr.trimAccess d)

/-- Votable domains without power. -/
def gatedCount (s : State) : Nat := (votable.filter (fun d => (s.domain d).state == .gated)).length

/-! ### Powering up (R434) -/

/-- A Picture block's work starts anew after its power returns: decode contexts ask for key pictures, layouts go on at the present slot, encoders restart (R447, 06 R169, R183). -/
def pictureUp (s : State) (d : U16) : State :=
  let on (code : Nat) (l : List (Nat × Nat)) : Bool := l.any (fun p => blockOfIsland (laneIsland code p.1) == d)
  let s := s.pic.dec.foldl (fun s p => if on 8 p.2.lanes then s.askKey p.2.source true false else s) s
  let s := s.modPic (fun p => { p with layouts := tmap p.layouts (fun _ l =>
    if on 10 l.cells then
      let m := s.media l.conf
      { l with awaiting := false, bad := [], snags := [], sigUntil := none, lastSlot := max l.lastSlot (if l.firstSlot ≤ m then m / slotDelta l.rate * slotDelta l.rate - slotDelta l.rate else 0) }
    else l) })
  s.regate

/-- A domain has power: its block has tested itself and is empty; its fenced cells return where they passed (01 R22). The votes that waited for it are answered (R438). -/
def domainUp (s : State) (d : U16) (failed : List U16) : State :=
  let l := (s.domain d).deferred
  let s := (s.selfTested d ((failed.filter (fun c => blockOfIsland c == d)).map cellNo)).degrade
  let s := s.modDomain d (fun x => { x with state := .up, deferred := [], held := true })
  let s := if regionOf d = 1 then s.pictureUp d else s
  l.foldl (fun s m => s.deferredEvent m St.ok) s

/-- A gated domain starts to power up. -/
def raiseDomain (s : State) (d : U16) : State := if (s.domain d).state = .gated then s.modDomain d (fun x => { x with state := .poweringUp }) else s

/-- A domain loses power: what its block carried is preserved as configuration only (Table 17-4). -/
def gateDomain (s : State) (d : U16) : State :=
  let s := s.modDomain d (fun x => { x with state := .gated })
  let s := s.loseBlock (regionOf d) (blockNo d)
  if regionOf d = 1 then s.regate else s

/-! ### Power changes (R435 to R438) -/

/-- The domains a request drops: powered and held by no voter under its target, and the drops it names that no voter holds. -/
def dropSet (s : State) (q : PwrReq) : List U16 :=
  let on (d : U16) : Bool := (s.domain d).state == .up || (s.domain d).state == .poweringUp
  votable.filter (fun d => on d && (match q.target with
    | some st => !s.heldIn st q.quietPort q.trimSound q.trimPicture q.trimAccess d
    | none => q.drops.contains d && !s.heldNow d))

/-- A change reaches T: its domains lose power in ascending order, the state and the masks change, held domains without power are raised, votes that waited power theirs up afresh; a wake latched during a Quiet entry starts at once (Table 17-4 steps 4 and 5, R443). -/
def powerGate (s : State) (ds : List U16) : State :=
  match s.pwr.running with
  | none => s
  | some (q, _) =>
    let ds := sortBy (fun (a b : U16) => decide (a.toNat ≤ b.toNat)) ds
    let s := ds.foldl (fun s d => s.gateDomain d) s
    let quiet := q.target == some .quiet
    let old := s.pwr.state
    let s : State := match q.target with
      | some st => { s with pwr := { s.pwr with
          state := st, quietPort := q.quietPort, resume_ := if quiet then (if old = .quiet then s.pwr.resume_ else old) else s.pwr.resume_,
          trimSound := if quiet then s.pwr.trimSound else q.trimSound, trimPicture := if quiet then s.pwr.trimPicture else q.trimPicture,
          trimAccess := if quiet then s.pwr.trimAccess else q.trimAccess } }
      | none => s
    let s : State := { s with pwr := { s.pwr with gating := some (ds.length, s.clk + (if quiet then 40 else 1) * ticksPerMs) } }
    let s := votable.foldl (fun s d =>
      if (s.domain d).state = .gated ∧ !s.pwr.shedGated.contains d ∧ ((s.domain d).deferred ≠ [] ∨ (!quiet ∧ s.heldNow d)) then s.raiseDomain d else s) s
    if quiet then
      let s := s.modTwin (fun t => { t with linkUp := false, authed := false, version := 0, unacked := [], mirrorStopped := false, rxSeq := 0xFFFFFFFF, txSeq := 0 })
      let latched := s.pwr.wake
      let s : State := { s with pwr := { s.pwr with asleep := true, wake := none }, ks := { s.ks with lowPower := true } }
      match latched with
      | some (w, _) => s.noteWake w
      | none => s
    else s

/-- A request starts: Pier opens a chip-wide seam with T ASAP and one entry per block concerned (R435). With no block to drop, the seam is over at once and the change takes effect. Answers the seam. -/
def startChange (s : State) (q : PwrReq) : State × U16 :=
  let ds := s.dropSet q
  let (s, id) := s.openSeam .power none 600
  let s := s.modSeam id (fun k => { k with entries := ds.map (fun d => { cell := d, item := .block d.toNat }) })
  let s := ds.foldl (fun s d => s.modDomain d (fun x => { x with state := .changing })) s
  let s : State := if q.target = some .quiet then { s with model := { s.model with stopped := true } } else s
  let s : State := { s with pwr := { s.pwr with running := some (q, id) } }
  match s.seamLive id with
  | none => (s, id)
  | some k =>
    let t := s.asapT k
    let s := s.closeSeam id t.1 t.2 none
    (if ds = [] then s.powerGate [] else s, id)

/-- Milliseconds of hold-off that remain on a domain (R436). -/
def holdoffMs (s : State) (d : U16) : Nat := (s.domain d).holdUntil.elim 0 (fun t => ceilDiv' (t - s.chipNs) 1000000)

/-- The longest hold-off among domains. -/
def holdoffOf (s : State) (ds : List U16) : Nat := ds.foldl (fun acc d => max acc (s.holdoffMs d)) 0

/-- A change cannot start now: one runs, the device sleeps, or a seam cannot be opened. -/
def changeWaits (s : State) : Bool := s.pwr.running.isSome || s.pwr.asleep || decide (64 ≤ s.seamsLive.length)

/-- A power.state waits as the pending request: one it replaces is SUPERSEDED, the domain drops that had joined stay (R437). -/
def setPending (s : State) (q : PwrReq) : State :=
  match s.pwr.pendingReq with
  | none => { s with pwr := { s.pwr with pendingReq := some q } }
  | some old =>
    let s := match old.issuer with | some (m, n) => s.powerEvent m n 0x0F00 St.superseded 0 0xFFFF 0 | none => s
    { s with pwr := { s.pwr with pendingReq := some { q with drops := old.drops, voters := old.voters } } }

/-- A domain drop starts, or joins or becomes the pending request (R435, R437). -/
def dropDomain (s : State) (d : U16) (voter : Option (Mbx × Nat)) : State :=
  let vs := match voter with | some (m, n) => [(d, m, n)] | none => []
  if s.changeWaits ∨ s.patternSeam then
    let q := s.pwr.pendingReq.getD { target := none }
    { s with pwr := { s.pwr with pendingReq := some { q with drops := q.drops ++ [d], voters := q.voters ++ vs } } }
  else (s.startChange { target := none, drops := [d], voters := vs }).1

/-- The voters that are no mailboxes let go of a domain: its last vote is withdrawn (R434). Looked at with every tick in Trim; a refused drop is not tried again. -/
def powerWatch (s : State) : State :=
  if s.pwr.state ≠ .trim then s
  else
    votable.foldl (fun s d =>
      let h := s.heldNow d
      let x := s.domain d
      if x.held = h then s
      else
        let s := s.modDomain d (fun x => { x with held := h })
        if !h ∧ x.state = .up then s.dropDomain d none else s) s

end State

/-! ### Power rows in time -/

/-- Step 5 of a change: its events carry OK and the number of domains gated (R435). -/
def powerChangeDone (s : State) : State :=
  match s.pwr.running, s.pwr.gating with
  | some (q, _), some (n, t) =>
    if t ≤ s.clk then
      (({ s with pwr := { s.pwr with running := none, gating := none } } : State).powerEvents q St.ok 0 0xFFFF n).fin
    else s
  | _, _ => s

/-- POWER_CHANGE_DONE. -/
def execPowerChangeDone (s : State) : Host.Outcome State Fault Refusal := .next (powerChangeDone s)

/-- The pending request starts once no change runs; a latched wake runs before it (R437, R443). -/
def pendingPowerStart (s : State) : State :=
  match s.pwr.pendingReq with
  | none => s
  | some q =>
    if s.changeWaits ∨ s.patternSeam ∨ s.pwr.supply = .shed ∨ s.pwr.supply = .flush then s
    else ((({ s with pwr := { s.pwr with pendingReq := none } } : State).startChange q).1).fin

/-- PENDING_POWER_START. -/
def execPendingPowerStart (s : State) : Host.Outcome State Fault Refusal := .next (pendingPowerStart s)

/-- REFUSAL_HOLDOFF_END (R436). -/
def execRefusalHoldoffEnd (domain : U16) (s : State) : Host.Outcome State Fault Refusal :=
  .next (if (s.domain domain).holdUntil.any (fun t => decide (t ≤ s.chipNs)) then s.modDomain domain (fun x => { x with holdUntil := none }) else s)

/-- DOMAIN_POWER_UP (R434). -/
def execDomainPowerUp (domain : U16) (s : State) (failed : List U16 := []) : Host.Outcome State Fault Refusal :=
  .next (if (s.domain domain).state = .poweringUp then (s.domainUp domain failed).fin else s)

/-! ### Waking (R441 to R443) -/

/-- Code of a wake source, and whether it can wake the device (Table 17-6). -/
def wakeCode (s : State) : WakeSource → Nat × Bool
  | .ethernet i => (1, (s.iface i.toNat).any (fun f => f.enable))
  | .access p => (2, (s.accPort p).role != 0)
  | .truss => (3, s.formed)
  | .pcie => (4, true)
  | .wakeN => (5, true)
  | .mailbox16 => (6, true)

/-- A wake source fires (R441). -/
def wakeEvent (w : WakeSource) (s : State) : State :=
  let c := wakeCode s w
  if c.2 then s.noteWake c.1 else s

/-- WAKE_EVENT. -/
def execWakeEvent (source : WakeSource) (s : State) : Host.Outcome State Fault Refusal := .next (wakeEvent source s)

/-- The wake sequence ends: the device is in the state from which Quiet was entered, its domains have power, every subchannel is retrained, admissions restart, and the notice carries the source (Table 17-7). -/
def wakeComplete (failed : List U16) (s : State) : State :=
  if !s.pwr.waking then s
  else
    let src := s.pwr.lastWake
    let s : State := { s with
      pwr := { s.pwr with state := s.pwr.resume_, quietPort := 0xFF, waking := false, wake := none, asleep := false, wakes := s.pwr.wakes + 1 },
      model := { s.model with stopped := s.pwr.supply == .shed || s.pwr.supply == .flush } }
    let s := s.modTwin (fun t => { t with lastDecision := s.clk, lastFrame := s.clk })
    let s := s.modMem (fun m => { m with chans := m.chans.map (fun c => if c.state = 1 then { c with retrains := c.retrains + 1, lastTrain := s.clk, lastZq := s.clk, lastRefresh := s.clk } else c) })
    let s := votable.foldl (fun s d => if (s.domain d).state ≠ .up ∧ !s.pwr.shedGated.contains d ∧ s.heldNow d then s.domainUp d failed else s) s
    (s.powerNotice 0 src).fin

/-- WAKE_COMPLETE. -/
def execWakeComplete (s : State) (failed : List U16 := []) : Host.Outcome State Fault Refusal := .next (wakeComplete failed s)

/-- The 16 PAM4 symbols of the Truss wake pattern (R442). -/
def wakeSymbols : List (Fin 4) := [3, 0, 3, 0, 3, 3, 0, 0, 3, 3, 3, 0, 0, 0, 3, 0]

/-- The symbols received on lane 0 hold 8 consecutive repetitions of the pattern (R442). -/
def wakeMatch (symbols : List (Fin 4)) : Bool := (List.range symbols.length).any (fun i => (List.replicate 8 wakeSymbols).flatten.isPrefixOf (symbols.drop i))

/-- TRUSS_WAKE_PATTERN: a detector that matches 8 consecutive repetitions raises the wake (R442). -/
def execTrussWakePattern (symbols : List (Fin 4)) (s : State) : Host.Outcome State Fault Refusal := .next (if wakeMatch symbols then wakeEvent .truss s else s)

/-- The Truss link does not run within 1 s of the wake: the standby leaves synchronisation (R442). -/
def wakeTrussTimeout (s : State) : State :=
  if s.pwr.trussUntil.any (fun t => decide (t ≤ s.clk)) then
    let s : State := { s with pwr := { s.pwr with trussUntil := none } }
    if s.twin.linkUp then s else (s.leaveSync 1).fin
  else s

/-- WAKE_TRUSS_TIMEOUT. -/
def execWakeTrussTimeout (s : State) : Host.Outcome State Fault Refusal := .next (wakeTrussTimeout s)

/-- WAKE_N_LOW: WAKE_N has been low for 10 µs (R441). -/
def execWakeNLow (s : State) : Host.Outcome State Fault Refusal := .next (({ s with pins := { s.pins with wakeN := false } } : State).noteWake 5)

/-! ### The supply response (R446 to R450) -/

/-- The supply response can run: the device is out of reset, not in a trip and not in Park. -/
def supplyRuns (s : State) : Bool := s.boot.stage != .held && s.ks.state != .trip && s.ks.state != .park

/-- PFW_N is clear and HOLD_SENSE above HOLD_MV (R450). -/
def supplyGood (s : State) : Bool := s.pins.pfwN && (s.pwr.holdMv == 0 || decide (s.pwr.holdMv < s.pins.holdMv))

/-- In Park, the time for which the supply has been good (R450). -/
def parkWatch (s : State) : State :=
  if s.pwr.state ≠ .park then s
  else { s with pwr := { s.pwr with clearSince := if supplyGood s then (if s.pwr.clearSince.isSome then s.pwr.clearSince else some s.clk) else none } }

/-- PFW_N is asserted: ride begins, and the dirty cap is 4 MiB (R446). -/
def pfwAssert (s : State) : State :=
  let s : State := parkWatch { s with pins := { s.pins with pfwN := false } }
  if !supplyRuns s ∨ s.pwr.supply ≠ .normal then s
  else (({ s with pwr := { s.pwr with supply := .ride, stepAt := some (s.clk + s.pwr.rideMs * State.ticksPerMs) } } : State).powerNotice 1 0).fin

/-- PFW_N_ASSERT. -/
def execPfwNAssert (s : State) : Host.Outcome State Fault Refusal := .next (pfwAssert s)

/-- RIDE_MS has passed with PFW_N asserted: shed. Admissions stop, every Picture domain is gated, a pair acts under 12 R319 (R446). -/
def rideExpiry (s : State) : State :=
  if s.pwr.supply ≠ .ride ∨ s.pins.pfwN ∨ !s.pwr.stepAt.any (fun t => decide (t ≤ s.clk)) then s
  else
    let ds := votable.filter (fun d => regionOf d == 1 && (s.domain d).state != .gated)
    let s : State := { s with
      pwr := { s.pwr with supply := .shed, stepAt := some (s.clk + s.pwr.flushMs * State.ticksPerMs), shedGated := ds },
      model := { s.model with stopped := true } }
    let s := ds.foldl (fun s d => s.gateDomain d) s
    let s := if s.twin.state = .primary ∧ s.twin.peerState = some 3 then s.releaseClaims else s.leaveSync 9
    (s.powerNotice 3 0).fin

/-- RIDE_EXPIRY. -/
def execRideExpiry (s : State) : Host.Outcome State Fault Refusal := .next (rideExpiry s)

/-- The flush: seams whose T has not come are unpicked, mailboxes are down, the journal is flushed (R446, 02 R61, 13 R348). -/
def flush (s : State) : State :=
  let s : State := { s with pwr := { s.pwr with supply := .flush, stepAt := none }, keep := { s.keep with flushing := true } }
  let ahead (k : Seam) : Bool := State.undecided k || (match k.scope with
    | some c => decide (s.media c < k.t.toNat)
    | none => decide (s.chipNs < k.t.toNat * 1000000000 + k.tNs.toNat))
  let s := s.unpickAll ahead 6
  { s with pl := { s.pl with down := true, raised := [] }, model := { s.model with stopped := true } }

/-- FLUSH_MS into shed with PFW_N asserted (R446). -/
def flushStart (s : State) : State :=
  if s.pwr.supply = .shed ∧ !s.pins.pfwN ∧ s.pwr.stepAt.any (fun t => decide (t ≤ s.clk)) then flush s else s

/-- FLUSH_START. -/
def execFlushStart (s : State) : Host.Outcome State Fault Refusal := .next (flushStart s)

/-- One sample of HOLD_SENSE: three in a row below HOLD_MV are a fall (R446). -/
def holdSample (s : State) (mV : Nat) : State :=
  let low := s.pwr.holdMv != 0 && decide (mV < s.pwr.holdMv)
  { s with pins := { s.pins with holdMv := mV }, pwr := { s.pwr with holdLow := if low then s.pwr.holdLow + 1 else 0 } }

/-- Samples of HOLD_SENSE, 10 µs apart: a fall at the ride or the shed step starts the flush (R446). -/
def holdSense (samples : List Nat) (s : State) : State :=
  samples.foldl (fun s mV =>
    let s := parkWatch (holdSample s mV)
    if 3 ≤ s.pwr.holdLow ∧ supplyRuns s ∧ (s.pwr.supply = .ride ∨ s.pwr.supply = .shed) then flush s else s) s

/-- HOLD_SENSE_FALL. -/
def execHoldSenseFall (samples : List Nat) (s : State) : Host.Outcome State Fault Refusal := .next (holdSense samples s)

/-- The PARK group is written and the device parks: Keystone alone, its regulator in low-power mode (R446, 13 R348). -/
def flushPark (s : State) : State :=
  if s.pwr.supply ≠ .flush then s
  else
    let s := s.parkJournal true
    let hold := s.pwr.holdMv
    let k := s.ks
    let s := s.wiped 5 3
    parkWatch { s with
      ks := { k with state := .park, released := false, lowPower := true, verified := false, seenRounds := 0, writing := none, rules := [] },
      pwr := { state := .park, holdMv := hold } }

/-- FLUSH_PARK. -/
def execFlushPark (s : State) : Host.Outcome State Fault Refusal := .next (flushPark s)

/-- PFW_N clears (R447): in ride the cap returns, in shed also the admissions and the Picture domains; from the flush on the device does not return. In Park the 100 ms of R450 may begin. -/
def pfwClear (s : State) : State :=
  let s : State := parkWatch { s with pins := { s.pins with pfwN := true } }
  match s.pwr.supply with
  | .ride => (({ s with pwr := { s.pwr with supply := .normal, stepAt := none } } : State).powerNotice 2 0).fin
  | .shed =>
    let ds := s.pwr.shedGated
    let s : State := { s with
      pwr := { s.pwr with supply := .normal, stepAt := none, shedGated := [] },
      model := { s.model with stopped := s.pwr.asleep || s.pwr.running.any (fun r => r.1.target == some .quiet) } }
    let s := ds.foldl (fun s d => if !s.pwr.asleep ∧ s.heldNow d then s.raiseDomain d else s) s
    (s.powerNotice 4 0).fin
  | _ => s

/-- PFW_N_CLEAR. -/
def execPfwNClear (s : State) : Host.Outcome State Fault Refusal := .next (pfwClear s)

/-- The supply has been good for 100 ms: Keystone leaves Park by resetting the device (R450). -/
def parkExit (s : State) : State :=
  if s.pwr.state = .park ∧ s.pwr.clearSince.any (fun t => decide (t + 100 * State.ticksPerMs ≤ s.clk)) then (s.deviceReset 5).fin else s

/-- PARK_EXIT. -/
def execParkExit (s : State) : Host.Outcome State Fault Refusal := .next (parkExit s)

/-- A load above 120 mA in low-power mode for more than 20 µs sags the rail: every always-on load is reset, and the next boot reports cause 6 (R445). -/
def brownOut (loadMa us : Nat) (s : State) : State :=
  if s.regLow ∧ 120 < loadMa ∧ 20 < us then ((s.deviceReset 6).ksLog 4 0 0).fin else s

/-- BROWN_OUT. -/
def execBrownOut (loadMa : Nat) (s : State) (us : Nat := 21) : Host.Outcome State Fault Refusal := .next (brownOut loadMa us s)

/-! ### power commands (R453, R454) -/

/-- The request of power.state. -/
def stateReq (state quietPort : U8) (sound : U32) (picture : BitVec 14) (access : BitVec 2) (issuer : Option (Mbx × Nat)) : PwrReq :=
  { target := some (if state = 0 then .full else if state = 1 then .trim else .quiet), quietPort := if state = 2 then quietPort else 0xFF,
    trimSound := sound, trimPicture := picture, trimAccess := access, issuer }

/-- The supply response is at its shed step (R447). -/
def shedBusy (s : State) : Option Rep := need (s.pwr.supply != .shed && s.pwr.supply != .flush) St.busy [0xFFFD]

/-- Requests that would drop a domain in its hold-off are BUSY with the milliseconds that remain (R436). -/
def holdoffBusy (s : State) (ds : List U16) : Option Rep := let ms := s.holdoffOf ds; need (ms == 0) St.busy [ms]

/-- power.state (R435 to R439). -/
def rowPowerState (m : Mbx) (state quietPort : U8) (sound : U32) (picture : BitVec 14) (access : BitVec 2) : Row where
  opcode := 0x0F00
  checks := fun _ s =>
    let q := stateReq state quietPort sound picture access none
    let legs := s.model.legs.length
    { fields := decide (state.toNat ≤ 2) && (if state == 2 then quietPort == 0 || quietPort == 1 || quietPort == 0xFF else true) &&
        (state == 1 || (sound == 0 && picture == 0 && access == 0)),
      objects := [need (state != 2 || quietPort == 0xFF || (s.accPort (fin2 quietPort.toNat)).role != 0) St.badField],
      items := [.power],
      busy := [shedBusy s, need (!s.patternSeam) St.busy, holdoffBusy s (s.dropSet q)],
      rest := [need (state != 2 || legs == 0) St.refused [legs], need (s.pwr.running.isSome || s.pwr.asleep || decide (s.seamsLive.length < 64)) St.seamFull] }
  layout := fun _ => [(0, 0, 8, state.toNat), (4, 0, 32, sound.toNat), (8, 0, 14, picture.toNat), (8, 14, 2, access.toNat)] ++ (if state = 2 then [(1, 0, 8, quietPort.toNat)] else [])
  effect := fun c s =>
    let q := stateReq state quietPort sound picture access (some (m, c.seq))
    if s.changeWaits then (s.setPending q, Rep.pend (le 4 0xFFFF))
    else
      let t := s.startChange q
      (t.1, Rep.pend (le 4 t.2.toNat))

/-- POWER_STATE. -/
def execPowerState (m : Mbx) (state quietPort : U8) (trimSound : U32) (trimPicture : BitVec 14) (trimAccess : BitVec 2) (s : State) : Host.Outcome State Fault Refusal :=
  .next (s.run m (rowPowerState m state quietPort trimSound trimPicture trimAccess))

/-- The reply of power.vote. -/
def voteReply (s : State) (d : U16) : Bytes := le 4 (s.voters d) ++ le 1 (domCode (s.domain d).state)

/-- A vote raised or withdrawn, and whether the withdrawal leaves the domain without a voter. -/
def setVote (s : State) (m : Mbx) (d : U16) (raise : Bool) : State :=
  let b : BitVec 17 := BitVec.ofNat 17 (2 ^ m.val)
  s.modDomain d (fun x => { x with votes := if raise then x.votes ||| b else x.votes &&& ~~~ b })

/-- A withdrawal drops the domain: it has power and no voter is left (R434). -/
def dropsDomain (s : State) (m : Mbx) (d : U16) : Bool :=
  let t := setVote s m d false
  ((s.domain d).state == .up || (s.domain d).state == .poweringUp) && !t.heldNow d && !s.pwr.asleep

/-- power.vote (R433, R434, R438). -/
def rowPowerVote (m : Mbx) (d : U16) (action : U8) : Row where
  opcode := 0x0F01
  checks := fun _ s =>
    let raise := action == 1
    let drops := !raise && dropsDomain s m d
    { fields := votable.contains d && decide (action.toNat ≤ 1),
      busy := [if raise ∧ (s.domain d).state = .gated then shedBusy s else none, need (!(drops && s.patternSeam)) St.busy, if drops then holdoffBusy s [d] else none] }
  layout := fun _ => [(0, 0, 16, d.toNat), (2, 0, 8, action.toNat)]
  effect := fun c s =>
    if action = 1 then
      let t := setVote s m d true
      match (s.domain d).state with
      | .changing =>
        let t := t.modDomain d (fun x => { x with deferred := if x.deferred.contains m then x.deferred else x.deferred ++ [m] })
        (t, { status := St.enableDeferred, data := voteReply t d })
      | .gated =>
        let t := if s.pwr.asleep then t else t.raiseDomain d
        (t, Rep.ok (voteReply t d))
      | _ => (t, Rep.ok (voteReply t d))
    else
      let drops := dropsDomain s m d
      let t := setVote s m d false
      if (s.domain d).deferred.contains m then
        let t := (t.modDomain d (fun x => { x with deferred := x.deferred.filter (fun v => v != m) })).deferredEvent m St.aborted
        (t, Rep.ok (voteReply t d))
      else if drops then
        let t := t.modDomain d (fun x => { x with held := false })
        let t := t.dropDomain d (some (m, c.seq))
        (t, Rep.pend (voteReply t d))
      else (t, Rep.ok (voteReply t d))

/-- POWER_VOTE. -/
def execPowerVote (m : Mbx) (domain : U16) (action : U8) (s : State) : Host.Outcome State Fault Refusal := .next (s.run m (rowPowerVote m domain action))

/-- The settings of power.supply (R446). -/
def doPowerSupply (rideMs flushMs holdMv : Nat) (s : State) : State :=
  { s with pwr := { s.pwr with
      rideMs := if rideMs = 0xFF then s.pwr.rideMs else rideMs, flushMs := if flushMs = 0xFF then s.pwr.flushMs else flushMs,
      holdMv := if holdMv = 0xFFFF then s.pwr.holdMv else holdMv } }

/-- power.supply. -/
def rowPowerSupply (m : Mbx) (rideMs flushMs : U8) (holdMv : U16) : Row where
  opcode := 0x0F02
  checks := fun _ _ =>
    { fields := withinOr 0xFF 0 50 rideMs.toNat && withinOr 0xFF 0 60 flushMs.toNat && (holdMv == 0 || withinOr 0xFFFF 100 1150 holdMv.toNat),
      items := [.supply], rest := [need (m == 0 || m == 16) St.isProtected] }
  layout := fun _ => [(0, 0, 8, rideMs.toNat), (1, 0, 8, flushMs.toNat), (2, 0, 16, holdMv.toNat)]
  effect := fun _ s => (doPowerSupply rideMs.toNat flushMs.toNat holdMv.toNat s, Rep.ok)

/-- POWER_SUPPLY. -/
def execPowerSupply (m : Mbx) (rideMs flushMs : U8) (holdMv : U16) (s : State) : Host.Outcome State Fault Refusal :=
  .next (s.run m (rowPowerSupply m rideMs flushMs holdMv))

/-- The setting of power.thermal (R451): a value that meets the rule ends the clamp. -/
def doPowerThermal (l1 : Nat) (s : State) : State := if l1 = 0 then s else { s with pwr := { s.pwr with l1, l1Clamp := none } }

/-- power.thermal. -/
def rowPowerThermal (m : Mbx) (l1 : U8) : Row where
  opcode := 0x0F03
  checks := fun _ s =>
    { fields := withinOr 0 95 108 l1.toNat, objects := [need (l1 == 0 || decide (l1.toNat + 6 < s.ks.policy.tripC)) St.badField],
      items := [.thermal], rest := [need (m == 0 || m == 16) St.isProtected] }
  layout := fun _ => [(0, 0, 8, l1.toNat)]
  effect := fun _ s => (doPowerThermal l1.toNat s, Rep.ok)

/-- POWER_THERMAL. -/
def execPowerThermal (m : Mbx) (l1C : U8) (s : State) : Host.Outcome State Fault Refusal := .next (s.run m (rowPowerThermal m l1C))

/-- An identifier names a block domain or a region domain (R432). -/
def isDomain (d : U16) : Bool := isBlock d || (d.toNat < 32768 && d.toNat % 4096 == 0xFFF)

/-- DSTATE of a domain: one that is not votable follows the device state alone (Table 17-2). -/
def dstate (s : State) (d : U16) : Nat :=
  if votable.contains d then domCode (s.domain d).state
  else if s.pwr.asleep ∧ [0, 1, 2, 4].contains (regionOf d) then 2 else 0

/-- power.query. -/
def rowPowerQuery (d : U16) : Row where
  opcode := 0x0F04
  checks := fun _ _ => { fields := d == 0xFFFF || isDomain d }
  layout := fun _ => [(0, 0, 16, d.toNat)]
  effect := fun _ s =>
    let one := d != 0xFFFF
    let hot := s.ks.hottest.getD (0, 0)
    let supply := match s.pwr.supply with | .normal => 0 | .ride => 1 | _ => 2
    let pend := match s.pwr.pendingReq with | none => 0xFF | some q => State.powerCode (q.target.getD s.pwr.state)
    ({ s with draws := s.draws + 1 },
     Rep.ok (le 1 (State.powerCode s.pwr.state) ++ le 1 pend ++ le 1 supply ++ le 1 s.pwr.levelNow ++ leI 2 hot.2 ++ le 1 hot.1 ++ le 1 s.pwr.lastWake ++
      le 2 (Config.powerW s.draws).toNat ++ le 2 s.gatedCount ++ le 4 s.pwr.wakes.toNat ++ le 4 s.pwr.wakesDiscarded.toNat ++ le 4 s.pwr.refusals.toNat ++
      le 4 (if one ∧ votable.contains d then s.voters d else 0) ++ le 1 (if one then dstate s d else 0xFF) ++ le 1 0 ++ le 2 (if one then s.holdoffMs d else 0) ++ le 16 0))

/-- POWER_QUERY. -/
def execPowerQuery (m : Mbx) (domain : U16) (s : State) : Host.Outcome State Fault Refusal := .next (s.run m (rowPowerQuery domain))

end Sys2Proof.Machine
end

