-- ==== Sys2Proof/Machine/Ptp.lean ====
section
/-! DEFINITION. PTP (09 R249, Table 9-6): the instance on TB1, its ports, messages, intervals and announce timeout; time.ptp. -/

namespace Sys2Proof.Machine

open Sys2Proof

/-- Group address of a PTP profile: the standard's address for its transport (PRESUMED, log 27), or the one FORWARDABLE selects (Table 9-6). -/
def ptpGroup (q : PtpReq) : BitVec 48 :=
  match q.profile.toNat with
  | 1 => 0x01005E000181
  | 2 => 0x333300000181
  | 4 => if q.forwardable then 0x011B19000000 else 0x0180C200000E
  | _ => 0x011B19000000

/-- ANNOUNCE_TIMEOUT with its default. -/
def ptpTimeout (q : PtpReq) : Nat := if q.announceTimeout = 0 then 3 else q.announceTimeout.toNat

/-- A message interval of 2^log seconds in ticks. -/
def logTicks (log : Int) : Nat := if 0 ≤ log then 312500000 * 2 ^ log.toNat else 312500000 / 2 ^ (-log).toNat

/-- Announce interval of a PTP port in ticks (Table 9-6). -/
def announceTicks (q : PtpReq) : Nat := if q.profile = 4 then logTicks (-3) else logTicks q.logAnnounce.toInt

/-- The fields of time.ptp are in range (Table 9-6). -/
def ptpOk (q : PtpReq) : Bool :=
  let log (x : U8) (lo hi : Int) : Bool := decide (lo ≤ x.toInt) && decide (x.toInt ≤ hi)
  decide (q.iface.toNat ≤ 7) && decide (q.profile.toNat ≤ 4) &&
  (q.profile == 0 ||
    (decide (q.role.toNat ≤ 2) && withinOr 0 2 10 q.announceTimeout.toNat &&
      (if q.profile = 4 then within 24 43 q.domain.toNat && q.localPriority != 0
       else decide (q.domain.toNat ≤ 127) && log q.logSync (-7) 1 && log q.logAnnounce (-3) 3 && log q.logDelayReq (-7) 1)))

namespace State

/-- Change the PTP port of an interface. -/
def modPtp (s : State) (i : Nat) (f : PtpPort → PtpPort) : State := s.modIface i (fun g => { g with ptp := g.ptp.map f })

/-- The slave port's master is lost: no grandmaster, and a PTP-sourced TB1 goes to HOLDOVER (R247). -/
def loseMaster (s : State) (i : Nat) : State :=
  if s.net.slaveIface = some i then
    let s := s.modNet (fun n => { n with slaveIface := none, gm := 0, stepsRemoved := 0, utcOffset := 0 })
    if (s.base 1).source = 1 ∧ (s.base 1).enabled ∧ (s.base 1).servo ≠ .free then s.setServo 1 .holdover else s
  else s

/-- Turn PTP off on an interface: its group address leaves the port's table (R236). -/
def ptpOff (s : State) (i : Nat) : State :=
  match (s.iface i).bind (·.ptp) with
  | none => s
  | some p => (((s.loseMaster i).groupRef (fin2 (i / 4)) (ptpGroup p.req) false)).modIface i (fun g => { g with ptp := none })

/-- Bytes of a PTP message of a length on an interface's transport, from the destination address through the FCS. -/
def ptpLength (q : PtpReq) (body : Nat) : Nat :=
  max 64 (body + (match q.profile.toNat with | 1 => 46 | 2 => 66 | _ => 18))

/-- Send a PTP message in S0; an event message asks for its stamp under an identifier (R241, R249). -/
def ptpSend (s : State) (i : Nat) (body : Nat) (event : Bool) (kind : Nat) : State :=
  match (s.iface i).bind (·.ptp) with
  | none => s
  | some p =>
    let s := s.modPtp i (fun p => { p with sent := p.sent + 1 })
    s.enqueue { length := ptpLength p.req body, level := some 0, leg := 0xFFFF, iface := BitVec.ofNat 8 i, nextHopResolved := true }
      (if event then some (BitVec.ofNat 16 (kind * 32768 + p.sent.toNat % 32768)) else none)

/-- The firmware takes the stamps that its port returned; each Sync that left is followed by its Follow_Up (two-step, Table 9-6). -/
def ptpStamps (s : State) (p : Fin 2) : State :=
  let q := (s.port p).tsq
  let s := s.modPort p (fun x => { x with tsq := [] })
  q.foldl (fun s t => if t.ident.toNat < 32768 then s.ptpSend t.iface 44 false 0 else s) s

end State

/-- time.ptp (09 R249). -/
def rowTimePtp (q : PtpReq) : Row where
  opcode := 0x0806
  checks := fun _ s =>
    let i := q.iface.toNat
    let af (a : U8) : Bool := (s.addrsOf i).any (fun x => x.1 == a)
    { fields := ptpOk q,
      objects := [need (s.iface i).isSome St.badField, need ((q.profile != 1 || af 4) && (q.profile != 2 || af 6)) St.badField] }
  layout := fun _ => [(0, 0, 8, q.iface.toNat), (1, 0, 8, q.profile.toNat), (2, 0, 8, q.domain.toNat), (3, 0, 8, q.role.toNat), (4, 0, 8, q.priority1.toNat), (5, 0, 8, q.priority2.toNat), (6, 0, 8, q.localPriority.toNat),
    (7, 0, 1, bit q.forwardable), (8, 0, 8, q.logSync.toNat), (9, 0, 8, q.logAnnounce.toNat), (0x0A, 0, 8, q.logDelayReq.toNat), (0x0B, 0, 8, q.announceTimeout.toNat)]
  effect := fun _ s =>
    let i := q.iface.toNat
    let s := s.ptpOff i
    if q.profile = 0 then (s, Rep.ok)
    else
      let s := s.groupRef (fin2 (i / 4)) (ptpGroup q) true
      (s.modIface i (fun g => { g with ptp := some { req := q, portId := (le 8 Config.serial.toNat).reverse ++ (le 2 (i + 1)).reverse, lastAnnounce := s.clk } }), Rep.ok)

/-- A PTP port receives a message (R249). -/
def ptpMessage (i : Nat) (msg : PtpMsg) (s : State) : State :=
  match (s.iface i).bind (·.ptp) with
  | none => s
  | some p =>
    let s := s.ptpStamps (fin2 (i / 4))
    let s :=
      match msg with
      | .announce gm better steps utc =>
        if !better ∨ p.req.role = 1 then s
        else
          let s := match s.net.slaveIface with
            | some j => if j = i then s else s.modPtp j (fun p => { p with state := .master })
            | none => s
          let s := s.modNet (fun n => { n with slaveIface := some i, gm, stepsRemoved := steps, utcOffset := utc })
          s.modPtp i (fun p => { p with state := if p.state = PtpState.slave then PtpState.slave else PtpState.uncalibrated, lastAnnounce := s.clk })
      | .delayResp off path =>
        if p.state = PtpState.slave ∨ p.state = PtpState.uncalibrated then
          let asym := (s.iface i).elim 0 (fun g => g.asymPs.toInt)
          (s.modNet (fun n => { n with ptpOffsetPs := off - asym, ptpPathPs := path + asym })).modPtp i (fun p => { p with state := .slave })
        else s
      | .delayReq => if p.state = PtpState.master then s.ptpSend i 54 false 0 else s
      | .unsupported => s.modPtp i (fun p => { p with unsupported := p.unsupported + 1 })
      | .sync | .followUp => s
    s.fin

/-- A message interval of a PTP port expires: a master sends Announce (0) and Sync (1), a slave Delay_Req (2) (R249). -/
def ptpTimer (i : Nat) (kind : Fin 3) (s : State) : State :=
  match (s.iface i).bind (·.ptp) with
  | none => s
  | some p =>
    let s := s.ptpStamps (fin2 (i / 4))
    match kind, p.state with
    | 0, .master => s.ptpSend i 64 false 0
    | 1, .master => s.ptpSend i 44 true 0
    | 2, .slave => s.ptpSend i 44 true 1
    | 2, .uncalibrated => s.ptpSend i 44 true 1
    | _, _ => s

/-- No valid Announce for ANNOUNCE_TIMEOUT intervals: the port loses its master and becomes a master itself unless it is slave only (R247, R249). -/
def announceTimeout (i : Nat) (s : State) : State :=
  match (s.iface i).bind (·.ptp) with
  | none => s
  | some p =>
    if p.state = PtpState.master ∨ s.clk < p.lastAnnounce + ptpTimeout p.req * announceTicks p.req then s
    else ((s.loseMaster i).modPtp i (fun p => { p with state := if p.req.role = 2 then PtpState.listening else PtpState.master })).fin

/-- TIME_PTP. -/
def execTimePtp (m : Mbx) (req : PtpReq) (s : State) : Host.Outcome State Fault Refusal := .next (s.run m (rowTimePtp req))
/-- PTP_MESSAGE. -/
def execPtpMessage (iface : U8) (msg : PtpMsg) (s : State) : Host.Outcome State Fault Refusal := .next (ptpMessage iface.toNat msg s)
/-- PTP_INTERVAL_TIMER. -/
def execPtpIntervalTimer (iface : U8) (kind : Fin 3) (s : State) : Host.Outcome State Fault Refusal := .next (ptpTimer iface.toNat kind s)
/-- ANNOUNCE_TIMEOUT. -/
def execAnnounceTimeout (iface : U8) (s : State) : Host.Outcome State Fault Refusal := .next (announceTimeout iface.toNat s)

end Sys2Proof.Machine
end

