-- ==== Sys2Proof/Machine/Patterns.lean ====
section
/-! DEFINITION. Patterns (02 R64 to R74, R486): what a generation holds, its save and proof, the change of the running generation through Pier's seam, the automatic revert, and the readiness of a seam's participants. -/

namespace Sys2Proof.Machine

open Sys2Proof

/-! ### What a generation holds (R64) -/

/-- A gain point at rest on its newest target (05 R144). -/
def Gain.settled (g : Gain) : Gain :=
  match g.next.getLast? with
  | some (_, t, m, _) => { applied := t, target := t, mute := m, muteTarget := m }
  | none => { applied := g.target, target := g.target, mute := g.muteTarget, muteTarget := g.muteTarget }

/-- A mix without the legs it mixes: its master gain and encoder settings, those that wait included. -/
def Mix.kept (q : Mix) : Mix :=
  let e := (q.encNext.map (·.2)).getD (q.kbps, q.frameMs, q.fec, q.dtx)
  { conf := q.conf, master := q.master.settled, kbps := e.1, frameMs := e.2.1, fec := e.2.2.1, dtx := e.2.2.2 }

/-- A layout's definition, the changes that wait for a slot included; Keystone's own regions are not the host's. -/
def Layout.kept (l : Layout) : Layout :=
  let tiles := l.changes.foldl (fun acc c => match c.2 with
    | .tile q => if q.content = 0 ∧ q.border = 0 then tdel acc q.tile.toNat else tput acc q.tile.toNat q
    | _ => acc) l.tiles
  { conf := l.conf, width := l.width, height := l.height, rate := l.rate, standing := l.standing, hold := l.hold, bg := l.bg, firstSlot := 0, cells := [],
    kpxs := l.kpxs, tiles, regions := (regionsAfter l).filter (fun p => !p.2.byKeystone) }

/-- A layout is being deleted. -/
def Layout.going (l : Layout) : Bool := l.changes.any (fun c => c.2 == .delete)

/-- A feed's definition, a change that waits for its slot included. -/
def Feed.kept (f : Nat) (l : Layout) (g : Feed) : Feed :=
  let req := l.changes.foldl (fun acc c => match c.2 with | .feed k q => if k = f then q else acc | _ => acc) g.req
  { layout := g.layout, req, ssrc := [], tsBase := 0, ctx := 0 }

/-- The gate list that is in force or will be. -/
def Port.gates (q : Port) : Option GateList := match q.pending with | some g => some g | none => q.running

/-- A port's settings. -/
def Port.kept (q : Port) : Port := { split := q.split, macs := q.macs, bins := q.bins, levels := q.levels, running := q.gates.filter (·.enable) }

/-- An interface under another's settings; its link, its share of the buffer, its queues and its counters stay. -/
def Iface.take (f q : Iface) (now : Nat) : Iface :=
  { f with
    enable := q.enable, pause := q.pause, rxPause := q.rxPause, lpi := q.lpi, pfcMask := q.pfcMask, mac := q.mac, mtu := q.mtu, quanta := q.quanta, highB := q.highB, lowB := q.lowB,
    rxLatPs := q.rxLatPs, txLatPs := q.txLatPs, asymPs := q.asymPs, addrs := q.addrs, routes := q.routes,
    link := f.link && q.enable, pauseDue := if q.enable then f.pauseDue else none, ptp := q.ptp.map (fun p => { req := p.req, portId := p.portId, lastAnnounce := now }) }

/-- An access port's settings: its role, bindings, T-CONTs, terminals, addresses and routes. -/
def AccPort.kept (a : AccPort) : AccPort :=
  { role := a.role, cfg := a.cfg, gems := (a.gems.filter (fun g => g.2.basted.isNone)).map (fun g => (g.1, { g.2 with active := false })),
    tconts := tmap a.tconts (fun _ t => { t with report := 0, report1 := 0, grant := 0 }),
    terminals := tmap a.terminals (fun _ t => { serial := t.serial, keyGroup := t.keyGroup, disabled := t.disabled }), addrs := a.addrs, routes := a.routes }

/-- A claim group's settings. -/
def Claim.kept (c : Claim) : Claim := { homing := c.homing, homeSide := c.homeSide, holdOffS := c.holdOffS, prefA := c.prefA, prefB := c.prefB }

namespace State

/-- A standing conference with its mixes, layouts and feeds (R64); a transcode's layout belongs to its forwarding entry. -/
def keptConf (s : State) (c : Nat) (q : Conf) : PatConf :=
  let ys := s.pic.layouts.filter (fun p => p.2.conf == c && p.2.basted.isNone && p.2.owner.isNone && !p.2.going)
  { index := c,
    conf := { speakers := q.speakers, standing := true, legLimit := q.legLimit, startMedia := q.startMedia, threshold := q.threshold, margin := q.margin },
    mixes := (s.snd.mixes.filter (fun p => p.2.conf == c && p.2.basted.isNone)).map (fun p => (p.1, p.2.kept)),
    layouts := ys.map (fun p => (p.1, p.2.kept)),
    feeds := (s.pic.feeds.filter (fun f => f.2.basted.isNone && thas ys f.2.layout)).map (fun f => (f.1, Feed.kept f.1 ((tget ys f.2.layout).getD
      { conf := c, width := 0, height := 0, rate := 30, standing := false, hold := 0, bg := (0, 0, 0), firstSlot := 0, cells := [], kpxs := 0 }) f.2)) }

/-- The running configuration as a generation holds it (R64): no leg, no leg state, no key material. -/
def snapshot (s : State) : PatCfg :=
  let standing (c : Nat) : Bool := (tget s.model.confs c).any (fun q => q.standing && q.basted.isNone)
  { confs := (s.model.confs.filter (fun p => p.2.standing && p.2.basted.isNone)).map (fun p => s.keptConf p.1 p.2),
    templates := (s.pic.layouts.filter (fun p => p.2.standing && p.2.basted.isNone && p.2.owner.isNone && !p.2.going && !standing p.2.conf)).map (fun p => (p.1, p.2.kept)),
    ports := s.net.ports.map Port.kept,
    ifaces := s.net.ifaces.map (fun p => (p.1, ({} : Iface).take p.2 0)),
    bases := s.time.bases.map (fun b => (b.enabled, b.source, b.trackS)),
    pps := (s.time.pps.outEnable, s.time.pps.inEnable, s.time.pps.outBase, s.time.pps.widthMs, s.time.pps.offsetNs),
    classes := s.cip.classes,
    access := { ports := s.acc.ports.map AccPort.kept },
    kernels := s.disp.kernels.map (fun p => (p.1, { req := p.2.req })),
    twin := (s.twin.enabled, s.twin.singleSend, s.twin.resyncS, s.twin.retryHoldS),
    claims := s.twin.claims.map (fun p => (p.1, p.2.kept)),
    supply := (s.pwr.rideMs, s.pwr.flushMs, s.pwr.holdMv),
    l1 := s.pwr.l1,
    keep := (s.keep.retainDays, s.keep.scrubDays, s.keep.refreshBits) }

/-! ### Conferences (R486) -/

/-- The conferences a generation's rebuild removes (R486). -/
def goingConfs (s : State) (g : PatCfg) : List Nat :=
  (s.model.confs.filter (fun p => p.2.standing || g.confs.any (fun q => q.index == p.1))).map (·.1)

/-- The live legs that a change to a generation closes (R70, R486). -/
def dependents (s : State) (g : PatCfg) : List (Nat × Leg) := (s.goingConfs g).flatMap (fun c => (s.legsOf c).filter (fun p => p.2.state != .closing))

/-- The legs that stop the change: every dependent leg without FORCE, the emergency legs with it (R70, 04 R121). -/
def blockers (s : State) (g : PatCfg) (force : Bool) : List (Nat × Leg) := (s.dependents g).filter (fun p => !force || p.2.emergency)

/-- Create a stored layout anew where its compose cells have room (R185, R120); its index, or the lowest free one where another layout holds it. -/
def rebuildLayout (s : State) (c startMedia : Nat) (y : Nat) (l : Layout) : State × Option Nat :=
  match (if thas s.pic.layouts y then lowest (fun i => !thas s.pic.layouts i) 0 2048 else some y), s.place 10 l.kpxs with
  | some i, some cells => (s.modPic (fun p => { p with layouts := tput p.layouts i { l with conf := c, cells, firstSlot := slotAfter l.rate startMedia } }), some i)
  | _, _ => (s, none)

/-- Create a stored conference anew, at its stored index (R486, 04 R107): its origin is the first stitch tick at or after a TB3 value. -/
def rebuildConf (s : State) (nb : Nat) (p : PatConf) : State :=
  let q := p.conf
  let c := p.index
  let s := doConfCreate c q.speakers true q.legLimit q.startMedia nb none s
  let s : State := { s with model := { s.model with confs := tmod s.model.confs c (fun x => { x with threshold := q.threshold, margin := q.margin }) } }
  let s := p.mixes.foldl (fun s x =>
    let i := if x.1 < 8192 then some c else if thas s.snd.mixes x.1 then lowest (fun i => !thas s.snd.mixes i) 8192 8192 else some x.1
    match i with
    | some i => s.modSnd (fun d => { d with mixes := tput d.mixes i { x.2 with conf := c } })
    | none => s) s
  p.layouts.foldl (fun s y =>
    match s.rebuildLayout c q.startMedia y.1 y.2 with
    | (s, none) => s
    | (s, some i) =>
      (p.feeds.filter (fun f => f.2.layout == y.1)).foldl (fun s f =>
        match (if thas s.pic.feeds f.1 then lowest (fun k => !thas s.pic.feeds k) 0 16384 else some f.1), s.place 9 (feedKpxs f.2.req), lowest (fun k => !thas s.pic.enc k) 0 2048 with
        | some k, some _, some _ => newFeed f.2.req i k q.startMedia none s
        | _, _, _ => s) s) s

/-- A rebuild: the conferences that go are removed with all they hold and their legs close with PATTERN, then every stored conference is created (R486). -/
def rebuildConfs (s : State) (g : PatCfg) (nb : Nat) : State :=
  let out := s.goingConfs g
  let s := (s.dependents g).foldl (fun s p => s.shutLeg p.1 5) s
  let legs := (out.flatMap (fun c => s.legsOf c)).map (·.1)
  let s := out.foldl (fun s c => removeConf c s) s
  let s := s.modSnd (fun d => { d with legs := d.legs.filter (fun p => !legs.contains p.1) })
  let s : State := { s with model := { s.model with confHold := out.foldl (fun t c => tput t c s.chipNs) s.model.confHold } }
  g.confs.foldl (fun s p => s.rebuildConf nb p) s

/-! ### The other settings of a generation (R64, R69) -/

/-- An Ethernet port and its interfaces under a generation's network setup (09 R224, R226; 10 R262). -/
def restorePort (s : State) (g : PatCfg) (p : Fin 2) : State :=
  let q := g.ports.get p
  let mine (i : Nat) : Bool := i / 4 == p.val
  let s := ((s.net.ifaces.filter (fun f => mine f.1)).map (·.1)).foldl (fun s i => s.ptpOff i) s
  let s := if (s.port p).split = q.split then s else s.resplit p q.split
  let was := (s.net.ifaces.filter (fun f => mine f.1)).map (fun f => (f.1, f.2.enable))
  let s := s.modNet (fun n => { n with ifaces := n.ifaces.map (fun f =>
    match (if mine f.1 then tget g.ifaces f.1 else none) with
    | some x => (f.1, f.2.take x s.clk)
    | none => f) })
  let s := was.foldl (fun s f => if (s.iface f.1).any (fun x => x.enable != f.2) then s.linkEvent f.1 else s) s
  let s := s.modPort p (fun x => { x with macs := q.macs, bins := q.bins, levels := q.levels, running := none, pending := none, entry := 0 })
  match q.running with
  | none => s
  | some l =>
    let (id, s) := s.takeListId p
    let st := gateStart l.baseNs l.cycleNs s.chipNs
    s.pend p { l with id, startNs := st.1, n := st.2, basted := true }

/-- A time base under a generation's settings; TB0 always runs, and TB3 while a conference exists (09 R244, R247). -/
def restoreBase (s : State) (b : Fin 4) (q : Bool × U8 × Nat) : State :=
  let old := s.base b
  let on := q.1 || b == 0 || (b == 3 && !s.model.confs.isEmpty)
  let s := s.modBase b (fun t => { (if on then (if t.enabled then t else t.start) else t.stop) with source := q.2.1, trackS := q.2.2 })
  let s := if on ∧ !old.enabled then s.repps b else s
  if q.2.1 ≠ old.source ∨ !on then s.setServo b .free else s

/-- An access port under a generation's settings; a role that the policy forbids is not taken (11 R282, R297; 16 Table 16-4). -/
def restoreAccess (s : State) (q : AccPort) (p : Fin 2) : State :=
  let laser := (s.ks.policy.laser[p.val]?).getD (false, false)
  let s := match q.cfg.filter (fun r => (r.role != 1 || laser.1) && (r.role != 2 || laser.2)) with
    | some r => setPort p r s
    | none =>
      let a := s.accPort p
      if a.role = 0 then s
      else ((s.dropKeys p).modAcc p (fun a => { identity := a.identity, counters := a.counters, mib := a.mib, mibSync := a.mibSync })).accessEvent p 0xFF 1 a.state 4 (a.identity.getD 0)
  let s := s.modAcc p (fun a => { a with addrs := q.addrs, routes := q.routes })
  let a := s.accPort p
  if a.role = 0 then s
  else
    let s := ((a.terminals.filter (fun t => !(tget q.terminals t.1).any (fun x => x.serial == t.2.serial))).map (·.1)).foldl (fun s o => doTree p 1 o 0 0 s) s
    let s := q.terminals.foldl (fun s t =>
      let s := if thas (s.accPort p).terminals t.1 then s.modTerminal p t.1 (fun x => { x with keyGroup := t.2.keyGroup }) else doTree p 0 t.1 t.2.keyGroup t.2.serial s
      if t.2.disabled == (tget (s.accPort p).terminals t.1).any (·.disabled) then s else doTree p (if t.2.disabled then 2 else 3) t.1 0 0 s) s
    let s := s.modAcc p (fun a => { a with gems := a.gems.filter (fun g => thas q.gems g.1), tconts := a.tconts.filter (fun t => thas q.tconts t.1) })
    let s := q.tconts.foldl (fun s t => doTcont p 0 t.1 t.2 s) s
    q.gems.foldl (fun s g => doGem p 0 g.1 g.2.kind g.2.terminal g.2.allocId s) s

/-- The claim groups under a generation's settings; a group that the policy fixes keeps its own (12 R321, 16 Table 16-4). -/
def restoreClaims (s : State) (g : PatCfg) : State :=
  let set (n : Nat) (c : Claim) : Claim :=
    if s.ks.policy.claimFixed.contains n then c
    else
      let q := (tget g.claims n).getD {}
      { c with homing := q.homing, homeSide := q.homeSide, holdOffS := q.holdOffS, prefA := q.prefA, prefB := q.prefB, homeAt := none }
  let t := (g.claims.filter (fun p => !thas s.twin.claims p.1)).foldl (fun t p => tput t p.1 ({} : Claim)) s.twin.claims
  (s.modTwin (fun w => { w with claims := tmap t set })).homeTimers

/-- The settings of a generation that belong to no conference. Kernels that a chain names stay (14 kernel.unload). -/
def restoreRest (s : State) (g : PatCfg) : State :=
  let s := (s.restorePort g 0).restorePort g 1
  let s := (List.finRange 4).foldl (fun s b => s.restoreBase b (g.bases.get b)) s
  let s := s.modTime (fun t => { t with pps := { t.pps with outEnable := g.pps.1, inEnable := g.pps.2.1, outBase := g.pps.2.2.1, widthMs := g.pps.2.2.2.1, offsetNs := g.pps.2.2.2.2 } })
  let s := match baseOf (BitVec.ofNat 8 g.pps.2.2.1) with | some b => s.repps b | none => s
  let s := s.modCip (fun c => { c with classes := policyClasses s.ks.policy g.classes })
  let s := (s.restoreAccess (g.access.ports.get 0) 0).restoreAccess (g.access.ports.get 1) 1
  let s := s.modDisp (fun d => { d with kernels := d.kernels.filter (fun p => s.chainsOf p.1 != 0) })
  let s := g.kernels.foldl (fun s k => if thas s.disp.kernels k.1 then s else doKernelLoad k.1 k.2.req s) s
  let s := s.restoreClaims g
  let s : State := { s with pwr := { s.pwr with rideMs := g.supply.1, flushMs := g.supply.2.1, holdMv := g.supply.2.2, l1 := g.l1 } }
  (doKeepConfig g.keep.1 g.keep.2.1 g.keep.2.2 s).l1Rule

/-- Twin settings come last, for they may dissolve the pair or start to join one (12 R304). At a boot the unit joins at step 8 only (18 Table 18-3). -/
def restoreTwin (s : State) (g : PatCfg) (boot : Bool) : State :=
  if boot then s.modTwin (fun t => { t with enabled := g.twin.1, singleSend := g.twin.2.1, resyncS := g.twin.2.2.1, retryHoldS := g.twin.2.2.2 })
  else doTwinConfig g.twin.1 g.twin.2.1 g.twin.2.2.1 g.twin.2.2.2 s

/-- A generation becomes the running configuration. -/
def restoreCfg (s : State) (g : PatCfg) (nb : Nat) (boot : Bool) : State := ((s.rebuildConfs g nb).restoreRest g).restoreTwin g boot

/-! ### Generations (R65, R66, R73) -/

/-- Highest pattern schema that the running firmware understands (R73, 18 Table 18-5). -/
def schemaMax (s : State) : Nat := s.firmware.schemaMax

/-- The schema that a new generation is written in: in a pair, no higher than its Truss version allows (12 R309). -/
def schemaWritten (s : State) : Nat := if s.twin.linkUp ∧ s.twin.version ≠ 0 then min s.schemaMax (Config.pairSchema s.twin.version) else s.schemaMax

/-- A generation as the store gives it; generation 0 is built in (R65). Without a store only generation 0 can be read (13 R332). -/
def genOf (s : State) (g : Nat) : Option Gen :=
  if g = 0 then some { label := 0, schema := 0, proven := true, sizeKib := 0, savedS := 0, cfg := {} }
  else if s.noStore then none else tget s.patt.gens g

/-- The firmware can read a generation: its CRC-32C and its schema hold (R68, R73). -/
def readable (s : State) (g : Gen) : Bool := !g.damaged && decide (g.schema ≤ s.schemaMax)

/-- The newest proven generation below a number that can be read, else generation 0 (R68, R71). R71 names the newest proven older one; that a revert passes over one which is damaged or of a newer schema, as a boot does (R68), is the model's choice (DESIGN CHOICE, log 76). -/
def olderProven (s : State) (g : Nat) : Nat :=
  if s.noStore then 0 else (s.patt.gens.filter (fun p => decide (p.1 < g) && p.2.proven && s.readable p.2)).foldl (fun acc p => max acc p.1) 0

/-! ### Changing the running generation (R69 to R72) -/

/-- Blocks that take part in a pattern seam: those in service of the regions that hold configuration, and Pier (R69). -/
def patternBlocks (s : State) : List U16 :=
  let of (region n : Nat) : List U16 := (List.range n).map (blockIsland region)
  (of 0 32 ++ of 1 14 ++ of 2 4 ++ of 3 2 ++ of 6 1).filter (fun b => !s.blockOut b && (s.block b).phase == .inService)

/-- Start a change of the running generation: legs that stop it end it REFUSED, else Pier opens its chip-wide seam with T ASAP and one entry per block (R69, R70). -/
def launch (s : State) (c : PatChange) : State :=
  match s.genOf c.target with
  | none => s.patternDone c.issuer St.storeFault c.opcode s.patt.running 0xFFFF 0xFFFF 0
  | some g =>
    let no := (s.blockers g.cfg c.force).length
    if g.damaged then s.patternDone c.issuer St.storeFault c.opcode s.patt.running 0xFFFF 0xFFFF 0
    else if no ≠ 0 then s.patternDone c.issuer St.refused c.opcode s.patt.running 0xFFFF 0xFFFF no
    else
      let ds := s.patternBlocks
      let (s, id) := s.openSeam .pattern none 600
      let s := s.modSeam id (fun k => { k with entries := ds.map (fun d => { cell := d, item := .block d.toNat }) })
      let s : State := { s with patt := { s.patt with change := some { c with seam := id } } }
      match s.seamLive id with
      | none => s
      | some k => let t := s.asapT k; s.closeSeam id t.1 t.2 none

/-- TB3 nanoseconds at a seam's T (R54, 04 R106). -/
def tb3At (s : State) (k : Seam) : Nat := ((s.tbNs 3 : Int) + ((k.tChipNs : Int) - (s.chipNs : Int))).toNat

/-- Every participant of the pattern seam has applied: the generation runs, and the pattern-done event reports it (R69 to R72, R486). Legs that stop the change at T leave everything as it was (R70). -/
def applyPattern (s : State) (k : Seam) : State :=
  match s.patt.change with
  | none => s
  | some c =>
    let cfg := (s.genOf c.target).elim {} (·.cfg)
    let no := (s.blockers cfg c.force).length
    let s : State := { s with patt := { s.patt with change := none } }
    if no ≠ 0 then s.patternDone c.issuer St.refused c.opcode s.patt.running k.id.toNat 0xFFFF no
    else
      let legs := (s.dependents cfg).length
      let s := s.restoreCfg cfg (s.tb3At k) false
      let s : State := { s with patt := { s.patt with running := c.target, revertAt := none } }
      let s := s.patternDone c.issuer (if c.issuer.isNone then St.patternUnproven else St.ok) c.opcode c.target k.id.toNat 0xFFFF legs
      if c.revertAfter = 0 then s
      else { s with patt := { s.patt with revertAt := some (s.clk + c.revertAfter * ticksPerS), revertFor := c.issuer.map (·.1) } }

/-- The resources that a generation needs are there: every stored layout and feed finds its place (R55). -/
def patternFits (s : State) : Bool :=
  match s.patt.change with
  | none => true
  | some c =>
    let g := (s.genOf c.target).elim {} (·.cfg)
    let t := s.rebuildConfs g 0
    g.confs.all (fun p =>
      (t.pic.layouts.filter (fun l => l.2.conf == p.index)).length == p.layouts.length &&
      (t.pic.feeds.filter (fun f => t.confOfLayout f.2.layout == p.index)).length == p.feeds.length) &&
    (List.range 15).all (fun k => decide (t.admitted k ≤ t.totalOf k))

end State

/-! ### Participants of a seam (R55, R56) -/

/-- The objects to which a basted command refers beside its own items still exist (R55). -/
def State.refsExist (s : State) (k : Seam) (i : Instr) : Bool :=
  let leg (l : Nat) : Bool := thas s.model.legs l
  let conf (c : U16) : Bool := thas s.model.confs c.toNat
  match i with
  | .legOpen _ o | .legUpdate _ o => conf o.conf
  | .mixCreate _ c _ _ => conf c
  | .mixRoute _ l _ x _ => leg l.toNat && thas s.snd.mixes x.toNat
  | .mixChain _ _ q => q.kernel == 0xFFFF || thas s.disp.kernels q.kernel.toNat
  | .layoutCreate _ q => conf q.conf
  | .layoutTile _ q => q.content != 1 || leg (q.source.toNat / 4)
  | .layoutFeed _ q => thas s.pic.layouts q.layout.toNat
  | .fwdSubscribe _ q => leg q.leg.toNat && (if q.kind = 1 then thas s.pic.feeds q.object.toNat else leg (q.object.toNat / 4))
  | .fwdRetarget _ _ source => leg (source.toNat / 4)
  | .accessGem _ port mode _ _ terminal alloc =>
    let p := fin2 port.toNat
    mode == 1 || (s.accPort p).role != 2 || ((terminal == 0xFF || termThere s p terminal.toNat k.id) && tcontThere s p (alloc.toNat - 1024) k.id)
  | .accessTcont _ port _ terminal _ _ _ _ _ => termThere s (fin2 port.toNat) terminal.toNat k.id
  | .accessTree _ port mode onuId _ _ => mode == 0 || termThere s (fin2 port.toNat) onuId.toNat k.id
  | _ => true

/-- The resources that a participant's entries need are still present after any fencing: what is admitted lies within the totals of sound, and the lanes and compose cells of what the seam places are in service (R55). -/
def State.resourcesPresent (s : State) (k : Seam) (cell : U16) : Bool :=
  let present (code : Nat) (l : List (Nat × Nat)) : Bool := l.all (fun p => s.laneIn code p.1)
  match regionOf cell with
  | 0 => (s.seamsLive.filter (fun q => q.id == k.id)).isEmpty || decide (s.admitted 4 ≤ s.totalOf 4) || !k.cmds.any (fun c => c.cell == cell && (match c.instr with | .mixCreate .. | .mixRoute .. | .mixChain .. | .confSet .. => true | _ => false))
  | 1 => k.cmds.all (fun c => c.cell != cell || (match c.instr with
    | .layoutCreate .. => (tget s.pic.layouts c.tag).all (fun l => present 10 l.cells)
    | .layoutTile _ q => q.content != 1 || (s.decOf q.source.toNat).all (fun d => present 8 d.2.lanes)
    | .layoutFeed .. => ((tget s.pic.feeds c.tag).bind (fun f => tget s.pic.enc f.ctx)).all (fun e => present 9 e.lanes)
    | _ => true))
  | _ => true

/-- A participant's ready or refusal reaches Pier (R55, R56). A ready that comes at the deadline or later does not count; a participant refuses where an object it refers to is gone or a resource it needs is no longer present, a block of a power change as Table 17-5 says, and a block of a pattern change where the generation finds no room. A standby's refusal waits for the primary's decision (R62, R63). -/
def participantConfirm (id cell : U16) (refusal : Option U8) (s : State) : State :=
  match s.seamLive id with
  | none => s
  | some k =>
    if k.state ≠ .confirming ∨ !s.beforeDeadline k ∨ !k.parts.any (fun p => p.cell == cell && !p.confirmed) ∨ s.cellOut cell then s
    else
      let gone := k.entries.any (fun e => e.cell == cell && !s.itemExists e.item) || k.cmds.any (fun c => c.cell == cell && !s.refsExist k c.instr)
      let no := match refusal with
        | some r => some r
        | none =>
          if gone then some St.noObject
          else if k.owner = SeamFor.power then powerRefusal s id cell
          else if k.owner = SeamFor.pattern ∧ !s.patternFits then some St.noCapacity
          else if !s.resourcesPresent k cell then some St.noCapacity
          else none
      match no with
      | some r =>
        if s.decides then (s.unpickSeam id 1 cell r).fin
        else s.modSeam id (fun q => { q with parts := q.parts.map (fun p => if p.cell = cell then { p with refused := some r } else p) })
      | none =>
        let parts := k.parts.map (fun (p : SeamPart) => if p.cell = cell then { p with confirmed := true } else p)
        let s := s.modSeam id (fun q => { q with parts })
        if s.decides ∧ parts.all (fun p => p.confirmed) then (s.commitSeam id).fin else s

/-- PARTICIPANT_CONFIRM. -/
def execParticipantConfirm (seamId cell : U16) (refusal : Option U8) (s : State) : Host.Outcome State Fault Refusal :=
  .next (participantConfirm seamId cell refusal s)

/-! ### pattern commands -/

/-- Pattern changes are accepted once the boot generation is applied (18 Table 18-3, step 6). -/
def patternUp (s : State) : Option Rep := need (s.isReady 2) St.busy

/-- pattern.save (R65). -/
def rowPatternSave (m : Mbx) (label : U32) : Row where
  opcode := 0x0E00
  checks := fun _ s => { busy := [patternUp s, need (!s.patternSeam && s.patt.saving.isNone) St.busy], rest := [need (!s.noStore && s.keep.level != 3) St.storeFault] }
  layout := fun _ => [(0, 0, 32, label.toNat)]
  effect := fun c s => ({ s with patt := { s.patt with saving := some (m, c.seq, label, s.snapshot) } }, Rep.pend)

/-- PATTERN_SAVE. -/
def execPatternSave (m : Mbx) (label : U32) (s : State) : Host.Outcome State Fault Refusal := .next (s.run m (rowPatternSave m label))

/-- A generation is stored: it takes the next number, is unproven and runs; beyond 8 saved ones the oldest that neither runs nor boots is discarded (R65, R66). The automatic revert was the applied generation's: with another one running it is off (DESIGN CHOICE, log 76). -/
def State.storeGen (s : State) (label : U32) (cfg : PatCfg) (sizeKib savedS : Nat) : State :=
  let n := s.patt.highest + 1
  let gens := tput s.patt.gens n { label, schema := s.schemaWritten, sizeKib, savedS, cfg }
  let out := if gens.length ≤ 8 then none else (gens.find? (fun p => p.1 != n && p.1 != s.patt.running && p.1 != s.patt.proven)).map (·.1)
  let s : State := { s with patt := { s.patt with
    gens := (match out with | some k => tdel gens k | none => gens), highest := n, running := n, revertAt := none } }
  let s := s.journalRoster (.pattern n 0)
  match out with
  | some k => s.journalRoster (.pattern k 2)
  | none => s

/-- The write of a generation ends: stored whole, or not at all (R64, R65). -/
def patternSaveDone (outcome : StoreEnd) (sizeKib : Nat) (s : State) : State :=
  match s.patt.saving with
  | none => s
  | some (m, n, label, cfg) =>
    let s : State := { s with patt := { s.patt with saving := none } }
    let fail (st : U8) : State := (s.patternDone (some (m, n)) st 0x0E00 s.patt.running 0xFFFF 0xFFFF 0).fin
    match outcome with
    | .fault => fail St.storeFault
    | .full => fail St.storeFull
    | .ok =>
      if 262144 < sizeKib then fail St.storeFull
      else
        let s := s.storeGen label cfg sizeKib s.chipS
        ((s.patternDone (some (m, n)) St.ok 0x0E00 s.patt.running 0xFFFF 0xFFFF 0).mirror 16).fin

/-- PATTERN_SAVE_DONE. -/
def execPatternSaveDone (outcome : StoreEnd) (sizeKib : Nat) (s : State) : Host.Outcome State Fault Refusal := .next (patternSaveDone outcome sizeKib s)

/-- A change of the running generation waits for no seam: any in progress answers BUSY (R69). -/
def changeBusy (s : State) : List (Option Rep) := [patternUp s, need s.seamsLive.isEmpty St.busy]

/-- pattern.apply (R69, R70, R72, R73); REVERT_AFTER_S exists from 3.1. -/
def rowPatternApply (m : Mbx) (generation : U32) (force : Bool) (revertAfterS : U32) : Row where
  opcode := 0x0E01
  checks := fun c s =>
    { fields := decide (c.hdr.version.toNat < 0x31) || decide (revertAfterS.toNat ≤ 86400),
      objects := [need (s.genOf generation.toNat).isSome St.noObject],
      busy := changeBusy s,
      rest := [need ((s.genOf generation.toNat).all (fun g => decide (g.schema ≤ s.schemaMax))) St.badVersion, need (decide (s.seamsLive.length < 64)) St.seamFull] }
  layout := fun v => [(0, 0, 32, generation.toNat), (4, 0, 1, bit force)] ++ (if v < 0x31 then [] else [(8, 0, 32, revertAfterS.toNat)])
  effect := fun c s =>
    (s.launch { opcode := 0x0E01, target := generation.toNat, force, seam := 0xFFFF, issuer := some (m, c.seq),
                revertAfter := if c.hdr.version.toNat < 0x31 then 0 else revertAfterS.toNat }, Rep.pend)

/-- PATTERN_APPLY. -/
def execPatternApply (m : Mbx) (generation : U32) (force : Bool) (revertAfterS : U32) (s : State) : Host.Outcome State Fault Refusal :=
  .next (s.run m (rowPatternApply m generation force revertAfterS))

/-- pattern.prove: the proof is in the journal before the command completes; a generation that is proven already becomes the most recently proven one, which boots (R66). -/
def rowPatternProve (m : Mbx) (generation : U32) : Row where
  opcode := 0x0E02
  checks := fun _ s => { objects := [need (generation.toNat == s.patt.running) St.badField] }
  layout := fun _ => [(0, 0, 32, generation.toNat)]
  effect := fun c s =>
    (s.journalRoster (.pattern generation.toNat 1) (some (m, c.seq)), Rep.goesOn)

/-- PATTERN_PROVE. -/
def execPatternProve (m : Mbx) (generation : U32) (s : State) : Host.Outcome State Fault Refusal := .next (s.run m (rowPatternProve m generation))

/-- pattern.revert (R71). -/
def rowPatternRevert (m : Mbx) (force : Bool) : Row where
  opcode := 0x0E03
  checks := fun _ s =>
    { objects := [need (s.patt.running != 0) St.noObject], busy := changeBusy s, rest := [need (decide (s.seamsLive.length < 64)) St.seamFull] }
  layout := fun _ => [(0, 0, 1, bit force)]
  effect := fun c s =>
    (s.launch { opcode := 0x0E03, target := s.olderProven s.patt.running, force, seam := 0xFFFF, issuer := some (m, c.seq) }, Rep.pend)

/-- PATTERN_REVERT. -/
def execPatternRevert (m : Mbx) (force : Bool) (s : State) : Host.Outcome State Fault Refusal := .next (s.run m (rowPatternRevert m force))

/-- One entry of pattern.list. -/
def genBytes (s : State) (n : Nat) (g : Gen) : Bytes :=
  le 4 n ++ le 4 g.label.toNat ++ le 2 g.schema ++
  le 2 (bit g.proven + 2 * bit (n == s.patt.running) + 4 * bit (n == s.patt.booted) + 8 * bit g.skipped) ++ le 4 g.sizeKib ++ le 8 g.savedS

/-- pattern.list: generation 0 first (R65). -/
def rowPatternList : Row where
  opcode := 0x0E04
  checks := fun _ s => { rest := [need (!s.noStore) St.storeFault] }
  effect := fun _ s =>
    let l := [(0, (s.genOf 0).getD { label := 0, schema := 0, sizeKib := 0, savedS := 0, cfg := {} })] ++ s.patt.gens
    (s, Rep.ok (le 8 l.length ++ l.flatMap (fun p => genBytes s p.1 p.2)))

/-- PATTERN_LIST. -/
def execPatternList (m : Mbx) (s : State) : Host.Outcome State Fault Refusal := .next (s.run m rowPatternList)

/-- REVERT_AFTER_S has passed: an applied generation that is still unproven is reverted (R72). While a seam is in progress, where pattern.revert would be BUSY, the revert waits (DESIGN CHOICE, log 76). -/
def revertAfter (s : State) : State :=
  match s.patt.revertAt with
  | none => s
  | some t =>
    if s.clk < t ∨ s.notPrimary then s
    else if !s.unproven then { s with patt := { s.patt with revertAt := none } }
    else if !s.seamsLive.isEmpty then s
    else
      let s : State := { s with patt := { s.patt with revertAt := none } }
      (s.launch { opcode := 0x0E03, target := s.olderProven s.patt.running, force := false, seam := 0xFFFF, issuer := none }).fin

/-- REVERT_AFTER_EXPIRY. -/
def execRevertAfterExpiry (s : State) : Host.Outcome State Fault Refusal := .next (revertAfter s)

end Sys2Proof.Machine
end

