-- ==== Sys2Proof/Machine/Startup.lean ====
section
/-! DEFINITION. Start-up (18 R459, R460, R463): the steps of a boot after the Keystone's start, their degraded paths, and the boot generation (02 R68). -/

namespace Sys2Proof.Machine

open Sys2Proof

/-! ### Step 2: the Pier image -/

/-- The image that boots: a STAGED slot is in TRIAL from now (18 R461, R462). -/
def bootSlot (b : Bool) (s : State) : State :=
  let x := s.keep.image b
  s.modKeep (fun k =>
    if x.state = .staged then { (k.setImage b { x with state := .trial }) with runB := b, bootB := b, lastOutcome := 1 }
    else { k with runB := b, bootB := b })

/-- Recovery: Pier runs the recovery image, and READINESS holds MAILBOXES only (R463). -/
def bootRecovery (s : State) : State := { s with boot := { s.boot with recovery := true, readiness := 0 } }

/-- Keystone verifies the image that the image state record names, then the other slot; with BOOT_SRC = 1, or with no image that verifies, the recovery image runs (R460, R463). -/
def pierImageVerify (slotAOk slotBOk : Bool) (s : State) : State :=
  if s.boot.stage ≠ .keystone then s
  else
    let b := s.keep.bootB
    let ok (c : Bool) : Bool := (if c then slotBOk else slotAOk) && (s.keep.image c).state != .empty && decide (s.keep.fusedSvn ≤ (s.keep.image c).svn)
    let s : State := { s with boot := { s.boot with stage := .pierImage }, ks := { s.ks with state := .run, verified := true } }
    if s.pins.bootSrc then bootRecovery s
    else if ok b then bootSlot b s
    else
      let named := s.keep.image b
      let s := s.modKeep (fun k => { (if named.state = .staged then k.setImage b { named with state := .rejected } else k) with commitS := none })
      if ok (!b) then (bootSlot (!b) s).modKeep (fun k => { k with lastOutcome := 7 })
      else (bootRecovery s).modKeep (fun k => { k with lastOutcome := 8 })

/-- PIER_IMAGE_VERIFY. -/
def execPierImageVerify (slotAOk slotBOk : Bool) (s : State) : Host.Outcome State Fault Refusal := .next (pierImageVerify slotAOk slotBOk s)

/-! ### Step 3: DDR5 training -/

/-- The population meets Table 15-1 (15 R379). -/
def populationOk (r : TrainingResult) : Bool :=
  (r.channels == 8 || r.channels == 12) && ((r.capacityGib == 16 && r.ranks == 1) || (r.capacityGib == 32 && within 1 2 r.ranks)) && [4800, 5600, 6400].contains r.rate

/-- The training result is settled: every channel passes, or channels 8 to 11 are left out, or a failure among channels 0 to 7 holds the device at this step (15 R381, R460). -/
def trained (r : TrainingResult) (s : State) : State :=
  if !populationOk r ∨ r.failed.any (fun c => decide (c < 8)) then { s with boot := { s.boot with stage := .stuck } }
  else
    let bad := (List.range r.channels).filter (fun c => r.failed.contains c)
    let n := if bad = [] then r.channels else 8
    let s : State := { s with boot := { s.boot with stage := .ddr } }
    let s := s.modMem (fun m => { m with
      n, pools := (List.range 6).map (fun k => (Config.poolBase k, Config.poolSize k)),
      chans := Vector.ofFn (fun k : Fin 12 => { m.chans.get k with
        state := if k.val < n then 1 else if k.val < r.channels then 2 else 0, ranks := r.ranks, rate := r.rate, gib := r.capacityGib, lastTrain := s.clk, lastZq := s.clk, lastRefresh := s.clk }) })
    let s := bad.foldl (fun s c => s.faultRec (blockIsland 4 c) 2 0xA 3) s
    (s.readyBit 6 (s.degradedNow || bad != [])).fin

/-- DDR_TRAINING_DONE. -/
def execDdrTrainingDone (result : TrainingResult) (s : State) : Host.Outcome State Fault Refusal :=
  .next (if s.boot.stage = .pierImage then trained result s else s)

/-- DDR_TRAINING_RETRY: the device retrains every 10 s until RESET_N (R460). -/
def execDdrTrainingRetry (result : TrainingResult) (s : State) : Host.Outcome State Fault Refusal :=
  .next (if s.boot.stage = .stuck then trained result s else s)

/-! ### Step 4: the mailboxes -/

/-- READY rises on every mailbox that the image serves; the enabled ones start, and mailbox 16 serves with no enable (03 R77, R97, R101). -/
def mailboxesReady (s : State) : State :=
  if s.boot.stage ≠ .ddr then s
  else
    let s : State := { s with boot := { s.boot with stage := .ready, ready := true } }
    let s := s.modBox 16 (fun b => { b with running := true })
    let s := allMbx.foldl (fun s m => if (s.box m).enable ∧ m ≠ 16 then s.startBox m else s) s
    (s.readyBit 0 true).fin

/-- MAILBOXES_READY. -/
def execMailboxesReady (s : State) : Host.Outcome State Fault Refusal := .next (mailboxesReady s)

/-! ### Steps 6 to 8: the boot generation and media -/

/-- A generation is skipped at this boot: it is marked, and a fault record says so (02 R68). -/
def skipGen (s : State) (g : Nat) : State :=
  let f := Config.genFault g
  let s : State := { s with patt := { s.patt with gens := tmod s.patt.gens g (fun x => { x with skipped := true }) }, boot := { s.boot with skippedGen := true } }
  s.faultRec f.1 f.2.1 f.2.2.1 f.2.2.2.1 (detail := f.2.2.2.2)

/-- The generation a boot applies: the boot generation where it can be read, else the next older proven one that can, else generation 0 (02 R68). -/
def bootGen (s : State) : State × Nat :=
  let proven := ((s.patt.gens.filter (fun p => p.2.proven && decide (p.1 ≤ s.patt.proven))).map (·.1)).reverse
  let bad := proven.takeWhile (fun g => !(s.genOf g).any s.readable)
  (bad.foldl skipGen s, if s.noStore then 0 else ((proven.drop bad.length).head?).getD 0)

/-- Step 6: the boot generation is applied once the pattern table is read, or at once without a store (R459, R460, 02 R68). -/
def bootPattern (damaged : List U32) (s : State) : State :=
  if s.boot.stage ≠ .ready ∨ s.boot.recovery ∨ s.isReady 2 ∨ !(s.journalUp || s.noStore) then s
  else
    let s : State := { s with patt := { s.patt with gens := tmap s.patt.gens (fun n g => { g with skipped := false, damaged := g.damaged || damaged.any (fun d => d.toNat == n) }) } }
    let (s, g) := if s.noStore then (s, 0) else bootGen s
    let s := s.restoreCfg ((s.genOf g).elim {} (·.cfg)) (s.tbNs 3) true
    let s : State := { s with patt := { s.patt with running := g, booted := g } }
    (s.readyBit 2 true).fin

/-- BOOT_PATTERN_APPLIED. -/
def execBootPatternApplied (damaged : List U32) (s : State) : Host.Outcome State Fault Refusal := .next (bootPattern damaged s)

/-- Step 7: legs may be opened, never before step 7 of the mount (04 R112); step 8: with twin operation enabled the unit joins (R459, 12 R304). -/
def mediaReady (s : State) : State :=
  if s.isReady 3 ∨ !s.isReady 2 ∨ !(s.lookupUp || s.noStore) then s
  else
    let s := s.readyBit 3 true
    (if s.twin.enabled ∧ s.twin.state = .alone then (s.modTwin (fun t => { t with joinWins := 0 })).setTwin .joining 0 else s).fin

/-- MEDIA_READY. -/
def execMediaReady (s : State) : Host.Outcome State Fault Refusal := .next (mediaReady s)

end Sys2Proof.Machine
end

