-- ==== Sys2Proof/Machine/Apply.lean ====
section
/-! DEFINITION. Application of seams at their boundaries (02 R59, Table 2-2): what each basted command does when its participant applies it. -/

namespace Sys2Proof.Machine

open Sys2Proof

namespace State

/-- A conference that a seam creates is there from its boundary on, with its main mix; its origin is the first stitch tick at or after T (R50, 04 R106). -/
def applyConf (s : State) (k : Seam) (c : Nat) : State :=
  let s : State := { s with model := { s.model with confs := tmod s.model.confs c (fun q => { q with basted := none, notBefore := s.tb3At k }) } }
  s.modMix c (fun x => { x with basted := none })

/-- A layout that a seam creates is there from its boundary on; its first slot is the first at or after T (R50, 07 R185). -/
def applyLayout (s : State) (k : Seam) (y : Nat) : State :=
  let m := s.mediaT k (s.confOfLayout y)
  s.modLayout y (fun l => { l with basted := none, firstSlot := slotAfter l.rate m })

/-- A feed that a seam creates is there from its boundary on (R50, 06 R173). -/
def applyNewFeed (s : State) (k : Seam) (f : Nat) : State :=
  match tget s.pic.feeds f with
  | none => s
  | some g =>
    let slot := slotAfter ((tget s.pic.layouts g.layout).elim 30 (·.rate)) (s.mediaT k (s.confOfLayout g.layout))
    (s.modFeed f (fun g => { g with basted := none })).modEnc g.ctx (fun e => { e with first := roundUp slot (slotDelta g.req.rate.toNat) })

/-- A change of a layout waits for the first slot at or after T (07 R187). -/
def applyToLayout (s : State) (k : Seam) (y : Nat) (c : LayoutChange) : State := s.waitSlot y (s.mediaT k (s.confOfLayout y)) c

/-- A subscription that a seam makes starts, with the transcode it owns (08 R205, R221). -/
def applySubscribe (s : State) (k : Seam) (e : Nat) : State :=
  let s := match (tget s.fwd.entries e).bind (·.trans) with
    | some (y, f) => (s.applyLayout k y).applyNewFeed k f
    | none => s
  doSubscribe e s

/-- What a participant does at its boundary with one basted command (R59, Table 2-2). -/
def applyCmd (s : State) (k : Seam) (c : SeamCmd) : State :=
  match c.instr with
  | .confCreate _ _ _ _ _ _ => s.applyConf k c.tag
  | .confDelete _ conf _ => doConfDelete conf.toNat s
  | .confSet _ conf speakers standing legField legLimit =>
    if regionOf c.cell = 0 then doConfSpeakers conf.toNat speakers s else doConfLimits conf.toNat standing legField legLimit s
  | .legOpen _ _ => applyLegOpen c.tag s
  | .legUpdate _ o => (doLegUpdate o s).1
  | .legClose _ leg => s.shutLeg leg.toNat 0
  | .legHold _ leg hold => doLegHold leg.toNat hold s
  | .mixCreate _ _ _ _ => s.modMix c.tag (fun x => { x with basted := none })
  | .mixDelete _ mix => doMixDelete (s.mediaT k (s.confOfMix mix.toNat)) mix.toNat s
  | .mixRoute _ leg mode mix gain => doMixRoute false (s.mediaT k (s.confOfLeg leg.toNat)) leg.toNat mode.toNat mix.toNat gain.toInt s
  | .mixGain _ q => doMixGain (s.mediaT k (s.gainConf (GainReq_point q))) false q s
  | .mixChain _ leg q => doMixChain (s.mediaT k (s.confOfLeg leg.toNat)) leg.toNat q s
  | .mixJitter _ source minMs maxMs fixed => doMixJitter source minMs maxMs fixed s
  | .mixEncode _ mix kbps frameMs fec dtx => doMixEncode (s.mediaT k (s.confOfMix mix.toNat)) mix.toNat kbps.toNat frameMs.toNat fec dtx s
  | .mixSpeakers _ conf threshold marginDb => doMixSpeakers conf.toNat threshold marginDb s
  | .layoutCreate _ _ => s.applyLayout k c.tag
  | .layoutDelete _ layout => s.applyToLayout k layout.toNat .delete
  | .layoutTile _ q => s.applyToLayout k q.layout.toNat (.tile q)
  | .layoutSafety _ layout region overlay x y =>
    s.applyToLayout k layout.toNat (.region region.toNat (if overlay = 0xFF then none else some { overlay := overlay.toNat, x := x.toNat, y := y.toNat }))
  | .layoutFeed _ q => if q.feed = 0xFFFF then s.applyNewFeed k c.tag else s.applyToLayout k q.layout.toNat (.feed c.tag q)
  | .layoutKeypic _ feed =>
    match tget s.pic.feeds feed.toNat with
    | some g => s.wantKey g.ctx (s.mediaT k (s.confOfLayout g.layout)) false
    | none => s
  | .fwdSubscribe _ _ => s.applySubscribe k c.tag
  | .fwdUnsubscribe _ entry => s.armEntry entry.toNat (s.mediaT k (entryConf s entry.toNat)) .unsubscribe
  | .fwdSet _ q => s.armEntry q.entry.toNat (s.mediaT k (entryConf s q.entry.toNat)) (.set q)
  | .fwdRetarget _ entry source => s.armEntry entry.toNat (s.mediaT k (entryConf s entry.toNat)) (.retarget source.toNat)
  | .fwdSource _ source ddExt fmExt => doFwdSource source.toNat ddExt fmExt (s.mediaT k (s.confOfSource source.toNat)) s
  | .fwdLine _ q => doFwdLine q s
  | .netAddr _ iface kind mode af address prefixLen => doNetAddr iface kind mode af address prefixLen s
  | .netGroup _ port mode address => doNetGroup port mode address s
  | .netRoute _ iface mode af prefixLen pfx gateway => doNetRoute iface mode af prefixLen pfx gateway s
  | .schedPort _ port change levels => doSchedPort port change levels s
  | .schedLeg _ q => doSchedLeg q s
  | .schedGate _ q => doSchedGate q c.tag s
  | .accessGem _ port mode gemId kind terminal alloc => doGem (fin2 port.toNat) mode gemId.toNat kind.toNat terminal.toNat alloc.toNat s
  | .accessTcont _ port mode terminal index fixed assured max weight =>
    doTcont (fin2 port.toNat) mode (4 * terminal.toNat + index.toNat)
      { fixed := fixed.toNat, assured := assured.toNat, max := max.toNat, weight := if weight = 0 then 1 else weight.toNat } s
  | .accessTree _ port mode _ keyGroup serial => doTree (fin2 port.toNat) mode c.tag keyGroup.toNat serial s
  | .rosterDeferredWrite r => applyKeepRecord k.id r s
  | _ => s

/-- A standby that cannot apply what the primary committed leaves synchronisation with SEAM_APPLY (R63, 12 R313). -/
def cannotApply (s : State) (k : Seam) (cell : U16) : Bool :=
  s.twin.state == .standby && (k.entries.any (fun e => e.cell == cell && !s.itemExists e.item) || k.cmds.any (fun c => c.cell == cell && !s.refsExist k c.instr))

/-- Every participant has applied: the seam is over, and Pier's own seams take effect (R44, R69; 17 R435). -/
def seamApplied (s : State) (k : Seam) : State :=
  let s := s.finishSeam k.id (fun q => { q with state := .applied })
  match k.owner with
  | .host _ => s
  | .pattern => s.applyPattern k
  | .power => s.powerGate (k.entries.map (·.cell))

end State

/-- A participant of a committed seam comes to its boundary and applies its entries, in the order in which they were basted (R59); the seam is applied once every participant has. -/
def seamBoundary (id cell : U16) (s : State) : State :=
  match s.seamLive id with
  | none => s
  | some k =>
    if k.state ≠ .committed ∨ !k.parts.any (fun p => p.cell == cell && !p.applied) ∨ !s.boundaryDue k cell then s
    else if s.cannotApply k cell then (s.leaveSync 5).fin
    else
      let s := (k.cmds.filter (fun c => c.cell == cell)).foldl (fun s c => s.applyCmd k c) s
      let parts := k.parts.map (fun (p : SeamPart) => if p.cell = cell then { p with applied := true } else p)
      let s := s.modSeam id (fun q => { q with parts, cmds := q.cmds.filter (fun c => c.cell != cell) })
      (if parts.all (·.applied) then s.seamApplied k else s).fin

/-- SEAM_BOUNDARY_APPLY. -/
def execSeamBoundaryApply (seamId cell : U16) (s : State) : Host.Outcome State Fault Refusal := .next (seamBoundary seamId cell s)

end Sys2Proof.Machine
end

