-- ==== Sys2Proof/Machine/Mirror.lean ====
section
/-! DEFINITION. Mirroring as a Truss frame brings it (12 R305, R308 to R316, R326, R327): the frame's own checks and acknowledgement, and what each kind of frame does to the unit that receives it; the steps of a resync. -/

namespace Sys2Proof.Machine

open Sys2Proof

/-! ### The mirrored commands (12 R312) -/

/-- The row of a command that changes mirrored state. Seam commands, generations, swaps and rekeys have items of their own; each unit keeps its own MAC address and fibre (R318, 11 R303). -/
def rowOf (s : State) (i : Instr) : Option Row :=
  match i with
  | .confCreate m conf speakers standing legLimit start => some (rowConfCreate m conf speakers standing legLimit start)
  | .confDelete m conf force => some (rowConfDelete m conf force)
  | .confSet m conf speakers standing legField legLimit => some (rowConfSet m conf speakers standing legField legLimit)
  | .legOpen m o => some (rowLegOpen m o)
  | .legUpdate m o => some (rowLegUpdate m o)
  | .legClose m leg => some (rowLegClose m leg)
  | .legHold m leg hold => some (rowLegHold m leg hold)
  | .mixCreate _ conf mix master => some (rowMixCreate conf mix master)
  | .mixDelete _ mix => some (rowMixDelete mix)
  | .mixRoute m leg mode mix gain => some (rowMixRoute m leg mode mix gain)
  | .mixGain m q => some (rowMixGain m q)
  | .mixChain m leg q => some (rowMixChain m leg q)
  | .mixJitter m source minMs maxMs fixed => some (rowMixJitter m source minMs maxMs fixed)
  | .mixEncode m mix kbps frameMs fec dtx => some (rowMixEncode m mix kbps frameMs fec dtx)
  | .mixSpeakers m conf threshold marginDb => some (rowMixSpeakers m conf threshold marginDb)
  | .layoutCreate m q => some (rowLayoutCreate m q)
  | .layoutDelete m layout => some (rowLayoutDelete m layout)
  | .layoutTile m q => some (rowLayoutTile m q)
  | .layoutSafety m layout region overlay x y => some (rowLayoutSafety m layout region overlay x y)
  | .layoutFeed m q => some (rowLayoutFeed m q)
  | .layoutKeypic m feed => some (rowLayoutKeypic m feed)
  | .fwdSubscribe m q => some (rowFwdSubscribe m q)
  | .fwdUnsubscribe m entry => some (rowFwdUnsubscribe m entry)
  | .fwdSet m q => some (rowFwdSet m q)
  | .fwdRetarget m entry source => some (rowFwdRetarget m entry source)
  | .fwdSource m source ddExt fmExt => some (rowFwdSource m source ddExt fmExt)
  | .fwdLine m q => some (rowFwdLine m q)
  | .netPort m port split => some (rowNetPort port split m)
  | .netIface _ q => some (rowNetIface { q with mac := (s.iface q.iface.toNat).elim q.mac (·.mac) })
  | .netAddr m iface kind mode af address len => some (rowNetAddr m iface kind mode af address len)
  | .netGroup m port mode address => some (rowNetGroup m port mode address)
  | .netRoute m iface mode af len pfx gateway => some (rowNetRoute m iface mode af len pfx gateway)
  | .schedPort m port change levels => some (rowSchedPort m port change levels)
  | .schedLeg m q => some (rowSchedLeg m q)
  | .schedGate m q => some (rowSchedGate m q)
  | .cipherClass _ cls check rekeyS useLimit => some (rowCipherClass cls check rekeyS useLimit)
  | .accessPort _ q => some (rowAccessPort { q with headFibreNs := (s.accPort (fin2 q.port.toNat)).cfg.elim q.headFibreNs (·.headFibreNs) })
  | .accessGem m port mode gemId kind terminal alloc => some (rowAccessGem m port mode gemId kind terminal alloc)
  | .accessTcont m port mode terminal index fixed assured max weight => some (rowAccessTcont m port mode terminal index fixed assured max weight)
  | .accessTree m port mode onuId keyGroup serial => some (rowAccessTree m port mode onuId keyGroup serial)
  | .twinConfig _ enable singleSend resyncS retryHoldS => some (rowTwinConfig enable singleSend resyncS retryHoldS)
  | .twinClaim _ group homing homeSide holdOffS prefA prefB => some (rowTwinClaim group homing homeSide holdOffS prefA prefB)
  | .keepRecord m q => some (rowKeepRecord m q)
  | .keepConfig _ retainDays scrubDays refreshBits => some (rowKeepConfig retainDays scrubDays refreshBits)
  | .keepFormat m confirm => some (rowKeepFormat m confirm)
  | .kernelLoad _ q => some (rowKernelLoad q)
  | .kernelUnload _ kernel => some (rowKernelUnload kernel)
  | .patternApply m generation force revertAfterS => some (rowPatternApply m generation force revertAfterS)
  | .patternRevert m force => some (rowPatternRevert m force)
  | .powerState m state quietPort sound picture access => some (rowPowerState m state quietPort sound picture access)
  | .powerVote m domain action => some (rowPowerVote m domain action)
  | .powerSupply m rideMs flushMs holdMv => some (rowPowerSupply m rideMs flushMs holdMv)
  | .powerThermal m l1 => some (rowPowerThermal m l1)
  | _ => none

/-- A mirrored command as the receiving unit runs it: it takes a command number, has no mailbox entry, and answers nobody. -/
def mirroredCmd (s : State) (opcode : Nat) (version : U8) (seam : U16) : Cmd :=
  { seq := s.pl.nextSeq, stage := .acting, fromReserve := false,
    hdr := { opcode := BitVec.ofNat 16 opcode, version, indirect := false, fence := false, tag := 0xFFFF, seam, length := 0, reqAddr := 0, reqLen := 0xFFFFFFFF, replyLen := 0xFFFFFFFF, replyAddr := 0, arg := 0 } }

namespace State

/-- A unit whose configuration, roster and patterns the primary mirrors (R312, R325). -/
def follows (s : State) : Bool := s.twin.state == .resync || s.twin.state == .standby || s.twin.state == .outOfSync
/-- A unit that takes the primary's media state (R312, R327). -/
def shadows (s : State) : Bool := s.twin.state == .resync || s.twin.state == .standby

/-- The command number of a mirrored command is used. -/
def bumpSeq (s : State) : State := { s with pl := { s.pl with nextSeq := s.pl.nextSeq + 1 } }

/-- Admitted work that this unit cannot place: it leaves synchronisation with CAPACITY (R315). -/
def cannotPlace (k : Checks) : Bool := (firstFail k.rest).any (fun r => r.status == St.noCapacity)

/-- What a decision mirrored from the primary would tell the host is told on the primary only. -/
def quietly (s : State) (f : State → State) : State :=
  let n := s.pl.raised.length
  let t := f s
  { t with pl := { t.pl with raised := t.pl.raised.take n ++ (t.pl.raised.drop n).filter (fun r => r.code != 0x0180) } }

/-- A command that took effect on the primary takes effect here (R312). The peer of a primary that dissolves the pair leaves synchronisation with HOST (`twin.config`). -/
def mirroredEffect (s : State) (version : U8) (i : Instr) : State :=
  match i with
  | .twinConfig _ false _ _ _ => s.leaveSync 15
  | .patternSave _ _ => { s with patt := { s.patt with mirrored := some s.snapshot } }
  | _ =>
    match rowOf s i with
    | none => s
    | some row =>
      let c := mirroredCmd s row.opcode version 0xFFFF
      if s.shadows && State.cannotPlace (row.checks c s) then s.leaveSync 7
      else s.bumpSeq.quietly (fun s => (row.effect c s).1)

/-! ### Frames (R308) -/

/-- The frames that an acknowledgement does not cover. -/
def afterAck (ack : U32) (l : List (U32 × Nat)) : List (U32 × Nat) :=
  if l.any (fun f => f.1 == ack) then (l.dropWhile (fun f => f.1 != ack)).drop 1 else l

/-- A frame's own checks, and what its header does: it acknowledges this unit's frames; a frame with a bad header CRC, payload CRC or SEQ is discarded; any frame with good CRCs keeps the link (R308). Answers whether the payload counts. -/
def trussIn (s : State) (h : TrussHdr) (hello : Bool) : State × Bool :=
  if !h.hcrcOk ∨ !s.twin.enabled ∨ !(s.twin.linkUp || hello) then (s, false)
  else
    let s := s.modTwin (fun t => { t with unacked := afterAck h.ack t.unacked })
    let s := s.modTwin (fun t => { t with mirrorStopped := t.mirrorStopped && decide (8388608 ≤ total t.unacked (·.2)) })
    if !h.crcOk then (s, false)
    else
      let s := s.modTwin (fun t => { t with linkUp := true, lastFrame := s.clk })
      if h.seq ≠ s.twin.rxSeq + 1 then (s, false) else (s.modTwin (fun t => { t with rxSeq := h.seq }), true)

/-- A frame whose payload counts acts; its events are offered. -/
def onFrame (s : State) (h : TrussHdr) (f : State → State) : State :=
  let (s, ok) := s.trussIn h false
  if ok then (f s).fin else s

/-! ### HELLO (R305, R309, R327 steps 1 and 2) -/

/-- What a twin event reports without a change of state. -/
def pairFault (s : State) (cause : Nat) : State :=
  (s.modTwin (fun t => { t with cause := BitVec.ofNat 8 cause })).twinEvent (twinCode s.twin.state) cause 0xFF false

/-- The Keystones have authenticated each other: a joining unit whose peer holds group 0 starts RESYNC; a unit in RESYNC goes on to the next step. -/
def paired (s : State) : State :=
  let s := s.modTwin (fun t => { t with authed := true })
  match s.twin.state with
  | .joining => if s.twin.peerHolds then s.startResync 0 else s
  | .resync => s.modTwin (fun t => { t with step := max t.step 2, resyncUntil := some (t.resyncUntil.getD (s.clk + t.resyncS * ticksPerS)) })
  | _ => s

/-- The highest Truss version that both units speak: this unit speaks 0x20 up to what its image's header gives, 0x22 with release 3.2 (R309, 18 Table 18-5). -/
def commonVersion (s : State) (lo hi : U8) : Option U8 :=
  let v := min (min 0x22 s.firmware.trussMax) hi.toNat
  if max 0x20 lo.toNat ≤ v then some (BitVec.ofNat 8 v) else none

/-- A HELLO: side, pair identity, authentication and version must fit, else the units stay where they are and the twin event says why (R305, R309). -/
def hello (s : State) (b : TrussHelloBody) : State :=
  if b.side = s.pins.twinSide then s.pairFault 12
  else if b.pairId = 0 ∨ b.pairId ≠ s.ks.policy.pairId ∨ !b.authOk then s.pairFault 13
  else match commonVersion s b.minVersion b.maxVersion with
    | none => s.pairFault 11
    | some v =>
      let s := s.modTwin (fun t => { t with version := if t.version = 0 then v else t.version, peerFw := b.fwRelease })
      (s.setPeer (some b.state) 16).paired

/-! ### Seams (02 R62, R63) -/

/-- A mirrored seam opens under its own identifier. -/
def seamMirrored (s : State) (id : U16) (owner : Mbx) (scope : Option Nat) (timeoutS : Nat) : State :=
  if (s.seamLive id).isSome then s
  else { s with seams := { s.seams with
      nextId := BitVec.ofNat 16 ((id.toNat + 1) % 65535),
      list := s.seams.list ++ [{ id, owner := .host owner, scope, openUntil := s.clk + timeoutS * ticksPerS }] } }

/-- A mirrored command is basted here too. -/
def basteMirrored (s : State) (id : U16) (owner : Mbx) (version : U8) (i : Instr) : State :=
  match rowOf s i with
  | none => s
  | some row =>
    let c := mirroredCmd s row.opcode version id
    let k := row.checks c s
    if s.shadows && cannotPlace k then s.leaveSync 7
    else
      match row.baste c s.bumpSeq with
      | (t, _, some e) => t.enterSeam owner c k.items e
      | (t, _, none) => t

/-- The seam that Pier opened here for a mirrored pattern or power command takes the identifier, T and counterpart of the primary's (R62). -/
def pierSeam (s : State) (id : U16) (pattern : Bool) (t : U64) (tNs : U32) (tChipNs : Nat) : State :=
  match s.seamsLive.find? (fun k => k.owner == (if pattern then SeamFor.pattern else SeamFor.power)) with
  | none => s
  | some k =>
    let s := s.modSeam k.id (fun q => { q with id, t, tNs, tChipNs })
    { s with
      seams := { s.seams with nextId := BitVec.ofNat 16 ((id.toNat + 1) % 65535) },
      patt := { s.patt with change := if pattern then s.patt.change.map (fun c => { c with seam := id }) else s.patt.change },
      pwr := { s.pwr with running := if pattern then s.pwr.running else s.pwr.running.map (fun r => (r.1, id)) } }

/-- One mirrored item of a seam: the primary's decision binds, and a standby that has refused what the primary commits leaves synchronisation (R62, R63). -/
def seamItem (s : State) (id : U16) (item : SeamMirror) (i : Instr) : State :=
  match item with
  | .opened owner scope timeoutS => s.seamMirrored id owner scope timeoutS
  | .baste owner version => s.basteMirrored id owner version i
  | .close t tNs tChipNs tMedia => s.closeSeamAs id t.toNat tNs.toNat none (tChipNs, tMedia)
  | .pier pattern t tNs tChipNs => s.pierSeam id pattern t tNs tChipNs
  | .committed =>
    match s.seamLive id with
    | some k =>
      if k.state ≠ .confirming then s
      else if s.twin.state = .standby ∧ k.parts.any (fun p => p.refused.isSome) then s.leaveSync 5
      else s.quietly (fun s => s.commitSeam id)
    | none => s
  | .unpicked isl => s.quietly (fun s => s.unpickSeam id 7 isl)

/-! ### Canon and decisions (R311 to R315) -/

/-- The index that must come next; a unit in RESYNC that holds none takes any (R327 step 5). -/
def canonNext (s : State) : Option U64 :=
  match s.twin.canonHeld.getLast? with
  | some r => some (r.1.index + 1)
  | none => if s.twin.state = .standby then some (s.twin.canon + 1) else none

/-- A canon record waits for its tick's decision; one that is missing means that mirroring stopped (R311, R314). -/
def canonIn (s : State) (r : CanonRec) (f : RxFrame) : State :=
  if s.canonNext.all (fun n => n == r.index) then s.modTwin (fun t => { t with canonHeld := t.canonHeld ++ [(r, f)] }) else s.leaveSync 14

/-- Nanoseconds of a time value. -/
def nsOf (v : TimeVal) : Nat := v.sec.toNat * 1000000000 + v.ns.toNat

/-- One canon record runs: the packet enters its leg under the primary's latches (R311). -/
def canonRun (s : State) (x : CanonRec × RxFrame) : State :=
  let r := x.1
  let leg := r.leg.toNat
  let s := s.modTwin (fun t => { t with
    canon := r.index, canonStamp := nsOf r.tb0,
    latches := if leg = 0xFFFF then t.latches else t.latches.filter (fun y => decide (nsOf r.tb3 < y.2.2 + 1000000000)) ++ [(leg, x.2.rtpSeq, nsOf r.tb3)] })
  if leg = 0xFFFF ∨ r.path ≠ 0 then s else s.intoLeg leg x.2

/-- A local event that the primary decided, as this unit applies it (R313; 01 R12, R40; 15 R392). -/
def localEvent (s : State) (e : LocalEvent) : State :=
  match e with
  | .leg _ | .mix _ | .encode _ => s.missed e
  | .snag n dropped => s.snagAct n (s.spool n) dropped
  | .poison u => s.userPoison u 0

/-- A tick's decision record: canon runs through CANON_END, and the primary's local events are this unit's (R313). -/
def tickDecision (s : State) (tick : Nat) (end_ : U64) (events : List LocalEvent) : State :=
  let due := s.twin.canonHeld.takeWhile (fun x => decide (x.1.index.toNat ≤ end_.toNat))
  let s := s.modTwin (fun t => { t with
    canonHeld := t.canonHeld.dropWhile (fun x => decide (x.1.index.toNat ≤ end_.toNat)),
    canonEnd := some (tick, end_.toNat), events, lastDecision := s.clk, lagUs := (s.tbNs 3 - tick * 1000000) / 1000 })
  let s := due.foldl (fun s x => s.canonRun x) s
  events.foldl localEvent s

/-- A picture's decision record (06 R182). A standby 8 pictures behind on the context leaves synchronisation. -/
def pictureDecision (s : State) (encode : Bool) (i n : Nat) (repeated snag : Bool) : State :=
  let s :=
    if encode then s.modEnc i (fun e => { e with decided := max e.decided (n + 1), repeats := if repeated then e.repeats ++ [n] else e.repeats })
    else s.modDec i (fun d => { (if snag then d.snag else d) with decided := max d.decided (n + 1) })
  let own := if encode then (tget s.pic.enc i).map (·.picnum) else (tget s.pic.dec i).map (·.picnum)
  if s.twin.state = .standby ∧ own.any (fun p => decide (p + 8 ≤ n)) then s.leaveSync 6 else s

/-- The primary's verdict on a layout: a standby whose own signatures say otherwise leaves synchronisation; else the verdict takes effect (07 R203). -/
def verdictIn (s : State) (y : Nat) (card : Bool) : State :=
  match tget s.pic.layouts y with
  | none => s
  | some l =>
    let own := s.verdictOf l
    let whole := s.signed l
    if s.twin.state = .standby ∧ l.awaiting ∧ whole ∧ own.isSome ≠ card then s.leaveSync 4
    else s.applyVerdict y (if card then some (own.getD 0) else none)

/-- A decision record (R313, R319). -/
def decisionIn (s : State) (d : DecisionRec) : State :=
  match d with
  | .tick tick end_ events => s.tickDecision tick end_ events
  | .picture encode i n repeated snag => s.pictureDecision encode i n repeated snag
  | .throttle level => { s.modTwin (fun t => { t with throttleAsk := none }) with pwr := { s.pwr with levelDue := some level } }
  | .verdict y card => s.verdictIn y card

/-! ### Keystone, configuration and the journal -/

/-- An item between the Keystones (R305, R310, Table 12-4). -/
def ksItem (s : State) (k : KsMirror) : State :=
  match k with
  | .auth ok => if ok then s.paired else (s.modTwin (fun t => { t with authed := false })).pairFault 13
  | .dtls leg ok suite version =>
    if !s.follows then s
    else if (s.legLive leg).any (fun q => q.state == .connecting && !q.keyed) then dtlsDone leg ok suite version s
    else if ok then s.rekeyed leg suite.toNat (s.keySlot (4 * leg)).roc (s.keySlot (4 * leg + 1)).roc (s.dtlsKeys leg) else s
  | .slot n key count => if s.shadows then ((s.modSlot n (fun q => { q with key, useCount := count })).wrapSlot n).checkUse n else s
  | .identity port serial => if s.follows then s.modAcc port (fun a => { a with identity := some serial }) else s
  | .verdict y card => if s.shadows then s.verdictIn y card else s
  | .cert serial => if s.notPrimary then { s with ks := { s.ks with cert := some (s.ks.policy.pairId, serial.toNat) } } else s

/-- The configuration that a stored generation's bytes hold, as a joining unit receives them: a pattern's stored form is the firmware's own (log 77). -/
opaque patternImage : Bytes → Option PatCfg

/-- An item of mirrored configuration (R312, R315; 02 R74; 08 R207; 11 R303). -/
def configItem (s : State) (k : ConfigItem) (i : Instr) : State :=
  match k with
  | .lineEstimate leg kbps => s.modLine leg (fun x => { x with e := kbps })
  | .patternSaved gen label sizeKib savedS content =>
    let cfg := match content with | some b => (patternImage b).getD {} | none => s.patt.mirrored.getD s.snapshot
    ({ s with patt := { s.patt with highest := gen.toNat - 1, mirrored := none } } : State).storeGen label cfg sizeKib savedS
  | .patternProven gen => s.journalRoster (.pattern gen.toNat 1)
  | .admission _ placeable => if placeable then s else s.leaveSync 7
  | .swapAt group tick => s.modTwin (fun t => { t with swap := some { group, tick, issuer := none } })
  | .origin c tb3 => if s.shadows then setOrigin c tb3 s else s
  | .legClosed leg cause => s.shutLeg leg cause
  | .legFreed leg => if (s.legLive leg).any (fun q => q.state == .closing) then s.freeLeg leg else s
  | .fibre port ns => s.modTwin (fun t => { t with peerFibre := t.peerFibre.set port ns })
  | .effect version => s.mirroredEffect version i

/-- The roster and the patterns of a unit that served alone give way to the primary's (13 R356). -/
def replaceRoster (s : State) : State :=
  let drop (l : List JEntry) : List JEntry := l.filter (fun e => match e.kind with | .put _ _ => false | .clear _ => false | .pattern _ _ => false | _ => true)
  let s := s.modKeep (fun k => { k with recs := [], newest := [], older := [], unwritten := [], open_ := drop k.open_, groups := k.groups.map (fun g => { g with entries := drop g.entries }) })
  ({ s with patt := { s.patt with gens := [], proven := 0 } } : State).keepEvent 4 0 0

/-- An entry of the primary's journal, under the primary's RSEQ and EPOCH (13 R355, R356). -/
def journalIn (s : State) (r : Nat) (content : Option Record) (rseq : U64) (epoch : U32) : State :=
  let alone := s.keep.epochOwn && decide (s.keep.ownFrom < s.keep.rseq) && s.keep.epoch != epoch
  let s := if s.twin.state = .resync ∧ alone then s.replaceRoster else s
  let s := s.modKeep (fun k => { k with rseq := rseq.toNat, epoch, epochOwn := false })
  let s := s.modTwin (fun t => { t with step := if t.step = 2 then 3 else t.step })
  if s.rosterRoom 288 = St.ok then
    (s.modKeep (fun k => { k with unwritten := tdel k.unwritten r })).journal { kind := (match content with | some x => .put r x | none => .clear r), rseq := rseq.toNat, epoch }
  else s.modKeep (fun k => { k with unwritten := tput k.unwritten r content })

/-- A correction or step of the primary's TB0 or TB3, its value, and the measured delay of the link (R315, R316); the offset of TB3 is what twin.query reports. -/
def timeIn (s : State) (b : Fin 4) (adj : Int) (stepped : Option TimeVal) (value : TimeVal) (delayNs : Nat) : State :=
  let own : Int := ((s.base b).units : Int) * 1000 / 4294967296
  let primary : Int := ((nsOf value + delayNs : Nat) : Int) * 1000 + (value.frac.toNat : Int) * 1000 / 4294967296
  let s := s.modTwin (fun t => { t with linkDelayNs := delayNs, tbOffsetPs := if b = 3 then own - primary else t.tbOffsetPs })
  if b ≠ 0 ∧ b ≠ 3 then s
  else
    let s := s.modBase b (fun t => t.rate (clampInt (-32768000) 32768000 adj))
    match stepped with
    | some v => s.stepTo b (v.sec.toNat * secUnits + v.ns.toNat * 4294967296 + v.frac.toNat)
    | none => s

/-! ### The snapshot (R327 steps 5 and 6) -/

/-- A leg of the snapshot, in the state it has on the primary. -/
def legItem (s : State) (l : Nat) (o : LegOffer) (active held : Bool) : State :=
  let (deny, policy) := s.entitled o.endpointKey
  let live := active || held
  let q := { s.legOf o deny policy none with
    record := s.findKey o.endpointKey, state := if active then .active else if held then .held else .connecting,
    connected := live || !o.ice, keyed := live || o.security == 4 || sdesLeg o, activeFrom := if active then some s.chipS else none,
    connectUntil := s.now + LegOffer.connectS o * ticksPerS, consentUntil := if o.ice then some (s.now + LegOffer.consentSec o * ticksPerS) else none }
  let s := s.withLeg l q
  let s := s.modSnd (fun d => { d with legs := tput d.legs l { listen := o.conf.toNat, chain := noChain } })
  if active then s.startLine l else s

/-- The code of a selection state. -/
def selOf (n : Fin 4) : SelState := if n = 0 then .quiet else if n = 1 then .contending else if n = 2 then .speaking else .releasing

/-- One item of the STATE snapshot. -/
def stateItem (s : State) (i : StateItem) : State :=
  match i with
  | .leg l o active held => s.legItem l o active held
  | .chain l q => s.modLegSnd l (fun d => { d with chain := q, chainNext := [] })
  | .gain p eighths mute => s.modGain p (fun g => { g with applied := eighths, target := eighths, mute, muteTarget := mute, steps := [], due := none, next := [] })
  | .select l code level => s.modLegSnd l (fun d => { d with sel := selOf code, level })
  | .jitter l ssrc ts0 m0 targetMs packets =>
    let clock := ((s.legLive l).bind (fun q => LegOffer.recvOf q.offer 0)).elim 48000 (fun e => e.clockHz.toNat)
    let m := s.media (s.confOfLeg l)
    s.modLegSnd l (fun d => { d with jb := packets.foldl (fun j p => j.arrive m clock p) { d.jb.idle with state := .priming, ssrc, ts0, m0, targetMs, nextPlay := m0 } })
  | .numbering e ssrc seqOff high dropped lastOut => s.modEntry e (fun f => { f with nums := tput f.nums ssrc.toNat { seqOff, high, dropped, lastOut } })
  | .slot n suite generation useCount roc =>
    s.modSlot n (fun k => { state := .loaded, suite, generation, useCount, roc, owner := n / 4, cls := s.classOf (n / 4), loadedS := s.chipS, key := k.key,
                            useLimit := ((s.cip.classes[s.classOf (n / 4)]?).elim 2147483648 (·.useLimit)) }) |>.wrapSlot n
  | .voice l ssrc txSeq tsBase => s.modLegSnd l (fun d => { d with ssrc, txSeq, tsBase })
  | .origin c tb3 => setOrigin c tb3 s
  | .encode i n first => s.modEnc i (fun e => { e with picnum := n, first, decided := n, repeats := [] })
  | .encoder leg key state conv frame =>
    let e : Enc := { state, conv, frame }
    match leg with
    | some l => s.modLegSnd l (fun d => { d with own := some e })
    | none => s.modSnd (fun d => { d with shared := d.shared.filter (fun p => p.1 != key) ++ [(key, e)] })
  | .access p onuId allocIds mibSync mib =>
    let mib : List MibEntry := mib.map (fun e => { cls := e.1, inst := e.2.1, gemId := e.2.2.1, allocId := e.2.2.2 })
    s.modAcc p (fun a => { a with
      onuId, allocIds, mibSync, mib, gems := tmap a.gems (fun id g => { g with active := a.role == 2 || mib.any (fun e => e.cls == 268 && e.gemId == id) }) })
  | .picture i n stalled => (s.modDec i (fun d => { d with picnum := n, decided := n })).setDec i (if stalled then .stalled else .idle)

/-! ### Steps of a resync -/

/-- Put a base at the primary's value, the link's delay added; this is no step (R316). -/
def loadBase (s : State) (b : Fin 4) (v : TimeVal) : State :=
  let was := s.clkInt
  let s := (s.modBase b (fun t => t.at_ (v.sec.toNat * secUnits + (v.ns.toNat + s.twin.linkDelayNs) * 4294967296 + v.frac.toNat))).repps b
  let s := s.modTime (fun t => { t with loadShift := t.loadShift + s.clkInt - was })
  if b = 0 then s.restartGates else s

/-- Close a leg with cause RESYNC; nothing is sent, so nothing drains (R316). -/
def dropForResync (s : State) (l : Nat) : State := (s.shutLeg l 9).freeLeg l

end State

/-! ### The rows -/

/-- A HELLO frame: it reports the peer and settles the version (R308, R310). -/
def trussHello (hdr : TrussHdr) (body : TrussHelloBody) (s : State) : State :=
  if (s.trussIn hdr true).2 then ((s.trussIn hdr true).1.hello body).fin else (s.trussIn hdr true).1

/-- TRUSS_HELLO. -/
def execTrussHello (hdr : TrussHdr) (body : TrussHelloBody) (s : State) : Host.Outcome State Fault Refusal := .next (trussHello hdr body s)

/-- TRUSS_CANON (R311). -/
def execTrussCanon (hdr : TrussHdr) (r : CanonRec) (frame : RxFrame) (s : State) : Host.Outcome State Fault Refusal :=
  .next (s.onFrame hdr (fun s => if s.shadows then s.canonIn r frame else s))

/-- TRUSS_SEAM (02 R62, R63). -/
def execTrussSeam (hdr : TrussHdr) (seamId : U16) (item : SeamMirror) (cmd : Instr) (s : State) : Host.Outcome State Fault Refusal :=
  .next (s.onFrame hdr (fun s => if s.follows then s.seamItem seamId item cmd else s))

/-- TRUSS_JOURNAL (13 R355). -/
def execTrussJournal (hdr : TrussHdr) (record : Nat) (content : Option Record) (rseq : U64) (epoch : U32) (s : State) : Host.Outcome State Fault Refusal :=
  .next (s.onFrame hdr (fun s => if s.follows then s.journalIn record content rseq epoch else s))

/-- TRUSS_TIME (R316). -/
def execTrussTime (hdr : TrussHdr) (base : Fin 4) (adj : Int) (stepped : Option TimeVal) (delayNs : Nat) (s : State) (value : TimeVal := { sec := 0, ns := 0, frac := 0 }) : Host.Outcome State Fault Refusal :=
  .next (s.onFrame hdr (fun s => if s.shadows then s.timeIn base adj stepped value delayNs else s))

/-- TRUSS_DRAW (R315). -/
def execTrussDraw (hdr : TrussHdr) (value : U32) (s : State) : Host.Outcome State Fault Refusal :=
  .next (s.onFrame hdr (fun s => if s.shadows then s.modTwin (fun t => { t with draws := t.draws ++ [value] }) else s))

/-- TRUSS_DECISION (R313). -/
def execTrussDecision (hdr : TrussHdr) (d : DecisionRec) (s : State) : Host.Outcome State Fault Refusal :=
  .next (s.onFrame hdr (fun s => if s.twin.state = .standby ∨ (s.twin.state = .resync ∧ 6 ≤ s.twin.step) then s.decisionIn d else s))

/-- TRUSS_STATE (R310): the items wait for the stitch tick of the snapshot. -/
def execTrussState (hdr : TrussHdr) (items : List StateItem) (last : Bool) (s : State) : Host.Outcome State Fault Refusal :=
  .next (s.onFrame hdr (fun s =>
    if s.twin.state = .resync ∧ 4 ≤ s.twin.step ∧ !s.twin.stateDone then s.modTwin (fun t => { t with step := 5, stateItems := t.stateItems ++ items, stateDone := last }) else s))

/-- TRUSS_KEYSTONE (R310). -/
def execTrussKeystone (hdr : TrussHdr) (item : KsMirror) (s : State) : Host.Outcome State Fault Refusal :=
  .next (s.onFrame hdr (fun s => s.ksItem item))

/-- TRUSS_NOTICE: a fault of the primary raises the standby's claim for group 0; a standby's throttle request is the primary's to decide (R319, R326). -/
def execTrussNotice (hdr : TrussHdr) (fault : Bool) (level : Nat) (s : State) : Host.Outcome State Fault Refusal :=
  .next (s.onFrame hdr (fun s =>
    if fault then (if s.twin.state = .standby then s.modTwin (fun t => { t with raised0 := true }) else s)
    else if s.twin.state = .primary then ({ s with pwr := { s.pwr with peerLevel := level } } : State).decideLevel
    else s))

/-- A mirrored configuration item: the fibre length is read in every state, the rest by a unit that follows (R312). -/
def trussConfig (hdr : TrussHdr) (item : ConfigItem) (cmd : Instr) (s : State) : State :=
  s.onFrame hdr (fun s =>
    match item with
    | .fibre _ _ => s.configItem item cmd
    | _ => if s.follows then s.configItem item cmd else s)

/-- TRUSS_CONFIG. -/
def execTrussConfig (hdr : TrussHdr) (item : ConfigItem) (cmd : Instr) (s : State) : Host.Outcome State Fault Refusal := .next (trussConfig hdr item cmd s)

/-- TRUSS_IDLE (R308). -/
def execTrussIdle (hdr : TrussHdr) (s : State) : Host.Outcome State Fault Refusal := .next (s.onFrame hdr (fun s => s))

/-- The joining unit gives up its running state and loads TB0 and TB3 with the primary's values (R316, R327 step 4). -/
def resyncEntry (tb0 tb3 : TimeVal) (s : State) : State :=
  if s.twin.state ≠ .resync ∨ (s.twin.step ≠ 2 ∧ s.twin.step ≠ 3) then s
  else
    let s := s.unpickAll (fun _ => true) 7
    let s := (s.model.legs.map (·.1)).foldl (fun s l => s.dropForResync l) s
    let s := (s.model.confs.map (·.1)).foldl (fun s c => doConfDelete c s) s
    let s := (s.loadBase 0 tb0).loadBase 3 tb3
    (s.modTwin (fun t => { t with step := 4 })).fin

/-- RESYNC_ENTRY. -/
def execResyncEntry (tb0 tb3 : TimeVal) (s : State) : Host.Outcome State Fault Refusal := .next (resyncEntry tb0 tb3 s)

/-- Stitch tick S: the joining unit takes the snapshot and reads canon after it; the primary asks each decoded source whose picture is not sent for a key picture (R327 steps 5 and 6). -/
def resyncSnapshot (s : State) : State :=
  let s3 := s.tick3 * 1000000
  if s.twin.state = .resync then
    if s.twin.step ≠ 5 ∨ !s.twin.stateDone then s
    else
      let s := s.twin.stateItems.foldl (fun s i => s.stateItem i) s
      (s.modTwin (fun t => { t with step := 6, stateItems := [], snapTb3 := s3, canonHeld := t.canonHeld.filter (fun x => decide (s3 ≤ State.nsOf x.1.tb3)) })).fin
  else if s.twin.state = .primary ∧ s.twin.peerState = some 2 then
    let s := s.modTwin (fun t => { t with snapTb3 := s3 })
    ((s.pic.dec.filter (fun d => d.2.state == .clean || d.2.state == .damaged)).foldl (fun s d => s.askKey d.2.source true false) s).fin
  else s

/-- RESYNC_SNAPSHOT. -/
def execResyncSnapshot (s : State) : Host.Outcome State Fault Refusal := .next (resyncSnapshot s)

/-- Every encode context on both units codes a key picture at or after S + 96; the joining unit becomes STANDBY (R327 step 8). -/
def resyncComplete (s : State) : State :=
  let keys (s : State) := s.keyAll (fun c => State.mediaAt c s.twin.snapTb3 + 96)
  if s.twin.state = .resync then
    if s.twin.step < 6 then s
    else
      let s := (keys s).modTwin (fun t => { t with
        step := 0, resyncUntil := none, retryAt := none, lastDecision := s.clk, resyncs := t.resyncs + 1, released := false, stateDone := false, peerState := some 4 })
      (s.setTwin .standby 0).fin
  else if s.twin.state = .primary ∧ s.twin.peerState = some 2 then ((keys s).setPeer (some 3) 0).fin
  else s

/-- RESYNC_COMPLETE. -/
def execResyncComplete (s : State) : Host.Outcome State Fault Refusal := .next (resyncComplete s)

end Sys2Proof.Machine
end

