-- ==== Sys2Proof/Machine/Dispatch.lean ====
section
/-! DEFINITION. The meaning of every command: one arm per row of the opcode table. -/

namespace Sys2Proof.Machine

open Sys2Proof

/-- A command's effect on everything but the queue of waiting commands. -/
def exec (i : Instr) (s : State) : Host.Outcome State Fault Refusal :=
  match i with
  | .sysHello m minVersion maxVersion => Sys2Proof.Machine.execSysHello m minVersion maxVersion s
  | .sysSubscribe m family mode select => Sys2Proof.Machine.execSysSubscribe m family mode select s
  | .sysInfo m => Sys2Proof.Machine.execSysInfo m s
  | .sysEcho m data => Sys2Proof.Machine.execSysEcho m data s
  | .sysGoodbye m => Sys2Proof.Machine.execSysGoodbye m s
  | .sysCounters m clear => Sys2Proof.Machine.execSysCounters m clear s
  | .seamOpen m scope timeoutS => Sys2Proof.Machine.execSeamOpen m scope timeoutS s
  | .seamClose m seamId asap tNs t => Sys2Proof.Machine.execSeamClose m seamId asap tNs t s
  | .seamUnpick m seamId => Sys2Proof.Machine.execSeamUnpick m seamId s
  | .seamQuery m seamId => Sys2Proof.Machine.execSeamQuery m seamId s
  | .seamOpenTimeout seamId => Sys2Proof.Machine.execSeamOpenTimeout seamId s
  | .participantConfirm seamId cell refusal => Sys2Proof.Machine.execParticipantConfirm seamId cell refusal s
  | .confirmationDeadline seamId => Sys2Proof.Machine.execConfirmationDeadline seamId s
  | .unpickAckTimeout cell => Sys2Proof.Machine.execUnpickAckTimeout cell s
  | .seamBoundaryApply seamId cell => Sys2Proof.Machine.execSeamBoundaryApply seamId cell s
  | .patternSave m label => Sys2Proof.Machine.execPatternSave m label s
  | .patternSaveDone outcome sizeKib => Sys2Proof.Machine.execPatternSaveDone outcome sizeKib s
  | .patternApply m generation force revertAfterS => Sys2Proof.Machine.execPatternApply m generation force revertAfterS s
  | .patternProve m generation => Sys2Proof.Machine.execPatternProve m generation s
  | .patternRevert m force => Sys2Proof.Machine.execPatternRevert m force s
  | .patternList m => Sys2Proof.Machine.execPatternList m s
  | .revertAfterExpiry => Sys2Proof.Machine.execRevertAfterExpiry s
  | .mbxEnable m => Sys2Proof.Machine.execMbxEnable m s
  | .mbxQuiesce m => Sys2Proof.Machine.execMbxQuiesce m s
  | .mbxReset m => Sys2Proof.Machine.execMbxReset m s
  | .quiesceComplete m => Sys2Proof.Machine.execQuiesceComplete m s
  | .cmdDoorbell m value => Sys2Proof.Machine.execCmdDoorbell m value s
  | .cplDoorbell m value => Sys2Proof.Machine.execCplDoorbell m value s
  | .ringDmaError m completion => Sys2Proof.Machine.execRingDmaError m completion s
  | .functionLevelReset fn => Sys2Proof.Machine.execFunctionLevelReset fn s
  | .vfEnableCleared => Sys2Proof.Machine.execVfEnableCleared s
  | .busMasterEnableClear fn => Sys2Proof.Machine.execBusMasterEnableClear fn s
  | .commandFetch m slot request bufErr => Sys2Proof.Machine.execCommandFetch m slot s request bufErr
  | .fencedCommandStart m => Sys2Proof.Machine.execFencedCommandStart m s
  | .holdoffExpiry m => Sys2Proof.Machine.execHoldoffExpiry m s
  | .registerWritePlain reg part value => Sys2Proof.Machine.execRegisterWritePlain reg part value s
  | .slotWrite pecOk offset16 data => Sys2Proof.Machine.execSlotWrite pecOk offset16 data s
  | .slotSubmit pecOk => Sys2Proof.Machine.execSlotSubmit pecOk s
  | .cplRead pecOk => Sys2Proof.Machine.execCplRead pecOk s
  | .smbusStatus pecOk => Sys2Proof.Machine.execSmbusStatus pecOk s
  | .stageWrite pecOk offset data => Sys2Proof.Machine.execStageWrite pecOk offset data s
  | .replyRead pecOk offset => Sys2Proof.Machine.execReplyRead pecOk offset s
  | .alertResponse => Sys2Proof.Machine.execAlertResponse s
  | .confCreate m conf speakers standing legLimit startMedia => Sys2Proof.Machine.execConfCreate m conf speakers standing legLimit startMedia s
  | .confDelete m conf force => Sys2Proof.Machine.execConfDelete m conf force s
  | .confSet m conf speakers standing legField legLimit => Sys2Proof.Machine.execConfSet m conf speakers standing legField legLimit s
  | .confQuery m conf => Sys2Proof.Machine.execConfQuery m conf s
  | .confCapacity m => Sys2Proof.Machine.execConfCapacity m s
  | .confOriginTick conf => Sys2Proof.Machine.execConfOriginTick conf s
  | .indexHoldoffEnd kind index => Sys2Proof.Machine.execIndexHoldoffEnd kind index s
  | .legOpen m offer => Sys2Proof.Machine.execLegOpen m offer s
  | .legCheck m offer => Sys2Proof.Machine.execLegCheck m offer s
  | .legUpdate m offer => Sys2Proof.Machine.execLegUpdate m offer s
  | .legClose m leg => Sys2Proof.Machine.execLegClose m leg s
  | .legHold m leg hold => Sys2Proof.Machine.execLegHold m leg hold s
  | .legQuery m leg => Sys2Proof.Machine.execLegQuery m leg s
  | .stunBindingRequest leg fromNew integrityOk => Sys2Proof.Machine.execStunBindingRequest leg fromNew integrityOk s
  | .dtlsHandshakeDone leg ok suite dtlsVersion => Sys2Proof.Machine.execDtlsHandshakeDone leg ok suite dtlsVersion s
  | .connectTimeout leg => Sys2Proof.Machine.execConnectTimeout leg s
  | .consentLost leg => Sys2Proof.Machine.execConsentLost leg s
  | .closingDrainEnd leg => Sys2Proof.Machine.execClosingDrainEnd leg s
  | .rosterDeferredWrite record => Sys2Proof.Machine.execRosterDeferredWrite record s
  | .mixCreate m conf mix master => Sys2Proof.Machine.execMixCreate m conf mix master s
  | .mixDelete m mix => Sys2Proof.Machine.execMixDelete m mix s
  | .mixRoute m leg mode mix gain => Sys2Proof.Machine.execMixRoute m leg mode mix gain s
  | .mixGain m req => Sys2Proof.Machine.execMixGain m req s
  | .mixChain m leg req => Sys2Proof.Machine.execMixChain m leg req s
  | .mixJitter m source minMs maxMs fixed => Sys2Proof.Machine.execMixJitter m source minMs maxMs fixed s
  | .mixEncode m mix kbps frameMs fec dtx => Sys2Proof.Machine.execMixEncode m mix kbps frameMs fec dtx s
  | .mixSpeakers m conf threshold marginDb => Sys2Proof.Machine.execMixSpeakers m conf threshold marginDb s
  | .mixMeter m req => Sys2Proof.Machine.execMixMeter m req s
  | .mixQuery m mix => Sys2Proof.Machine.execMixQuery m mix s
  | .mixSource m leg => Sys2Proof.Machine.execMixSource m leg s
  | .audioPacketArrival leg pkt => Sys2Proof.Machine.execAudioPacketArrival leg pkt s
  | .stitchTick conf => Sys2Proof.Machine.execStitchTick conf s
  | .jbConcealLimit leg => Sys2Proof.Machine.execJbConcealLimit leg s
  | .speakerWindow conf window => Sys2Proof.Machine.execSpeakerWindow conf window s
  | .speakerChange conf => Sys2Proof.Machine.execSpeakerChange conf s
  | .encodeOverlapEnd conf leg => Sys2Proof.Machine.execEncodeOverlapEnd conf leg s
  | .gainStep point => Sys2Proof.Machine.execGainStep point s
  | .gainStepTimeout point => Sys2Proof.Machine.execGainStepTimeout point s
  | .meterPeriod m due => Sys2Proof.Machine.execMeterPeriod m due s
  | .videoPacketArrival source pkt => Sys2Proof.Machine.execVideoPacketArrival source pkt s
  | .segmentDecode context seg => Sys2Proof.Machine.execSegmentDecode context seg s
  | .entropyStallResume context => Sys2Proof.Machine.execEntropyStallResume context s
  | .pixelLanePicture context picnum => Sys2Proof.Machine.execPixelLanePicture context picnum s
  | .keyRequestDeferred source => Sys2Proof.Machine.execKeyRequestDeferred source s
  | .decodeStall context => Sys2Proof.Machine.execDecodeStall context s
  | .encodePicture context layers => Sys2Proof.Machine.execEncodePicture context layers s
  | .receiverKeyRequest entry fir => Sys2Proof.Machine.execReceiverKeyRequest entry fir s
  | .composeSlot layout slot silent => Sys2Proof.Machine.execComposeSlot layout slot silent s
  | .safetyVerdict layout => Sys2Proof.Machine.execSafetyVerdict layout s
  | .signatureTimeout layout => Sys2Proof.Machine.execSignatureTimeout layout s
  | .layoutCreate m req => Sys2Proof.Machine.execLayoutCreate m req s
  | .layoutDelete m layout => Sys2Proof.Machine.execLayoutDelete m layout s
  | .layoutTile m req => Sys2Proof.Machine.execLayoutTile m req s
  | .layoutSafety m layout region overlay x y => Sys2Proof.Machine.execLayoutSafety m layout region overlay x y s
  | .layoutFeed m req => Sys2Proof.Machine.execLayoutFeed m req s
  | .layoutKeypic m feed => Sys2Proof.Machine.execLayoutKeypic m feed s
  | .layoutQuery m layout => Sys2Proof.Machine.execLayoutQuery m layout s
  | .layoutContext m kind index => Sys2Proof.Machine.execLayoutContext m kind index s
  | .lineUpdate leg => Sys2Proof.Machine.execLineUpdate leg s
  | .rtcpFeedback leg report => Sys2Proof.Machine.execRtcpFeedback leg report s
  | .tmmbr leg kbps => Sys2Proof.Machine.execTmmbr leg kbps s
  | .forwardPacket object isFeed pkt => Sys2Proof.Machine.execForwardPacket object isFeed pkt s
  | .switchKeyWait entry => Sys2Proof.Machine.execSwitchKeyWait entry s
  | .transcodeAfter entry => Sys2Proof.Machine.execTranscodeAfter entry s
  | .fwdSubscribe m req => Sys2Proof.Machine.execFwdSubscribe m req s
  | .fwdUnsubscribe m entry => Sys2Proof.Machine.execFwdUnsubscribe m entry s
  | .fwdSet m req => Sys2Proof.Machine.execFwdSet m req s
  | .fwdRetarget m entry source => Sys2Proof.Machine.execFwdRetarget m entry source s
  | .fwdSource m source ddExt fmExt => Sys2Proof.Machine.execFwdSource m source ddExt fmExt s
  | .fwdLine m req => Sys2Proof.Machine.execFwdLine m req s
  | .fwdQuery m entry => Sys2Proof.Machine.execFwdQuery m entry s
  | .fwdLeg m leg => Sys2Proof.Machine.execFwdLeg m leg s
  | .frameReceive iface frame => Sys2Proof.Machine.execFrameReceive iface frame s
  | .ingressBufferDrain iface bytes => Sys2Proof.Machine.execIngressBufferDrain iface bytes s
  | .pauseRepeat iface => Sys2Proof.Machine.execPauseRepeat iface s
  | .receivedPauseExpiry iface => Sys2Proof.Machine.execReceivedPauseExpiry iface s
  | .slowpathWindow iface => Sys2Proof.Machine.execSlowpathWindow iface s
  | .linkUp iface => Sys2Proof.Machine.execLinkUp iface s
  | .linkDown iface => Sys2Proof.Machine.execLinkDown iface s
  | .neighbourRetry iface address resolved => Sys2Proof.Machine.execNeighbourRetry iface address resolved s
  | .schedulingDecision iface => Sys2Proof.Machine.execSchedulingDecision iface s
  | .legQueueEnqueue frame => Sys2Proof.Machine.execLegQueueEnqueue frame s
  | .qdropAge leg => Sys2Proof.Machine.execQdropAge leg s
  | .gateEntryInterval port => Sys2Proof.Machine.execGateEntryInterval port s
  | .gateListTakeover port => Sys2Proof.Machine.execGateListTakeover port s
  | .latencySample => Sys2Proof.Machine.execLatencySample s
  | .keyCacheFill access slot intact => Sys2Proof.Machine.execKeyCacheFill access slot intact s
  | .rekeyDone leg ok => Sys2Proof.Machine.execRekeyDone leg ok s
  | .rekeyTimeout leg => Sys2Proof.Machine.execRekeyTimeout leg s
  | .previousKeyErase leg => Sys2Proof.Machine.execPreviousKeyErase leg s
  | .netPort m port split => Sys2Proof.Machine.execNetPort m port split s
  | .netIface m req => Sys2Proof.Machine.execNetIface m req s
  | .netAddr m iface kind mode af address prefixLen => Sys2Proof.Machine.execNetAddr m iface kind mode af address prefixLen s
  | .netGroup m port mode address => Sys2Proof.Machine.execNetGroup m port mode address s
  | .netRoute m iface mode af prefixLen pfx gateway => Sys2Proof.Machine.execNetRoute m iface mode af prefixLen pfx gateway s
  | .netQuery m iface clear => Sys2Proof.Machine.execNetQuery m iface clear s
  | .timeBase m base enable source trackS => Sys2Proof.Machine.execTimeBase m base enable source trackS s
  | .timeStep m base mode value frac => Sys2Proof.Machine.execTimeStep m base mode value frac s
  | .absoluteStepTimeout => Sys2Proof.Machine.execAbsoluteStepTimeout s
  | .timeRate m base adj => Sys2Proof.Machine.execTimeRate m base adj s
  | .timeUnlock m base => Sys2Proof.Machine.execTimeUnlock m base s
  | .timeRead m => Sys2Proof.Machine.execTimeRead m s
  | .timePps m outEnable inEnable outBase widthMs offsetNs => Sys2Proof.Machine.execTimePps m outEnable inEnable outBase widthMs offsetNs s
  | .timePtp m req => Sys2Proof.Machine.execTimePtp m req s
  | .timeQuery m => Sys2Proof.Machine.execTimeQuery m s
  | .secondsRollover base => Sys2Proof.Machine.execSecondsRollover base s
  | .servoComparison base phaseNs present => Sys2Proof.Machine.execServoComparison base phaseNs present s
  | .ppsInEdge => Sys2Proof.Machine.execPpsInEdge s
  | .ppsOutEdge => Sys2Proof.Machine.execPpsOutEdge s
  | .ptpMessage iface msg => Sys2Proof.Machine.execPtpMessage iface msg s
  | .ptpIntervalTimer iface kind => Sys2Proof.Machine.execPtpIntervalTimer iface kind s
  | .tsRefclkPresent hz ms => Sys2Proof.Machine.execTsRefclkPresent s hz ms
  | .tsRefclkLost quietNs => Sys2Proof.Machine.execTsRefclkLost s quietNs
  | .schedPort m port change levels => Sys2Proof.Machine.execSchedPort m port change levels s
  | .schedLeg m req => Sys2Proof.Machine.execSchedLeg m req s
  | .schedGate m req => Sys2Proof.Machine.execSchedGate m req s
  | .schedQuery m leg clear => Sys2Proof.Machine.execSchedQuery m leg clear s
  | .schedPortq m port level clear => Sys2Proof.Machine.execSchedPortq m port level clear s
  | .cipherClass m cls check rekeyS useLimit => Sys2Proof.Machine.execCipherClass m cls check rekeyS useLimit s
  | .cipherSlot m space slot => Sys2Proof.Machine.execCipherSlot m space slot s
  | .cipherRekey m leg => Sys2Proof.Machine.execCipherRekey m leg s
  | .cipherStats m leg clear => Sys2Proof.Machine.execCipherStats m leg clear s
  | .generationHunt port => Sys2Proof.Machine.execGenerationHunt port s
  | .downstreamSyncGained port => Sys2Proof.Machine.execDownstreamSyncGained port s
  | .downstreamSyncLost port => Sys2Proof.Machine.execDownstreamSyncLost port s
  | .downstreamSuperframe port superframe => Sys2Proof.Machine.execDownstreamSuperframe port superframe s
  | .to1Expiry port => Sys2Proof.Machine.execTo1Expiry port s
  | .to2Expiry port => Sys2Proof.Machine.execTo2Expiry port s
  | .serialNumberGrant port => Sys2Proof.Machine.execSerialNumberGrant port s
  | .burstGrant port alloc => Sys2Proof.Machine.execBurstGrant port alloc s
  | .burstProfile port usRate => Sys2Proof.Machine.execBurstProfile port usRate s
  | .assignOnuId port onuId serial => Sys2Proof.Machine.execAssignOnuId port onuId serial s
  | .rangingTime port relative bits => Sys2Proof.Machine.execRangingTime port relative bits s
  | .deactivateOnuId port onuId => Sys2Proof.Machine.execDeactivateOnuId port onuId s
  | .disableSerialNumber port enable serial => Sys2Proof.Machine.execDisableSerialNumber port enable serial s
  | .requestRegistration port => Sys2Proof.Machine.execRequestRegistration port s
  | .assignAllocId port allocId => Sys2Proof.Machine.execAssignAllocId port allocId s
  | .keyControl port keyIndex broadcast superframe => Sys2Proof.Machine.execKeyControl port keyIndex broadcast superframe s
  | .sleepAllow port on => Sys2Proof.Machine.execSleepAllow port on s
  | .changePowerLevel port level moduleReports => Sys2Proof.Machine.execChangePowerLevel port level moduleReports s
  | .powerConsumptionInquire port => Sys2Proof.Machine.execPowerConsumptionInquire port s
  | .ploamIgnored port micFail => Sys2Proof.Machine.execPloamIgnored port micFail s
  | .omciMessage port req => Sys2Proof.Machine.execOmciMessage port req s
  | .watchfulSleepWake port => Sys2Proof.Machine.execWatchfulSleepWake port s
  | .serialNumberReceived port serial => Sys2Proof.Machine.execSerialNumberReceived port serial s
  | .registrationReceived port onuId roundTripNs => Sys2Proof.Machine.execRegistrationReceived port onuId s roundTripNs
  | .keyReportReceived port onuId => Sys2Proof.Machine.execKeyReportReceived port onuId s
  | .ploamAcknowledge port onuId error => Sys2Proof.Machine.execPloamAcknowledge port onuId error s
  | .registrationTimeout port onuId => Sys2Proof.Machine.execRegistrationTimeout port onuId s
  | .missingBursts port onuId => Sys2Proof.Machine.execMissingBursts port onuId s
  | .upstreamAllocation port reports => Sys2Proof.Machine.execUpstreamAllocation port reports s
  | .serialNumberWindow port => Sys2Proof.Machine.execSerialNumberWindow port s
  | .groupKeyRotate port group superframe => Sys2Proof.Machine.execGroupKeyRotate port group s superframe
  | .oltGPeriodic port => Sys2Proof.Machine.execOltGPeriodic port s
  | .rssiTrigger port power => Sys2Proof.Machine.execRssiTrigger port power s
  | .accessPort m req => Sys2Proof.Machine.execAccessPort m req s
  | .accessGem m port mode gemId kind terminal allocId => Sys2Proof.Machine.execAccessGem m port mode gemId kind terminal allocId s
  | .accessTcont m port mode terminal index fixedKbps assuredKbps maxKbps weight => Sys2Proof.Machine.execAccessTcont m port mode terminal index fixedKbps assuredKbps maxKbps weight s
  | .accessTree m port mode onuId keyGroup serial => Sys2Proof.Machine.execAccessTree m port mode onuId keyGroup serial s
  | .accessQuery m port terminal => Sys2Proof.Machine.execAccessQuery m port terminal s
  | .trussHello hdr body => Sys2Proof.Machine.execTrussHello hdr body s
  | .trussCanon hdr rec frame => Sys2Proof.Machine.execTrussCanon hdr rec frame s
  | .trussSeam hdr seamId item cmd => Sys2Proof.Machine.execTrussSeam hdr seamId item cmd s
  | .trussJournal hdr record content rseq epoch => Sys2Proof.Machine.execTrussJournal hdr record content rseq epoch s
  | .trussTime hdr base adj stepped delayNs value => Sys2Proof.Machine.execTrussTime hdr base adj stepped delayNs s value
  | .trussDraw hdr value => Sys2Proof.Machine.execTrussDraw hdr value s
  | .trussDecision hdr rec => Sys2Proof.Machine.execTrussDecision hdr rec s
  | .trussState hdr items last => Sys2Proof.Machine.execTrussState hdr items last s
  | .trussKeystone hdr item => Sys2Proof.Machine.execTrussKeystone hdr item s
  | .trussNotice hdr fault level => Sys2Proof.Machine.execTrussNotice hdr fault level s
  | .trussConfig hdr item cmd => Sys2Proof.Machine.execTrussConfig hdr item cmd s
  | .trussIdle hdr => Sys2Proof.Machine.execTrussIdle hdr s
  | .trussIdleTimer => Sys2Proof.Machine.execTrussIdleTimer s
  | .trussLinkLost => Sys2Proof.Machine.execTrussLinkLost s
  | .trussLaneFail lane => Sys2Proof.Machine.execTrussLaneFail lane s
  | .mirrorStoreFree bytes => Sys2Proof.Machine.execMirrorStoreFree bytes s
  | .decisionLate => Sys2Proof.Machine.execDecisionLate s
  | .claimRoundStart => Sys2Proof.Machine.execClaimRoundStart s
  | .claimFrame frame => Sys2Proof.Machine.execClaimFrame frame s
  | .claimBusLost => Sys2Proof.Machine.execClaimBusLost s
  | .failoverCanonSwitch => Sys2Proof.Machine.execFailoverCanonSwitch s
  | .resyncEntry tb0 tb3 => Sys2Proof.Machine.execResyncEntry tb0 tb3 s
  | .resyncSnapshot => Sys2Proof.Machine.execResyncSnapshot s
  | .resyncComplete => Sys2Proof.Machine.execResyncComplete s
  | .resyncTimeout => Sys2Proof.Machine.execResyncTimeout s
  | .retryHoldExpiry => Sys2Proof.Machine.execRetryHoldExpiry s
  | .throttleRequestTimeout => Sys2Proof.Machine.execThrottleRequestTimeout s
  | .homingHoldOff group => Sys2Proof.Machine.execHomingHoldOff group s
  | .swapTick => Sys2Proof.Machine.execSwapTick s
  | .twinConfig m enable singleSend resyncS retryHoldS => Sys2Proof.Machine.execTwinConfig m enable singleSend resyncS retryHoldS s
  | .twinClaim m group homing homeSide holdOffS prefA prefB => Sys2Proof.Machine.execTwinClaim m group homing homeSide holdOffS prefA prefB s
  | .twinSwap m group leadTicks => Sys2Proof.Machine.execTwinSwap m group leadTicks s
  | .twinResync m => Sys2Proof.Machine.execTwinResync m s
  | .twinQuery m => Sys2Proof.Machine.execTwinQuery m s
  | .journalGroupClose => Sys2Proof.Machine.execJournalGroupClose s
  | .groupProgramDone gseq ok => Sys2Proof.Machine.execGroupProgramDone gseq ok s
  | .snapshotPassStart => Sys2Proof.Machine.execSnapshotPassStart s
  | .segmentImageDone segment location => Sys2Proof.Machine.execSegmentImageDone segment location s
  | .snapshotPassEnd ok => Sys2Proof.Machine.execSnapshotPassEnd ok s
  | .scrubRead corrected soft reads uncorrectable record generation => Sys2Proof.Machine.execScrubRead corrected soft reads uncorrectable record s generation
  | .mountJournalReady result => Sys2Proof.Machine.execMountJournalReady result s
  | .mountSummariesLoaded => Sys2Proof.Machine.execMountSummariesLoaded s
  | .mountIndexed => Sys2Proof.Machine.execMountIndexed s
  | .keepLookup m byRecord record key => Sys2Proof.Machine.execKeepLookup m byRecord record key s
  | .keepRecord m req => Sys2Proof.Machine.execKeepRecord m req s
  | .keepHealth m => Sys2Proof.Machine.execKeepHealth m s
  | .keepFaults m first count => Sys2Proof.Machine.execKeepFaults m first count s
  | .keepSnapshot m => Sys2Proof.Machine.execKeepSnapshot m s
  | .keepConfig m retainDays scrubDays refreshBits => Sys2Proof.Machine.execKeepConfig m retainDays scrubDays refreshBits s
  | .keepFormat m confirm => Sys2Proof.Machine.execKeepFormat m confirm s
  | .keepImage m slot image => Sys2Proof.Machine.execKeepImage m slot image s
  | .keepActivate m mode slot force commitS => Sys2Proof.Machine.execKeepActivate m mode slot force commitS s
  | .keepImages m => Sys2Proof.Machine.execKeepImages m s
  | .activationReset => Sys2Proof.Machine.execActivationReset s
  | .trialMediaTimeout => Sys2Proof.Machine.execTrialMediaTimeout s
  | .trialCommitTimeout => Sys2Proof.Machine.execTrialCommitTimeout s
  | .dispatchGet cell => Sys2Proof.Machine.execDispatchGet cell s
  | .taskReadyHandout task => Sys2Proof.Machine.execTaskReadyHandout task s
  | .taskEnd task used how => Sys2Proof.Machine.execTaskEnd task used how s
  | .kernelLoad m req => Sys2Proof.Machine.execKernelLoad m req s
  | .kernelUnload m kernel => Sys2Proof.Machine.execKernelUnload m kernel s
  | .kernelQuery m kernel => Sys2Proof.Machine.execKernelQuery m kernel s
  | .traceConfig m req => Sys2Proof.Machine.execTraceConfig m req s
  | .traceRead m start count => Sys2Proof.Machine.execTraceRead m start count s
  | .traceQuery m block => Sys2Proof.Machine.execTraceQuery m block s
  | .cellFaultDetect cell cause detail => Sys2Proof.Machine.execCellFaultDetect cell cause detail s
  | .cellRetryResult cell ok => Sys2Proof.Machine.execCellRetryResult cell ok s
  | .cellSilent cell => Sys2Proof.Machine.execCellSilent cell s
  | .boundExpired island => Sys2Proof.Machine.execBoundExpired island s
  | .regionBlockDrainDone block => Sys2Proof.Machine.execRegionBlockDrainDone block s
  | .blockSelfTestDone block failedCells blockPass => Sys2Proof.Machine.execBlockSelfTestDone block failedCells blockPass s
  | .chipFault region cause detail => Sys2Proof.Machine.execChipFault region cause detail s
  | .regionRecoveryTimeout region => Sys2Proof.Machine.execRegionRecoveryTimeout region s
  | .spanFlitError span dieCrossing toRegion resent target => Sys2Proof.Machine.execSpanFlitError span dieCrossing toRegion resent target s
  | .spanWatchdog span dieCrossing toRegion target => Sys2Proof.Machine.execSpanWatchdog span dieCrossing toRegion target s
  | .spoolWrite spool op => Sys2Proof.Machine.execSpoolWrite spool op s
  | .spoolRead spool => Sys2Proof.Machine.execSpoolRead spool s
  | .lengthUnfilled spool => Sys2Proof.Machine.execLengthUnfilled spool s
  | .dmaStart ch => Sys2Proof.Machine.execDmaStart ch s
  | .dmaResume ch => Sys2Proof.Machine.execDmaResume ch s
  | .dmaStop ch => Sys2Proof.Machine.execDmaStop ch s
  | .dmaAbort ch => Sys2Proof.Machine.execDmaAbort ch s
  | .dmaAppend ch => Sys2Proof.Machine.execDmaAppend ch s
  | .dmaIrqClear ch bits => Sys2Proof.Machine.execDmaIrqClear ch bits s
  | .dmaDescriptorDone ch => Sys2Proof.Machine.execDmaDescriptorDone ch s
  | .dmaHalt ch err addr write => Sys2Proof.Machine.execDmaHalt ch err addr write s
  | .memConfig m actThreshold patrolH retrainMs => Sys2Proof.Machine.execMemConfig m actThreshold patrolH retrainMs s
  | .memQuery m channel clear => Sys2Proof.Machine.execMemQuery m channel clear s
  | .memMap m => Sys2Proof.Machine.execMemMap m s
  | .memWindow m req => Sys2Proof.Machine.execMemWindow m req s
  | .dramRead addr ecc crcOk user path => Sys2Proof.Machine.execDramRead addr ecc crcOk user s path
  | .tableTileWrite addr whole crcOk crc path => Sys2Proof.Machine.execTableTileWrite addr whole crcOk crc s path
  | .rowActivate channel bank row => Sys2Proof.Machine.execRowActivate channel bank row s
  | .refreshWindowEnd channel => Sys2Proof.Machine.execRefreshWindowEnd channel s
  | .zqCalibration channel => Sys2Proof.Machine.execZqCalibration channel s
  | .periodicRetrain channel tempC marginOk => Sys2Proof.Machine.execPeriodicRetrain channel tempC marginOk s
  | .patrolRead channel addr ecc crcOk => Sys2Proof.Machine.execPatrolRead channel addr ecc crcOk s
  | .ksWriteReject source offset => Sys2Proof.Machine.execKsWriteReject source offset s
  | .ksStatus m => Sys2Proof.Machine.execKsStatus m s
  | .ksPropose m proposal => Sys2Proof.Machine.execKsPropose m proposal s
  | .ksCert m => Sys2Proof.Machine.execKsCert m s
  | .ksLog m first count => Sys2Proof.Machine.execKsLog m first count s
  | .ksPolicy m type => Sys2Proof.Machine.execKsPolicy m type s
  | .keystoneRelease => Sys2Proof.Machine.execKeystoneRelease s
  | .ruleOverlayPlace layout => Sys2Proof.Machine.execRuleOverlayPlace layout s
  | .noticeTone conf => Sys2Proof.Machine.execNoticeTone conf s
  | .keystoneSensorRead readings => Sys2Proof.Machine.execKeystoneSensorRead readings s
  | .throttleLevelChange level => Sys2Proof.Machine.execThrottleLevelChange level s
  | .supplyTrip rail mV => Sys2Proof.Machine.execSupplyTrip rail mV s
  | .tripClear => Sys2Proof.Machine.execTripClear s
  | .lockstepMismatch => Sys2Proof.Machine.execLockstepMismatch s
  | .powerState m state quietPort trimSound trimPicture trimAccess => Sys2Proof.Machine.execPowerState m state quietPort trimSound trimPicture trimAccess s
  | .powerVote m domain action => Sys2Proof.Machine.execPowerVote m domain action s
  | .powerSupply m rideMs flushMs holdMv => Sys2Proof.Machine.execPowerSupply m rideMs flushMs holdMv s
  | .powerThermal m l1C => Sys2Proof.Machine.execPowerThermal m l1C s
  | .powerQuery m domain => Sys2Proof.Machine.execPowerQuery m domain s
  | .powerChangeDone => Sys2Proof.Machine.execPowerChangeDone s
  | .pendingPowerStart => Sys2Proof.Machine.execPendingPowerStart s
  | .refusalHoldoffEnd domain => Sys2Proof.Machine.execRefusalHoldoffEnd domain s
  | .domainPowerUp domain failed => Sys2Proof.Machine.execDomainPowerUp domain s failed
  | .wakeEvent source => Sys2Proof.Machine.execWakeEvent source s
  | .wakeComplete failed => Sys2Proof.Machine.execWakeComplete s failed
  | .trussWakePattern symbols => Sys2Proof.Machine.execTrussWakePattern symbols s
  | .wakeTrussTimeout => Sys2Proof.Machine.execWakeTrussTimeout s
  | .wakeNLow => Sys2Proof.Machine.execWakeNLow s
  | .pfwNAssert => Sys2Proof.Machine.execPfwNAssert s
  | .rideExpiry => Sys2Proof.Machine.execRideExpiry s
  | .flushStart => Sys2Proof.Machine.execFlushStart s
  | .holdSenseFall samples => Sys2Proof.Machine.execHoldSenseFall samples s
  | .flushPark => Sys2Proof.Machine.execFlushPark s
  | .pfwNClear => Sys2Proof.Machine.execPfwNClear s
  | .parkExit => Sys2Proof.Machine.execParkExit s
  | .brownOut loadMa us => Sys2Proof.Machine.execBrownOut loadMa s us
  | .liveInsertion => Sys2Proof.Machine.execLiveInsertion s
  | .resetNAssert lowNs => Sys2Proof.Machine.execResetNAssert lowNs s
  | .resetNRelease bootSrc twinSide mgmtAddr => Sys2Proof.Machine.execResetNRelease bootSrc twinSide mgmtAddr s
  | .pierImageVerify slotAOk slotBOk => Sys2Proof.Machine.execPierImageVerify slotAOk slotBOk s
  | .ddrTrainingDone result => Sys2Proof.Machine.execDdrTrainingDone result s
  | .ddrTrainingRetry result => Sys2Proof.Machine.execDdrTrainingRetry result s
  | .mailboxesReady => Sys2Proof.Machine.execMailboxesReady s
  | .bootPatternApplied damaged => Sys2Proof.Machine.execBootPatternApplied damaged s
  | .mediaReady => Sys2Proof.Machine.execMediaReady s
  | .avsRailStep rail targetMv ack => Sys2Proof.Machine.execAvsRailStep rail targetMv ack s
  | .avsAckTimeout rail => Sys2Proof.Machine.execAvsAckTimeout rail s
  | .announceTimeout iface => Sys2Proof.Machine.execAnnounceTimeout iface s
  | .ppsOutPulseEnd => Sys2Proof.Machine.execPpsOutPulseEnd s
  | .netPortInitDone port => Sys2Proof.Machine.execNetPortInitDone port s
  | .norWriteDone policy ok => Sys2Proof.Machine.execNorWriteDone policy ok s
  | .storeFormatDone => Sys2Proof.Machine.execStoreFormatDone s
  | .blockMemParity block address => Sys2Proof.Machine.execBlockMemParity block address s
  | .arbiterFault island level => Sys2Proof.Machine.execArbiterFault island level s
  | .noticeCardRendered layout => Sys2Proof.Machine.execNoticeCardRendered layout s

end Sys2Proof.Machine
end

