-- ==== Sys2Proof/Machine/Step.lean ====
section
/-! DEFINITION. One step: the command at the front of the queue is executed with the rest of the queue; on an empty queue one tick of the time clock passes. -/

namespace Sys2Proof.Machine

open Sys2Proof

/-- The queue's rest: the state without the command at its front. -/
def State.popped (s : State) : State := { s with pending := s.pending.drop 1 }

/-- A tick of the time clock: elapsed time and the bases advance (09 R243); mem events kept for 10 ms are raised (15 R390), and domains that their last other voter let go of are dropped (17 R434). -/
def State.tick (s : State) : State := (((s.advance 1).memFlush).powerWatch).fin

/-- One step (03 R93 runs commands one by one; 09 R243 is the tick of an idle block). -/
def step (s : State) : Host.Outcome State Fault Refusal :=
  match s.pending with
  | [] => .next s.tick
  | c :: _ => exec c s.popped

/-- The state with the command that a word spells put at the front of its queue; unchanged where the word spells none. -/
def State.withFetchWord (s : State) (nbits w : Nat) : State :=
  match decodeTableWord nbits w with
  | some c => { s with pending := c :: s.pending }
  | none => s

end Sys2Proof.Machine
end

