-- ==== Sys2Proof/Safety.lean ====
section
/-! DEFINITION. The words statements are said in: when a mailbox's command is accepted, what answers it, and the properties of a state that every step keeps. -/

namespace Sys2Proof.Machine

open Sys2Proof

namespace State

/-- The command c is mailbox m's oldest ready one of a row's opcode, it is applied now (SEAM 0xFFFF), its request gives the row's operands, and every check of Table 3-8 passes (03 R82, R95). -/
def accepts (s : State) (m : Mbx) (row : Row) (c : Cmd) : Bool :=
  s.readyCmd m row.opcode == some c && row.reads c && c.hdr.seam == 0xFFFF && (s.verdict m c (row.allChecks c s)).isNone

/-- As `accepts`, for a command that is basted into a seam (02 R47). -/
def accBaste (s : State) (m : Mbx) (row : Row) (c : Cmd) : Bool :=
  s.readyCmd m row.opcode == some c && row.reads c && c.hdr.seam != 0xFFFF && (s.verdict m c (row.allChecks c s)).isNone

/-- As `accepts`, with room for a reply of n bytes (03 R82). -/
def takes (s : State) (m : Mbx) (row : Row) (c : Cmd) (n : Nat) : Bool := s.accepts m row c && (decide (n ≤ 24) || decide (n ≤ c.hdr.replyLen.toNat))

/-- The command's completion entry is written after its effect, its peer is told, and the events it raised are offered (03 R82, R92, R94; 12 R312). -/
def answered (t : State) (m : Mbx) (op : Nat) (c : Cmd) (r : Rep) : State := ((t.mirrorCmd op r).complete m c r).fin

/-- The command goes on acting after this step; its completion entry follows when it ends (03 R92). -/
def acting (t : State) (m : Mbx) (op : Nat) (c : Cmd) (r : Rep) : State := (((t.mirrorCmd op r).eventsOf c.seq).modBox m (fun b => b.setStage c.seq .acting)).fin

/-- The memory of the device and the host memory that its channels see are in canonical form (15). -/
def memOk (s : State) : Bool := s.mem.wf

/-- The byte that memory stores at an address of Table 15-2: host memory where bit 63 is 1, with the posted writes on their way to it, else DRAM. -/
def storedByte (s : State) (x : Nat) : BitVec 8 := if isHost x then s.hostByte (x - 9223372036854775808) else memRead s.mem.dram x

end State

/-- The mailbox and the row of a Pledom command (03 R93); none for a row of the table that comes from elsewhere than a mailbox. -/
def pledom : Instr → Option (Mbx × Row)
  | .sysHello m minVersion maxVersion => some (m, rowSysHello m minVersion maxVersion)
  | .sysSubscribe m family mode select => some (m, rowSysSubscribe m family mode select)
  | .sysInfo m => some (m, rowSysInfo m)
  | .sysEcho m data => some (m, rowSysEcho data)
  | .sysGoodbye m => some (m, rowSysGoodbye m)
  | .sysCounters m clear => some (m, rowSysCounters m clear)
  | .seamOpen m scope timeoutS => some (m, rowSeamOpen m scope timeoutS)
  | .seamClose m seamId asap tNs t => some (m, rowSeamClose m seamId asap tNs t)
  | .seamUnpick m seamId => some (m, rowSeamUnpick m seamId)
  | .seamQuery m seamId => some (m, rowSeamQuery m seamId)
  | .patternSave m label => some (m, rowPatternSave m label)
  | .patternApply m generation force revertAfterS => some (m, rowPatternApply m generation force revertAfterS)
  | .patternProve m generation => some (m, rowPatternProve m generation)
  | .patternRevert m force => some (m, rowPatternRevert m force)
  | .patternList m => some (m, rowPatternList)
  | .confCreate m conf speakers standing legLimit startMedia => some (m, rowConfCreate m conf speakers standing legLimit startMedia)
  | .confDelete m conf force => some (m, rowConfDelete m conf force)
  | .confSet m conf speakers standing legField legLimit => some (m, rowConfSet m conf speakers standing legField legLimit)
  | .confQuery m conf => some (m, rowConfQuery conf)
  | .confCapacity m => some (m, rowConfCapacity)
  | .legOpen m offer => some (m, rowLegOpen m offer)
  | .legCheck m offer => some (m, rowLegCheck m offer)
  | .legUpdate m offer => some (m, rowLegUpdate m offer)
  | .legClose m leg => some (m, rowLegClose m leg)
  | .legHold m leg hold => some (m, rowLegHold m leg hold)
  | .legQuery m leg => some (m, rowLegQuery leg)
  | .mixCreate m conf mix master => some (m, rowMixCreate conf mix master)
  | .mixDelete m mix => some (m, rowMixDelete mix)
  | .mixRoute m leg mode mix gain => some (m, rowMixRoute m leg mode mix gain)
  | .mixGain m req => some (m, rowMixGain m req)
  | .mixChain m leg req => some (m, rowMixChain m leg req)
  | .mixJitter m source minMs maxMs fixed => some (m, rowMixJitter m source minMs maxMs fixed)
  | .mixEncode m mix kbps frameMs fec dtx => some (m, rowMixEncode m mix kbps frameMs fec dtx)
  | .mixSpeakers m conf threshold marginDb => some (m, rowMixSpeakers m conf threshold marginDb)
  | .mixMeter m req => some (m, rowMixMeter m req)
  | .mixQuery m mix => some (m, rowMixQuery mix)
  | .mixSource m leg => some (m, rowMixSource leg)
  | .layoutCreate m req => some (m, rowLayoutCreate m req)
  | .layoutDelete m layout => some (m, rowLayoutDelete m layout)
  | .layoutTile m req => some (m, rowLayoutTile m req)
  | .layoutSafety m layout region overlay x y => some (m, rowLayoutSafety m layout region overlay x y)
  | .layoutFeed m req => some (m, rowLayoutFeed m req)
  | .layoutKeypic m feed => some (m, rowLayoutKeypic m feed)
  | .layoutQuery m layout => some (m, rowLayoutQuery layout)
  | .layoutContext m kind index => some (m, rowLayoutContext kind index)
  | .fwdSubscribe m req => some (m, rowFwdSubscribe m req)
  | .fwdUnsubscribe m entry => some (m, rowFwdUnsubscribe m entry)
  | .fwdSet m req => some (m, rowFwdSet m req)
  | .fwdRetarget m entry source => some (m, rowFwdRetarget m entry source)
  | .fwdSource m source ddExt fmExt => some (m, rowFwdSource m source ddExt fmExt)
  | .fwdLine m req => some (m, rowFwdLine m req)
  | .fwdQuery m entry => some (m, rowFwdQuery entry)
  | .fwdLeg m leg => some (m, rowFwdLeg leg)
  | .netPort m port split => some (m, rowNetPort port split m)
  | .netIface m req => some (m, rowNetIface req)
  | .netAddr m iface kind mode af address prefixLen => some (m, rowNetAddr m iface kind mode af address prefixLen)
  | .netGroup m port mode address => some (m, rowNetGroup m port mode address)
  | .netRoute m iface mode af prefixLen pfx gateway => some (m, rowNetRoute m iface mode af prefixLen pfx gateway)
  | .netQuery m iface clear => some (m, rowNetQuery iface clear)
  | .timeBase m base enable source trackS => some (m, rowTimeBase base enable source trackS)
  | .timeStep m base mode value frac => some (m, rowTimeStep base mode value frac m)
  | .timeRate m base adj => some (m, rowTimeRate base adj)
  | .timeUnlock m base => some (m, rowTimeUnlock base m)
  | .timeRead m => some (m, rowTimeRead)
  | .timePps m outEnable inEnable outBase widthMs offsetNs => some (m, rowTimePps outEnable inEnable outBase widthMs offsetNs)
  | .timePtp m req => some (m, rowTimePtp req)
  | .timeQuery m => some (m, rowTimeQuery)
  | .schedPort m port change levels => some (m, rowSchedPort m port change levels)
  | .schedLeg m req => some (m, rowSchedLeg m req)
  | .schedGate m req => some (m, rowSchedGate m req)
  | .schedQuery m leg clear => some (m, rowSchedQuery leg clear)
  | .schedPortq m port level clear => some (m, rowSchedPortq port level clear)
  | .cipherClass m cls check rekeyS useLimit => some (m, rowCipherClass cls check rekeyS useLimit)
  | .cipherSlot m space slot => some (m, rowCipherSlot space slot)
  | .cipherRekey m leg => some (m, rowCipherRekey m leg)
  | .cipherStats m leg clear => some (m, rowCipherStats leg clear)
  | .accessPort m req => some (m, rowAccessPort req)
  | .accessGem m port mode gemId kind terminal allocId => some (m, rowAccessGem m port mode gemId kind terminal allocId)
  | .accessTcont m port mode terminal index fixedKbps assuredKbps maxKbps weight => some (m, rowAccessTcont m port mode terminal index fixedKbps assuredKbps maxKbps weight)
  | .accessTree m port mode onuId keyGroup serial => some (m, rowAccessTree m port mode onuId keyGroup serial)
  | .accessQuery m port terminal => some (m, rowAccessQuery port terminal)
  | .twinConfig m enable singleSend resyncS retryHoldS => some (m, rowTwinConfig enable singleSend resyncS retryHoldS)
  | .twinClaim m group homing homeSide holdOffS prefA prefB => some (m, rowTwinClaim group homing homeSide holdOffS prefA prefB)
  | .twinSwap m group leadTicks => some (m, rowTwinSwap m group leadTicks)
  | .twinResync m => some (m, rowTwinResync)
  | .twinQuery m => some (m, rowTwinQuery)
  | .keepLookup m byRecord record key => some (m, rowKeepLookup byRecord record key)
  | .keepRecord m req => some (m, rowKeepRecord m req)
  | .keepHealth m => some (m, rowKeepHealth)
  | .keepFaults m first count => some (m, rowKeepFaults first count)
  | .keepSnapshot m => some (m, rowKeepSnapshot m)
  | .keepConfig m retainDays scrubDays refreshBits => some (m, rowKeepConfig retainDays scrubDays refreshBits)
  | .keepFormat m confirm => some (m, rowKeepFormat m confirm)
  | .keepImage m slot image => some (m, rowKeepImage m slot image)
  | .keepActivate m mode slot force commitS => some (m, rowKeepActivate m mode slot force commitS)
  | .keepImages m => some (m, rowKeepImages m)
  | .kernelLoad m req => some (m, rowKernelLoad req)
  | .kernelUnload m kernel => some (m, rowKernelUnload kernel)
  | .kernelQuery m kernel => some (m, rowKernelQuery kernel)
  | .traceConfig m req => some (m, rowTraceConfig req)
  | .traceRead m start count => some (m, rowTraceRead start count)
  | .traceQuery m block => some (m, rowTraceQuery block)
  | .memConfig m actThreshold patrolH retrainMs => some (m, rowMemConfig actThreshold patrolH retrainMs)
  | .memQuery m channel clear => some (m, rowMemQuery channel clear)
  | .memMap m => some (m, rowMemMap)
  | .memWindow m req => some (m, rowMemWindow m req)
  | .ksStatus m => some (m, rowKsStatus)
  | .ksPropose m proposal => some (m, rowKsPropose m proposal)
  | .ksCert m => some (m, rowKsCert)
  | .ksLog m first count => some (m, rowKsLog first count)
  | .ksPolicy m type => some (m, rowKsPolicy type)
  | .powerState m state quietPort trimSound trimPicture trimAccess => some (m, rowPowerState m state quietPort trimSound trimPicture trimAccess)
  | .powerVote m domain action => some (m, rowPowerVote m domain action)
  | .powerSupply m rideMs flushMs holdMv => some (m, rowPowerSupply m rideMs flushMs holdMv)
  | .powerThermal m l1C => some (m, rowPowerThermal m l1C)
  | .powerQuery m domain => some (m, rowPowerQuery domain)
  | _ => none

/-- Rows that may reset the device: a reset they bring lands the mailboxes' posted writes in host memory and leaves the device memory empty (03 R84, R99; 18 R465). -/
def mayReset : Instr → Bool
  | .activationReset .. | .arbiterFault .. | .blockMemParity .. | .blockSelfTestDone .. | .boundExpired .. | .brownOut .. 
  | .cellRetryResult .. | .cellSilent .. | .chipFault .. | .dramRead .. | .flushPark .. | .keystoneSensorRead .. 
  | .lengthUnfilled .. | .liveInsertion .. | .lockstepMismatch .. | .parkExit .. | .patrolRead .. | .periodicRetrain .. 
  | .regionBlockDrainDone .. | .regionRecoveryTimeout .. | .resetNAssert .. | .spanFlitError .. | .spanWatchdog .. 
  | .storeFormatDone .. | .supplyTrip .. | .tableTileWrite .. | .trialCommitTimeout .. | .trialMediaTimeout .. 
  | .tripClear .. | .unpickAckTimeout .. => true
  | _ => false

/-- Rows by which a DMA channel writes memory (15 R399 to R402, R404). -/
def dmaWrites : Instr → Bool
  | .dmaDescriptorDone _ | .dmaHalt .. => true
  | _ => false

/-- The output numbers of the packets selected among packets in order, from a first number on; a flag says whether a packet is selected (08 R217). -/
def Numbering.outputs (n : Numbering) (seq : U16) : List Bool → List U16
  | [] => []
  | b :: bs => (n.take seq b).2.1.toList ++ (n.take seq b).1.outputs (seq + 1) bs

/-- A spool within its array: the last free slot is taken by a snag marker only, and a frame that is being written has its reserved slot (01 R34 to R36). -/
def Spool.ok (q : Spool) : Bool :=
  decide (q.slots.length ≤ q.depth) && (decide (q.slots.length < q.depth) || q.slots.getLast?.any (fun x => x.tag == 2)) && (q.openSince.isNone || q.slots.any (fun x => x.tag == 3))

end Sys2Proof.Machine
end

