-- ==== Sys2Proof/Certificates/Slice0/Obligations.lean ====
section
/-! DEFINITION. The statements for the provers. -/

open Sys2Proof Sys2Proof.Machine

/-! ### The machine as a whole -/

/-- After reset both memories are in canonical form. -/
def Obligations.ResetMemoryOk : Prop :=
  State.memOk State.reset = true

/-- Every step keeps both memories in canonical form, whatever state it starts from. -/
def Obligations.MemoryFormKept : Prop :=
  ∀ s t : State, s.memOk = true → step s = .next t → t.memOk = true

/-- A step runs the command at the front of the queue on the state with the queue's rest. -/
def Obligations.StepRunsFront : Prop :=
  ∀ (s : State) (i : Instr) (rest : List Instr), s.pending = i :: rest → step s = exec i { s with pending := rest }

/-- On an empty queue a step is one tick of the time clock: the queue stays empty (the model's choice, log 1).
With no ready command of its opcode and operands in its mailbox, a Pledom row changes nothing (log 5). -/
def Obligations.NothingToDoChangesOnlyTime : Prop :=
  (∀ s : State, s.pending = [] → step s = .next s.tick ∧ s.tick.pending = []) ∧
  (∀ (i : Instr) (m : Mbx) (row : Row) (s : State), pledom i = some (m, row) →
    (s.readyCmd m row.opcode).all (fun c => !row.reads c) = true → exec i s = .next s)

/-- A step takes the front command from the queue, puts none into it, and leaves the others in their order. -/
def Obligations.QueueLosesItsFront : Prop :=
  ∀ s t : State, step s = .next t → t.pending = s.pending.drop 1

/-- Every command runs in every state: none ends in a fault or a refusal. -/
def Obligations.EveryCommandRuns : Prop :=
  ∀ (i : Instr) (s : State), ∃ t, exec i s = .next t

/-- Only a DMA channel and a reset change what memory holds: after any other command every byte of both memories reads as before; a command that may reset the device leaves device memory as it was or empty; the reset itself lands the mailboxes' posted writes in host memory (the writes land there at the latest, the model's choice, log 14) and empties device memory. -/
def Obligations.BytesOnlyDmaWrites : Prop :=
  (∀ (i : Instr) (s t : State), exec i s = .next t → dmaWrites i = false →
    (mayReset i = false → ∀ a, memRead t.mem.host a = memRead s.mem.host a) ∧
    (mayReset i = false → ∀ a, memRead t.mem.dram a = memRead s.mem.dram a) ∧
    (mayReset i = true → t.mem.dram = s.mem.dram ∨ t.mem.dram = [])) ∧
  (∀ (s : State) (cause outcome : Nat), (s.wiped cause outcome).mem.host = s.landed ∧ (s.wiped cause outcome).mem.dram = [])

/-! ### Pledom commands in general -/

/-- A Pledom command whose checks pass takes its effect, and is answered: by its completion entry, or by going on acting (03 R82, R92, R95).
A Pledom command that fails a check answers with the first failing check's status and changes nothing but mailboxes and the alert pin; one whose reply does not fit fails the LENGTH check with the length needed, unless an earlier one fails (03 R82, R95).
A command of a seam that is open and whose checks pass is basted: it reserves what the row reserves, its entries and the command its cells will run go into the seam, and it is answered (02 R47 to R49). -/
def Obligations.CommandsAreCheckedThenAct : Prop :=
  (∀ (i : Instr) (m : Mbx) (row : Row) (s : State) (c : Cmd), pledom i = some (m, row) → s.accepts m row c = true →
    ((row.effect c s).2.later = true → exec i s = .next ((row.effect c s).1.acting m row.opcode c (row.effect c s).2)) ∧
    ((row.effect c s).2.later = false → exec i s = .next ((row.effect c s).1.answered m row.opcode c (row.effect c s).2))) ∧
  (∀ (i : Instr) (m : Mbx) (row : Row) (s : State) (c : Cmd), pledom i = some (m, row) → s.readyCmd m row.opcode = some c → row.reads c = true →
    (∀ r, s.verdict m c (row.allChecks c s) = some r →
      exec i s = .next (s.complete m c r).fin ∧
      (s.complete m c r).fin = { s with pl := (s.complete m c r).fin.pl, pins := (s.complete m c r).fin.pins }) ∧
    (c.hdr.seam = 0xFFFF → (row.checks c s).pre = none → State.tooLong c (row.effect c s).2 = true →
      exec i s = .next (s.complete m c (Rep.fail St.length [(row.effect c s).2.data.length])).fin)) ∧
  (∀ (i : Instr) (m : Mbx) (row : Row) (s t : State) (c : Cmd) (r : Rep) (x : Instr × Nat), pledom i = some (m, row) →
    s.accBaste m row c = true → row.baste c s = (t, r, some x) →
    exec i s = .next ((t.enterSeam m c (row.checks c s).items x).answered m row.opcode c r))

/-- Answering a command changes, beyond its effect, the mailboxes, the alert pin and the link to the peer unit: nothing else. -/
def Obligations.AnsweringKeepsTheRest : Prop :=
  ∀ (s : State) (m : Mbx) (op : Nat) (c : Cmd) (r : Rep),
    (∃ pl pins twin, s.answered m op c r = { s with pl, pins, twin }) ∧ (∃ pl pins twin, s.acting m op c r = { s with pl, pins, twin })

/-! ### Mailboxes (03) -/

/-- The mailbox registers of mailboxes 0 to 15: setting ENABLE starts a mailbox once the device is ready, halts one whose ring is badly configured, and resumes a quiesced one; clearing it quiesces one that runs, which stops once its last entry is written; RESET cuts its work off and ends its session; the doorbells move the indices the host owns, and a command index that does not fit the ring halts the mailbox; a DMA error of a ring halts it; an interrupt held back is sent when the gap has passed (03 R77 to R79, R84, R86, R97 to R99). Mailbox 16 has no such registers: nothing changes.
SMBus transfers with a right PEC, once the device is ready: the slot buffer and the staging buffer take bytes, a submitted slot joins the queue unless it is full; the oldest entry is read and consumed, the status byte and the reply are read; the device answers the Alert Response Address with its own while it asserts the alert pin; a bad PEC counts and changes no buffer (03 R101, R102). -/
def Obligations.MailboxesServe : Prop :=
  (∀ s : State, (exec (.mbxQuiesce 16) s = .next s ∧ exec (.cplDoorbell 16 0) s = .next s) ∧
  ∀ m : Mbx, m ≠ 16 →
    ((s.box m).halted = false → (s.box m).enable = false → (s.box m).quiesced = true →
      exec (.mbxEnable m) s = .next (s.putBox m ({ s.box m with enable := true, quiesced := false, running := true } : Mailbox).settle).fin) ∧
    ((s.box m).halted = false → (s.box m).enable = false → (s.box m).quiesced = false → s.boot.ready = false →
      exec (.mbxEnable m) s = .next (s.setBox m { s.box m with enable := true }).fin) ∧
    ((s.box m).halted = false → (s.box m).enable = false → (s.box m).quiesced = false → s.boot.ready = true → s.serves m = true →
      9 ≤ (s.box m).cfg.toNat % 16 → (s.box m).cfg.toNat % 16 ≤ 14 → (s.box m).cmdBase.toNat % 4096 = 0 → (s.box m).cplBase.toNat % 4096 = 0 →
      exec (.mbxEnable m) s = .next (s.setBox m { s.box m with
        enable := true, running := true, hostRing := true, ldCmdBase := (s.box m).cmdBase, ldCplBase := (s.box m).cplBase,
        ldLog2 := (s.box m).cfg.toNat % 16, ldHoldoff := (s.box m).cfg.toNat / 256 % 256,
        cmdHead := 0, pos := 0, pi := 0, ci := 0, ring := [], waiting := [] }).fin) ∧
    ((s.box m).halted = false → (s.box m).enable = false → (s.box m).quiesced = false → s.boot.ready = true → s.serves m = true →
      (s.box m).cfg.toNat % 16 < 9 ∨ 14 < (s.box m).cfg.toNat % 16 ∨ (s.box m).cmdBase.toNat % 4096 ≠ 0 ∨ (s.box m).cplBase.toNat % 4096 ≠ 0 →
      exec (.mbxEnable m) s = .next ((s.setBox m { s.box m with enable := true }).halt m 6).fin) ∧
    ((s.box m).halted = false → (s.box m).running = true → (s.box m).quiesced = false →
      exec (.mbxQuiesce m) s = .next (s.setBox m { s.box m with enable := false, quiesced := true })) ∧
    ((s.box m).quiesced = true → (s.box m).running = true → (s.box m).inFlight = 0 → (s.box m).waiting = [] →
      exec (.quiesceComplete m) s = .next (s.setBox m { s.box m with running := false })) ∧
    (exec (.mbxReset m) s = .next ((s.setBox m { State.cutOff (s.box m) with
        enable := false, halted := false, haltCause := 0, cmdHead := 0, pos := 0, pi := 0, ci := 0 }).endSession m).fin) ∧
    (∀ v : U32, (s.box m).halted = false → (s.box m).running = true → (v.toNat % 512 + 512 - (s.box m).cmdHead) % 512 ≤ 256 →
      (v.toNat % 512 + 512 - (s.box m).pi) % 512 ≤ 256 →
      exec (.cmdDoorbell m v) s = .next ((s.noteWake 4).setBox m { s.box m with pi := v.toNat % 512 }).fin) ∧
    (∀ v : U32, (s.box m).halted = false → (s.box m).running = true →
      256 < (v.toNat % 512 + 512 - (s.box m).cmdHead) % 512 ∨ 256 < (v.toNat % 512 + 512 - (s.box m).pi) % 512 →
      exec (.cmdDoorbell m v) s = .next ((s.noteWake 4).halt m 1).fin) ∧
    (∀ v : U32, (s.box m).halted = false → (s.box m).running = true ∨ (s.box m).quiesced = true →
      exec (.cplDoorbell m v) s = .next (s.putBox m ({ s.box m with ci := v.toNat % 65536, ring := (s.box m).ring.drop ((v.toNat % 65536 + 65536 - (s.box m).ci) % 65536) } : Mailbox).settle)) ∧
    (∀ completion : Bool, (s.box m).running = true ∨ (s.box m).quiesced = true →
      exec (.ringDmaError m completion) s = .next (s.halt m (if completion then 3 else 2)).fin) ∧
    ((s.box m).irqHeld = true → s.inHoldoff m = false → exec (.holdoffExpiry m) s = .next (s.sendIrq m))) ∧
  (∀ s : State, s.boot.ready = true →
    (∀ (off : U8) (d : Bytes), d.length ≠ 0 → d.length ≤ 128 → 16 * off.toNat + d.length ≤ 256 →
      exec (.slotWrite true off d) s = .next (s.modSmb (fun b => { b with acked := true, answer := [], slot := splice b.slot (16 * off.toNat) d }))) ∧
    (s.pl.smb.queue.length < 256 →
      exec (.slotSubmit true) s = .next (s.modSmb (fun b => { b with acked := true, answer := [], queue := b.queue ++ [b.slot] }))) ∧
    (256 ≤ s.pl.smb.queue.length →
      exec (.slotSubmit true) s = .next (s.modSmb (fun b => { b with acked := false, answer := [], queueFull := true }))) ∧
    (∀ e r, (s.box 16).ring = e :: r →
      exec (.cplRead true) s = .next ((s.modSmb (fun b => { b with acked := true, answer := entryBytes e })).putBox 16
        ({ s.box 16 with ring := r, ci := ((s.box 16).ci + 1) % 65536 } : Mailbox).settle)) ∧
    (exec (.smbusStatus true) s = .next (s.modSmb (fun b => { b with acked := true, answer := le 1 (bit (s.box 16).session.isSome + 2 * bit (!(s.box 16).ring.isEmpty) + 4 * bit s.pl.smb.queueFull + 8 + 16 * bit ((s.box 16).lostCount != 0)) }))) ∧
    (∀ (off : U16) (d : Bytes), d.length ≠ 0 → d.length ≤ 128 → off.toNat + d.length ≤ 4096 →
      exec (.stageWrite true off d) s = .next (s.modSmb (fun b => { b with acked := true, answer := [], staging := splice b.staging off.toNat d }))) ∧
    (∀ off : U16, exec (.replyRead true off) s = .next (s.modSmb (fun b => { b with acked := true, answer := (b.reply.drop off.toNat).take 128 }))) ∧
    (s.pins.smbAlert = true →
      exec .alertResponse s = .next (s.modSmb (fun b => { b with acked := true, answer := le 1 (2 * (0x58 + s.pins.mgmtAddr.toNat)) }))) ∧
    (∀ (i : Instr), (∃ off d, i = .slotWrite false off d) ∨ i = .slotSubmit false ∨ i = .cplRead false ∨ i = .smbusStatus false ∨
        (∃ off d, i = .stageWrite false off d) ∨ (∃ off, i = .replyRead false off) →
      exec i s = .next ((s.modBox 16 (fun b => { b with cBadPec := b.cBadPec + 1 })).modSmb (fun b => { b with acked := false, answer := [] }))))

/-- Fetching: only the mailbox whose turn the rotation gives is served; the model fetches the slot and the request that host memory holds, given as operands (log 14), and mailbox 16 its oldest queued slot; a command that waited for FENCE starts once nothing earlier of its mailbox is in flight (03 R92, R93). In the Quiet level a command for a mailbox is held until the wake (17).
A fetched command that nothing holds back takes its mailbox's next slot, which is counted, and stands in flight ready to run; the rotation moves past the mailbox; every other mailbox keeps its slots and its commands (03 R92). -/
def Obligations.FetchingTakesTurns : Prop :=
  (∀ (s : State) (m : Mbx) (slot request : Bytes) (err : Fin 3),
    (s.nextTurn = some m → m ≠ 16 → s.pwr.asleep = false →
      exec (.commandFetch m slot request err) s = .next (s.fetch m slot request err ((s.tokenFor m).getD false)).fin) ∧
    (∀ raw rest, s.nextTurn = some 16 → s.pl.smb.queue = raw :: rest → s.pwr.asleep = false →
      exec (.commandFetch 16 slot request err) s =
        .next (({ s with pl := { s.pl with smb := { s.pl.smb with queue := rest, queueFull := false } } } : State).fetch 16 raw request err
          ((s.tokenFor 16).getD false)).fin) ∧
    (∀ c, (s.box m).inflight.find? (fun c => c.stage == .fenced) = some c → (s.box m).inflight.any (fun d => decide (d.seq < c.seq)) = false →
      exec (.fencedCommandStart m) s = .next (s.startCmd m c).fin)) ∧
  (∀ (s t : State) (m : Mbx) (slot request : Bytes) (reserve : Bool) (h : SlotHdr) (c : Cmd), (s.box m).inflight = [] → h = State.readHeader (s.box m) (State.parseSlot slot) →
      c = { seq := s.pl.nextSeq, hdr := h, req := s.requestOf m h slot request, stage := .fenced, fromReserve := reserve } → s.headerCheck m c = none →
      t = s.fetch m slot request 0 reserve →
    ((t.box m).cmdHead = ((s.box m).cmdHead + 1) % 512 ∧ (t.box m).cFetched = (s.box m).cFetched + 1 ∧ t.pl.rot = (m.val + 1) % 17 ∧
      (t.box m).inflight = [{ c with stage := .ready }]) ∧
    (∀ k, k ≠ m → (t.box k).cmdHead = (s.box k).cmdHead ∧ (t.box k).inflight = (s.box k).inflight))

/-- The sys commands complete: sys.hello settles the highest common version, sys.subscribe sets, adds or clears event bits, sys.info, sys.echo and sys.counters read, sys.goodbye ends the session (03 R87, R88, R100, R103). -/
def Obligations.SysCommandsComplete : Prop :=
  ∀ (s : State) (m : Mbx) (c : Cmd),
    (∀ (lo hi : U8) (v : Nat) (u t : State), s.takes m (rowSysHello m lo hi) c 24 = true → commonVersion lo.toNat (min hi.toNat u.pledomMax) = some v →
      u = (if (s.box m).session.isSome then s.endSession m else s) →
      t = u.setBox m { u.box m with session := some (BitVec.ofNat 8 v), subs := [], helloSeen := true, held := [] } →
      exec (.sysHello m lo hi) s =
        .next ((if 0x20 ≤ v then (u.box m).held.foldl (fun s e => s.raiseTo m e.opcode.toNat e.status e.result) t else t).answered m 0x0000 c
          { status := if (u.box m).helloSeen = false ∧ u.boot.fellBack = true ∧ 0x20 ≤ v then St.patternUnproven else St.ok, data := helloReply u m v })) ∧
    (∀ (lo hi : U8) (u : State), s.takes m (rowSysHello m lo hi) c 24 = true → u = (if (s.box m).session.isSome then s.endSession m else s) →
      commonVersion lo.toNat (min hi.toNat u.pledomMax) = none →
      exec (.sysHello m lo hi) s = .next (u.answered m 0x0000 c { status := St.badVersion, data := le 1 0 ++ le 1 0x14 ++ le 1 u.pledomMax ++ le 21 0 })) ∧
    (∀ (family mode : U8) (select : U32), s.takes m (rowSysSubscribe m family mode select) c 4 = true →
      ∃ new, new = (if mode = 0 then select else if mode = 1 then (tget (s.box m).subs family.toNat).getD 0 ||| select
                    else (tget (s.box m).subs family.toNat).getD 0 &&& ~~~ select) ∧
      exec (.sysSubscribe m family mode select) s =
        .next ((s.setBox m { s.box m with subs := tput (s.box m).subs family.toNat new }).answered m 0x0001 c
          (Rep.ok (le 4 (new ||| familyBits family.toNat c.hdr.version.toNat true).toNat)))) ∧
    (s.takes m (rowSysInfo m) c 24 = true →
      exec (.sysInfo m) s = .next (s.answered m 0x0002 c (Rep.ok (le 2 0x9640 ++ le 1 0xC0 ++ le 1 (bit s.keep.runB) ++ le 4 s.fwRelease ++ le 1 m.val ++
        le 1 (if m = 16 then 255 else m.val) ++ le 1 (bit s.pins.twinSide) ++ le 1 (((s.box m).session).elim 0 (·.toNat)) ++ le 2 s.readinessNow ++
        le 2 s.tokensFree ++ le 8 Config.serial.toNat)))) ∧
    (∀ data, s.takes m (rowSysEcho data) c 24 = true → exec (.sysEcho m data) s = .next (s.answered m 0x0003 c (Rep.ok (fit 24 data)))) ∧
    (s.takes m (rowSysGoodbye m) c 0 = true → exec (.sysGoodbye m) s = .next ((s.endSession m).answered m 0x0004 c Rep.ok)) ∧
    (∀ clear, s.takes m (rowSysCounters m clear) c 24 = true →
      exec (.sysCounters m clear) s = .next ((if clear then s.setBox m { s.box m with
          cFetched := 0, cCompleted := 0, cEvents := 0, cLost := 0, cTokenWaits := 0, cBadPec := 0 } else s).answered m 0x0005 c
        (Rep.ok (le 4 (s.box m).cFetched.toNat ++ le 4 (s.box m).cCompleted.toNat ++ le 4 (s.box m).cEvents.toNat ++ le 4 (s.box m).cLost.toNat ++
          le 4 (s.box m).cTokenWaits.toNat ++ le 4 (s.box m).cBadPec.toNat))))

/-- A completion entry: a command that was not cut off, on a mailbox with a free position and nothing waiting, gets one entry at the completion position with its TAG, its OPCODE and the status; a reply of at most 24 bytes is its result, and a longer one lies in the reply buffer with its length as result word 0; the position advances by one modulo 65,536 (03 R82, R83). -/
def Obligations.CompletionWritesOneEntry : Prop :=
  ∀ (s : State) (m : Mbx) (c : Cmd) (r : Rep), c.orphan = false → (s.box m).waiting = [] → (s.box m).free ≠ 0 → (s.box m).lostCount = 0 →
    ((s.complete m c r).box m).ring = (s.box m).ring ++ [{
      tag := c.hdr.tag, status := if c.hdr.version = 0x14 then status14 r.status else r.status, opcode := c.hdr.opcode,
      result := if 24 < r.data.length then fit 24 (le 4 r.data.length) else fit 24 r.data,
      head := (s.box m).cmdHead, phase := (s.box m).pos / (s.box m).size % 2 == 0 }] ∧
    ((s.complete m c r).box m).pos = ((s.box m).pos + 1) % 65536 ∧
    ((s.complete m c r).box m).replyBuf = (if 24 < r.data.length then r.data else (s.box m).replyBuf)

/-! ### Time (09) -/

/-- The time commands complete: a base is enabled, disabled and given its source; a relative step moves it in one tick and disarms it, an absolute one waits for its edge; its rate, its step lock, PPS and PTP are set; time.read and time.query report (09 R243 to R249).
What happens to the time bases and the PPS pins: a rollover advances to the next whole second; a servo comparison slews its base and counts the run towards LOCKED, and without its source a base holds over; an edge of PPS_IN is stamped in TB0 and TB1, and one too soon is counted; PPS_OUT rises when due and falls after its width; the reference clock comes and goes; an absolute step whose edge does not come times out (09 R243 to R248, 19).
PTP on an interface: a better announce makes it the one slave, a delay response settles offset and path with the asymmetry taken into account, a master answers delay requests and sends at its intervals, and a slave whose master falls silent gives it up (09 R249). -/
def Obligations.TimeActs : Prop :=
  (∀ (s : State) (m : Mbx) (c : Cmd),
    (∀ (base source trackS : U8) (b : Fin 4) (t u : State), baseOf base = some b → s.takes m (rowTimeBase base true source trackS) c 0 = true →
      t = s.modBase b (fun t => { (if t.enabled then t else t.start) with source, trackS := if trackS = 0 then 16 else trackS.toNat, lockRun := 0 }) →
      u = (if (s.base b).enabled then t else t.repps b) →
      exec (.timeBase m base true source trackS) s = .next ((if source = (s.base b).source then u else u.setServo b .free).answered m 0x0800 c Rep.ok)) ∧
    (∀ (base source trackS : U8) (b : Fin 4), baseOf base = some b → s.takes m (rowTimeBase base false source trackS) c 0 = true →
      exec (.timeBase m base false source trackS) s =
        .next (((s.modBase b (fun t => { t.stop with source, trackS := if trackS = 0 then 16 else trackS.toNat })).setServo b .free).answered m 0x0800 c Rep.ok)) ∧
    (∀ (base : U8) (value : U64) (frac : U32) (b : Fin 4), baseOf base = some b → s.takes m (rowTimeStep base 0 value frac m) c 16 = true →
      exec (.timeStep m base 0 value frac) s =
        .next (((s.stepTo b (stepTarget (s.base b) value frac).toNat).mirrorTime b).answered m 0x0801 c
          (Rep.ok (((s.stepTo b (stepTarget (s.base b) value frac).toNat).mirrorTime b).baseBytes b)))) ∧
    (∀ (base : U8) (value : U64) (frac : U32) (b : Fin 4), baseOf base = some b → s.accepts m (rowTimeStep base 1 value frac m) c = true →
      exec (.timeStep m base 1 value frac) s =
        .next ((s.modTime (fun t => { t with absStep := some { mbx := m, seq := c.seq, base := b.val, sec := value, until_ := s.clk + 3 * State.ticksPerS / 2 } })).acting m 0x0801 c Rep.goesOn)) ∧
    (∀ (base : U8) (adj : U32) (b : Fin 4), baseOf base = some b → s.takes m (rowTimeRate base adj) c 8 = true →
      exec (.timeRate m base adj) s =
        .next (((s.modBase b (fun t => t.rate adj.toInt)).mirrorTime b).answered m 0x0802 c
          (Rep.ok (le 1 ((s.base b).rate adj.toInt).incNs.toNat ++ le 3 0 ++ le 4 ((s.base b).rate adj.toInt).incFrac.toNat)))) ∧
    (∀ (base : U8) (b : Fin 4), baseOf base = some b → s.takes m (rowTimeUnlock base m) c 0 = true →
      exec (.timeUnlock m base) s = .next ((s.modBase b (fun t => { t with armed := true })).answered m 0x0803 c Rep.ok)) ∧
    (s.takes m rowTimeRead c 64 = true →
      exec (.timeRead m) s = .next (s.answered m 0x0804 c (Rep.ok (s.baseBytes 0 ++ s.baseBytes 1 ++ s.baseBytes 2 ++ s.baseBytes 3)))) ∧
    (∀ (outEnable inEnable : Bool) (outBase : U8) (widthMs : U16) (offsetNs : U32) (b : Fin 4), baseOf outBase = some b →
      s.takes m (rowTimePps outEnable inEnable outBase widthMs offsetNs) c 0 = true →
      exec (.timePps m outEnable inEnable outBase widthMs offsetNs) s =
        .next (((s.modTime (fun t => { t with pps := { t.pps with outEnable, inEnable, outBase := outBase.toNat, widthMs := if widthMs = 0 then 100 else widthMs.toNat, offsetNs := offsetNs.toInt } })).repps b).answered m 0x0805 c Rep.ok)) ∧
    (∀ q : PtpReq, s.takes m (rowTimePtp q) c 0 = true → q.profile = 0 →
      exec (.timePtp m q) s = .next ((s.ptpOff q.iface.toNat).answered m 0x0806 c Rep.ok)) ∧
    (∀ q : PtpReq, s.takes m (rowTimePtp q) c 0 = true → q.profile ≠ 0 →
      exec (.timePtp m q) s =
        .next ((((s.ptpOff q.iface.toNat).groupRef (fin2 (q.iface.toNat / 4)) (ptpGroup q) true).modIface q.iface.toNat
          (fun g => { g with ptp := some { req := q, portId := (le 8 Config.serial.toNat).reverse ++ (le 2 (q.iface.toNat + 1)).reverse, lastAnnounce := ((s.ptpOff q.iface.toNat).groupRef (fin2 (q.iface.toNat / 4)) (ptpGroup q) true).clk } })).answered m 0x0806 c Rep.ok)) ∧
    (s.takes m rowTimeQuery c 96 = true →
      exec (.timeQuery m) s = .next (s.answered m 0x0807 c (Rep.ok
        ((([0, 1, 2, 3] : List (Fin 4)).flatMap (fun i => le 1 (s.base i).source.toNat ++ le 1 (servoCode (s.base i).servo) ++ le 2 (bit (s.base i).armed))) ++
          le 8 s.net.gm.toNat ++ leI 8 s.net.ptpOffsetPs ++ leI 8 s.net.ptpPathPs ++
          le 2 s.net.stepsRemoved.toNat ++ le 1 (s.net.slaveIface.getD 0xFF) ++ le 1 0 ++ le 4 s.time.pps.ignored.toNat ++
          (List.range 8).flatMap (fun i => le 1 (match (tget s.net.ifaces i).bind (·.ptp) with | some p => ptpCode p.state | none => 0) ++ le 3 0) ++
          leI 8 s.net.utcOffset ++ le 8 0))))) ∧
  (∀ s : State,
    (∀ b : Fin 4, (s.base b).enabled = true → s.boot.stage ≠ .held → exec (.secondsRollover b) s = .next (s.advance (s.base b).toRollover)) ∧
    (∀ (b : Fin 4) (phase : Int) (present : Bool), (s.base b).enabled = true → (s.base b).source ≠ 0 → s.heldToPrimary b.val = false →
      sourcePresent s b present = true → (s.base b).armed = false →
      exec (.servoComparison b phase present) s =
        .next ((((s.modBase b (fun t => t.rate (servoAdj t.trackS phase))).mirrorTime b).modBase b
            (fun t => { t with lockRun := if phase.natAbs < 100 then (s.base b).lockRun + 1 else 0, lastPhaseNs := phase,
                               lastSource := ((s.modBase b (fun t => t.rate (servoAdj t.trackS phase))).mirrorTime b).chipNs })).setServo b
          (if 16 ≤ (if phase.natAbs < 100 then (s.base b).lockRun + 1 else 0) then .locked else .acquiring)).fin) ∧
    (∀ (b : Fin 4) (phase : Int) (present : Bool), (s.base b).enabled = true → (s.base b).source ≠ 0 → s.heldToPrimary b.val = false →
      sourcePresent s b present = false → (s.base b).servo ≠ .free →
      exec (.servoComparison b phase present) s = .next (s.setServo b .holdover).fin) ∧
    (s.time.pps.inEnable = true → s.time.pps.lastIn = none → s.time.absStep = none →
      exec .ppsInEdge s =
        .next ((s.modTime (fun t => { t with pps := { t.pps with lastIn := some s.clk, stamp := t.bases.map TimeBase.units, edges := t.pps.edges + 1 } })).raise 0x0880 St.ok
          (le 8 (s.base 0).sec.toNat ++ le 4 (s.base 0).ns.toNat ++ le 8 (s.base 1).sec.toNat ++ le 4 (s.base 1).ns.toNat)).fin) ∧
    (∀ t, s.time.pps.inEnable = true → s.time.pps.lastIn = some t → s.clk < t + 500 * State.ticksPerMs →
      exec .ppsInEdge s = .next (s.modTime (fun t => { t with pps := { t.pps with ignored := t.pps.ignored + 1 } }))) ∧
    (∀ b, ppsDue s = true → baseOf (BitVec.ofNat 8 s.time.pps.outBase) = some b →
      exec .ppsOutEdge s =
        .next (({ s with pins := { s.pins with ppsOut := true }, time := { s.time with pps := { s.time.pps with lastOut := some s.clk } } } : State).repps b)) ∧
    (∀ t, s.time.pps.lastOut = some t → t + s.time.pps.widthMs * State.ticksPerMs ≤ s.clk →
      exec .ppsOutPulseEnd s = .next { s with pins := { s.pins with ppsOut := false } }) ∧
    (∀ hz ms : Nat, tsRefclkOk hz = true → 100 ≤ ms → exec (.tsRefclkPresent hz ms) s = .next { s with time := { s.time with tsRefclk := true } }) ∧
    (∀ quietNs : Nat, 10000 ≤ quietNs → exec (.tsRefclkLost quietNs) s = .next { s with time := { s.time with tsRefclk := false } }) ∧
    (∀ a, s.time.absStep = some a → a.until_ ≤ s.clk →
      exec .absoluteStepTimeout s = .next (({ s with time := { s.time with absStep := none } } : State).finish a.mbx a.seq (Rep.fail St.timeout)).fin)) ∧
  (∀ (s : State) (i : U8) (p : PtpPort), (s.iface i.toNat).bind (·.ptp) = some p →
    (∀ gm steps utc, p.req.role ≠ 1 → (s.ptpStamps (fin2 (i.toNat / 4))).net.slaveIface = none →
      exec (.ptpMessage i (.announce gm true steps utc)) s =
        .next (((s.ptpStamps (fin2 (i.toNat / 4))).modNet (fun n => { n with slaveIface := some i.toNat, gm, stepsRemoved := steps, utcOffset := utc })).modPtp i.toNat
          (fun p => { p with state := if p.state = PtpState.slave then PtpState.slave else PtpState.uncalibrated,
                             lastAnnounce := ((s.ptpStamps (fin2 (i.toNat / 4))).modNet (fun n => { n with slaveIface := some i.toNat, gm, stepsRemoved := steps, utcOffset := utc })).clk })).fin) ∧
    (∀ off path g, (s.iface i.toNat) = some g → (s.ptpStamps (fin2 (i.toNat / 4))).iface i.toNat = some g → p.state = .slave ∨ p.state = .uncalibrated →
      exec (.ptpMessage i (.delayResp off path)) s =
        .next (((s.ptpStamps (fin2 (i.toNat / 4))).modNet (fun n => { n with ptpOffsetPs := off - g.asymPs.toInt, ptpPathPs := path + g.asymPs.toInt })).modPtp i.toNat
          (fun p => { p with state := .slave })).fin) ∧
    (exec (.ptpMessage i .unsupported) s = .next ((s.ptpStamps (fin2 (i.toNat / 4))).modPtp i.toNat (fun p => { p with unsupported := p.unsupported + 1 })).fin) ∧
    (p.state = .master → exec (.ptpMessage i .delayReq) s = .next ((s.ptpStamps (fin2 (i.toNat / 4))).ptpSend i.toNat 54 false 0).fin) ∧
    (p.state = .master → exec (.ptpIntervalTimer i 0) s = .next ((s.ptpStamps (fin2 (i.toNat / 4))).ptpSend i.toNat 64 false 0)) ∧
    (p.state = .master → exec (.ptpIntervalTimer i 1) s = .next ((s.ptpStamps (fin2 (i.toNat / 4))).ptpSend i.toNat 44 true 0)) ∧
    (p.state = .slave → exec (.ptpIntervalTimer i 2) s = .next ((s.ptpStamps (fin2 (i.toNat / 4))).ptpSend i.toNat 44 true 1)) ∧
    (p.state ≠ .master → p.lastAnnounce + ptpTimeout p.req * announceTicks p.req ≤ s.clk →
      exec (.announceTimeout i) s =
        .next ((s.loseMaster i.toNat).modPtp i.toNat (fun p => { p with state := if p.req.role = 2 then PtpState.listening else PtpState.master })).fin))

/-- The bases count exactly: n ticks add n increments and lose no fraction, and ticks taken together are ticks taken in turn; a rate correction leaves the value where it is and sets the increment to the nearest unit of 3.2 ns scaled by the correction (09 R243, R246). -/
def Obligations.TimeBasesCountExactly : Prop :=
  ∀ (b : TimeBase), b.ns.toNat < 1000000000 →
    (∀ n, b.enabled = true → (b.tick n).units = (b.units + n * b.inc) % (18446744073709551616 * secUnits)) ∧
    (∀ j k, (b.tick j).tick k = b.tick (j + k)) ∧
    (∀ n, b.enabled = false → b.tick n = b) ∧
    (∀ adj : Int, -32768000 ≤ adj → adj ≤ 32768000 →
      (b.rate adj).units = b.units ∧ (b.rate adj).enabled = b.enabled ∧
      -32768000000 ≤ 65536000000 * (((b.rate adj).inc : Int) - 13743895347) - 13743895347 * adj ∧
      65536000000 * (((b.rate adj).inc : Int) - 13743895347) - 13743895347 * adj ≤ 32768000000)

/-! ### Network ports and the scheduler (09, 10) -/

/-- The net commands complete: a port is split anew, an interface set, an address, a group and a route added or removed, and the counters read, cleared where asked (09 R226, R227, R235, R236, R238).
Links, neighbours and the queues in time: a link rises and falls with its event, a neighbour is resolved, a frame joins its queue, aged frames leave a leg's queue, a gate list takes over at its start and its entry follows the cycle, and one sample is taken of the next leg and the next level; a port's initialisation completes its command (09 R226, R227, R234, 10 R250, R258, R262, R264, R266).
The sched commands complete: a port's levels, a leg's queue and policer, and a gate list are set, a leg's and a level's counters are read and cleared where asked (10 R251, R253, R255, R257, R258, R260, R262, R264, R267). -/
def Obligations.NetworkActs : Prop :=
  (∀ (s : State) (m : Mbx) (c : Cmd),
    (∀ port split : U8, s.takes m (rowNetPort port split m) c 0 = true → (s.port (fin2 port.toNat)).split = split.toNat →
      exec (.netPort m port split) s = .next (s.answered m 0x0700 c Rep.ok)) ∧
    (∀ port : U8, s.takes m (rowNetPort port 0 m) c 0 = true → (s.port (fin2 port.toNat)).split ≠ 0 →
      exec (.netPort m port 0) s = .next ((s.resplit (fin2 port.toNat) 0).answered m 0x0700 c Rep.ok)) ∧
    (∀ port split : U8, s.accepts m (rowNetPort port split m) c = true → (s.port (fin2 port.toNat)).split ≠ split.toNat → split ≠ 0 →
      exec (.netPort m port split) s =
        .next (((s.resplit (fin2 port.toNat) split.toNat).modPort (fin2 port.toNat) (fun q => { q with initFor := some (m, c.seq) })).acting m 0x0700 c Rep.goesOn)) ∧
    (∀ (q : IfaceReq) (t : State), s.takes m (rowNetIface q) c 0 = true →
      t = s.modIface q.iface.toNat (fun f =>
        if q.enable then f.set_ q c.hdr.version (s.splitOf q.iface.toNat)
        else { f.set_ q c.hdr.version (s.splitOf q.iface.toNat) with link := false, pauseDue := none }) →
      exec (.netIface m q) s =
        .next ((if (s.iface q.iface.toNat).any (·.enable) = q.enable then t else t.linkEvent q.iface.toNat).answered m 0x0701 c Rep.ok)) ∧
    (∀ (iface kind mode af : U8) (a : U128) (n : U8), s.takes m (rowNetAddr m iface kind mode af a n) c 0 = true →
      exec (.netAddr m iface kind mode af a n) s = .next ((doNetAddr iface kind mode af a n s).answered m 0x0702 c Rep.ok)) ∧
    (∀ (port mode : U8) (a : BitVec 48), s.takes m (rowNetGroup m port mode a) c 4 = true →
      exec (.netGroup m port mode a) s =
        .next ((doNetGroup port mode a s).answered m 0x0703 c (Rep.ok (le 2 (groupBin a) ++ le 2 ((doNetGroup port mode a s).binCount (fin2 port.toNat) (groupBin a)))))) ∧
    (∀ (iface mode af n : U8) (pfx gw : U128), s.takes m (rowNetRoute m iface mode af n pfx gw) c 0 = true →
      exec (.netRoute m iface mode af n pfx gw) s = .next ((doNetRoute iface mode af n pfx gw s).answered m 0x0704 c Rep.ok)) ∧
    (∀ (iface : U8) (f : Iface), s.takes m (rowNetQuery iface false) c 184 = true → f = (s.iface iface.toNat).getD {} →
      exec (.netQuery m iface false) s =
        .next (s.answered m 0x0705 c (Rep.ok (le 1 (s.linkState iface.toNat) ++ le 1 (s.speedCode iface.toNat) ++ le 2 (bit f.pauseDue.isSome + 2 * bit (f.paused s.now)) ++
          le 4 f.occupancy ++ le 4 f.peak ++ le 4 0 ++ f.counters.toList.flatMap (fun c => le 8 c.toNat) ++ le 8 (s.port (fin2 (iface.toNat / 4))).tsqOverflow.toNat)))) ∧
    (∀ (iface : U8) (f : Iface), s.takes m (rowNetQuery iface true) c 184 = true → f = (s.iface iface.toNat).getD {} →
      exec (.netQuery m iface true) s =
        .next (((s.modIface iface.toNat (fun f => { f with counters := Vector.replicate 20 0, peak := f.occupancy })).modPort (fin2 (iface.toNat / 4)) (fun q => { q with tsqOverflow := 0 })).answered m 0x0705 c
          (Rep.ok (le 1 (s.linkState iface.toNat) ++ le 1 (s.speedCode iface.toNat) ++ le 2 (bit f.pauseDue.isSome + 2 * bit (f.paused s.now)) ++
          le 4 f.occupancy ++ le 4 f.peak ++ le 4 0 ++ f.counters.toList.flatMap (fun c => le 8 c.toNat) ++ le 8 (s.port (fin2 (iface.toNat / 4))).tsqOverflow.toNat))))) ∧
  (∀ s : State,
    (∀ (i : U8) (f : Iface), s.iface i.toNat = some f → f.enable = true → f.link = false →
      exec (.linkUp i) s = .next ((s.modIface i.toNat (fun f => { f with link := true })).linkEvent i.toNat).fin) ∧
    (∀ (i : U8) (f : Iface), s.iface i.toNat = some f → f.link = true →
      exec (.linkDown i) s = .next ((s.modIface i.toNat (fun f => { f with link := false, pauseDue := none })).linkEvent i.toNat).fin) ∧
    (∀ (i : U8) (a : U128) (mac : Option (BitVec 48)), ∃ t : State, exec (.neighbourRetry i a mac) s = .next t ∧
      (i.toNat < 8 → t = s.modIface i.toNat (fun f => { f with neigh := (if f.neigh.any (fun y => y.1 == a) then f.neigh.map (fun x => if x.1 = a then (a, mac) else x)
        else if f.neigh.length < 4096 then f.neigh ++ [(a, mac)] else f.neigh) })) ∧
      (i.toNat = 16 ∨ i.toNat = 17 → t = s.modAcc (fin2 i.toNat) (fun f => { f with neigh := (if f.neigh.any (fun y => y.1 == a) then f.neigh.map (fun x => if x.1 = a then (a, mac) else x)
        else if f.neigh.length < 4096 then f.neigh ++ [(a, mac)] else f.neigh) })) ∧
      (8 ≤ i.toNat → i.toNat ≠ 16 → i.toNat ≠ 17 → t = s)) ∧
    (∀ (p : Fin 2) (m : Mbx) (seq : Nat), (s.port p).initFor = some (m, seq) →
      exec (.netPortInitDone p) s = .next ((s.modPort p (fun q => { q with initFor := none })).finish m seq Rep.ok).fin) ∧
    (∀ t : TxFrame, t.level = none →
      exec (.legQueueEnqueue t) s = .next (s.pushLeg t.leg { length := t.length, stampNs := s.chipNs, leg := t.leg, ident := none, resolved := if thas s.model.legs t.leg then (s.legLink t.leg).isSome else t.nextHopResolved, dst := if thas s.model.legs t.leg then s.legLink t.leg else none })) ∧
    (∀ (t : TxFrame) k, t.level = some k →
      exec (.legQueueEnqueue t) s = .next (s.pushFifo t.iface.toNat (if s.isEmergency t.leg ∧ t.leg ≠ 0xFFFF then 1 else k)
        { length := t.length, stampNs := s.chipNs, leg := t.leg, ident := none, resolved := if thas s.model.legs t.leg then (s.legLink t.leg).isSome else t.nextHopResolved, dst := if thas s.model.legs t.leg then s.legLink t.leg else none })) ∧
    (∀ l : Nat, exec (.qdropAge l) s = .next (s.dropAged l (s.legQ l).frames.length)) ∧
    (∀ (p : Fin 2) (g : GateList), (s.port p).running = some g → g.cycleNs ≠ 0 → g.startNs ≤ s.chipNs →
      exec (.gateEntryInterval p) s = .next (s.modPort p (fun q => { q with
        entry := (g.windows.filter (fun w => decide (w.2.1 ≤ (s.chipNs - g.startNs) % g.cycleNs))).length }))) ∧
    (∀ (p : Fin 2) (g : GateList), (s.port p).pending = some g → g.startNs ≤ s.chipNs →
      exec (.gateListTakeover p) s =
        .next ((s.modPort p (fun q => { q with running := if g.enable then some g else none, pending := none, entry := 0 })).gateEvent p
          (if g.basted ∧ g.n ≠ 0 then St.startedLate else St.ok) g g.n).fin) ∧
    (∃ t : State, exec .latencySample s = .next t ∧ t.net.sampleLeg = (s.net.sampleLeg + 1) % 65536 ∧ t.net.sampleLevel = (s.net.sampleLevel + 1) % 16 ∧
      (∀ l, l ≠ s.net.sampleLeg → t.legQ l = s.legQ l) ∧
      (t.legQ s.net.sampleLeg).depthHist = (s.legQ s.net.sampleLeg).depthHist.bump (binsOf (s.legQ s.net.sampleLeg).frames s.chipNs).1 ∧
      (t.legQ s.net.sampleLeg).sojournHist = (s.legQ s.net.sampleLeg).sojournHist.bump (binsOf (s.legQ s.net.sampleLeg).frames s.chipNs).2)) ∧
  (∀ (s : State) (m : Mbx) (c : Cmd),
    (∀ (port : U8) (change : BitVec 9) (levels : List LevelReq), s.takes m (rowSchedPort m port change levels) c 0 = true →
      exec (.schedPort m port change levels) s = .next ((doSchedPort port change levels s).answered m 0x0900 c Rep.ok)) ∧
    (∀ q : SchedLegReq, s.takes m (rowSchedLeg m q) c 0 = true →
      exec (.schedLeg m q) s = .next ((doSchedLeg (schedLegAt q c.hdr.version) s).answered m 0x0901 c Rep.ok)) ∧
    (∀ (q : GateReq) (id : U16) (u : State), s.takes m (rowSchedGate m q) c 20 = true → s.takeListId (fin2 q.port.toNat) = (id, u) →
      exec (.schedGate m q) s =
        .next ((u.pend (fin2 q.port.toNat) (gateListOf q id false u.chipNs)).answered m 0x0902 c
          { status := if (gateListOf q id false u.chipNs).n = 0 then St.ok else St.startedLate,
            data := le 2 id.toNat ++ le 2 0 ++ le 4 (gateListOf q id false u.chipNs).n ++ le 8 ((gateListOf q id false u.chipNs).startNs / 1000000000) ++
              le 4 ((gateListOf q id false u.chipNs).startNs % 1000000000) })) ∧
    (∀ (leg : U16) (clear : Bool), s.takes m (rowSchedQuery leg clear) c 160 = true →
      exec (.schedQuery m leg clear) s =
        .next ((if clear then s.modLegQ leg.toNat (fun q => { q with qdropFull := 0, qdropAge := 0, oversize := 0, policeDrop := 0, policeCtrlDrop := 0, depthHist := noHist, sojournHist := noHist }) else s).answered m 0x0903 c
          (Rep.ok (le 4 (queued (s.legQ leg.toNat).frames) ++ le 4 (s.legQ leg.toNat).rateKbps ++ le 4 (s.legQ leg.toNat).qdropFull.toNat ++
            le 4 (s.legQ leg.toNat).qdropAge.toNat ++ le 4 (s.legQ leg.toNat).oversize.toNat ++ le 4 (s.legQ leg.toNat).policeDrop.toNat ++
            le 4 (s.legQ leg.toNat).policeCtrlDrop.toNat ++ le 4 0 ++ histBytes (s.legQ leg.toNat).depthHist (s.legQ leg.toNat).sojournHist)))) ∧
    (∀ (port : U8) (k : Fin 8), s.takes m (rowSchedPortq port (BitVec.ofNat 8 k.val) false) c 160 = true →
      exec (.schedPortq m port (BitVec.ofNat 8 k.val) false) s =
        .next (s.answered m 0x0904 c (Rep.ok (
          le 4 (total (s.net.ifaces.filter (fun f => f.1 / 4 == (fin2 port.toNat).val)) (fun f => queued (f.2.fifos.get k).frames)) ++
          le 2 ((s.port (fin2 port.toNat)).running.elim 0xFFFF (·.id.toNat)) ++ le 2 ((s.port (fin2 port.toNat)).pending.elim 0xFFFF (·.id.toNat)) ++
          le 4 ((s.port (fin2 port.toNat)).drops.get k).toNat ++ le 20 0 ++
          histBytes ((s.port (fin2 port.toNat)).depthHist.get k) ((s.port (fin2 port.toNat)).sojournHist.get k))))) ∧
    (∀ (port : U8) (k : Fin 8) (data : Bytes), s.takes m (rowSchedPortq port (BitVec.ofNat 8 k.val) true) c 160 = true →
      data = le 4 (total (s.net.ifaces.filter (fun f => f.1 / 4 == (fin2 port.toNat).val)) (fun f => queued (f.2.fifos.get k).frames)) ++
          le 2 ((s.port (fin2 port.toNat)).running.elim 0xFFFF (·.id.toNat)) ++ le 2 ((s.port (fin2 port.toNat)).pending.elim 0xFFFF (·.id.toNat)) ++
          le 4 ((s.port (fin2 port.toNat)).drops.get k).toNat ++ le 20 0 ++
          histBytes ((s.port (fin2 port.toNat)).depthHist.get k) ((s.port (fin2 port.toNat)).sojournHist.get k) →
      exec (.schedPortq m port (BitVec.ofNat 8 k.val) true) s =
        .next ((s.modPort (fin2 port.toNat) (fun q => { q with drops := q.drops.set k 0, depthHist := q.depthHist.set k noHist, sojournHist := q.sojournHist.set k noHist })).answered m 0x0904 c (Rep.ok data))))

/-- What one net command leaves alone: an address or a route command changes the network state only, and the address table of every other interface stays (09 R238). -/
def Obligations.NetChangesStayInTheirInterface : Prop :=
  ∀ (s : State) (iface kind mode af n : U8) (a gw : U128) (j : Nat), j ≠ iface.toNat → (j < 8 ∨ iface.toNat < 8 ∨ fin2 j ≠ fin2 iface.toNat) → kind = 1 →
    (∃ net acc, doNetAddr iface kind mode af a n s = { s with net, acc }) ∧
    (doNetAddr iface kind mode af a n s).addrsOf j = s.addrsOf j ∧
    (∃ net acc, doNetRoute iface mode af n a gw s = { s with net, acc }) ∧
    (doNetRoute iface mode af n a gw s).addrsOf j = s.addrsOf j

/-- A leg's queue only ever drops from its head for age: the frames that remain are the last of those that stood there, in order, and the frame at the head is within the sojourn limit (10 R258). -/
def Obligations.AgedFramesLeaveFromTheHead : Prop :=
  ∀ (s t : State) (l : Nat), exec (.qdropAge l) s = .next t → thas s.net.legq l = true →
    (∃ k, (t.legQ l).frames = (s.legQ l).frames.drop k) ∧
    (∀ f rest, (t.legQ l).frames = f :: rest → s.chipNs ≤ f.stampNs + (s.legQ l).sojournMs * 1000000)

/-! ### Received frames and the ciphers (09, 10) -/

/-- A received frame on an enabled interface whose link is up is processed in the order of the table: a bad FCS and a bad length each advance their own counter only; a good frame is counted and learned from, fills the ingress buffer, and is dropped at its failing step with that counter, or goes to its leg. The buffer drains and ends the pause it asked for; a pause that is due is repeated while the occupancy is above LOW_B; what a received pause held is released when it expires; a window of the slow path begins afresh (09 R228 to R232). -/
def Obligations.ReceivedFramesAct : Prop :=
  ∀ (s : State) (i : U8) (g : Iface), i.toNat < 8 → s.iface i.toNat = some g → s.atWork 2 0 = true →
    (∀ f : RxFrame, g.enable = true → g.link = true → f.fcsOk = false → exec (.frameReceive i f) s = .next (s.countIface i.toNat 4)) ∧
    (∀ f : RxFrame, g.enable = true → g.link = true → f.fcsOk = true → f.length < 64 ∨ s.mtuOf i.toNat < f.length →
      exec (.frameReceive i f) s = .next (s.countIface i.toNat 5)) ∧
    (∀ (f : RxFrame) (u : State) (k : Fin 20), g.enable = true → g.link = true → f.fcsOk = true → 64 ≤ f.length → f.length ≤ s.mtuOf i.toNat →
      u = ((s.countIface i.toNat 0).countIface i.toNat 1 f.length).learnMac i.toNat f → ingressOrder u i.toNat f = .drop k →
      (u.iface i.toNat).any (fun g => decide (splitShare (u.splitOf i.toNat) < g.occupancy + f.length)) = false →
      exec (.frameReceive i f) s = .next ((u.fill i.toNat f.length).countIface i.toNat k).fin) ∧
    (∀ (f : RxFrame) (u : State) (l : Nat), g.enable = true → g.link = true → f.fcsOk = true → 64 ≤ f.length → f.length ≤ s.mtuOf i.toNat →
      u = ((s.countIface i.toNat 0).countIface i.toNat 1 f.length).learnMac i.toNat f → ingressOrder u i.toNat f = .leg l →
      (u.iface i.toNat).any (fun g => decide (splitShare (u.splitOf i.toNat) < g.occupancy + f.length)) = false →
      exec (.frameReceive i f) s = .next ((u.fill i.toNat f.length).toLeg l f.length f).fin) ∧
    (∀ n : Nat, g.pauseDue = none →
      exec (.ingressBufferDrain i n) s = .next (s.modIface i.toNat (fun f => { f with occupancy := f.occupancy - n }))) ∧
    (∀ t, g.pauseDue = some t → t ≤ s.now → g.lowB < g.occupancy → exec (.pauseRepeat i) s = .next (s.sendPause i.toNat)) ∧
    (∀ t, g.pauseDue = some t → t ≤ s.now → g.occupancy ≤ g.lowB → exec (.pauseRepeat i) s = .next (s.cancelPause i.toNat)) ∧
    (exec (.receivedPauseExpiry i) s = .next (s.modIface i.toNat (fun f => { f with
      heldUntil := if f.heldUntil ≤ s.now then 0 else f.heldUntil, pfcUntil := f.pfcUntil.map (fun t => if t ≤ s.now then 0 else t) }))) ∧
    (exec (.slowpathWindow i) s = .next (s.modIface i.toNat (fun f => { f with slowCount := 0 })))

/-- The cipher commands complete: a key class keeps what its request leaves at 0, a slot and the counters are read, and a rekey of a DTLS leg starts and answers PENDING (10 R271 to R277).
The keys in time: the fetch of a slot of either space serves the packets that waited for it where the slot unwraps, and a damaged one loses its slot and counts them; a finished rekey takes new keys in the leg's four slots or reports its failure; the previous generation is erased when its time is up (10 R273, R276). -/
def Obligations.CipherActs : Prop :=
  (∀ (s : State) (m : Mbx) (c : Cmd),
    (∀ (cls rekeyS : U8) (check : Bool) (useLimit : U32), s.takes m (rowCipherClass cls check rekeyS useLimit) c 0 = true →
      exec (.cipherClass m cls check rekeyS useLimit) s =
        .next ((s.modCip (fun k => { k with classes := k.classes.set (fin3 cls.toNat) {
          check, rekeyS := if rekeyS = 0 then (s.cip.classes.get (fin3 cls.toNat)).rekeyS else rekeyS.toNat,
          useLimit := if useLimit = 0 then (s.cip.classes.get (fin3 cls.toNat)).useLimit else useLimit.toNat } })).answered m 0x0A00 c Rep.ok)) ∧
    (∀ slot : U32, s.takes m (rowCipherSlot 0 slot) c 32 = true →
      exec (.cipherSlot m 0 slot) s = .next (s.answered m 0x0A01 c (Rep.ok (slotBytes s (s.keySlot slot.toNat))))) ∧
    (∀ slot : U32, s.takes m (rowCipherSlot 1 slot) c 32 = true →
      exec (.cipherSlot m 1 slot) s = .next (s.answered m 0x0A01 c (Rep.ok (slotBytes s (s.keySlot (accessBase + slot.toNat)))))) ∧
    (∀ leg : U16, s.takes m (rowCipherRekey m leg) c 0 = true →
      exec (.cipherRekey m leg) s =
        .next (((s.startRekey leg.toNat).modRekey leg.toNat (fun r => { r with waiting := r.waiting ++ [(m, c.seq)] })).answered m 0x0A02 c Rep.pend)) ∧
    (∀ leg : U16, leg ≠ 0xFFFF → s.takes m (rowCipherStats leg true) c 32 = true →
      exec (.cipherStats m leg true) s =
        .next ((s.modCip (fun q => { q with stats := tdel q.stats leg.toNat })).answered m 0x0A03 c
          (Rep.ok (((tget s.cip.stats leg.toNat).getD {}).c.toList.flatMap (fun x => le 4 x.toNat))))) ∧
    (∀ leg : U16, leg ≠ 0xFFFF → s.takes m (rowCipherStats leg false) c 32 = true →
      exec (.cipherStats m leg false) s =
        .next (s.answered m 0x0A03 c (Rep.ok (((tget s.cip.stats leg.toNat).getD {}).c.toList.flatMap (fun x => le 4 x.toNat))))) ∧
    (∀ clear : Bool, s.takes m (rowCipherStats 0xFFFF clear) c 32 = true →
      exec (.cipherStats m 0xFFFF clear) s =
        .next ((if clear then s.modCip (fun q => { q with totals := {} }) else s).answered m 0x0A03 c (Rep.ok (s.cip.totals.c.toList.flatMap (fun x => le 4 x.toNat)))))) ∧
  (∀ s : State,
    (∀ (access : Bool) (k n : Nat) (u : State) (key : BitVec 256), n = (if access then accessBase + k else k) → s.cip.fetching.filter (fun j => j.slot == n) ≠ [] →
      u = s.modCip (fun c => { c with fetching := c.fetching.filter (fun j => j.slot != n) }) → u.unwrapSlot n = some key →
      exec (.keyCacheFill access k true) s =
        .next ((s.cip.fetching.filter (fun j => j.slot == n)).foldl (fun s j => (s.cipherRun j).1) ((u.modSlot n (fun k => { k with key })).touch n)).fin) ∧
    (∀ (access : Bool) (k n : Nat) (u : State), n = (if access then accessBase + k else k) → s.cip.fetching.filter (fun j => j.slot == n) ≠ [] →
      u = s.modCip (fun c => { c with fetching := c.fetching.filter (fun j => j.slot != n) }) →
      exec (.keyCacheFill access k false) s =
        .next ((s.cip.fetching.filter (fun j => j.slot == n)).foldl (fun s j => s.countCipher (if n < accessBase then some j.leg else none) 4) (u.slotLost n)).fin) ∧
    (∀ l : Nat, (s.rekey l).running = true →
      exec (.rekeyDone l true) s = .next (s.rekeyed l (s.keySlot (4 * l)).suite.toNat (s.keySlot (4 * l)).roc (s.keySlot (4 * l + 1)).roc (s.dtlsKeys l)).fin) ∧
    (∀ l : Nat, (s.rekey l).running = true → exec (.rekeyDone l false) s = .next (s.answerRekey l 5).fin) ∧
    (∀ l : Nat, (s.rekey l).prev ≠ [] → (s.rekey l).prevUntil ≤ s.chipNs →
      exec (.previousKeyErase l) s = .next (s.modRekey l (fun r => { r with prev := [] }))))

/-! ### Sound (05) -/

/-- The mix commands complete: a further mix is made at its index and removed, routes, gains, chains, jitter limits, encodings and speaker limits are set, meters subscribed, and a mix and a source read (05 R125, R126, R134, R140 to R150).
Sound in time: a packet of the chosen payload type enters the jitter buffer of its leg, one that its decoder does not accept is discarded (the model's choice, log 79), another type is counted and its place skipped; concealment of 80 ms starves the buffer; a due gain steps at a crossing of its signal or TIMEOUT_MS after it fell due; a mix-minus encode ends with its overlap; due speaker changes take effect; a speaker window is taken once, for the last delivered tick; due meters are reported three to an event (05 R124, R125, R127, R133, R137, R139, R145, R150). -/
def Obligations.SoundActs : Prop :=
  (∀ (s : State) (m : Mbx) (c : Cmd),
    (∀ (conf mix master : U16) (x : Nat), mixIndex mix s = some x → s.takes m (rowMixCreate conf mix master) c 2 = true →
      exec (.mixCreate m conf mix master) s = .next ((doMixCreate conf.toNat x master.toInt none s).answered m 0x0400 c (Rep.ok (le 2 x)))) ∧
    (∀ mix : U16, s.takes m (rowMixDelete mix) c 0 = true → exec (.mixDelete m mix) s = .next ((doMixDelete (s.nextTick (s.confOfMix mix.toNat)) mix.toNat s).answered m 0x0401 c Rep.ok)) ∧
    (∀ (leg : U16) (mode : U8) (mix gain : U16), s.takes m (rowMixRoute m leg mode mix gain) c 0 = true →
      exec (.mixRoute m leg mode mix gain) s = .next ((s.charging leg.toNat (doMixRoute true (s.nextTick (s.confOfLeg leg.toNat)) leg.toNat mode.toNat mix.toNat gain.toInt)).answered m 0x0402 c Rep.ok)) ∧
    (∀ (q : GainReq) (g : Gain), s.takes m (rowMixGain m q) c 4 = true → s.gainAt (GainReq_point q) = some g →
      exec (.mixGain m q) s =
        .next ((s.modGain (GainReq_point q) (fun g => { g with next := g.next ++ [(s.nextTick (s.gainConf (GainReq_point q)), gainAfter q (c.hdr.version == 0x14) g)] })).answered m 0x0403 c
          (Rep.ok (leI 2 g.cur.1 ++ leI 2 (gainAfter q false g).1)))) ∧
    (∀ (leg : U16) (q : ChainReq), s.takes m (rowMixChain m leg q) c 0 = true →
      exec (.mixChain m leg q) s = .next ((s.charging leg.toNat (doMixChain (s.nextTick (s.confOfLeg leg.toNat)) leg.toNat q)).answered m 0x0404 c Rep.ok)) ∧
    (∀ (source : U32) (lo hi : U16) (fixed : Bool), s.takes m (rowMixJitter m source lo hi fixed) c 0 = true →
      exec (.mixJitter m source lo hi fixed) s = .next ((doMixJitter source lo hi fixed s).answered m 0x0405 c Rep.ok)) ∧
    (∀ (mix kbps : U16) (frameMs : U8) (fec dtx : Bool), s.takes m (rowMixEncode m mix kbps frameMs fec dtx) c 0 = true →
      exec (.mixEncode m mix kbps frameMs fec dtx) s = .next ((doMixEncode (s.nextTick (s.confOfMix mix.toNat)) mix.toNat kbps.toNat frameMs.toNat fec dtx s).answered m 0x0406 c Rep.ok)) ∧
    (∀ (conf : U16) (threshold marginDb : U8), s.takes m (rowMixSpeakers m conf threshold marginDb) c 0 = true →
      exec (.mixSpeakers m conf threshold marginDb) s = .next ((doMixSpeakers conf.toNat threshold marginDb s).answered m 0x0407 c Rep.ok)) ∧
    (∀ q : MeterReq, s.takes m (rowMixMeter m q) c 2 = true → ∃ b : Mailbox,
      exec (.mixMeter m q) s = .next ((s.setBox m b).answered m 0x0408 c (Rep.ok (le 2 b.meters.length))) ∧
      b.meters = metersAfter q (s.box m).meters ∧ b.meterPeriodMs = (if q.periodMs = 0 then (s.box m).meterPeriodMs else q.periodMs.toNat) ∧
      b.meterHoldMs = (if q.holdMs = 0xFFFF then (s.box m).meterHoldMs else q.holdMs.toNat) ∧
      b.meterDecay = (if q.decayDbs = 0 then (s.box m).meterDecay else q.decayDbs.toNat) ∧
      b.ring = (s.box m).ring ∧ b.inflight = (s.box m).inflight ∧ b.session = (s.box m).session) ∧
    (∀ (mix : U16) (q : Mix), tget s.snd.mixes mix.toNat = some q → s.takes m (rowMixQuery mix) c 24 = true →
      exec (.mixQuery m mix) s = .next (s.answered m 0x0409 c (Rep.ok (le 2 q.conf ++ le 1 (q.inputs.filter (fun i : Nat × MixInput => i.2.present)).length ++ le 1 (bit (s.mixTone q)) ++
        (((q.inputs.filter (fun i : Nat × MixInput => i.2.present)).map (fun i : Nat × MixInput => i.1) ++ List.replicate 8 0xFFFF).take 8).flatMap (le 2) ++ leI 2 q.master.cur.1 ++ le 2 0)))) ∧
    (∀ (leg : U16) (d : LegSound), tget s.snd.legs leg.toNat = some d → s.takes m (rowMixSource leg) c 24 = true →
      exec (.mixSource m leg) s = .next (s.answered m 0x040A c (Rep.ok (le 1 (jbCode d.jb.state) ++ le 1 (if s.talker leg.toNat then selCode d.sel else 0xFF) ++
        le 2 d.jb.targetMs ++ le 2 (max 0 (d.jb.depth (s.media (s.confOfLeg leg.toNat))) / 48).toNat ++ leI 1 d.level ++ le 1 (bit d.decoded) ++
        le 4 d.jb.lost.toNat ++ le 4 d.jb.late.toNat ++ le 4 d.jb.concealedMs.toNat ++ le 4 d.jb.unknownPt.toNat))))) ∧
  (∀ s : State,
    (∀ (l : Nat) (p : AudioPkt) (q : Leg) (cf : Conf) (e : CodecEntry), s.legLive l = some q → q.state = .active → LegOffer.sends q.offer 0 = true →
      tget s.model.confs q.conf = some cf → cf.origin.isSome = true → LegOffer.recvOf q.offer 0 = some e →
      (p.pt = e.pt → decodable e p = true →
        exec (.audioPacketArrival l p) s = .next (s.modLegSnd l (fun d => { d with jb := d.jb.arrive (s.arrivalMedia l p.seq q.conf) e.clockHz.toNat p }))) ∧
      (p.pt = e.pt → decodable e p = false → exec (.audioPacketArrival l p) s = .next s) ∧
      (p.pt ≠ e.pt → exec (.audioPacketArrival l p) s = .next (s.modLegSnd l (fun d => { d with jb := d.jb.skip p.seq })))) ∧
    (∀ l d a, tget s.snd.legs l = some d → d.jb.state = .concealing → d.jb.concealFrom = some a → a + 3840 ≤ (s.media (s.confOfLeg l) : Int) →
      exec (.jbConcealLimit l) s = .next { s with snd := { s.snd with legs := tput s.snd.legs l { d with jb := { d.jb with state := .starved, held := [], pcm := [], concealFrom := none } } } }) ∧
    (∀ (p : GainPoint) (g : Gain) (u t : Nat), s.gainAt p = some g → t = s.media (s.gainConf p) → (g.settle t).due = some u → u ≤ t → s.crossesAt p t = true →
      ∃ r, exec (.gainStep p) s = .next r ∧ r.gainAt p = some ((g.settle t).step t) ∧ (∃ snd, r = { s with snd })) ∧
    (∀ (p : GainPoint) (g : Gain) (u t : Nat), s.gainAt p = some g → t = s.media (s.gainConf p) → (g.settle t).due = some u → u + 48 * (g.settle t).timeoutMs ≤ t →
      ∃ r, exec (.gainStepTimeout p) s = .next r ∧ r.gainAt p = some ((g.settle t).step t) ∧ (∃ snd, r = { s with snd })) ∧
    (∀ (c l u : Nat) (d : LegSound), tget s.snd.legs l = some d → d.minusUntil = some u → u ≤ s.media c →
      exec (.encodeOverlapEnd c l) s = .next { s with snd := { s.snd with legs := tput s.snd.legs l { d with minus := false } } }) ∧
    (∀ c : Nat, exec (.speakerChange c) s =
      .next (((s.snd.changes.filter (fun g => g.conf == c && decide (g.p ≤ s.media c))).foldl (fun s g => s.changeSpeakers g)
        (s.modSnd (fun d => { d with changes := d.changes.filter (fun g => !(g.conf == c && decide (g.p ≤ s.media c))) }))).fin)) ∧
    (∀ (c k n : Nat) (q : Conf), tget s.model.confs c = some q → q.origin.isSome = true → q.basted = none → tget s.snd.ticks c = some n → k = n / 10 →
      q.startMedia < 480 * k → (tget s.snd.windows c).any (fun w => decide (k ≤ w)) = false →
      ∃ t, exec (.speakerWindow c k) s = .next t ∧ tget t.snd.windows c = some k ∧ (∃ snd, t = { s with snd })) ∧
    (∀ (m : Mbx) (ws : MeterSet → List (Nat × Nat)) (u : Nat), (s.box m).meters ≠ [] → (s.box m).meterDue = some u → u ≤ s.clk →
      ws = s.meterWins ((s.box m).meterPeriodMs / 10) → ∃ b : Mailbox,
      b.meters = ((s.box m).meterWindows ws).meters ∧ b.meterDue = ((s.box m).meterWindows ws).meterDue.map (fun t => t + b.meterPeriodMs * State.ticksPerMs) ∧
      exec (.meterPeriod m u) s = .next ((threes b.meters.length b.meters).foldl (fun s g => s.raiseTo m 0x0481 St.ok (g.flatMap (b.meterEntry ws))) (s.setBox m b)).fin))

/-- A gain moves to its target in steps of at most 4 eighths with a final step of the remainder, never away from it and never past it; with d eighths to go it arrives at step ceil(d / 4) and not before; mute switches whole at the first step; the next step is due at the sample after, and none once the target is reached (05 R145). -/
def Obligations.GainStepsReachTheirTarget : Prop :=
  ∀ (g : Gain) (t : Nat),
    ((g.step t).cur.1 - g.cur.1).natAbs ≤ 4 ∧
    ((g.step t).target - (g.step t).cur.1).natAbs = (g.target - g.cur.1).natAbs - 4 ∧
    (g.step t).cur.2 = g.muteTarget ∧ (g.step t).target = g.target ∧
    (g.step t).due = (if (g.step t).cur.1 = g.target then none else some (t + 1)) ∧
    (∀ n, ((fun h : Gain => h.step t)^[n] g).cur.1 = g.target ↔ (g.target - g.cur.1).natAbs ≤ 4 * n)

/-- Speaker selection: after n loud windows in a row a QUIET talker contends with ATTACK n up to 30, one quiet window sends it back; a speaker that stays quiet keeps its slot for 79 windows and loses it at the 80th, and a loud window before that makes it a speaker again (05 R134). -/
def Obligations.SpeakerSelectionTakesItsWindows : Prop :=
  (∀ (attack release n : Nat), 0 < n →
    (fun x : SelState × Nat × Nat × Bool => selStep x.1 x.2.1 x.2.2.1 true)^[n] (.quiet, attack, release, false) = (.contending, min n 30, release, false)) ∧
  (∀ (attack release : Nat), selStep .contending attack release false = (.quiet, 0, release, false)) ∧
  (∀ (attack release n : Nat), 0 < n → n < 80 →
    (fun x : SelState × Nat × Nat × Bool => selStep x.1 x.2.1 x.2.2.1 false)^[n] (.speaking, attack, release, false) = (.releasing, attack, n, false) ∧
    selStep .releasing attack n true = (.speaking, attack, 0, false)) ∧
  (∀ (attack release : Nat),
    (fun x : SelState × Nat × Nat × Bool => selStep x.1 x.2.1 x.2.2.1 false)^[80] (.speaking, attack, release, false) = (.quiet, 0, 0, true))

/-! ### Pictures and composition (06, 07) -/

/-- The blend of one sample: the formula in 32-bit arithmetic that never overflows; α = 0 leaves the canvas, α = 1,024 gives the tile, an exact half is rounded up, and the result never exceeds 1,023 (07 R195). -/
def Obligations.BlendIsExact : Prop :=
  ∀ alpha f b : Nat, alpha ≤ 1024 → f ≤ 1023 → b ≤ 1023 →
    (BitVec.ofNat 32 (blend alpha f b) =
      (BitVec.ofNat 32 alpha * BitVec.ofNat 32 f + (1024#32 - BitVec.ofNat 32 alpha) * BitVec.ofNat 32 b + 512#32) >>> 10) ∧
    blend 0 f b = b ∧ blend 1024 f b = f ∧
    (∀ n, 2 * (alpha * f + (1024 - alpha) * b) = 1024 * (2 * n + 1) → blend alpha f b = n + 1) ∧
    blend alpha f b ≤ 1023

/-- The dither: the formula with the matrix of Table 7-2 at the position moved by the phase px = n mod 8 and py = (n div 8) mod 8 (07 R197).
Over any 8 by 8 block of positions, at any picture count, the dithered samples of a 10-bit value up to 1,020 sum to 16 times the value: no level is lost on average (a consequence of 07 R197). -/
def Obligations.DitherFollowsItsMatrix : Prop :=
  (∀ n x y v : Nat, v ≤ 1023 → ∀ d : Nat,
    ((([[0, 32, 8, 40, 2, 34, 10, 42], [48, 16, 56, 24, 50, 18, 58, 26], [12, 44, 4, 36, 14, 46, 6, 38], [60, 28, 52, 20, 62, 30, 54, 22],
        [3, 35, 11, 43, 1, 33, 9, 41], [51, 19, 59, 27, 49, 17, 57, 25], [15, 47, 7, 39, 13, 45, 5, 37], [63, 31, 55, 23, 61, 29, 53, 21]] :
        List (List Nat))[(y + n / 8 % 8) % 8]?).bind (fun row => row[(x + n % 8) % 8]?)) = some d →
    dither n x y v = min 255 ((v >>> 2) + if ((v &&& 3) <<< 4) > d then 1 else 0)) ∧
  (∀ n x y v : Nat, v ≤ 1020 → total (List.range 64) (fun k => dither n (x + k % 8) (y + k / 8) v) = 16 * v)

/-- The layout commands complete: a layout is made at its index, its deletion, tiles, regions and feeds wait for the first slot they may take, a key picture is asked for, and layouts and contexts are read (07 R185 to R206).
Pictures in time: the first packet of a live source sets its context's anchor and opens an access unit, at a cost from the context's bucket, or is dropped and counted where the bucket is short; a segment whose packets are all there opens its picture or adds to it, waits while one is missing, and stalls when two pictures stand before it; a stall resumes; a lane decodes the oldest picture, conceals what no block covers, outputs it and moves the context's state; a deferred request goes out when due, a silent source stalls, and a feed's next picture is coded or repeated (06 R154 to R184).
Composition in time: a due slot is drawn with the changes that wait for it, unless a picture may still be chosen for it; the drawn picture is kept, and the signatures of its safety regions are awaited; the verdict on the signatures decides the slot, and a signature that stays out decides it at its time; the rendered card lets the notice event out (07 R185 to R206). -/
def Obligations.PictureActs : Prop :=
  (∀ (s : State) (m : Mbx) (c : Cmd),
    (∀ (q r : LayoutReq) (y : Nat), r = (if c.hdr.version = 0x14 then { q with standing := false } else q) → layoutIndex r s = some y → s.takes m (rowLayoutCreate m q) c 16 = true →
      exec (.layoutCreate m q) s =
        .next ((doLayoutCreate r y (s.media r.conf.toNat + 96) none s).answered m 0x0500 c
          (Rep.ok (le 2 y ++ le 6 0 ++ le 8 ((tget (doLayoutCreate r y (s.media r.conf.toNat + 96) none s).pic.layouts y).elim 0 (·.firstSlot)))))) ∧
    (∀ y : U16, s.takes m (rowLayoutDelete m y) c 0 = true →
      exec (.layoutDelete m y) s = .next ((s.waitSlot y.toNat (s.media (s.confOfLayout y.toNat) + 96) .delete).answered m 0x0501 c Rep.ok)) ∧
    (∀ q : TileReq, s.takes m (rowLayoutTile m q) c 0 = true →
      exec (.layoutTile m q) s =
        .next (((s.reserveTile q).waitSlot q.layout.toNat (s.media (s.confOfLayout q.layout.toNat) + 96) (.tile q)).answered m 0x0502 c Rep.ok)) ∧
    (∀ (layout : U16) (region overlay : U8) (x y : U16) (r : Nat × Nat × Nat × Nat), s.takes m (rowLayoutSafety m layout region overlay x y) c 4 = true →
      overlay ≠ 0xFF → s.overlayAt { overlay := overlay.toNat, x := x.toNat, y := y.toNat } = some r →
      exec (.layoutSafety m layout region overlay x y) s =
        .next ((s.waitSlot layout.toNat (s.media (s.confOfLayout layout.toNat) + 96) (.region region.toNat (some { overlay := overlay.toNat, x := x.toNat, y := y.toNat }))).answered m 0x0503 c
          (Rep.ok (le 2 r.2.2.1 ++ le 2 r.2.2.2)))) ∧
    (∀ (layout : U16) (region : U8) (x y : U16), s.takes m (rowLayoutSafety m layout region 0xFF x y) c 4 = true →
      s.overlayAt { overlay := 0xFF, x := x.toNat, y := y.toNat } = none →
      exec (.layoutSafety m layout region 0xFF x y) s =
        .next ((s.waitSlot layout.toNat (s.media (s.confOfLayout layout.toNat) + 96) (.region region.toNat none)).answered m 0x0503 c (Rep.ok (le 4 0)))) ∧
    (∀ (q : FeedReq) (f : Nat), feedIndex q s = some f → q.feed = 0xFFFF → s.takes m (rowLayoutFeed m q) c 24 = true →
      exec (.layoutFeed m q) s =
        .next ((newFeed q q.layout.toNat f (s.media (s.confOfLayout q.layout.toNat) + 96) none s).answered m 0x0504 c
          (Rep.ok (le 2 f ++ le 2 0 ++ ((tget (newFeed q q.layout.toNat f (s.media (s.confOfLayout q.layout.toNat) + 96) none s).pic.feeds f).elim [] ssrcBytes))))) ∧
    (∀ (q : FeedReq) (f : Nat) (t : State), feedIndex q s = some f → q.feed ≠ 0xFFFF → s.takes m (rowLayoutFeed m q) c 24 = true →
      t = (s.feedCharge f q).waitSlot q.layout.toNat (s.media (s.confOfLayout q.layout.toNat) + 96) (.feed f q) →
      exec (.layoutFeed m q) s = .next (t.answered m 0x0504 c (Rep.ok (le 2 f ++ le 2 0 ++ ((tget t.pic.feeds f).elim [] ssrcBytes))))) ∧
    (∀ (feed : U16) (g : Feed), tget s.pic.feeds feed.toNat = some g → s.takes m (rowLayoutKeypic m feed) c 0 = true →
      exec (.layoutKeypic m feed) s = .next ((s.wantKey g.ctx (s.media (s.confOfLayout g.layout) + 96) false).answered m 0x0505 c Rep.ok)) ∧
    (∀ (y : U16) (l : Layout), tget s.pic.layouts y.toNat = some l → s.takes m (rowLayoutQuery y) c 24 = true →
      exec (.layoutQuery m y) s = .next (s.answered m 0x0506 c (Rep.ok (le 2 l.conf ++ le 1 (l.tiles.filter (fun p => p.2.content != 0)).length ++
        le 1 (total l.regions (fun p => 2 ^ p.1) + 16 * bit l.card) ++ le 1 l.concealed ++ le 1 l.stale ++ le 2 (s.feedsOf y.toNat).length ++
        le 8 l.lastSlot ++ le 4 l.kpxs ++ le 4 l.cardSlots.toNat)))) ∧
    (∀ (i : U16) (d : DecCtx), tget s.pic.dec i.toNat = some d → s.takes m (rowLayoutContext 0 i) c (24 + 4 * (decCounters d).length) = true →
      exec (.layoutContext m 0 i) s = .next (s.answered m 0x0507 c (Rep.ok (le 1 (State.decCode d.state) ++ le 1 d.lanes.length ++ le 2 0 ++ le 4 d.source ++
        le 8 d.picnum ++ le 4 d.kpxs ++ le 4 d.places.length ++ (decCounters d).flatMap (fun x => le 4 x.toNat))))) ∧
    (∀ (i : U16) (e : EncCtx), tget s.pic.enc i.toNat = some e → s.takes m (rowLayoutContext 1 i) c (24 + 4 * (encCounters e).length) = true →
      exec (.layoutContext m 1 i) s = .next (s.answered m 0x0507 c (Rep.ok (le 1 (bit e.gated) ++ le 1 e.lanes.length ++ le 2 0 ++ le 4 e.feed ++
        le 8 e.picnum ++ le 4 e.kpxs ++ le 4 0 ++ (encCounters e).flatMap (fun x => le 4 x.toNat)))))) ∧
  (∀ s : State,
    (∀ (src i m : Nat) (p : VideoPkt) (d : DecCtx), s.decOf src = some (i, d) → tget s.pic.dec i = some d → s.sourceLive src = true → s.decDark d = false → s.pwr.levelNow < 3 →
      d.anchor = none → d.units = [] → m = s.arrivalMedia (src / 4) p.seq (s.confOfSource src) →
      (p.lumaSamples * 48 ≤ min (d.kpxs * 48000) (d.bucket + d.kpxs * (m - d.bucketAt)) →
        ∃ t e, exec (.videoPacketArrival src p) s = .next t ∧ tget t.pic.dec i = some e ∧ e.lastSeq = some p.seq ∧ e.ssrc = p.ssrc ∧ e.anchor = some (p.ts, (m : Int)) ∧
          e.units = [{ ts := p.ts, capture := captureOf (p.ts, (m : Int)) p.ts, seqs := [p.seq], marked := p.marker, closed := p.marker, snagged := d.snagNext, arrived := m }] ∧
          e.bucket = min (d.kpxs * 48000) (d.bucket + d.kpxs * (m - d.bucketAt)) - p.lumaSamples * 48 ∧ e.cRateDrop = d.cRateDrop ∧ e.picnum = d.picnum) ∧
      (min (d.kpxs * 48000) (d.bucket + d.kpxs * (m - d.bucketAt)) < p.lumaSamples * 48 → d.state ≠ .clean →
        ∃ t e, exec (.videoPacketArrival src p) s = .next t ∧ tget t.pic.dec i = some e ∧ e.lastSeq = some p.seq ∧ e.units.map (·.dropped) = [true] ∧
          e.cRateDrop = d.cRateDrop + 1 ∧ e.picnum = d.picnum + 1)) ∧
    (∀ (i : Nat) (g : SegmentInfo) (d : DecCtx) (e : CodecEntry) (u : AccessUnit) (us : List AccessUnit), tget s.pic.dec i = some d → s.sourceEntry d.source = some e → s.decDark d = false →
      d.units = u :: us → u.ts = g.ts → u.dropped = false → u.spent = false →
      (g.packets.all u.seqs.contains = false → u.closed = false → exec (.segmentDecode i g) s = .next (s.modDec i (fun d => d))) ∧
      (g.packets.all u.seqs.contains = true → d.writing = false → 2 ≤ d.buffer.length →
        exec (.segmentDecode i g) s = .next (s.modDec i (fun d => { d with entropyStall := true }))) ∧
      (∀ w : DecCtx, g.packets.all u.seqs.contains = true → d.writing = true ∨ d.buffer.length < 2 → d.done = none →
        w = (if d.writing then d else d.openPicture e u g.hdr).writeSegment e.codec u g false →
        exec (.segmentDecode i g) s = .next (s.modDec i (fun _ => if g.lastOfUnit then w.endUnit else w)))) ∧
    (∀ (i : Nat) (d : DecCtx), tget s.pic.dec i = some d → d.buffer.length < 2 →
      exec (.entropyStallResume i) s = .next (s.modDec i (fun d => { d with entropyStall := false }))) ∧
    (∀ (i : Nat) (d : DecCtx) (b : BufPic) (rest : List BufPic) (good : List SynRec) (refs : List (Option RefPic)) (sub : Frame), tget s.pic.dec i = some d → d.buffer = b :: rest → b.ended = true →
      s.decDark d = false → s.twin.state ≠ .standby →
      good = (if b.full then [] else ((withinWork (workMax b.hdr) 0 (b.records.filter (fun r => r.kind == .block))).zipIdx.filter (fun p => !b.poisoned.contains p.2)).map (·.1)) →
      refs = (b.hdr.refs ++ b.hdr.lower.toList).map (fun n => d.dpb.find? (fun r => r.name == n)) →
      sub = (tget d.recent b.hdr.spatial.val).getD (greyFrame b.hdr.width b.hdr.height) →
      ∃ t e, exec (.pixelLanePicture i d.picnum) s = .next t ∧ tget t.pic.dec i = some e ∧ e.buffer = rest ∧ e.picnum = (if b.hdr.shown then d.picnum + 1 else d.picnum) ∧ e.cPictures = d.cPictures + 1 ∧
        e.state = decAfter d.state b.hdr.key b.hdr.nonRef (b.full || b.missing || someConcealed b.hdr good) (refs.all (fun r => r.any (·.clean))) ∧
        tget e.recent b.hdr.spatial.val = some (reconstruct b.hdr b.depth good (refs.map (fun r => r.elim sub (·.pixels))) sub)) ∧
    (∀ (src : Nat) (fir pli : Bool), (tget s.pic.keyLast src).all (fun t => decide (t + 24000 ≤ s.media (s.confOfSource src))) = true → tget s.pic.keyDue src = some (fir, pli) →
      exec (.keyRequestDeferred src) s = .next ((s.modPic (fun p => { p with keyDue := tdel p.keyDue src })).sendKey src fir pli)) ∧
    (∀ (i : Nat) (d : DecCtx), tget s.pic.dec i = some d → d.state = .clean ∨ d.state = .damaged → d.lastArrival + d.stallMs * 48 ≤ s.media (s.confOfSource d.source) →
      exec (.decodeStall i) s = .next (s.setDec i .stalled).fin) ∧
    (∀ (i : Nat) (layers : List LayerCode) (e : EncCtx) (f : Feed), tget s.pic.enc i = some e → tget s.pic.feeds e.feed = some f → e.gated = false → f.basted = none →
      s.twin.state ≠ .standby → State.nextCapture e f.req.rate.toNat ≤ s.media ((tget s.pic.layouts f.layout).elim 0 (·.conf)) →
      s.slotReady f.layout (State.nextCapture e f.req.rate.toNat) = true →
      ∃ t g, exec (.encodePicture i layers) s = .next t ∧ tget t.pic.enc i = some g ∧ g.picnum = e.picnum + 1 ∧ g.feed = e.feed)) ∧
  (∀ (s : State) (y : Nat) (l : Layout), tget s.pic.layouts y = some l →
    (∀ (silent : List Nat) (t : State), l.basted = none → l.awaiting = false → l.next ≤ s.media l.conf → l.cells.any (fun p => s.laneDark 10 p.1) = false →
      t = (l.changes.filter (fun c => decide (c.1 ≤ l.next))).foldl (fun t c => t.applyChange y l.next c.2)
        (s.modLayout y (fun l => { l with changes := l.changes.filter (fun c => !decide (c.1 ≤ l.next)) })) →
      (tget t.pic.layouts y).any (fun k => t.slotWaits k l.next) = false →
      exec (.composeSlot y l.next silent) s = .next (drawLayout y l.next silent t).fin) ∧
    (∀ (silent : List Nat) (slot : Nat) (f : Frame), s.drawnRegions l ≠ [] →
      f = drawSlot l.width l.height l.bg (l.tiles.map (fun p => (p.1, p.2, (s.showTile l slot p.1 p.2).content))) (((s.regionRects l).filter (fun r => !l.bad.contains r.1)).map (·.2)) →
      ∃ k, tget (drawLayout y slot silent s).pic.layouts y = some k ∧ k.lastSlot = slot ∧ k.awaiting = true ∧ k.sigUntil = some (slot + 2 * slotDelta l.rate) ∧
        k.picts.head?.map (fun p => (p.slot, p.pixels, p.card)) = some (slot, f, false) ∧
        k.signatures = (((s.regionRects l).filter (fun r => !l.bad.contains r.1)).filter (fun r => !silent.contains r.1)).map
          (fun r => (r.1, crc32c (regionBytes f r.2.2.1 r.2.2.2.1 r.2.2.2.2.1 r.2.2.2.2.2)))) ∧
    (l.awaiting = true → s.twin.state ≠ .standby → s.signed l = true →
      exec (.safetyVerdict y) s = .next ((s.applyVerdict y (s.verdictOf l)).mirror 16).fin) ∧
    (∀ u, l.awaiting = true → s.twin.state ≠ .standby → l.sigUntil = some u → u ≤ s.media l.conf → s.signed l = false →
      exec (.signatureTimeout y) s = .next ((s.applyVerdict y (s.verdictOf l)).mirror 16).fin) ∧
    (l.cardGate = true → exec (.noticeCardRendered y) s = .next ((s.modLayout y (fun l => { l with cardGate := false })).noticeEvent y 0 0xFF 0 l.next).fin))

/-! ### Forwarding (08) -/

/-- The forwarding commands complete: a subscription is entered and follows its receiver and object, with its transcode under MODE 2; an entry is removed, set, retargeted; a source's extensions are set from its next picture on, a leg's line is set; an entry and a line are read (08 R205, R210, R216, R220, R221).
Forwarding in time: a receiver's key request is relayed to the source's sender, or given to the feed's encoder; feedback and a TMMBR reach the leg's line; a packet of a live object, while the forwarder works, is measured and goes through the entries of its object in their order; an entry that waits 200 ms for its switch asks for a key picture; an entry paused too long is transcoded (08 R209, R214, R217, R219, R221). -/
def Obligations.ForwardingActs : Prop :=
  (∀ (s : State) (m : Mbx) (c : Cmd),
    (∀ (r q : SubscribeReq) (e : Nat) (u v : State), q = subscribeAt r c.hdr.version → entryIndex q s = some e → s.takes m (rowFwdSubscribe m r) c 12 = true →
      u = newEntry q e none s → v = doSubscribe e (if q.mode = 2 then (u.buildTranscode e none).getD u else u) →
      exec (.fwdSubscribe m r) s = .next (v.answered m 0x0600 c (Rep.ok (subscribeReply e v)))) ∧
    (∀ entry : U32, s.takes m (rowFwdUnsubscribe m entry) c 0 = true →
      exec (.fwdUnsubscribe m entry) s = .next ((s.dropEntries 8 [entry.toNat]).answered m 0x0601 c Rep.ok)) ∧
    (∀ q : FwdSetReq, s.takes m (rowFwdSet m q) c 0 = true →
      exec (.fwdSet m q) s = .next ((s.modEntry q.entry.toNat (fun f => { f with
        priority := if q.change.getLsbD 0 then q.priority.toNat else f.priority,
        tileW := if q.change.getLsbD 1 then q.tileW.toNat else f.tileW, tileH := if q.change.getLsbD 1 then q.tileH.toNat else f.tileH,
        mode := if q.change.getLsbD 2 then q.mode.toNat else f.mode,
        maxS := if q.change.getLsbD 3 then q.maxSpatial.toNat else f.maxS, maxT := if q.change.getLsbD 3 then q.maxTemporal.toNat else f.maxT,
        rate := if q.change.getLsbD 4 then q.transcodeRate.toNat else f.rate })).answered m 0x0602 c Rep.ok)) ∧
    (∀ entry source : U32, s.takes m (rowFwdRetarget m entry source) c 0 = true →
      exec (.fwdRetarget m entry source) s = .next ((doFwdRetarget entry.toNat source.toNat s).answered m 0x0603 c Rep.ok)) ∧
    (∀ (source : U32) (ddExt fmExt : U8), s.takes m (rowFwdSource m source ddExt fmExt) c 0 = true →
      exec (.fwdSource m source ddExt fmExt) s =
        .next ((s.modFwd (fun w => { w with sources := tput w.sources source.toNat { s.fwdSrc source.toNat with next := (s.fwdSrc source.toNat).next ++ [(0, ddExt, fmExt)] } })).answered m 0x0604 c Rep.ok)) ∧
    (∀ q : FwdLineReq, s.takes m (rowFwdLine m q) c 0 = true →
      exec (.fwdLine m q) s = .next ((s.modLine q.leg.toNat (fun k => { k with
        pacePct := if q.pacePct = 0 then k.pacePct else q.pacePct.toNat, minKbps := if q.minKbps = 0 then k.minKbps else q.minKbps.toNat,
        startKbps := q.startKbps.toNat, upHoldMs := if q.upHoldMs = 0xFFFF then k.upHoldMs else q.upHoldMs.toNat,
        transcodeAfterMs := if q.transcodeAfterMs = 0 then k.transcodeAfterMs else q.transcodeAfterMs.toNat })).answered m 0x0605 c Rep.ok)) ∧
    (∀ (entry : U32) (f : FwdEntry), tget s.fwd.entries entry.toNat = some f → s.takes m (rowFwdQuery entry) c 24 = true →
      exec (.fwdQuery m entry) s = .next (s.answered m 0x0606 c (Rep.ok (le 1 (State.fwdCode f.state) ++ comboByte f.cur ++
        comboByte (if f.state = .waitingUp then f.target else f.cur) ++ le 1 0 ++ le 4 f.object ++ le 4 f.allocKbps ++ le 4 f.switches.toNat ++ le 4 f.late.toNat ++ le 4 f.keyReq.toNat)))) ∧
    (∀ leg : U16, s.takes m (rowFwdLeg leg) c 24 = true →
      exec (.fwdLeg m leg) s = .next (s.answered m 0x0607 c (Rep.ok (le 4 (s.line leg.toNat).e ++ leI 4 (s.line leg.toNat).v ++ le 2 (s.line leg.toNat).loss ++
        le 2 (s.line leg.toNat).qMs ++ le 4 (s.lineCeiling leg.toNat) ++ le 4 (s.line leg.toNat).nacks.toNat ++ le 4 (s.entriesOf leg.toNat).length))))) ∧
  (∀ s : State,
    (∀ (e : Nat) (fir : Bool) (f : FwdEntry), tget s.fwd.entries e = some f → f.basted = none → f.state ≠ .idle → f.state ≠ .transcoding → f.isFeed = false →
      exec (.receiverKeyRequest e fir) s = .next ((s.modEntry e (fun f => { f with keyReq := f.keyReq + 1 })).askKey f.object fir (!fir)).fin) ∧
    (∀ (e : Nat) (fir : Bool) (f : FwdEntry) (k : Nat) (g : Feed), tget s.fwd.entries e = some f → f.basted = none → f.state ≠ .idle →
      (f.state = .transcoding ∧ f.trans.map (·.2) = some k ∨ f.state ≠ .transcoding ∧ f.isFeed = true ∧ k = f.object) → tget s.pic.feeds k = some g →
      exec (.receiverKeyRequest e fir) s = .next ((s.modEntry e (fun f => { f with keyReq := f.keyReq + 1 })).wantKey g.ctx (s.entryMedia f + 48) true).fin) ∧
    (∀ (l : Nat) (r : RtcpReport) (q : Leg), s.legLive l = some q → q.state = .active →
      exec (.rtcpFeedback l r) s = .next (s.modLine l (fun k => { k with reports := k.reports ++ [(s.media q.conf, r)], lastRtcp := s.media q.conf, nacks := k.nacks + BitVec.ofNat 32 r.nacks }))) ∧
    (∀ (l kbps : Nat) (q : Leg), s.legLive l = some q → q.state = .active →
      exec (.tmmbr l kbps) s = .next ((s.modLine l (fun k => { k with tmmbr := kbps, lastRtcp := s.media q.conf })).sendPacket l 2 (some 2) 20 0 0).fin) ∧
    (∀ (o : Nat) (isFeed : Bool) (p : MediaPkt) (m : Nat) (fresh : Bool) (x : Int × FwdSource) (r : FwdSource) (layer : Nat × Nat), s.objectLive isFeed o = true →
      (isFeed && s.feedSilent o p.spatial) = false → s.atWork 2 1 = true → m = s.media (s.objectConf isFeed o) →
      fresh = (s.objectRates isFeed o).lastTs.all (fun t => decide (0 < (p.ts - t).toInt)) →
      x = (if isFeed then ((State.feedCapture ((tget s.pic.feeds o).elim 0 (·.tsBase)) p.ts m), s.objectRates isFeed o) else State.sourceCapture (s.objectRates isFeed o) p m) →
      r = (if fresh then State.settleSource { x.2 with lastTs := some p.ts, sizes := if p.sizes = [] then x.2.sizes else p.sizes } x.1 else x.2) →
      layer = (if isFeed then (p.spatial, p.temporal) else sourceLayer ((s.objectCodec isFeed o).getD 0) r p) →
      exec (.forwardPacket o isFeed p) s = .next
        (((s.fwd.entries.filter (fun e => e.2.basted.isNone && ((e.2.isFeed == isFeed && e.2.object == o) || (!isFeed && e.2.retarget == some o) || (isFeed && e.2.trans.any (fun t => t.2 == o))))).map (·.1)).foldl
          (fun u e => u.entryPacket e o isFeed p fresh layer x.1)
          ((s.measure o isFeed m layer (p.length + (if (!isFeed && (tget s.model.legs (o / 4)).any (fun q => q.offer.af == 6)) = true then 48 else 28)) r p.switchPoint).modFwd
            (fun w => { w with sent := [] }))).fin) ∧
    (∀ (e : Nat) (f : FwdEntry), tget s.fwd.entries e = some f → f.keyAsked = false →
      needsKey s f = true ∧ f.targetAt + 4800 ≤ s.entryMedia f ∨ startWait f (s.entryMedia f) = true → exec (.switchKeyWait e) s = .next (s.ownKey e f).fin) ∧
    (∀ (e : Nat) (f : FwdEntry) (t : Nat), tget s.fwd.entries e = some f → f.state = .paused → f.mode = 0 → f.trans = none → s.entryLive f = true →
      (s.line f.leg).transcodeAfterMs ≠ 0xFFFF → f.pausedSince = some t → t + (s.line f.leg).transcodeAfterMs * 48 ≤ s.entryMedia f →
      exec (.transcodeAfter e) s = .next (s.tryTranscode e).fin))

/-- An update of an active leg's line computes the next estimate from the window's figures, halves it when no RTCP has come for 1,000 ms, and bounds it by MIN_KBPS and the ceiling; the video budget is 95 percent of it less the leg's audio (08 R207 to R209, R211). -/
def Obligations.LineUpdateSetsTheEstimate : Prop :=
  ∀ (s : State) (l : Nat) (q : Leg) (m : Nat) (old : Line) (u : State), s.legLive l = some q → q.state = .active → m = s.media q.conf → old = s.line l →
    (∀ j, old.lastUpdate = some j → j < m / 4800) → s.twin.state ≠ .standby → u = s.setShaper l (old.e * old.pacePct / 100) →
    ∃ t, exec (.lineUpdate l) s = .next t ∧ (t.line l).lastUpdate = some (m / 4800) ∧ (t.line l).tmmbr = old.tmmbr ∧
      (t.line l).e = s.boundE l (if old.lastRtcp + 48000 ≤ m then old.e / 2 else
        nextE old.e old.minKbps (u.lineFigures l m).1 (u.lineFigures l m).2.1 (u.lineFigures l m).2.2.1 (u.lineFigures l m).2.2.2) ∧
      (t.line l).v = ((t.line l).e * 95 / 100 : Nat) - (s.audioKbps l : Int) ∧
      old.minKbps ≤ (t.line l).e ∧ (s.lineCeiling l ≠ 0 → old.minKbps ≤ s.lineCeiling l → (t.line l).e ≤ s.lineCeiling l)

/-- The allocation never gives out more than the budget less the shares of the transcoding entries, keeps the forwarding entries and their combinations, and gives every entry a combination of its own list (08 R213). -/
def Obligations.AllocationStaysInTheBudget : Prop :=
  ∀ (v : Int) (bids : List Bid) (w : Nat), (∀ b ∈ bids, b.held = none) →
    ((total (allocate v bids w) Bid.rate : Nat) : Int) ≤ max 0 ((v - (total (bids.filter (·.trans)) (fun b => shareOf v b.priority w) : Nat)) * 1000) ∧
    (∀ b ∈ allocate v bids w, b.trans = false ∧ (∀ k, b.held = some k → k < b.combos.length) ∧ (∃ x ∈ bids, x.entry = b.entry ∧ x.priority = b.priority ∧ x.combos = b.combos)) ∧
    (allocate v bids w).length = (bids.filter (fun b => !b.trans)).length

/-- Packets in order are numbered without a gap: those selected take consecutive output numbers, whatever selection drops between them (08 R217). -/
def Obligations.SelectedPacketsAreNumberedInSequence : Prop :=
  ∀ (n : Numbering) (flags : List Bool), n.restart = false →
    n.outputs (n.high + 1) flags = (List.range (flags.count true)).map (fun k => n.high + 1 + n.seqOff - n.dropped + BitVec.ofNat 16 k)

/-! ### Conferences, legs and seams (02, 04) -/

/-- The conference commands complete: a conference is created at the named or lowest free index with its sound and origin time, deleted, set, and read; the capacity lists the fourteen kinds of Table 4-5 in their order (04 R104 to R107, R116).
The leg commands complete: a leg is opened at its index, checked with no effect, updated, closed with cause 0, held or resumed, and read (04 R108 to R117, R121).
Legs, conferences and the roster in time: the origin of a conference is its next tick of TB3; a held-off index comes free; a valid binding request renews consent and takes a new address; a finished handshake keys the leg or closes it with cause 2; a connection that takes too long and lost consent close it with causes 1 and 3, a spent key with cause 6; a drained leg is freed; a deferred roster write reaches the journal (04 R105, R113 to R115, 13 R342). -/
def Obligations.ConferencesAndLegsAct : Prop :=
  (∀ (s : State) (m : Mbx) (c : Cmd),
    (∀ (conf : U16) (speakers : U8) (standing : Bool) (legLimit : U32) (startMedia : U64) (k : Nat), confIndex conf s = some k →
      s.takes m (rowConfCreate m conf speakers standing legLimit startMedia) c 20 = true →
      exec (.confCreate m conf speakers standing legLimit startMedia) s =
        .next ((doConfCreate k (speakersOf speakers) (createAt c.hdr.version standing startMedia).1 legLimit.toNat (createAt c.hdr.version standing startMedia).2 (s.tbNs 3) none s).answered
          m 0x0200 c (Rep.ok (le 2 k ++ le 6 0 ++ le 8 (tickAfter (s.tbNs 3) / 1000000000) ++ le 4 (tickAfter (s.tbNs 3) % 1000000000))))) ∧
    (∀ (conf : U16) (force : Bool), s.takes m (rowConfDelete m conf force) c 0 = true →
      exec (.confDelete m conf force) s = .next ((doConfDelete conf.toNat s).answered m 0x0201 c Rep.ok)) ∧
    (∀ (conf : U16) (speakers : U8) (standing legField : Bool) (legLimit : U32), s.takes m (rowConfSet m conf speakers standing legField legLimit) c 0 = true →
      exec (.confSet m conf speakers standing legField legLimit) s = .next ((doConfSet conf.toNat speakers standing legField legLimit s).answered m 0x0202 c Rep.ok)) ∧
    (∀ (conf : U16) (q : Conf), tget s.model.confs conf.toNat = some q → s.takes m (rowConfQuery conf) c 24 = true →
      exec (.confQuery m conf) s = .next (s.answered m 0x0203 c (Rep.ok (le 4 (s.legsOf conf.toNat).length ++ le 1 q.speakers ++ le 1 (bit (q.standing && c.hdr.version != 0x14)) ++ le 2 0 ++
        le 4 (s.soundOf conf.toNat).tenths ++ le 4 (s.fwd.entries.filter (fun p => ((s.legsOf conf.toNat).map (·.1)).contains p.2.leg)).length ++ le 8 (s.media conf.toNat))))) ∧
    (s.takes m rowConfCapacity c 232 = true →
      exec (.confCapacity m) s = .next (s.answered m 0x0204 c (Rep.ok (le 8 14 ++ (List.range 14).flatMap (fun i =>
        le 2 (i + 1) ++ le 2 0 ++ le 4 (s.totalOf (i + 1)) ++ le 4 (s.admitted (i + 1)) ++ le 4 (largestOf s (i + 1)))))))) ∧
  (∀ (s : State) (m : Mbx) (c : Cmd),
    (∀ (o : LegOffer) (l : Nat), s.legIndex (LegOffer.atVersion o c.hdr.version) = some l → s.takes m (rowLegOpen m o) c 16 = true →
      exec (.legOpen m o) s =
        .next ((doLegOpen (LegOffer.atVersion o c.hdr.version) l s).1.answered m 0x0301 c (doLegOpen (LegOffer.atVersion o c.hdr.version) l s).2)) ∧
    (∀ (r o : LegOffer) (a b : SoundFig), o = LegOffer.atVersion r c.hdr.version → s.takes m (rowLegCheck m r) c 12 = true → a = s.soundOf o.conf.toNat →
      b = (s.withLeg ((s.legIndex o).getD 65536) (s.legOf o (s.entitled o.endpointKey).1 (s.entitled o.endpointKey).2 none)).soundOf o.conf.toNat →
      exec (.legCheck m r) s = .next (s.answered m 0x0300 c (Rep.ok (le 4 (b.tenths - a.tenths) ++ le 4 (b.decodes - a.decodes) ++ le 4 (b.encodes - a.encodes))))) ∧
    (∀ (o : LegOffer) (q : Leg) (confs : List Nat) (t : State), tget s.model.legs o.leg.toNat = some q → s.takes m (rowLegUpdate m o) c 16 = true →
      confs = (if q.conf = o.conf.toNat then [o.conf.toNat] else [q.conf, o.conf.toNat]) → t = (doLegUpdate o s).1 →
      exec (.legUpdate m o) s = .next (t.answered m 0x0302 c (Rep.ok (openReply o.leg.toNat
        (openFlags false q.record.isNone (doLegUpdate o s).2 false (LegOffer.noSend o)) q.record
        ((total confs (fun x => (t.soundOf x).tenths) : Nat) - (total confs (fun x => (s.soundOf x).tenths) : Nat) : Int))))) ∧
    (∀ leg : U16, s.takes m (rowLegClose m leg) c 0 = true → exec (.legClose m leg) s = .next ((s.shutLeg leg.toNat 0).answered m 0x0303 c Rep.ok)) ∧
    (∀ (leg : U16) (hold : Bool), s.takes m (rowLegHold m leg hold) c 0 = true → exec (.legHold m leg hold) s = .next ((doLegHold leg.toNat hold s).answered m 0x0304 c Rep.ok)) ∧
    (∀ (leg : U16) (q : Leg), tget s.model.legs leg.toNat = some q → s.takes m (rowLegQuery leg) c 24 = true →
      exec (.legQuery m leg) s = .next (s.answered m 0x0305 c (Rep.ok (le 1 (State.legCode q.state) ++ le 1 (if q.state = .closing then q.cause.toNat else 255) ++ le 2 q.conf ++
        le 2 (bit (q.emergency && c.hdr.version != 0x14) + 2 * bit (q.record.isNone && c.hdr.version != 0x14) + 4 * bit (q.holdRecorded && c.hdr.version != 0x14)) ++ le 2 q.offer.sources.toNat ++ le 4 (q.record.getD 4294967295) ++
        le 4 (24 + s.kernelTenths (s.kernelOf leg.toNat false)) ++ le 4 (s.fwd.entries.filter (fun p => p.2.leg == leg.toNat)).length ++ le 4 0))))) ∧
  (∀ s : State,
    (∀ (c : Nat) (q : Conf), tget s.model.confs c = some q → q.origin = none → q.basted = none → tickAfter q.notBefore ≤ s.tbNs 3 →
      s.twin.state ≠ .standby → s.twin.state ≠ .resync →
      exec (.confOriginTick c) s =
        .next (({ s with model := { s.model with confs := tput s.model.confs c { q with origin := some (tickAfter q.notBefore), basted := none } } } : State).mirror (Config.configBytes 0x1000A)).fin) ∧
    (∀ i : Nat, s.inHold s.model.confHold i = false → exec (.indexHoldoffEnd .conference i) s = .next { s with model := { s.model with confHold := tdel s.model.confHold i } }) ∧
    (∀ i : Nat, s.inHold s.model.legHold i = false → exec (.indexHoldoffEnd .leg i) s = .next { s with model := { s.model with legHold := tdel s.model.legHold i } }) ∧
    (∀ i : Nat, s.inHold s.fwd.hold i = false → exec (.indexHoldoffEnd .fwdEntry i) s = .next (s.modFwd (fun w => { w with hold := tdel w.hold i }))) ∧
    (∀ (l : Nat) (fresh : Bool) (q : Leg) (o : LegOffer) (u : State), s.legLive l = some q → q.state ≠ .closing →
      (fresh = false ∧ o = q.offer ∨ fresh = true ∧ q.newAddr.map (withAddr q.offer) = some o) →
      u = s.modLeg l (fun q => { q with
        offer := o, newAddr := if fresh then none else q.newAddr, connected := true,
        consentUntil := if o.ice then some (s.now + LegOffer.consentSec o * State.ticksPerS) else q.consentUntil }) →
      exec (.stunBindingRequest l fresh true) s = .next (((if s.notPrimary then u else
        u.enqueue { length := wireBytes { o with security := 4 } (stunBytes (o.af == 6)), level := some 2, leg := l, iface := o.port, nextHopResolved := true }).progress l).fin)) ∧
    (∀ (l : Nat) (suite version : U8) (q : Leg), s.legLive l = some q → q.state = .connecting → q.keyed = false → dtlsLeg q.offer = true → s.pkWaits l = false →
      exec (.dtlsHandshakeDone l false suite version) s = .next (((s.pkDone l).shutLeg l 2).mirror 32).fin) ∧
    (∀ (l : Nat) (suite version : U8) (q : Leg), s.legLive l = some q → q.state = .connecting → q.keyed = false → dtlsLeg q.offer = true → s.pkWaits l = false →
      exec (.dtlsHandshakeDone l true suite version) s =
        .next (((((((s.pkDone l).loadLeg l suite.toNat 0 0 ((s.pkDone l).dtlsKeys l)).modLeg l (fun q => { q with keyed := true })).mirror 32).rosterChange q.record (fun x => { x with dtlsVersion := version, suite })).1).progress l).fin) ∧
    (∀ (l : Nat) (q : Leg), s.notPrimary = false → s.legLive l = some q → q.state = .connecting → q.connectUntil ≤ s.now → exec (.connectTimeout l) s = .next ((s.shutLeg l 1).mirror (Config.configBytes 0x10008)).fin) ∧
    (∀ (l : Nat) (q : Leg) (t : Nat), s.notPrimary = false → s.legLive l = some q → q.state = .active ∨ q.state = .held → q.consentUntil = some t → t ≤ s.now →
      exec (.consentLost l) s = .next ((s.shutLeg l 3).mirror (Config.configBytes 0x10008)).fin) ∧
    (∀ (l : Nat) (t : Nat), s.notPrimary = false → (s.rekey l).spentSince = some t → t + (s.cip.classes.get (if s.classOf l = 1 then 1 else 0)).rekeyS * 1000000000 ≤ s.chipNs →
      exec (.rekeyTimeout l) s = .next (((s.modRekey l (fun r => { r with spentSince := none })).shutLeg l 6).mirror (Config.configBytes 0x10008)).fin) ∧
    (∀ (l : Nat) (q : Leg), s.notPrimary = false → s.legLive l = some q → q.state = .closing → (s.legQ l).frames = [] ∨ q.drainUntil ≤ s.now →
      exec (.closingDrainEnd l) s = .next ((s.freeLeg l).mirror (Config.configBytes 0x10009)).fin) ∧
    (∀ (r : Nat) (x : Record), tget s.keep.unwritten r = some (some x) → s.rosterRoom 288 = St.ok → s.notPrimary = false →
      exec (.rosterDeferredWrite r) s = .next ((s.modKeep (fun k => { k with unwritten := tdel k.unwritten r })).journalRoster (.put r x))) ∧
    (∀ r : Nat, tget s.keep.unwritten r = some none → s.rosterRoom 288 = St.ok → s.notPrimary = false →
      exec (.rosterDeferredWrite r) s = .next ((s.modKeep (fun k => { k with unwritten := tdel k.unwritten r })).journalRoster (.clear r))))

/-- A conference that is set keeps what the command leaves: SPEAKERS of 0 and an absent leg limit change nothing, every other conference stays (04 conf.set). -/
def Obligations.SettingAConferenceKeepsTheOthers : Prop :=
  ∀ (k j : Nat) (speakers : U8) (standing legField : Bool) (legLimit : U32) (s : State),
    (j ≠ k → tget (doConfSet k speakers standing legField legLimit s).model.confs j = tget s.model.confs j) ∧
    (∀ q, tget s.model.confs k = some q → ∃ r, tget (doConfSet k speakers standing legField legLimit s).model.confs k = some r ∧
      r.standing = standing ∧ r.speakers = (if speakers = 0 then q.speakers else speakers.toNat) ∧
      r.legLimit = (if legField then legLimit.toNat else q.legLimit) ∧ r.origin = q.origin ∧ r.pendSpeakers = none) ∧
    (tget s.model.confs k = none → doConfSet k speakers standing legField legLimit s = s)

/-- The seam commands complete: a seam opens with the next identifier and its time, closes at T or as soon as possible, is unpicked with reason 5, and is read (02 R43 to R56).
Seams in time: an open seam whose time is up is unpicked with reason 4, a confirming one past its deadline with reason 3; at a participant's boundary the commands basted for it take effect there and nowhere else, and the seam is applied when every participant is (02 R49 to R60). -/
def Obligations.SeamsAct : Prop :=
  (∀ (s : State) (m : Mbx) (c : Cmd),
    (∀ scope timeoutS : U16, s.takes m (rowSeamOpen m scope timeoutS) c 4 = true →
      exec (.seamOpen m scope timeoutS) s = .next (({ s with seams := { s.seams with
        nextId := BitVec.ofNat 16 ((s.nextSeamId.toNat + 1) % 65535),
        list := s.seams.list ++ [({ id := s.nextSeamId, owner := .host m, scope := if scope = 0xFFFF then none else some scope.toNat, openUntil := s.clk + (if timeoutS = 0 then 10 else timeoutS.toNat) * State.ticksPerS } : Seam)] } } : State).answered
          m 0x0100 c (Rep.ok (le 2 s.nextSeamId.toNat ++ le 2 (s.seamsLive.length + 1))))) ∧
    (∀ (id : U16) (asap : Bool) (tNs : U32) (t : U64) (k : Seam) (v : Nat × Nat), s.ownSeam m id = some k → s.takes m (rowSeamClose m id asap tNs t) c 16 = true →
      v = (if asap then s.asapT k else (t.toNat, if k.scope.isSome then 0 else tNs.toNat)) → k.entries = [] →
      exec (.seamClose m id asap tNs t) s = .next ((s.closeSeam id v.1 v.2 (some c.seq)).answered m 0x0101 c (Rep.ok (le 8 v.1 ++ le 4 v.2 ++ le 2 0 ++ le 2 0)))) ∧
    (∀ (id : U16) (asap : Bool) (tNs : U32) (t : U64) (k : Seam) (v : Nat × Nat), s.ownSeam m id = some k → s.takes m (rowSeamClose m id asap tNs t) c 16 = true →
      v = (if asap then s.asapT k else (t.toNat, if k.scope.isSome then 0 else tNs.toNat)) → k.entries ≠ [] →
      exec (.seamClose m id asap tNs t) s = .next ((s.closeSeam id v.1 v.2 (some c.seq)).answered m 0x0101 c
        (Rep.pend (le 8 v.1 ++ le 4 v.2 ++ le 2 k.entries.length ++ le 2 (seamCells k.entries).length)))) ∧
    (∀ id : U16, s.takes m (rowSeamUnpick m id) c 0 = true → exec (.seamUnpick m id) s = .next ((s.unpickSeam id 5).answered m 0x0102 c Rep.ok)) ∧
    (∀ (id : U16) (k : Seam), s.ownSeam m id = some k → s.takes m (rowSeamQuery m id) c 24 = true →
      exec (.seamQuery m id) s = .next (s.answered m 0x0103 c (Rep.ok (le 1 (seamCode k.state) ++ le 1 k.reason.toNat ++ le 2 (k.scope.getD 65535) ++ le 2 k.entries.length ++
        le 2 k.island.toNat ++ le 8 k.t.toNat ++ le 4 k.tNs.toNat ++ le 2 k.pstatus.toNat ++ le 2 0))))) ∧
  (∀ (s : State) (id : U16) (k : Seam), s.seamLive id = some k →
    (s.decides = true → k.state = .open → k.openUntil ≤ s.clk → exec (.seamOpenTimeout id) s = .next (s.unpickSeam id 4).fin) ∧
    (s.decides = true → k.state = .confirming → s.beforeDeadline k = false →
      exec (.confirmationDeadline id) s = .next (s.unpickSeam id 3 (((k.parts.find? (fun p => !p.confirmed)).map (·.cell)).getD 0xFFFF)).fin) ∧
    (∀ cell : U16, k.state = .committed → k.parts.any (fun p => p.cell == cell && !p.applied) = true → s.boundaryDue k cell = true → s.cannotApply k cell = true →
      exec (.seamBoundaryApply id cell) s = .next (s.leaveSync 5).fin) ∧
    (∀ (cell : U16) (parts : List SeamPart) (u : State), k.state = .committed → k.parts.any (fun p => p.cell == cell && !p.applied) = true → s.boundaryDue k cell = true → s.cannotApply k cell = false →
      parts = k.parts.map (fun (p : SeamPart) => if p.cell = cell then { p with applied := true } else p) →
      u = ((k.cmds.filter (fun c => c.cell == cell)).foldl (fun s c => s.applyCmd k c) s).modSeam id (fun q => { q with parts, cmds := q.cmds.filter (fun c => c.cell != cell) }) →
      exec (.seamBoundaryApply id cell) s = .next (if parts.all (·.applied) then u.seamApplied k else u).fin))

/-! ### Access ports (11) -/

/-- The access commands complete: a port is set, a GEM binding and a T-CONT are made or removed, a terminal is admitted, removed, disabled or enabled, and a port or one of its terminals is read with its counters (11 R278, R292, R296 to R300).
The head role on its tree: an admitted serial number in a window is ranged, an unknown one reported; registration brings a terminal into operation with its equalization delay, its Alloc-IDs and its group's key; keys, acknowledgements, time-outs and missing bursts are followed; windows open every 100 ms; group keys rotate when due; the map of a frame follows the reports of two frames ago; received power goes to the operating terminals in turn; a downstream frame is taken in order, to its terminal's GEM port under its group's key, or dropped where no binding carries it, and frames on a port whose link is down are dropped (11 R292, R296 to R300). A PLOAM message taken is canon on a primary (12 R311). -/
def Obligations.AccessActs : Prop :=
  (∀ (s : State) (m : Mbx) (c : Cmd),
    (∀ q : AccessPortReq, s.takes m (rowAccessPort q) c 0 = true →
      exec (.accessPort m q) s = .next ((setPort (fin2 q.port.toNat) (if q.mtu = 0 then { q with mtu := 9000 } else q) s).answered m 0x0B00 c Rep.ok)) ∧
    (∀ (port kind terminal : U8) (gemId allocId : U16), s.takes m (rowAccessGem m port 1 gemId kind terminal allocId) c 0 = true →
      exec (.accessGem m port 1 gemId kind terminal allocId) s =
        .next ((s.modAcc (fin2 port.toNat) (fun a => { a with gems := tdel a.gems gemId.toNat })).answered m 0x0B01 c Rep.ok)) ∧
    (∀ (port mode kind terminal : U8) (gemId allocId : U16), mode ≠ 1 → s.takes m (rowAccessGem m port mode gemId kind terminal allocId) c 1 = true →
      exec (.accessGem m port mode gemId kind terminal allocId) s =
        .next ((s.modAcc (fin2 port.toNat) (fun a => { a with gems := tput a.gems gemId.toNat { kind := kind.toNat, terminal := terminal.toNat, allocId := allocId.toNat, active := a.role == 2 || a.mib.any (fun e => e.cls == 268 && e.gemId == gemId.toNat) } })).answered
          m 0x0B01 c (Rep.ok (le 1 (gemState s (fin2 port.toNat) gemId.toNat))))) ∧
    (∀ (port terminal index : U8) (fixed assured max : U32) (weight : U16), s.takes m (rowAccessTcont m port 1 terminal index fixed assured max weight) c 0 = true →
      exec (.accessTcont m port 1 terminal index fixed assured max weight) s =
        .next ((s.modAcc (fin2 port.toNat) (fun a => { a with tconts := tdel a.tconts (4 * terminal.toNat + index.toNat) })).answered m 0x0B02 c Rep.ok)) ∧
    (∀ (port mode terminal index : U8) (fixed assured max : U32) (weight : U16), mode ≠ 1 → s.takes m (rowAccessTcont m port mode terminal index fixed assured max weight) c 0 = true →
      exec (.accessTcont m port mode terminal index fixed assured max weight) s =
        .next ((doTcont (fin2 port.toNat) mode (4 * terminal.toNat + index.toNat)
          { fixed := fixed.toNat, assured := assured.toNat, max := max.toNat, weight := if weight = 0 then 1 else weight.toNat } s).answered m 0x0B02 c Rep.ok)) ∧
    (∀ (port mode onuId keyGroup : U8) (serial : U64) (o : Nat), onuFor s (fin2 port.toNat) onuId = some o → s.takes m (rowAccessTree m port mode onuId keyGroup serial) c 1 = true →
      exec (.accessTree m port mode onuId keyGroup serial) s = .next ((doTree (fin2 port.toNat) mode o keyGroup.toNat serial s).answered m 0x0B03 c (Rep.ok (le 1 o)))) ∧
    (∀ (port : U8) (a : AccPort), a = s.accPort (fin2 port.toNat) → s.takes m (rowAccessQuery port 0xFF) c (24 + 8 * a.counters.toList.length) = true →
      exec (.accessQuery m port 0xFF) s = .next (s.answered m 0x0B04 c (Rep.ok (le 1 a.role ++ le 1 a.state ++ le 1 a.gen ++ le 1 a.usRate ++ le 1 (a.onuId.getD 255) ++
        le 1 (bit a.sleeping + 2 * bit (s.holdsGroup (s.claimGroup (fin2 port.toNat)))) ++ le 2 0 ++ leI 4 a.eqd ++ le 2 a.rxPower.toNat ++ le 2 a.txPower.toNat ++
        le 8 (a.identity.getD 0).toNat ++ a.counters.toList.flatMap (fun x => le 8 x.toNat))))) ∧
    (∀ (port terminal : U8) (a : AccPort) (t : Terminal), terminal ≠ 0xFF → a = s.accPort (fin2 port.toNat) → tget a.terminals terminal.toNat = some t →
      s.takes m (rowAccessQuery port terminal) c (24 + 8 * a.counters.toList.length) = true →
      exec (.accessQuery m port terminal) s = .next (s.answered m 0x0B04 c (Rep.ok (le 1 a.role ++ le 1 t.state ++ le 1 a.gen ++ le 1 a.usRate ++ le 1 terminal.toNat ++
        le 1 (bit a.sleeping + 2 * bit (s.holdsGroup (s.claimGroup (fin2 port.toNat)))) ++ le 2 0 ++ leI 4 t.eqd ++ le 2 t.rxPower.toNat ++ le 2 a.txPower.toNat ++
        le 8 t.serial.toNat ++ a.counters.toList.flatMap (fun x => le 8 x.toNat)))))) ∧
  (∀ (s u : State) (p : Fin 2) (a : AccPort), s.treeRuns p = true → a = s.accPort p → u = s.consumed p →
    (∀ (serial : U64) (onu : Nat) (t : Terminal), a.inWindow = true → a.terminals.find? (fun t => t.2.serial == serial) = some (onu, t) → t.disabled = false → t.state ≠ 5 → t.state ≠ 4 →
      exec (.serialNumberReceived p serial) s = .next (((u.termState p onu 4 1).modTerminal p onu (fun t => { t with regUntil := some (u.clk + 10 * State.ticksPerS) })).ploam p
        [.assignOnuId onu serial, .requestRegistration onu]).fin) ∧
    (∀ (serial : U64) (q : AccessPortReq), a.inWindow = true → a.terminals.find? (fun t => t.2.serial == serial) = none → a.cfg = some q → q.autoDiscover = true →
      exec (.serialNumberReceived p serial) s = .next (u.accessEvent p 0xFF 0 0 1 serial).fin) ∧
    (∀ (onu roundTrip : Nat) (t : Terminal) (conts : Table Tcont), tget a.terminals onu = some t → t.state = 4 → conts = a.tconts.filter (fun c => c.1 / 4 == onu) →
      exec (.registrationReceived p onu roundTrip) s = .next ((((u.termState p onu 5 1).modTerminal p onu (fun t => { t with eqd := State.eqdFor a roundTrip })).ploam p
        ([.rangingTime onu (State.eqdFor a roundTrip)] ++ conts.map (fun c => .assignAllocId onu (1024 + c.1)) ++
          [.sleepAllowOff onu, .keyControl onu t.keyGroup ((tget a.groupIndex t.keyGroup).getD (0, 0)).1 a.superframe])).countAcc p 6
        (5 + conts.length + 2 * (a.gems.filter (fun g => g.2.terminal == onu && g.2.basted.isNone)).length)).fin) ∧
    (∀ onu, exec (.keyReportReceived p onu) s = .next (u.modTerminal p onu (fun t => { t with keyed := true }))) ∧
    (∀ onu, exec (.ploamAcknowledge p onu true) s = .next (u.modTerminal p onu (fun t => { t with keyed := false }))) ∧
    (∀ onu, exec (.ploamAcknowledge p onu false) s = .next u) ∧
    (∀ (onu : Nat) (t : Terminal) (due : Nat), tget a.terminals onu = some t → t.state = 4 → t.regUntil = some due → due ≤ s.clk →
      exec (.registrationTimeout p onu) s = .next ((s.termState p onu 0 2).ploam p [.deactivateOnuId onu]).fin) ∧
    (∀ (onu : Nat) (t : Terminal), tget a.terminals onu = some t → t.state = 5 → exec (.missingBursts p onu) s = .next ((s.termState p onu 0 0).ploam p [.deactivateOnuId onu]).fin) ∧
    (∀ q : AccessPortReq, a.cfg = some q → a.windowAt = 0 ∨ a.windowAt + 100 * State.ticksPerMs ≤ s.clk → q.autoDiscover = true ∨ a.terminals.any (fun t => t.2.state != 5 && !t.2.disabled) = true →
      exec (.serialNumberWindow p) s = .next (s.modAcc p (fun a => { a with windowAt := s.clk, inWindow := true }))) ∧
    (∀ (g frame : Nat) (q : AccessPortReq) (now : Nat × Nat) (d : BitVec 256 × State), g < 14 → thas a.groupSwitch g = false → a.cfg = some q → now = (tget a.groupIndex g).getD (0, 0) → d = s.drawKey →
      now.2 + (if q.keyRotateS = 0 then 3600 else q.keyRotateS.toNat) ≤ s.chipS ∨ (s.keySlot (State.accSlot p (State.groupSlot a g))).state = .nearSpent →
      exec (.groupKeyRotate p g frame) s = .next ((((d.2.loadSlot (State.accSlot p (4 + 2 * g + (1 - now.1))) 4 2 p.val 0 d.1).modAcc p (fun a => { a with
        groupSwitch := tput a.groupSwitch g (1 - now.1, frame), terminals := tmap a.terminals (fun _ t => if t.keyGroup = g then { t with keyed := false } else t) })).ploam p
          (((a.terminals.filter (fun t => t.2.keyGroup == g && t.2.state == 5)).map (·.1)).map (fun onu => .keyControl onu g (1 - now.1) frame)))).fin) ∧
    (∀ reports : List (Nat × Nat), ∃ t, exec (.upstreamAllocation p reports) s = .next t ∧
      (t.accPort p).map = (if (t.accPort p).inWindow then [] else State.bandwidthMap { a with tconts := tmap a.tconts (fun k c => { c with report := c.report1, report1 := (tget reports (1024 + k)).getD 0 }) })) ∧
    (a.oltgAt + 10 * State.ticksPerS ≤ s.clk →
      exec (.oltGPeriodic p) s = .next ((s.modAcc p (fun a => { a with oltgAt := s.clk })).countAcc p 6 (a.terminals.filter (fun t => t.2.state == 5)).length)) ∧
    (∀ (power : U16) (k : Nat), (((a.terminals.filter (fun t => t.2.state == 5)).map (·.1)).find? (fun t => decide (a.rssiNext ≤ t))) = some k →
      exec (.rssiTrigger p power) s = .next ((s.modTerminal p k (fun t => { t with rxPower := power })).modAcc p (fun a => { a with rssiNext := k + 1 }))) ∧
    (∀ (power : U16) (k : Nat), (((a.terminals.filter (fun t => t.2.state == 5)).map (·.1)).find? (fun t => decide (a.rssiNext ≤ t))) = none → ((a.terminals.filter (fun t => t.2.state == 5)).map (·.1)).head? = some k →
      exec (.rssiTrigger p power) s = .next ((s.modTerminal p k (fun t => { t with rxPower := power })).modAcc p (fun a => { a with rssiNext := k + 1 }))) ∧
    (∀ i : U8, i.toNat = 16 + p.val → s.linkState i.toNat ≠ 2 → exec (.schedulingDecision i) s = .next (s.accDrop p)) ∧
    (∀ (lv : Option (Fin 8)) (c : Candidate) (i : U8) (v : State) (onu : Option Nat), i.toNat = 16 + p.val → s.linkState i.toNat = 2 → s.claimed p = true → a.waits = false → v = s.accClean p →
      v.pick i.toNat = some (lv, c) → onu = State.terminalOf (v.accPort p) c.frame →
      (State.gemFor (v.accPort p) onu (bit c.leg.isSome) = none → exec (.schedulingDecision i) s = .next ((v.serve i.toNat lv c).countIface i.toNat 14)) ∧
      (∀ (gem k : Nat) (w : State × Bool), State.gemFor (v.accPort p) onu (bit c.leg.isSome) = some gem →
        k = (match onu.bind (tget (v.accPort p).terminals) with | some t => State.groupSlot (v.accPort p) t.keyGroup | none => (v.accPort p).bcastIndex) →
        w = (v.serve i.toNat lv c).accUse p k →
        exec (.schedulingDecision i) s = .next (if w.2 then (w.1.depart i.toNat (lv.elim 8 lvl9) c.leg.isSome c.frame).modAcc p (fun a => { a with sent := some (gem, k) }) else w.1))))

/-- The terminal role moves through its states as Table 11-2 says: sync and a burst profile lead to O2-3, an ONU-ID to O4, ranging to O5; sync lost in O5 is O6 until TO2, which ends in O1, as TO1 does in O4; a deactivation ends in O1, a disabled serial number in O7 until it is enabled (11 R280 to R285). A PLOAM message taken is canon on a primary (12 R311).
What a terminal does on its grants and messages: a superframe latches the four time bases and brings stated keys into force; a serial-number grant is answered after a drawn delay; a grant of its ONU-ID is answered by the Registration, its own Alloc-IDs are filled in the order of R292 and an overlapping one is skipped and counted; keys, sleep and power messages are followed and answered, and a message that fails its check or names another type is counted (11 R281 to R295). A PLOAM message taken is canon on a primary (12 R311).
The OMCI agent of an operating terminal counts and answers every message: a MIB reset empties the MIB and its sync counter; a create and a delete of a GEM CTP bring its binding up and down, and those of a GEM interworking point enter and leave the MIB; a set keeps its attribute; each moves the sync counter from 255 to 1; a create of an instance that exists is refused and changes nothing; a time of day without its superframe's latch is counted late (11 R287 to R289). A message taken is canon on a primary (12 R311). -/
def Obligations.TerminalActs : Prop :=
  (∀ (s u : State) (p : Fin 2) (a : AccPort), s.isTerminal p = true → a = s.accPort p → u = s.consumed p →
    (a.gen = 0 → a.synced = false → exec (.generationHunt p) s = .next (s.modAcc p (fun a => { a with huntFast := !a.huntFast }))) ∧
    (∀ (q : AccessPortReq) (v : State), a.synced = false → a.cfg = some q →
      v = s.modAcc p (fun a => { a with synced := true, gen := if a.gen ≠ 0 then a.gen else if q.gen = 0 then (if a.huntFast then 2 else 1) else q.gen.toNat }) →
      exec (.downstreamSyncGained p) s =
        .next (if a.state = 6 ∧ a.to2.all (fun t => decide (s.clk < t)) then (v.modAcc p (fun a => { a with to2 := none })).accState p 5 0 else v.toO23 p).fin) ∧
    (a.synced = true → a.state = 2 → exec (.downstreamSyncLost p) s = .next ((s.modAcc p (fun a => { a with synced := false })).accState p 1 0).fin) ∧
    (∀ q : AccessPortReq, a.synced = true → a.state = 5 → a.cfg = some q →
      exec (.downstreamSyncLost p) s = .next (((s.modAcc p (fun a => { a with synced := false })).modAcc p (fun a => { a with
        to2 := some (s.clk + (if q.to2Ms = 0 then 100 else q.to2Ms.toNat) * State.ticksPerMs) })).accState p 6 0).fin) ∧
    (a.synced = true → a.state ≠ 2 → a.state ≠ 5 → exec (.downstreamSyncLost p) s = .next (s.modAcc p (fun a => { a with synced := false })).fin) ∧
    (∀ usRate : U8, a.synced = true →
      exec (.burstProfile p usRate) s = .next ((u.modAcc p (fun a => { a with profile := true, usRate := if a.gen = 2 then usRate.toNat else 0 })).toO23 p).fin) ∧
    (∀ (onu : Nat) (serial : U64) (q : AccessPortReq), a.state = 2 → a.identity = some serial → a.cfg = some q →
      exec (.assignOnuId p onu serial) s = .next ((u.modAcc p (fun a => { a with
        onuId := some onu, to1 := some (u.clk + (if q.to1S = 0 then 10 else q.to1S.toNat) * State.ticksPerS) })).accState p 4 1).fin) ∧
    (∀ (relative : Bool) (bits : Int), a.state = 4 → (∀ t, a.to1 = some t → s.clk < t) →
      exec (.rangingTime p relative bits) s = .next ((((u.modAcc p (fun a => { a with eqdNext := some (if relative then a.eqdNext.getD a.eqd + bits else bits), to1 := none })).accState p 5 1).modBase 2
        (fun b => if b.enabled then { b with armed := true } else b))).fin) ∧
    (∀ (relative : Bool) (bits : Int) (t : Nat), a.state = 4 → a.to1 = some t → t ≤ s.clk → exec (.rangingTime p relative bits) s = .next (u.accState p 1 2).fin) ∧
    (∀ (relative : Bool) (bits : Int), a.state = 5 →
      exec (.rangingTime p relative bits) s = .next (u.modAcc p (fun a => { a with eqdNext := some (if relative then a.eqdNext.getD a.eqd + bits else bits) })).fin) ∧
    (∀ t, a.state = 4 → a.to1 = some t → t ≤ s.clk → exec (.to1Expiry p) s = .next (s.accState p 1 2).fin) ∧
    (∀ t, a.state = 6 → a.to2 = some t → t ≤ s.clk → exec (.to2Expiry p) s = .next (s.accState p 1 2).fin) ∧
    (∀ onu, a.state = 5 → a.onuId = some onu → exec (.deactivateOnuId p onu) s = .next (u.accState p 1 1).fin) ∧
    (∀ serial, a.identity = some serial → a.state = 2 ∨ a.state = 4 ∨ a.state = 5 → exec (.disableSerialNumber p false serial) s = .next (u.accState p 7 1).fin) ∧
    (∀ serial, a.identity = some serial → a.state = 7 → exec (.disableSerialNumber p true serial) s = .next (u.accState p 1 1).fin)) ∧
  (∀ (s u : State) (p : Fin 2) (a : AccPort), s.isTerminal p = true → a = s.accPort p → u = s.consumed p →
    (∀ n : Nat, a.synced = true → exec (.downstreamSuperframe p n) s = .next (s.modAcc p (fun a => { a with
      superframe := n, waits := false,
      latches := a.latches.filter (fun l => decide (s.clk ≤ l.tick + 2 * State.ticksPerS)) ++ [{ count := n, bases := Vector.ofFn (fun b : Fin 4 => s.tbNs b), tick := s.clk }],
      keyIndex := match a.keySwitch with | some (k, t) => if t ≤ n then k else a.keyIndex | none => a.keyIndex,
      keySwitch := a.keySwitch.filter (fun k => decide (n < k.2)),
      bcastIndex := match a.bcastSwitch with | some (k, t) => if t ≤ n then k else a.bcastIndex | none => a.bcastIndex,
      bcastSwitch := a.bcastSwitch.filter (fun k => decide (n < k.2)),
      groupIndex := a.groupSwitch.foldl (fun t g => if g.2.2 ≤ n then tput t g.1 (g.2.1, s.chipS) else t) a.groupIndex,
      groupSwitch := a.groupSwitch.filter (fun g => decide (n < g.2.2)) }))) ∧
    (a.state = 2 → ∃ t, exec (.serialNumberGrant p) s = .next t ∧ (t.accPort p).snDelay = s.draw32.1.toNat % 48001 ∧
      (s.claimed p = true → (t.accPort p).ploamOut = [.serialNumberOnu (a.identity.getD 0) (s.draw32.1.toNat % 48001)])) ∧
    (∀ g : Allocation, a.state = 4 → s.claimed p = true → a.sleeping = false → a.onuId = some g.allocId → exec (.burstGrant p g) s = .next (s.register p).fin) ∧
    (∀ g : Allocation, a.state = 5 ∨ a.state = 4 ∧ a.onuId ≠ some g.allocId → s.claimed p = true → a.sleeping = false → a.allocIds.contains g.allocId = true → g.startBit < a.lastBurstEnd →
      exec (.burstGrant p g) s = .next (s.countAcc p 5).fin) ∧
    (∀ (g : Allocation) (b : List Gem) (v : State) (r : State × Nat), a.state = 5 ∨ a.state = 4 ∧ a.onuId ≠ some g.allocId → s.claimed p = true → a.sleeping = false →
      a.allocIds.contains g.allocId = true → a.lastBurstEnd ≤ g.startBit →
      v = ((s.modAcc p (fun a => { a with lastBurstEnd := g.startBit + 8 * g.lengthBytes, eqd := a.eqdNext.getD a.eqd, eqdNext := none })).countAcc p 3).accClean p → b = v.gemsOf p g.allocId →
      r = State.fillGrant p ((a.mib.find? (fun e => e.cls == 268 && e.allocId == g.allocId)).elim 0 (·.gemId)) (State.kindOn b 0) (State.kindOn b 1) 4096
        (g.lengthBytes - (if g.statusReport then 4 else 0)) v →
      exec (.burstGrant p g) s = .next (r.1.modAcc p (fun a => { a with burst := some {
        allocId := g.allocId, start := g.startBit, stop := g.startBit + 8 * g.lengthBytes, leadNs := (State.enableNs a).1, lagNs := (State.enableNs a).2,
        report := if g.statusReport then some (v.bufferReport p (State.kindOn b 0) (State.kindOn b 1)) else none, idle := r.2 } })).fin) ∧
    (a.state = 4 ∨ a.state = 5 → exec (.requestRegistration p) s = .next (u.register p)) ∧
    (∀ alloc onu, a.onuId = some onu → a.state = 4 ∨ a.state = 5 →
      exec (.assignAllocId p alloc) s = .next (u.modAcc p (fun a => { a with allocIds := if a.allocIds.contains alloc then a.allocIds else a.allocIds ++ [alloc] }))) ∧
    (∀ (k : Fin 2) (n : Nat) (d : BitVec 256 × State), a.state = 5 → d = u.drawKey →
      exec (.keyControl p k true n) s = .next ((d.2.loadSlot (State.accSlot p (2 + k.val)) 4 2 p.val 0 d.1).modAcc p (fun a => { a with bcastSwitch := some (k.val, n) })).fin) ∧
    (∀ (k : Fin 2) (n : Nat) (d : BitVec 256 × State), a.state = 5 → d = u.drawKey →
      exec (.keyControl p k false n) s =
        .next (((d.2.loadSlot (State.accSlot p k.val) 4 2 p.val 0 d.1).modAcc p (fun a => { a with keySwitch := some (k.val, n) })).ploam p [.keyReport k.val]).fin) ∧
    (exec (.sleepAllow p false) s = .next ((u.modAcc p (fun a => { a with sleepAllow := false })).sleepTo p false)) ∧
    (∀ v : State, v = u.modAcc p (fun a => { a with sleepAllow := true }) → exec (.sleepAllow p true) s = .next (v.sleepTo p (v.maySleep p))) ∧
    (∀ level, a.state = 4 ∨ a.state = 5 → exec (.changePowerLevel p level true) s =
      .next ((u.modAcc p (fun a => { a with powerLevel := level })).ploam p [.acknowledge (a.onuId.getD 255) false])) ∧
    (∀ level, a.state = 4 ∨ a.state = 5 → exec (.changePowerLevel p level false) s = .next (u.ploam p [.acknowledge (a.onuId.getD 255) true])) ∧
    (a.state = 5 → exec (.powerConsumptionInquire p) s = .next (u.ploam p [.powerConsumptionReport])) ∧
    (a.sleeping = true → exec (.watchfulSleepWake p) s = .next ((s.modAcc p (fun a => { a with sleeping := false })).ploam p [.sleepRequest false])) ∧
    (a.role ≠ 0 → exec (.ploamIgnored p true) s = .next (u.countAcc p 4)) ∧
    (a.role ≠ 0 → exec (.ploamIgnored p false) s = .next (u.modAcc p (fun a => { a with cPloamIgnored := a.cPloamIgnored + 1 })))) ∧
  (∀ (s u : State) (p : Fin 2) (a : AccPort), s.isTerminal p = true → a = s.accPort p → a.state = 5 → u = (s.consumed p).countAcc p 6 →
    (exec (.omciMessage p .mibReset) s = .next (u.modAcc p (fun a => { a with
      mib := [], mibSync := 0, gems := tmap a.gems (fun _ g => { g with active := false }), omciAnswer := some .success })).fin) ∧
    (∀ inst gemId allocId target, a.mib.any (fun e => e.cls == 268 && e.inst == inst) = false →
      exec (.omciMessage p (.create 268 inst gemId allocId target)) s = .next (u.modAcc p (fun a => { a with
        mib := a.mib ++ [{ cls := 268, inst, gemId, allocId }], mibSync := if a.mibSync = 255 then 1 else a.mibSync + 1, gems := tmod a.gems gemId (fun g => { g with active := true }),
        omciAnswer := some .success })).fin) ∧
    (∀ inst gemId allocId target, a.mib.any (fun e => e.cls == 268 && e.inst == inst) = true →
      exec (.omciMessage p (.create 268 inst gemId allocId target)) s = .next (u.modAcc p (fun a => { a with omciAnswer := some .instanceExists })).fin) ∧
    (∀ (inst : Nat) (e : MibEntry), a.mib.find? (fun e => e.cls == 268 && e.inst == inst) = some e →
      exec (.omciMessage p (.delete 268 inst)) s = .next (u.modAcc p (fun a => { a with
        mib := a.mib.filter (fun x => !(x.cls == 268 && x.inst == inst)), mibSync := if a.mibSync = 255 then 1 else a.mibSync + 1, gems := tmod a.gems e.gemId (fun g => { g with active := false }),
        omciAnswer := some .success })).fin) ∧
    (∀ inst gemId allocId target, target = 134 ∨ target = 347 → a.mib.any (fun e => e.cls == 266 && e.inst == inst) = false →
      exec (.omciMessage p (.create 266 inst gemId allocId target)) s = .next (u.modAcc p (fun a => { a with
        mib := a.mib ++ [{ cls := 266, inst, gemId, allocId }], mibSync := if a.mibSync = 255 then 1 else a.mibSync + 1, omciAnswer := some .success })).fin) ∧
    (∀ (inst : Nat) (e : MibEntry), a.mib.find? (fun e => e.cls == 266 && e.inst == inst) = some e →
      exec (.omciMessage p (.delete 266 inst)) s = .next (u.modAcc p (fun a => { a with
        mib := a.mib.filter (fun x => !(x.cls == 266 && x.inst == inst)), mibSync := if a.mibSync = 255 then 1 else a.mibSync + 1, omciAnswer := some .success })).fin) ∧
    (∀ (inst attr value : Nat) (e : MibEntry), e = (a.mib.find? (fun e => e.cls == 131 && e.inst == inst)).getD { cls := 131, inst } →
      exec (.omciMessage p (.set 131 inst attr value)) s = .next (u.modAcc p (fun a => { a with
        mib := a.mib.filter (fun x => !(x.cls == 131 && x.inst == inst)) ++ [{ e with attrs := tput e.attrs attr value }], mibSync := if a.mibSync = 255 then 1 else a.mibSync + 1,
        omciAnswer := some .success })).fin) ∧
    (∀ inst allocId, exec (.omciMessage p (.setAllocId inst allocId)) s = .next (u.modAcc p (fun a => { a with
      mib := a.mib.filter (fun e => !(e.cls == 262 && e.inst == inst)) ++ [{ cls := 262, inst, allocId }], mibSync := if a.mibSync = 255 then 1 else a.mibSync + 1, omciAnswer := some .success })).fin) ∧
    (∀ n sec ns, a.latches.find? (fun l => l.count == n && decide (s.clk ≤ l.tick + 2 * State.ticksPerS)) = none →
      exec (.omciMessage p (.timeOfDay n sec ns)) s =
        .next ((u.modAcc p (fun a => { a with omciAnswer := some .success })).modAcc p (fun a => { a with cLateTod := a.cLateTod + 1 })).fin))

/-- The map of a frame never grants more than the frame holds beside the overhead of its bursts, where the fixed and assured parts fit it; the passes never share out more than what is left (11 R300). -/
def Obligations.BandwidthMapFitsTheFrame : Prop :=
  (∀ (fuel left : Nat) (l : List Share), total (sharePasses fuel left l) (·.grant) ≤ left + total l (·.grant) ∧ (sharePasses fuel left l).map (·.id) = l.map (·.id)) ∧
  (∀ (a : AccPort) (bursts : Nat),
    bursts = (a.terminals.filter (fun t => t.2.state == 5 && a.tconts.any (fun c => c.1 / 4 == t.1 && (c.2.fixed != 0 || c.2.report != 0)))).length →
    total (State.shares a) (·.grant) + bursts * (frameBytes a.gen a.usRate).2 ≤ (frameBytes a.gen a.usRate).1 →
    total (State.bandwidthMap a) (·.2) + bursts * (frameBytes a.gen a.usRate).2 ≤ (frameBytes a.gen a.usRate).1)

/-! ### Twin operation (12) -/

/-- The twin commands complete: the settings and a group's claim are set, a swap is scheduled LEAD_TICKS ahead (20 by default) and answers PENDING, a resync starts afresh, and the pair is read (12 R304, R321, R326, R329, R330).
The pair in time: idle frames take numbers, silence of 100 µs loses the link and a standby's synchronisation, a lane leaves the map, acknowledged frames leave the store, a late decision, a lost bus and a RESYNC too long end synchronisation, a retry, a homing and a swap come when due, and the steps of a resync take and give up state (12 R305 to R309, R313, R316, R324 to R329).
The claim bus: a start condition opens a round, the frames decide their groups in ascending order, a frame that fails its CRC decides nothing and makes the round invalid, and the last frame ends the round (12 R322 to R324).
The payload of a Truss frame acts by its KIND and by what the unit is: a HELLO sets up the pair, canon, draws, time and records are taken by a unit in RESYNC or STANDBY, seams, the journal and the configuration also by one out of step, decisions by a standby, state items in RESYNC, Keystone items and notices by their receivers; an IDLE frame only keeps the link (12 R305 to R316, R327). -/
def Obligations.TwinActs : Prop :=
  (∀ (s : State) (m : Mbx) (c : Cmd),
    (∀ (enable singleSend : Bool) (resyncS retryHoldS : U16), s.takes m (rowTwinConfig enable singleSend resyncS retryHoldS) c 0 = true →
      exec (.twinConfig m enable singleSend resyncS retryHoldS) s = .next ((doTwinConfig enable singleSend resyncS.toNat retryHoldS.toNat s).answered m 0x0C00 c Rep.ok)) ∧
    (∀ (group : U8) (homing homeSide : Bool) (holdOffS : U16) (prefA prefB : BitVec 12), s.takes m (rowTwinClaim group homing homeSide holdOffS prefA prefB) c 0 = true →
      exec (.twinClaim m group homing homeSide holdOffS prefA prefB) s =
        .next ((doTwinClaim group.toNat homing homeSide holdOffS.toNat prefA.toNat prefB.toNat s).answered m 0x0C01 c Rep.ok)) ∧
    (∀ (group : U8) (leadTicks : U16), s.takes m (rowTwinSwap m group leadTicks) c 0 = true →
      exec (.twinSwap m group leadTicks) s = .next ((s.modTwin (fun t => { t with swap := some {
        group := if group = 0xFF then none else some group.toNat, tick := s.tick3 + (if leadTicks = 0 then 20 else leadTicks.toNat), issuer := some (m, c.seq) } })).answered m 0x0C02 c Rep.pend)) ∧
    (s.takes m rowTwinResync c 0 = true → exec (.twinResync m) s = .next (((s.modTwin (fun t => { t with failedAt := [] })).startResync 15).answered m 0x0C03 c Rep.ok)) ∧
    (s.takes m rowTwinQuery c 64 = true →
      exec (.twinQuery m) s = .next (s.answered m 0x0C04 c (Rep.ok (le 1 (twinCode s.twin.state) ++ le 1 (s.twin.peerState.getD 255).toNat ++ le 1 s.twin.version.toNat ++ le 1 s.twin.cause.toNat ++
        le 1 ((if s.twin.linkUp then s.twin.laneMap.toNat else 0) + 16 * bit s.twin.busOk + 32 * bit s.twin.singleNow) ++ le 1 s.twin.step ++ le 2 0 ++ le 8 s.heldMap ++ le 8 s.twin.canon.toNat ++
        le 4 s.twin.lagUs ++ leI 4 s.twin.tbOffsetPs ++ le 4 s.twin.failovers.toNat ++ le 4 s.twin.resyncs.toNat ++ le 8 s.twin.lastChange ++ le 4 s.twin.peerFw.toNat ++ le 12 0))))) ∧
  (∀ s : State,
    (s.twin.linkUp = true → exec .trussIdleTimer s = .next (s.modTwin (fun t => { t with unacked := t.unacked ++ [(t.txSeq, 20)], txSeq := t.txSeq + 1 }))) ∧
    (s.twin.linkUp = true → s.twin.lastFrame + State.ticksOfUs 100 ≤ s.clk →
      exec .trussLinkLost s = .next (((s.modTwin (fun t => { t with linkUp := false, authed := false, version := 0, unacked := [], mirrorStopped := false, rxSeq := 0xFFFFFFFF, txSeq := 0 })).setPeer none 1).leaveSync 1).fin) ∧
    (∀ lane : Fin 4, exec (.trussLaneFail lane) s = .next (s.modTwin (fun t => { t with laneMap := t.laneMap &&& ~~~ (BitVec.ofNat 4 (2 ^ lane.val)) }))) ∧
    (∀ n : Nat, exec (.mirrorStoreFree n) s = .next (s.modTwin (fun t => { t with
      unacked := freeFrames n t.unacked, mirrorStopped := t.mirrorStopped && decide (8388608 ≤ total (freeFrames n t.unacked) (·.2)) }))) ∧
    (s.twin.state = .standby → s.pwr.asleep = false → s.twin.lastDecision + 21 * State.ticksPerMs < s.clk → exec .decisionLate s = .next (s.leaveSync 2).fin) ∧
    (s.twin.busOk = true → s.twin.lastRound + State.ticksOfUs 1500 ≤ s.clk → ∃ t, exec .claimBusLost s = .next t ∧ t.twin.busOk = false ∧ t.twin.round = none ∧ t.twin.goodRounds = 0) ∧
    (s.twin.state = .resync → s.twin.step = 2 ∨ s.twin.step = 3 → ∀ tb0 tb3 : TimeVal, ∃ t, exec (.resyncEntry tb0 tb3) s = .next t ∧ t.twin.step = 4) ∧
    (s.twin.state = .resync → s.twin.step = 5 → s.twin.stateDone = true →
      exec .resyncSnapshot s = .next ((s.twin.stateItems.foldl (fun s i => s.stateItem i) s).modTwin (fun t => { t with
        step := 6, stateItems := [], snapTb3 := s.tick3 * 1000000, canonHeld := t.canonHeld.filter (fun x => decide (s.tick3 * 1000000 ≤ State.nsOf x.1.tb3)) })).fin) ∧
    (s.twin.state = .primary → s.twin.peerState = some 2 →
      exec .resyncSnapshot s = .next ((s.pic.dec.filter (fun d => d.2.state == .clean || d.2.state == .damaged)).foldl (fun s d => s.askKey d.2.source true false)
        (s.modTwin (fun t => { t with snapTb3 := s.tick3 * 1000000 }))).fin) ∧
    (s.twin.state = .resync → 6 ≤ s.twin.step →
      exec .resyncComplete s = .next ((((s.keyAll (fun c => State.mediaAt c s.twin.snapTb3 + 96)).modTwin (fun t => { t with
        step := 0, resyncUntil := none, retryAt := none, lastDecision := s.clk, resyncs := t.resyncs + 1, released := false, stateDone := false, peerState := some 4 })).setTwin .standby 0).fin)) ∧
    (s.twin.state = .primary → s.twin.peerState = some 2 → exec .resyncComplete s = .next (((s.keyAll (fun c => State.mediaAt c s.twin.snapTb3 + 96)).setPeer (some 3) 0).fin)) ∧
    (s.twin.switchDue = false → exec .failoverCanonSwitch s = .next s) ∧
    (s.twin.switchDue = true → s.twin.state ≠ .standby → ∃ t, exec .failoverCanonSwitch s = .next t ∧ t.twin.switchDue = false ∧ t.twin.canonEnd = none ∧ t.twin.ingress = []) ∧
    (∀ t, s.twin.state = .resync → s.twin.resyncUntil = some t → t ≤ s.clk → exec .resyncTimeout s = .next (s.leaveSync 10).fin) ∧
    (∀ t, s.twin.state = .outOfSync → s.twin.retryAt = some t → t ≤ s.clk → exec .retryHoldExpiry s = .next (s.startResync 0).fin) ∧
    (∀ (g : BitVec 6) (c : Claim) (t : Nat), tget s.twin.claims g.toNat = some c → s.twin.state = .primary → c.held = true → c.homeAt = some t → t ≤ s.clk → s.twin.swap = none → s.twin.peerState = some 3 →
      exec (.homingHoldOff g) s = .next (((s.modClaim g.toNat (fun c => { c with homeAt := none })).modTwin (fun t => { t with swap := some { group := some g.toNat, tick := s.tick3 + 20, issuer := none } })).mirror
        (Config.configBytes 0x0C02))) ∧
    (∀ w : Swap, s.twin.swap = some w → w.dropped = false → w.tick ≤ s.tick3 → s.twin.state = .primary →
      exec .swapTick s = .next (s.modTwin (fun t => { t with
        swap := some { w with dropped := true }, claims := tmap t.claims (fun g c => if (s.swapGroups w).contains g && c.held then { c with yielding := true } else c) }))) ∧
    (∀ w : Swap, s.twin.swap = some w → w.dropped = false → w.tick ≤ s.tick3 → s.twin.state = .standby →
      exec .swapTick s = .next (s.modTwin (fun t => { t with
        swap := some { w with dropped := true }, claims := tmap t.claims (fun g c => if c.used && !c.held && (w.group.isNone || w.group == some g) then { c with taking := true } else c) })))) ∧
  (∀ s : State,
    (s.boot.stage ≠ .held → exec .claimRoundStart s = .next (s.modTwin (fun t => { t with round := some (0, true), lastStart := s.clk, goodRounds := if t.round.isSome then 0 else t.goodRounds }))) ∧
    (∀ (f : ClaimFrame) (n : Nat) (valid : Bool) (u : State), s.twin.round = some (n, valid) → f.group.toNat = n → u = s.modTwin (fun t => { t with sentClaim := s.claimWord n }) →
      exec (.claimFrame f) s = .next ((if n < 63 then (if f.crcOk then u.decideGroup n f else u).modTwin (fun t => { t with round := some (n + 1, valid && f.crcOk) })
        else (if f.crcOk then u.decideGroup n f else u).endRound (valid && f.crcOk)).fin)) ∧
    (∀ (f : ClaimFrame) (n : Nat) (valid : Bool), s.twin.round = some (n, valid) → f.group.toNat ≠ n → exec (.claimFrame f) s = .next s)) ∧
  (∀ (s u : State) (h : TrussHdr),
    (∀ b : TrussHelloBody, s.trussIn h true = (u, true) → exec (.trussHello h b) s = .next (u.hello b).fin) ∧
    (s.trussIn h false = (u, true) →
      (∀ (r : CanonRec) (f : RxFrame), u.shadows = true → exec (.trussCanon h r f) s = .next (u.canonIn r f).fin) ∧
      (∀ (id : U16) (item : SeamMirror) (cmd : Instr), u.follows = true → exec (.trussSeam h id item cmd) s = .next (u.seamItem id item cmd).fin) ∧
      (∀ (r : Nat) (x : Option Record) (rseq : U64) (epoch : U32), u.follows = true → exec (.trussJournal h r x rseq epoch) s = .next (u.journalIn r x rseq epoch).fin) ∧
      (∀ (b : Fin 4) (adj : Int) (stepped : Option TimeVal) (value : TimeVal) (d : Nat), u.shadows = true → exec (.trussTime h b adj stepped d value) s = .next (u.timeIn b adj stepped value d).fin) ∧
      (∀ x : U32, u.shadows = true → exec (.trussDraw h x) s = .next (u.modTwin (fun t => { t with draws := t.draws ++ [x] })).fin) ∧
      (∀ d : DecisionRec, u.twin.state = .standby ∨ u.twin.state = .resync ∧ 6 ≤ u.twin.step → exec (.trussDecision h d) s = .next (u.decisionIn d).fin) ∧
      (∀ (items : List StateItem) (last : Bool), u.twin.state = .resync → 4 ≤ u.twin.step → u.twin.stateDone = false →
        exec (.trussState h items last) s = .next (u.modTwin (fun t => { t with step := 5, stateItems := t.stateItems ++ items, stateDone := last })).fin) ∧
      (∀ i : KsMirror, exec (.trussKeystone h i) s = .next (u.ksItem i).fin) ∧
      (∀ level : Nat, u.twin.state = .standby → exec (.trussNotice h true level) s = .next (u.modTwin (fun t => { t with raised0 := true })).fin) ∧
      (∀ level : Nat, u.twin.state = .primary → exec (.trussNotice h false level) s = .next (({ u with pwr := { u.pwr with peerLevel := level } } : State).decideLevel).fin) ∧
      (∀ (item : ConfigItem) (cmd : Instr), u.follows = true → exec (.trussConfig h item cmd) s = .next (u.configItem item cmd).fin) ∧
      (∀ (port : Fin 2) (ns : Nat) (cmd : Instr), exec (.trussConfig h (.fibre port ns) cmd) s = .next (u.configItem (.fibre port ns) cmd).fin) ∧
      exec (.trussIdle h) s = .next u.fin))

/-- A Truss frame counts only with both checksums good and the next SEQ: a frame whose header check fails changes nothing, one that fails another check changes only the link's own figures (12 R308). -/
def Obligations.TrussFramesAreChecked : Prop :=
  ∀ (s : State) (h : TrussHdr) (b : Bool),
    (h.hcrcOk = false → s.trussIn h b = (s, false)) ∧
    (h.crcOk = false ∨ h.seq ≠ s.twin.rxSeq + 1 → (s.trussIn h b).2 = false) ∧
    (h.hcrcOk = true → h.crcOk = true → s.twin.enabled = true → s.twin.linkUp = true ∨ b = true → h.seq = s.twin.rxSeq + 1 →
      (s.trussIn h b).2 = true ∧ (s.trussIn h b).1.twin.rxSeq = h.seq ∧ (s.trussIn h b).1.twin.linkUp = true ∧ (s.trussIn h b).1.twin.lastFrame = s.clk) ∧
    (s.trussIn h b).1.model = s.model ∧ (s.trussIn h b).1.keep = s.keep ∧ (s.trussIn h b).1.pl = s.pl ∧ (s.trussIn h b).1.twin.state = s.twin.state ∧ (s.trussIn h b).1.twin.claims = s.twin.claims ∧
    ((s.trussIn h false).2 = false →
      (∀ item cmd, exec (.trussConfig h item cmd) s = .next (s.trussIn h false).1) ∧ (∀ r f, exec (.trussCanon h r f) s = .next (s.trussIn h false).1) ∧
      (∀ d, exec (.trussDecision h d) s = .next (s.trussIn h false).1) ∧ (∀ i, exec (.trussKeystone h i) s = .next (s.trussIn h false).1))

/-- Two units of opposite sides that exchange their claims for a group in one frame never both win it, and one of them wins it if either claims (12 R321, R323). -/
def Obligations.OneUnitWinsAGroup : Prop :=
  ∀ (a b : State) (g : Nat) (fa fb : ClaimFrame), a.pins.twinSide ≠ b.pins.twinSide →
    fa.peerSide = b.pins.twinSide → fb.peerSide = a.pins.twinSide → fa.peerClaim = some (BitVec.ofNat 16 (b.claimNo g)) → fb.peerClaim = some (BitVec.ofNat 16 (a.claimNo g)) →
    (a.claimWon g fa && b.claimWon g fb) = false ∧ ((a.claimWon g fa || b.claimWon g fb) = (decide (a.claimNo g ≠ 0) || decide (b.claimNo g ≠ 0)))

/-- A unit claims no group that it does not use, and none while Keystone has not released it, in a trip or in Park; a standby that holds nothing claims below the holder, and a claim raised to take a group is above every other (12 R320, R321, 16 R422). -/
def Obligations.ClaimRanksAreOrdered : Prop :=
  ∀ (s : State) (g : Nat) (c : Claim), tget s.twin.claims g = some c →
    (c.used = false ∨ s.ks.released = false ∨ s.ks.state = .trip ∨ s.ks.state = .park → s.claimNo g = 0) ∧
    (s.claimNo g < 0xF000) ∧
    (s.twin.state = .standby → c.taking = false → c.held = false → (g = 0 → s.twin.raised0 = false) → s.claimNo g < 0x9000) ∧
    (c.used = true → s.twin.released = false → s.ks.released = true → s.ks.state ≠ .trip → s.ks.state ≠ .park → s.twin.state = .primary → c.held = true → c.yielding = false →
      0xC000 ≤ s.claimNo g) ∧
    (c.used = true → s.twin.released = false → s.ks.released = true → s.ks.state ≠ .trip → s.ks.state ≠ .park → s.twin.state = .standby → c.taking = true → 0xE000 ≤ s.claimNo g)

/-! ### Keeping (13) -/

/-- The keep commands complete: a record is looked up by its number or key, written or cleared through the journal with the reply when it is durable, the region's health and the fault records are read, a snapshot starts, settings enter, and a format waits for its end (13 R342 to R362).
The Keeping region in time: a journal group closes 5 ms after its first entry and commits in order when it is programmed, a failed program retires a block and may leave the region read-only; a pass starts on span or age, takes its segments and ends with its checkpoint or puts them back; the scrub counts, refreshes and answers the loss of a record with the older copy and marks a pattern generation damaged; mounting reads, summarises and indexes (13 R341 to R361). -/
def Obligations.KeepingActs : Prop :=
  (∀ (s : State) (m : Mbx) (c : Cmd),
    (∀ (byRecord : U8) (record : U32) (key : U128) (r : Nat) (x : Record), (if byRecord = 1 then some record.toNat else s.findKey key) = some r → s.recordSeen r = some x →
      s.takes m (rowKeepLookup byRecord record key) c (16 + (recordBytes (Record.read x)).length) = true →
      exec (.keepLookup m byRecord record key) s = .next (s.answered m 0x0D00 c (Rep.ok (le 4 (bit (s.keep.mount == .summaries) + 2 * bit (thas s.keep.unwritten r)) ++ le 4 r ++
        le 1 x.format ++ le 7 0 ++ recordBytes (Record.read x))))) ∧
    (∀ (q : RecordReq) (r : Nat) (x : Record), s.recordWrite q = some (r, some x) → s.accepts m (rowKeepRecord m q) c = true →
      exec (.keepRecord m q) s = .next (((s.modKeep (fun k => { k with unwritten := tdel k.unwritten r })).journalRoster (.put r x) (some (m, c.seq))).acting m 0x0D01 c Rep.goesOn)) ∧
    (∀ (q : RecordReq) (r : Nat), s.recordWrite q = some (r, none) → s.accepts m (rowKeepRecord m q) c = true →
      exec (.keepRecord m q) s = .next (((s.modKeep (fun k => { k with unwritten := tdel k.unwritten r })).journalRoster (.clear r) (some (m, c.seq))).acting m 0x0D01 c Rep.goesOn)) ∧
    (∀ area : Fin 3 → Bytes, (∀ k, area k = le 4 (s.wearOf k).1 ++ le 4 (s.wearOf k).2.1 ++ le 2 (s.wearOf k).2.2.1 ++ le 2 (s.keep.areas.get k).bad ++
        le 4 (if (s.wearOf k).1 = 0 ∧ (s.wearOf k).2.1 = 0 then 0xFFFFFFFF else (s.wearOf k).2.2.2)) → s.takes m rowKeepHealth c 96 = true →
      exec (.keepHealth m) s = .next (s.answered m 0x0D02 c (Rep.ok (le 1 s.keep.level.toNat ++ le 1 s.keep.dies ++ le 2 s.keep.gib ++ le 4 s.keep.recs.length ++ le 4 s.keep.lost.toNat ++ le 4 s.dirtyBytes ++
        le 4 (s.keep.span / 1048576) ++ le 2 (min 100 (Config.scrubPct s.keep.scrubbed)) ++ le 2 s.keep.torn ++ area 0 ++ area 1 ++ area 2 ++ le 8 s.keepTime ++ le 16 0)))) ∧
    (∀ (first count : U32) (l : List FaultRec), l = (s.keep.log.filter (fun f => decide (first.toNat ≤ f.seq))).take count.toNat →
      s.takes m (rowKeepFaults first count) c (8 + (l.flatMap faultBytes).length) = true →
      exec (.keepFaults m first count) s = .next (s.answered m 0x0D03 c (Rep.ok (le 4 l.length ++ le 4 0 ++ l.flatMap faultBytes)))) ∧
    (s.takes m (rowKeepSnapshot m) c 0 = true → exec (.keepSnapshot m) s = .next ((s.startPass (some (m, c.seq))).answered m 0x0D04 c Rep.pend)) ∧
    (∀ retainDays scrubDays refreshBits : U16, s.takes m (rowKeepConfig retainDays scrubDays refreshBits) c 0 = true →
      exec (.keepConfig m retainDays scrubDays refreshBits) s = .next ((doKeepConfig retainDays.toNat scrubDays.toNat refreshBits.toNat s).answered m 0x0D05 c Rep.ok)) ∧
    (∀ confirm : U32, s.accepts m (rowKeepFormat m confirm) c = true →
      exec (.keepFormat m confirm) s = .next ((s.modKeep (fun k => { k with formatFor := some (m, c.seq) })).acting m 0x0D06 c Rep.goesOn))) ∧
  (∀ s : State,
    (s.keep.open_ ≠ [] → s.keep.openAt + 5 * State.ticksPerMs ≤ s.now → exec .journalGroupClose s = .next s.closeGroup) ∧
    (∀ gseq : Nat, s.keep.groups.any (fun g => g.gseq == gseq && !g.programmed) = true →
      exec (.groupProgramDone gseq true) s = .next (((s.modKeep (fun k => { k with
        groups := k.groups.map (fun g => if g.gseq = gseq then { g with programmed := true } else g),
        lastPage := (k.groups.filter (fun g => g.gseq == gseq)).foldl (fun t g => tput t g.die g.page) k.lastPage })).commitReady s.keep.groups.length).fin)) ∧
    (∀ (gseq : Nat) (u : State), s.keep.groups.any (fun g => g.gseq == gseq && !g.programmed) = true →
      u = s.modKeep (fun k => { k with areas := k.areas.set 1 { bad := (k.areas.get 1).bad + 1 } }) →
      exec (.groupProgramDone gseq false) s = .next (u.setLevel (if (u.wearOf 1).2.2.1 = 0 then 3 else u.wearLevel)).fin) ∧
    (s.journalUp = true → s.keep.pass = none → 34359738368 ≤ s.keep.span ∨ s.keep.lastPass + 86400 ≤ s.keepTime → exec .snapshotPassStart s = .next (s.startPass none)) ∧
    (∀ (n : Nat) (loc : U32) (start : Nat) (left : List Nat) (done : Nat), s.keep.pass = some (start, left, done) → left.contains n = true →
      exec (.segmentImageDone n loc) s = .next ((s.modKeep (fun k => { k with pass := some (start, left.filter (fun x => x != n), done + 1) })).journal { kind := .segment n loc })) ∧
    (∀ (start done : Nat), s.keep.pass = some (start, [], done) → s.keep.passFor = none →
      exec (.snapshotPassEnd true) s = .next ((((s.modKeep (fun k => { k with pass := none, passFor := none })).modKeep (fun k => { k with
        span := min s.keep.span ((s.keep.nextGseq - start) * 16384), ckptCopy := 1 - k.ckptCopy, ckptGseq := start,
        newest := k.newest.filter (fun p => decide (start ≤ p.2.1)), older := k.older.filter (fun p => decide (start ≤ p.2.1)) })).journal { kind := .checkpoint (1 - s.keep.ckptCopy) }).fin)) ∧
    (∀ (start : Nat) (left : List Nat) (done : Nat), s.keep.pass = some (start, left, done) → s.keep.passFor = none →
      exec (.snapshotPassEnd false) s = .next ((s.modKeep (fun k => { k with pass := none, passFor := none })).modKeep (fun k => { k with
        dirtySegs := k.dirtySegs ++ left.filter (fun x => !k.dirtySegs.contains x) })).fin) ∧
    (∀ (start : Nat) (left : List Nat) (done : Nat) (ok : Bool) (k : Mbx) (n : Nat), s.keep.pass = some (start, left, done) → s.keep.passFor = some (k, n) → ok = false ∨ left = [] →
      ∃ t, exec (.snapshotPassEnd ok) s = .next t ∧ t.keep.pass = none ∧ t.keep.passFor = none) ∧
    (∀ (corrected reads : Nat) (soft : Bool) (record generation : Option Nat), s.journalUp = true →
      exec (.scrubRead corrected soft reads false record generation) s = .next (s.modKeep (fun k => { k with
        scrubbed := if 100 ≤ Config.scrubPct (s.keep.scrubbed + 1) then 0 else k.scrubbed + 1,
        scrubBy := if 100 ≤ Config.scrubPct (s.keep.scrubbed + 1) then s.keepTime + 86400 * k.scrubDays else k.scrubBy,
        refreshed := if k.refreshBits < corrected ∨ soft ∨ 200000 ≤ reads then k.refreshed + 1 else k.refreshed }))) ∧
    (∀ (corrected reads : Nat) (soft : Bool) (r : Nat) (generation : Option Nat), s.journalUp = true → thas s.keep.recs r = true →
      jFind r (s.keep.groups.flatMap (fun (g : JGroup) => g.entries) ++ s.keep.open_) = none → tget s.keep.older r = none →
      ∃ t, exec (.scrubRead corrected soft reads true (some r) generation) s = .next t ∧ tget t.keep.recs r = none ∧ t.keep.lost = s.keep.lost + 1) ∧
    (∀ (corrected reads : Nat) (soft : Bool) (r : Nat) (x : Nat × Record) (generation : Option Nat), s.journalUp = true → thas s.keep.recs r = true →
      jFind r (s.keep.groups.flatMap (fun (g : JGroup) => g.entries) ++ s.keep.open_) = none → tget s.keep.older r = some x →
      ∃ t, exec (.scrubRead corrected soft reads true (some r) generation) s = .next t ∧ tget t.keep.recs r = some x.2 ∧ t.keep.lost = s.keep.lost) ∧
    (∀ (corrected reads g : Nat) (soft : Bool) (record : Option Nat), s.journalUp = true →
      ∃ t : State, exec (.scrubRead corrected soft reads true record (some g)) s = .next t ∧ t.patt.gens = tmod s.patt.gens g (fun x => { x with damaged := true })) ∧
    (∀ (corrected reads : Nat) (soft : Bool), s.journalUp = true →
      ∃ t : State, exec (.scrubRead corrected soft reads true none none) s = .next t ∧ t.keep.recs = s.keep.recs ∧ t.patt = s.patt) ∧
    (∀ r : MountResult, s.keep.mount = .reading → s.storeOk = false → exec (.mountJournalReady r) s = .next ((s.modKeep (fun k => { k with mount := .unusable })).setLevel 3).fin) ∧
    (∀ r : MountResult, s.keep.mount = .reading → s.storeOk = true → ∃ t, exec (.mountJournalReady r) s = .next t ∧ t.keep.mount = .ready ∧ t.keep.torn = r.torn ∧ s.keep.mark ≤ t.keep.mark) ∧
    (s.keep.mount = .ready → exec .mountSummariesLoaded s = .next (s.modKeep (fun k => { k with mount := .summaries }))) ∧
    (s.keep.mount = .summaries → exec .mountIndexed s = .next (((s.modKeep (fun k => { k with mount := .indexed })).readyBit 5 true).keepEvent 1 0 0).fin))

/-- Journal groups commit in the order of their numbers: a group that is programmed waits until every earlier group has committed, and a commit takes groups from the front only; groups closed meanwhile wait behind (13 R342, R343). -/
def Obligations.JournalGroupsCommitInOrder : Prop :=
  ∀ (s : State) (n : Nat), ∃ done fresh : List JGroup, s.keep.groups ++ fresh = done ++ (s.commitReady n).keep.groups ∧ done.all (·.programmed) = true ∧ fresh.all (fun g => !g.programmed) = true ∧
    (s.keep.groups.length ≤ n → ∀ g, (s.commitReady n).keep.groups.head? = some g → g.programmed = false)

/-! ### Dispatch and the DSP cells (14) -/

/-- The kernel and trace commands complete: a kernel is loaded at the named or lowest free number with its cost, unloaded and read; the trace is configured afresh, and read from the oldest record kept; a block's groups are read (14 R368, R369, R374, R376).
Dispatch in time: a cell's GET is served or the cell stays blocked, a task that becomes READY goes to the cell blocked longest, the end of a run corrects the group's deficit and the task's EST, and a stitch tick is begun once (14 R359, R361 to R364). -/
def Obligations.DispatchActs : Prop :=
  (∀ (s : State) (m : Mbx) (c : Cmd),
    (∀ (q : KernelReq) (k : Nat), s.kernelIndex q = some k → s.takes m (rowKernelLoad q) c 8 = true →
      exec (.kernelLoad m q) s = .next ((s.modDisp (fun d => { d with kernels := tput d.kernels k { req := q } })).answered m 0x1300 c (Rep.ok (le 4 k ++ le 4 (kernelCost q.cycles.toNat q.stateBytes.toNat))))) ∧
    (∀ kernel : U16, s.takes m (rowKernelUnload kernel) c 0 = true →
      exec (.kernelUnload m kernel) s = .next ((s.modDisp (fun d => { d with kernels := tdel d.kernels kernel.toNat })).answered m 0x1301 c Rep.ok)) ∧
    (∀ (kernel : U16) (k : Kernel), tget s.disp.kernels kernel.toNat = some k → s.takes m (rowKernelQuery kernel) c 24 = true →
      exec (.kernelQuery m kernel) s = .next (s.answered m 0x1302 c (Rep.ok (le 4 k.req.cycles.toNat ++ le 2 k.req.stateBytes.toNat ++ le 1 (if k.req.group = 0 then 2 else k.req.group.toNat) ++ le 1 k.req.weight.toNat ++
        le 4 (kernelCost k.req.cycles.toNat k.req.stateBytes.toNat) ++ le 4 (s.chainsOf kernel.toNat) ++ le 4 k.faults.toNat ++ le 4 k.maxUsed)))) ∧
    (∀ q : TraceReq, s.takes m (rowTraceConfig q) c 0 = true →
      exec (.traceConfig m q) s = .next ((s.modDisp (fun d => { d with trace := some q, ring := [], next := 0, dropped := 0, tries := 0, lost := 0, full := false })).answered m 0x1100 c Rep.ok)) ∧
    (∀ (start : U64) (count : U32) (oldest first : Nat) (l : List TraceRec), oldest = s.disp.next - s.disp.ring.length → first = max start.toNat oldest →
      l = ((s.disp.ring.drop (first - oldest)).take count.toNat).take ((c.hdr.replyLen.toNat - 16) / 16) → s.takes m (rowTraceRead start count) c (16 + 16 * l.length) = true →
      exec (.traceRead m start count) s = .next (s.answered m 0x1101 c (Rep.ok (le 8 first ++ le 4 l.length ++ le 4 (bit (decide (start.toNat < oldest))) ++ l.flatMap traceBytes)))) ∧
    (∀ (block : U8) (group : Nat → Bytes), (∀ g, group g = le 1 (s.groupWeight g) ++
        le 3 (s.disp.tasks.filter (fun p => p.2.block == block.toNat && p.2.group == g && p.2.state == .ready)).length ++ leI 4 (((s.dispBlock block.toNat).deficit[g]?).getD 0) ++
        le 4 (((s.dispBlock block.toNat).handouts[g]?).getD 0).toNat ++ le 4 (((s.dispBlock block.toNat).late[g]?).getD 0).toNat) → s.takes m (rowTraceQuery block) c 272 = true →
      exec (.traceQuery m block) s = .next (s.answered m 0x1102 c (Rep.ok (le 8 s.disp.dropped ++ le 8 s.disp.next ++ (List.range 16).flatMap group))))) ∧
  (∀ s : State,
    (∀ cell : U16, s.dspOk cell = true → (s.dsp cell).prefetched = none → exec (.dispatchGet cell) s = .next (s.serveGet cell).fin) ∧
    (∀ (n : Nat) (t : Task) (cell : U16), tget s.disp.tasks n = some t → t.state = .ready → ((s.dispBlock t.block).blocked.filter s.dspOk).head? = some cell →
      exec (.taskReadyHandout n) s = .next (s.serveGet cell).fin) ∧
    (∀ (n used : Nat) (how : RunEnd) (t : Task), tget s.disp.tasks n = some t → t.state = .running → (s.dsp t.cell).running = some n → t.group < 16 →
      ∃ u, exec (.taskEnd n used how) s = .next u ∧ (u.dispBlock t.block).deficit[t.group]? = some ((((s.dispBlock t.block).deficit[t.group]?).getD 0) + t.est - used) ∧
        (u.dsp t.cell).running = (s.dsp t.cell).prefetched ∧ (u.dsp t.cell).prefetched = none ∧
        (if t.deleted then tget u.disp.tasks n = none else ∃ x, tget u.disp.tasks n = some x ∧ x.est = used)) ∧
    (∀ (c : Nat) (q : Conf), tget s.model.confs c = some q → q.origin.isSome = true → q.basted = none → s.twin.state ≠ .standby → s.twin.state ≠ .resync →
      (∀ p, tget s.snd.ticks c = some p → p < s.media c / 48) → ∃ t, exec (.stitchTick c) s = .next t ∧ tget t.snd.ticks c = some (s.media c / 48)))

/-- Every GET is served: where a group has a READY task and a weight, the round robin hands out the head of some group's queue (14 R363). -/
def Obligations.EveryGetIsServed : Prop :=
  ∀ (head : Nat → Option (Nat × Nat)) (weight : Nat → Nat) (b : DispBlock),
    b.ptr < 16 → (∀ g, g < 16 → head g ≠ none → 0 < weight g) → (∃ g, g < 16 ∧ head g ≠ none) →
    ∃ g n est, g < 16 ∧ head g = some (n, est) ∧ (drr head weight (drrTurns b) b).2 = some n ∧ (drr head weight (drrTurns b) b).1.ptr = g ∧
      (drr head weight (drrTurns b) b).1.fresh = false

/-- A post-modify through a bound register never leaves its ring, and is the linear sum otherwise; a saturating result stays within its width and equals the exact one where that fits (14 R371, R372). -/
def Obligations.DspArithmeticStaysInItsBounds : Prop :=
  (∀ (p q : BitVec 20) (n : Int) (bind first span : Nat) (hoops : Vector (BitVec 40) 4), 1 ≤ bind → bind ≤ 4 →
    first = ((hoops[bind - 1]?).getD 0).toNat % 2 ^ 20 → span = ((hoops[bind - 1]?).getD 0).toNat / 2 ^ 20 → span ≠ 0 → postModify p n bind hoops = .address q →
    first ≤ q.toNat ∧ q.toNat < first + span ∧ ((q.toNat : Int) - p.toNat - n) % span = 0) ∧
  (∀ (p : BitVec 20) (n : Int) (hoops : Vector (BitVec 40) 4), postModify p n 0 hoops = .address (BitVec.ofInt 20 (p.toNat + n))) ∧
  (∀ (p : BitVec 20) (n : Int) (bind : Nat) (hoops : Vector (BitVec 40) 4), 5 ≤ bind → postModify p n bind hoops = .illegal) ∧
  (∀ (a : BitVec 80) (x : Int) (minus : Bool), -(2 ^ 79) ≤ a.toInt + (if minus then -x else x) → a.toInt + (if minus then -x else x) < 2 ^ 79 →
    (accumulate true a x minus).toInt = a.toInt + (if minus then -x else x) ∧ accumulate true a x minus = accumulate false a x minus) ∧
  (∀ (a : BitVec 80) (x : Int), 2 ^ 79 ≤ a.toInt + x → accumulate true a x false = BitVec.intMax 80) ∧
  (∀ (k : Nat) (a : BitVec 80), 2 ^ 31 - 1 ≤ (if k = 0 then a.toInt else (a.toInt + 2 ^ (k - 1)) / 2 ^ k) → extract true k a = BitVec.intMax 32)

/-! ### Cells, blocks, spools and reset (01, 18) -/

/-- A spool never overfills: every write and every loss of its producer or consumer keeps it within its array with the last free slot for a marker, and a read takes the oldest slot where the arbiter of the cell's inputs serves that spool; a read at another spool's turn takes nothing (01 R17, R31, R33 to R39). -/
def Obligations.SpoolsKeepTheirReserve : Prop :=
  ∀ (q : Spool) (now : Nat) (op : SpoolOp), 2 ≤ q.depth → q.ok = true →
    (q.write now op).ok = true ∧ (q.write now op).depth = q.depth ∧ q.producerLost.ok = true ∧ q.consumerLost.ok = true ∧ (∀ b, (q.withdraw b).ok = true) ∧
    (∀ x rest, q.slots = x :: rest → x.tag ≠ 3 → Spool.ok { q with slots := rest } = true) ∧
    (∀ (s u : State) (n left : Nat) (x : Slot) (rest : List Slot), s.spool n = q → u = s.modSpool n (fun q => q) → (u.cellPick q.consumer).all (fun k => k == n) = true → q.slots = x :: rest → x.tag ≠ 3 → x.tag ≠ 2 →
      left = (if x.tag = 1 then (x.word.toNat % 65536 + 7) / 8 else if x.tag = 0 then q.wordsLeft - 1 else 0) →
      ∃ t : State, exec (.spoolRead n) s = .next t ∧ (t.spool n).slots = rest ∧ (t.spool n).taken = some x ∧ (t.spool n).stalled = false ∧ (t.spool n).wordsLeft = left ∧
        (left = 0 → t.fab.via.inputTurn = tput s.fab.via.inputTurn q.consumer.toNat n)) ∧
    (∀ (s u : State) (n k : Nat), s.spool n = q → u = s.modSpool n (fun q => q) → u.cellPick q.consumer = some k → k ≠ n → q.slots.head?.any (fun x => x.tag != 3) = true → exec (.spoolRead n) s = .next u)

/-- Faults of cells, blocks, regions and spans act at their level: a cell's fault is retried, counted or fenced; a silent cell, a late one, an unfilled length word and an unacknowledged unpick fence it; a block drains with its outstanding requests completed and their results discarded, resets, tests itself and returns or is retired; a region in trouble too long, or an arbiter of the chip, resets the device (01 R16 to R30, R37, R41).
What a reset leaves: a RESET_N pulse under 1 µs is ignored, one of 2 µs or more empties conferences, sound, pictures, forwarding, the network, the mailboxes and device memory; the store, the generations and host memory stay, posted writes on their way to it landing; releasing RESET_N samples the straps and boots; a format ends by a device reset with the format's command answered (03 R99, 18 R459, R465, 19 Table 19-7). -/
def Obligations.FaultsAndResetsAct : Prop :=
  (∀ s : State,
    (∀ (cell : U16) (cause : U8) (detail : U32), isCell cell = true → regionOf cell ≠ 7 → (s.block (blockOfIsland cell)).phase = .inService →
      exec (.cellFaultDetect cell cause detail) s = .next ((s.compareFail cell cause).cellFail cell cause.toNat detail)) ∧
    (∀ (cell : U16) (f : CellFault) (t : Nat), (s.cell cell).fault = some f → (s.cell cell).lastRecord = some t → t / 3600 = s.chipS / 3600 →
      exec (.cellRetryResult cell true) s = .next (s.modCell cell (fun c => { c with fault := none, corrected := c.corrected + 1 })).fin) ∧
    (∀ (cell : U16) (f : CellFault), (s.cell cell).fault = some f → (s.cell cell).lastRecord.all (fun t => t / 3600 != s.chipS / 3600) = true →
      exec (.cellRetryResult cell true) s = .next ((s.modCell cell (fun c => { c with fault := none, corrected := c.corrected + 1, lastRecord := some s.chipS })).faultRec cell 0 f.cause.toNat 0 (detail := f.detail)).fin) ∧
    (∀ (cell : U16) (f : CellFault), (s.cell cell).fault = some f → exec (.cellRetryResult cell false) s = .next (s.fence cell (if f.cause = 0xC then 0xC else 2) f.detail).fin) ∧
    (∀ cell : U16, exec (.cellSilent cell) s = .next (s.fence cell 3).fin) ∧
    (∀ (i : U16) (f : CellFault), cellNo i ≠ 63 → (s.cell i).fault = some f → f.since + State.ticksOfUs 10 ≤ s.clk → exec (.boundExpired i) s = .next (s.fence i 9).fin) ∧
    (∀ i : U16, cellNo i = 63 → (s.block i).phase = .draining ∨ (s.block i).phase = .selfTest ∧ (s.block i).cause ≠ 0 → thas s.fab.regions (regionOf i) = false → (s.block i).since + 5 * State.ticksPerMs ≤ s.clk →
      exec (.boundExpired i) s = .next (s.chipLevel (regionOf i) 9 (s.block i).detail).fin) ∧
    (∀ (i : U16) (since : Nat) (detail : U32), cellNo i = 63 → (s.block i).phase = .inService → (s.block i).fenceAt = some (since, detail) → since + State.ticksPerMs ≤ s.clk →
      exec (.boundExpired i) s = .next ((s.modBlock i (fun x => { x with fenceAt := none })).blockFault i 9 detail).fin) ∧
    (∀ (n : Nat) (t : Nat), (s.spool n).openSince = some t → t + State.ticksOfUs 10 ≤ s.clk →
      exec (.lengthUnfilled n) s = .next (((s.modSpool n (fun q => q.withdraw true)).fence (s.spool n).producer 0xB (BitVec.ofNat 32 n)).fin)) ∧
    (∀ (cell : U16) (t : Nat), s.seams.unacked.find? (fun u => u.1 == cell) = some (cell, t) → t ≤ s.clk →
      exec (.unpickAckTimeout cell) s = .next ((({ s with seams := { s.seams with unacked := s.seams.unacked.filter (fun u => u.1 != cell) } } : State).fence cell 3).fin)) ∧
    (∀ (b : U16) (drop : DramReq → DramReq) (u : State), (s.block b).phase = .draining → (∀ r, drop r = if blockOfIsland r.cell = b then { r with op := match r.op with | .read ecc crcOk _ => .read ecc crcOk .other | op => op } else r) →
      u = (s.modVia (fun v => { v with waiting := v.waiting.map drop })).modMem (fun m => { m with chans := m.chans.map (fun c => { c with queues := tmap c.queues (fun _ q => q.map drop), issued := c.issued.map drop }) }) →
      exec (.regionBlockDrainDone b) s = .next (u.fabricDrain.resetBlock b).fin) ∧
    (∀ (b : U16) (failed : List Nat), (s.block b).phase = .selfTest → ∃ t, exec (.blockSelfTestDone b failed true) s = .next t ∧ (t.block b).phase = .inService) ∧
    (∀ (b : U16) (failed : List Nat), (s.block b).phase = .selfTest → (s.modBlock b (fun y => { y with phase := .retired })).blockLeft (regionOf b) (blockKind (regionOf b) (blockNo b)) = true →
      ∃ t, exec (.blockSelfTestDone b failed false) s = .next t ∧ (t.block b).phase = .retired) ∧
    (∀ (b : U16) (address : U32), exec (.blockMemParity b address) s = .next (s.blockFault b 4 address).fin) ∧
    (∀ (r : Fin 8) (cause : U8) (detail : U32), r.val ≠ 7 → thas s.fab.regions r.val = false →
      exec (.chipFault r cause detail) s = .next (s.chipLevel r.val cause.toNat (BitVec.ofNat 32 detail.toNat) 3).fin) ∧
    (∀ (r : Fin 8) (x : RegionFault), tget s.fab.regions r.val = some x → x.since + 250 * State.ticksPerMs ≤ s.clk →
      exec (.regionRecoveryTimeout r) s = .next (s.faultReset (regionIsland r.val) 9 0).fin) ∧
    (∀ i : U16, exec (.arbiterFault i 1) s = .next (s.blockFault (blockOfIsland i) 8).fin) ∧
    (∀ i : U16, regionOf i ≠ 7 → thas s.fab.regions (regionOf i) = false → exec (.arbiterFault i 2) s = .next (s.chipLevel (regionOf i) 8 0).fin) ∧
    (∀ i : U16, exec (.arbiterFault i 3) s = .next (s.claimStep.faultReset i 8 0).fin) ∧
    (∀ (n : Nat) (toRegion : Bool) (i : U16), exec (.spanFlitError n false toRegion true i) s = .next (s.spanFault n false toRegion i 5)) ∧
    (∀ (n : Nat) (toRegion resent : Bool) (i : U16), ((tget s.fab.spans n).getD {}).replays = 0 →
      exec (.spanFlitError n true toRegion resent i) s = .next { s with fab := { s.fab with spans := tput s.fab.spans n { replays := 1, firstReplay := s.clk } } }) ∧
    (∀ (n : Nat) (toRegion resent : Bool) (i : U16) (x : Span), tget s.fab.spans n = some x → 1 ≤ x.replays → x.replays < 8 → s.clk ≤ x.firstReplay + State.ticksOfUs 1 →
      exec (.spanFlitError n true toRegion resent i) s = .next { s with fab := { s.fab with spans := tput s.fab.spans n { x with replays := x.replays + 1 } } }) ∧
    (∀ (n : Nat) (toRegion resent : Bool) (i : U16) (x : Span), tget s.fab.spans n = some x → x.replays = 8 → s.clk ≤ x.firstReplay + State.ticksOfUs 1 →
      exec (.spanFlitError n true toRegion resent i) s = .next (({ s with fab := { s.fab with spans := tdel s.fab.spans n } } : State).spanFault n true toRegion i 6)) ∧
    (∀ (n : Nat) (toRegion : Bool) (i : U16), exec (.spanFlitError n false toRegion false i) s = .next s) ∧
    (∀ (n : Nat) (die toRegion : Bool) (i : U16), exec (.spanWatchdog n die toRegion i) s = .next (s.spanFault n die toRegion i 7)) ∧
    (∀ (n : Nat) (op : SpoolOp), s.mayWrite n = true → exec (.spoolWrite n op) s = .next (s.modSpool n (fun q => q.write s.clk op))) ∧
    (∀ (n : Nat) (op : SpoolOp), s.mayWrite n = false → exec (.spoolWrite n op) s = .next s) ∧
    (∀ n : Nat, (s.spool n).slots = [] → exec (.spoolRead n) s = .next ((s.modSpool n (fun q => q)).modSpool n (fun q => { q with stalled := true, taken := none }))) ∧
    (∀ (n : Nat) (x : Slot) (rest : List Slot) (u v : State), (s.spool n).slots = x :: rest → x.tag = 2 → u = s.modSpool n (fun q => q) → (u.cellPick (s.spool n).consumer).all (fun k => k == n) = true →
      v = (u.modSpool n (fun q => { q with slots := rest, stalled := false, taken := some x, wordsLeft := 0, snagged := q.snagged + x.dropped })).modVia (fun w => { w with inputTurn := tput w.inputTurn (s.spool n).consumer.toNat n }) →
      exec (.spoolRead n) s = .next (if (s.spool n).class0 then v.cellFail (s.spool n).producer 0xC (BitVec.ofNat 32 n) else (v.mediaSnag n { s.spool n with slots := rest } x.dropped).fin))) ∧
  (∀ s : State,
    (∀ n : Nat, n < 1000 → exec (.resetNAssert n) s = .next s) ∧
    (∀ n : Nat, 2000 ≤ n → s.pins.resetN = true → ∃ t, exec (.resetNAssert n) s = .next t ∧ t.pins.resetN = false ∧ t.model = State.reset.model ∧ t.snd = State.reset.snd ∧ t.pic = State.reset.pic ∧
      t.fwd = State.reset.fwd ∧ t.net = State.reset.net ∧ t.pl = State.reset.pl ∧ t.seams = State.reset.seams ∧ t.twin = State.reset.twin ∧ t.mem.dram = [] ∧ t.mem.host = s.landed ∧
      t.keep.recs = s.keep.recs ∧ t.patt.gens = s.patt.gens ∧ t.patt.proven = s.patt.proven) ∧
    (∃ t, exec .liveInsertion s = .next t ∧ t.pins.resetN = false ∧ t.model = State.reset.model ∧ t.pl = State.reset.pl ∧ t.mem.dram = [] ∧ t.keep.recs = s.keep.recs ∧ t.patt.gens = s.patt.gens) ∧
    (∀ (src side : Bool) (addr : BitVec 3), s.pins.resetN = false → ∃ t, exec (.resetNRelease src side addr) s = .next t ∧ t.pins.resetN = true ∧ t.pins.bootSrc = src ∧ t.pins.twinSide = side ∧
      t.pins.mgmtAddr = addr ∧ t.boot.stage = .keystone ∧ t.keep.mount = .reading) ∧
    (∀ (m : Mbx) (n : Nat), s.keep.formatFor = some (m, n) → ∃ t, exec .storeFormatDone s = .next t ∧ t.keep.recs = [] ∧ t.patt.gens = [] ∧ t.mem.dram = [] ∧ t.boot.stage = .keystone))

/-! ### Memory (15) -/

/-- The mem commands complete: settings are taken where they are not 0, a channel is read and its counts cleared on request, the map lists pools and windows, a window is removed, and one is created at its number and base (15 mem.config to mem.window, R395).
What happens in the memory: a read or a table write is a request, which waits its turn where told to and otherwise completes, and does nothing at an address that does not exist or from a cell that is out. At its tile a read corrects and counts, a tile that fails its CRC is poisoned and its user acts on it, an uncorrectable read in FIRMWARE is a Pier fault, and a release frees its tile; a whole table write clears poison, a partial one verifies first; a media tile opens for its writer. A patrol read corrects and checks; activates are counted per bank and the count is cleared at the end of a refresh window; a channel calibrates and retrains when due, and its second failure in a row is a block fault (15 R382 to R393). -/
def Obligations.MemoryActs : Prop :=
  (∀ (s : State) (m : Mbx) (c : Cmd),
    (∀ (act : U16) (patrol : U8) (ms : U16), s.takes m (rowMemConfig act patrol ms) c 0 = true →
      exec (.memConfig m act patrol ms) s = .next ((s.modMem (fun x => { x with
        actThreshold := if act = 0 then x.actThreshold else act.toNat, patrolNext := if patrol = 0 then x.patrolNext else patrol.toNat,
        retrainMs := if ms = 0 then x.retrainMs else ms.toNat })).answered m 0x1400 c Rep.ok)) ∧
    (∀ (channel : U8) (clear : Bool) (k : MemChan), k = s.chan channel.toNat → s.takes m (rowMemQuery channel clear) c 48 = true →
      exec (.memQuery m channel clear) s =
        .next ((if clear then s.modChan channel.toNat (fun k => { k with eccCorrected := 0, eccUncorr := 0, crcFail := 0, neighbour := 0, retrains := 0, retrainFails := 0 }) else s).answered m 0x1401 c
          (Rep.ok (le 1 k.state ++ le 1 k.ranks ++ le 2 k.rate ++ le 2 k.gib ++ leI 2 k.tempC ++ le 4 k.eccCorrected.toNat ++ le 4 k.eccUncorr.toNat ++ le 4 k.crcFail.toNat ++
            le 4 (s.mem.tiles.filter (fun p => p.2.poison && s.chanOf p.1 == channel.toNat)).length ++ le 4 k.neighbour.toNat ++ le 4 k.retrains.toNat ++ le 4 k.retrainFails.toNat ++
            le 2 (if s.dramTop = 0 then 0 else s.mem.patrolAt * 100 / s.dramTop) ++ le 10 0)))) ∧
    (s.takes m rowMemMap c (136 + 24 * s.mem.windows.length) = true →
      exec (.memMap m) s = .next (s.answered m 0x1402 c (Rep.ok (le 1 (5 + s.mem.windows.length) ++ le 7 0 ++ le 8 s.dramTop ++
        (List.range 5).flatMap (fun k => le 1 k ++ le 1 255 ++ le 6 0 ++ le 8 (s.poolBase k) ++ le 8 (s.poolSize k)) ++
        s.mem.windows.flatMap (fun p => le 1 5 ++ le 1 p.1 ++ le 6 0 ++ le 8 p.2.base ++ le 8 (s.windowBytes p.2)))))) ∧
    (∀ q : WindowReq, q.mode = 1 → s.takes m (rowMemWindow m q) c 0 = true →
      exec (.memWindow m q) s = .next ((s.modMem (fun x => { x with windows := tdel x.windows q.window.toNat })).answered m 0x1403 c Rep.ok)) ∧
    (∀ (q : WindowReq) (k base : Nat), q.mode = 0 → s.windowIndex q = some k → (if q.kind = 1 then base = s.poolBase 4 else s.windowBase (q.sizeMib.toNat * 1048576) = some base) →
      s.takes m (rowMemWindow m q) c 16 = true →
      exec (.memWindow m q) s =
        .next ((s.modMem (fun x => { x with windows := tput x.windows k { kind := q.kind.toNat, chRead := q.chRead, chWrite := q.chWrite, sizeMib := q.sizeMib.toNat, base } })).answered m 0x1403 c
          (Rep.ok (le 1 k ++ le 7 0 ++ le 8 base))))) ∧
  (∀ s : State,
    (∀ (a : U64) (ecc : EccResult) (crcOk : Bool) (user : TileUse) (p : DramPath), exec (.dramRead a ecc crcOk user p) s = .next (s.request a.toNat (.read ecc crcOk user) p)) ∧
    (∀ (a : U64) (whole crcOk : Bool) (crc : U32) (p : DramPath),
      exec (.tableTileWrite a whole crcOk crc p) s = .next (if s.poolOf a.toNat = 2 ∨ s.poolOf a.toNat = 3 then s.request a.toNat (.tableWrite whole crcOk crc) p else s)) ∧
    (∀ (a : Nat) (op : DramOp) (p : DramPath), s.dramTop ≤ a ∨ s.cellOut p.cell = true ∨ (s.block (blockOfIsland p.cell)).phase ≠ .inService → s.request a op p = s) ∧
    (∀ (a : Nat) (op : DramOp) (p : DramPath) (r : DramReq), a < s.dramTop → s.cellOut p.cell = false → (s.block (blockOfIsland p.cell)).phase = .inService → s.clk < s.fab.via.refillAt + State.ticksOfUs 1 →
      r = { seq := s.fab.via.nextSeq, cell := p.cell, addr := a, chan := s.chanOf a, bytes := if s.poolOf a = 2 then 4096 else 64, bank := p.bank, row := p.row, op } →
      s.request a op p = if p.wait then s.modVia (fun v => { v with waiting := v.waiting ++ [r], nextSeq := v.nextSeq + 1 })
        else (s.modVia (fun v => { v with waiting := v.waiting ++ [r], nextSeq := v.nextSeq + 1 })).fabricDrain) ∧
    (∀ (r : DramReq) (ecc : EccResult) (crcOk : Bool) (user : TileUse), r.op = .read ecc crcOk user → ecc ≠ .uncorrectable → s.poolOf r.addr ≠ 2 → s.poolOf r.addr ≠ 3 → r.act s = (s.eccRead r.addr ecc).fin) ∧
    (∀ (r : DramReq) (crcOk : Bool) (user : TileUse), r.op = .read .clean crcOk user → s.poolOf r.addr = 3 → (s.tile r.addr).poison = false →
      r.act s = (if crcOk then s else (s.poisonTile r.addr).tellPoison user r.addr).fin) ∧
    (∀ (r : DramReq) (ecc : EccResult) (crcOk : Bool) (user : TileUse), r.op = .read ecc crcOk user → ecc ≠ .uncorrectable → s.poolOf r.addr = 3 → (s.tile r.addr).poison = true →
      r.act s = ((s.eccRead r.addr ecc).tellPoison user r.addr).fin) ∧
    (∀ (r : DramReq) (crcOk : Bool) (user : TileUse), r.op = .read .uncorrectable crcOk user → s.poolOf r.addr = 0 → r.act s = ((s.eccRead r.addr .uncorrectable).chipLevel 6 (Config.dramCause 0)).fin) ∧
    (∀ (r : DramReq) (cell : U16) (crcOk : Bool) (user : TileUse), r.op = .read .clean crcOk user → user ≠ .release → s.poolOf r.addr = 2 → (s.tile r.addr).state = .open_ cell → r.act s = (s.tellPoison user r.addr).fin) ∧
    (∀ r : DramReq, r.op = .read .clean true .release → s.poolOf r.addr = 2 → (s.tile r.addr).state = .sealed_ → (s.tile r.addr).poison = false →
      r.act s = (s.modMem (fun m => { m with tiles := tdel m.tiles (s.tileOf r.addr) })).fin) ∧
    (∀ (r : DramReq) (crcOk : Bool) (crc : U32), r.op = .tableWrite true crcOk crc → s.poolOf r.addr = 3 →
      r.act s = s.modMem (fun m => { m with tiles := tput m.tiles (s.tileOf r.addr) { s.tile r.addr with crc, poison := false } })) ∧
    (∀ (r : DramReq) (crcOk : Bool) (crc : U32), r.op = .tableWrite false crcOk crc → s.poolOf r.addr = 3 →
      r.act s = if (s.tile r.addr).poison then s
        else if crcOk then s.modMem (fun m => { m with tiles := tput m.tiles (s.tileOf r.addr) { s.tile r.addr with crc } }) else s.poisonTile r.addr) ∧
    (∀ (r : DramReq) (last crcOk : Bool) (crc : U32), r.op = .tableWrite last crcOk crc → s.poolOf r.addr = 2 → (s.tile r.addr).state = .free ∨ (s.tile r.addr).state = .open_ r.cell →
      r.act s = s.modMem (fun m => { m with tiles := tput m.tiles (s.tileOf r.addr) { s.tile r.addr with
        state := if last then .sealed_ else .open_ r.cell, crc := if last then crc else (s.tile r.addr).crc } })) ∧
    (∀ (r : DramReq) (last crcOk : Bool) (crc : U32), r.op = .tableWrite last crcOk crc → s.poolOf r.addr = 2 → (s.tile r.addr).state = .sealed_ → r.act s = s.cellFail r.cell 2) ∧
    (∀ (k : MemChan) (bank : Nat) (r : DramReq), thas k.inOrder bank = false → k.nextOf bank = some r → tget k.openRow bank ≠ some r.row →
      ((tget k.queues bank).getD []).head? = some r ∧ ∀ x ∈ (tget k.queues bank).getD [], tget k.openRow bank ≠ some x.row) ∧
    (∀ (k : MemChan) (bank : Nat), thas k.inOrder bank = true → k.nextOf bank = ((tget k.queues bank).getD []).head?) ∧
    (∀ channel bank row : Nat, s.chanRuns channel = true → (s.chan channel).busyBanks = [] ∨ (s.chan channel).nextActivate = some (bank, row) →
      exec (.rowActivate channel bank row) s = .next (s.modChan channel (fun c => { c with
        act := tput c.act bank (activate ((tget c.act bank).getD []) row c.actThreshold).1,
        neighbour := if (activate ((tget c.act bank).getD []) row c.actThreshold).2 then c.neighbour + 1 else c.neighbour,
        openRow := tput c.openRow bank row, lastAct := bank }))) ∧
    (∀ channel : Nat, s.chanRuns channel = true → (s.chan channel).lastRefresh + (if 85 < (s.chan channel).tempC then 16 else 32) * State.ticksPerMs ≤ s.clk →
      exec (.refreshWindowEnd channel) s = .next (s.modChan channel (fun c => { c with act := [], actThreshold := s.mem.actThreshold, lastRefresh := s.clk }))) ∧
    (∀ channel : Nat, s.chanRuns channel = true → (s.chan channel).lastZq + 128 * State.ticksPerMs ≤ s.clk → exec (.zqCalibration channel) s = .next (s.modChan channel (fun c => { c with lastZq := s.clk }))) ∧
    (∀ (channel : Nat) (t : Int), s.chanRuns channel = true → (s.chan channel).lastTrain + (s.chan channel).retrainMs * State.ticksPerMs ≤ s.clk ∨ 10 ≤ (t - (s.chan channel).trainC).natAbs →
      exec (.periodicRetrain channel t true) s =
        .next (s.modChan channel (fun c => { c with retrains := c.retrains + 1, lastTrain := s.clk, tempC := t, trainC := t, retrainMs := s.mem.retrainMs, failRun := 0 }))) ∧
    (∀ (channel : Nat) (t : Int) (u : State), s.chanRuns channel = true → channel < 12 → (s.chan channel).lastTrain + (s.chan channel).retrainMs * State.ticksPerMs ≤ s.clk ∨ 10 ≤ (t - (s.chan channel).trainC).natAbs →
      u = (s.modChan channel (fun c => { c with retrains := c.retrains + 1, lastTrain := s.clk, tempC := t, trainC := t, retrainMs := s.mem.retrainMs, retrainFails := c.retrainFails + 1, failRun := c.failRun + 1 })).memEvent 2 channel 0xFF 0 →
      exec (.periodicRetrain channel t false) s = .next (if 1 ≤ (s.chan channel).failRun then u.blockFault (blockIsland 4 channel) (Config.dramCause 1) else u).fin) ∧
    (∀ (channel : Nat) (t : Int), s.clk < (s.chan channel).lastTrain + (s.chan channel).retrainMs * State.ticksPerMs → (t - (s.chan channel).trainC).natAbs < 10 →
      exec (.periodicRetrain channel t true) s = .next s ∧ exec (.periodicRetrain channel t false) s = .next s) ∧
    (∀ (channel : Nat) (a : U64) (ecc : EccResult) (crcOk : Bool) (u : State), a.toNat < s.dramTop → a.toNat = s.mem.patrolAt → s.chanOf a.toNat = channel → ecc ≠ .uncorrectable →
      u = (s.eccRead a.toNat ecc).modMem (fun m => if s.dramTop ≤ s.mem.patrolAt + 64 then { m with patrolAt := 0, patrolH := m.patrolNext } else { m with patrolAt := s.mem.patrolAt + 64 }) →
      exec (.patrolRead channel a ecc crcOk) s = .next (if s.checked a.toNat && !crcOk then u.poisonTile a.toNat else u).fin))

/-- The activate table of a bank stays small and below its threshold: at most 16 rows, each once, every count under the threshold, and the row just activated among them (15 R386). -/
def Obligations.RowCountsStayUnderTheThreshold : Prop :=
  ∀ (t : ActTable) (row threshold : Nat), 2 ≤ threshold → t.length ≤ 16 → (t.map (·.1)).Nodup → (∀ e ∈ t, e.2 < threshold) →
    (activate t row threshold).1.length ≤ 16 ∧ ((activate t row threshold).1.map (·.1)).Nodup ∧ (∀ e ∈ (activate t row threshold).1, e.2 < threshold) ∧
    row ∈ (activate t row threshold).1.map (·.1) ∧
    ((activate t row threshold).2 = true ↔ ∃ n, (row, n) ∈ t ∧ threshold ≤ n + 1 ∨ row ∉ t.map (·.1) ∧ t.length = 16 ∧ (∃ x, (x, n) ∈ t) ∧ (∀ e ∈ t, n ≤ e.2) ∧ threshold ≤ n + 1)

/-! ### DMA (15) and the registers of the functions (03) -/

/-- A channel's commands: a start and a resume take up the register image or the descriptor of DMA_CUR_DESC, and are ignored and told while the channel runs; a stop acts at the next boundary or at once, an abort returns to IDLE, an append reads the tail again, interrupt bits are cleared; a reset of the physical function returns the host's channels to reset, and VF Enable and Bus Master Enable are taken away (15 R397, R398, R403 to R406, 03 R99).
A register that only stores its value takes it: a mailbox's bases and configuration while it is off, not quiesced and not halted, an MSI-X table word and the MSI-X control of a function, upon which a pending vector that may send does, the functions' enables, a channel's register image while it neither runs nor stops, DMA_NEXT at any time but by a 64-bit write only; a read-only or reserved one discards it (03 R76, R77, R99, 15 R397). -/
def Obligations.DmaActs : Prop :=
  (∀ (s : State) (c : Fin 16),
    ((s.dmaOf c).state = .idle ∨ (s.dmaOf c).state = .parked ∨ (s.dmaOf c).state = .stopped ∨ (s.dmaOf c).state = .halted →
      exec (.dmaStart c) s = .next ((s.dmaAccept c).dmaAt c 0)) ∧
    ((s.dmaOf c).state = .stopped ∨ (s.dmaOf c).state = .halted → exec (.dmaResume c) s = .next ((s.dmaAccept c).dmaAt c (s.dmaOf c).cur)) ∧
    ((s.dmaOf c).state = .idle ∨ (s.dmaOf c).state = .parked → exec (.dmaResume c) s = .next ((s.dmaAccept c).dmaAt c 0)) ∧
    ((s.dmaOf c).state = .running ∨ (s.dmaOf c).state = .stopping →
      exec (.dmaStart c) s = .next (s.modDma c (fun d => { d with startIgnored := true })) ∧ exec (.dmaResume c) s = .next (s.modDma c (fun d => { d with startIgnored := true }))) ∧
    ((s.dmaOf c).image.invalid = false → (s.dmaOf c).image.overlaps = false → (s.dmaOf c).state = .idle →
      ∃ t, exec (.dmaStart c) s = .next t ∧ (t.dmaOf c).state = .running ∧ (t.dmaOf c).desc = some (s.dmaOf c).image ∧ (t.dmaOf c).cur = 0 ∧ (t.dmaOf c).doneRun = 0) ∧
    ((s.dmaOf c).state = .running → exec (.dmaStop c) s = .next (s.modDma c (fun d => { d with state := .stopping }))) ∧
    ((s.dmaOf c).state = .parked → exec (.dmaStop c) s = .next ((s.modDma c (fun d => { d with state := .stopped, cur := 0 })).dmaIrq c 2)) ∧
    ((s.dmaOf c).state = .stopped ∨ (s.dmaOf c).state = .parked ∨ (s.dmaOf c).state = .halted → exec (.dmaAbort c) s = .next (s.modDma c (fun d => { d with state := .idle }))) ∧
    (∀ link, (s.dmaOf c).state = .parked → s.tailWord c (s.dmaOf c).cur = .inr (false, link) → exec (.dmaAppend c) s = .next (s.dmaLink c link)) ∧
    (∀ d, (s.dmaOf c).state = .running → (s.dmaOf c).ahead = [] → (s.dmaOf c).desc = some d → d.last = true →
      exec (.dmaAppend c) s = .next (s.modDma c (fun d => { d with doorbell := true }))) ∧
    ((s.dmaOf c).state = .idle ∨ (s.dmaOf c).state = .stopped ∨ (s.dmaOf c).state = .halted →
      exec (.dmaAppend c) s = .next (s.modDma c (fun d => { d with appendIgnored := d.appendIgnored + 1 }))) ∧
    (∀ bits : BitVec 4, exec (.dmaIrqClear c bits) s = .next (s.modDma c (fun d => { d with irq := d.irq &&& ~~~ bits }))) ∧
    (∃ t, exec (.functionLevelReset 0) s = .next t ∧ (∀ k : Fin 16, k.val < 8 → t.dmaOf k = {}) ∧ (∀ k : Fin 16, 8 ≤ k.val → t.dmaOf k = s.dmaOf k) ∧ t.mem = s.mem ∧
      t.pl.busMaster.get 0 = false ∧ t.pl.vfEnable = false) ∧
    (∀ f : Fin 16, f ≠ 0 → ∃ t, exec (.functionLevelReset f) s = .next t ∧ t.dma = s.dma ∧ t.mem = s.mem ∧ t.pl.busMaster.get f = false ∧ t.pl.vfEnable = s.pl.vfEnable) ∧
    (s.pl.vfEnable = true → ∃ t, exec .vfEnableCleared s = .next t ∧ t.pl.vfEnable = false ∧ t.dma = s.dma ∧ t.mem = s.mem) ∧
    (∀ f : Fin 16, exec (.busMasterEnableClear f) s = .next { s with pl := { s.pl with busMaster := s.pl.busMaster.set f false } })) ∧
  (∀ (s : State) (part : RegPart) (v : U64),
    (∀ m : Mbx, m ≠ 16 → (s.box m).enable = false → (s.box m).quiesced = false → (s.box m).halted = false →
      exec (.registerWritePlain (.mbxCmdBase m) part v) s = .next (s.modBox m (fun b => { b with cmdBase := putPart b.cmdBase part v })) ∧
      exec (.registerWritePlain (.mbxCplBase m) part v) s = .next (s.modBox m (fun b => { b with cplBase := putPart b.cplBase part v })) ∧
      exec (.registerWritePlain (.mbxCfg m) part v) s = .next (s.modBox m (fun b => { b with cfg := v.truncate 32 }))) ∧
    (∀ m : Mbx, (s.box m).enable = true ∨ (s.box m).quiesced = true ∨ (s.box m).halted = true →
      exec (.registerWritePlain (.mbxCmdBase m) part v) s = .next s ∧ exec (.registerWritePlain (.mbxCplBase m) part v) s = .next s ∧ exec (.registerWritePlain (.mbxCfg m) part v) s = .next s) ∧
    (∀ (m : Mbx) (e : Fin 9) (d : Fin 4), m ≠ 16 → (s.box m).halted = false → m = 0 ∨ e = 0 → ∃ t, exec (.registerWritePlain (.msixEntry m e d) part v) s = .next t ∧
      ∃ w, tget (t.box m).msix e.val = some w ∧ (w >>> (32 * d.val)).truncate 32 = (v.truncate 32 : BitVec 32) ∧
        (∀ k : Fin 4, k ≠ d → (w >>> (32 * k.val)).truncate 32 = ((((tget (s.box m).msix e.val).getD (BitVec.ofNat 128 (2 ^ 96))) >>> (32 * k.val)).truncate 32 : BitVec 32)) ∧
        ((t.box m).vectorOpen e.val = false → (t.box m).msixPba = (s.box m).msixPba) ∧ ((t.box m).vectorOpen e.val = true → (t.box m).msixPba.getLsbD e.val = false)) ∧
    (∀ f : Fin 16, ∃ t, exec (.registerWritePlain (.pciMsix f) part v) s = .next t ∧ (t.box (f.castLE (by decide))).msixEnable = v.getLsbD 15 ∧ (t.box (f.castLE (by decide))).msixMask = v.getLsbD 14) ∧
    (∀ f : Fin 16, exec (.registerWritePlain (.pciBusMaster f) part v) s = .next { s with pl := { s.pl with busMaster := s.pl.busMaster.set f (v.getLsbD 0) } }) ∧
    (v.getLsbD 0 = true → exec (.registerWritePlain .pciVfEnable part v) s = .next { s with pl := { s.pl with vfEnable := true } }) ∧
    (v.getLsbD 0 = false → exec (.registerWritePlain .pciVfEnable part v) s = exec .vfEnableCleared s) ∧
    (∀ c : Fin 16, (s.dmaOf c).state ≠ .running → (s.dmaOf c).state ≠ .stopping →
      exec (.registerWritePlain (.dmaSrc c) part v) s = .next (s.modDma c (fun x => { x with src := putPart x.src part v })) ∧
      exec (.registerWritePlain (.dmaDst c) part v) s = .next (s.modDma c (fun x => { x with dst := putPart x.dst part v })) ∧
      exec (.registerWritePlain (.dmaCount c) part v) s = .next (s.modDma c (fun x => { x with count := v.truncate 32 })) ∧
      exec (.registerWritePlain (.dmaFlags c) part v) s = .next (s.modDma c (fun x => { x with flags := v.truncate 32 })) ∧
      exec (.registerWritePlain (.dmaCrcAddr c) part v) s = .next (s.modDma c (fun x => { x with crcAddr := putPart x.crcAddr part v }))) ∧
    (∀ c : Fin 16, exec (.registerWritePlain (.dmaNext c) .whole v) s = .next (s.modDma c (fun x => { x with next := v }))) ∧
    (exec (.registerWritePlain .readOnly part v) s = .next s ∧ exec (.registerWritePlain .reserved part v) s = .next s))

/-- A descriptor in progress whose accesses may all be made moves its bytes, whichever way its ranges overlap: every byte of the destination holds what the source held before, and every other byte reads as before but for the CRC word and the DONE word (15 R399 to R402). -/
def Obligations.DescriptorCopiesItsBytes : Prop :=
  ∀ (s : State) (c : Fin 16) (d : Desc), (s.dmaOf c).state = .running ∨ (s.dmaOf c).state = .stopping → (s.dmaOf c).desc = some d → s.pwr.asleep = false →
    ∃ t, exec (.dmaDescriptorDone c) s = .next t ∧
      (∀ x, (x < d.dst.toNat ∨ d.dst.toNat + d.count.toNat ≤ x) → (d.crc = true → x < d.crcAddr.toNat ∨ d.crcAddr.toNat + 4 ≤ x) →
        (d.addr ≠ 0 → x < d.addr.toNat + 0x28 ∨ d.addr.toNat + 0x2C ≤ x) → t.storedByte x = s.storedByte x) ∧
      ((s.dmaData c d).2 = none → d.crc = false → d.addr = 0 →
        State.isHost d.dst.toNat = State.isHost (d.dst.toNat + d.count.toNat - 1) →
        (∀ k, k < d.count.toNat → t.storedByte (d.dst.toNat + k) = s.dmaByte (d.src.toNat + k)) ∧
        (t.dmaOf c).descDone = (s.dmaOf c).descDone + 1)

/-- An access that fails outside the device halts its channel with cause, address and direction latched; a poisoned or failed read stops the copy before it (15 R404). -/
def Obligations.FailedAccessHaltsItsChannel : Prop :=
  ∀ (s : State) (c : Fin 16) (e : DmaError) (a : U64) (write : Bool) (d : Desc), (s.dmaOf c).state = .running ∨ (s.dmaOf c).state = .stopping → (s.dmaOf c).desc = some d →
    e = .readError ∨ e = .writeError ∨ e = .poisoned →
    ∃ t, exec (.dmaHalt c e a write) s = .next t ∧ (t.dmaOf c).state = .halted ∧ (t.dmaOf c).cause = dmaCause e ∧ (t.dmaOf c).failAddr = a ∧
      (t.dmaOf c).dir = (e == .writeError || (e == .readError && write)) ∧ (t.dmaOf c).desc = none ∧ (t.dmaOf c).irq.getLsbD 3 = true ∧ (t.dmaOf c).cur = (s.dmaOf c).cur ∧
      (∀ x, (x < d.dst.toNat ∨ d.dst.toNat + d.count.toNat ≤ x) → t.storedByte x = s.storedByte x)

/-! ### Keystone (16) and the images (18) -/

/-- The Keystone and image commands complete: an image is taken to be written, a slot is named or a trial committed, the images are read; status, certificate, log and policy are read, a pending proposal is withdrawn, and a proposal is taken to be written (16 R409 to R425, 18 R460 to R464).
What Keystone does of itself: a request for the throttle level runs out; a write to it is rejected and counted; it releases its outputs once it may; it places a rule's overlay and sounds its tone; a decided throttle level takes effect; a rail out of its window trips and lengthens a trip; a trip ends by a reset, a lockstep mismatch resets at once; a core rail steps 5 mV towards its set point when acknowledged and is retried three times when not (16 R413, R418, R424 to R428, 17 R452, 19 R471).
Images in time: a write into the NOR ends with its slot staged or its proposal pending, or with STORE_FAULT; a named slot boots by a reset within its 100 ms; a trial that brings no media within 60 s, or is not committed in its time, is given up by a reset (16 R420, 18 R462). -/
def Obligations.KeystoneActs : Prop :=
  (∀ (s : State) (m : Mbx) (c : Cmd),
    (∀ (slot : U8) (image : PierImage), s.accepts m (rowKeepImage m slot image) c = true →
      exec (.keepImage m slot image) s = .next ((s.modKeep (fun k => { k with imageFor := some (m, c.seq, slot == 1, image) })).acting m 0x0D07 c Rep.goesOn)) ∧
    (∀ (slot : U8) (force : Bool) (commitS : U32), s.takes m (rowKeepActivate m 0 slot force commitS) c 0 = true →
      exec (.keepActivate m 0 slot force commitS) s = .next ((s.modKeep (fun k => { k with
        bootB := slot == 1, commitS := if (s.keep.image (slot == 1)).state = .staged then some (if commitS = 0 then 600 else commitS.toNat) else none, activateAt := some (s.clk + 100 * State.ticksPerMs) })).answered m 0x0D08 c Rep.ok)) ∧
    (∀ (force : Bool) (commitS : U32) (svn : Nat), s.takes m (rowKeepActivate m 1 0 force commitS) c 0 = true → svn = max s.keep.fusedSvn (s.keep.image s.keep.runB).svn →
      ∃ t : State, exec (.keepActivate m 1 0 force commitS) s = .next (t.answered m 0x0D08 c Rep.ok) ∧ (t.keep.image s.keep.runB).state = .committed ∧ t.keep.fusedSvn = svn ∧ t.keep.commitS = none ∧
        t.keep.lastOutcome = 2 ∧ (t.keep.image (!s.keep.runB)).state =
          (if (s.keep.image (!s.keep.runB)).state = .committed ∧ (s.keep.image (!s.keep.runB)).svn < svn then .rejected else (s.keep.image (!s.keep.runB)).state) ∧ t.keep.bootB = s.keep.bootB) ∧
    (∀ (force : Bool) (commitS : U32) (b : Bool), s.takes m (rowKeepActivate m 2 0 force commitS) c 0 = true → s.fallback = some b →
      exec (.keepActivate m 2 0 force commitS) s =
        .next ((s.modKeep (fun k => { k with bootB := b, commitS := none, activateAt := some (s.clk + 100 * State.ticksPerMs) })).answered m 0x0D08 c Rep.ok)) ∧
    (s.takes m (rowKeepImages m) c 56 = true →
      exec (.keepImages m) s = .next (s.answered m 0x0D09 c (Rep.ok (le 1 (if s.boot.recovery then 2 else bit s.keep.runB) ++ le 1 s.keep.lastOutcome ++ le 1 s.keep.fusedSvn ++ le 5 0 ++
        imageEntry (imgCode s.keep.slotA.state) s.keep.slotA.svn s.keep.slotA.release.toNat s.keep.slotA.stagedS ++
        imageEntry (imgCode s.keep.slotB.state) s.keep.slotB.svn s.keep.slotB.release.toNat s.keep.slotB.stagedS ++
        imageEntry Config.recoveryImage.1.toNat Config.recoveryImage.2.toNat (Config.fwRelease.toNat % 16777216) 0)))) ∧
    (s.takes m rowKsStatus c 24 = true →
      exec (.ksStatus m) s = .next (s.answered m 0x1200 c (Rep.ok (le 4 s.ksStateWord ++ le 4 s.ks.policy.version.toNat ++ le 4 s.ksSvnWord ++ le 4 s.ks.trips.toNat ++ le 4 s.ksTempWord ++ le 4 s.ks.rejects.toNat)))) ∧
    (s.takes m (rowKsPropose m none) c 0 = true → exec (.ksPropose m none) s = .next (({ s with ks := { s.ks with pending := false } } : State).answered m 0x1201 c Rep.ok)) ∧
    (∀ p : Proposal, c.hdr.reqLen = 0 → s.takes m (rowKsPropose m (some p)) c 0 = true →
      exec (.ksPropose m (some p)) s = .next (({ s with ks := { s.ks with pending := false } } : State).answered m 0x1201 c Rep.ok)) ∧
    (∀ p : Proposal, c.hdr.reqLen ≠ 0 → s.accepts m (rowKsPropose m (some p)) c = true →
      exec (.ksPropose m (some p)) s = .next (({ s with ks := { s.ks with writing := some (m, c.seq, p) } } : State).acting m 0x1201 c Rep.goesOn)) ∧
    (∀ t n, s.ks.cert = some (t, n) → s.takes m rowKsCert c (40 + (Config.certificate n).length) = true →
      exec (.ksCert m) s = .next (s.answered m 0x1202 c (Rep.ok (le 32 (Config.fingerprint n).toNat ++ le 8 (Config.certificate n).length ++ Config.certificate n)))) ∧
    (∀ (first : U32) (count : U16) (l : List KsRec), l = (s.ks.log.dropWhile (fun r => r.seq != first)).take count.toNat →
      s.takes m (rowKsLog first count) c (8 + (l.flatMap ksRecBytes).length) = true →
      exec (.ksLog m first count) s = .next (s.answered m 0x1203 c (Rep.ok (le 4 l.length ++ le 4 0 ++ l.flatMap ksRecBytes)))) ∧
    (∀ (type : U8) (b : Bytes), b = (if type = 1 then s.ks.policy.permissions.flatMap (fun w => le 4 w.toNat) else Config.section_ type.toNat (if s.ks.policyOk then s.ks.activeSlot else 2)) → s.takes m (rowKsPolicy type) c (8 + b.length) = true →
      exec (.ksPolicy m type) s = .next (s.answered m 0x1204 c (Rep.ok (le 4 (crc32c b).toNat ++ le 4 0 ++ b))))) ∧
  (∀ s : State,
    (∀ a, s.twin.state = .standby → s.twin.throttleAsk = some a → a.2 ≤ s.clk → exec .throttleRequestTimeout s = .next (s.leaveSync 8).decideLevel.fin) ∧
    (∀ (source offset : U16) (n : Nat) (u : State), s.pins.resetN = true → n = source.toNat + 65536 * offset.toNat →
      u = { s with ks := { s.ks with rejects := satInc s.ks.rejects, rejectLast := BitVec.ofNat 32 n, rejectAt := some s.chipS } } →
      exec (.ksWriteReject source offset) s = .next (if s.ks.rejectAt = some s.chipS then u else u.ksEvent 4 0xFF 0xFFFF (BitVec.ofNat 32 n).toNat 0).fin) ∧
    (s.ks.state = .run → s.ks.verified = true → s.ks.released = false → s.boot.recovery = false →
      2 ≤ s.ks.seenRounds ∨ s.twin.lastStart + State.ticksOfUs 1500 ≤ s.clk →
      exec .keystoneRelease s = .next (if s.twin.state = .alone then ({ s with ks := { s.ks with released := true } } : State).newCert else { s with ks := { s.ks with released := true } })) ∧
    (∀ (y : Nat) (l : Layout) (n : Nat) (r : PolicyRule) (g : Region), tget s.pic.layouts y = some l → l.awaiting = false → l.basted = none → s.winner l.conf = some (n, r) →
      (s.ks.policy.overlays[r.overlay.toNat]?).bind (placeOverlay l r) = some g → tget l.regions 3 ≠ some g →
      exec (.ruleOverlayPlace y) s = .next ((s.modLayout y (fun l => { l with regions := tput l.regions 3 g, noFit := false })).ksEvent 2 n l.conf 0 l.next).fin) ∧
    (∀ (y : Nat) (l : Layout) (n : Nat) (r : PolicyRule), tget s.pic.layouts y = some l → l.awaiting = false → l.basted = none → s.winner l.conf = some (n, r) →
      (s.ks.policy.overlays[r.overlay.toNat]?).bind (placeOverlay l r) = none → tget l.regions 3 = none →
      exec (.ruleOverlayPlace y) s = .next (s.modLayout y (fun l => { l with noFit := true, regions := tdel l.regions 3 })).fin) ∧
    (∀ (y : Nat) (l : Layout) (g : Region), tget s.pic.layouts y = some l → l.awaiting = false → l.basted = none → s.winner l.conf = none → tget l.regions 3 = some g → g.byKeystone = true →
      exec (.ruleOverlayPlace y) s = .next ((s.modLayout y (fun l => { l with noFit := false, regions := tdel l.regions 3 })).ksEvent 3 0xFF l.conf 0 l.next).fin) ∧
    (∀ (k : Nat) (q : Conf), tget s.model.confs k = some q → q.basted = none → q.origin.isSome = true →
      exec (.noticeTone k) s = .next (s.ks.policy.rules.zipIdx.foldl (fun u p => u.toneStep k (s.media k) p.2 p.1) s).fin) ∧
    (∀ level : Fin 4, s.pwr.levelDue = some level.val → level.val ≠ 0 ∨ s.pwr.levelNow = 0 →
      exec (.throttleLevelChange level) s = .next (((({ s with pwr := { s.pwr with levelNow := level.val, levelDue := none } } : State).regate).powerNotice 5 level.val).fin)) ∧
    (∀ (r : Rail) (mV : Nat), s.pins.resetN = true → s.railOk r mV = false → s.ks.state ≠ .trip → exec (.supplyTrip r mV) s = .next (s.trip 1 (railNo r) mV false)) ∧
    (∀ (r : Rail) (mV : Nat), s.pins.resetN = true → s.railOk r mV = false → s.ks.state = .trip → s.ks.tripThermal = false →
      exec (.supplyTrip r mV) s = .next { s with ks := { s.ks with clearSince := some s.clk } }) ∧
    (∀ t : Nat, s.ks.state = .trip → s.ks.clearSince = some t → t + (if s.ks.tripThermal then 10 * State.ticksPerS else 100 * State.ticksPerMs) ≤ s.clk →
      exec .tripClear s = .next (s.deviceReset 7).fin) ∧
    (s.pins.resetN = true → exec .lockstepMismatch s = .next (((s.ksLog 3 0 0).deviceReset 3).fin)) ∧
    (∀ (r : Fin 2) (target : Nat), s.ks.state ≠ .trip → s.ks.state ≠ .park → s.pins.resetN = true → s.ks.avsStuck.get r = false → s.ks.avsMv.get r ≠ target → 700 ≤ target → target ≤ 850 →
      ((s.ks.avsAt.get r).all (fun t => decide (t + State.ticksOfUs 10 ≤ s.clk)) || s.ks.avsWait.get r) = true →
      exec (.avsRailStep r target true) s = .next { s with ks := { s.ks with
        avsMv := s.ks.avsMv.set r (if s.ks.avsMv.get r < target then min target (s.ks.avsMv.get r + 5) else max target (s.ks.avsMv.get r - 5)),
        avsAt := s.ks.avsAt.set r (some s.clk), avsMiss := s.ks.avsMiss.set r 0, avsWait := s.ks.avsWait.set r false } }) ∧
    (∀ (r : Fin 2) (t n : Nat), s.ks.avsWait.get r = true → s.ks.avsAt.get r = some t → t + State.ticksPerMs ≤ s.clk → n = s.ks.avsMiss.get r + 1 →
      exec (.avsAckTimeout r) s = .next { s with ks := { s.ks with
        avsMiss := s.ks.avsMiss.set r n, avsAt := s.ks.avsAt.set r (some s.clk), avsStuck := s.ks.avsStuck.set r (decide (3 < n)), avsWait := s.ks.avsWait.set r (decide (n ≤ 3)) } })) ∧
  (∀ s : State,
    (∀ (m : Mbx) (n : Nat) (p : Proposal), s.ks.writing = some (m, n, p) →
      exec (.norWriteDone true true) s =
        .next ((({ s with ks := { s.ks with writing := none, slots := s.ks.slots.set! (1 - s.ks.activeSlot) (some p), pending := true } } : State).finish m n Rep.ok).fin)) ∧
    (∀ (m : Mbx) (n : Nat) (b : Bool) (x : PierImage), s.keep.imageFor = some (m, n, b, x) → ∃ t : State, exec (.norWriteDone false true) s = .next (t.finish m n Rep.ok).fin ∧
      t.keep.imageFor = none ∧ (t.keep.image b).state = .staged ∧ (t.keep.image b).svn = x.fwSvn ∧ (t.keep.image b).release = x.fwRelease ∧ t.keep.image (!b) = s.keep.image (!b)) ∧
    (∀ (m : Mbx) (n : Nat) (b : Bool) (x : PierImage), s.keep.imageFor = some (m, n, b, x) → ∃ t : State, exec (.norWriteDone false false) s = .next (t.finish m n (Rep.fail St.storeFault)).fin ∧
      t.keep.imageFor = none ∧ (t.keep.image b = s.keep.image b ∨ t.keep.image b = {}) ∧ t.keep.image (!b) = s.keep.image (!b)) ∧
    (∀ t, s.keep.activateAt = some t → ∃ u, exec .activationReset s = .next u ∧ u.keep.bootB = s.keep.bootB ∧ u.keep.activateAt = none ∧ u.boot.stage = .keystone ∧ u.boot.cause = 4 ∧ u.mem.dram = [] ∧ u.model = State.reset.model) ∧
    (s.inTrial = true → s.isReady 3 = false → 60 * State.ticksPerS ≤ s.clk → exec .trialMediaTimeout s = .next (s.deviceReset 4 4).fin) ∧
    (∀ t, s.inTrial = true → s.keep.commitS = some t → t * State.ticksPerS ≤ s.clk → exec .trialCommitTimeout s = .next (s.deviceReset 4 5).fin))

/-- Every 1 ms Keystone takes the 32 readings; with the readings of all its sensors more than 5 °C under TRIP_C it neither trips nor warns, whatever the last ones were, and with two readings of a sensor in a row at TRIP_C or above it trips: its outputs fall, the trip is latched and logged (16 R426, R427). -/
def Obligations.SensorsDecideTheTrip : Prop :=
  ∀ (s : State) (vs : List (Option Int)), vs.length = 32 → s.pins.resetN = true → s.ks.state = .run ∨ s.ks.state = .hold → s.ks.failed = [] → (∀ v ∈ vs, sensorOk v = true) →
    ((∀ v ∈ vs, ∀ x, v = some x → x < 8 * (s.ks.policy.tripC : Int) - 40) → ∃ t, exec (.keystoneSensorRead vs) s = .next t ∧
      t.ks.state = s.ks.state ∧ t.ks.sensors = vs ∧ t.ks.prev = s.ks.sensors ∧ t.ks.trips = s.ks.trips ∧ t.ks.released = s.ks.released ∧ t.ks.nearTold = false) ∧
    (∀ (i : Nat) (x y : Int), vs[i]? = some (some x) → s.ks.sensors[i]? = some (some y) → 8 * (s.ks.policy.tripC : Int) ≤ x → 8 * (s.ks.policy.tripC : Int) ≤ y →
      ∃ t, exec (.keystoneSensorRead vs) s = .next t ∧ t.ks.state = .trip ∧ t.ks.released = false ∧ t.ks.tripThermal = true ∧ t.ks.trips.getLsbD 0 = true ∧ t.ks.clearSince = none ∧
        t.mem.host = s.landed ∧ t.mem.dram = [])

/-! ### Power and supply (17) -/

/-- The power commands complete: a state is entered, or waits where another change or hold is in the way; a vote raises a domain, keeps it up or drops it; supply and thermal settings are taken; the power query reports (17 power.state to power.query, R430 to R444).
Power in time: a change ends and is told, a waiting one starts, a refused domain's hold-off ends, a domain comes up; a wake source wakes the device from Quiet, Truss and WAKE_N among them, and the wake ends with the domains powered and admissions open; a Truss link that does not come back costs the pair its synchronisation (17 R433 to R445). -/
def Obligations.PowerActs : Prop :=
  (∀ (s : State) (m : Mbx) (c : Cmd),
    (∀ (state port : U8) (sound : U32) (picture : BitVec 14) (access : BitVec 2) (q : PwrReq), q = stateReq state port sound picture access (some (m, c.seq)) →
      s.accepts m (rowPowerState m state port sound picture access) c = true →
      exec (.powerState m state port sound picture access) s =
        .next (if s.changeWaits then (s.setPending q).answered m 0x0F00 c (Rep.pend (le 4 0xFFFF)) else (s.startChange q).1.answered m 0x0F00 c (Rep.pend (le 4 (s.startChange q).2.toNat)))) ∧
    (∀ d : U16, (s.domain d).state = .up ∨ (s.domain d).state = .poweringUp → s.takes m (rowPowerVote m d 1) c (voteReply (setVote s m d true) d).length = true →
      exec (.powerVote m d 1) s = .next ((setVote s m d true).answered m 0x0F01 c (Rep.ok (voteReply (setVote s m d true) d)))) ∧
    (∀ (d : U16) (t : State), (s.domain d).state = .gated → s.pwr.asleep = false → t = (setVote s m d true).raiseDomain d → s.takes m (rowPowerVote m d 1) c (voteReply t d).length = true →
      exec (.powerVote m d 1) s = .next (t.answered m 0x0F01 c (Rep.ok (voteReply t d)))) ∧
    (∀ (d : U16) (t : State), (s.domain d).state = .changing → (s.domain d).deferred.contains m = false →
      t = (setVote s m d true).modDomain d (fun x => { x with deferred := x.deferred ++ [m] }) → s.takes m (rowPowerVote m d 1) c (voteReply t d).length = true →
      exec (.powerVote m d 1) s = .next (t.answered m 0x0F01 c { status := St.enableDeferred, data := voteReply t d })) ∧
    (∀ d : U16, dropsDomain s m d = false → (s.domain d).deferred.contains m = false → s.takes m (rowPowerVote m d 0) c (voteReply (setVote s m d false) d).length = true →
      exec (.powerVote m d 0) s = .next ((setVote s m d false).answered m 0x0F01 c (Rep.ok (voteReply (setVote s m d false) d)))) ∧
    (∀ (d : U16) (t : State), dropsDomain s m d = true → (s.domain d).deferred.contains m = false →
      t = ((setVote s m d false).modDomain d (fun x => { x with held := false })).dropDomain d (some (m, c.seq)) → s.takes m (rowPowerVote m d 0) c (voteReply t d).length = true →
      exec (.powerVote m d 0) s = .next (t.answered m 0x0F01 c (Rep.pend (voteReply t d)))) ∧
    (∀ (ride flush : U8) (mv : U16), s.takes m (rowPowerSupply m ride flush mv) c 0 = true →
      exec (.powerSupply m ride flush mv) s = .next ((doPowerSupply ride.toNat flush.toNat mv.toNat s).answered m 0x0F02 c Rep.ok)) ∧
    (∀ l1 : U8, s.takes m (rowPowerThermal m l1) c 0 = true → exec (.powerThermal m l1) s = .next ((doPowerThermal l1.toNat s).answered m 0x0F03 c Rep.ok)) ∧
    (s.takes m (rowPowerQuery 0xFFFF) c 48 = true →
      exec (.powerQuery m 0xFFFF) s = .next (({ s with draws := s.draws + 1 } : State).answered m 0x0F04 c
        (Rep.ok (le 1 (State.powerCode s.pwr.state) ++ le 1 (match s.pwr.pendingReq with | none => 0xFF | some q => State.powerCode (q.target.getD s.pwr.state)) ++
          le 1 (match s.pwr.supply with | .normal => 0 | .ride => 1 | _ => 2) ++ le 1 s.pwr.levelNow ++ leI 2 (s.ks.hottest.getD (0, 0)).2 ++ le 1 (s.ks.hottest.getD (0, 0)).1 ++ le 1 s.pwr.lastWake ++
          le 2 (Config.powerW s.draws).toNat ++ le 2 s.gatedCount ++ le 4 s.pwr.wakes.toNat ++ le 4 s.pwr.wakesDiscarded.toNat ++ le 4 s.pwr.refusals.toNat ++
          le 4 0 ++ le 1 0xFF ++ le 1 0 ++ le 2 0 ++ le 16 0)))) ∧
    (∀ d : U16, d ≠ 0xFFFF → s.takes m (rowPowerQuery d) c 48 = true →
      exec (.powerQuery m d) s = .next (({ s with draws := s.draws + 1 } : State).answered m 0x0F04 c
        (Rep.ok (le 1 (State.powerCode s.pwr.state) ++ le 1 (match s.pwr.pendingReq with | none => 0xFF | some q => State.powerCode (q.target.getD s.pwr.state)) ++
          le 1 (match s.pwr.supply with | .normal => 0 | .ride => 1 | _ => 2) ++ le 1 s.pwr.levelNow ++ leI 2 (s.ks.hottest.getD (0, 0)).2 ++ le 1 (s.ks.hottest.getD (0, 0)).1 ++ le 1 s.pwr.lastWake ++
          le 2 (Config.powerW s.draws).toNat ++ le 2 s.gatedCount ++ le 4 s.pwr.wakes.toNat ++ le 4 s.pwr.wakesDiscarded.toNat ++ le 4 s.pwr.refusals.toNat ++
          le 4 (if votable.contains d then s.voters d else 0) ++ le 1 (dstate s d) ++ le 1 0 ++ le 2 (s.holdoffMs d) ++ le 16 0))))) ∧
  (∀ s : State,
    (∀ (q : PwrReq) (id : U16) (n t : Nat), s.pwr.running = some (q, id) → s.pwr.gating = some (n, t) → t ≤ s.clk →
      exec .powerChangeDone s = .next (({ s with pwr := { s.pwr with running := none, gating := none } } : State).powerEvents q St.ok 0 0xFFFF n).fin) ∧
    (∀ q : PwrReq, s.pwr.pendingReq = some q → s.changeWaits = false → s.patternSeam = false → s.pwr.supply = .normal ∨ s.pwr.supply = .ride →
      exec .pendingPowerStart s = .next ((({ s with pwr := { s.pwr with pendingReq := none } } : State).startChange q).1).fin) ∧
    (∀ (d : U16) (t : Nat), (s.domain d).holdUntil = some t → t ≤ s.chipNs → exec (.refusalHoldoffEnd d) s = .next (s.modDomain d (fun x => { x with holdUntil := none }))) ∧
    (∀ (d : U16) (failed : List U16), (s.domain d).state = .poweringUp → exec (.domainPowerUp d failed) s = .next (s.domainUp d failed).fin) ∧
    (∀ i : U8, (s.iface i.toNat).any (fun f => f.enable) = true → exec (.wakeEvent (.ethernet i)) s = .next (s.noteWake 1)) ∧
    (∀ p, (s.accPort p).role ≠ 0 → exec (.wakeEvent (.access p)) s = .next (s.noteWake 2)) ∧
    (s.formed = true → exec (.wakeEvent .truss) s = .next (s.noteWake 3) ∧ (∀ l a b : List (Fin 4), l = a ++ (List.replicate 8 [3, 0, 3, 0, 3, 3, 0, 0, 3, 3, 3, 0, 0, 0, 3, 0]).flatten ++ b → exec (.trussWakePattern l) s = .next (s.noteWake 3))) ∧
    (∀ l : List (Fin 4), (∀ a b, l ≠ a ++ (List.replicate 8 [3, 0, 3, 0, 3, 3, 0, 0, 3, 3, 3, 0, 0, 0, 3, 0]).flatten ++ b) → exec (.trussWakePattern l) s = .next s) ∧
    (exec (.wakeEvent .pcie) s = .next (s.noteWake 4) ∧ exec (.wakeEvent .wakeN) s = .next (s.noteWake 5) ∧ exec (.wakeEvent .mailbox16) s = .next (s.noteWake 6)) ∧
    (exec .wakeNLow s = .next (({ s with pins := { s.pins with wakeN := false } } : State).noteWake 5)) ∧
    (∀ failed : List U16, s.pwr.waking = true → ∃ t, exec (.wakeComplete failed) s = .next t ∧ t.pwr.state = s.pwr.resume_ ∧ t.pwr.waking = false ∧ t.pwr.wake = none ∧ t.pwr.asleep = false ∧ t.pwr.wakes = s.pwr.wakes + 1 ∧
      t.model.stopped = (s.pwr.supply == .shed || s.pwr.supply == .flush)) ∧
    (∀ t, s.pwr.trussUntil = some t → t ≤ s.clk → s.twin.linkUp = true → exec .wakeTrussTimeout s = .next { s with pwr := { s.pwr with trussUntil := none } }) ∧
    (∀ t, s.pwr.trussUntil = some t → t ≤ s.clk → s.twin.linkUp = false →
      exec .wakeTrussTimeout s = .next (({ s with pwr := { s.pwr with trussUntil := none } } : State).leaveSync 1).fin))

/-- A wake source in Quiet starts the wake and is noted as its cause, and the Keystone leaves low power; a second one changes nothing; one while Quiet is being entered is kept (17 R441, R442). -/
def Obligations.FirstWakeSourceWins : Prop :=
  ∀ (s : State) (n k : Nat),
    (s.pwr.state = .quiet → s.pwr.waking = false → (s.noteWake n).pwr.waking = true ∧ (s.noteWake n).pwr.lastWake = n ∧ (s.noteWake n).pwr.wake = some (n, s.clk) ∧ (s.noteWake n).ks.lowPower = false ∧
      ((s.noteWake n).noteWake k) = s.noteWake n) ∧
    (s.pwr.state ≠ .quiet → s.pwr.running.any (fun r => r.1.target == some .quiet) = true → s.pwr.wake = none →
      (s.noteWake n).pwr.wake = some (n, s.clk) ∧ (s.noteWake n).pwr.waking = s.pwr.waking ∧ (s.noteWake n).noteWake k = s.noteWake n) ∧
    (s.pwr.state ≠ .quiet → s.pwr.running = none → s.noteWake n = s)

/-- A supply that fails is ridden out, then loads are shed, then the journal is flushed and the device parks; a supply that returns before the flush undoes it; a parked device boots again once the supply has been good for 100 ms; a load over 120 mA for more than 20 µs in low power resets (17 R446 to R450, R453). -/
def Obligations.SupplyStepsInOrder : Prop :=
  ∀ s : State, s.boot.stage ≠ .held → s.ks.state = .run → s.pwr.state ≠ .park →
    (s.pwr.supply = .normal → ∃ t, exec .pfwNAssert s = .next t ∧ t.pins.pfwN = false ∧ t.pwr.supply = .ride ∧ t.pwr.stepAt = some (s.clk + s.pwr.rideMs * State.ticksPerMs)) ∧
    (∀ t, s.pwr.supply = .ride → s.pins.pfwN = false → s.pwr.stepAt = some t → t ≤ s.clk → ∃ u, exec .rideExpiry s = .next u ∧ u.pwr.supply = .shed ∧ u.model.stopped = true ∧
      u.pwr.stepAt = some (s.clk + s.pwr.flushMs * State.ticksPerMs) ∧ u.pwr.shedGated = votable.filter (fun d => regionOf d == 1 && (s.domain d).state != .gated)) ∧
    (∀ t, s.pwr.supply = .shed → s.pins.pfwN = false → s.pwr.stepAt = some t → t ≤ s.clk → ∃ u, exec .flushStart s = .next u ∧ u.pwr.supply = .flush ∧ u.pl.down = true ∧ u.pl.raised = [] ∧
      u.keep.flushing = true ∧ u.model.stopped = true) ∧
    (∀ mv : List Nat, s.pwr.supply = .normal → ∃ u, exec (.holdSenseFall mv) s = .next u ∧ u.pwr.supply = .normal ∧ u.pins.holdMv = mv.getLastD s.pins.holdMv) ∧
    (∀ a b c : Nat, s.pwr.supply = .ride ∨ s.pwr.supply = .shed → a < s.pwr.holdMv → b < s.pwr.holdMv → c < s.pwr.holdMv →
      ∃ u, exec (.holdSenseFall [a, b, c]) s = .next u ∧ u.pwr.supply = .flush ∧ u.pl.down = true) ∧
    (s.pwr.supply = .flush → ∃ u, exec .flushPark s = .next u ∧ u.pwr.state = .park ∧ u.ks.state = .park ∧ u.ks.released = false ∧ u.ks.lowPower = true ∧ u.pwr.holdMv = s.pwr.holdMv ∧
      u.mem.dram = [] ∧ u.pl = State.reset.pl ∧ u.model = State.reset.model) ∧
    (s.pwr.supply = .ride → ∃ u, exec .pfwNClear s = .next u ∧ u.pins.pfwN = true ∧ u.pwr.supply = .normal ∧ u.pwr.stepAt = none) ∧
    (s.pwr.supply = .shed → s.pwr.asleep = false → s.pwr.running = none → ∃ u, exec .pfwNClear s = .next u ∧ u.pins.pfwN = true ∧ u.pwr.supply = .normal ∧ u.pwr.shedGated = [] ∧ u.model.stopped = false) ∧
    (∀ load us : Nat, s.regLow = true → 120 < load → 20 < us → exec (.brownOut load us) s = .next ((s.deviceReset 6).ksLog 4 0 0).fin) ∧
    (∀ load us : Nat, s.regLow = false ∨ load ≤ 120 ∨ us ≤ 20 → exec (.brownOut load us) s = .next s) ∧
    (∀ (v : State) (t : Nat), v.pwr.state = .park → v.pwr.clearSince = some t → t + 100 * State.ticksPerMs ≤ v.clk → exec .parkExit v = .next (v.deviceReset 5).fin)

/-! ### Patterns (02) and startup (18) -/

/-- The pattern commands complete: a save takes a picture of the configuration and is stored later, an apply and a revert are launched towards their generation, a generation in use is proven by the journal, and the generations are listed (02 R63 to R71).
Patterns and seams in time: a participant's confirmation is noted, the last one commits the seam, and a refusal unpicks it, as do an object that is gone and a resource that is missing; a save ends with its generation stored, or its failure told; an unproven generation reverts at its time (02 R50 to R53, R63, R70). -/
def Obligations.PatternsAct : Prop :=
  (∀ (s : State) (m : Mbx) (c : Cmd),
    (∀ label : U32, s.accepts m (rowPatternSave m label) c = true →
      exec (.patternSave m label) s = .next (({ s with patt := { s.patt with saving := some (m, c.seq, label, s.snapshot) } } : State).answered m 0x0E00 c Rep.pend)) ∧
    (∀ (g : U32) (force : Bool) (after : U32), s.accepts m (rowPatternApply m g force after) c = true →
      exec (.patternApply m g force after) s = .next ((s.launch { opcode := 0x0E01, target := g.toNat, force, seam := 0xFFFF, issuer := some (m, c.seq), revertAfter := if c.hdr.version.toNat < 0x31 then 0 else after.toNat }).answered m 0x0E01 c Rep.pend)) ∧
    (∀ g : U32, s.accepts m (rowPatternProve m g) c = true →
      exec (.patternProve m g) s = .next ((s.journalRoster (.pattern g.toNat 1) (some (m, c.seq))).acting m 0x0E02 c Rep.goesOn)) ∧
    (∀ force : Bool, s.accepts m (rowPatternRevert m force) c = true →
      exec (.patternRevert m force) s = .next ((s.launch { opcode := 0x0E03, target := s.olderProven s.patt.running, force, seam := 0xFFFF, issuer := some (m, c.seq) }).answered m 0x0E03 c Rep.pend)) ∧
    (∀ (g0 : Gen) (l : List (Nat × Gen)), s.genOf 0 = some g0 → l = (0, g0) :: s.patt.gens → s.takes m rowPatternList c (8 + (l.flatMap (fun p => genBytes s p.1 p.2)).length) = true →
      exec (.patternList m) s = .next (s.answered m 0x0E04 c (Rep.ok (le 8 l.length ++ l.flatMap (fun p => genBytes s p.1 p.2)))))) ∧
  (∀ s : State,
    (∀ (id cell : U16) (k : Seam) (parts : List SeamPart), s.seamLive id = some k → k.state = .confirming → s.beforeDeadline k = true → k.parts.any (fun p => p.cell == cell && !p.confirmed) = true →
      s.cellOut cell = false → (k.entries.any (fun e => e.cell == cell && !s.itemExists e.item) || k.cmds.any (fun c => c.cell == cell && !s.refsExist k c.instr)) = false → s.resourcesPresent k cell = true → k.owner ≠ SeamFor.power → k.owner ≠ SeamFor.pattern →
      parts = k.parts.map (fun p => if p.cell = cell then { p with confirmed := true } else p) →
      exec (.participantConfirm id cell none) s = .next (if s.decides && parts.all (fun p => p.confirmed) then ((s.modSeam id (fun q => { q with parts })).commitSeam id).fin
        else s.modSeam id (fun q => { q with parts }))) ∧
    (∀ (id cell : U16) (k : Seam), s.seamLive id = some k → k.state = .confirming → s.beforeDeadline k = true → k.parts.any (fun p => p.cell == cell && !p.confirmed) = true →
      s.cellOut cell = false → s.decides = true → (k.entries.any (fun e => e.cell == cell && !s.itemExists e.item) || k.cmds.any (fun c => c.cell == cell && !s.refsExist k c.instr)) = true →
      exec (.participantConfirm id cell none) s = .next (s.unpickSeam id 1 cell St.noObject).fin) ∧
    (∀ (id cell : U16) (k : Seam), s.seamLive id = some k → k.state = .confirming → s.beforeDeadline k = true → k.parts.any (fun p => p.cell == cell && !p.confirmed) = true →
      s.cellOut cell = false → s.decides = true → (k.entries.any (fun e => e.cell == cell && !s.itemExists e.item) || k.cmds.any (fun c => c.cell == cell && !s.refsExist k c.instr)) = false →
      k.owner ≠ SeamFor.power → k.owner = SeamFor.pattern ∧ s.patternFits = false ∨ s.resourcesPresent k cell = false →
      exec (.participantConfirm id cell none) s = .next (s.unpickSeam id 1 cell St.noCapacity).fin) ∧
    (∀ (id cell : U16) (k : Seam) (r : U8), s.seamLive id = some k → k.state = .confirming → s.beforeDeadline k = true → k.parts.any (fun p => p.cell == cell && !p.confirmed) = true →
      s.cellOut cell = false → s.decides = true → exec (.participantConfirm id cell (some r)) s = .next (s.unpickSeam id 1 cell r).fin) ∧
    (∀ (m : Mbx) (n : Nat) (label : U32) (cfg : PatCfg) (kib : Nat), s.patt.saving = some (m, n, label, cfg) → kib ≤ 262144 →
      exec (.patternSaveDone .ok kib) s = .next ((((({ s with patt := { s.patt with saving := none } } : State).storeGen label cfg kib s.chipS).patternDone (some (m, n)) St.ok 0x0E00
        (({ s with patt := { s.patt with saving := none } } : State).storeGen label cfg kib s.chipS).patt.running 0xFFFF 0xFFFF 0).mirror 16).fin)) ∧
    (∀ (m : Mbx) (n : Nat) (label : U32) (cfg : PatCfg) (kib : Nat), s.patt.saving = some (m, n, label, cfg) →
      exec (.patternSaveDone .fault kib) s =
        .next (({ s with patt := { s.patt with saving := none } } : State).patternDone (some (m, n)) St.storeFault 0x0E00 s.patt.running 0xFFFF 0xFFFF 0).fin ∧
      exec (.patternSaveDone .full kib) s =
        .next (({ s with patt := { s.patt with saving := none } } : State).patternDone (some (m, n)) St.storeFull 0x0E00 s.patt.running 0xFFFF 0xFFFF 0).fin) ∧
    (∀ t, s.patt.revertAt = some t → t ≤ s.clk → s.notPrimary = false → s.unproven = true → s.seamsLive.isEmpty = true →
      exec .revertAfterExpiry s = .next ((({ s with patt := { s.patt with revertAt := none } } : State).launch
        { opcode := 0x0E03, target := s.olderProven s.patt.running, force := false, seam := 0xFFFF, issuer := none }).fin)))

/-- A save that ends well stores a generation with its label and its configuration under the next number and makes it the running one, and no more than eight are kept; the one that ran before and the last proven one stay as they are (02 R63 to R66). -/
def Obligations.StoredGenerationsAreKept : Prop :=
  ∀ (s : State) (m : Mbx) (n : Nat) (label : U32) (cfg : PatCfg) (kib : Nat), s.patt.saving = some (m, n, label, cfg) → kib ≤ 262144 →
    s.patt.gens.length ≤ 8 → (s.patt.gens.map (·.1)).Nodup → (∀ p ∈ s.patt.gens, p.1 ≤ s.patt.highest) →
    ∃ t, exec (.patternSaveDone .ok kib) s = .next t ∧
      t.patt.gens.length ≤ 8 ∧ (t.patt.gens.map (·.1)).Nodup ∧ (∃ p ∈ t.patt.gens, p.1 = s.patt.highest + 1 ∧ p.2.label = label ∧ p.2.cfg = cfg ∧ p.2.sizeKib = kib ∧ p.2.savedS = s.chipS ∧ p.2.proven = false) ∧
      (∀ p ∈ t.patt.gens, p.1 = s.patt.highest + 1 ∨ p ∈ s.patt.gens) ∧ t.patt.running = s.patt.highest + 1 ∧ t.patt.highest = s.patt.highest + 1 ∧ t.patt.saving = none ∧
      (∀ p ∈ s.patt.gens, p.1 = s.patt.running ∨ p.1 = s.patt.proven → p ∈ t.patt.gens)

/-- Startup goes through its stages: the image that is named and verifies boots, the other slot boots where only that verifies, and the recovery image where none does or BOOT_SRC asks for it; a population of channels that trains opens memory, one that does not is stuck until another trains; then the mailboxes run, the boot pattern is applied, and media is ready (18 R459, R460, R462, R463). -/
def Obligations.StartupGoesThroughItsStages : Prop :=
  ∀ s : State,
    (∀ a b : Bool, s.boot.stage = .keystone → ∃ t, exec (.pierImageVerify a b) s = .next t ∧ t.boot.stage = .pierImage ∧ t.ks.state = .run ∧ t.ks.verified = true ∧
      (s.pins.bootSrc = true → t.boot.recovery = true ∧ t.boot.readiness = 0 ∧ t.keep = s.keep) ∧
      (s.pins.bootSrc = false → (if s.keep.bootB then b else a) = true → (s.keep.image s.keep.bootB).state ≠ .empty → s.keep.fusedSvn ≤ (s.keep.image s.keep.bootB).svn →
        t.boot.recovery = s.boot.recovery ∧ t.keep.runB = s.keep.bootB ∧ t.keep.bootB = s.keep.bootB ∧
        (t.keep.image s.keep.bootB).state = (if (s.keep.image s.keep.bootB).state = .staged then .trial else (s.keep.image s.keep.bootB).state)) ∧
      (s.pins.bootSrc = false → (if s.keep.bootB then b else a) = false → (if s.keep.bootB then a else b) = true → (s.keep.image (!s.keep.bootB)).state ≠ .empty →
        s.keep.fusedSvn ≤ (s.keep.image (!s.keep.bootB)).svn → t.boot.recovery = s.boot.recovery ∧ t.keep.runB = !s.keep.bootB ∧ t.keep.lastOutcome = 7 ∧
        ((s.keep.image s.keep.bootB).state = .staged → (t.keep.image s.keep.bootB).state = .rejected)) ∧
      (s.pins.bootSrc = false → a = false → b = false → t.boot.recovery = true ∧ t.keep.lastOutcome = 8)) ∧
    (∀ r : TrainingResult, populationOk r = true → r.failed = [] → s.boot.stage = .pierImage → ∃ t, exec (.ddrTrainingDone r) s = .next t ∧ t.boot.stage = .ddr ∧ t.mem.n = r.channels ∧
      (∀ k : Fin 12, (t.chan k.val).state = (if k.val < r.channels then 1 else 0) ∧ (t.chan k.val).gib = r.capacityGib) ∧ t.mem.dram = s.mem.dram) ∧
    (∀ r : TrainingResult, populationOk r = true → r.failed ≠ [] → (∀ k ∈ r.failed, 8 ≤ k ∧ k < r.channels) → s.boot.stage = .pierImage → ∃ t, exec (.ddrTrainingDone r) s = .next t ∧ t.boot.stage = .ddr ∧
      t.mem.n = 8 ∧ (∀ k : Fin 12, (t.chan k.val).state = (if k.val < 8 then 1 else if k.val < r.channels then 2 else 0))) ∧
    (∀ r : TrainingResult, populationOk r = false ∨ (∃ k ∈ r.failed, k < 8) → s.boot.stage = .pierImage → exec (.ddrTrainingDone r) s = .next { s with boot := { s.boot with stage := .stuck } }) ∧
    (∀ r : TrainingResult, populationOk r = true → r.failed = [] → s.boot.stage = .stuck → ∃ t, exec (.ddrTrainingRetry r) s = .next t ∧ t.boot.stage = .ddr ∧ t.mem.n = r.channels) ∧
    (s.boot.stage = .ddr → ∃ t, exec .mailboxesReady s = .next t ∧ t.boot.stage = .ready ∧ t.boot.ready = true ∧ (t.box 16).running = true ∧ t.isReady 0 = true) ∧
    (∀ bad : List U32, s.boot.stage = .ready → s.boot.recovery = false → s.isReady 2 = false → s.journalUp = true ∨ s.noStore = true → ∃ t, exec (.bootPatternApplied bad) s = .next t ∧
      t.isReady 2 = true ∧ t.patt.running = t.patt.booted ∧ (s.noStore = true → t.patt.running = 0)) ∧
    (s.boot.recovery = false → s.isReady 3 = false → s.isReady 2 = true → s.lookupUp = true ∨ s.noStore = true → ∃ t, exec .mediaReady s = .next t ∧ t.isReady 3 = true ∧
      (s.twin.enabled = true → s.twin.state = .alone → t.twin.state = .joining ∧ t.twin.joinWins = 0))
end

