-- ==== Sys2Proof/Laws/State.lean ====
section
/-! SUPPORT. What each update of one part of the state does to every part: one lemma per part per update. -/

namespace Sys2Proof.Machine

open Sys2Proof

/-! ### One mailbox -/

/-- A mailbox that was set reads as it was set. -/
@[simp] theorem State.box_setBox (s : State) (m : Mbx) (b : Mailbox) : (s.setBox m b).box m = b := by
  simp only [State.box, State.setBox, Vector.get_eq_getElem, Vector.getElem_set_self]

/-- The other mailboxes read as before. -/
theorem State.box_setBox_ne (s : State) {m k : Mbx} (h : k ≠ m) (b : Mailbox) : (s.setBox m b).box k = s.box k := by
  have : m.val ≠ k.val := fun e => h (Fin.ext e.symm)
  simp only [State.box, State.setBox, Vector.get_eq_getElem]
  exact Vector.getElem_set_ne _ _ this

/-- Setting a mailbox twice leaves the second. -/
@[simp] theorem State.setBox_setBox (s : State) (m : Mbx) (a b : Mailbox) : (s.setBox m a).setBox m b = s.setBox m b := by
  simp only [State.setBox, Vector.set_set]

/-- Changing a mailbox is setting it. -/
theorem State.modBox_eq_setBox (s : State) (m : Mbx) (f : Mailbox → Mailbox) : s.modBox m f = s.setBox m (f (s.box m)) := rfl

/-! ### setBox changes pl only -/

@[simp] theorem State.setBox_pins (s : State) (m : Mbx) (b : Mailbox) : (s.setBox m b).pins = s.pins := rfl
@[simp] theorem State.setBox_boot (s : State) (m : Mbx) (b : Mailbox) : (s.setBox m b).boot = s.boot := rfl
@[simp] theorem State.setBox_pl (s : State) (m : Mbx) (b : Mailbox) : (s.setBox m b).pl = { s.pl with boxes := s.pl.boxes.set m b } := rfl
@[simp] theorem State.setBox_seams (s : State) (m : Mbx) (b : Mailbox) : (s.setBox m b).seams = s.seams := rfl
@[simp] theorem State.setBox_fab (s : State) (m : Mbx) (b : Mailbox) : (s.setBox m b).fab = s.fab := rfl
@[simp] theorem State.setBox_model (s : State) (m : Mbx) (b : Mailbox) : (s.setBox m b).model = s.model := rfl
@[simp] theorem State.setBox_snd (s : State) (m : Mbx) (b : Mailbox) : (s.setBox m b).snd = s.snd := rfl
@[simp] theorem State.setBox_pic (s : State) (m : Mbx) (b : Mailbox) : (s.setBox m b).pic = s.pic := rfl
@[simp] theorem State.setBox_fwd (s : State) (m : Mbx) (b : Mailbox) : (s.setBox m b).fwd = s.fwd := rfl
@[simp] theorem State.setBox_time (s : State) (m : Mbx) (b : Mailbox) : (s.setBox m b).time = s.time := rfl
@[simp] theorem State.setBox_net (s : State) (m : Mbx) (b : Mailbox) : (s.setBox m b).net = s.net := rfl
@[simp] theorem State.setBox_cip (s : State) (m : Mbx) (b : Mailbox) : (s.setBox m b).cip = s.cip := rfl
@[simp] theorem State.setBox_acc (s : State) (m : Mbx) (b : Mailbox) : (s.setBox m b).acc = s.acc := rfl
@[simp] theorem State.setBox_twin (s : State) (m : Mbx) (b : Mailbox) : (s.setBox m b).twin = s.twin := rfl
@[simp] theorem State.setBox_keep (s : State) (m : Mbx) (b : Mailbox) : (s.setBox m b).keep = s.keep := rfl
@[simp] theorem State.setBox_disp (s : State) (m : Mbx) (b : Mailbox) : (s.setBox m b).disp = s.disp := rfl
@[simp] theorem State.setBox_mem (s : State) (m : Mbx) (b : Mailbox) : (s.setBox m b).mem = s.mem := rfl
@[simp] theorem State.setBox_dma (s : State) (m : Mbx) (b : Mailbox) : (s.setBox m b).dma = s.dma := rfl
@[simp] theorem State.setBox_ks (s : State) (m : Mbx) (b : Mailbox) : (s.setBox m b).ks = s.ks := rfl
@[simp] theorem State.setBox_pwr (s : State) (m : Mbx) (b : Mailbox) : (s.setBox m b).pwr = s.pwr := rfl
@[simp] theorem State.setBox_patt (s : State) (m : Mbx) (b : Mailbox) : (s.setBox m b).patt = s.patt := rfl
@[simp] theorem State.setBox_pending (s : State) (m : Mbx) (b : Mailbox) : (s.setBox m b).pending = s.pending := rfl
@[simp] theorem State.setBox_draws (s : State) (m : Mbx) (b : Mailbox) : (s.setBox m b).draws = s.draws := rfl

/-! ### modBox changes pl only -/

@[simp] theorem State.modBox_pins (s : State) (m : Mbx) (f : Mailbox → Mailbox) : (s.modBox m f).pins = s.pins := rfl
@[simp] theorem State.modBox_boot (s : State) (m : Mbx) (f : Mailbox → Mailbox) : (s.modBox m f).boot = s.boot := rfl
@[simp] theorem State.modBox_pl (s : State) (m : Mbx) (f : Mailbox → Mailbox) : (s.modBox m f).pl = { s.pl with boxes := s.pl.boxes.set m (f (s.box m)) } := rfl
@[simp] theorem State.modBox_seams (s : State) (m : Mbx) (f : Mailbox → Mailbox) : (s.modBox m f).seams = s.seams := rfl
@[simp] theorem State.modBox_fab (s : State) (m : Mbx) (f : Mailbox → Mailbox) : (s.modBox m f).fab = s.fab := rfl
@[simp] theorem State.modBox_model (s : State) (m : Mbx) (f : Mailbox → Mailbox) : (s.modBox m f).model = s.model := rfl
@[simp] theorem State.modBox_snd (s : State) (m : Mbx) (f : Mailbox → Mailbox) : (s.modBox m f).snd = s.snd := rfl
@[simp] theorem State.modBox_pic (s : State) (m : Mbx) (f : Mailbox → Mailbox) : (s.modBox m f).pic = s.pic := rfl
@[simp] theorem State.modBox_fwd (s : State) (m : Mbx) (f : Mailbox → Mailbox) : (s.modBox m f).fwd = s.fwd := rfl
@[simp] theorem State.modBox_time (s : State) (m : Mbx) (f : Mailbox → Mailbox) : (s.modBox m f).time = s.time := rfl
@[simp] theorem State.modBox_net (s : State) (m : Mbx) (f : Mailbox → Mailbox) : (s.modBox m f).net = s.net := rfl
@[simp] theorem State.modBox_cip (s : State) (m : Mbx) (f : Mailbox → Mailbox) : (s.modBox m f).cip = s.cip := rfl
@[simp] theorem State.modBox_acc (s : State) (m : Mbx) (f : Mailbox → Mailbox) : (s.modBox m f).acc = s.acc := rfl
@[simp] theorem State.modBox_twin (s : State) (m : Mbx) (f : Mailbox → Mailbox) : (s.modBox m f).twin = s.twin := rfl
@[simp] theorem State.modBox_keep (s : State) (m : Mbx) (f : Mailbox → Mailbox) : (s.modBox m f).keep = s.keep := rfl
@[simp] theorem State.modBox_disp (s : State) (m : Mbx) (f : Mailbox → Mailbox) : (s.modBox m f).disp = s.disp := rfl
@[simp] theorem State.modBox_mem (s : State) (m : Mbx) (f : Mailbox → Mailbox) : (s.modBox m f).mem = s.mem := rfl
@[simp] theorem State.modBox_dma (s : State) (m : Mbx) (f : Mailbox → Mailbox) : (s.modBox m f).dma = s.dma := rfl
@[simp] theorem State.modBox_ks (s : State) (m : Mbx) (f : Mailbox → Mailbox) : (s.modBox m f).ks = s.ks := rfl
@[simp] theorem State.modBox_pwr (s : State) (m : Mbx) (f : Mailbox → Mailbox) : (s.modBox m f).pwr = s.pwr := rfl
@[simp] theorem State.modBox_patt (s : State) (m : Mbx) (f : Mailbox → Mailbox) : (s.modBox m f).patt = s.patt := rfl
@[simp] theorem State.modBox_pending (s : State) (m : Mbx) (f : Mailbox → Mailbox) : (s.modBox m f).pending = s.pending := rfl
@[simp] theorem State.modBox_draws (s : State) (m : Mbx) (f : Mailbox → Mailbox) : (s.modBox m f).draws = s.draws := rfl

/-! ### raise changes pl only -/

@[simp] theorem State.raise_pins (s : State) (code : Nat) (status : U8) (data : Bytes) : (s.raise code status data).pins = s.pins := rfl
@[simp] theorem State.raise_boot (s : State) (code : Nat) (status : U8) (data : Bytes) : (s.raise code status data).boot = s.boot := rfl
@[simp] theorem State.raise_pl (s : State) (code : Nat) (status : U8) (data : Bytes) : (s.raise code status data).pl = { s.pl with raised := s.pl.raised ++ [{ code, status, data }] } := rfl
@[simp] theorem State.raise_seams (s : State) (code : Nat) (status : U8) (data : Bytes) : (s.raise code status data).seams = s.seams := rfl
@[simp] theorem State.raise_fab (s : State) (code : Nat) (status : U8) (data : Bytes) : (s.raise code status data).fab = s.fab := rfl
@[simp] theorem State.raise_model (s : State) (code : Nat) (status : U8) (data : Bytes) : (s.raise code status data).model = s.model := rfl
@[simp] theorem State.raise_snd (s : State) (code : Nat) (status : U8) (data : Bytes) : (s.raise code status data).snd = s.snd := rfl
@[simp] theorem State.raise_pic (s : State) (code : Nat) (status : U8) (data : Bytes) : (s.raise code status data).pic = s.pic := rfl
@[simp] theorem State.raise_fwd (s : State) (code : Nat) (status : U8) (data : Bytes) : (s.raise code status data).fwd = s.fwd := rfl
@[simp] theorem State.raise_time (s : State) (code : Nat) (status : U8) (data : Bytes) : (s.raise code status data).time = s.time := rfl
@[simp] theorem State.raise_net (s : State) (code : Nat) (status : U8) (data : Bytes) : (s.raise code status data).net = s.net := rfl
@[simp] theorem State.raise_cip (s : State) (code : Nat) (status : U8) (data : Bytes) : (s.raise code status data).cip = s.cip := rfl
@[simp] theorem State.raise_acc (s : State) (code : Nat) (status : U8) (data : Bytes) : (s.raise code status data).acc = s.acc := rfl
@[simp] theorem State.raise_twin (s : State) (code : Nat) (status : U8) (data : Bytes) : (s.raise code status data).twin = s.twin := rfl
@[simp] theorem State.raise_keep (s : State) (code : Nat) (status : U8) (data : Bytes) : (s.raise code status data).keep = s.keep := rfl
@[simp] theorem State.raise_disp (s : State) (code : Nat) (status : U8) (data : Bytes) : (s.raise code status data).disp = s.disp := rfl
@[simp] theorem State.raise_mem (s : State) (code : Nat) (status : U8) (data : Bytes) : (s.raise code status data).mem = s.mem := rfl
@[simp] theorem State.raise_dma (s : State) (code : Nat) (status : U8) (data : Bytes) : (s.raise code status data).dma = s.dma := rfl
@[simp] theorem State.raise_ks (s : State) (code : Nat) (status : U8) (data : Bytes) : (s.raise code status data).ks = s.ks := rfl
@[simp] theorem State.raise_pwr (s : State) (code : Nat) (status : U8) (data : Bytes) : (s.raise code status data).pwr = s.pwr := rfl
@[simp] theorem State.raise_patt (s : State) (code : Nat) (status : U8) (data : Bytes) : (s.raise code status data).patt = s.patt := rfl
@[simp] theorem State.raise_pending (s : State) (code : Nat) (status : U8) (data : Bytes) : (s.raise code status data).pending = s.pending := rfl
@[simp] theorem State.raise_draws (s : State) (code : Nat) (status : U8) (data : Bytes) : (s.raise code status data).draws = s.draws := rfl

/-! ### raiseTo changes pl only -/

@[simp] theorem State.raiseTo_pins (s : State) (m : Mbx) (code : Nat) (status : U8) (data : Bytes) : (s.raiseTo m code status data).pins = s.pins := rfl
@[simp] theorem State.raiseTo_boot (s : State) (m : Mbx) (code : Nat) (status : U8) (data : Bytes) : (s.raiseTo m code status data).boot = s.boot := rfl
@[simp] theorem State.raiseTo_pl (s : State) (m : Mbx) (code : Nat) (status : U8) (data : Bytes) : (s.raiseTo m code status data).pl = { s.pl with raised := s.pl.raised ++ [{ code, status, data, dest := some m }] } := rfl
@[simp] theorem State.raiseTo_seams (s : State) (m : Mbx) (code : Nat) (status : U8) (data : Bytes) : (s.raiseTo m code status data).seams = s.seams := rfl
@[simp] theorem State.raiseTo_fab (s : State) (m : Mbx) (code : Nat) (status : U8) (data : Bytes) : (s.raiseTo m code status data).fab = s.fab := rfl
@[simp] theorem State.raiseTo_model (s : State) (m : Mbx) (code : Nat) (status : U8) (data : Bytes) : (s.raiseTo m code status data).model = s.model := rfl
@[simp] theorem State.raiseTo_snd (s : State) (m : Mbx) (code : Nat) (status : U8) (data : Bytes) : (s.raiseTo m code status data).snd = s.snd := rfl
@[simp] theorem State.raiseTo_pic (s : State) (m : Mbx) (code : Nat) (status : U8) (data : Bytes) : (s.raiseTo m code status data).pic = s.pic := rfl
@[simp] theorem State.raiseTo_fwd (s : State) (m : Mbx) (code : Nat) (status : U8) (data : Bytes) : (s.raiseTo m code status data).fwd = s.fwd := rfl
@[simp] theorem State.raiseTo_time (s : State) (m : Mbx) (code : Nat) (status : U8) (data : Bytes) : (s.raiseTo m code status data).time = s.time := rfl
@[simp] theorem State.raiseTo_net (s : State) (m : Mbx) (code : Nat) (status : U8) (data : Bytes) : (s.raiseTo m code status data).net = s.net := rfl
@[simp] theorem State.raiseTo_cip (s : State) (m : Mbx) (code : Nat) (status : U8) (data : Bytes) : (s.raiseTo m code status data).cip = s.cip := rfl
@[simp] theorem State.raiseTo_acc (s : State) (m : Mbx) (code : Nat) (status : U8) (data : Bytes) : (s.raiseTo m code status data).acc = s.acc := rfl
@[simp] theorem State.raiseTo_twin (s : State) (m : Mbx) (code : Nat) (status : U8) (data : Bytes) : (s.raiseTo m code status data).twin = s.twin := rfl
@[simp] theorem State.raiseTo_keep (s : State) (m : Mbx) (code : Nat) (status : U8) (data : Bytes) : (s.raiseTo m code status data).keep = s.keep := rfl
@[simp] theorem State.raiseTo_disp (s : State) (m : Mbx) (code : Nat) (status : U8) (data : Bytes) : (s.raiseTo m code status data).disp = s.disp := rfl
@[simp] theorem State.raiseTo_mem (s : State) (m : Mbx) (code : Nat) (status : U8) (data : Bytes) : (s.raiseTo m code status data).mem = s.mem := rfl
@[simp] theorem State.raiseTo_dma (s : State) (m : Mbx) (code : Nat) (status : U8) (data : Bytes) : (s.raiseTo m code status data).dma = s.dma := rfl
@[simp] theorem State.raiseTo_ks (s : State) (m : Mbx) (code : Nat) (status : U8) (data : Bytes) : (s.raiseTo m code status data).ks = s.ks := rfl
@[simp] theorem State.raiseTo_pwr (s : State) (m : Mbx) (code : Nat) (status : U8) (data : Bytes) : (s.raiseTo m code status data).pwr = s.pwr := rfl
@[simp] theorem State.raiseTo_patt (s : State) (m : Mbx) (code : Nat) (status : U8) (data : Bytes) : (s.raiseTo m code status data).patt = s.patt := rfl
@[simp] theorem State.raiseTo_pending (s : State) (m : Mbx) (code : Nat) (status : U8) (data : Bytes) : (s.raiseTo m code status data).pending = s.pending := rfl
@[simp] theorem State.raiseTo_draws (s : State) (m : Mbx) (code : Nat) (status : U8) (data : Bytes) : (s.raiseTo m code status data).draws = s.draws := rfl

/-! ### raiseDone changes pl only -/

@[simp] theorem State.raiseDone_pins (s : State) (m : Mbx) (seq code : Nat) (status : U8) (data : Bytes) : (s.raiseDone m seq code status data).pins = s.pins := rfl
@[simp] theorem State.raiseDone_boot (s : State) (m : Mbx) (seq code : Nat) (status : U8) (data : Bytes) : (s.raiseDone m seq code status data).boot = s.boot := rfl
@[simp] theorem State.raiseDone_pl (s : State) (m : Mbx) (seq code : Nat) (status : U8) (data : Bytes) : (s.raiseDone m seq code status data).pl = { s.pl with raised := s.pl.raised ++ [{ code, status, data, dest := some m, seq := some seq }] } := rfl
@[simp] theorem State.raiseDone_seams (s : State) (m : Mbx) (seq code : Nat) (status : U8) (data : Bytes) : (s.raiseDone m seq code status data).seams = s.seams := rfl
@[simp] theorem State.raiseDone_fab (s : State) (m : Mbx) (seq code : Nat) (status : U8) (data : Bytes) : (s.raiseDone m seq code status data).fab = s.fab := rfl
@[simp] theorem State.raiseDone_model (s : State) (m : Mbx) (seq code : Nat) (status : U8) (data : Bytes) : (s.raiseDone m seq code status data).model = s.model := rfl
@[simp] theorem State.raiseDone_snd (s : State) (m : Mbx) (seq code : Nat) (status : U8) (data : Bytes) : (s.raiseDone m seq code status data).snd = s.snd := rfl
@[simp] theorem State.raiseDone_pic (s : State) (m : Mbx) (seq code : Nat) (status : U8) (data : Bytes) : (s.raiseDone m seq code status data).pic = s.pic := rfl
@[simp] theorem State.raiseDone_fwd (s : State) (m : Mbx) (seq code : Nat) (status : U8) (data : Bytes) : (s.raiseDone m seq code status data).fwd = s.fwd := rfl
@[simp] theorem State.raiseDone_time (s : State) (m : Mbx) (seq code : Nat) (status : U8) (data : Bytes) : (s.raiseDone m seq code status data).time = s.time := rfl
@[simp] theorem State.raiseDone_net (s : State) (m : Mbx) (seq code : Nat) (status : U8) (data : Bytes) : (s.raiseDone m seq code status data).net = s.net := rfl
@[simp] theorem State.raiseDone_cip (s : State) (m : Mbx) (seq code : Nat) (status : U8) (data : Bytes) : (s.raiseDone m seq code status data).cip = s.cip := rfl
@[simp] theorem State.raiseDone_acc (s : State) (m : Mbx) (seq code : Nat) (status : U8) (data : Bytes) : (s.raiseDone m seq code status data).acc = s.acc := rfl
@[simp] theorem State.raiseDone_twin (s : State) (m : Mbx) (seq code : Nat) (status : U8) (data : Bytes) : (s.raiseDone m seq code status data).twin = s.twin := rfl
@[simp] theorem State.raiseDone_keep (s : State) (m : Mbx) (seq code : Nat) (status : U8) (data : Bytes) : (s.raiseDone m seq code status data).keep = s.keep := rfl
@[simp] theorem State.raiseDone_disp (s : State) (m : Mbx) (seq code : Nat) (status : U8) (data : Bytes) : (s.raiseDone m seq code status data).disp = s.disp := rfl
@[simp] theorem State.raiseDone_mem (s : State) (m : Mbx) (seq code : Nat) (status : U8) (data : Bytes) : (s.raiseDone m seq code status data).mem = s.mem := rfl
@[simp] theorem State.raiseDone_dma (s : State) (m : Mbx) (seq code : Nat) (status : U8) (data : Bytes) : (s.raiseDone m seq code status data).dma = s.dma := rfl
@[simp] theorem State.raiseDone_ks (s : State) (m : Mbx) (seq code : Nat) (status : U8) (data : Bytes) : (s.raiseDone m seq code status data).ks = s.ks := rfl
@[simp] theorem State.raiseDone_pwr (s : State) (m : Mbx) (seq code : Nat) (status : U8) (data : Bytes) : (s.raiseDone m seq code status data).pwr = s.pwr := rfl
@[simp] theorem State.raiseDone_patt (s : State) (m : Mbx) (seq code : Nat) (status : U8) (data : Bytes) : (s.raiseDone m seq code status data).patt = s.patt := rfl
@[simp] theorem State.raiseDone_pending (s : State) (m : Mbx) (seq code : Nat) (status : U8) (data : Bytes) : (s.raiseDone m seq code status data).pending = s.pending := rfl
@[simp] theorem State.raiseDone_draws (s : State) (m : Mbx) (seq code : Nat) (status : U8) (data : Bytes) : (s.raiseDone m seq code status data).draws = s.draws := rfl

/-! ### modSmb changes pl only -/

@[simp] theorem State.modSmb_pins (s : State) (f : Smbus → Smbus) : (s.modSmb f).pins = s.pins := rfl
@[simp] theorem State.modSmb_boot (s : State) (f : Smbus → Smbus) : (s.modSmb f).boot = s.boot := rfl
@[simp] theorem State.modSmb_pl (s : State) (f : Smbus → Smbus) : (s.modSmb f).pl = { s.pl with smb := f s.pl.smb } := rfl
@[simp] theorem State.modSmb_seams (s : State) (f : Smbus → Smbus) : (s.modSmb f).seams = s.seams := rfl
@[simp] theorem State.modSmb_fab (s : State) (f : Smbus → Smbus) : (s.modSmb f).fab = s.fab := rfl
@[simp] theorem State.modSmb_model (s : State) (f : Smbus → Smbus) : (s.modSmb f).model = s.model := rfl
@[simp] theorem State.modSmb_snd (s : State) (f : Smbus → Smbus) : (s.modSmb f).snd = s.snd := rfl
@[simp] theorem State.modSmb_pic (s : State) (f : Smbus → Smbus) : (s.modSmb f).pic = s.pic := rfl
@[simp] theorem State.modSmb_fwd (s : State) (f : Smbus → Smbus) : (s.modSmb f).fwd = s.fwd := rfl
@[simp] theorem State.modSmb_time (s : State) (f : Smbus → Smbus) : (s.modSmb f).time = s.time := rfl
@[simp] theorem State.modSmb_net (s : State) (f : Smbus → Smbus) : (s.modSmb f).net = s.net := rfl
@[simp] theorem State.modSmb_cip (s : State) (f : Smbus → Smbus) : (s.modSmb f).cip = s.cip := rfl
@[simp] theorem State.modSmb_acc (s : State) (f : Smbus → Smbus) : (s.modSmb f).acc = s.acc := rfl
@[simp] theorem State.modSmb_twin (s : State) (f : Smbus → Smbus) : (s.modSmb f).twin = s.twin := rfl
@[simp] theorem State.modSmb_keep (s : State) (f : Smbus → Smbus) : (s.modSmb f).keep = s.keep := rfl
@[simp] theorem State.modSmb_disp (s : State) (f : Smbus → Smbus) : (s.modSmb f).disp = s.disp := rfl
@[simp] theorem State.modSmb_mem (s : State) (f : Smbus → Smbus) : (s.modSmb f).mem = s.mem := rfl
@[simp] theorem State.modSmb_dma (s : State) (f : Smbus → Smbus) : (s.modSmb f).dma = s.dma := rfl
@[simp] theorem State.modSmb_ks (s : State) (f : Smbus → Smbus) : (s.modSmb f).ks = s.ks := rfl
@[simp] theorem State.modSmb_pwr (s : State) (f : Smbus → Smbus) : (s.modSmb f).pwr = s.pwr := rfl
@[simp] theorem State.modSmb_patt (s : State) (f : Smbus → Smbus) : (s.modSmb f).patt = s.patt := rfl
@[simp] theorem State.modSmb_pending (s : State) (f : Smbus → Smbus) : (s.modSmb f).pending = s.pending := rfl
@[simp] theorem State.modSmb_draws (s : State) (f : Smbus → Smbus) : (s.modSmb f).draws = s.draws := rfl

/-! ### modSeam changes seams only -/

@[simp] theorem State.modSeam_pins (s : State) (i : U16) (f : Seam → Seam) : (s.modSeam i f).pins = s.pins := rfl
@[simp] theorem State.modSeam_boot (s : State) (i : U16) (f : Seam → Seam) : (s.modSeam i f).boot = s.boot := rfl
@[simp] theorem State.modSeam_pl (s : State) (i : U16) (f : Seam → Seam) : (s.modSeam i f).pl = s.pl := rfl
@[simp] theorem State.modSeam_seams (s : State) (i : U16) (f : Seam → Seam) : (s.modSeam i f).seams = { s.seams with list := s.seams.list.map (fun k => if k.id == i && k.inProgress then f k else k) } := rfl
@[simp] theorem State.modSeam_fab (s : State) (i : U16) (f : Seam → Seam) : (s.modSeam i f).fab = s.fab := rfl
@[simp] theorem State.modSeam_model (s : State) (i : U16) (f : Seam → Seam) : (s.modSeam i f).model = s.model := rfl
@[simp] theorem State.modSeam_snd (s : State) (i : U16) (f : Seam → Seam) : (s.modSeam i f).snd = s.snd := rfl
@[simp] theorem State.modSeam_pic (s : State) (i : U16) (f : Seam → Seam) : (s.modSeam i f).pic = s.pic := rfl
@[simp] theorem State.modSeam_fwd (s : State) (i : U16) (f : Seam → Seam) : (s.modSeam i f).fwd = s.fwd := rfl
@[simp] theorem State.modSeam_time (s : State) (i : U16) (f : Seam → Seam) : (s.modSeam i f).time = s.time := rfl
@[simp] theorem State.modSeam_net (s : State) (i : U16) (f : Seam → Seam) : (s.modSeam i f).net = s.net := rfl
@[simp] theorem State.modSeam_cip (s : State) (i : U16) (f : Seam → Seam) : (s.modSeam i f).cip = s.cip := rfl
@[simp] theorem State.modSeam_acc (s : State) (i : U16) (f : Seam → Seam) : (s.modSeam i f).acc = s.acc := rfl
@[simp] theorem State.modSeam_twin (s : State) (i : U16) (f : Seam → Seam) : (s.modSeam i f).twin = s.twin := rfl
@[simp] theorem State.modSeam_keep (s : State) (i : U16) (f : Seam → Seam) : (s.modSeam i f).keep = s.keep := rfl
@[simp] theorem State.modSeam_disp (s : State) (i : U16) (f : Seam → Seam) : (s.modSeam i f).disp = s.disp := rfl
@[simp] theorem State.modSeam_mem (s : State) (i : U16) (f : Seam → Seam) : (s.modSeam i f).mem = s.mem := rfl
@[simp] theorem State.modSeam_dma (s : State) (i : U16) (f : Seam → Seam) : (s.modSeam i f).dma = s.dma := rfl
@[simp] theorem State.modSeam_ks (s : State) (i : U16) (f : Seam → Seam) : (s.modSeam i f).ks = s.ks := rfl
@[simp] theorem State.modSeam_pwr (s : State) (i : U16) (f : Seam → Seam) : (s.modSeam i f).pwr = s.pwr := rfl
@[simp] theorem State.modSeam_patt (s : State) (i : U16) (f : Seam → Seam) : (s.modSeam i f).patt = s.patt := rfl
@[simp] theorem State.modSeam_pending (s : State) (i : U16) (f : Seam → Seam) : (s.modSeam i f).pending = s.pending := rfl
@[simp] theorem State.modSeam_draws (s : State) (i : U16) (f : Seam → Seam) : (s.modSeam i f).draws = s.draws := rfl

/-! ### modCell changes fab only -/

@[simp] theorem State.modCell_pins (s : State) (i : U16) (f : Cell → Cell) : (s.modCell i f).pins = s.pins := rfl
@[simp] theorem State.modCell_boot (s : State) (i : U16) (f : Cell → Cell) : (s.modCell i f).boot = s.boot := rfl
@[simp] theorem State.modCell_pl (s : State) (i : U16) (f : Cell → Cell) : (s.modCell i f).pl = s.pl := rfl
@[simp] theorem State.modCell_seams (s : State) (i : U16) (f : Cell → Cell) : (s.modCell i f).seams = s.seams := rfl
@[simp] theorem State.modCell_fab (s : State) (i : U16) (f : Cell → Cell) : (s.modCell i f).fab = { s.fab with cells := tput s.fab.cells i.toNat (f (s.cell i)) } := rfl
@[simp] theorem State.modCell_model (s : State) (i : U16) (f : Cell → Cell) : (s.modCell i f).model = s.model := rfl
@[simp] theorem State.modCell_snd (s : State) (i : U16) (f : Cell → Cell) : (s.modCell i f).snd = s.snd := rfl
@[simp] theorem State.modCell_pic (s : State) (i : U16) (f : Cell → Cell) : (s.modCell i f).pic = s.pic := rfl
@[simp] theorem State.modCell_fwd (s : State) (i : U16) (f : Cell → Cell) : (s.modCell i f).fwd = s.fwd := rfl
@[simp] theorem State.modCell_time (s : State) (i : U16) (f : Cell → Cell) : (s.modCell i f).time = s.time := rfl
@[simp] theorem State.modCell_net (s : State) (i : U16) (f : Cell → Cell) : (s.modCell i f).net = s.net := rfl
@[simp] theorem State.modCell_cip (s : State) (i : U16) (f : Cell → Cell) : (s.modCell i f).cip = s.cip := rfl
@[simp] theorem State.modCell_acc (s : State) (i : U16) (f : Cell → Cell) : (s.modCell i f).acc = s.acc := rfl
@[simp] theorem State.modCell_twin (s : State) (i : U16) (f : Cell → Cell) : (s.modCell i f).twin = s.twin := rfl
@[simp] theorem State.modCell_keep (s : State) (i : U16) (f : Cell → Cell) : (s.modCell i f).keep = s.keep := rfl
@[simp] theorem State.modCell_disp (s : State) (i : U16) (f : Cell → Cell) : (s.modCell i f).disp = s.disp := rfl
@[simp] theorem State.modCell_mem (s : State) (i : U16) (f : Cell → Cell) : (s.modCell i f).mem = s.mem := rfl
@[simp] theorem State.modCell_dma (s : State) (i : U16) (f : Cell → Cell) : (s.modCell i f).dma = s.dma := rfl
@[simp] theorem State.modCell_ks (s : State) (i : U16) (f : Cell → Cell) : (s.modCell i f).ks = s.ks := rfl
@[simp] theorem State.modCell_pwr (s : State) (i : U16) (f : Cell → Cell) : (s.modCell i f).pwr = s.pwr := rfl
@[simp] theorem State.modCell_patt (s : State) (i : U16) (f : Cell → Cell) : (s.modCell i f).patt = s.patt := rfl
@[simp] theorem State.modCell_pending (s : State) (i : U16) (f : Cell → Cell) : (s.modCell i f).pending = s.pending := rfl
@[simp] theorem State.modCell_draws (s : State) (i : U16) (f : Cell → Cell) : (s.modCell i f).draws = s.draws := rfl

/-! ### modBlock changes fab only -/

@[simp] theorem State.modBlock_pins (s : State) (i : U16) (f : Block → Block) : (s.modBlock i f).pins = s.pins := rfl
@[simp] theorem State.modBlock_boot (s : State) (i : U16) (f : Block → Block) : (s.modBlock i f).boot = s.boot := rfl
@[simp] theorem State.modBlock_pl (s : State) (i : U16) (f : Block → Block) : (s.modBlock i f).pl = s.pl := rfl
@[simp] theorem State.modBlock_seams (s : State) (i : U16) (f : Block → Block) : (s.modBlock i f).seams = s.seams := rfl
@[simp] theorem State.modBlock_fab (s : State) (i : U16) (f : Block → Block) : (s.modBlock i f).fab = { s.fab with blocks := tput s.fab.blocks i.toNat (f (s.block i)) } := rfl
@[simp] theorem State.modBlock_model (s : State) (i : U16) (f : Block → Block) : (s.modBlock i f).model = s.model := rfl
@[simp] theorem State.modBlock_snd (s : State) (i : U16) (f : Block → Block) : (s.modBlock i f).snd = s.snd := rfl
@[simp] theorem State.modBlock_pic (s : State) (i : U16) (f : Block → Block) : (s.modBlock i f).pic = s.pic := rfl
@[simp] theorem State.modBlock_fwd (s : State) (i : U16) (f : Block → Block) : (s.modBlock i f).fwd = s.fwd := rfl
@[simp] theorem State.modBlock_time (s : State) (i : U16) (f : Block → Block) : (s.modBlock i f).time = s.time := rfl
@[simp] theorem State.modBlock_net (s : State) (i : U16) (f : Block → Block) : (s.modBlock i f).net = s.net := rfl
@[simp] theorem State.modBlock_cip (s : State) (i : U16) (f : Block → Block) : (s.modBlock i f).cip = s.cip := rfl
@[simp] theorem State.modBlock_acc (s : State) (i : U16) (f : Block → Block) : (s.modBlock i f).acc = s.acc := rfl
@[simp] theorem State.modBlock_twin (s : State) (i : U16) (f : Block → Block) : (s.modBlock i f).twin = s.twin := rfl
@[simp] theorem State.modBlock_keep (s : State) (i : U16) (f : Block → Block) : (s.modBlock i f).keep = s.keep := rfl
@[simp] theorem State.modBlock_disp (s : State) (i : U16) (f : Block → Block) : (s.modBlock i f).disp = s.disp := rfl
@[simp] theorem State.modBlock_mem (s : State) (i : U16) (f : Block → Block) : (s.modBlock i f).mem = s.mem := rfl
@[simp] theorem State.modBlock_dma (s : State) (i : U16) (f : Block → Block) : (s.modBlock i f).dma = s.dma := rfl
@[simp] theorem State.modBlock_ks (s : State) (i : U16) (f : Block → Block) : (s.modBlock i f).ks = s.ks := rfl
@[simp] theorem State.modBlock_pwr (s : State) (i : U16) (f : Block → Block) : (s.modBlock i f).pwr = s.pwr := rfl
@[simp] theorem State.modBlock_patt (s : State) (i : U16) (f : Block → Block) : (s.modBlock i f).patt = s.patt := rfl
@[simp] theorem State.modBlock_pending (s : State) (i : U16) (f : Block → Block) : (s.modBlock i f).pending = s.pending := rfl
@[simp] theorem State.modBlock_draws (s : State) (i : U16) (f : Block → Block) : (s.modBlock i f).draws = s.draws := rfl

/-! ### modLeg changes model only -/

@[simp] theorem State.modLeg_pins (s : State) (l : Nat) (f : Leg → Leg) : (s.modLeg l f).pins = s.pins := rfl
@[simp] theorem State.modLeg_boot (s : State) (l : Nat) (f : Leg → Leg) : (s.modLeg l f).boot = s.boot := rfl
@[simp] theorem State.modLeg_pl (s : State) (l : Nat) (f : Leg → Leg) : (s.modLeg l f).pl = s.pl := rfl
@[simp] theorem State.modLeg_seams (s : State) (l : Nat) (f : Leg → Leg) : (s.modLeg l f).seams = s.seams := rfl
@[simp] theorem State.modLeg_fab (s : State) (l : Nat) (f : Leg → Leg) : (s.modLeg l f).fab = s.fab := rfl
@[simp] theorem State.modLeg_model (s : State) (l : Nat) (f : Leg → Leg) : (s.modLeg l f).model = { s.model with legs := tmod s.model.legs l f } := rfl
@[simp] theorem State.modLeg_snd (s : State) (l : Nat) (f : Leg → Leg) : (s.modLeg l f).snd = s.snd := rfl
@[simp] theorem State.modLeg_pic (s : State) (l : Nat) (f : Leg → Leg) : (s.modLeg l f).pic = s.pic := rfl
@[simp] theorem State.modLeg_fwd (s : State) (l : Nat) (f : Leg → Leg) : (s.modLeg l f).fwd = s.fwd := rfl
@[simp] theorem State.modLeg_time (s : State) (l : Nat) (f : Leg → Leg) : (s.modLeg l f).time = s.time := rfl
@[simp] theorem State.modLeg_net (s : State) (l : Nat) (f : Leg → Leg) : (s.modLeg l f).net = s.net := rfl
@[simp] theorem State.modLeg_cip (s : State) (l : Nat) (f : Leg → Leg) : (s.modLeg l f).cip = s.cip := rfl
@[simp] theorem State.modLeg_acc (s : State) (l : Nat) (f : Leg → Leg) : (s.modLeg l f).acc = s.acc := rfl
@[simp] theorem State.modLeg_twin (s : State) (l : Nat) (f : Leg → Leg) : (s.modLeg l f).twin = s.twin := rfl
@[simp] theorem State.modLeg_keep (s : State) (l : Nat) (f : Leg → Leg) : (s.modLeg l f).keep = s.keep := rfl
@[simp] theorem State.modLeg_disp (s : State) (l : Nat) (f : Leg → Leg) : (s.modLeg l f).disp = s.disp := rfl
@[simp] theorem State.modLeg_mem (s : State) (l : Nat) (f : Leg → Leg) : (s.modLeg l f).mem = s.mem := rfl
@[simp] theorem State.modLeg_dma (s : State) (l : Nat) (f : Leg → Leg) : (s.modLeg l f).dma = s.dma := rfl
@[simp] theorem State.modLeg_ks (s : State) (l : Nat) (f : Leg → Leg) : (s.modLeg l f).ks = s.ks := rfl
@[simp] theorem State.modLeg_pwr (s : State) (l : Nat) (f : Leg → Leg) : (s.modLeg l f).pwr = s.pwr := rfl
@[simp] theorem State.modLeg_patt (s : State) (l : Nat) (f : Leg → Leg) : (s.modLeg l f).patt = s.patt := rfl
@[simp] theorem State.modLeg_pending (s : State) (l : Nat) (f : Leg → Leg) : (s.modLeg l f).pending = s.pending := rfl
@[simp] theorem State.modLeg_draws (s : State) (l : Nat) (f : Leg → Leg) : (s.modLeg l f).draws = s.draws := rfl

/-! ### modSnd changes snd only -/

@[simp] theorem State.modSnd_pins (s : State) (f : Sound → Sound) : (s.modSnd f).pins = s.pins := rfl
@[simp] theorem State.modSnd_boot (s : State) (f : Sound → Sound) : (s.modSnd f).boot = s.boot := rfl
@[simp] theorem State.modSnd_pl (s : State) (f : Sound → Sound) : (s.modSnd f).pl = s.pl := rfl
@[simp] theorem State.modSnd_seams (s : State) (f : Sound → Sound) : (s.modSnd f).seams = s.seams := rfl
@[simp] theorem State.modSnd_fab (s : State) (f : Sound → Sound) : (s.modSnd f).fab = s.fab := rfl
@[simp] theorem State.modSnd_model (s : State) (f : Sound → Sound) : (s.modSnd f).model = s.model := rfl
@[simp] theorem State.modSnd_snd (s : State) (f : Sound → Sound) : (s.modSnd f).snd = f s.snd := rfl
@[simp] theorem State.modSnd_pic (s : State) (f : Sound → Sound) : (s.modSnd f).pic = s.pic := rfl
@[simp] theorem State.modSnd_fwd (s : State) (f : Sound → Sound) : (s.modSnd f).fwd = s.fwd := rfl
@[simp] theorem State.modSnd_time (s : State) (f : Sound → Sound) : (s.modSnd f).time = s.time := rfl
@[simp] theorem State.modSnd_net (s : State) (f : Sound → Sound) : (s.modSnd f).net = s.net := rfl
@[simp] theorem State.modSnd_cip (s : State) (f : Sound → Sound) : (s.modSnd f).cip = s.cip := rfl
@[simp] theorem State.modSnd_acc (s : State) (f : Sound → Sound) : (s.modSnd f).acc = s.acc := rfl
@[simp] theorem State.modSnd_twin (s : State) (f : Sound → Sound) : (s.modSnd f).twin = s.twin := rfl
@[simp] theorem State.modSnd_keep (s : State) (f : Sound → Sound) : (s.modSnd f).keep = s.keep := rfl
@[simp] theorem State.modSnd_disp (s : State) (f : Sound → Sound) : (s.modSnd f).disp = s.disp := rfl
@[simp] theorem State.modSnd_mem (s : State) (f : Sound → Sound) : (s.modSnd f).mem = s.mem := rfl
@[simp] theorem State.modSnd_dma (s : State) (f : Sound → Sound) : (s.modSnd f).dma = s.dma := rfl
@[simp] theorem State.modSnd_ks (s : State) (f : Sound → Sound) : (s.modSnd f).ks = s.ks := rfl
@[simp] theorem State.modSnd_pwr (s : State) (f : Sound → Sound) : (s.modSnd f).pwr = s.pwr := rfl
@[simp] theorem State.modSnd_patt (s : State) (f : Sound → Sound) : (s.modSnd f).patt = s.patt := rfl
@[simp] theorem State.modSnd_pending (s : State) (f : Sound → Sound) : (s.modSnd f).pending = s.pending := rfl
@[simp] theorem State.modSnd_draws (s : State) (f : Sound → Sound) : (s.modSnd f).draws = s.draws := rfl

/-! ### modPic changes pic only -/

@[simp] theorem State.modPic_pins (s : State) (f : Picture → Picture) : (s.modPic f).pins = s.pins := rfl
@[simp] theorem State.modPic_boot (s : State) (f : Picture → Picture) : (s.modPic f).boot = s.boot := rfl
@[simp] theorem State.modPic_pl (s : State) (f : Picture → Picture) : (s.modPic f).pl = s.pl := rfl
@[simp] theorem State.modPic_seams (s : State) (f : Picture → Picture) : (s.modPic f).seams = s.seams := rfl
@[simp] theorem State.modPic_fab (s : State) (f : Picture → Picture) : (s.modPic f).fab = s.fab := rfl
@[simp] theorem State.modPic_model (s : State) (f : Picture → Picture) : (s.modPic f).model = s.model := rfl
@[simp] theorem State.modPic_snd (s : State) (f : Picture → Picture) : (s.modPic f).snd = s.snd := rfl
@[simp] theorem State.modPic_pic (s : State) (f : Picture → Picture) : (s.modPic f).pic = f s.pic := rfl
@[simp] theorem State.modPic_fwd (s : State) (f : Picture → Picture) : (s.modPic f).fwd = s.fwd := rfl
@[simp] theorem State.modPic_time (s : State) (f : Picture → Picture) : (s.modPic f).time = s.time := rfl
@[simp] theorem State.modPic_net (s : State) (f : Picture → Picture) : (s.modPic f).net = s.net := rfl
@[simp] theorem State.modPic_cip (s : State) (f : Picture → Picture) : (s.modPic f).cip = s.cip := rfl
@[simp] theorem State.modPic_acc (s : State) (f : Picture → Picture) : (s.modPic f).acc = s.acc := rfl
@[simp] theorem State.modPic_twin (s : State) (f : Picture → Picture) : (s.modPic f).twin = s.twin := rfl
@[simp] theorem State.modPic_keep (s : State) (f : Picture → Picture) : (s.modPic f).keep = s.keep := rfl
@[simp] theorem State.modPic_disp (s : State) (f : Picture → Picture) : (s.modPic f).disp = s.disp := rfl
@[simp] theorem State.modPic_mem (s : State) (f : Picture → Picture) : (s.modPic f).mem = s.mem := rfl
@[simp] theorem State.modPic_dma (s : State) (f : Picture → Picture) : (s.modPic f).dma = s.dma := rfl
@[simp] theorem State.modPic_ks (s : State) (f : Picture → Picture) : (s.modPic f).ks = s.ks := rfl
@[simp] theorem State.modPic_pwr (s : State) (f : Picture → Picture) : (s.modPic f).pwr = s.pwr := rfl
@[simp] theorem State.modPic_patt (s : State) (f : Picture → Picture) : (s.modPic f).patt = s.patt := rfl
@[simp] theorem State.modPic_pending (s : State) (f : Picture → Picture) : (s.modPic f).pending = s.pending := rfl
@[simp] theorem State.modPic_draws (s : State) (f : Picture → Picture) : (s.modPic f).draws = s.draws := rfl

/-! ### modFwd changes fwd only -/

@[simp] theorem State.modFwd_pins (s : State) (f : Fwd → Fwd) : (s.modFwd f).pins = s.pins := rfl
@[simp] theorem State.modFwd_boot (s : State) (f : Fwd → Fwd) : (s.modFwd f).boot = s.boot := rfl
@[simp] theorem State.modFwd_pl (s : State) (f : Fwd → Fwd) : (s.modFwd f).pl = s.pl := rfl
@[simp] theorem State.modFwd_seams (s : State) (f : Fwd → Fwd) : (s.modFwd f).seams = s.seams := rfl
@[simp] theorem State.modFwd_fab (s : State) (f : Fwd → Fwd) : (s.modFwd f).fab = s.fab := rfl
@[simp] theorem State.modFwd_model (s : State) (f : Fwd → Fwd) : (s.modFwd f).model = s.model := rfl
@[simp] theorem State.modFwd_snd (s : State) (f : Fwd → Fwd) : (s.modFwd f).snd = s.snd := rfl
@[simp] theorem State.modFwd_pic (s : State) (f : Fwd → Fwd) : (s.modFwd f).pic = s.pic := rfl
@[simp] theorem State.modFwd_fwd (s : State) (f : Fwd → Fwd) : (s.modFwd f).fwd = f s.fwd := rfl
@[simp] theorem State.modFwd_time (s : State) (f : Fwd → Fwd) : (s.modFwd f).time = s.time := rfl
@[simp] theorem State.modFwd_net (s : State) (f : Fwd → Fwd) : (s.modFwd f).net = s.net := rfl
@[simp] theorem State.modFwd_cip (s : State) (f : Fwd → Fwd) : (s.modFwd f).cip = s.cip := rfl
@[simp] theorem State.modFwd_acc (s : State) (f : Fwd → Fwd) : (s.modFwd f).acc = s.acc := rfl
@[simp] theorem State.modFwd_twin (s : State) (f : Fwd → Fwd) : (s.modFwd f).twin = s.twin := rfl
@[simp] theorem State.modFwd_keep (s : State) (f : Fwd → Fwd) : (s.modFwd f).keep = s.keep := rfl
@[simp] theorem State.modFwd_disp (s : State) (f : Fwd → Fwd) : (s.modFwd f).disp = s.disp := rfl
@[simp] theorem State.modFwd_mem (s : State) (f : Fwd → Fwd) : (s.modFwd f).mem = s.mem := rfl
@[simp] theorem State.modFwd_dma (s : State) (f : Fwd → Fwd) : (s.modFwd f).dma = s.dma := rfl
@[simp] theorem State.modFwd_ks (s : State) (f : Fwd → Fwd) : (s.modFwd f).ks = s.ks := rfl
@[simp] theorem State.modFwd_pwr (s : State) (f : Fwd → Fwd) : (s.modFwd f).pwr = s.pwr := rfl
@[simp] theorem State.modFwd_patt (s : State) (f : Fwd → Fwd) : (s.modFwd f).patt = s.patt := rfl
@[simp] theorem State.modFwd_pending (s : State) (f : Fwd → Fwd) : (s.modFwd f).pending = s.pending := rfl
@[simp] theorem State.modFwd_draws (s : State) (f : Fwd → Fwd) : (s.modFwd f).draws = s.draws := rfl

/-! ### modTime changes time only -/

@[simp] theorem State.modTime_pins (s : State) (f : Time → Time) : (s.modTime f).pins = s.pins := rfl
@[simp] theorem State.modTime_boot (s : State) (f : Time → Time) : (s.modTime f).boot = s.boot := rfl
@[simp] theorem State.modTime_pl (s : State) (f : Time → Time) : (s.modTime f).pl = s.pl := rfl
@[simp] theorem State.modTime_seams (s : State) (f : Time → Time) : (s.modTime f).seams = s.seams := rfl
@[simp] theorem State.modTime_fab (s : State) (f : Time → Time) : (s.modTime f).fab = s.fab := rfl
@[simp] theorem State.modTime_model (s : State) (f : Time → Time) : (s.modTime f).model = s.model := rfl
@[simp] theorem State.modTime_snd (s : State) (f : Time → Time) : (s.modTime f).snd = s.snd := rfl
@[simp] theorem State.modTime_pic (s : State) (f : Time → Time) : (s.modTime f).pic = s.pic := rfl
@[simp] theorem State.modTime_fwd (s : State) (f : Time → Time) : (s.modTime f).fwd = s.fwd := rfl
@[simp] theorem State.modTime_time (s : State) (f : Time → Time) : (s.modTime f).time = f s.time := rfl
@[simp] theorem State.modTime_net (s : State) (f : Time → Time) : (s.modTime f).net = s.net := rfl
@[simp] theorem State.modTime_cip (s : State) (f : Time → Time) : (s.modTime f).cip = s.cip := rfl
@[simp] theorem State.modTime_acc (s : State) (f : Time → Time) : (s.modTime f).acc = s.acc := rfl
@[simp] theorem State.modTime_twin (s : State) (f : Time → Time) : (s.modTime f).twin = s.twin := rfl
@[simp] theorem State.modTime_keep (s : State) (f : Time → Time) : (s.modTime f).keep = s.keep := rfl
@[simp] theorem State.modTime_disp (s : State) (f : Time → Time) : (s.modTime f).disp = s.disp := rfl
@[simp] theorem State.modTime_mem (s : State) (f : Time → Time) : (s.modTime f).mem = s.mem := rfl
@[simp] theorem State.modTime_dma (s : State) (f : Time → Time) : (s.modTime f).dma = s.dma := rfl
@[simp] theorem State.modTime_ks (s : State) (f : Time → Time) : (s.modTime f).ks = s.ks := rfl
@[simp] theorem State.modTime_pwr (s : State) (f : Time → Time) : (s.modTime f).pwr = s.pwr := rfl
@[simp] theorem State.modTime_patt (s : State) (f : Time → Time) : (s.modTime f).patt = s.patt := rfl
@[simp] theorem State.modTime_pending (s : State) (f : Time → Time) : (s.modTime f).pending = s.pending := rfl
@[simp] theorem State.modTime_draws (s : State) (f : Time → Time) : (s.modTime f).draws = s.draws := rfl

/-! ### modNet changes net only -/

@[simp] theorem State.modNet_pins (s : State) (f : Net → Net) : (s.modNet f).pins = s.pins := rfl
@[simp] theorem State.modNet_boot (s : State) (f : Net → Net) : (s.modNet f).boot = s.boot := rfl
@[simp] theorem State.modNet_pl (s : State) (f : Net → Net) : (s.modNet f).pl = s.pl := rfl
@[simp] theorem State.modNet_seams (s : State) (f : Net → Net) : (s.modNet f).seams = s.seams := rfl
@[simp] theorem State.modNet_fab (s : State) (f : Net → Net) : (s.modNet f).fab = s.fab := rfl
@[simp] theorem State.modNet_model (s : State) (f : Net → Net) : (s.modNet f).model = s.model := rfl
@[simp] theorem State.modNet_snd (s : State) (f : Net → Net) : (s.modNet f).snd = s.snd := rfl
@[simp] theorem State.modNet_pic (s : State) (f : Net → Net) : (s.modNet f).pic = s.pic := rfl
@[simp] theorem State.modNet_fwd (s : State) (f : Net → Net) : (s.modNet f).fwd = s.fwd := rfl
@[simp] theorem State.modNet_time (s : State) (f : Net → Net) : (s.modNet f).time = s.time := rfl
@[simp] theorem State.modNet_net (s : State) (f : Net → Net) : (s.modNet f).net = f s.net := rfl
@[simp] theorem State.modNet_cip (s : State) (f : Net → Net) : (s.modNet f).cip = s.cip := rfl
@[simp] theorem State.modNet_acc (s : State) (f : Net → Net) : (s.modNet f).acc = s.acc := rfl
@[simp] theorem State.modNet_twin (s : State) (f : Net → Net) : (s.modNet f).twin = s.twin := rfl
@[simp] theorem State.modNet_keep (s : State) (f : Net → Net) : (s.modNet f).keep = s.keep := rfl
@[simp] theorem State.modNet_disp (s : State) (f : Net → Net) : (s.modNet f).disp = s.disp := rfl
@[simp] theorem State.modNet_mem (s : State) (f : Net → Net) : (s.modNet f).mem = s.mem := rfl
@[simp] theorem State.modNet_dma (s : State) (f : Net → Net) : (s.modNet f).dma = s.dma := rfl
@[simp] theorem State.modNet_ks (s : State) (f : Net → Net) : (s.modNet f).ks = s.ks := rfl
@[simp] theorem State.modNet_pwr (s : State) (f : Net → Net) : (s.modNet f).pwr = s.pwr := rfl
@[simp] theorem State.modNet_patt (s : State) (f : Net → Net) : (s.modNet f).patt = s.patt := rfl
@[simp] theorem State.modNet_pending (s : State) (f : Net → Net) : (s.modNet f).pending = s.pending := rfl
@[simp] theorem State.modNet_draws (s : State) (f : Net → Net) : (s.modNet f).draws = s.draws := rfl

/-! ### modCip changes cip only -/

@[simp] theorem State.modCip_pins (s : State) (f : Cipher → Cipher) : (s.modCip f).pins = s.pins := rfl
@[simp] theorem State.modCip_boot (s : State) (f : Cipher → Cipher) : (s.modCip f).boot = s.boot := rfl
@[simp] theorem State.modCip_pl (s : State) (f : Cipher → Cipher) : (s.modCip f).pl = s.pl := rfl
@[simp] theorem State.modCip_seams (s : State) (f : Cipher → Cipher) : (s.modCip f).seams = s.seams := rfl
@[simp] theorem State.modCip_fab (s : State) (f : Cipher → Cipher) : (s.modCip f).fab = s.fab := rfl
@[simp] theorem State.modCip_model (s : State) (f : Cipher → Cipher) : (s.modCip f).model = s.model := rfl
@[simp] theorem State.modCip_snd (s : State) (f : Cipher → Cipher) : (s.modCip f).snd = s.snd := rfl
@[simp] theorem State.modCip_pic (s : State) (f : Cipher → Cipher) : (s.modCip f).pic = s.pic := rfl
@[simp] theorem State.modCip_fwd (s : State) (f : Cipher → Cipher) : (s.modCip f).fwd = s.fwd := rfl
@[simp] theorem State.modCip_time (s : State) (f : Cipher → Cipher) : (s.modCip f).time = s.time := rfl
@[simp] theorem State.modCip_net (s : State) (f : Cipher → Cipher) : (s.modCip f).net = s.net := rfl
@[simp] theorem State.modCip_cip (s : State) (f : Cipher → Cipher) : (s.modCip f).cip = f s.cip := rfl
@[simp] theorem State.modCip_acc (s : State) (f : Cipher → Cipher) : (s.modCip f).acc = s.acc := rfl
@[simp] theorem State.modCip_twin (s : State) (f : Cipher → Cipher) : (s.modCip f).twin = s.twin := rfl
@[simp] theorem State.modCip_keep (s : State) (f : Cipher → Cipher) : (s.modCip f).keep = s.keep := rfl
@[simp] theorem State.modCip_disp (s : State) (f : Cipher → Cipher) : (s.modCip f).disp = s.disp := rfl
@[simp] theorem State.modCip_mem (s : State) (f : Cipher → Cipher) : (s.modCip f).mem = s.mem := rfl
@[simp] theorem State.modCip_dma (s : State) (f : Cipher → Cipher) : (s.modCip f).dma = s.dma := rfl
@[simp] theorem State.modCip_ks (s : State) (f : Cipher → Cipher) : (s.modCip f).ks = s.ks := rfl
@[simp] theorem State.modCip_pwr (s : State) (f : Cipher → Cipher) : (s.modCip f).pwr = s.pwr := rfl
@[simp] theorem State.modCip_patt (s : State) (f : Cipher → Cipher) : (s.modCip f).patt = s.patt := rfl
@[simp] theorem State.modCip_pending (s : State) (f : Cipher → Cipher) : (s.modCip f).pending = s.pending := rfl
@[simp] theorem State.modCip_draws (s : State) (f : Cipher → Cipher) : (s.modCip f).draws = s.draws := rfl

/-! ### modAcc changes acc only -/

@[simp] theorem State.modAcc_pins (s : State) (p : Fin 2) (f : AccPort → AccPort) : (s.modAcc p f).pins = s.pins := rfl
@[simp] theorem State.modAcc_boot (s : State) (p : Fin 2) (f : AccPort → AccPort) : (s.modAcc p f).boot = s.boot := rfl
@[simp] theorem State.modAcc_pl (s : State) (p : Fin 2) (f : AccPort → AccPort) : (s.modAcc p f).pl = s.pl := rfl
@[simp] theorem State.modAcc_seams (s : State) (p : Fin 2) (f : AccPort → AccPort) : (s.modAcc p f).seams = s.seams := rfl
@[simp] theorem State.modAcc_fab (s : State) (p : Fin 2) (f : AccPort → AccPort) : (s.modAcc p f).fab = s.fab := rfl
@[simp] theorem State.modAcc_model (s : State) (p : Fin 2) (f : AccPort → AccPort) : (s.modAcc p f).model = s.model := rfl
@[simp] theorem State.modAcc_snd (s : State) (p : Fin 2) (f : AccPort → AccPort) : (s.modAcc p f).snd = s.snd := rfl
@[simp] theorem State.modAcc_pic (s : State) (p : Fin 2) (f : AccPort → AccPort) : (s.modAcc p f).pic = s.pic := rfl
@[simp] theorem State.modAcc_fwd (s : State) (p : Fin 2) (f : AccPort → AccPort) : (s.modAcc p f).fwd = s.fwd := rfl
@[simp] theorem State.modAcc_time (s : State) (p : Fin 2) (f : AccPort → AccPort) : (s.modAcc p f).time = s.time := rfl
@[simp] theorem State.modAcc_net (s : State) (p : Fin 2) (f : AccPort → AccPort) : (s.modAcc p f).net = s.net := rfl
@[simp] theorem State.modAcc_cip (s : State) (p : Fin 2) (f : AccPort → AccPort) : (s.modAcc p f).cip = s.cip := rfl
@[simp] theorem State.modAcc_acc (s : State) (p : Fin 2) (f : AccPort → AccPort) : (s.modAcc p f).acc = { s.acc with ports := s.acc.ports.set p (f (s.acc.ports.get p)) } := rfl
@[simp] theorem State.modAcc_twin (s : State) (p : Fin 2) (f : AccPort → AccPort) : (s.modAcc p f).twin = s.twin := rfl
@[simp] theorem State.modAcc_keep (s : State) (p : Fin 2) (f : AccPort → AccPort) : (s.modAcc p f).keep = s.keep := rfl
@[simp] theorem State.modAcc_disp (s : State) (p : Fin 2) (f : AccPort → AccPort) : (s.modAcc p f).disp = s.disp := rfl
@[simp] theorem State.modAcc_mem (s : State) (p : Fin 2) (f : AccPort → AccPort) : (s.modAcc p f).mem = s.mem := rfl
@[simp] theorem State.modAcc_dma (s : State) (p : Fin 2) (f : AccPort → AccPort) : (s.modAcc p f).dma = s.dma := rfl
@[simp] theorem State.modAcc_ks (s : State) (p : Fin 2) (f : AccPort → AccPort) : (s.modAcc p f).ks = s.ks := rfl
@[simp] theorem State.modAcc_pwr (s : State) (p : Fin 2) (f : AccPort → AccPort) : (s.modAcc p f).pwr = s.pwr := rfl
@[simp] theorem State.modAcc_patt (s : State) (p : Fin 2) (f : AccPort → AccPort) : (s.modAcc p f).patt = s.patt := rfl
@[simp] theorem State.modAcc_pending (s : State) (p : Fin 2) (f : AccPort → AccPort) : (s.modAcc p f).pending = s.pending := rfl
@[simp] theorem State.modAcc_draws (s : State) (p : Fin 2) (f : AccPort → AccPort) : (s.modAcc p f).draws = s.draws := rfl

/-! ### modTwin changes twin only -/

@[simp] theorem State.modTwin_pins (s : State) (f : Twin → Twin) : (s.modTwin f).pins = s.pins := rfl
@[simp] theorem State.modTwin_boot (s : State) (f : Twin → Twin) : (s.modTwin f).boot = s.boot := rfl
@[simp] theorem State.modTwin_pl (s : State) (f : Twin → Twin) : (s.modTwin f).pl = s.pl := rfl
@[simp] theorem State.modTwin_seams (s : State) (f : Twin → Twin) : (s.modTwin f).seams = s.seams := rfl
@[simp] theorem State.modTwin_fab (s : State) (f : Twin → Twin) : (s.modTwin f).fab = s.fab := rfl
@[simp] theorem State.modTwin_model (s : State) (f : Twin → Twin) : (s.modTwin f).model = s.model := rfl
@[simp] theorem State.modTwin_snd (s : State) (f : Twin → Twin) : (s.modTwin f).snd = s.snd := rfl
@[simp] theorem State.modTwin_pic (s : State) (f : Twin → Twin) : (s.modTwin f).pic = s.pic := rfl
@[simp] theorem State.modTwin_fwd (s : State) (f : Twin → Twin) : (s.modTwin f).fwd = s.fwd := rfl
@[simp] theorem State.modTwin_time (s : State) (f : Twin → Twin) : (s.modTwin f).time = s.time := rfl
@[simp] theorem State.modTwin_net (s : State) (f : Twin → Twin) : (s.modTwin f).net = s.net := rfl
@[simp] theorem State.modTwin_cip (s : State) (f : Twin → Twin) : (s.modTwin f).cip = s.cip := rfl
@[simp] theorem State.modTwin_acc (s : State) (f : Twin → Twin) : (s.modTwin f).acc = s.acc := rfl
@[simp] theorem State.modTwin_twin (s : State) (f : Twin → Twin) : (s.modTwin f).twin = f s.twin := rfl
@[simp] theorem State.modTwin_keep (s : State) (f : Twin → Twin) : (s.modTwin f).keep = s.keep := rfl
@[simp] theorem State.modTwin_disp (s : State) (f : Twin → Twin) : (s.modTwin f).disp = s.disp := rfl
@[simp] theorem State.modTwin_mem (s : State) (f : Twin → Twin) : (s.modTwin f).mem = s.mem := rfl
@[simp] theorem State.modTwin_dma (s : State) (f : Twin → Twin) : (s.modTwin f).dma = s.dma := rfl
@[simp] theorem State.modTwin_ks (s : State) (f : Twin → Twin) : (s.modTwin f).ks = s.ks := rfl
@[simp] theorem State.modTwin_pwr (s : State) (f : Twin → Twin) : (s.modTwin f).pwr = s.pwr := rfl
@[simp] theorem State.modTwin_patt (s : State) (f : Twin → Twin) : (s.modTwin f).patt = s.patt := rfl
@[simp] theorem State.modTwin_pending (s : State) (f : Twin → Twin) : (s.modTwin f).pending = s.pending := rfl
@[simp] theorem State.modTwin_draws (s : State) (f : Twin → Twin) : (s.modTwin f).draws = s.draws := rfl

/-! ### modKeep changes keep only -/

@[simp] theorem State.modKeep_pins (s : State) (f : Keep → Keep) : (s.modKeep f).pins = s.pins := rfl
@[simp] theorem State.modKeep_boot (s : State) (f : Keep → Keep) : (s.modKeep f).boot = s.boot := rfl
@[simp] theorem State.modKeep_pl (s : State) (f : Keep → Keep) : (s.modKeep f).pl = s.pl := rfl
@[simp] theorem State.modKeep_seams (s : State) (f : Keep → Keep) : (s.modKeep f).seams = s.seams := rfl
@[simp] theorem State.modKeep_fab (s : State) (f : Keep → Keep) : (s.modKeep f).fab = s.fab := rfl
@[simp] theorem State.modKeep_model (s : State) (f : Keep → Keep) : (s.modKeep f).model = s.model := rfl
@[simp] theorem State.modKeep_snd (s : State) (f : Keep → Keep) : (s.modKeep f).snd = s.snd := rfl
@[simp] theorem State.modKeep_pic (s : State) (f : Keep → Keep) : (s.modKeep f).pic = s.pic := rfl
@[simp] theorem State.modKeep_fwd (s : State) (f : Keep → Keep) : (s.modKeep f).fwd = s.fwd := rfl
@[simp] theorem State.modKeep_time (s : State) (f : Keep → Keep) : (s.modKeep f).time = s.time := rfl
@[simp] theorem State.modKeep_net (s : State) (f : Keep → Keep) : (s.modKeep f).net = s.net := rfl
@[simp] theorem State.modKeep_cip (s : State) (f : Keep → Keep) : (s.modKeep f).cip = s.cip := rfl
@[simp] theorem State.modKeep_acc (s : State) (f : Keep → Keep) : (s.modKeep f).acc = s.acc := rfl
@[simp] theorem State.modKeep_twin (s : State) (f : Keep → Keep) : (s.modKeep f).twin = s.twin := rfl
@[simp] theorem State.modKeep_keep (s : State) (f : Keep → Keep) : (s.modKeep f).keep = f s.keep := rfl
@[simp] theorem State.modKeep_disp (s : State) (f : Keep → Keep) : (s.modKeep f).disp = s.disp := rfl
@[simp] theorem State.modKeep_mem (s : State) (f : Keep → Keep) : (s.modKeep f).mem = s.mem := rfl
@[simp] theorem State.modKeep_dma (s : State) (f : Keep → Keep) : (s.modKeep f).dma = s.dma := rfl
@[simp] theorem State.modKeep_ks (s : State) (f : Keep → Keep) : (s.modKeep f).ks = s.ks := rfl
@[simp] theorem State.modKeep_pwr (s : State) (f : Keep → Keep) : (s.modKeep f).pwr = s.pwr := rfl
@[simp] theorem State.modKeep_patt (s : State) (f : Keep → Keep) : (s.modKeep f).patt = s.patt := rfl
@[simp] theorem State.modKeep_pending (s : State) (f : Keep → Keep) : (s.modKeep f).pending = s.pending := rfl
@[simp] theorem State.modKeep_draws (s : State) (f : Keep → Keep) : (s.modKeep f).draws = s.draws := rfl

/-! ### modDisp changes disp only -/

@[simp] theorem State.modDisp_pins (s : State) (f : Disp → Disp) : (s.modDisp f).pins = s.pins := rfl
@[simp] theorem State.modDisp_boot (s : State) (f : Disp → Disp) : (s.modDisp f).boot = s.boot := rfl
@[simp] theorem State.modDisp_pl (s : State) (f : Disp → Disp) : (s.modDisp f).pl = s.pl := rfl
@[simp] theorem State.modDisp_seams (s : State) (f : Disp → Disp) : (s.modDisp f).seams = s.seams := rfl
@[simp] theorem State.modDisp_fab (s : State) (f : Disp → Disp) : (s.modDisp f).fab = s.fab := rfl
@[simp] theorem State.modDisp_model (s : State) (f : Disp → Disp) : (s.modDisp f).model = s.model := rfl
@[simp] theorem State.modDisp_snd (s : State) (f : Disp → Disp) : (s.modDisp f).snd = s.snd := rfl
@[simp] theorem State.modDisp_pic (s : State) (f : Disp → Disp) : (s.modDisp f).pic = s.pic := rfl
@[simp] theorem State.modDisp_fwd (s : State) (f : Disp → Disp) : (s.modDisp f).fwd = s.fwd := rfl
@[simp] theorem State.modDisp_time (s : State) (f : Disp → Disp) : (s.modDisp f).time = s.time := rfl
@[simp] theorem State.modDisp_net (s : State) (f : Disp → Disp) : (s.modDisp f).net = s.net := rfl
@[simp] theorem State.modDisp_cip (s : State) (f : Disp → Disp) : (s.modDisp f).cip = s.cip := rfl
@[simp] theorem State.modDisp_acc (s : State) (f : Disp → Disp) : (s.modDisp f).acc = s.acc := rfl
@[simp] theorem State.modDisp_twin (s : State) (f : Disp → Disp) : (s.modDisp f).twin = s.twin := rfl
@[simp] theorem State.modDisp_keep (s : State) (f : Disp → Disp) : (s.modDisp f).keep = s.keep := rfl
@[simp] theorem State.modDisp_disp (s : State) (f : Disp → Disp) : (s.modDisp f).disp = f s.disp := rfl
@[simp] theorem State.modDisp_mem (s : State) (f : Disp → Disp) : (s.modDisp f).mem = s.mem := rfl
@[simp] theorem State.modDisp_dma (s : State) (f : Disp → Disp) : (s.modDisp f).dma = s.dma := rfl
@[simp] theorem State.modDisp_ks (s : State) (f : Disp → Disp) : (s.modDisp f).ks = s.ks := rfl
@[simp] theorem State.modDisp_pwr (s : State) (f : Disp → Disp) : (s.modDisp f).pwr = s.pwr := rfl
@[simp] theorem State.modDisp_patt (s : State) (f : Disp → Disp) : (s.modDisp f).patt = s.patt := rfl
@[simp] theorem State.modDisp_pending (s : State) (f : Disp → Disp) : (s.modDisp f).pending = s.pending := rfl
@[simp] theorem State.modDisp_draws (s : State) (f : Disp → Disp) : (s.modDisp f).draws = s.draws := rfl

/-! ### modMem changes mem only -/

@[simp] theorem State.modMem_pins (s : State) (f : Memory → Memory) : (s.modMem f).pins = s.pins := rfl
@[simp] theorem State.modMem_boot (s : State) (f : Memory → Memory) : (s.modMem f).boot = s.boot := rfl
@[simp] theorem State.modMem_pl (s : State) (f : Memory → Memory) : (s.modMem f).pl = s.pl := rfl
@[simp] theorem State.modMem_seams (s : State) (f : Memory → Memory) : (s.modMem f).seams = s.seams := rfl
@[simp] theorem State.modMem_fab (s : State) (f : Memory → Memory) : (s.modMem f).fab = s.fab := rfl
@[simp] theorem State.modMem_model (s : State) (f : Memory → Memory) : (s.modMem f).model = s.model := rfl
@[simp] theorem State.modMem_snd (s : State) (f : Memory → Memory) : (s.modMem f).snd = s.snd := rfl
@[simp] theorem State.modMem_pic (s : State) (f : Memory → Memory) : (s.modMem f).pic = s.pic := rfl
@[simp] theorem State.modMem_fwd (s : State) (f : Memory → Memory) : (s.modMem f).fwd = s.fwd := rfl
@[simp] theorem State.modMem_time (s : State) (f : Memory → Memory) : (s.modMem f).time = s.time := rfl
@[simp] theorem State.modMem_net (s : State) (f : Memory → Memory) : (s.modMem f).net = s.net := rfl
@[simp] theorem State.modMem_cip (s : State) (f : Memory → Memory) : (s.modMem f).cip = s.cip := rfl
@[simp] theorem State.modMem_acc (s : State) (f : Memory → Memory) : (s.modMem f).acc = s.acc := rfl
@[simp] theorem State.modMem_twin (s : State) (f : Memory → Memory) : (s.modMem f).twin = s.twin := rfl
@[simp] theorem State.modMem_keep (s : State) (f : Memory → Memory) : (s.modMem f).keep = s.keep := rfl
@[simp] theorem State.modMem_disp (s : State) (f : Memory → Memory) : (s.modMem f).disp = s.disp := rfl
@[simp] theorem State.modMem_mem (s : State) (f : Memory → Memory) : (s.modMem f).mem = f s.mem := rfl
@[simp] theorem State.modMem_dma (s : State) (f : Memory → Memory) : (s.modMem f).dma = s.dma := rfl
@[simp] theorem State.modMem_ks (s : State) (f : Memory → Memory) : (s.modMem f).ks = s.ks := rfl
@[simp] theorem State.modMem_pwr (s : State) (f : Memory → Memory) : (s.modMem f).pwr = s.pwr := rfl
@[simp] theorem State.modMem_patt (s : State) (f : Memory → Memory) : (s.modMem f).patt = s.patt := rfl
@[simp] theorem State.modMem_pending (s : State) (f : Memory → Memory) : (s.modMem f).pending = s.pending := rfl
@[simp] theorem State.modMem_draws (s : State) (f : Memory → Memory) : (s.modMem f).draws = s.draws := rfl

/-! ### modDma changes dma only -/

@[simp] theorem State.modDma_pins (s : State) (c : Fin 16) (f : Dma → Dma) : (s.modDma c f).pins = s.pins := rfl
@[simp] theorem State.modDma_boot (s : State) (c : Fin 16) (f : Dma → Dma) : (s.modDma c f).boot = s.boot := rfl
@[simp] theorem State.modDma_pl (s : State) (c : Fin 16) (f : Dma → Dma) : (s.modDma c f).pl = s.pl := rfl
@[simp] theorem State.modDma_seams (s : State) (c : Fin 16) (f : Dma → Dma) : (s.modDma c f).seams = s.seams := rfl
@[simp] theorem State.modDma_fab (s : State) (c : Fin 16) (f : Dma → Dma) : (s.modDma c f).fab = s.fab := rfl
@[simp] theorem State.modDma_model (s : State) (c : Fin 16) (f : Dma → Dma) : (s.modDma c f).model = s.model := rfl
@[simp] theorem State.modDma_snd (s : State) (c : Fin 16) (f : Dma → Dma) : (s.modDma c f).snd = s.snd := rfl
@[simp] theorem State.modDma_pic (s : State) (c : Fin 16) (f : Dma → Dma) : (s.modDma c f).pic = s.pic := rfl
@[simp] theorem State.modDma_fwd (s : State) (c : Fin 16) (f : Dma → Dma) : (s.modDma c f).fwd = s.fwd := rfl
@[simp] theorem State.modDma_time (s : State) (c : Fin 16) (f : Dma → Dma) : (s.modDma c f).time = s.time := rfl
@[simp] theorem State.modDma_net (s : State) (c : Fin 16) (f : Dma → Dma) : (s.modDma c f).net = s.net := rfl
@[simp] theorem State.modDma_cip (s : State) (c : Fin 16) (f : Dma → Dma) : (s.modDma c f).cip = s.cip := rfl
@[simp] theorem State.modDma_acc (s : State) (c : Fin 16) (f : Dma → Dma) : (s.modDma c f).acc = s.acc := rfl
@[simp] theorem State.modDma_twin (s : State) (c : Fin 16) (f : Dma → Dma) : (s.modDma c f).twin = s.twin := rfl
@[simp] theorem State.modDma_keep (s : State) (c : Fin 16) (f : Dma → Dma) : (s.modDma c f).keep = s.keep := rfl
@[simp] theorem State.modDma_disp (s : State) (c : Fin 16) (f : Dma → Dma) : (s.modDma c f).disp = s.disp := rfl
@[simp] theorem State.modDma_mem (s : State) (c : Fin 16) (f : Dma → Dma) : (s.modDma c f).mem = s.mem := rfl
@[simp] theorem State.modDma_dma (s : State) (c : Fin 16) (f : Dma → Dma) : (s.modDma c f).dma = s.dma.set c (f (s.dma.get c)) := rfl
@[simp] theorem State.modDma_ks (s : State) (c : Fin 16) (f : Dma → Dma) : (s.modDma c f).ks = s.ks := rfl
@[simp] theorem State.modDma_pwr (s : State) (c : Fin 16) (f : Dma → Dma) : (s.modDma c f).pwr = s.pwr := rfl
@[simp] theorem State.modDma_patt (s : State) (c : Fin 16) (f : Dma → Dma) : (s.modDma c f).patt = s.patt := rfl
@[simp] theorem State.modDma_pending (s : State) (c : Fin 16) (f : Dma → Dma) : (s.modDma c f).pending = s.pending := rfl
@[simp] theorem State.modDma_draws (s : State) (c : Fin 16) (f : Dma → Dma) : (s.modDma c f).draws = s.draws := rfl

/-! ### modKs changes ks only -/

@[simp] theorem State.modKs_pins (s : State) (f : Keystone → Keystone) : (s.modKs f).pins = s.pins := rfl
@[simp] theorem State.modKs_boot (s : State) (f : Keystone → Keystone) : (s.modKs f).boot = s.boot := rfl
@[simp] theorem State.modKs_pl (s : State) (f : Keystone → Keystone) : (s.modKs f).pl = s.pl := rfl
@[simp] theorem State.modKs_seams (s : State) (f : Keystone → Keystone) : (s.modKs f).seams = s.seams := rfl
@[simp] theorem State.modKs_fab (s : State) (f : Keystone → Keystone) : (s.modKs f).fab = s.fab := rfl
@[simp] theorem State.modKs_model (s : State) (f : Keystone → Keystone) : (s.modKs f).model = s.model := rfl
@[simp] theorem State.modKs_snd (s : State) (f : Keystone → Keystone) : (s.modKs f).snd = s.snd := rfl
@[simp] theorem State.modKs_pic (s : State) (f : Keystone → Keystone) : (s.modKs f).pic = s.pic := rfl
@[simp] theorem State.modKs_fwd (s : State) (f : Keystone → Keystone) : (s.modKs f).fwd = s.fwd := rfl
@[simp] theorem State.modKs_time (s : State) (f : Keystone → Keystone) : (s.modKs f).time = s.time := rfl
@[simp] theorem State.modKs_net (s : State) (f : Keystone → Keystone) : (s.modKs f).net = s.net := rfl
@[simp] theorem State.modKs_cip (s : State) (f : Keystone → Keystone) : (s.modKs f).cip = s.cip := rfl
@[simp] theorem State.modKs_acc (s : State) (f : Keystone → Keystone) : (s.modKs f).acc = s.acc := rfl
@[simp] theorem State.modKs_twin (s : State) (f : Keystone → Keystone) : (s.modKs f).twin = s.twin := rfl
@[simp] theorem State.modKs_keep (s : State) (f : Keystone → Keystone) : (s.modKs f).keep = s.keep := rfl
@[simp] theorem State.modKs_disp (s : State) (f : Keystone → Keystone) : (s.modKs f).disp = s.disp := rfl
@[simp] theorem State.modKs_mem (s : State) (f : Keystone → Keystone) : (s.modKs f).mem = s.mem := rfl
@[simp] theorem State.modKs_dma (s : State) (f : Keystone → Keystone) : (s.modKs f).dma = s.dma := rfl
@[simp] theorem State.modKs_ks (s : State) (f : Keystone → Keystone) : (s.modKs f).ks = f s.ks := rfl
@[simp] theorem State.modKs_pwr (s : State) (f : Keystone → Keystone) : (s.modKs f).pwr = s.pwr := rfl
@[simp] theorem State.modKs_patt (s : State) (f : Keystone → Keystone) : (s.modKs f).patt = s.patt := rfl
@[simp] theorem State.modKs_pending (s : State) (f : Keystone → Keystone) : (s.modKs f).pending = s.pending := rfl
@[simp] theorem State.modKs_draws (s : State) (f : Keystone → Keystone) : (s.modKs f).draws = s.draws := rfl

/-! ### modDomain changes pwr only -/

@[simp] theorem State.modDomain_pins (s : State) (d : U16) (f : Domain → Domain) : (s.modDomain d f).pins = s.pins := rfl
@[simp] theorem State.modDomain_boot (s : State) (d : U16) (f : Domain → Domain) : (s.modDomain d f).boot = s.boot := rfl
@[simp] theorem State.modDomain_pl (s : State) (d : U16) (f : Domain → Domain) : (s.modDomain d f).pl = s.pl := rfl
@[simp] theorem State.modDomain_seams (s : State) (d : U16) (f : Domain → Domain) : (s.modDomain d f).seams = s.seams := rfl
@[simp] theorem State.modDomain_fab (s : State) (d : U16) (f : Domain → Domain) : (s.modDomain d f).fab = s.fab := rfl
@[simp] theorem State.modDomain_model (s : State) (d : U16) (f : Domain → Domain) : (s.modDomain d f).model = s.model := rfl
@[simp] theorem State.modDomain_snd (s : State) (d : U16) (f : Domain → Domain) : (s.modDomain d f).snd = s.snd := rfl
@[simp] theorem State.modDomain_pic (s : State) (d : U16) (f : Domain → Domain) : (s.modDomain d f).pic = s.pic := rfl
@[simp] theorem State.modDomain_fwd (s : State) (d : U16) (f : Domain → Domain) : (s.modDomain d f).fwd = s.fwd := rfl
@[simp] theorem State.modDomain_time (s : State) (d : U16) (f : Domain → Domain) : (s.modDomain d f).time = s.time := rfl
@[simp] theorem State.modDomain_net (s : State) (d : U16) (f : Domain → Domain) : (s.modDomain d f).net = s.net := rfl
@[simp] theorem State.modDomain_cip (s : State) (d : U16) (f : Domain → Domain) : (s.modDomain d f).cip = s.cip := rfl
@[simp] theorem State.modDomain_acc (s : State) (d : U16) (f : Domain → Domain) : (s.modDomain d f).acc = s.acc := rfl
@[simp] theorem State.modDomain_twin (s : State) (d : U16) (f : Domain → Domain) : (s.modDomain d f).twin = s.twin := rfl
@[simp] theorem State.modDomain_keep (s : State) (d : U16) (f : Domain → Domain) : (s.modDomain d f).keep = s.keep := rfl
@[simp] theorem State.modDomain_disp (s : State) (d : U16) (f : Domain → Domain) : (s.modDomain d f).disp = s.disp := rfl
@[simp] theorem State.modDomain_mem (s : State) (d : U16) (f : Domain → Domain) : (s.modDomain d f).mem = s.mem := rfl
@[simp] theorem State.modDomain_dma (s : State) (d : U16) (f : Domain → Domain) : (s.modDomain d f).dma = s.dma := rfl
@[simp] theorem State.modDomain_ks (s : State) (d : U16) (f : Domain → Domain) : (s.modDomain d f).ks = s.ks := rfl
@[simp] theorem State.modDomain_pwr (s : State) (d : U16) (f : Domain → Domain) : (s.modDomain d f).pwr = { s.pwr with domains := tput s.pwr.domains d.toNat (f (s.domain d)) } := rfl
@[simp] theorem State.modDomain_patt (s : State) (d : U16) (f : Domain → Domain) : (s.modDomain d f).patt = s.patt := rfl
@[simp] theorem State.modDomain_pending (s : State) (d : U16) (f : Domain → Domain) : (s.modDomain d f).pending = s.pending := rfl
@[simp] theorem State.modDomain_draws (s : State) (d : U16) (f : Domain → Domain) : (s.modDomain d f).draws = s.draws := rfl

end Sys2Proof.Machine
end

