-- ==== Sys2Proof/Laws/Answer.lean ====
section
/-! SUPPORT. Answering a command: completions, events, interrupts and mirroring change the mailboxes, the alert pin and the twin, and nothing else. -/

namespace Sys2Proof.Machine

open Sys2Proof


/-- What writing completions and events may change: the mailboxes and the alert pin. -/
theorem State.setBox_eq (s : State) (m : Mbx) (b : Mailbox) : s.setBox m b = { s with pl := (s.setBox m b).pl, pins := (s.setBox m b).pins } := rfl

/-- As `State.setBox_eq`. -/
theorem State.modBox_eq (s : State) (m : Mbx) (f : Mailbox → Mailbox) : s.modBox m f = { s with pl := (s.modBox m f).pl, pins := (s.modBox m f).pins } := rfl

/-- An interrupt changes mailboxes and pins. -/
theorem State.irq_eq (s : State) (m : Mbx) : s.irq m = { s with pl := (s.irq m).pl, pins := (s.irq m).pins } := by
  unfold State.irq
  split
  · rfl
  · split <;> rfl

/-- Putting a mailbox back, with its interrupt, changes mailboxes and pins. -/
theorem State.putBox_eq (s : State) (m : Mbx) (b : Mailbox) : s.putBox m b = { s with pl := (s.putBox m b).pl, pins := (s.putBox m b).pins } := by
  unfold State.putBox
  dsimp only
  split
  · split
    · rw [State.irq_eq]; rfl
    · rfl
  · split
    · rw [State.irq_eq]; rfl
    · rfl

/-- Offering an event to mailboxes changes mailboxes and pins. -/
theorem State.offerTo_eq (s : State) (r : Raised) (l : List Mbx) : s.offerTo r l = { s with pl := (s.offerTo r l).pl, pins := (s.offerTo r l).pins } := by
  induction l generalizing s with
  | nil => rfl
  | cons m ms ih =>
    unfold State.offerTo
    dsimp only
    split
    · rw [ih, State.putBox_eq]
    · exact ih s

/-- As `State.offerTo_eq`, for every event raised. -/
theorem State.offerAll_eq (s : State) (l : List Raised) : s.offerAll l = { s with pl := (s.offerAll l).pl, pins := (s.offerAll l).pins } := by
  induction l generalizing s with
  | nil => rfl
  | cons r rs ih =>
    unfold State.offerAll
    rw [ih, State.offerTo_eq]

/-- The end of a command changes mailboxes and pins. -/
theorem State.fin_eq (s : State) : s.fin = { s with pl := s.fin.pl, pins := s.fin.pins } := by
  unfold State.fin
  rw [State.offerAll_eq]

/-- As `State.putBox_eq`, from a state that differs in its mailboxes only. -/
theorem State.putBox_of {s t : State} (h : t = { s with pl := t.pl }) (m : Mbx) (b : Mailbox) :
    t.putBox m b = { s with pl := (t.putBox m b).pl, pins := (t.putBox m b).pins } := by
  rw [State.putBox_eq]
  exact congrArg (fun u : State => { u with pl := (t.putBox m b).pl, pins := (t.putBox m b).pins }) h

/-- A completion changes mailboxes and pins. -/
theorem State.complete_eq (s : State) (m : Mbx) (c : Cmd) (r : Rep) : s.complete m c r = { s with pl := (s.complete m c r).pl, pins := (s.complete m c r).pins } := by
  unfold State.complete
  dsimp only
  split
  · rfl
  · exact State.putBox_of (by (repeat' split) <;> rfl) m _

/-- Marking the events of a command that goes on changes the events raised. -/
theorem State.eventsOf_eq (s : State) (seq : Nat) : s.eventsOf seq = { s with pl := (s.eventsOf seq).pl } := rfl

/-- Mirroring changes the twin. -/
theorem State.mirror_eq (s : State) (n : Nat) : s.mirror n = { s with twin := (s.mirror n).twin } := by
  unfold State.mirror
  split
  · split <;> rfl
  · rfl

/-- Mirroring a command changes the twin. -/
theorem State.mirrorCmd_eq (s : State) (op : Nat) (r : Rep) : s.mirrorCmd op r = { s with twin := (s.mirrorCmd op r).twin } := by
  unfold State.mirrorCmd
  split
  · rfl
  · exact State.mirror_eq _ _

/-- A command that is answered changes, beyond its effect, mailboxes, pins and the twin. -/
theorem State.answered_eq (s : State) (m : Mbx) (op : Nat) (c : Cmd) (r : Rep) :
    s.answered m op c r = { s with pl := (s.answered m op c r).pl, pins := (s.answered m op c r).pins, twin := (s.mirrorCmd op r).twin } := by
  unfold State.answered
  rw [State.fin_eq, State.complete_eq, State.mirrorCmd_eq]

/-- As `State.answered_eq`, for a command that goes on acting. -/
theorem State.acting_eq (s : State) (m : Mbx) (op : Nat) (c : Cmd) (r : Rep) :
    s.acting m op c r = { s with pl := (s.acting m op c r).pl, pins := (s.acting m op c r).pins, twin := (s.mirrorCmd op r).twin } := by
  unfold State.acting
  rw [State.fin_eq, State.modBox_eq, State.eventsOf_eq, State.mirrorCmd_eq]

/-! ### fin -/

@[simp] theorem State.fin_boot (s : State) : (s.fin).boot = s.boot := by rw [State.fin_eq]
@[simp] theorem State.fin_seams (s : State) : (s.fin).seams = s.seams := by rw [State.fin_eq]
@[simp] theorem State.fin_fab (s : State) : (s.fin).fab = s.fab := by rw [State.fin_eq]
@[simp] theorem State.fin_model (s : State) : (s.fin).model = s.model := by rw [State.fin_eq]
@[simp] theorem State.fin_snd (s : State) : (s.fin).snd = s.snd := by rw [State.fin_eq]
@[simp] theorem State.fin_pic (s : State) : (s.fin).pic = s.pic := by rw [State.fin_eq]
@[simp] theorem State.fin_fwd (s : State) : (s.fin).fwd = s.fwd := by rw [State.fin_eq]
@[simp] theorem State.fin_time (s : State) : (s.fin).time = s.time := by rw [State.fin_eq]
@[simp] theorem State.fin_net (s : State) : (s.fin).net = s.net := by rw [State.fin_eq]
@[simp] theorem State.fin_cip (s : State) : (s.fin).cip = s.cip := by rw [State.fin_eq]
@[simp] theorem State.fin_acc (s : State) : (s.fin).acc = s.acc := by rw [State.fin_eq]
@[simp] theorem State.fin_twin (s : State) : (s.fin).twin = s.twin := by rw [State.fin_eq]
@[simp] theorem State.fin_keep (s : State) : (s.fin).keep = s.keep := by rw [State.fin_eq]
@[simp] theorem State.fin_disp (s : State) : (s.fin).disp = s.disp := by rw [State.fin_eq]
@[simp] theorem State.fin_mem (s : State) : (s.fin).mem = s.mem := by rw [State.fin_eq]
@[simp] theorem State.fin_dma (s : State) : (s.fin).dma = s.dma := by rw [State.fin_eq]
@[simp] theorem State.fin_ks (s : State) : (s.fin).ks = s.ks := by rw [State.fin_eq]
@[simp] theorem State.fin_pwr (s : State) : (s.fin).pwr = s.pwr := by rw [State.fin_eq]
@[simp] theorem State.fin_patt (s : State) : (s.fin).patt = s.patt := by rw [State.fin_eq]
@[simp] theorem State.fin_pending (s : State) : (s.fin).pending = s.pending := by rw [State.fin_eq]
@[simp] theorem State.fin_draws (s : State) : (s.fin).draws = s.draws := by rw [State.fin_eq]

/-! ### complete -/

@[simp] theorem State.complete_boot (s : State) (m : Mbx) (c : Cmd) (r : Rep) : (s.complete m c r).boot = s.boot := by rw [State.complete_eq]
@[simp] theorem State.complete_seams (s : State) (m : Mbx) (c : Cmd) (r : Rep) : (s.complete m c r).seams = s.seams := by rw [State.complete_eq]
@[simp] theorem State.complete_fab (s : State) (m : Mbx) (c : Cmd) (r : Rep) : (s.complete m c r).fab = s.fab := by rw [State.complete_eq]
@[simp] theorem State.complete_model (s : State) (m : Mbx) (c : Cmd) (r : Rep) : (s.complete m c r).model = s.model := by rw [State.complete_eq]
@[simp] theorem State.complete_snd (s : State) (m : Mbx) (c : Cmd) (r : Rep) : (s.complete m c r).snd = s.snd := by rw [State.complete_eq]
@[simp] theorem State.complete_pic (s : State) (m : Mbx) (c : Cmd) (r : Rep) : (s.complete m c r).pic = s.pic := by rw [State.complete_eq]
@[simp] theorem State.complete_fwd (s : State) (m : Mbx) (c : Cmd) (r : Rep) : (s.complete m c r).fwd = s.fwd := by rw [State.complete_eq]
@[simp] theorem State.complete_time (s : State) (m : Mbx) (c : Cmd) (r : Rep) : (s.complete m c r).time = s.time := by rw [State.complete_eq]
@[simp] theorem State.complete_net (s : State) (m : Mbx) (c : Cmd) (r : Rep) : (s.complete m c r).net = s.net := by rw [State.complete_eq]
@[simp] theorem State.complete_cip (s : State) (m : Mbx) (c : Cmd) (r : Rep) : (s.complete m c r).cip = s.cip := by rw [State.complete_eq]
@[simp] theorem State.complete_acc (s : State) (m : Mbx) (c : Cmd) (r : Rep) : (s.complete m c r).acc = s.acc := by rw [State.complete_eq]
@[simp] theorem State.complete_twin (s : State) (m : Mbx) (c : Cmd) (r : Rep) : (s.complete m c r).twin = s.twin := by rw [State.complete_eq]
@[simp] theorem State.complete_keep (s : State) (m : Mbx) (c : Cmd) (r : Rep) : (s.complete m c r).keep = s.keep := by rw [State.complete_eq]
@[simp] theorem State.complete_disp (s : State) (m : Mbx) (c : Cmd) (r : Rep) : (s.complete m c r).disp = s.disp := by rw [State.complete_eq]
@[simp] theorem State.complete_mem (s : State) (m : Mbx) (c : Cmd) (r : Rep) : (s.complete m c r).mem = s.mem := by rw [State.complete_eq]
@[simp] theorem State.complete_dma (s : State) (m : Mbx) (c : Cmd) (r : Rep) : (s.complete m c r).dma = s.dma := by rw [State.complete_eq]
@[simp] theorem State.complete_ks (s : State) (m : Mbx) (c : Cmd) (r : Rep) : (s.complete m c r).ks = s.ks := by rw [State.complete_eq]
@[simp] theorem State.complete_pwr (s : State) (m : Mbx) (c : Cmd) (r : Rep) : (s.complete m c r).pwr = s.pwr := by rw [State.complete_eq]
@[simp] theorem State.complete_patt (s : State) (m : Mbx) (c : Cmd) (r : Rep) : (s.complete m c r).patt = s.patt := by rw [State.complete_eq]
@[simp] theorem State.complete_pending (s : State) (m : Mbx) (c : Cmd) (r : Rep) : (s.complete m c r).pending = s.pending := by rw [State.complete_eq]
@[simp] theorem State.complete_draws (s : State) (m : Mbx) (c : Cmd) (r : Rep) : (s.complete m c r).draws = s.draws := by rw [State.complete_eq]

/-! ### answered -/

@[simp] theorem State.answered_boot (s : State) (m : Mbx) (op : Nat) (c : Cmd) (r : Rep) : (s.answered m op c r).boot = s.boot := by rw [State.answered_eq]
@[simp] theorem State.answered_seams (s : State) (m : Mbx) (op : Nat) (c : Cmd) (r : Rep) : (s.answered m op c r).seams = s.seams := by rw [State.answered_eq]
@[simp] theorem State.answered_fab (s : State) (m : Mbx) (op : Nat) (c : Cmd) (r : Rep) : (s.answered m op c r).fab = s.fab := by rw [State.answered_eq]
@[simp] theorem State.answered_model (s : State) (m : Mbx) (op : Nat) (c : Cmd) (r : Rep) : (s.answered m op c r).model = s.model := by rw [State.answered_eq]
@[simp] theorem State.answered_snd (s : State) (m : Mbx) (op : Nat) (c : Cmd) (r : Rep) : (s.answered m op c r).snd = s.snd := by rw [State.answered_eq]
@[simp] theorem State.answered_pic (s : State) (m : Mbx) (op : Nat) (c : Cmd) (r : Rep) : (s.answered m op c r).pic = s.pic := by rw [State.answered_eq]
@[simp] theorem State.answered_fwd (s : State) (m : Mbx) (op : Nat) (c : Cmd) (r : Rep) : (s.answered m op c r).fwd = s.fwd := by rw [State.answered_eq]
@[simp] theorem State.answered_time (s : State) (m : Mbx) (op : Nat) (c : Cmd) (r : Rep) : (s.answered m op c r).time = s.time := by rw [State.answered_eq]
@[simp] theorem State.answered_net (s : State) (m : Mbx) (op : Nat) (c : Cmd) (r : Rep) : (s.answered m op c r).net = s.net := by rw [State.answered_eq]
@[simp] theorem State.answered_cip (s : State) (m : Mbx) (op : Nat) (c : Cmd) (r : Rep) : (s.answered m op c r).cip = s.cip := by rw [State.answered_eq]
@[simp] theorem State.answered_acc (s : State) (m : Mbx) (op : Nat) (c : Cmd) (r : Rep) : (s.answered m op c r).acc = s.acc := by rw [State.answered_eq]
@[simp] theorem State.answered_keep (s : State) (m : Mbx) (op : Nat) (c : Cmd) (r : Rep) : (s.answered m op c r).keep = s.keep := by rw [State.answered_eq]
@[simp] theorem State.answered_disp (s : State) (m : Mbx) (op : Nat) (c : Cmd) (r : Rep) : (s.answered m op c r).disp = s.disp := by rw [State.answered_eq]
@[simp] theorem State.answered_mem (s : State) (m : Mbx) (op : Nat) (c : Cmd) (r : Rep) : (s.answered m op c r).mem = s.mem := by rw [State.answered_eq]
@[simp] theorem State.answered_dma (s : State) (m : Mbx) (op : Nat) (c : Cmd) (r : Rep) : (s.answered m op c r).dma = s.dma := by rw [State.answered_eq]
@[simp] theorem State.answered_ks (s : State) (m : Mbx) (op : Nat) (c : Cmd) (r : Rep) : (s.answered m op c r).ks = s.ks := by rw [State.answered_eq]
@[simp] theorem State.answered_pwr (s : State) (m : Mbx) (op : Nat) (c : Cmd) (r : Rep) : (s.answered m op c r).pwr = s.pwr := by rw [State.answered_eq]
@[simp] theorem State.answered_patt (s : State) (m : Mbx) (op : Nat) (c : Cmd) (r : Rep) : (s.answered m op c r).patt = s.patt := by rw [State.answered_eq]
@[simp] theorem State.answered_pending (s : State) (m : Mbx) (op : Nat) (c : Cmd) (r : Rep) : (s.answered m op c r).pending = s.pending := by rw [State.answered_eq]
@[simp] theorem State.answered_draws (s : State) (m : Mbx) (op : Nat) (c : Cmd) (r : Rep) : (s.answered m op c r).draws = s.draws := by rw [State.answered_eq]

/-! ### acting -/

@[simp] theorem State.acting_boot (s : State) (m : Mbx) (op : Nat) (c : Cmd) (r : Rep) : (s.acting m op c r).boot = s.boot := by rw [State.acting_eq]
@[simp] theorem State.acting_seams (s : State) (m : Mbx) (op : Nat) (c : Cmd) (r : Rep) : (s.acting m op c r).seams = s.seams := by rw [State.acting_eq]
@[simp] theorem State.acting_fab (s : State) (m : Mbx) (op : Nat) (c : Cmd) (r : Rep) : (s.acting m op c r).fab = s.fab := by rw [State.acting_eq]
@[simp] theorem State.acting_model (s : State) (m : Mbx) (op : Nat) (c : Cmd) (r : Rep) : (s.acting m op c r).model = s.model := by rw [State.acting_eq]
@[simp] theorem State.acting_snd (s : State) (m : Mbx) (op : Nat) (c : Cmd) (r : Rep) : (s.acting m op c r).snd = s.snd := by rw [State.acting_eq]
@[simp] theorem State.acting_pic (s : State) (m : Mbx) (op : Nat) (c : Cmd) (r : Rep) : (s.acting m op c r).pic = s.pic := by rw [State.acting_eq]
@[simp] theorem State.acting_fwd (s : State) (m : Mbx) (op : Nat) (c : Cmd) (r : Rep) : (s.acting m op c r).fwd = s.fwd := by rw [State.acting_eq]
@[simp] theorem State.acting_time (s : State) (m : Mbx) (op : Nat) (c : Cmd) (r : Rep) : (s.acting m op c r).time = s.time := by rw [State.acting_eq]
@[simp] theorem State.acting_net (s : State) (m : Mbx) (op : Nat) (c : Cmd) (r : Rep) : (s.acting m op c r).net = s.net := by rw [State.acting_eq]
@[simp] theorem State.acting_cip (s : State) (m : Mbx) (op : Nat) (c : Cmd) (r : Rep) : (s.acting m op c r).cip = s.cip := by rw [State.acting_eq]
@[simp] theorem State.acting_acc (s : State) (m : Mbx) (op : Nat) (c : Cmd) (r : Rep) : (s.acting m op c r).acc = s.acc := by rw [State.acting_eq]
@[simp] theorem State.acting_keep (s : State) (m : Mbx) (op : Nat) (c : Cmd) (r : Rep) : (s.acting m op c r).keep = s.keep := by rw [State.acting_eq]
@[simp] theorem State.acting_disp (s : State) (m : Mbx) (op : Nat) (c : Cmd) (r : Rep) : (s.acting m op c r).disp = s.disp := by rw [State.acting_eq]
@[simp] theorem State.acting_mem (s : State) (m : Mbx) (op : Nat) (c : Cmd) (r : Rep) : (s.acting m op c r).mem = s.mem := by rw [State.acting_eq]
@[simp] theorem State.acting_dma (s : State) (m : Mbx) (op : Nat) (c : Cmd) (r : Rep) : (s.acting m op c r).dma = s.dma := by rw [State.acting_eq]
@[simp] theorem State.acting_ks (s : State) (m : Mbx) (op : Nat) (c : Cmd) (r : Rep) : (s.acting m op c r).ks = s.ks := by rw [State.acting_eq]
@[simp] theorem State.acting_pwr (s : State) (m : Mbx) (op : Nat) (c : Cmd) (r : Rep) : (s.acting m op c r).pwr = s.pwr := by rw [State.acting_eq]
@[simp] theorem State.acting_patt (s : State) (m : Mbx) (op : Nat) (c : Cmd) (r : Rep) : (s.acting m op c r).patt = s.patt := by rw [State.acting_eq]
@[simp] theorem State.acting_pending (s : State) (m : Mbx) (op : Nat) (c : Cmd) (r : Rep) : (s.acting m op c r).pending = s.pending := by rw [State.acting_eq]
@[simp] theorem State.acting_draws (s : State) (m : Mbx) (op : Nat) (c : Cmd) (r : Rep) : (s.acting m op c r).draws = s.draws := by rw [State.acting_eq]

/-! ### The room for a reply -/

/-- Where the reply has room, the checks of a command are its card's (03 R82). -/
theorem allChecks_room {row : Row} {c : Cmd} {s : State} (h : State.tooLong c (row.effect c s).2 = false) : row.allChecks c s = row.checks c s := by
  have e : firstFail [(row.checks c s).pre, none] = (row.checks c s).pre := by
    cases (row.checks c s).pre <;> rfl
  simp [Row.allChecks, h, need, e]

/-- A certificate fits the reply buffer that ks.cert asks for (16 R420). -/
theorem certificate_length (n : Nat) : (Config.certificate n).length ≤ 2048 := by
  simp [Config.certificate]

end Sys2Proof.Machine
end

