-- ==== Sys2Proof/Laws/Fold.lean ====
section
/-! SUPPORT. A fold or a choice of functions that keep a part of the state keeps that part. -/

namespace Sys2Proof.Machine

open Sys2Proof

@[simp] theorem foldl_pending {α} (f : State → α → State) (h : ∀ s a, (f s a).pending = s.pending) (l : List α) (s : State) : (l.foldl f s).pending = s.pending := by
  induction l generalizing s with
  | nil => rfl
  | cons a l ih => simp [List.foldl, ih, h]

@[simp] theorem foldl_dram {α} (f : State → α → State) (h : ∀ s a, (f s a).mem.dram = s.mem.dram) (l : List α) (s : State) : (l.foldl f s).mem.dram = s.mem.dram := by
  induction l generalizing s with
  | nil => rfl
  | cons a l ih => simp [List.foldl, ih, h]

@[simp] theorem foldl_host {α} (f : State → α → State) (h : ∀ s a, (f s a).mem.host = s.mem.host) (l : List α) (s : State) : (l.foldl f s).mem.host = s.mem.host := by
  induction l generalizing s with
  | nil => rfl
  | cons a l ih => simp [List.foldl, ih, h]

@[simp] theorem foldl_fst_pending {α β} (f : State × β → α → State × β) (h : ∀ s a, (f s a).1.pending = s.1.pending) (l : List α) (s : State × β) : (l.foldl f s).1.pending = s.1.pending := by
  induction l generalizing s with
  | nil => rfl
  | cons a l ih => simp [List.foldl, ih, h]

@[simp] theorem foldl_fst_dram {α β} (f : State × β → α → State × β) (h : ∀ s a, (f s a).1.mem.dram = s.1.mem.dram) (l : List α) (s : State × β) : (l.foldl f s).1.mem.dram = s.1.mem.dram := by
  induction l generalizing s with
  | nil => rfl
  | cons a l ih => simp [List.foldl, ih, h]

@[simp] theorem foldl_fst_host {α β} (f : State × β → α → State × β) (h : ∀ s a, (f s a).1.mem.host = s.1.mem.host) (l : List α) (s : State × β) : (l.foldl f s).1.mem.host = s.1.mem.host := by
  induction l generalizing s with
  | nil => rfl
  | cons a l ih => simp [List.foldl, ih, h]

@[simp] theorem ite_pending (c : Prop) [Decidable c] (a b : State) : (if c then a else b).pending = if c then a.pending else b.pending := by split <;> rfl

@[simp] theorem ite_mem (c : Prop) [Decidable c] (a b : State) : (if c then a else b).mem = if c then a.mem else b.mem := by split <;> rfl

@[simp] theorem ite_dram (c : Prop) [Decidable c] (a b : Memory) : (if c then a else b).dram = if c then a.dram else b.dram := by split <;> rfl

@[simp] theorem ite_host (c : Prop) [Decidable c] (a b : Memory) : (if c then a else b).host = if c then a.host else b.host := by split <;> rfl

@[simp] theorem ite_fst {α β} (c : Prop) [Decidable c] (a b : α × β) : (if c then a else b).1 = if c then a.1 else b.1 := by split <;> rfl

end Sys2Proof.Machine
end

