-- ==== Sys2Proof/Laws/Memory.lean ====
section
/-! SUPPORT. Byte memory: reading what was written, writing elsewhere, and the canonical form, which every memory operation keeps. -/

namespace Sys2Proof.Machine

open Sys2Proof

/-! ### The canonical form -/

/-- A list above a bound is above every lower bound. -/
theorem memWf_mono {lo lo' : Nat} {m : List Host.Cell} (h : memWf lo m = true) (hl : lo' ≤ lo) : memWf lo' m = true := by
  cases m with
  | nil => rfl
  | cons p t =>
    obtain ⟨k, b⟩ := p
    simp only [memWf, Bool.and_eq_true, decide_eq_true_eq] at h ⊢
    exact ⟨⟨by omega, h.1.2⟩, h.2⟩

/-- Erasing an address keeps the form. -/
theorem memWf_erase {lo : Nat} {m : List Host.Cell} (h : memWf lo m = true) (a : Nat) : memWf lo (memErase m a) = true := by
  induction m generalizing lo with
  | nil => rfl
  | cons p t ih =>
    obtain ⟨k, b⟩ := p
    simp only [memWf, Bool.and_eq_true, decide_eq_true_eq] at h
    have it := ih h.2
    unfold memErase at it ⊢
    rw [List.filter_cons]
    split
    · simp only [memWf, Bool.and_eq_true, decide_eq_true_eq]
      exact ⟨h.1, it⟩
    · exact memWf_mono it (by omega)

/-- An erased address is not listed. -/
theorem memErase_absent (m : List Host.Cell) (a : Nat) : ∀ p ∈ memErase m a, p.1 ≠ a := by
  intro p hp
  simpa [memErase] using (List.mem_filter.mp hp).2

/-- Inserting a byte other than 0 at an address not listed keeps the form. -/
theorem memWf_insert {lo : Nat} {m : List Host.Cell} (h : memWf lo m = true) {a : Nat} (ha : lo ≤ a) {b : BitVec 8} (hb : b ≠ 0) (hm : ∀ p ∈ m, p.1 ≠ a) :
    memWf lo (memInsert m a b) = true := by
  induction m generalizing lo with
  | nil => simpa [memInsert, memWf, ha] using hb
  | cons p t ih =>
    obtain ⟨k, c⟩ := p
    have hk : k ≠ a := hm (k, c) (by simp)
    simp only [memWf, Bool.and_eq_true, decide_eq_true_eq] at h
    unfold memInsert
    split
    · simp only [memWf, Bool.and_eq_true, decide_eq_true_eq]
      exact ⟨⟨ha, by simpa using hb⟩, ⟨by omega, h.1.2⟩, h.2⟩
    · simp only [memWf, Bool.and_eq_true, decide_eq_true_eq]
      exact ⟨h.1, ih h.2 (by omega) (fun p hp => hm p (by simp [hp]))⟩

/-- A write of a byte keeps the form. -/
theorem memWf_write {m : List Host.Cell} (h : memWf 0 m = true) (a : Nat) (b : BitVec 8) : memWf 0 (memWrite m a b) = true := by
  unfold memWrite
  dsimp only
  split
  · exact memWf_erase h a
  · exact memWf_insert (memWf_erase h a) (Nat.zero_le a) ‹_› (memErase_absent m a)

/-- A write of bytes keeps the form. -/
theorem memWf_put {m : List Host.Cell} (h : memWf 0 m = true) (a : Nat) (b : Bytes) : memWf 0 (memPut m a b) = true := by
  induction b generalizing m a with
  | nil => exact h
  | cons x t ih => exact ih (memWf_write h a x) (a + 1)

/-! ### Reading after writing -/

/-- Erasing reads 0 at the address and changes no other. -/
theorem memRead_erase (m : List Host.Cell) (a x : Nat) : memRead (memErase m a) x = if x = a then 0 else memRead m x := by
  induction m with
  | nil => simp [memErase, memRead]
  | cons p t ih =>
    obtain ⟨k, b⟩ := p
    unfold memErase at ih ⊢
    rw [List.filter_cons]
    split
    · rename_i h
      have : k ≠ a := by simpa using h
      simp only [memRead, ih]
      split
      · rename_i e; subst e; simp [this]
      · rfl
    · rename_i h
      have : k = a := by simpa using h
      subst this
      rw [ih]
      split
      · rfl
      · simp only [memRead]; split
        · omega
        · rfl

/-- Inserting at an address not listed sets that byte and changes no other. -/
theorem memRead_insert {m : List Host.Cell} {a : Nat} (hm : ∀ p ∈ m, p.1 ≠ a) (b : BitVec 8) (x : Nat) :
    memRead (memInsert m a b) x = if x = a then b else memRead m x := by
  induction m with
  | nil => simp only [memInsert, memRead, eq_comm]
  | cons p t ih =>
    obtain ⟨k, c⟩ := p
    have hk : k ≠ a := hm (k, c) (by simp)
    have it := ih (fun p hp => hm p (by simp [hp]))
    unfold memInsert
    split
    · simp only [memRead, eq_comm]
    · simp only [memRead, it]
      split
      · rename_i e; subst e; simp [hk]
      · rfl

/-- The law of one byte: a write sets its own address and changes no other. -/
theorem memRead_write (m : List Host.Cell) (a : Nat) (b : BitVec 8) (x : Nat) : memRead (memWrite m a b) x = if x = a then b else memRead m x := by
  unfold memWrite
  dsimp only
  split
  · rename_i h; subst h; rw [memRead_erase]
  · rw [memRead_insert (memErase_absent m a), memRead_erase]
    split <;> rfl

/-- A write of bytes changes nothing outside them. -/
theorem memRead_put_outside (m : List Host.Cell) (a : Nat) (b : Bytes) {x : Nat} (h : x < a ∨ a + b.length ≤ x) : memRead (memPut m a b) x = memRead m x := by
  induction b generalizing m a with
  | nil => rfl
  | cons c t ih =>
    simp only [List.length_cons] at h
    unfold memPut
    rw [ih (memWrite m a c) (a + 1) (by omega), memRead_write]
    split
    · omega
    · rfl

/-- A write of bytes reads back as those bytes. -/
theorem memRead_put_inside (m : List Host.Cell) (a : Nat) (b : Bytes) (k : Nat) (h : k < b.length) : memRead (memPut m a b) (a + k) = b[k] := by
  induction b generalizing m a k with
  | nil => simp at h
  | cons c t ih =>
    unfold memPut
    cases k with
    | zero =>
      rw [memRead_put_outside _ _ _ (by omega), memRead_write]
      simp
    | succ n =>
      have := ih (memWrite m a c) (a + 1) n (by simpa using h)
      rw [show a + (n + 1) = a + 1 + n by omega, this]
      rfl

/-- Two memories in canonical form that read alike are the same list. -/
theorem memWf_ext {lo : Nat} {m n : List Host.Cell} (hm : memWf lo m = true) (hn : memWf lo n = true) (h : ∀ x, memRead m x = memRead n x) : m = n := by
  have low : ∀ {l : Nat} {m : List Host.Cell}, memWf l m = true → ∀ x, x < l → memRead m x = 0 := by
    intro l m hm x hx
    induction m generalizing l with
    | nil => rfl
    | cons p t ih =>
      obtain ⟨k, b⟩ := p
      simp only [memWf, Bool.and_eq_true, decide_eq_true_eq] at hm
      simp only [memRead]
      split
      · omega
      · exact ih hm.2 (by omega)
  induction m generalizing lo n with
  | nil =>
    cases n with
    | nil => rfl
    | cons p t =>
      obtain ⟨k, b⟩ := p
      simp only [memWf, Bool.and_eq_true, decide_eq_true_eq] at hn
      have := h k
      simp only [memRead, if_true] at this
      simp [← this] at hn
  | cons p t ih =>
    obtain ⟨k, b⟩ := p
    simp only [memWf, Bool.and_eq_true, decide_eq_true_eq] at hm
    cases n with
    | nil =>
      have := h k
      simp only [memRead, if_true] at this
      simp [this] at hm
    | cons q u =>
      obtain ⟨j, c⟩ := q
      simp only [memWf, Bool.and_eq_true, decide_eq_true_eq] at hn
      have hkj : k = j := by
        rcases Nat.lt_trichotomy k j with e | e | e
        · have := h k
          simp only [memRead, if_true, if_neg (by omega : ¬ j = k)] at this
          rw [low hn.2 k (by omega)] at this
          simp [this] at hm
        · exact e
        · have := h j
          simp only [memRead, if_true, if_neg (by omega : ¬ k = j)] at this
          rw [low hm.2 j (by omega)] at this
          simp [← this] at hn
      subst hkj
      have hbc : b = c := by simpa [memRead] using h k
      subst hbc
      have := ih hm.2 hn.2 (fun x => by
        have := h x
        simp only [memRead] at this
        split at this
        · rename_i e; subst e; rw [low hm.2 k (by omega), low hn.2 k (by omega)]
        · exact this)
      rw [this]

/-! ### Posted writes and DMA channels -/

/-- Writes of several runs of bytes keep the form. -/
theorem memWf_puts (l : List (Nat × Bytes)) {m : List Host.Cell} (h : memWf 0 m = true) : memWf 0 (l.foldl (fun m w => memPut m w.1 w.2) m) = true := by
  induction l generalizing m with
  | nil => exact h
  | cons w l ih => exact ih (memWf_put h w.1 w.2)

/-- Host memory with the mailboxes' posted writes is in canonical form. -/
@[simp] theorem State.landed_ok (s : State) (hh : memWf 0 s.mem.host = true) : memWf 0 s.landed = true := memWf_puts _ hh

end Sys2Proof.Machine
end

