-- ==== Sys2Proof/Laws/Run.lean ====
section
/-! SUPPORT. Running one Pledom command that is accepted: what `State.run` answers, cited in place of unfolding it. -/

namespace Sys2Proof.Machine

open Sys2Proof

/-- An accepted command with room for its reply takes its effect and is answered (03 R82, R92, R95). -/
theorem State.run_takes {s t : State} {m : Mbx} {row : Row} {c : Cmd} {r : Rep} {n : Nat} (h : s.takes m row c n = true)
    (he : row.effect c s = (t, r)) (hl : r.later = false) (_hn : r.data.length ≤ n) : s.run m row = t.answered m row.opcode c r := by
  simp only [State.takes, State.accepts, Bool.and_eq_true, beq_iff_eq, Option.isNone_iff_eq_none] at h
  obtain ⟨⟨⟨⟨h1, h0⟩, h2⟩, h3⟩, -⟩ := h
  simp [State.run, h0, h1, h3, h2, he, hl, State.answered]

/-- An accepted command that goes on acting takes its effect and stays in flight (03 R92). -/
theorem State.run_acts {s t : State} {m : Mbx} {row : Row} {c : Cmd} {r : Rep} (h : s.accepts m row c = true)
    (he : row.effect c s = (t, r)) (hl : r.later = true) : s.run m row = t.acting m row.opcode c r := by
  simp only [State.accepts, Bool.and_eq_true, beq_iff_eq, Option.isNone_iff_eq_none] at h
  obtain ⟨⟨⟨h1, h0⟩, h2⟩, h3⟩ := h
  simp [State.run, h0, h1, h3, h2, he, hl, State.acting]

/-- The bytes of a number are as many as asked for. -/
@[simp] theorem length_le (n v : Nat) : (le n v).length = n := by
  induction n generalizing v with
  | zero => rfl
  | succ n ih => simp [le, ih]

/-- As `length_le`, for signed numbers. -/
@[simp] theorem length_leI (n : Nat) (v : Int) : (leI n v).length = n := length_le n _

/-- Padded or cut bytes have the length asked for. -/
@[simp] theorem length_fit (n : Nat) (b : Bytes) : (fit n b).length = n := by simp [fit]; omega

end Sys2Proof.Machine
end

