-- ==== Sys2Proof/Laws/Tables.lean ====
section
/-! SUPPORT. Tables of numbered records: what is stored reads back, and other numbers keep their records. -/

namespace Sys2Proof.Machine

open Sys2Proof

/-- A stored record reads back. -/
@[simp] theorem tget_tput {α : Type} (t : Table α) (i : Nat) (a : α) : tget (tput t i a) i = some a := by
  induction t with
  | nil => simp [tput, tget]
  | cons p t ih =>
    obtain ⟨k, b⟩ := p
    unfold tput
    split
    · simp [tget]
    · split
      · simp [tget]
      · rename_i h1 h2
        simp [tget, Ne.symm h2, ih]

/-- Storing a record keeps those of other numbers. -/
theorem tget_tput_ne {α : Type} (t : Table α) {i j : Nat} (h : j ≠ i) (a : α) : tget (tput t i a) j = tget t j := by
  induction t with
  | nil => simp [tput, tget, Ne.symm h]
  | cons p t ih =>
    obtain ⟨k, b⟩ := p
    unfold tput
    split
    · simp [tget, Ne.symm h]
    · split
      · rename_i h2
        subst h2
        simp [tget, Ne.symm h]
      · simp only [tget, ih]

/-- A changed record reads as changed. -/
theorem tget_tmod {α : Type} {t : Table α} {i : Nat} {a : α} (h : tget t i = some a) (f : α → α) : tget (tmod t i f) i = some (f a) := by
  simp [tmod, h]

/-- A number without a record has none after a change. -/
theorem tmod_none {α : Type} {t : Table α} {i : Nat} (h : tget t i = none) (f : α → α) : tmod t i f = t := by
  simp [tmod, h]

/-- Changing a record keeps those of other numbers. -/
theorem tget_tmod_ne {α : Type} (t : Table α) {i j : Nat} (h : j ≠ i) (f : α → α) : tget (tmod t i f) j = tget t j := by
  unfold tmod
  split
  · exact tget_tput_ne t h _
  · rfl

/-- Two changes that agree on the record are one. -/
theorem tmod_congr {α : Type} {t : Table α} {i : Nat} {f g : α → α} (h : ∀ a, tget t i = some a → f a = g a) : tmod t i f = tmod t i g := by
  unfold tmod
  split
  · rename_i a e; rw [h a e]
  · rfl

end Sys2Proof.Machine
end

