-- ==== Sys2Proof/Tests/Slice0.lean ====
section
/-! SUPPORT. Tests of the model: worked examples of the spec, ill-formed commands that WellFormed refuses, and, for each statement, states and operands that meet the hypotheses of its clauses. -/

namespace Sys2Proof.Tests

open Sys2Proof Sys2Proof.Machine

set_option Elab.async false
set_option linter.unusedVariables false

/-! ### Worked examples of the spec -/

/-- Reset memory is in canonical form. -/
theorem test_reset_memOk : State.memOk State.reset = true := by decide

/-- Media time 0x0F731400 as eight bytes of a record (00, worked example; R5). -/
theorem test_le_example : le 8 0x0F731400 = [0x00, 0x14, 0x73, 0x0F, 0x00, 0x00, 0x00, 0x00] := by decide

/-- The rate correction of −12.5 ppm (09, worked example; R246). -/
theorem test_rate_example : rateInc (-819200) = 13743723548 := by decide

/-- One sample through two tiles (07, worked example; R195). -/
theorem test_blend_example : blend 1024 700 64 = 700 ∧ blend 600 940 700 = 841 ∧ blend 600 600 440 = 534 := by decide

/-- Dither of 841 at (13, 6) in pictures 21 and 22, and of 1023 and 1021 (07, worked example; R197, R198). -/
theorem test_dither_example : dither 21 13 6 841 = 211 ∧ dither 22 13 6 841 = 210 ∧ dither 0 0 0 1023 = 255 ∧ undithered 1021 = 255 := by decide

/-- A kernel's charge (14, worked example; R376). -/
theorem test_kernel_cost_example : kernelCost 1850 512 = 20 := by decide

/-- Eight hand-outs of the deficit round robin: the tasks in order and a deficit of each group (14, worked example; R363). -/
theorem test_drr_example :
    let head (g : Nat) : Option (Nat × Nat) := if g = 0 then some (0, 1500) else if g = 2 then some (2, 1000) else if g = 9 then some (9, 2400) else none
    let weight (g : Nat) : Nat := if g = 0 then 4 else if g = 2 then 2 else 1
    let go (n : Nat) : DispBlock × List Nat := n.rec ({ fresh := true }, []) (fun _ p => let r := drr head weight 48 p.1; (r.1, p.2 ++ r.2.toList))
    (go 8).2 = [0, 0, 0, 2, 2, 2, 9, 0] ∧ (go 3).1.deficit[0]? = some (-404) ∧ (go 6).1.deficit[2]? = some (-952) ∧ (go 8).1.deficit[9]? = some (-1376) ∧ (go 8).1.deficit[0]? = some 2192 := by
  decide +kernel

/-- One upstream frame at 24.8832 Gbit/s (11, worked example; R300). -/
theorem test_bandwidth_map_example :
    let term (n : Nat) : Nat × Terminal := (n, { serial := BitVec.ofNat 64 (n + 1), keyGroup := 0, state := 5 })
    let a : Tcont := { fixed := 20480, assured := 0, max := 0, weight := 1 }
    let b : Tcont := { fixed := 0, assured := 1024000, max := 0, weight := 1, report := 12000 }
    let c : Tcont := { fixed := 0, assured := 0, max := 0, weight := 3, report := 300000 }
    let d : Tcont := { fixed := 0, assured := 0, max := 5120000, weight := 1, report := 100000 }
    (State.bandwidthMap { gen := 2, usRate := 2, terminals := [term 0, term 1, term 2], tconts := [(0, a), (1, c), (4, b), (8, d)] }).map (·.2) = [320, 296192, 12000, 80000] := by
  decide +kernel

/-- The writes of the overlapping copy, in their descending order (15, worked example; R401). -/
theorem test_dma_order_example :
    let d : Desc := { src := 0x4000001000, dst := 0x4000001013, count := 200, crc := false, irq := false, last := true, link := 0, crcAddr := 0, addr := 0 }
    d.overlaps = true ∧ (State.orderOf d d.dst.toNat).map (fun p => (p.1 - 0x4000000000, p.2)) =
      [(0x10DA, 1), (0x10D8, 2), (0x10D0, 8), (0x10C8, 8), (0x10C0, 8), (0x1080, 64), (0x1040, 64), (0x1038, 8), (0x1030, 8), (0x1028, 8), (0x1020, 8), (0x1018, 8), (0x1014, 4), (0x1013, 1)] := by
  decide +kernel

/-- A gain of −48 raised to 26 takes 18 steps of 4 and one of 2 (05, worked example; R145). -/
theorem test_gain_example :
    let g : Gain := ({ applied := -48 } : Gain).aim 0 26 false 20
    let go (n : Nat) : Gain := n.rec g (fun k x => x.step k)
    (go 18).cur = (24, false) ∧ (go 18).due.isSome = true ∧ (go 19).cur = (26, false) ∧ (go 19).due = none := by
  decide +kernel


/-! ### States and data of the witnesses -/

/-- An IPv4 address in the top 32 bits of an address field. -/
def ip (n : Nat) : U128 := BitVec.ofNat 128 (n * 2 ^ 96)

/-- A slot header with an opcode: an indirect request and reply, TAG 7, not basted. -/
def hdrOf (op : Nat) : SlotHdr :=
  { opcode := BitVec.ofNat 16 op, version := 0x32, indirect := true, fence := false, tag := 7, seam := 0xFFFF, length := 32, reqAddr := 0, reqLen := 4096, replyLen := 4096, replyAddr := 0, arg := 0 }

/-- A ready command with an opcode. -/
def cmdOf (op : Nat) : Cmd := { seq := 1, hdr := hdrOf op, stage := .ready, fromReserve := false }

/-- A mailbox that runs with a session. -/
def box0 : Mailbox := { enable := true, running := true, session := some 0x32, pi := 1, cmdHead := 1 }

/-- A state with a mailbox replaced. -/
def boxed (s : State) (m : Mbx) (b : Mailbox) : State := { s with pl := { s.pl with boxes := s.pl.boxes.set m.val b } }

/-- The request that gives a row its operands, by the row's own layout. -/
def reqOf (row : Row) : Bytes := le 256 (total (row.layout 0x32) (fun f => f.2.2.2 % 2 ^ f.2.2.1 * 2 ^ (8 * f.1 + f.2.1)))

/-- The command that a row stands for. -/
def cmdFor (row : Row) : Cmd := { cmdOf row.opcode with req := reqOf row }

/-- A state whose mailbox 0 holds the command of a row. -/
def asks (row : Row) (s : State) : State := boxed s 0 { box0 with inflight := [cmdFor row] }

/-- A state whose mailbox 0 holds a command of an opcode. -/
def ask (op : Nat) (s : State) : State := boxed s 0 { box0 with inflight := [cmdOf op] }

/-- A device that is up, alone, with nothing set up. -/
def sReady : State :=
  { ({} : State) with
    pins := { resetN := true }, boot := { stage := .ready, ready := true, readiness := 0x2F }, ks := { ({} : Keystone) with state := .run, released := true, verified := true },
    pl := { ({} : Pledom) with boxes := (Vector.replicate 17 {}).set 0 box0, busMaster := Vector.replicate 16 true },
    keep := { ({} : Keep) with mount := .indexed }, time := { ({} : Time) with now := 312500000000, bases := #v[{ enabled := true, armed := true, sec := 1000 }, {}, {}, { enabled := true, armed := true, sec := 1000 }] } }

/-- Data for the tests: PtpReq. -/
def ptp0 : PtpReq := { iface := 0, profile := 1, domain := 0, role := 0, priority1 := 128, priority2 := 128, localPriority := 128, forwardable := false, logSync := 0, logAnnounce := 0, logDelayReq := 0, announceTimeout := 3 }

/-- Data for the tests: Iface. -/
def ifc0 : Iface := { enable := true, link := true, mac := 0x020000000001, highB := 200000, lowB := 100000, addrs := [(4, (ip 0x0A000001), 24)] }

/-- A state for the tests, changed in one place. -/
def port0 (s : State) (f : Port → Port) : State := { s with net := { s.net with ports := s.net.ports.set 0 (f (s.net.ports.get 0)) } }

/-- A state for the tests, changed in one place. -/
def withIface (s : State) (g : Iface) : State := { s with net := { s.net with ifaces := [(0, g)] } }

/-- A state for the tests, changed in one place. -/
def withBase (s : State) (b : Fin 4) (f : TimeBase → TimeBase) : State := { s with time := { s.time with bases := s.time.bases.set b.val (f (s.time.bases.get b)) } }

/-- A state for the tests, changed in one place. -/
def withPps (s : State) (f : Pps → Pps) : State := { s with time := { s.time with pps := f s.time.pps } }

/-- Port 0 at one interface of 400 Gbit/s, enabled, with an address. -/
def sNet : State := State.modPort (withIface sReady ifc0) 0 (fun p => { p with split := 1 })

/-- Data for the tests: RxFrame. -/
def frame0 : RxFrame :=
  { fcsOk := true, length := 200, dst := 0x020000000001, src := 0x020000000009, cTags := 0, sTag := false, vlan := 0, kind := .other, ipv6 := false, ipCsumOk := true, extHeaders := 0, fragment := false, ipSrc := (ip 0x0A000002), ipDst := (ip 0x0A000001), udpSrc := 5006, udpDst := 5004, udpCsumOk := true, udpCsumZero := false, rtpSsrc := 9, rtpSeq := 1, encLength := 0, authOk := true, authPrevOk := false, onuId := 0 }

/-- Data for the tests: KeySlot. -/
def slot0 : KeySlot := { state := .loaded, suite := 1 }

/-- Data for the tests: CodecEntry. -/
def opus0 : CodecEntry := { codec := 1, pt := 111, recv := true, send := true, channels := 1, clockHz := 48000, profileLevel := 0, temporal := 0, spatial := 0, maxKpxs := 0 }

/-- Data for the tests: CodecEntry. -/
def avc0 : CodecEntry := { codec := 0x10, pt := 96, recv := true, send := true, channels := 0, clockHz := 90000, profileLevel := 0x421E, temporal := 1, spatial := 1, maxKpxs := 62208 }

/-- Data for the tests: LegOffer. -/
def offer0 : LegOffer :=
  { conf := 0, leg := 0xFFFF, emergency := false, listener := false, levels := true, ice := false, endpointKey := 0, port := 0, af := 4, vlan := 0, levelExtId := 1, security := 4, connectTimeoutS := 0, localAddr := (ip 0x0A000001), remoteAddr := (ip 0x0A000002), localUdp := 5004, remoteUdp := 5006, consentS := 0, sources := 3, maxRecvKbps := 0, maxSendKbps := 0, keyLen := 0, fingerprint := 0, codecs := [opus0, avc0], localUfrag := [], localPwd := [], remoteUfrag := [], remotePwd := [], keyBlock := { suite := 0, txRoc := 0, rxRoc := 0, txKey := 0, txSalt := 0, rxKey := 0, rxSalt := 0 } }

/-- Data for the tests: Conf. -/
def conf0 : Conf := { speakers := 3, standing := false, legLimit := 0, startMedia := 0, origin := some 1000000000 }

/-- Data for the tests: Leg. -/
def leg0 : Leg := { state := .active, conf := 0, offer := offer0, emergency := false, record := none, connected := true, keyed := true }

/-- Data for the tests: Leg. -/
def leg1 : Leg := { state := .connecting, conf := 0, offer := { offer0 with security := 1, localUdp := 5008 }, emergency := false, record := none }

/-- Data for the tests: Leg. -/
def leg2 : Leg := { leg1 with state := .active, keyed := true, connected := true, offer := { leg1.offer with localUdp := 5010 } }

/-- Data for the tests: ChainReq. -/
def chain0 : ChainReq := { resetState := false, bypass := true, bands := [], gateOn := 0, gateRange := 0, gateThreshold := 0, gateAttackMs := 0, gateHoldMs := 0, gateReleaseMs := 0, agcOn := 0, agcMaxGainDb := 0, agcTarget := 0, agcAttackMs := 0, agcReleaseMs := 0, agcMaxCutDb := 0, kernel := 0xFFFF, param := 0 }

/-- Data for the tests: LegSound. -/
def legs0 : LegSound := { listen := 0, chain := chain0 }

/-- A conference with three legs and a main mix. -/
def sLegs : State :=
  { sNet with
    model := { ({} : Model) with confs := [(0, conf0)], legs := [(0, leg0), (1, leg1), (2, leg2)] }
    snd := { ({} : Sound) with legs := [(0, legs0), (1, legs0), (2, legs0)], mixes := [(0, { conf := 0, inputs := [(0, {})] })] }
    net := { sNet.net with legq := [(0, {}), (1, {}), (2, {})] } }

/-- The next state of an outcome. -/
def nextOf : Host.Outcome State Fault Refusal → State
  | .next t => t
  | _ => {}

/-- Data for the tests: SlotHdr. -/
def slotSys : SlotHdr := { hdrOf 0 with version := 0x32 }

/-- Data for the tests: Cmd. -/
def cmdDirect : Cmd := { cmdFor rowConfCapacity with hdr := { hdrOf 0x204 with indirect := false, replyLen := 0 } }

/-- Data for the tests: Seam. -/
def seam0 : Seam := { id := 1, owner := .host 0, scope := none, openUntil := 10000000000000 }

/-- Data for the tests: Cmd. -/
def cmdBasted : Cmd := { cmdFor (rowConfSet 0 0 4 false false 0) with hdr := { hdrOf 0x202 with seam := 1 } }

/-- An open seam and a command to baste into it. -/
def sSeam : State := { boxed sLegs 0 { box0 with inflight := [cmdBasted] } with seams := { list := [seam0] } }

/-- A triple by its parts. -/
theorem triple_parts {α β γ : Type} (e : α × β × Option γ) (d : γ) (h : e.2.2.isSome = true) : e = (e.1, e.2.1, some (e.2.2.getD d)) := by
  obtain ⟨a, b, _ | c⟩ := e
  · cases h
  · rfl

/-- A state for the tests, changed in one place. -/
def withBox (b : Mailbox) : State := boxed sReady 0 b

/-- Data for the tests: Entry. -/
def entry0 : Entry := { tag := 5, status := 0, opcode := 2, result := List.replicate 24 0 }

/-- A state for the tests, changed in one place. -/
def sSmb (b : Mailbox) : State := boxed sReady 16 b

/-- A state for the tests, changed in one place. -/
def withBase2 (b : Fin 4) (t : TimeBase) (s : State := sReady) : State := { s with time := { s.time with bases := s.time.bases.set b.val t } }

/-- A state for the tests, changed in one place. -/
def withPpsUnit (p : Pps) : State := { sReady with time := { sReady.time with pps := p } }

/-- A state for the tests, changed in one place. -/
def withPtp (p : PtpPort) : State := withIface sReady { ifc0 with ptp := some p }

/-- Data for the tests: State × Rep × Option (Instr × Nat). -/
def basted : State × Rep × Option (Instr × Nat) := (rowConfSet 0 0 4 false false 0).baste cmdBasted sSeam

/-- The basting of that command by its parts. -/
theorem basted_parts : (rowConfSet 0 0 4 false false 0).baste cmdBasted sSeam = (basted.1, basted.2.1, some (basted.2.2.getD (.sysInfo 0, 0))) := triple_parts basted _ (by decide)

/-- Data for the tests: Bytes. -/
def slot2 : Bytes := [2, 0, 0x32, 0, 7, 0, 0xFF, 0xFF] ++ List.replicate 248 0

/-- Data for the tests: IfaceReq. -/
def ifq0 : IfaceReq := { iface := 0, enable := true, pause := 0, rxPause := false, lpi := false, pfcMask := 0x0F, mac := 0x020000000001, mtu := 1518, pauseQuanta := 65535, highB := 200000, lowB := 100000, rxLatPs := 0, txLatPs := 0, asymPs := 0 }

/-- Data for the tests: GateReq. -/
def gate0 : GateReq := { port := 0, enable := true, cycleNs := 1000000, baseS := 0, baseNs := 0, entries := [{ gates := 255, intervalNs := 1000000 }] }

/-- A wrapped slot unwraps to its key under the same boot. -/
theorem unwrap_wrap (s : State) (n : Nat) : (s.wrapSlot n).unwrapSlot n = some (s.keySlot n).key := by
  simp only [State.unwrapSlot, State.wrapSlot, State.modCip, tget_tput, Option.bind_some, and_self, if_true, Option.some.injEq]
  rw [BitVec.xor_assoc, BitVec.xor_self, BitVec.xor_zero]

/-- A slot whose key was wrapped, with a packet that waits for it. -/
def sWrap : State :=
  State.wrapSlot { sLegs with cip := { sLegs.cip with slots := [(0, { slot0 with key := 9 })], fetching := [{ slot := 0, leg := 0, received := true, ssrc := 9, seq := 1, encLength := 100, authOk := true, authPrevOk := false }] } } 0

/-- The key of that slot. -/
theorem sWrap_key : State.unwrapSlot (sWrap.modCip (fun c => { c with fetching := c.fetching.filter (fun j => j.slot != 0) })) 0 = some 9 := unwrap_wrap _ 0

/-- Data for the tests: Layout. -/
def lay0 : Layout := { conf := 0, width := 640, height := 480, rate := 25, standing := false, hold := 1920, bg := (64, 512, 512), firstSlot := 1920, cells := [(0, 7680)], kpxs := 7680 }

/-- Data for the tests: FeedReq. -/
def feedq0 : FeedReq := { layout := 0, feed := 0xFFFF, codec := 0x10, depth := 8, profileLevel := 0x421E, width := 640, height := 480, rate := 25, temporal := 1, spatial := 1, keyMinMs := 1000, target0 := 1000, target1 := 0, target2 := 0 }

/-- Data for the tests: Feed. -/
def feed0 : Feed := { layout := 0, req := feedq0, ssrc := [1], tsBase := 0, ctx := 0 }

/-- Data for the tests: EncCtx. -/
def enc0 : EncCtx := { feed := 0, kpxs := 7680, lanes := [(0, 7680)], first := 1920 }

/-- Data for the tests: DecCtx. -/
def dec0 : DecCtx := { source := 1, kpxs := 62208, lanes := [(0, 62208)], bucket := 2985984000, places := [(0, 0, 62208)] }

/-- The same with a layout, a feed and a decoded source. -/
def sPics : State := { sLegs with pic := { dec := [(0, dec0)], enc := [(0, enc0)], layouts := [(0, lay0)], feeds := [(0, feed0)] } }

/-- A state for the tests, changed in one place. -/
def withDec (d : DecCtx) : State := { sPics with pic := { sPics.pic with dec := [(0, d)] } }

/-- A state for the tests, changed in one place. -/
def withLayout (l : Layout) : State := { sPics with pic := { sPics.pic with layouts := [(0, l)] } }

/-- A policy with one small overlay. -/
def sOverlay : State := { sPics with ks := { sPics.ks with policy := { shippedPolicy with overlays := [{ width := 64, height := 32, content := 0 }] } } }

/-- Data for the tests: LayoutReq. -/
def layq0 : LayoutReq := { conf := 0, layout := 0xFFFF, width := 640, height := 480, rate := 25, standing := false, holdSamples := 0xFFFF, bgY := 64, bgCb := 512, bgCr := 512 }

/-- Data for the tests: TileReq. -/
def tileq0 : TileReq := { layout := 0, tile := 0, content := 1, source := 1, x := 0, y := 0, w := 320, h := 240, cropX := 0, cropY := 0, cropW := 0, cropH := 0, z := 0, border := 0, alpha := 1024, borderAlpha := 0, stallMs := 0, fill := 0, borderColour := 0, decodeKpxs := 7680 }

/-- Data for the tests: VideoPkt. -/
def vpkt0 : VideoPkt := { ssrc := 7, seq := 10, ts := 900, marker := true, lumaSamples := 307200, nonRef := false, temporal := none }

/-- Data for the tests: PicHdr. -/
def hdr0 : PicHdr := { seqHdr := some { width := 64, height := 64, depth := 8, profile := 0x42, level := 30 }, width := 64, height := 64, key := true, intra := true, nonRef := false, temporal := 0, spatial := 0, name := 1, refs := [], lower := none, keeps := [1], shown := true }

/-- Data for the tests: SegmentInfo. -/
def seg0 : SegmentInfo := { ts := 900, number := 0, hdr := hdr0, packets := [10], codedBits := 1000, areas16 := 16, features := [], steps := [], lastOfPicture := true, lastOfUnit := true }

/-- Data for the tests: AccessUnit. -/
def unit0 : AccessUnit := { ts := 900, capture := 5, seqs := [10], arrived := 5 }

/-- Data for the tests: BufPic. -/
def pic0 : BufPic := { hdr := hdr0, capture := 5, arrived := 5, depth := 8, ended := true }

/-- A state for the tests. -/
def meterS : State := withBox { box0 with meters := [{ kind := 0, index := 0 }], meterDue := some 5 }

/-- Data for the tests: FwdEntry. -/
def ent0 : FwdEntry := { leg := 2, isFeed := false, object := 1, priority := 0, tileW := 640, tileH := 480, mode := 0, maxS := 2, maxT := 2, rxDd := 0, rate := 0, state := .forwarding, outSsrc := 5, seqBase := 0, tsBase := 0 }

/-- A state for the tests, changed in one place. -/
def withEntry (e : FwdEntry) : State := { sPics with fwd := { sPics.fwd with entries := [(0, e)] } }

/-- The same with a forwarding entry. -/
def sFwd : State := withEntry ent0

/-- Data for the tests: SubscribeReq. -/
def sub0 : SubscribeReq := { leg := 2, kind := 0, priority := 0, object := 1, entry := 0xFFFFFFFF, tileW := 640, tileH := 480, mode := 0, maxSpatial := 2, maxTemporal := 2, rxDdExt := 0, transcodeRate := 0 }

/-- Data for the tests: MediaPkt. -/
def med0 : MediaPkt := { seq := 1, ts := 1000, spatial := 0, temporal := 0, key := true, switchPoint := true, marker := true, length := 1000, pictureId := 0, tl0 := 0, sizes := [] }

/-- Data for the tests: RtcpReport. -/
def rep0 : RtcpReport := { rfc8888 := false, bitsReceived := 0, packetsReceived := 0, packetsLost := 0, packetsCe := 0, fractionLost := 0, owdMs := [], nacks := 0 }

/-- Data for the tests: LegOffer. -/
def offer3 : LegOffer := { offer0 with localUdp := 5020, levels := true }

/-- Data for the tests: Record. -/
def rec0 : Record := { key := 5, firstSeen := 0, lastSeen := 0 }

/-- A state for the tests, changed in one place. -/
def withSeam (k : Seam) (s : State := sPics) : State := { s with seams := { list := [k] } }

/-- Data for the tests: SeamPart. -/
def part0 : SeamPart := { cell := 0x6000 }

/-- Data for the tests: AccessPortReq. -/
def accessReq0 : AccessPortReq := { port := 0, role := 2, gen := 1, usRate := 0, claimGroup := 0xFF, homing := false, sleepOk := true, autoDiscover := true, mtu := 1518, mac := 0x020000000010, to1S := 10, todBase := 0, to2Ms := 100, benLeadNs := 0xFFFF, benLagNs := 0xFFFF, refractPpm := 0, headFibreNs := 0, keyRotateS := 60, regId := 0 }

/-- Data for the tests: AccPort. -/
def head0 : AccPort := { role := 2, cfg := some accessReq0, state := 5, gen := 1, terminals := [(3, { serial := 77, keyGroup := 1, state := 5 }), (4, { serial := 78, keyGroup := 1, state := 4, regUntil := some 5 })], tconts := [(12, { fixed := 100, assured := 100, max := 1000, weight := 1 })], gems := [(100, { kind := 2, terminal := 3, allocId := 1036, active := true })] }

/-- A state for the tests, changed in one place. -/
def withPort (a : AccPort) : State := { sLegs with acc := { ports := #v[a, {}] }, twin := { sLegs.twin with busOk := true, claims := [(0, { used := true }), (32, { used := true, held := true }), (33, { used := true })] }, ks := { sLegs.ks with policy := { shippedPolicy with laser := [(true, true), (true, true)] } } }

/-- Port 0 is the head of an access tree. -/
def sHead : State := withPort head0

/-- Data for the tests: AccPort. -/
def term0 : AccPort := { role := 1, cfg := some { accessReq0 with role := 1 }, state := 5, gen := 1, synced := true, profile := true, identity := some 9, onuId := some 3, allocIds := [1036], mib := [{ cls := 268, inst := 7, gemId := 100, allocId := 1036 }, { cls := 266, inst := 8, gemId := 100 }] }

/-- A state for the tests, changed in one place. -/
def withTwin (t : Twin) (s : State := sPics) : State := { s with twin := t }

/-- Data for the tests: Twin. -/
def twin0 : Twin := { state := .primary, enabled := true, peerState := some 3, linkUp := true, authed := true, version := 1, busOk := true, claims := [(0, { used := true, held := true }), (32, { used := true }), (33, { used := true })] }

/-- A primary with a standby peer. -/
def sPrimary : State := withTwin twin0

/-- A standby. -/
def sStandby : State := withTwin { twin0 with state := .standby, peerState := some 4, claims := [(0, { used := true }), (32, { used := true }), (33, { used := true })] }

/-- A unit in RESYNC. -/
def sResync : State := withTwin { twin0 with state := .resync, peerState := some 4, step := 6, resyncUntil := some 5, claims := [(0, { used := true }), (32, { used := true }), (33, { used := true })] }

/-- Data for the tests: TrussHdr. -/
def truss0 : TrussHdr := { version := 1, seq := 0, ack := 0, laneMap := 0xF, hcrcOk := true, crcOk := true, length := 20 }

/-- A state for the tests, changed in one place. -/
def withKeep (f : Keep → Keep) (s : State := sPics) : State := { s with keep := f s.keep }

/-- Data for the tests: RecordReq. -/
def recordReq0 : RecordReq := { mode := 1, setDeny := false, setPolicy := false, setPin := false, setHost := true, record := 7, endpointKey := 5, deny := 0, keyPolicy := 0, pinned := false, hostData := 9 }

/-- A roster with a record, and a fault record. -/
def sRoster : State := withKeep (fun k => { k with recs := [(7, rec0)], log := [{ seq := 1, location := 0, level := 0, cause := 1, timeS := 5, timeNs := 0, action := 0, fencedNow := 0, seamId := 0xFFFF, seamCount := 0, detail := 0 }] })

/-- Data for the tests: JGroup. -/
def grp0 : JGroup := { gseq := 1, entries := [{ kind := .put 7 rec0 }], keepTime := 0 }

/-- Data for the tests: KernelReq. -/
def kernel0 : KernelReq := { magic := 0x4B424C51, abi := 1, group := 8, kernel := 0xFFFF, codeBytes := 16, constBytes := 8, stateBytes := 8, weight := 1, cycles := 100, entry := 0, build := 0, code := List.replicate 16 0, consts := List.replicate 8 0, badInstr := none }

/-- A state for the tests, changed in one place. -/
def withDisp (f : Disp → Disp) (s : State := sPics) : State := { s with disp := f s.disp }

/-- A kernel is loaded and the trace ring holds a record. -/
def sKernel : State := withDisp (fun d => { d with kernels := [(0, { req := { kernel0 with kernel := 0 } })], next := 2, ring := [{ timeNs := 0, timeS := 0, cell := 0, task := 0, group := 0, reason := 0, detail := 0 }] })

/-- Data for the tests: Machine.Task. -/
def task0 : Machine.Task := { kind := .mix, object := 0, block := 0, group := 1, allMask := 0, est := 100, state := .ready }

/-- A state for the tests, changed in one place. -/
def withFab (f : Fabric → Fabric) (s : State := sPics) : State := { s with fab := f s.fab }

/-- A state for the tests, changed in one place. -/
def withSpool (q : Spool) : State := withFab (fun b => { b with spools := [(5, q)] })

/-- A state for the tests, changed in one place. -/
def withBlock (i : Nat) (x : Block) : State := withFab (fun b => { b with blocks := [(i, x)] })

/-- Data for the tests: MemChan. -/
def chan0 : MemChan := { state := 1 }

/-- A state for the tests, changed in one place. -/
def withMem (f : Memory → Memory) (s : State := sPics) : State :=
  { s with mem := f { s.mem with n := 1, pools := [(0, 65536), (65536, 65536), (131072, 1048576), (1179648, 1048576), (2228224, 1048576), (3276800, 1073741824)], chans := s.mem.chans.set 0 chan0 } }

/-- One channel of memory with its pools. -/
def sMem : State := withMem id

/-- A state for the tests, changed in one place. -/
def mchan (c : MemChan) : State := withMem (fun m => { m with chans := m.chans.set 0 c })

/-- A state for the tests, changed in one place. -/
def mtile (a : Nat) (t : Tile) : State := withMem (fun m => { m with tiles := [(a, t)] })

/-- Data for the tests: DramReq. -/
def rd0 : DramReq := { seq := 1, cell := 0x6000, addr := 0, chan := 0, bytes := 64, bank := 2, row := 3, op := .read .clean true .other }

/-- Data for the tests: DramPath. -/
def path0 : DramPath := { cell := 0x6000, bank := 2, row := 3, wait := true }

/-- Data for the tests: Cmd. -/
def cmdWith (row : Row) (f : SlotHdr → SlotHdr) : Cmd := { cmdFor row with hdr := f (cmdFor row).hdr }

/-- A state for the tests, changed in one place. -/
def asksFor (c : Cmd) (s : State) : State := boxed s 0 { box0 with inflight := [c] }

/-- A state for the tests, changed in one place. -/
def withDma (d : Dma) (s : State := sPics) : State := { s with dma := s.dma.set 0 d, pl := { s.pl with busMaster := Vector.replicate 16 true } }

/-- Data for the tests: Desc. -/
def dsc0 : Desc := { src := 0, dst := 4096, count := 16, crc := false, irq := false, last := true, link := 0, crcAddr := 0, addr := 0 }

/-- Data for the tests: Dma. -/
def dma0 : Dma := { state := .running, desc := some dsc0, src := 0, dst := 4096, count := 16 }

/-- A state for the tests, changed in one place. -/
def withKs (f : Keystone → Keystone) (s : State := sPics) : State := { s with ks := f s.ks }

/-- Data for the tests: PolicyImage. -/
def pimg : PolicyImage := { shippedPolicy with overlays := [{ width := 64, height := 32, content := 0 }], keySlot := 0, svn := 1, version := 2 }

/-- Data for the tests: Proposal. -/
def prop0 : Proposal := { size := 4096, sections := [{ type := 1, offset := 80, length := 68, crc := 0, crcOk := true }], signer := 1, sigOk := true, badOffset := none, image := pimg }

/-- A state for the tests. -/
def fuse0 : State := withKs (fun k => { k with fuses := k.fuses.set 0 { key := some 1 }, log := [{ seq := 1, cause := 3, bootCount := 1, repeats := 0, timeS := 0, uptimeMs := 0, detail := 0, value := 0 }], slots := #v[some prop0, none], policy := pimg })

/-- Data for the tests: PierImage. -/
def img0 : PierImage := { magic := 0x52504950, format := 1, fwSvn := 1, reserved := 0, fwRelease := 0x01000000, size := 65536, sigOk := true, badOffset := none, pledomMax := 0x32, trussMax := 0x22, schemaMax := 1, formatMax := 3 }

/-- A state for the tests. -/
def trial0 : State := withKeep (fun k => { k with slotA := { k.slotA with state := .trial, svn := 1 }, slotB := { k.slotB with state := .committed, svn := 1 }, commitS := some 5 })

/-- A state for the tests, changed in one place. -/
def rules (r : List PolicyRule) (s : State := sPics) : State := withKs (fun k => { k with policy := { shippedPolicy with overlays := [{ width := 64, height := 32, content := 0 }], rules := r } }) s

/-- Data for the tests: PolicyRule. -/
def rule0 : PolicyRule := { trigger := 2, overlay := 0, anchor := 0, margin := 0, tone := true }

/-- A state for the tests, changed in one place. -/
def withPwr (f : Power → Power) (s : State := sPics) : State := { s with pwr := f s.pwr }

/-- A state for the tests, changed in one place. -/
def withDomain (x : Domain) : State := withPwr (fun p => { p with domains := [(63, x)] })

/-- Data for the tests: PatCfg. -/
def pcfg : PatCfg := {}

/-- Data for the tests: Gen. -/
def gen1 : Gen := { label := 5, schema := 0, sizeKib := 1, savedS := 0, cfg := pcfg }

/-- A state for the tests, changed in one place. -/
def withPatt (f : Patterns → Patterns) (s : State := sPics) : State := { s with patt := f s.patt }

/-- A stored generation runs. -/
def sGen : State := withPatt (fun p => { p with gens := [(1, gen1)], highest := 1, running := 1 })

/-- Data for the tests: Seam. -/
def kc0 : Seam := { seam0 with state := .confirming, scope := some 0, t := 1000000000000, parts := [part0] }

/-- The pair has a certificate and mailbox 0 asks for it. -/
def sCert : State := asks rowKsCert (withKs (fun k => { k with cert := some (0, 1) }))

/-- The certificate fits the reply buffer. -/
theorem cert_takes : sCert.takes 0 rowKsCert (cmdFor rowKsCert) (40 + (Config.certificate 1).length) = true := by
  have hl : (cmdFor rowKsCert).hdr.replyLen.toNat = 4096 := by decide
  have hc := certificate_length 1
  have hd : (rowKsCert.effect (cmdFor rowKsCert) sCert).2.data.length = 40 + (Config.certificate 1).length := by
    show (le 32 (Config.fingerprint 1).toNat ++ le 8 (Config.certificate 1).length ++ Config.certificate 1).length = _
    rw [List.length_append, List.length_append]
    rfl
  have ht : State.tooLong (cmdFor rowKsCert) (rowKsCert.effect (cmdFor rowKsCert) sCert).2 = false := by
    simp only [State.tooLong, hd, hl, Bool.and_eq_false_iff, decide_eq_false_iff_not]; omega
  have ha : sCert.accepts 0 rowKsCert (cmdFor rowKsCert) = true := by
    unfold State.accepts
    rw [allChecks_room ht]
    decide +kernel
  unfold State.takes
  rw [ha, hl]
  simp
  omega

/-! ### Ill-formed commands -/

/-- Each check on a list's length refuses a list of another length. -/
theorem test_wf_lengths :
    Instr.wf (.sysEcho 0 (List.replicate 25 0)) = false ∧ Instr.wf (.commandFetch 0 (List.replicate 255 0)) = false ∧
    LegOffer.wf { offer0 with codecs := List.replicate 17 opus0 } = false ∧ LegOffer.wf { offer0 with localUfrag := List.replicate 64 0 } = false ∧
    LegOffer.wf { offer0 with localPwd := List.replicate 64 0 } = false ∧ LegOffer.wf { offer0 with remoteUfrag := List.replicate 64 0 } = false ∧
    LegOffer.wf { offer0 with remotePwd := List.replicate 64 0 } = false ∧ Instr.wf (.mixChain 0 0 { chain0 with bands := [] }) = false ∧
    Instr.wf (.schedPort 0 0 0 []) = false ∧ Instr.wf (.slotWrite true 0 []) = false ∧ Instr.wf (.stageWrite true 0 (List.replicate 129 0)) = false ∧
    Instr.wf (.keystoneSensorRead []) = false ∧ Instr.wf (.blockSelfTestDone 63 (List.replicate 65 0) true) = false ∧ Instr.wf (.holdSenseFall [1, 2]) = false ∧
    Instr.wf (.composeSlot 0 0 [4]) = false ∧ Instr.wf (.slotWrite true 16 [0]) = false := by
  decide +kernel

/-- A policy image whose tables are short is refused. -/
theorem test_wf_policy :
    PolicyImage.wf { shippedPolicy with permissions := [] } = false ∧ PolicyImage.wf { shippedPolicy with ctlGroup := [] } = false ∧ PolicyImage.wf { shippedPolicy with checkFixed := [] } = false ∧
    PolicyImage.wf { shippedPolicy with limitFixed := [] } = false ∧ PolicyImage.wf { shippedPolicy with laser := [] } = false := by
  decide +kernel

/-- Each check on an index refuses the first index that does not exist. -/
theorem test_wf_indices :
    Instr.wf (.confOriginTick 8192) = false ∧ Instr.wf (.stitchTick 8192) = false ∧ Instr.wf (.speakerWindow 8192 0) = false ∧ Instr.wf (.speakerChange 8192) = false ∧
    Instr.wf (.noticeTone 8192) = false ∧ Instr.wf (.encodeOverlapEnd 0 65536) = false ∧ Instr.wf (.gainStep (.leg 65536)) = false ∧ Instr.wf (.gainStepTimeout (.master 16384)) = false ∧
    GainPoint.wf (.route 0 16384) = false ∧ Instr.wf (.jbConcealLimit 65536) = false ∧ Instr.wf (.stunBindingRequest 65536 true true) = false ∧
    Instr.wf (.dtlsHandshakeDone 65536 true 0 0) = false ∧ Instr.wf (.connectTimeout 65536) = false ∧ Instr.wf (.consentLost 65536) = false ∧ Instr.wf (.closingDrainEnd 65536) = false ∧
    Instr.wf (.lineUpdate 65536) = false ∧ Instr.wf (.tmmbr 65536 0) = false ∧ Instr.wf (.rekeyDone 65536 true) = false ∧ Instr.wf (.rekeyTimeout 65536) = false ∧
    Instr.wf (.previousKeyErase 65536) = false ∧ Instr.wf (.videoPacketArrival 262144 vpkt0) = false ∧ Instr.wf (.keyRequestDeferred 262144) = false ∧
    Instr.wf (.rtcpFeedback 65536 rep0) = false ∧ Instr.wf (.rowActivate 16 0 0) = false ∧ Instr.wf (.refreshWindowEnd 16) = false ∧ Instr.wf (.zqCalibration 16) = false ∧
    Instr.wf (.periodicRetrain 16 0 true) = false ∧ Instr.wf (.patrolRead 16 0 .clean true) = false := by
  decide +kernel

/-! ### Witnesses of the statements: every clause has hypotheses that a state meets -/

/-- Hypotheses that `Obligations.MemoryFormKept` meets. -/
theorem test_MemoryFormKept_hyps :
    ∃ (s : State) (t : State), (s.memOk = true) ∧ (step s = .next t) :=
  ⟨sReady, _, by decide +kernel, rfl⟩

/-- Hypotheses that `Obligations.StepRunsFront` meets. -/
theorem test_StepRunsFront_hyps :
    ∃ (s : State) (i : Instr) (rest : List Instr), (s.pending = i :: rest) :=
  ⟨{ sReady with pending := [.sysInfo 0, .confCapacity 0] }, .sysInfo 0, [.confCapacity 0], by decide +kernel⟩

/-- Hypotheses that the clauses of `Obligations.NothingToDoChangesOnlyTime` meet. -/
theorem test_NothingToDoChangesOnlyTime_hyps :
    (∃ (s : State), (s.pending = [])) ∧
    (∃ (i : Instr) (m : Mbx) (row : Row) (s : State), (pledom i = some (m, row)) ∧ ((s.readyCmd m row.opcode).all (fun c => !row.reads c) = true)) :=
  ⟨⟨sReady, by decide +kernel⟩,
   ⟨.sysInfo 0, 0, rowSysInfo 0, sReady, rfl, by decide +kernel⟩⟩

/-- Hypotheses that `Obligations.QueueLosesItsFront` meets. -/
theorem test_QueueLosesItsFront_hyps :
    ∃ (s : State) (t : State), (step s = .next t) :=
  ⟨{ sReady with pending := [.sysInfo 0] }, _, rfl⟩

/-- Hypotheses that `Obligations.BytesOnlyDmaWrites` meets. -/
theorem test_BytesOnlyDmaWrites_hyps :
    ∃ (i : Instr) (s : State) (t : State), (exec i s = .next t) ∧ (dmaWrites i = false) :=
  ⟨.sysInfo 0, (asks (rowSysInfo 0) sReady), _, rfl, by decide +kernel⟩

/-- Hypotheses that the clauses of `Obligations.CommandsAreCheckedThenAct` meet. -/
theorem test_CommandsAreCheckedThenAct_hyps :
    (∃ (i : Instr) (m : Mbx) (row : Row) (s : State) (c : Cmd), (pledom i = some (m, row)) ∧ (s.accepts m row c = true) ∧ ((row.effect c s).2.later = true)) ∧
    (∃ (i : Instr) (m : Mbx) (row : Row) (s : State) (c : Cmd), (pledom i = some (m, row)) ∧ (s.accepts m row c = true) ∧ ((row.effect c s).2.later = false)) ∧
    (∃ (i : Instr) (m : Mbx) (row : Row) (s : State) (c : Cmd) (r : _), (pledom i = some (m, row)) ∧ (s.readyCmd m row.opcode = some c) ∧ (row.reads c = true) ∧ (s.verdict m c (row.allChecks c s) = some r)) ∧
    (∃ (i : Instr) (m : Mbx) (row : Row) (s : State) (c : Cmd) (r : _), (pledom i = some (m, row)) ∧ (s.readyCmd m row.opcode = some c) ∧ (row.reads c = true) ∧ (s.verdict m c (row.allChecks c s) = some r)) ∧
    (∃ (i : Instr) (m : Mbx) (row : Row) (s : State) (c : Cmd), (pledom i = some (m, row)) ∧ (s.readyCmd m row.opcode = some c) ∧ (row.reads c = true) ∧ (c.hdr.seam = 0xFFFF) ∧ ((row.checks c s).pre = none) ∧ (State.tooLong c (row.effect c s).2 = true)) ∧
    (∃ (i : Instr) (m : Mbx) (row : Row) (s : State) (t : State) (c : Cmd) (r : Rep) (x : Instr × Nat), (pledom i = some (m, row)) ∧ (s.accBaste m row c = true) ∧ (row.baste c s = (t, r, some x))) :=
  ⟨⟨.timeStep 0 0 1 2000 0, 0, rowTimeStep 0 1 2000 0 0, asks (rowTimeStep 0 1 2000 0 0) sLegs, cmdFor (rowTimeStep 0 1 2000 0 0), rfl, by decide +kernel, by decide +kernel⟩,
   ⟨.sysInfo 0, 0, rowSysInfo 0, asks (rowSysInfo 0) sReady, cmdFor (rowSysInfo 0), rfl, by decide +kernel, by decide +kernel⟩,
   ⟨.legClose 0 99, 0, rowLegClose 0 99, asks (rowLegClose 0 99) sLegs, cmdFor (rowLegClose 0 99), _, rfl, by decide +kernel, by decide +kernel, rfl⟩,
   ⟨.legClose 0 99, 0, rowLegClose 0 99, asks (rowLegClose 0 99) sLegs, cmdFor (rowLegClose 0 99), _, rfl, by decide +kernel, by decide +kernel, rfl⟩,
   ⟨.confCapacity 0, 0, rowConfCapacity, boxed sReady 0 { box0 with inflight := [cmdDirect] }, cmdDirect, rfl, by decide +kernel, by decide +kernel, by decide +kernel, by decide +kernel, by decide +kernel⟩,
   ⟨.confSet 0 0 4 false false 0, 0, rowConfSet 0 0 4 false false 0, sSeam, basted.1, cmdBasted, basted.2.1, basted.2.2.getD (.sysInfo 0, 0), rfl, by decide +kernel, basted_parts⟩⟩

/-- Hypotheses that the clauses of `Obligations.MailboxesServe` meet. -/
theorem test_MailboxesServe_hyps :
    (∃ (s : State) (m : Mbx), (m ≠ 16) ∧ ((s.box m).halted = false) ∧ ((s.box m).enable = false) ∧ ((s.box m).quiesced = true)) ∧
    (∃ (s : State) (m : Mbx), (m ≠ 16) ∧ ((s.box m).halted = false) ∧ ((s.box m).enable = false) ∧ ((s.box m).quiesced = false) ∧ (s.boot.ready = false)) ∧
    (∃ (s : State) (m : Mbx), (m ≠ 16) ∧ ((s.box m).halted = false) ∧ ((s.box m).enable = false) ∧ ((s.box m).quiesced = false) ∧ (s.boot.ready = true) ∧ (s.serves m = true) ∧ (9 ≤ (s.box m).cfg.toNat % 16) ∧ ((s.box m).cfg.toNat % 16 ≤ 14) ∧ ((s.box m).cmdBase.toNat % 4096 = 0) ∧ ((s.box m).cplBase.toNat % 4096 = 0)) ∧
    (∃ (s : State) (m : Mbx), (m ≠ 16) ∧ ((s.box m).halted = false) ∧ ((s.box m).enable = false) ∧ ((s.box m).quiesced = false) ∧ (s.boot.ready = true) ∧ (s.serves m = true) ∧ ((s.box m).cfg.toNat % 16 < 9 ∨ 14 < (s.box m).cfg.toNat % 16 ∨ (s.box m).cmdBase.toNat % 4096 ≠ 0 ∨ (s.box m).cplBase.toNat % 4096 ≠ 0)) ∧
    (∃ (s : State) (m : Mbx), (m ≠ 16) ∧ ((s.box m).halted = false) ∧ ((s.box m).running = true) ∧ ((s.box m).quiesced = false)) ∧
    (∃ (s : State) (m : Mbx), (m ≠ 16) ∧ ((s.box m).quiesced = true) ∧ ((s.box m).running = true) ∧ ((s.box m).inFlight = 0) ∧ ((s.box m).waiting = [])) ∧
    (∃ (s : State) (m : Mbx), (m ≠ 16)) ∧
    (∃ (s : State) (m : Mbx) (v : U32), (m ≠ 16) ∧ ((s.box m).halted = false) ∧ ((s.box m).running = true) ∧ ((v.toNat % 512 + 512 - (s.box m).cmdHead) % 512 ≤ 256) ∧ ((v.toNat % 512 + 512 - (s.box m).pi) % 512 ≤ 256)) ∧
    (∃ (s : State) (m : Mbx) (v : U32), (m ≠ 16) ∧ ((s.box m).halted = false) ∧ ((s.box m).running = true) ∧ (256 < (v.toNat % 512 + 512 - (s.box m).cmdHead) % 512 ∨ 256 < (v.toNat % 512 + 512 - (s.box m).pi) % 512)) ∧
    (∃ (s : State) (m : Mbx) (v : U32), (m ≠ 16) ∧ ((s.box m).halted = false) ∧ ((s.box m).running = true ∨ (s.box m).quiesced = true)) ∧
    (∃ (s : State) (m : Mbx) (completion : Bool), (m ≠ 16) ∧ ((s.box m).running = true ∨ (s.box m).quiesced = true)) ∧
    (∃ (s : State) (m : Mbx), (m ≠ 16) ∧ ((s.box m).irqHeld = true) ∧ (s.inHoldoff m = false)) ∧
    (∃ (s : State) (off : U8) (d : Bytes), (s.boot.ready = true) ∧ (d.length ≠ 0) ∧ (d.length ≤ 128) ∧ (16 * off.toNat + d.length ≤ 256)) ∧
    (∃ (s : State), (s.boot.ready = true) ∧ (s.pl.smb.queue.length < 256)) ∧
    (∃ (s : State), (s.boot.ready = true) ∧ (256 ≤ s.pl.smb.queue.length)) ∧
    (∃ (s : State) (e : _) (r : _), (s.boot.ready = true) ∧ ((s.box 16).ring = e :: r)) ∧
    (∃ (s : State), (s.boot.ready = true)) ∧
    (∃ (s : State) (off : U16) (d : Bytes), (s.boot.ready = true) ∧ (d.length ≠ 0) ∧ (d.length ≤ 128) ∧ (off.toNat + d.length ≤ 4096)) ∧
    (∃ (s : State) (off : U16), (s.boot.ready = true)) ∧
    (∃ (s : State), (s.boot.ready = true) ∧ (s.pins.smbAlert = true)) ∧
    (∃ (s : State) (i : Instr), (s.boot.ready = true) ∧ ((∃ off d, i = .slotWrite false off d) ∨ i = .slotSubmit false ∨ i = .cplRead false ∨ i = .smbusStatus false ∨ (∃ off d, i = .stageWrite false off d) ∨ (∃ off, i = .replyRead false off))) :=
  ⟨⟨withBox { quiesced := true, running := true }, 0, by decide +kernel, by decide +kernel, by decide +kernel, by decide +kernel⟩,
   ⟨boxed {} 0 {}, 0, by decide +kernel, by decide +kernel, by decide +kernel, by decide +kernel, by decide +kernel⟩,
   ⟨withBox {}, 0, by decide +kernel, by decide +kernel, by decide +kernel, by decide +kernel, by decide +kernel, by decide +kernel, by decide +kernel, by decide +kernel, by decide +kernel, by decide +kernel⟩,
   ⟨withBox { cfg := 8 }, 0, by decide +kernel, by decide +kernel, by decide +kernel, by decide +kernel, by decide +kernel, by decide +kernel, .inl (by decide)⟩,
   ⟨sReady, 0, by decide +kernel, by decide +kernel, by decide +kernel, by decide +kernel⟩,
   ⟨withBox { quiesced := true, running := true }, 0, by decide +kernel, by decide +kernel, by decide +kernel, by decide +kernel, by decide +kernel⟩,
   ⟨sReady, 0, by decide +kernel⟩,
   ⟨withBox { box0 with pi := 0, cmdHead := 0 }, 0, 256, by decide +kernel, by decide +kernel, by decide +kernel, by decide +kernel, by decide +kernel⟩,
   ⟨withBox { box0 with pi := 0, cmdHead := 0 }, 0, 257, by decide +kernel, by decide +kernel, by decide +kernel, .inl (by decide)⟩,
   ⟨sReady, 0, 0, by decide +kernel, by decide +kernel, .inl (by decide)⟩,
   ⟨sReady, 0, true, by decide +kernel, .inl (by decide)⟩,
   ⟨withBox { box0 with irqHeld := true }, 0, by decide +kernel, by decide +kernel, by decide +kernel⟩,
   ⟨sReady, 15, List.replicate 16 7, by decide +kernel, by decide +kernel, by decide +kernel, by decide +kernel⟩,
   ⟨sReady, by decide +kernel, by decide +kernel⟩,
   ⟨{ sReady with pl := { sReady.pl with smb := { queue := List.replicate 256 [] } } }, by decide +kernel, by decide +kernel⟩,
   ⟨sSmb { box0 with ring := [entry0] }, entry0, [], by decide +kernel, by decide +kernel⟩,
   ⟨sReady, by decide +kernel⟩,
   ⟨sReady, 4090, [1, 2, 3, 4, 5, 6], by decide +kernel, by decide +kernel, by decide +kernel, by decide +kernel⟩,
   ⟨sReady, 4000, by decide +kernel⟩,
   ⟨{ sReady with pins := { sReady.pins with smbAlert := true } }, by decide +kernel, by decide +kernel⟩,
   ⟨sReady, .smbusStatus false, by decide +kernel, Or.inr (Or.inr (Or.inr (Or.inl rfl)))⟩⟩

/-- Hypotheses that the clauses of `Obligations.FetchingTakesTurns` meet. -/
theorem test_FetchingTakesTurns_hyps :
    (∃ (s : State) (m : Mbx) (slot : Bytes) (request : Bytes) (err : Fin 3), (s.nextTurn = some m) ∧ (m ≠ 16) ∧ (s.pwr.asleep = false)) ∧
    (∃ (s : State) (m : Mbx) (slot : Bytes) (request : Bytes) (err : Fin 3) (raw : _) (rest : _), (s.nextTurn = some 16) ∧ (s.pl.smb.queue = raw :: rest) ∧ (s.pwr.asleep = false)) ∧
    (∃ (s : State) (m : Mbx) (slot : Bytes) (request : Bytes) (err : Fin 3) (c : _), ((s.box m).inflight.find? (fun c => c.stage == .fenced) = some c) ∧ ((s.box m).inflight.any (fun d => decide (d.seq < c.seq)) = false)) ∧
    (∃ (s : State) (t : State) (m : Mbx) (slot : Bytes) (request : Bytes) (reserve : Bool) (h : SlotHdr) (c : Cmd), ((s.box m).inflight = []) ∧ (h = State.readHeader (s.box m) (State.parseSlot slot)) ∧ (c = { seq := s.pl.nextSeq, hdr := h, req := s.requestOf m h slot request, stage := .fenced, fromReserve := reserve }) ∧ (s.headerCheck m c = none) ∧ (t = s.fetch m slot request 0 reserve)) :=
  ⟨⟨withBox { box0 with pi := 2 }, 0, List.replicate 256 0, [], 0, by decide +kernel, by decide +kernel, by decide +kernel⟩,
   ⟨{ sSmb { box0 with pi := 2 } with pl := { (sSmb { box0 with pi := 2 }).pl with smb := { queue := [List.replicate 256 0] } } }, 0, [], [], 0, List.replicate 256 0, [], by decide +kernel, rfl, by decide +kernel⟩,
   ⟨withBox { box0 with inflight := [{ cmdOf 2 with stage := .fenced }] }, 0, [], [], 0, _, rfl, by decide +kernel⟩,
   ⟨sReady, _, 0, slot2, [], false, _, _, by decide +kernel, rfl, rfl, by decide +kernel, rfl⟩⟩

/-- Hypotheses that the clauses of `Obligations.SysCommandsComplete` meet. -/
theorem test_SysCommandsComplete_hyps :
    (∃ (s : State) (m : Mbx) (c : Cmd) (lo : U8) (hi : U8) (v : Nat) (u : State) (t : State), (s.takes m (rowSysHello m lo hi) c 24 = true) ∧ (commonVersion lo.toNat (min hi.toNat u.pledomMax) = some v) ∧ (u = (if (s.box m).session.isSome then s.endSession m else s)) ∧ (t = u.setBox m { u.box m with session := some (BitVec.ofNat 8 v), subs := [], helloSeen := true, held := [] })) ∧
    (∃ (s : State) (m : Mbx) (c : Cmd) (lo : U8) (hi : U8) (u : State), (s.takes m (rowSysHello m lo hi) c 24 = true) ∧ (u = (if (s.box m).session.isSome then s.endSession m else s)) ∧ (commonVersion lo.toNat (min hi.toNat u.pledomMax) = none)) ∧
    (∃ (s : State) (m : Mbx) (c : Cmd) (family : U8) (mode : U8) (select : U32), (s.takes m (rowSysSubscribe m family mode select) c 4 = true)) ∧
    (∃ (s : State) (m : Mbx) (c : Cmd), (s.takes m (rowSysInfo m) c 24 = true)) ∧
    (∃ (s : State) (m : Mbx) (c : Cmd) (data : _), (s.takes m (rowSysEcho data) c 24 = true)) ∧
    (∃ (s : State) (m : Mbx) (c : Cmd), (s.takes m (rowSysGoodbye m) c 0 = true)) ∧
    (∃ (s : State) (m : Mbx) (c : Cmd) (clear : _), (s.takes m (rowSysCounters m clear) c 24 = true)) :=
  ⟨⟨(asks (rowSysHello (0 : Mbx) (0x14 : U8) (0x32 : U8)) sReady), 0, (cmdFor (rowSysHello (0 : Mbx) (0x14 : U8) (0x32 : U8))), 0x14, 0x32, 0x32, _, _, by decide +kernel, by decide +kernel, rfl, rfl⟩,
   ⟨(asks (rowSysHello (0 : Mbx) (0x40 : U8) (0x41 : U8)) sReady), 0, (cmdFor (rowSysHello (0 : Mbx) (0x40 : U8) (0x41 : U8))), 0x40, 0x41, _, by decide +kernel, rfl, by decide +kernel⟩,
   ⟨(asks (rowSysSubscribe (0 : Mbx) (3 : U8) (0 : U8) (1 : U32)) sReady), 0, (cmdFor (rowSysSubscribe (0 : Mbx) (3 : U8) (0 : U8) (1 : U32))), 3, 0, 1, by decide +kernel⟩,
   ⟨(asks (rowSysInfo (0 : Mbx)) sReady), 0, (cmdFor (rowSysInfo (0 : Mbx))), by decide +kernel⟩,
   ⟨(asks (rowSysEcho ([1, 2])) sReady), 0, (cmdFor (rowSysEcho ([1, 2]))), [1, 2], by decide +kernel⟩,
   ⟨(asks (rowSysGoodbye (0 : Mbx)) sReady), 0, (cmdFor (rowSysGoodbye (0 : Mbx))), by decide +kernel⟩,
   ⟨(asks (rowSysCounters (0 : Mbx) (true)) sReady), 0, (cmdFor (rowSysCounters (0 : Mbx) (true))), true, by decide +kernel⟩⟩

/-- Hypotheses that `Obligations.CompletionWritesOneEntry` meets. -/
theorem test_CompletionWritesOneEntry_hyps :
    ∃ (s : State) (m : Mbx) (c : Cmd) (r : Rep), (c.orphan = false) ∧ ((s.box m).waiting = []) ∧ ((s.box m).free ≠ 0) ∧ ((s.box m).lostCount = 0) :=
  ⟨asks (rowSysInfo 0) sReady, 0, cmdFor (rowSysInfo 0), Rep.ok [], by decide +kernel, by decide +kernel, by decide +kernel, by decide +kernel⟩

/-- Hypotheses that the clauses of `Obligations.TimeActs` meet. -/
theorem test_TimeActs_hyps :
    (∃ (s : State) (m : Mbx) (c : Cmd) (base : U8) (source : U8) (trackS : U8) (b : Fin 4) (t : State) (u : State), (baseOf base = some b) ∧ (s.takes m (rowTimeBase base true source trackS) c 0 = true) ∧ (t = s.modBase b (fun t => { (if t.enabled then t else t.start) with source, trackS := if trackS = 0 then 16 else trackS.toNat, lockRun := 0 })) ∧ (u = (if (s.base b).enabled then t else t.repps b))) ∧
    (∃ (s : State) (m : Mbx) (c : Cmd) (base : U8) (source : U8) (trackS : U8) (b : Fin 4), (baseOf base = some b) ∧ (s.takes m (rowTimeBase base false source trackS) c 0 = true)) ∧
    (∃ (s : State) (m : Mbx) (c : Cmd) (base : U8) (value : U64) (frac : U32) (b : Fin 4), (baseOf base = some b) ∧ (s.takes m (rowTimeStep base 0 value frac m) c 16 = true)) ∧
    (∃ (s : State) (m : Mbx) (c : Cmd) (base : U8) (value : U64) (frac : U32) (b : Fin 4), (baseOf base = some b) ∧ (s.accepts m (rowTimeStep base 1 value frac m) c = true)) ∧
    (∃ (s : State) (m : Mbx) (c : Cmd) (base : U8) (adj : U32) (b : Fin 4), (baseOf base = some b) ∧ (s.takes m (rowTimeRate base adj) c 8 = true)) ∧
    (∃ (s : State) (m : Mbx) (c : Cmd) (base : U8) (b : Fin 4), (baseOf base = some b) ∧ (s.takes m (rowTimeUnlock base m) c 0 = true)) ∧
    (∃ (s : State) (m : Mbx) (c : Cmd), (s.takes m rowTimeRead c 64 = true)) ∧
    (∃ (s : State) (m : Mbx) (c : Cmd) (outEnable : Bool) (inEnable : Bool) (outBase : U8) (widthMs : U16) (offsetNs : U32) (b : Fin 4), (baseOf outBase = some b) ∧ (s.takes m (rowTimePps outEnable inEnable outBase widthMs offsetNs) c 0 = true)) ∧
    (∃ (s : State) (m : Mbx) (c : Cmd) (q : PtpReq), (s.takes m (rowTimePtp q) c 0 = true) ∧ (q.profile = 0)) ∧
    (∃ (s : State) (m : Mbx) (c : Cmd) (q : PtpReq), (s.takes m (rowTimePtp q) c 0 = true) ∧ (q.profile ≠ 0)) ∧
    (∃ (s : State) (m : Mbx) (c : Cmd), (s.takes m rowTimeQuery c 96 = true)) ∧
    (∃ (s : State) (b : Fin 4), ((s.base b).enabled = true) ∧ (s.boot.stage ≠ .held)) ∧
    (∃ (s : State) (b : Fin 4) (phase : Int) (present : Bool), ((s.base b).enabled = true) ∧ ((s.base b).source ≠ 0) ∧ (s.heldToPrimary b.val = false) ∧ (sourcePresent s b present = true) ∧ ((s.base b).armed = false)) ∧
    (∃ (s : State) (b : Fin 4) (phase : Int) (present : Bool), ((s.base b).enabled = true) ∧ ((s.base b).source ≠ 0) ∧ (s.heldToPrimary b.val = false) ∧ (sourcePresent s b present = false) ∧ ((s.base b).servo ≠ .free)) ∧
    (∃ (s : State), (s.time.pps.inEnable = true) ∧ (s.time.pps.lastIn = none) ∧ (s.time.absStep = none)) ∧
    (∃ (s : State) (t : _), (s.time.pps.inEnable = true) ∧ (s.time.pps.lastIn = some t) ∧ (s.clk < t + 500 * State.ticksPerMs)) ∧
    (∃ (s : State) (b : _), (ppsDue s = true) ∧ (baseOf (BitVec.ofNat 8 s.time.pps.outBase) = some b)) ∧
    (∃ (s : State) (t : _), (s.time.pps.lastOut = some t) ∧ (t + s.time.pps.widthMs * State.ticksPerMs ≤ s.clk)) ∧
    (∃ (s : State) (hz : Nat) (ms : Nat), (tsRefclkOk hz = true) ∧ (100 ≤ ms)) ∧
    (∃ (s : State) (quietNs : Nat), (10000 ≤ quietNs)) ∧
    (∃ (s : State) (a : _), (s.time.absStep = some a) ∧ (a.until_ ≤ s.clk)) ∧
    (∃ (s : State) (i : U8) (p : PtpPort), ((s.iface i.toNat).bind (·.ptp) = some p) ∧ (p.req.role ≠ 1) ∧ ((s.ptpStamps (fin2 (i.toNat / 4))).net.slaveIface = none)) ∧
    (∃ (s : State) (i : U8) (p : PtpPort) (g : _), ((s.iface i.toNat).bind (·.ptp) = some p) ∧ ((s.iface i.toNat) = some g) ∧ ((s.ptpStamps (fin2 (i.toNat / 4))).iface i.toNat = some g) ∧ (p.state = .slave ∨ p.state = .uncalibrated)) ∧
    (∃ (s : State) (i : U8) (p : PtpPort), ((s.iface i.toNat).bind (·.ptp) = some p)) ∧
    (∃ (s : State) (i : U8) (p : PtpPort), ((s.iface i.toNat).bind (·.ptp) = some p) ∧ (p.state = .master)) ∧
    (∃ (s : State) (i : U8) (p : PtpPort), ((s.iface i.toNat).bind (·.ptp) = some p) ∧ (p.state = .master)) ∧
    (∃ (s : State) (i : U8) (p : PtpPort), ((s.iface i.toNat).bind (·.ptp) = some p) ∧ (p.state = .master)) ∧
    (∃ (s : State) (i : U8) (p : PtpPort), ((s.iface i.toNat).bind (·.ptp) = some p) ∧ (p.state = .slave)) ∧
    (∃ (s : State) (i : U8) (p : PtpPort), ((s.iface i.toNat).bind (·.ptp) = some p) ∧ (p.state ≠ .master) ∧ (p.lastAnnounce + ptpTimeout p.req * announceTicks p.req ≤ s.clk)) :=
  ⟨⟨(asks (rowTimeBase (1 : U8) true (2 : U8) (0 : U8)) sLegs), 0, (cmdFor (rowTimeBase (1 : U8) true (2 : U8) (0 : U8))), 1, 2, 0, 1, _, _, by decide +kernel, by decide +kernel, rfl, rfl⟩,
   ⟨(asks (rowTimeBase (1 : U8) false (0 : U8) (0 : U8)) sLegs), 0, (cmdFor (rowTimeBase (1 : U8) false (0 : U8) (0 : U8))), 1, 0, 0, 1, by decide +kernel, by decide +kernel⟩,
   ⟨(asks (rowTimeStep (3 : U8) 0 (5 : U64) (0 : U32) (0 : Mbx)) sReady), 0, (cmdFor (rowTimeStep (3 : U8) 0 (5 : U64) (0 : U32) (0 : Mbx))), 3, 5, 0, 3, by decide +kernel, by decide +kernel⟩,
   ⟨(asks (rowTimeStep (0 : U8) 1 (2000 : U64) (0 : U32) (0 : Mbx)) sLegs), 0, (cmdFor (rowTimeStep (0 : U8) 1 (2000 : U64) (0 : U32) (0 : Mbx))), 0, 2000, 0, 0, by decide +kernel, by decide +kernel⟩,
   ⟨(asks (rowTimeRate (0 : U8) (100 : U32)) sLegs), 0, (cmdFor (rowTimeRate (0 : U8) (100 : U32))), 0, 100, 0, by decide +kernel, by decide +kernel⟩,
   ⟨(asks (rowTimeUnlock (3 : U8) (0 : Mbx)) sLegs), 0, (cmdFor (rowTimeUnlock (3 : U8) (0 : Mbx))), 3, 3, by decide +kernel, by decide +kernel⟩,
   ⟨(asks rowTimeRead sLegs), 0, (cmdFor rowTimeRead), by decide +kernel⟩,
   ⟨(asks (rowTimePps (true : Bool) (true : Bool) (0 : U8) (100 : U16) (0 : U32)) sLegs), 0, (cmdFor (rowTimePps (true : Bool) (true : Bool) (0 : U8) (100 : U16) (0 : U32))), true, true, 0, 100, 0, 0, by decide +kernel, by decide +kernel⟩,
   ⟨(asks (rowTimePtp ({ ptp0 with profile := 0 } : PtpReq)) sNet), 0, (cmdFor (rowTimePtp ({ ptp0 with profile := 0 } : PtpReq))), { ptp0 with profile := 0 }, by decide +kernel, by decide +kernel⟩,
   ⟨(asks (rowTimePtp ({ ptp0 with profile := 3 } : PtpReq)) sNet), 0, (cmdFor (rowTimePtp ({ ptp0 with profile := 3 } : PtpReq))), { ptp0 with profile := 3 }, by decide +kernel, by decide +kernel⟩,
   ⟨(asks rowTimeQuery sLegs), 0, (cmdFor rowTimeQuery), by decide +kernel⟩,
   ⟨sReady, 0, by decide +kernel, by decide +kernel⟩,
   ⟨withBase2 0 { enabled := true, source := 5 }, 0, 5, true, by decide +kernel, by decide +kernel, by decide +kernel, by decide +kernel, by decide +kernel⟩,
   ⟨withBase2 0 { enabled := true, source := 3, servo := .locked }, 0, 5, false, by decide +kernel, by decide +kernel, by decide +kernel, by decide +kernel, by decide +kernel⟩,
   ⟨withPpsUnit { inEnable := true }, by decide +kernel, by decide +kernel, by decide +kernel⟩,
   ⟨withPpsUnit { inEnable := true, lastIn := some 312400000000 }, 312400000000, by decide +kernel, by decide +kernel, by decide +kernel⟩,
   ⟨withPpsUnit { outEnable := true }, 0, by decide +kernel, by decide +kernel⟩,
   ⟨withPpsUnit { outEnable := true, lastOut := some 1000 }, 1000, by decide +kernel, by decide +kernel⟩,
   ⟨sReady, 10000500, 100, by decide +kernel, by decide +kernel⟩,
   ⟨sReady, 10000, by decide +kernel⟩,
   ⟨{ sReady with time := { sReady.time with absStep := some { mbx := 0, seq := 1, base := 0, sec := 5, until_ := 9 } } }, ({ mbx := 0, seq := 1, base := 0, sec := 5, until_ := 9 } : AbsStep), by decide +kernel, by decide +kernel⟩,
   ⟨withPtp { req := ptp0, portId := [], state := .listening }, 0, { req := ptp0, portId := [], state := .listening }, by decide +kernel, by decide +kernel, by decide +kernel⟩,
   ⟨withPtp { req := ptp0, portId := [], state := .slave }, 0, { req := ptp0, portId := [], state := .slave }, { ifc0 with ptp := some { req := ptp0, portId := [], state := .slave } }, by decide +kernel, by decide +kernel, by decide +kernel, .inl rfl⟩,
   ⟨withPtp { req := ptp0, portId := [], state := .listening }, 0, { req := ptp0, portId := [], state := .listening }, by decide +kernel⟩,
   ⟨withPtp { req := ptp0, portId := [], state := .master }, 0, { req := ptp0, portId := [], state := .master }, by decide +kernel, by decide +kernel⟩,
   ⟨withPtp { req := ptp0, portId := [], state := .master }, 0, { req := ptp0, portId := [], state := .master }, by decide +kernel, by decide +kernel⟩,
   ⟨withPtp { req := ptp0, portId := [], state := .master }, 0, { req := ptp0, portId := [], state := .master }, by decide +kernel, by decide +kernel⟩,
   ⟨withPtp { req := ptp0, portId := [], state := .slave }, 0, { req := ptp0, portId := [], state := .slave }, by decide +kernel, by decide +kernel⟩,
   ⟨withPtp { req := ptp0, portId := [], state := .slave }, 0, { req := ptp0, portId := [], state := .slave }, by decide +kernel, by decide +kernel, by decide +kernel⟩⟩

/-- Hypotheses that `Obligations.TimeBasesCountExactly` meets. -/
theorem test_TimeBasesCountExactly_hyps :
    ∃ (b : TimeBase), (b.ns.toNat < 1000000000) :=
  ⟨{}, by decide +kernel⟩

/-- Hypotheses that the clauses of `Obligations.NetworkActs` meet. -/
theorem test_NetworkActs_hyps :
    (∃ (s : State) (m : Mbx) (c : Cmd) (port : U8) (split : U8), (s.takes m (rowNetPort port split m) c 0 = true) ∧ ((s.port (fin2 port.toNat)).split = split.toNat)) ∧
    (∃ (s : State) (m : Mbx) (c : Cmd) (port : U8), (s.takes m (rowNetPort port 0 m) c 0 = true) ∧ ((s.port (fin2 port.toNat)).split ≠ 0)) ∧
    (∃ (s : State) (m : Mbx) (c : Cmd) (port : U8) (split : U8), (s.accepts m (rowNetPort port split m) c = true) ∧ ((s.port (fin2 port.toNat)).split ≠ split.toNat) ∧ (split ≠ 0)) ∧
    (∃ (s : State) (m : Mbx) (c : Cmd) (q : IfaceReq) (t : State), (s.takes m (rowNetIface q) c 0 = true) ∧ (t = s.modIface q.iface.toNat (fun f => if q.enable then f.set_ q c.hdr.version (s.splitOf q.iface.toNat) else { f.set_ q c.hdr.version (s.splitOf q.iface.toNat) with link := false, pauseDue := none }))) ∧
    (∃ (s : State) (m : Mbx) (c : Cmd) (iface : U8) (kind : U8) (mode : U8) (af : U8) (a : U128) (n : U8), (s.takes m (rowNetAddr m iface kind mode af a n) c 0 = true)) ∧
    (∃ (s : State) (m : Mbx) (c : Cmd) (port : U8) (mode : U8) (a : BitVec 48), (s.takes m (rowNetGroup m port mode a) c 4 = true)) ∧
    (∃ (s : State) (m : Mbx) (c : Cmd) (iface : U8) (mode : U8) (af : U8) (n : U8) (pfx : U128) (gw : U128), (s.takes m (rowNetRoute m iface mode af n pfx gw) c 0 = true)) ∧
    (∃ (s : State) (m : Mbx) (c : Cmd) (iface : U8) (f : Iface), (s.takes m (rowNetQuery iface false) c 184 = true) ∧ (f = (s.iface iface.toNat).getD {})) ∧
    (∃ (s : State) (m : Mbx) (c : Cmd) (iface : U8) (f : Iface), (s.takes m (rowNetQuery iface true) c 184 = true) ∧ (f = (s.iface iface.toNat).getD {})) ∧
    (∃ (s : State) (i : U8) (f : Iface), (s.iface i.toNat = some f) ∧ (f.enable = true) ∧ (f.link = false)) ∧
    (∃ (s : State) (i : U8) (f : Iface), (s.iface i.toNat = some f) ∧ (f.link = true)) ∧
    (∃ (s : State) (p : Fin 2) (m : Mbx) (seq : Nat), ((s.port p).initFor = some (m, seq))) ∧
    (∃ (s : State) (t : TxFrame), (t.level = none)) ∧
    (∃ (s : State) (t : TxFrame) (k : _), (t.level = some k)) ∧
    (∃ (s : State) (p : Fin 2) (g : GateList), ((s.port p).running = some g) ∧ (g.cycleNs ≠ 0) ∧ (g.startNs ≤ s.chipNs)) ∧
    (∃ (s : State) (p : Fin 2) (g : GateList), ((s.port p).pending = some g) ∧ (g.startNs ≤ s.chipNs)) ∧
    (∃ (s : State) (m : Mbx) (c : Cmd) (port : U8) (change : BitVec 9) (levels : List LevelReq), (s.takes m (rowSchedPort m port change levels) c 0 = true)) ∧
    (∃ (s : State) (m : Mbx) (c : Cmd) (q : SchedLegReq), (s.takes m (rowSchedLeg m q) c 0 = true)) ∧
    (∃ (s : State) (m : Mbx) (c : Cmd) (q : GateReq) (id : U16) (u : State), (s.takes m (rowSchedGate m q) c 20 = true) ∧ (s.takeListId (fin2 q.port.toNat) = (id, u))) ∧
    (∃ (s : State) (m : Mbx) (c : Cmd) (leg : U16) (clear : Bool), (s.takes m (rowSchedQuery leg clear) c 160 = true)) ∧
    (∃ (s : State) (m : Mbx) (c : Cmd) (port : U8) (k : Fin 8), (s.takes m (rowSchedPortq port (BitVec.ofNat 8 k.val) false) c 160 = true)) ∧
    (∃ (s : State) (m : Mbx) (c : Cmd) (port : U8) (k : Fin 8) (data : Bytes), (s.takes m (rowSchedPortq port (BitVec.ofNat 8 k.val) true) c 160 = true) ∧ (data = le 4 (total (s.net.ifaces.filter (fun f => f.1 / 4 == (fin2 port.toNat).val)) (fun f => queued (f.2.fifos.get k).frames)) ++ le 2 ((s.port (fin2 port.toNat)).running.elim 0xFFFF (·.id.toNat)) ++ le 2 ((s.port (fin2 port.toNat)).pending.elim 0xFFFF (·.id.toNat)) ++ le 4 ((s.port (fin2 port.toNat)).drops.get k).toNat ++ le 20 0 ++ histBytes ((s.port (fin2 port.toNat)).depthHist.get k) ((s.port (fin2 port.toNat)).sojournHist.get k))) :=
  ⟨⟨(asks (rowNetPort (0 : U8) (1 : U8) (0 : Mbx)) sLegs), 0, (cmdFor (rowNetPort (0 : U8) (1 : U8) (0 : Mbx))), 0, 1, by decide +kernel, by decide +kernel⟩,
   ⟨(asks (rowNetPort (1 : U8) 0 (0 : Mbx)) (State.modPort sLegs 1 (fun p => { p with split := 1 }))), 0, (cmdFor (rowNetPort (1 : U8) 0 (0 : Mbx))), 1, by decide +kernel, by decide +kernel⟩,
   ⟨(asks (rowNetPort (1 : U8) (1 : U8) (0 : Mbx)) sLegs), 0, (cmdFor (rowNetPort (1 : U8) (1 : U8) (0 : Mbx))), 1, 1, by decide +kernel, by decide +kernel, by decide +kernel⟩,
   ⟨(asks (rowNetIface (ifq0 : IfaceReq)) sNet), 0, (cmdFor (rowNetIface (ifq0 : IfaceReq))), ifq0, _, by decide +kernel, rfl⟩,
   ⟨(asks (rowNetAddr (0 : Mbx) (0 : U8) (1 : U8) (0 : U8) (4 : U8) ((ip 0x0A000009) : U128) (24 : U8)) sNet), 0, (cmdFor (rowNetAddr (0 : Mbx) (0 : U8) (1 : U8) (0 : U8) (4 : U8) ((ip 0x0A000009) : U128) (24 : U8))), 0, 1, 0, 4, (ip 0x0A000009), 24, by decide +kernel⟩,
   ⟨(asks (rowNetGroup (0 : Mbx) (1 : U8) (0 : U8) (0x01005E000001 : BitVec 48)) sNet), 0, (cmdFor (rowNetGroup (0 : Mbx) (1 : U8) (0 : U8) (0x01005E000001 : BitVec 48))), 1, 0, 0x01005E000001, by decide +kernel⟩,
   ⟨(asks (rowNetRoute (0 : Mbx) (0 : U8) (0 : U8) (4 : U8) (8 : U8) ((ip 0x0B000000) : U128) ((ip 0x0A000002) : U128)) sNet), 0, (cmdFor (rowNetRoute (0 : Mbx) (0 : U8) (0 : U8) (4 : U8) (8 : U8) ((ip 0x0B000000) : U128) ((ip 0x0A000002) : U128))), 0, 0, 4, 8, (ip 0x0B000000), (ip 0x0A000002), by decide +kernel⟩,
   ⟨(asks (rowNetQuery (0 : U8) false) sNet), 0, (cmdFor (rowNetQuery (0 : U8) false)), 0, _, by decide +kernel, rfl⟩,
   ⟨(asks (rowNetQuery (0 : U8) true) sNet), 0, (cmdFor (rowNetQuery (0 : U8) true)), 0, _, by decide +kernel, rfl⟩,
   ⟨withIface sReady { ifc0 with link := false }, 0, _, rfl, by decide +kernel, by decide +kernel⟩,
   ⟨sNet, 0, _, rfl, by decide +kernel⟩,
   ⟨(port0 sLegs (fun p => { p with initFor := some (0, 1) })), 0, 0, 1, by decide +kernel⟩,
   ⟨sLegs, { length := 100, level := none, leg := 0, iface := 0, nextHopResolved := true }, by decide +kernel⟩,
   ⟨sLegs, { length := 100, level := some 3, leg := 0, iface := 0, nextHopResolved := true }, 3, by decide +kernel⟩,
   ⟨(port0 sLegs (fun p => { p with running := some { id := 0, enable := true, cycleNs := 1000, entries := [{ gates := 255, intervalNs := 1000 }], baseNs := 0, startNs := 0 } })), 0, { id := 0, enable := true, cycleNs := 1000, entries := [{ gates := 255, intervalNs := 1000 }], baseNs := 0, startNs := 0 }, by decide +kernel, by decide +kernel, by decide +kernel⟩,
   ⟨(port0 sLegs (fun p => { p with pending := some { id := 0, enable := true, cycleNs := 1000, entries := [{ gates := 255, intervalNs := 1000 }], baseNs := 0, startNs := 0 } })), 0, { id := 0, enable := true, cycleNs := 1000, entries := [{ gates := 255, intervalNs := 1000 }], baseNs := 0, startNs := 0 }, by decide +kernel, by decide +kernel⟩,
   ⟨(asks (rowSchedPort (0 : Mbx) (0 : U8) (1 : BitVec 9) (List.replicate 9 { tc := 1, pcp := 1, dscp := 0, limitKib := 512, rate := 0 } : List LevelReq)) sLegs), 0, (cmdFor (rowSchedPort (0 : Mbx) (0 : U8) (1 : BitVec 9) (List.replicate 9 { tc := 1, pcp := 1, dscp := 0, limitKib := 512, rate := 0 } : List LevelReq))), 0, 1, List.replicate 9 { tc := 1, pcp := 1, dscp := 0, limitKib := 512, rate := 0 }, by decide +kernel⟩,
   ⟨(asks (rowSchedLeg (0 : Mbx) ({ leg := 0, change := 1, egress := 0, weight := 100, burstMs := 5, qlimitKib := 512, sojournMs := 500, policeKbps := 0, policeMs := 100 } : SchedLegReq)) sLegs), 0, (cmdFor (rowSchedLeg (0 : Mbx) ({ leg := 0, change := 1, egress := 0, weight := 100, burstMs := 5, qlimitKib := 512, sojournMs := 500, policeKbps := 0, policeMs := 100 } : SchedLegReq))), { leg := 0, change := 1, egress := 0, weight := 100, burstMs := 5, qlimitKib := 512, sojournMs := 500, policeKbps := 0, policeMs := 100 }, by decide +kernel⟩,
   ⟨(asks (rowSchedGate (0 : Mbx) (gate0 : GateReq)) sLegs), 0, (cmdFor (rowSchedGate (0 : Mbx) (gate0 : GateReq))), gate0, 0, _, by decide +kernel, rfl⟩,
   ⟨(asks (rowSchedQuery (0 : U16) (true : Bool)) sLegs), 0, (cmdFor (rowSchedQuery (0 : U16) (true : Bool))), 0, true, by decide +kernel⟩,
   ⟨(asks (rowSchedPortq (0 : U8) (BitVec.ofNat 8 (0 : Fin 8).val) false) sLegs), 0, (cmdFor (rowSchedPortq (0 : U8) (BitVec.ofNat 8 (0 : Fin 8).val) false)), 0, 0, by decide +kernel⟩,
   ⟨(asks (rowSchedPortq (0 : U8) (BitVec.ofNat 8 (0 : Fin 8).val) true) sLegs), 0, (cmdFor (rowSchedPortq (0 : U8) (BitVec.ofNat 8 (0 : Fin 8).val) true)), 0, 0, _, by decide +kernel, rfl⟩⟩

/-- Hypotheses that `Obligations.NetChangesStayInTheirInterface` meets. -/
theorem test_NetChangesStayInTheirInterface_hyps :
    ∃ (s : State) (iface : U8) (kind : U8) (mode : U8) (af : U8) (n : U8) (a : U128) (gw : U128) (j : Nat), (j ≠ iface.toNat) ∧ ((j < 8 ∨ iface.toNat < 8 ∨ fin2 j ≠ fin2 iface.toNat)) ∧ (kind = 1) :=
  ⟨sNet, 0, 1, 0, 4, 24, (ip 0x0A000009), 0, 1, by decide +kernel, .inl (by decide), by decide +kernel⟩

/-- Hypotheses that `Obligations.AgedFramesLeaveFromTheHead` meets. -/
theorem test_AgedFramesLeaveFromTheHead_hyps :
    ∃ (s : State) (t : State) (l : Nat), (exec (.qdropAge l) s = .next t) ∧ (thas s.net.legq l = true) :=
  ⟨sLegs, _, 0, rfl, by decide +kernel⟩

/-- Hypotheses that the clauses of `Obligations.ReceivedFramesAct` meet. -/
theorem test_ReceivedFramesAct_hyps :
    (∃ (s : State) (i : U8) (g : Iface) (f : RxFrame), (i.toNat < 8) ∧ (s.iface i.toNat = some g) ∧ (s.atWork 2 0 = true) ∧ (g.enable = true) ∧ (g.link = true) ∧ (f.fcsOk = false)) ∧
    (∃ (s : State) (i : U8) (g : Iface) (f : RxFrame), (i.toNat < 8) ∧ (s.iface i.toNat = some g) ∧ (s.atWork 2 0 = true) ∧ (g.enable = true) ∧ (g.link = true) ∧ (f.fcsOk = true) ∧ (f.length < 64 ∨ s.mtuOf i.toNat < f.length)) ∧
    (∃ (s : State) (i : U8) (g : Iface) (f : RxFrame) (u : State) (k : Fin 20), (i.toNat < 8) ∧ (s.iface i.toNat = some g) ∧ (s.atWork 2 0 = true) ∧ (g.enable = true) ∧ (g.link = true) ∧ (f.fcsOk = true) ∧ (64 ≤ f.length) ∧ (f.length ≤ s.mtuOf i.toNat) ∧ (u = ((s.countIface i.toNat 0).countIface i.toNat 1 f.length).learnMac i.toNat f) ∧ (ingressOrder u i.toNat f = .drop k) ∧ ((u.iface i.toNat).any (fun g => decide (splitShare (u.splitOf i.toNat) < g.occupancy + f.length)) = false)) ∧
    (∃ (s : State) (i : U8) (g : Iface) (f : RxFrame) (u : State) (l : Nat), (i.toNat < 8) ∧ (s.iface i.toNat = some g) ∧ (s.atWork 2 0 = true) ∧ (g.enable = true) ∧ (g.link = true) ∧ (f.fcsOk = true) ∧ (64 ≤ f.length) ∧ (f.length ≤ s.mtuOf i.toNat) ∧ (u = ((s.countIface i.toNat 0).countIface i.toNat 1 f.length).learnMac i.toNat f) ∧ (ingressOrder u i.toNat f = .leg l) ∧ ((u.iface i.toNat).any (fun g => decide (splitShare (u.splitOf i.toNat) < g.occupancy + f.length)) = false)) ∧
    (∃ (s : State) (i : U8) (g : Iface) (n : Nat), (i.toNat < 8) ∧ (s.iface i.toNat = some g) ∧ (s.atWork 2 0 = true) ∧ (g.pauseDue = none)) ∧
    (∃ (s : State) (i : U8) (g : Iface) (t : _), (i.toNat < 8) ∧ (s.iface i.toNat = some g) ∧ (s.atWork 2 0 = true) ∧ (g.pauseDue = some t) ∧ (t ≤ s.now) ∧ (g.lowB < g.occupancy)) ∧
    (∃ (s : State) (i : U8) (g : Iface) (t : _), (i.toNat < 8) ∧ (s.iface i.toNat = some g) ∧ (s.atWork 2 0 = true) ∧ (g.pauseDue = some t) ∧ (t ≤ s.now) ∧ (g.occupancy ≤ g.lowB)) ∧
    (∃ (s : State) (i : U8) (g : Iface), (i.toNat < 8) ∧ (s.iface i.toNat = some g) ∧ (s.atWork 2 0 = true)) ∧
    (∃ (s : State) (i : U8) (g : Iface), (i.toNat < 8) ∧ (s.iface i.toNat = some g) ∧ (s.atWork 2 0 = true)) :=
  ⟨⟨sLegs, 0, _, { frame0 with fcsOk := false }, by decide +kernel, rfl, by decide +kernel, by decide +kernel, by decide +kernel, by decide +kernel⟩,
   ⟨sLegs, 0, _, { frame0 with length := 63 }, by decide +kernel, rfl, by decide +kernel, by decide +kernel, by decide +kernel, by decide +kernel, .inl (by decide)⟩,
   ⟨sLegs, 0, _, { frame0 with dst := 0x020000000077 }, _, 6, by decide +kernel, rfl, by decide +kernel, by decide +kernel, by decide +kernel, by decide +kernel, by decide +kernel, by decide +kernel, rfl, by decide +kernel, by decide +kernel⟩,
   ⟨sLegs, 0, _, { frame0 with kind := .rtp false }, _, 0, by decide +kernel, rfl, by decide +kernel, by decide +kernel, by decide +kernel, by decide +kernel, by decide +kernel, by decide +kernel, rfl, by decide +kernel, by decide +kernel⟩,
   ⟨withIface sReady { ifc0 with pauseDue := none }, 0, _, 300000, by decide +kernel, rfl, by decide +kernel, by decide +kernel⟩,
   ⟨withIface sReady { ifc0 with pauseDue := some 5, occupancy := 100001 }, 0, _, 5, by decide +kernel, rfl, by decide +kernel, by decide +kernel, by decide +kernel, by decide +kernel⟩,
   ⟨withIface sReady { ifc0 with pauseDue := some 5, occupancy := 100000 }, 0, _, 5, by decide +kernel, rfl, by decide +kernel, by decide +kernel, by decide +kernel, by decide +kernel⟩,
   ⟨sNet, 0, _, by decide +kernel, rfl, by decide +kernel⟩,
   ⟨sNet, 0, _, by decide +kernel, rfl, by decide +kernel⟩⟩

/-- Hypotheses that the clauses of `Obligations.CipherActs` meet. -/
theorem test_CipherActs_hyps :
    (∃ (s : State) (m : Mbx) (c : Cmd) (cls : U8) (rekeyS : U8) (check : Bool) (useLimit : U32), (s.takes m (rowCipherClass cls check rekeyS useLimit) c 0 = true)) ∧
    (∃ (s : State) (m : Mbx) (c : Cmd) (slot : U32), (s.takes m (rowCipherSlot 0 slot) c 32 = true)) ∧
    (∃ (s : State) (m : Mbx) (c : Cmd) (slot : U32), (s.takes m (rowCipherSlot 1 slot) c 32 = true)) ∧
    (∃ (s : State) (m : Mbx) (c : Cmd) (leg : U16), (s.takes m (rowCipherRekey m leg) c 0 = true)) ∧
    (∃ (s : State) (m : Mbx) (c : Cmd) (leg : U16), (leg ≠ 0xFFFF) ∧ (s.takes m (rowCipherStats leg true) c 32 = true)) ∧
    (∃ (s : State) (m : Mbx) (c : Cmd) (leg : U16), (leg ≠ 0xFFFF) ∧ (s.takes m (rowCipherStats leg false) c 32 = true)) ∧
    (∃ (s : State) (m : Mbx) (c : Cmd) (clear : Bool), (s.takes m (rowCipherStats 0xFFFF clear) c 32 = true)) ∧
    (∃ (s : State) (access : Bool) (k : Nat) (n : Nat) (u : State) (key : BitVec 256), (n = (if access then accessBase + k else k)) ∧ (s.cip.fetching.filter (fun j => j.slot == n) ≠ []) ∧ (u = s.modCip (fun c => { c with fetching := c.fetching.filter (fun j => j.slot != n) })) ∧ (u.unwrapSlot n = some key)) ∧
    (∃ (s : State) (access : Bool) (k : Nat) (n : Nat) (u : State), (n = (if access then accessBase + k else k)) ∧ (s.cip.fetching.filter (fun j => j.slot == n) ≠ []) ∧ (u = s.modCip (fun c => { c with fetching := c.fetching.filter (fun j => j.slot != n) }))) ∧
    (∃ (s : State) (l : Nat), ((s.rekey l).running = true)) ∧
    (∃ (s : State) (l : Nat), ((s.rekey l).running = true)) ∧
    (∃ (s : State) (l : Nat), ((s.rekey l).prev ≠ []) ∧ ((s.rekey l).prevUntil ≤ s.chipNs)) :=
  ⟨⟨(asks (rowCipherClass (0 : U8) (true : Bool) (5 : U8) (1048576 : U32)) sLegs), 0, (cmdFor (rowCipherClass (0 : U8) (true : Bool) (5 : U8) (1048576 : U32))), 0, 5, true, 1048576, by decide +kernel⟩,
   ⟨(asks (rowCipherSlot 0 (0 : U32)) { sLegs with cip := { sLegs.cip with slots := [(0, slot0)] } }), 0, (cmdFor (rowCipherSlot 0 (0 : U32))), 0, by decide +kernel⟩,
   ⟨(asks (rowCipherSlot 1 (0 : U32)) { sLegs with cip := { sLegs.cip with access := [(0, slot0)] } }), 0, (cmdFor (rowCipherSlot 1 (0 : U32))), 0, by decide +kernel⟩,
   ⟨(asks (rowCipherRekey (0 : Mbx) (2 : U16)) sLegs), 0, (cmdFor (rowCipherRekey (0 : Mbx) (2 : U16))), 2, by decide +kernel⟩,
   ⟨(asks (rowCipherStats (0 : U16) true) sLegs), 0, (cmdFor (rowCipherStats (0 : U16) true)), 0, by decide +kernel, by decide +kernel⟩,
   ⟨(asks (rowCipherStats (0 : U16) false) sLegs), 0, (cmdFor (rowCipherStats (0 : U16) false)), 0, by decide +kernel, by decide +kernel⟩,
   ⟨(asks (rowCipherStats 0xFFFF (true : Bool)) sLegs), 0, (cmdFor (rowCipherStats 0xFFFF (true : Bool))), true, by decide +kernel⟩,
   ⟨sWrap, false, 0, _, _, 9, rfl, by decide +kernel, rfl, sWrap_key⟩,
   ⟨{ sLegs with cip := { sLegs.cip with slots := [(0, slot0)], fetching := [({ slot := 0, leg := 0, received := true, ssrc := 9, seq := 1, encLength := 100, authOk := true, authPrevOk := false } : CipherJob)] } }, false, 0, _, _, rfl, by decide +kernel, rfl⟩,
   ⟨{ sLegs with cip := { sLegs.cip with rekeys := [(0, { running := true })] } }, 0, by decide +kernel⟩,
   ⟨{ sLegs with cip := { sLegs.cip with rekeys := [(0, { running := true })] } }, 0, by decide +kernel⟩,
   ⟨{ sLegs with cip := { sLegs.cip with rekeys := [(0, { prev := [(0, slot0)], prevUntil := 0 })] } }, 0, by decide +kernel, by decide +kernel⟩⟩

/-- Hypotheses that the clauses of `Obligations.SoundActs` meet. -/
theorem test_SoundActs_hyps :
    (∃ (s : State) (m : Mbx) (c : Cmd) (conf : U16) (mix : U16) (master : U16) (x : Nat), (mixIndex mix s = some x) ∧ (s.takes m (rowMixCreate conf mix master) c 2 = true)) ∧
    (∃ (s : State) (m : Mbx) (c : Cmd) (mix : U16), (s.takes m (rowMixDelete mix) c 0 = true)) ∧
    (∃ (s : State) (m : Mbx) (c : Cmd) (leg : U16) (mode : U8) (mix : U16) (gain : U16), (s.takes m (rowMixRoute m leg mode mix gain) c 0 = true)) ∧
    (∃ (s : State) (m : Mbx) (c : Cmd) (q : GainReq) (g : Gain), (s.takes m (rowMixGain m q) c 4 = true) ∧ (s.gainAt (GainReq_point q) = some g)) ∧
    (∃ (s : State) (m : Mbx) (c : Cmd) (leg : U16) (q : ChainReq), (s.takes m (rowMixChain m leg q) c 0 = true)) ∧
    (∃ (s : State) (m : Mbx) (c : Cmd) (source : U32) (lo : U16) (hi : U16) (fixed : Bool), (s.takes m (rowMixJitter m source lo hi fixed) c 0 = true)) ∧
    (∃ (s : State) (m : Mbx) (c : Cmd) (mix : U16) (kbps : U16) (frameMs : U8) (fec : Bool) (dtx : Bool), (s.takes m (rowMixEncode m mix kbps frameMs fec dtx) c 0 = true)) ∧
    (∃ (s : State) (m : Mbx) (c : Cmd) (conf : U16) (threshold : U8) (marginDb : U8), (s.takes m (rowMixSpeakers m conf threshold marginDb) c 0 = true)) ∧
    (∃ (s : State) (m : Mbx) (c : Cmd) (q : MeterReq), (s.takes m (rowMixMeter m q) c 2 = true)) ∧
    (∃ (s : State) (m : Mbx) (c : Cmd) (mix : U16) (q : Mix), (tget s.snd.mixes mix.toNat = some q) ∧ (s.takes m (rowMixQuery mix) c 24 = true)) ∧
    (∃ (s : State) (m : Mbx) (c : Cmd) (leg : U16) (d : LegSound), (tget s.snd.legs leg.toNat = some d) ∧ (s.takes m (rowMixSource leg) c 24 = true)) ∧
    (∃ (s : State) (l : Nat) (p : AudioPkt) (q : Leg) (cf : Conf) (e : CodecEntry), (s.legLive l = some q) ∧ (q.state = .active) ∧ (LegOffer.sends q.offer 0 = true) ∧ (tget s.model.confs q.conf = some cf) ∧ (cf.origin.isSome = true) ∧ (LegOffer.recvOf q.offer 0 = some e) ∧ (p.pt = e.pt) ∧ (decodable e p = true)) ∧
    (∃ (s : State) (l : Nat) (p : AudioPkt) (q : Leg) (cf : Conf) (e : CodecEntry), (s.legLive l = some q) ∧ (q.state = .active) ∧ (LegOffer.sends q.offer 0 = true) ∧ (tget s.model.confs q.conf = some cf) ∧ (cf.origin.isSome = true) ∧ (LegOffer.recvOf q.offer 0 = some e) ∧ (p.pt = e.pt) ∧ (decodable e p = false)) ∧
    (∃ (s : State) (l : Nat) (p : AudioPkt) (q : Leg) (cf : Conf) (e : CodecEntry), (s.legLive l = some q) ∧ (q.state = .active) ∧ (LegOffer.sends q.offer 0 = true) ∧ (tget s.model.confs q.conf = some cf) ∧ (cf.origin.isSome = true) ∧ (LegOffer.recvOf q.offer 0 = some e) ∧ (p.pt ≠ e.pt)) ∧
    (∃ (s : State) (l : _) (d : _) (a : _), (tget s.snd.legs l = some d) ∧ (d.jb.state = .concealing) ∧ (d.jb.concealFrom = some a) ∧ (a + 3840 ≤ (s.media (s.confOfLeg l) : Int))) ∧
    (∃ (s : State) (p : GainPoint) (g : Gain) (u : Nat) (t : Nat), (s.gainAt p = some g) ∧ (t = s.media (s.gainConf p)) ∧ ((g.settle t).due = some u) ∧ (u ≤ t) ∧ (s.crossesAt p t = true)) ∧
    (∃ (s : State) (p : GainPoint) (g : Gain) (u : Nat) (t : Nat), (s.gainAt p = some g) ∧ (t = s.media (s.gainConf p)) ∧ ((g.settle t).due = some u) ∧ (u + 48 * (g.settle t).timeoutMs ≤ t)) ∧
    (∃ (s : State) (c : Nat) (l : Nat) (u : Nat) (d : LegSound), (tget s.snd.legs l = some d) ∧ (d.minusUntil = some u) ∧ (u ≤ s.media c)) ∧
    (∃ (s : State) (c : Nat) (k : Nat) (n : Nat) (q : Conf), (tget s.model.confs c = some q) ∧ (q.origin.isSome = true) ∧ (q.basted = none) ∧ (tget s.snd.ticks c = some n) ∧ (k = n / 10) ∧ (q.startMedia < 480 * k) ∧ ((tget s.snd.windows c).any (fun w => decide (k ≤ w)) = false)) ∧
    (∃ (s : State) (m : Mbx) (ws : MeterSet → List (Nat × Nat)) (u : Nat), ((s.box m).meters ≠ []) ∧ ((s.box m).meterDue = some u) ∧ (u ≤ s.clk) ∧ (ws = s.meterWins ((s.box m).meterPeriodMs / 10))) :=
  ⟨⟨(asks (rowMixCreate (0 : U16) (0xFFFF : U16) (0 : U16)) sLegs), 0, (cmdFor (rowMixCreate (0 : U16) (0xFFFF : U16) (0 : U16))), 0, 0xFFFF, 0, 8192, by decide +kernel, by decide +kernel⟩,
   ⟨(asks (rowMixDelete (8192 : U16)) { sLegs with snd := { sLegs.snd with mixes := sLegs.snd.mixes ++ [(8192, { conf := 0 })] } }), 0, (cmdFor (rowMixDelete (8192 : U16))), 8192, by decide +kernel⟩,
   ⟨(asks (rowMixRoute (0 : Mbx) (0 : U16) (0 : U8) (8192 : U16) (0 : U16)) { sLegs with snd := { sLegs.snd with mixes := sLegs.snd.mixes ++ [(8192, { conf := 0 })] } }), 0, (cmdFor (rowMixRoute (0 : Mbx) (0 : U16) (0 : U8) (8192 : U16) (0 : U16))), 0, 0, 8192, 0, by decide +kernel⟩,
   ⟨(asks (rowMixGain (0 : Mbx) ({ kind := 0, muteSet := true, mute := true, leg := 0, mix := 0, gain := 40, timeoutMs := 0 } : GainReq)) sLegs), 0, (cmdFor (rowMixGain (0 : Mbx) ({ kind := 0, muteSet := true, mute := true, leg := 0, mix := 0, gain := 40, timeoutMs := 0 } : GainReq))), { kind := 0, muteSet := true, mute := true, leg := 0, mix := 0, gain := 40, timeoutMs := 0 }, _, by decide +kernel, rfl⟩,
   ⟨(asks (rowMixChain (0 : Mbx) (0 : U16) ({ chain0 with bands := List.replicate 5 { type := 0, freqHz := 0, gain := 0, q := 0 } } : ChainReq)) sLegs), 0, (cmdFor (rowMixChain (0 : Mbx) (0 : U16) ({ chain0 with bands := List.replicate 5 { type := 0, freqHz := 0, gain := 0, q := 0 } } : ChainReq))), 0, { chain0 with bands := List.replicate 5 { type := 0, freqHz := 0, gain := 0, q := 0 } }, by decide +kernel⟩,
   ⟨(asks (rowMixJitter (0 : Mbx) (0 : U32) (20 : U16) (200 : U16) (false : Bool)) sLegs), 0, (cmdFor (rowMixJitter (0 : Mbx) (0 : U32) (20 : U16) (200 : U16) (false : Bool))), 0, 20, 200, false, by decide +kernel⟩,
   ⟨(asks (rowMixEncode (0 : Mbx) (0 : U16) (32 : U16) (20 : U8) (true : Bool) (false : Bool)) sLegs), 0, (cmdFor (rowMixEncode (0 : Mbx) (0 : U16) (32 : U16) (20 : U8) (true : Bool) (false : Bool))), 0, 32, 20, true, false, by decide +kernel⟩,
   ⟨(asks (rowMixSpeakers (0 : Mbx) (0 : U16) (0xCE : U8) (6 : U8)) sLegs), 0, (cmdFor (rowMixSpeakers (0 : Mbx) (0 : U16) (0xCE : U8) (6 : U8))), 0, 0xCE, 6, by decide +kernel⟩,
   ⟨(asks (rowMixMeter (0 : Mbx) ({ mode := 0, kind := 0, index := 0, periodMs := 100, holdMs := 0, decayDbs := 0 } : MeterReq)) sLegs), 0, (cmdFor (rowMixMeter (0 : Mbx) ({ mode := 0, kind := 0, index := 0, periodMs := 100, holdMs := 0, decayDbs := 0 } : MeterReq))), { mode := 0, kind := 0, index := 0, periodMs := 100, holdMs := 0, decayDbs := 0 }, by decide +kernel⟩,
   ⟨(asks (rowMixQuery (0 : U16)) sLegs), 0, (cmdFor (rowMixQuery (0 : U16))), 0, _, rfl, by decide +kernel⟩,
   ⟨(asks (rowMixSource (0 : U16)) sLegs), 0, (cmdFor (rowMixSource (0 : U16))), 0, _, rfl, by decide +kernel⟩,
   ⟨sLegs, 0, ({ ssrc := 9, seq := 5, ts := 1000, pt := 111, ptimeSamples := 960, level := none, fec := false, payload := [1] } : AudioPkt), _, _, _, rfl, by decide +kernel, by decide +kernel, rfl, by decide +kernel, rfl, by decide +kernel, by decide +kernel⟩,
   ⟨sLegs, 0, ({ ssrc := 9, seq := 5, ts := 1000, pt := 111, ptimeSamples := 119, level := none, fec := false, payload := [1] } : AudioPkt), _, _, _, rfl, by decide +kernel, by decide +kernel, rfl, by decide +kernel, rfl, by decide +kernel, by decide +kernel⟩,
   ⟨sLegs, 0, { ({ ssrc := 9, seq := 5, ts := 1000, pt := 111, ptimeSamples := 960, level := none, fec := false, payload := [1] } : AudioPkt) with pt := 110 }, _, _, _, rfl, by decide +kernel, by decide +kernel, rfl, by decide +kernel, rfl, by decide +kernel⟩,
   ⟨{ sLegs with snd := { sLegs.snd with legs := [(0, { legs0 with jb := { state := .concealing, concealFrom := some 0 } })] } }, 0, _, 0, rfl, by decide +kernel, by decide +kernel, by decide +kernel⟩,
   ⟨{ sLegs with snd := { sLegs.snd with legs := [(0, { legs0 with gainIn := { target := 8, due := some 5 }, preLast := 0 })], ticks := [(0, 999000)] } }, .leg 0, _, 5, _, rfl, rfl, by decide +kernel, by decide +kernel, by decide +kernel⟩,
   ⟨{ sLegs with snd := { sLegs.snd with legs := [(0, { legs0 with gainIn := { target := 8, due := some 5 }, preLast := 9 })], ticks := [(0, 999000)] } }, .leg 0, _, 5, _, rfl, rfl, by decide +kernel, by decide +kernel⟩,
   ⟨{ sLegs with snd := { sLegs.snd with legs := [(0, { legs0 with minus := true, minusUntil := some 7 })] } }, 0, 0, 7, _, rfl, by decide +kernel, by decide +kernel⟩,
   ⟨{ sLegs with snd := { sLegs.snd with ticks := [(0, 10)] } }, 0, _, 10, _, rfl, by decide +kernel, by decide +kernel, by decide +kernel, rfl, by decide +kernel, by decide +kernel⟩,
   ⟨meterS, 0, _, 5, by decide +kernel, by decide +kernel, by decide +kernel, rfl⟩⟩

/-- Hypotheses that `Obligations.BlendIsExact` meets. -/
theorem test_BlendIsExact_hyps :
    ∃ (alpha : Nat) (f : Nat) (b : Nat), (alpha ≤ 1024) ∧ (f ≤ 1023) ∧ (b ≤ 1023) :=
  ⟨1024, 1023, 0, by decide +kernel, by decide +kernel, by decide +kernel⟩

/-- Hypotheses that the clauses of `Obligations.PictureActs` meet. -/
theorem test_PictureActs_hyps :
    (∃ (s : State) (m : Mbx) (c : Cmd) (q : LayoutReq) (r : LayoutReq) (y : Nat), (r = (if c.hdr.version = 0x14 then { q with standing := false } else q)) ∧ (layoutIndex r s = some y) ∧ (s.takes m (rowLayoutCreate m q) c 16 = true)) ∧
    (∃ (s : State) (m : Mbx) (c : Cmd) (y : U16), (s.takes m (rowLayoutDelete m y) c 0 = true)) ∧
    (∃ (s : State) (m : Mbx) (c : Cmd) (q : TileReq), (s.takes m (rowLayoutTile m q) c 0 = true)) ∧
    (∃ (s : State) (m : Mbx) (c : Cmd) (layout : U16) (region : U8) (overlay : U8) (x : U16) (y : U16) (r : Nat × Nat × Nat × Nat), (s.takes m (rowLayoutSafety m layout region overlay x y) c 4 = true) ∧ (overlay ≠ 0xFF) ∧ (s.overlayAt { overlay := overlay.toNat, x := x.toNat, y := y.toNat } = some r)) ∧
    (∃ (s : State) (m : Mbx) (c : Cmd) (layout : U16) (region : U8) (x : U16) (y : U16), (s.takes m (rowLayoutSafety m layout region 0xFF x y) c 4 = true) ∧ (s.overlayAt { overlay := 0xFF, x := x.toNat, y := y.toNat } = none)) ∧
    (∃ (s : State) (m : Mbx) (c : Cmd) (q : FeedReq) (f : Nat), (feedIndex q s = some f) ∧ (q.feed = 0xFFFF) ∧ (s.takes m (rowLayoutFeed m q) c 24 = true)) ∧
    (∃ (s : State) (m : Mbx) (c : Cmd) (q : FeedReq) (f : Nat) (t : State), (feedIndex q s = some f) ∧ (q.feed ≠ 0xFFFF) ∧ (s.takes m (rowLayoutFeed m q) c 24 = true) ∧ (t = (s.feedCharge f q).waitSlot q.layout.toNat (s.media (s.confOfLayout q.layout.toNat) + 96) (.feed f q))) ∧
    (∃ (s : State) (m : Mbx) (c : Cmd) (feed : U16) (g : Feed), (tget s.pic.feeds feed.toNat = some g) ∧ (s.takes m (rowLayoutKeypic m feed) c 0 = true)) ∧
    (∃ (s : State) (m : Mbx) (c : Cmd) (y : U16) (l : Layout), (tget s.pic.layouts y.toNat = some l) ∧ (s.takes m (rowLayoutQuery y) c 24 = true)) ∧
    (∃ (s : State) (m : Mbx) (c : Cmd) (i : U16) (d : DecCtx), (tget s.pic.dec i.toNat = some d) ∧ (s.takes m (rowLayoutContext 0 i) c (24 + 4 * (decCounters d).length) = true)) ∧
    (∃ (s : State) (m : Mbx) (c : Cmd) (i : U16) (e : EncCtx), (tget s.pic.enc i.toNat = some e) ∧ (s.takes m (rowLayoutContext 1 i) c (24 + 4 * (encCounters e).length) = true)) ∧
    (∃ (s : State) (src : Nat) (i : Nat) (m : Nat) (p : VideoPkt) (d : DecCtx), (s.decOf src = some (i, d)) ∧ (tget s.pic.dec i = some d) ∧ (s.sourceLive src = true) ∧ (s.decDark d = false) ∧ (s.pwr.levelNow < 3) ∧ (d.anchor = none) ∧ (d.units = []) ∧ (m = s.arrivalMedia (src / 4) p.seq (s.confOfSource src)) ∧ (p.lumaSamples * 48 ≤ min (d.kpxs * 48000) (d.bucket + d.kpxs * (m - d.bucketAt)))) ∧
    (∃ (s : State) (src : Nat) (i : Nat) (m : Nat) (p : VideoPkt) (d : DecCtx), (s.decOf src = some (i, d)) ∧ (tget s.pic.dec i = some d) ∧ (s.sourceLive src = true) ∧ (s.decDark d = false) ∧ (s.pwr.levelNow < 3) ∧ (d.anchor = none) ∧ (d.units = []) ∧ (m = s.arrivalMedia (src / 4) p.seq (s.confOfSource src)) ∧ (min (d.kpxs * 48000) (d.bucket + d.kpxs * (m - d.bucketAt)) < p.lumaSamples * 48) ∧ (d.state ≠ .clean)) ∧
    (∃ (s : State) (i : Nat) (g : SegmentInfo) (d : DecCtx) (e : CodecEntry) (u : AccessUnit) (us : List AccessUnit), (tget s.pic.dec i = some d) ∧ (s.sourceEntry d.source = some e) ∧ (s.decDark d = false) ∧ (d.units = u :: us) ∧ (u.ts = g.ts) ∧ (u.dropped = false) ∧ (u.spent = false) ∧ (g.packets.all u.seqs.contains = false) ∧ (u.closed = false)) ∧
    (∃ (s : State) (i : Nat) (g : SegmentInfo) (d : DecCtx) (e : CodecEntry) (u : AccessUnit) (us : List AccessUnit), (tget s.pic.dec i = some d) ∧ (s.sourceEntry d.source = some e) ∧ (s.decDark d = false) ∧ (d.units = u :: us) ∧ (u.ts = g.ts) ∧ (u.dropped = false) ∧ (u.spent = false) ∧ (g.packets.all u.seqs.contains = true) ∧ (d.writing = false) ∧ (2 ≤ d.buffer.length)) ∧
    (∃ (s : State) (i : Nat) (g : SegmentInfo) (d : DecCtx) (e : CodecEntry) (u : AccessUnit) (us : List AccessUnit) (w : DecCtx), (tget s.pic.dec i = some d) ∧ (s.sourceEntry d.source = some e) ∧ (s.decDark d = false) ∧ (d.units = u :: us) ∧ (u.ts = g.ts) ∧ (u.dropped = false) ∧ (u.spent = false) ∧ (g.packets.all u.seqs.contains = true) ∧ (d.writing = true ∨ d.buffer.length < 2) ∧ (d.done = none) ∧ (w = (if d.writing then d else d.openPicture e u g.hdr).writeSegment e.codec u g false)) ∧
    (∃ (s : State) (i : Nat) (d : DecCtx), (tget s.pic.dec i = some d) ∧ (d.buffer.length < 2)) ∧
    (∃ (s : State) (i : Nat) (d : DecCtx) (b : BufPic) (rest : List BufPic) (good : List SynRec) (refs : List (Option RefPic)) (sub : Frame), (tget s.pic.dec i = some d) ∧ (d.buffer = b :: rest) ∧ (b.ended = true) ∧ (s.decDark d = false) ∧ (s.twin.state ≠ .standby) ∧ (good = (if b.full then [] else ((withinWork (workMax b.hdr) 0 (b.records.filter (fun r => r.kind == .block))).zipIdx.filter (fun p => !b.poisoned.contains p.2)).map (·.1))) ∧ (refs = (b.hdr.refs ++ b.hdr.lower.toList).map (fun n => d.dpb.find? (fun r => r.name == n))) ∧ (sub = (tget d.recent b.hdr.spatial.val).getD (greyFrame b.hdr.width b.hdr.height))) ∧
    (∃ (s : State) (src : Nat) (fir : Bool) (pli : Bool), ((tget s.pic.keyLast src).all (fun t => decide (t + 24000 ≤ s.media (s.confOfSource src))) = true) ∧ (tget s.pic.keyDue src = some (fir, pli))) ∧
    (∃ (s : State) (i : Nat) (d : DecCtx), (tget s.pic.dec i = some d) ∧ (d.state = .clean ∨ d.state = .damaged) ∧ (d.lastArrival + d.stallMs * 48 ≤ s.media (s.confOfSource d.source))) ∧
    (∃ (s : State) (i : Nat) (layers : List LayerCode) (e : EncCtx) (f : Feed), (tget s.pic.enc i = some e) ∧ (tget s.pic.feeds e.feed = some f) ∧ (e.gated = false) ∧ (f.basted = none) ∧ (s.twin.state ≠ .standby) ∧ (State.nextCapture e f.req.rate.toNat ≤ s.media ((tget s.pic.layouts f.layout).elim 0 (·.conf))) ∧ (s.slotReady f.layout (State.nextCapture e f.req.rate.toNat) = true)) ∧
    (∃ (s : State) (y : Nat) (l : Layout) (silent : List Nat) (t : State), (tget s.pic.layouts y = some l) ∧ (l.basted = none) ∧ (l.awaiting = false) ∧ (l.next ≤ s.media l.conf) ∧ (l.cells.any (fun p => s.laneDark 10 p.1) = false) ∧ (t = (l.changes.filter (fun c => decide (c.1 ≤ l.next))).foldl (fun t c => t.applyChange y l.next c.2) (s.modLayout y (fun l => { l with changes := l.changes.filter (fun c => !decide (c.1 ≤ l.next)) }))) ∧ ((tget t.pic.layouts y).any (fun k => t.slotWaits k l.next) = false)) ∧
    (∃ (s : State) (y : Nat) (l : Layout) (silent : List Nat) (slot : Nat) (f : Frame), (tget s.pic.layouts y = some l) ∧ (s.drawnRegions l ≠ []) ∧ (f = drawSlot l.width l.height l.bg (l.tiles.map (fun p => (p.1, p.2, (s.showTile l slot p.1 p.2).content))) (((s.regionRects l).filter (fun r => !l.bad.contains r.1)).map (·.2)))) ∧
    (∃ (s : State) (y : Nat) (l : Layout), (tget s.pic.layouts y = some l) ∧ (l.awaiting = true) ∧ (s.twin.state ≠ .standby) ∧ (s.signed l = true)) ∧
    (∃ (s : State) (y : Nat) (l : Layout) (u : _), (tget s.pic.layouts y = some l) ∧ (l.awaiting = true) ∧ (s.twin.state ≠ .standby) ∧ (l.sigUntil = some u) ∧ (u ≤ s.media l.conf) ∧ (s.signed l = false)) ∧
    (∃ (s : State) (y : Nat) (l : Layout), (tget s.pic.layouts y = some l) ∧ (l.cardGate = true)) :=
  ⟨⟨(asks (rowLayoutCreate (0 : Mbx) (layq0 : LayoutReq)) sLegs), 0, (cmdFor (rowLayoutCreate (0 : Mbx) (layq0 : LayoutReq))), layq0, _, 0, rfl, by decide +kernel, by decide +kernel⟩,
   ⟨(asks (rowLayoutDelete (0 : Mbx) (0 : U16)) sPics), 0, (cmdFor (rowLayoutDelete (0 : Mbx) (0 : U16))), 0, by decide +kernel⟩,
   ⟨(asks (rowLayoutTile (0 : Mbx) (tileq0 : TileReq)) sPics), 0, (cmdFor (rowLayoutTile (0 : Mbx) (tileq0 : TileReq))), tileq0, by decide +kernel⟩,
   ⟨(asks (rowLayoutSafety (0 : Mbx) (0 : U16) (3 : U8) (0 : U8) (16 : U16) (16 : U16)) sOverlay), 0, (cmdFor (rowLayoutSafety (0 : Mbx) (0 : U16) (3 : U8) (0 : U8) (16 : U16) (16 : U16))), 0, 3, 0, 16, 16, _, by decide +kernel, by decide +kernel, rfl⟩,
   ⟨(asks (rowLayoutSafety (0 : Mbx) (0 : U16) (0 : U8) 0xFF (0 : U16) (0 : U16)) sPics), 0, (cmdFor (rowLayoutSafety (0 : Mbx) (0 : U16) (0 : U8) 0xFF (0 : U16) (0 : U16))), 0, 0, 0, 0, by decide +kernel, by decide +kernel⟩,
   ⟨(asks (rowLayoutFeed (0 : Mbx) (feedq0 : FeedReq)) sPics), 0, (cmdFor (rowLayoutFeed (0 : Mbx) (feedq0 : FeedReq))), feedq0, 1, by decide +kernel, by decide +kernel, by decide +kernel⟩,
   ⟨(asks (rowLayoutFeed (0 : Mbx) ({ feedq0 with feed := 0, target0 := 2000 } : FeedReq)) sPics), 0, (cmdFor (rowLayoutFeed (0 : Mbx) ({ feedq0 with feed := 0, target0 := 2000 } : FeedReq))), { feedq0 with feed := 0, target0 := 2000 }, 0, _, by decide +kernel, by decide +kernel, by decide +kernel, rfl⟩,
   ⟨(asks (rowLayoutKeypic (0 : Mbx) (0 : U16)) sPics), 0, (cmdFor (rowLayoutKeypic (0 : Mbx) (0 : U16))), 0, _, rfl, by decide +kernel⟩,
   ⟨(asks (rowLayoutQuery (0 : U16)) sPics), 0, (cmdFor (rowLayoutQuery (0 : U16))), 0, _, rfl, by decide +kernel⟩,
   ⟨(asks (rowLayoutContext 0 (0 : U16)) sPics), 0, (cmdFor (rowLayoutContext 0 (0 : U16))), 0, _, rfl, by decide +kernel⟩,
   ⟨(asks (rowLayoutContext 1 (0 : U16)) sPics), 0, (cmdFor (rowLayoutContext 1 (0 : U16))), 0, _, rfl, by decide +kernel⟩,
   ⟨sPics, 1, 0, _, vpkt0, _, rfl, rfl, by decide +kernel, by decide +kernel, by decide +kernel, by decide +kernel, by decide +kernel, rfl, by decide +kernel⟩,
   ⟨withDec { dec0 with bucket := 0, bucketAt := 47952000 }, 1, 0, _, { vpkt0 with lumaSamples := 307200 }, _, rfl, rfl, by decide +kernel, by decide +kernel, by decide +kernel, by decide +kernel, by decide +kernel, rfl, by decide +kernel, by decide +kernel⟩,
   ⟨withDec { dec0 with units := [unit0] }, 0, { seg0 with packets := [10, 11] }, _, _, unit0, [], rfl, rfl, by decide +kernel, by decide +kernel, by decide +kernel, by decide +kernel, by decide +kernel, by decide +kernel, by decide +kernel⟩,
   ⟨withDec { dec0 with units := [unit0], buffer := [pic0, pic0] }, 0, seg0, _, _, unit0, [], rfl, rfl, by decide +kernel, by decide +kernel, by decide +kernel, by decide +kernel, by decide +kernel, by decide +kernel, by decide +kernel, by decide +kernel⟩,
   ⟨withDec { dec0 with units := [unit0] }, 0, seg0, _, _, unit0, [], _, rfl, rfl, by decide +kernel, by decide +kernel, by decide +kernel, by decide +kernel, by decide +kernel, by decide +kernel, .inr (by decide), by decide +kernel, rfl⟩,
   ⟨sPics, 0, _, rfl, by decide +kernel⟩,
   ⟨withDec { dec0 with buffer := [pic0] }, 0, _, pic0, [], _, _, _, rfl, by decide +kernel, by decide +kernel, by decide +kernel, by decide +kernel, rfl, rfl, rfl⟩,
   ⟨{ sPics with pic := { sPics.pic with keyDue := [(1, (true, false))] } }, 1, true, false, by decide +kernel, by decide +kernel⟩,
   ⟨withDec { dec0 with state := .clean }, 0, _, rfl, .inl rfl, by decide +kernel⟩,
   ⟨withLayout { lay0 with lastSlot := 1920 }, 0, [], _, _, rfl, rfl, by decide +kernel, by decide +kernel, by decide +kernel, by decide +kernel, by decide +kernel⟩,
   ⟨withLayout lay0, 0, _, [], _, rfl, by decide +kernel, by decide +kernel, by decide +kernel, by decide +kernel, rfl, by decide +kernel⟩,
   ⟨{ sOverlay with pic := { sOverlay.pic with layouts := [(0, { lay0 with regions := [(0, { overlay := 0, x := 16, y := 16 })], awaiting := true })] } }, 0, _, [], 1920, _, rfl, by decide +kernel, rfl⟩,
   ⟨{ sOverlay with pic := { sOverlay.pic with layouts := [(0, { lay0 with regions := [(0, { overlay := 0, x := 16, y := 16 })], awaiting := true, signatures := [(0, 5)] })] } }, 0, _, rfl, by decide +kernel, by decide +kernel, by decide +kernel⟩,
   ⟨{ sOverlay with pic := { sOverlay.pic with layouts := [(0, { lay0 with regions := [(0, { overlay := 0, x := 16, y := 16 })], awaiting := true, sigUntil := some 9 })] } }, 0, _, 9, rfl, by decide +kernel, by decide +kernel, by decide +kernel, by decide +kernel, by decide +kernel⟩,
   ⟨withLayout { lay0 with cardGate := true }, 0, _, rfl, by decide +kernel⟩⟩

/-- Hypotheses that the clauses of `Obligations.ForwardingActs` meet. -/
theorem test_ForwardingActs_hyps :
    (∃ (s : State) (m : Mbx) (c : Cmd) (r : SubscribeReq) (q : SubscribeReq) (e : Nat) (u : State) (v : State), (q = subscribeAt r c.hdr.version) ∧ (entryIndex q s = some e) ∧ (s.takes m (rowFwdSubscribe m r) c 12 = true) ∧ (u = newEntry q e none s) ∧ (v = doSubscribe e (if q.mode = 2 then (u.buildTranscode e none).getD u else u))) ∧
    (∃ (s : State) (m : Mbx) (c : Cmd) (entry : U32), (s.takes m (rowFwdUnsubscribe m entry) c 0 = true)) ∧
    (∃ (s : State) (m : Mbx) (c : Cmd) (q : FwdSetReq), (s.takes m (rowFwdSet m q) c 0 = true)) ∧
    (∃ (s : State) (m : Mbx) (c : Cmd) (entry : U32) (source : U32), (s.takes m (rowFwdRetarget m entry source) c 0 = true)) ∧
    (∃ (s : State) (m : Mbx) (c : Cmd) (source : U32) (ddExt : U8) (fmExt : U8), (s.takes m (rowFwdSource m source ddExt fmExt) c 0 = true)) ∧
    (∃ (s : State) (m : Mbx) (c : Cmd) (q : FwdLineReq), (s.takes m (rowFwdLine m q) c 0 = true)) ∧
    (∃ (s : State) (m : Mbx) (c : Cmd) (entry : U32) (f : FwdEntry), (tget s.fwd.entries entry.toNat = some f) ∧ (s.takes m (rowFwdQuery entry) c 24 = true)) ∧
    (∃ (s : State) (m : Mbx) (c : Cmd) (leg : U16), (s.takes m (rowFwdLeg leg) c 24 = true)) ∧
    (∃ (s : State) (e : Nat) (fir : Bool) (f : FwdEntry), (tget s.fwd.entries e = some f) ∧ (f.basted = none) ∧ (f.state ≠ .idle) ∧ (f.state ≠ .transcoding) ∧ (f.isFeed = false)) ∧
    (∃ (s : State) (e : Nat) (fir : Bool) (f : FwdEntry) (k : Nat) (g : Feed), (tget s.fwd.entries e = some f) ∧ (f.basted = none) ∧ (f.state ≠ .idle) ∧ ((f.state = .transcoding ∧ f.trans.map (·.2) = some k ∨ f.state ≠ .transcoding ∧ f.isFeed = true ∧ k = f.object)) ∧ (tget s.pic.feeds k = some g)) ∧
    (∃ (s : State) (l : Nat) (r : RtcpReport) (q : Leg), (s.legLive l = some q) ∧ (q.state = .active)) ∧
    (∃ (s : State) (l : Nat) (kbps : Nat) (q : Leg), (s.legLive l = some q) ∧ (q.state = .active)) ∧
    (∃ (s : State) (o : Nat) (isFeed : Bool) (p : MediaPkt) (m : Nat) (fresh : Bool) (x : Int × FwdSource) (r : FwdSource) (layer : Nat × Nat), (s.objectLive isFeed o = true) ∧ ((isFeed && s.feedSilent o p.spatial) = false) ∧ (s.atWork 2 1 = true) ∧ (m = s.media (s.objectConf isFeed o)) ∧ (fresh = (s.objectRates isFeed o).lastTs.all (fun t => decide (0 < (p.ts - t).toInt))) ∧ (x = (if isFeed then ((State.feedCapture ((tget s.pic.feeds o).elim 0 (·.tsBase)) p.ts m), s.objectRates isFeed o) else State.sourceCapture (s.objectRates isFeed o) p m)) ∧ (r = (if fresh then State.settleSource { x.2 with lastTs := some p.ts, sizes := if p.sizes = [] then x.2.sizes else p.sizes } x.1 else x.2)) ∧ (layer = (if isFeed then (p.spatial, p.temporal) else sourceLayer ((s.objectCodec isFeed o).getD 0) r p))) ∧
    (∃ (s : State) (e : Nat) (f : FwdEntry), (tget s.fwd.entries e = some f) ∧ (f.keyAsked = false) ∧ (needsKey s f = true ∧ f.targetAt + 4800 ≤ s.entryMedia f ∨ startWait f (s.entryMedia f) = true)) ∧
    (∃ (s : State) (e : Nat) (f : FwdEntry) (t : Nat), (tget s.fwd.entries e = some f) ∧ (f.state = .paused) ∧ (f.mode = 0) ∧ (f.trans = none) ∧ (s.entryLive f = true) ∧ ((s.line f.leg).transcodeAfterMs ≠ 0xFFFF) ∧ (f.pausedSince = some t) ∧ (t + (s.line f.leg).transcodeAfterMs * 48 ≤ s.entryMedia f)) :=
  ⟨⟨(asks (rowFwdSubscribe (0 : Mbx) (sub0 : SubscribeReq)) sPics), 0, (cmdFor (rowFwdSubscribe (0 : Mbx) (sub0 : SubscribeReq))), sub0, _, 0, _, _, rfl, by decide +kernel, by decide +kernel, rfl, rfl⟩,
   ⟨(asks (rowFwdUnsubscribe (0 : Mbx) (0 : U32)) sFwd), 0, (cmdFor (rowFwdUnsubscribe (0 : Mbx) (0 : U32))), 0, by decide +kernel⟩,
   ⟨(asks (rowFwdSet (0 : Mbx) ({ entry := 0, change := 1, priority := 3, tileW := 640, tileH := 480, mode := 0, maxSpatial := 2, maxTemporal := 2, transcodeRate := 0 } : FwdSetReq)) sFwd), 0, (cmdFor (rowFwdSet (0 : Mbx) ({ entry := 0, change := 1, priority := 3, tileW := 640, tileH := 480, mode := 0, maxSpatial := 2, maxTemporal := 2, transcodeRate := 0 } : FwdSetReq))), { entry := 0, change := 1, priority := 3, tileW := 640, tileH := 480, mode := 0, maxSpatial := 2, maxTemporal := 2, transcodeRate := 0 }, by decide +kernel⟩,
   ⟨(asks (rowFwdRetarget (0 : Mbx) (0 : U32) (5 : U32)) sFwd), 0, (cmdFor (rowFwdRetarget (0 : Mbx) (0 : U32) (5 : U32))), 0, 5, by decide +kernel⟩,
   ⟨(asks (rowFwdSource (0 : Mbx) (1 : U32) (5 : U8) (0 : U8)) sPics), 0, (cmdFor (rowFwdSource (0 : Mbx) (1 : U32) (5 : U8) (0 : U8))), 1, 5, 0, by decide +kernel⟩,
   ⟨(asks (rowFwdLine (0 : Mbx) ({ leg := 0, pacePct := 150, minKbps := 64, startKbps := 0, upHoldMs := 1000, transcodeAfterMs := 3000 } : FwdLineReq)) sPics), 0, (cmdFor (rowFwdLine (0 : Mbx) ({ leg := 0, pacePct := 150, minKbps := 64, startKbps := 0, upHoldMs := 1000, transcodeAfterMs := 3000 } : FwdLineReq))), { leg := 0, pacePct := 150, minKbps := 64, startKbps := 0, upHoldMs := 1000, transcodeAfterMs := 3000 }, by decide +kernel⟩,
   ⟨(asks (rowFwdQuery (0 : U32)) sFwd), 0, (cmdFor (rowFwdQuery (0 : U32))), 0, _, rfl, by decide +kernel⟩,
   ⟨(asks (rowFwdLeg (0 : U16)) sFwd), 0, (cmdFor (rowFwdLeg (0 : U16))), 0, by decide +kernel⟩,
   ⟨sFwd, 0, true, _, rfl, by decide +kernel, by decide +kernel, by decide +kernel, by decide +kernel⟩,
   ⟨withEntry { ent0 with isFeed := true, object := 0 }, 0, true, _, 0, _, rfl, by decide +kernel, by decide +kernel, .inr (by decide +kernel), rfl⟩,
   ⟨sPics, 0, rep0, _, rfl, by decide +kernel⟩,
   ⟨sPics, 0, 500, _, rfl, by decide +kernel⟩,
   ⟨sFwd, 1, false, med0, _, _, _, _, _, by decide +kernel, by decide +kernel, by decide +kernel, rfl, rfl, rfl, rfl, rfl⟩,
   ⟨withEntry { ent0 with state := .waitingUp, cur := some (0, 0), target := some (1, 0), targetAt := 0 }, 0, _, rfl, by decide +kernel, .inl (by decide +kernel)⟩,
   ⟨withEntry { ent0 with state := .paused, pausedSince := some 0 }, 0, _, 0, rfl, by decide +kernel, by decide +kernel, by decide +kernel, by decide +kernel, by decide +kernel, by decide +kernel, by decide +kernel⟩⟩

/-- Hypotheses that `Obligations.LineUpdateSetsTheEstimate` meets. -/
theorem test_LineUpdateSetsTheEstimate_hyps :
    ∃ (s : State) (l : Nat) (q : Leg) (m : Nat) (old : Line) (u : State), (s.legLive l = some q) ∧ (q.state = .active) ∧ (m = s.media q.conf) ∧ (old = s.line l) ∧ ((∀ j, old.lastUpdate = some j → j < m / 4800)) ∧ (s.twin.state ≠ .standby) ∧ (u = s.setShaper l (old.e * old.pacePct / 100)) :=
  ⟨sPics, 0, _, _, _, _, rfl, by decide +kernel, rfl, rfl, by decide +kernel, by decide +kernel, rfl⟩

/-- Hypotheses that `Obligations.AllocationStaysInTheBudget` meets. -/
theorem test_AllocationStaysInTheBudget_hyps :
    ∃ (v : Int) (bids : List Bid) (w : Nat), ((∀ b ∈ bids, b.held = none)) :=
  ⟨1000, [], 5, by simp⟩

/-- Hypotheses that `Obligations.SelectedPacketsAreNumberedInSequence` meets. -/
theorem test_SelectedPacketsAreNumberedInSequence_hyps :
    ∃ (n : Numbering) (flags : List Bool), (n.restart = false) :=
  ⟨{ seqOff := 0, high := 0, lastOut := 0 }, [true, false], by decide +kernel⟩

/-- Hypotheses that the clauses of `Obligations.ConferencesAndLegsAct` meet. -/
theorem test_ConferencesAndLegsAct_hyps :
    (∃ (s : State) (m : Mbx) (c : Cmd) (conf : U16) (speakers : U8) (standing : Bool) (legLimit : U32) (startMedia : U64) (k : Nat), (confIndex conf s = some k) ∧ (s.takes m (rowConfCreate m conf speakers standing legLimit startMedia) c 20 = true)) ∧
    (∃ (s : State) (m : Mbx) (c : Cmd) (conf : U16) (force : Bool), (s.takes m (rowConfDelete m conf force) c 0 = true)) ∧
    (∃ (s : State) (m : Mbx) (c : Cmd) (conf : U16) (speakers : U8) (standing : Bool) (legField : Bool) (legLimit : U32), (s.takes m (rowConfSet m conf speakers standing legField legLimit) c 0 = true)) ∧
    (∃ (s : State) (m : Mbx) (c : Cmd) (conf : U16) (q : Conf), (tget s.model.confs conf.toNat = some q) ∧ (s.takes m (rowConfQuery conf) c 24 = true)) ∧
    (∃ (s : State) (m : Mbx) (c : Cmd), (s.takes m rowConfCapacity c 232 = true)) ∧
    (∃ (s : State) (m : Mbx) (c : Cmd) (o : LegOffer) (l : Nat), (s.legIndex (LegOffer.atVersion o c.hdr.version) = some l) ∧ (s.takes m (rowLegOpen m o) c 16 = true)) ∧
    (∃ (s : State) (m : Mbx) (c : Cmd) (r : LegOffer) (o : LegOffer) (a : SoundFig) (b : SoundFig), (o = LegOffer.atVersion r c.hdr.version) ∧ (s.takes m (rowLegCheck m r) c 12 = true) ∧ (a = s.soundOf o.conf.toNat) ∧ (b = (s.withLeg ((s.legIndex o).getD 65536) (s.legOf o (s.entitled o.endpointKey).1 (s.entitled o.endpointKey).2 none)).soundOf o.conf.toNat)) ∧
    (∃ (s : State) (m : Mbx) (c : Cmd) (o : LegOffer) (q : Leg) (confs : List Nat) (t : State), (tget s.model.legs o.leg.toNat = some q) ∧ (s.takes m (rowLegUpdate m o) c 16 = true) ∧ (confs = (if q.conf = o.conf.toNat then [o.conf.toNat] else [q.conf, o.conf.toNat])) ∧ (t = (doLegUpdate o s).1)) ∧
    (∃ (s : State) (m : Mbx) (c : Cmd) (leg : U16), (s.takes m (rowLegClose m leg) c 0 = true)) ∧
    (∃ (s : State) (m : Mbx) (c : Cmd) (leg : U16) (hold : Bool), (s.takes m (rowLegHold m leg hold) c 0 = true)) ∧
    (∃ (s : State) (m : Mbx) (c : Cmd) (leg : U16) (q : Leg), (tget s.model.legs leg.toNat = some q) ∧ (s.takes m (rowLegQuery leg) c 24 = true)) ∧
    (∃ (s : State) (c : Nat) (q : Conf), (tget s.model.confs c = some q) ∧ (q.origin = none) ∧ (q.basted = none) ∧ (tickAfter q.notBefore ≤ s.tbNs 3) ∧ (s.twin.state ≠ .standby) ∧ (s.twin.state ≠ .resync)) ∧
    (∃ (s : State) (i : Nat), (s.inHold s.model.confHold i = false)) ∧
    (∃ (s : State) (i : Nat), (s.inHold s.model.legHold i = false)) ∧
    (∃ (s : State) (i : Nat), (s.inHold s.fwd.hold i = false)) ∧
    (∃ (s : State) (l : Nat) (fresh : Bool) (q : Leg) (o : LegOffer) (u : State), (s.legLive l = some q) ∧ (q.state ≠ .closing) ∧ ((fresh = false ∧ o = q.offer ∨ fresh = true ∧ q.newAddr.map (withAddr q.offer) = some o)) ∧ (u = s.modLeg l (fun q => { q with offer := o, newAddr := if fresh then none else q.newAddr, connected := true, consentUntil := if o.ice then some (s.now + LegOffer.consentSec o * State.ticksPerS) else q.consentUntil }))) ∧
    (∃ (s : State) (l : Nat) (suite : U8) (version : U8) (q : Leg), (s.legLive l = some q) ∧ (q.state = .connecting) ∧ (q.keyed = false) ∧ (dtlsLeg q.offer = true) ∧ (s.pkWaits l = false)) ∧
    (∃ (s : State) (l : Nat) (suite : U8) (version : U8) (q : Leg), (s.legLive l = some q) ∧ (q.state = .connecting) ∧ (q.keyed = false) ∧ (dtlsLeg q.offer = true) ∧ (s.pkWaits l = false)) ∧
    (∃ (s : State) (l : Nat) (q : Leg), (s.notPrimary = false) ∧ (s.legLive l = some q) ∧ (q.state = .connecting) ∧ (q.connectUntil ≤ s.now)) ∧
    (∃ (s : State) (l : Nat) (q : Leg) (t : Nat), (s.notPrimary = false) ∧ (s.legLive l = some q) ∧ (q.state = .active ∨ q.state = .held) ∧ (q.consentUntil = some t) ∧ (t ≤ s.now)) ∧
    (∃ (s : State) (l : Nat) (t : Nat), (s.notPrimary = false) ∧ ((s.rekey l).spentSince = some t) ∧ (t + (s.cip.classes.get (if s.classOf l = 1 then 1 else 0)).rekeyS * 1000000000 ≤ s.chipNs)) ∧
    (∃ (s : State) (l : Nat) (q : Leg), (s.notPrimary = false) ∧ (s.legLive l = some q) ∧ (q.state = .closing) ∧ ((s.legQ l).frames = [] ∨ q.drainUntil ≤ s.now)) ∧
    (∃ (s : State) (r : Nat) (x : Record), (tget s.keep.unwritten r = some (some x)) ∧ (s.rosterRoom 288 = St.ok) ∧ (s.notPrimary = false)) ∧
    (∃ (s : State) (r : Nat), (tget s.keep.unwritten r = some none) ∧ (s.rosterRoom 288 = St.ok) ∧ (s.notPrimary = false)) :=
  ⟨⟨(asks (rowConfCreate (0 : Mbx) (0xFFFF : U16) (3 : U8) (false : Bool) (0 : U32) (0 : U64)) sLegs), 0, (cmdFor (rowConfCreate (0 : Mbx) (0xFFFF : U16) (3 : U8) (false : Bool) (0 : U32) (0 : U64))), 0xFFFF, 3, false, 0, 0, 1, by decide +kernel, by decide +kernel⟩,
   ⟨(asks (rowConfDelete (0 : Mbx) (0 : U16) (true : Bool)) sLegs), 0, (cmdFor (rowConfDelete (0 : Mbx) (0 : U16) (true : Bool))), 0, true, by decide +kernel⟩,
   ⟨(asks (rowConfSet (0 : Mbx) (0 : U16) (4 : U8) (true : Bool) (true : Bool) (50 : U32)) sLegs), 0, (cmdFor (rowConfSet (0 : Mbx) (0 : U16) (4 : U8) (true : Bool) (true : Bool) (50 : U32))), 0, 4, true, true, 50, by decide +kernel⟩,
   ⟨(asks (rowConfQuery (0 : U16)) sLegs), 0, (cmdFor (rowConfQuery (0 : U16))), 0, _, rfl, by decide +kernel⟩,
   ⟨(asks rowConfCapacity sLegs), 0, (cmdFor rowConfCapacity), by decide +kernel⟩,
   ⟨(asks (rowLegOpen (0 : Mbx) ({ offer3 with security := 1 } : LegOffer)) sLegs), 0, (cmdFor (rowLegOpen (0 : Mbx) ({ offer3 with security := 1 } : LegOffer))), { offer3 with security := 1 }, 3, by decide +kernel, by decide +kernel⟩,
   ⟨(asks (rowLegCheck (0 : Mbx) ({ offer3 with security := 1 } : LegOffer)) sLegs), 0, (cmdFor (rowLegCheck (0 : Mbx) ({ offer3 with security := 1 } : LegOffer))), { offer3 with security := 1 }, _, _, _, rfl, by decide +kernel, rfl, rfl⟩,
   ⟨(asks (rowLegUpdate (0 : Mbx) ({ leg1.offer with leg := 1, levels := false } : LegOffer)) sLegs), 0, (cmdFor (rowLegUpdate (0 : Mbx) ({ leg1.offer with leg := 1, levels := false } : LegOffer))), { leg1.offer with leg := 1, levels := false }, _, _, _, rfl, by decide +kernel, rfl, rfl⟩,
   ⟨(asks (rowLegClose (0 : Mbx) (0 : U16)) sLegs), 0, (cmdFor (rowLegClose (0 : Mbx) (0 : U16))), 0, by decide +kernel⟩,
   ⟨(asks (rowLegHold (0 : Mbx) (0 : U16) (true : Bool)) sLegs), 0, (cmdFor (rowLegHold (0 : Mbx) (0 : U16) (true : Bool))), 0, true, by decide +kernel⟩,
   ⟨(asks (rowLegQuery (0 : U16)) sLegs), 0, (cmdFor (rowLegQuery (0 : U16))), 0, _, rfl, by decide +kernel⟩,
   ⟨{ sLegs with model := { sLegs.model with confs := [(0, { conf0 with origin := none })] } }, 0, _, rfl, by decide +kernel, by decide +kernel, by decide +kernel, by decide +kernel, by decide +kernel⟩,
   ⟨sLegs, 5, by decide +kernel⟩,
   ⟨sLegs, 5, by decide +kernel⟩,
   ⟨sLegs, 5, by decide +kernel⟩,
   ⟨sLegs, 1, false, _, leg1.offer, _, rfl, by decide +kernel, .inl (by decide +kernel), rfl⟩,
   ⟨sLegs, 1, 1, 2, _, rfl, by decide +kernel, by decide +kernel, by decide +kernel, by decide +kernel⟩,
   ⟨sLegs, 1, 1, 2, _, rfl, by decide +kernel, by decide +kernel, by decide +kernel, by decide +kernel⟩,
   ⟨sLegs, 1, _, by decide +kernel, rfl, by decide +kernel, by decide +kernel⟩,
   ⟨{ sLegs with model := { sLegs.model with legs := [(0, { leg0 with consentUntil := some 7 })] } }, 0, _, 7, by decide +kernel, rfl, .inl rfl, by decide +kernel, by decide +kernel⟩,
   ⟨{ sLegs with cip := { sLegs.cip with rekeys := [(0, { spentSince := some 0 })] } }, 0, 0, by decide +kernel, by decide +kernel, by decide +kernel⟩,
   ⟨{ sLegs with model := { sLegs.model with legs := [(0, { leg0 with state := .closing })] } }, 0, _, by decide +kernel, rfl, by decide +kernel, .inl (by decide +kernel)⟩,
   ⟨{ sLegs with keep := { sLegs.keep with unwritten := [(7, some rec0)] } }, 7, rec0, by decide +kernel, by decide +kernel, by decide +kernel⟩,
   ⟨{ sLegs with keep := { sLegs.keep with unwritten := [(7, none)] } }, 7, by decide +kernel, by decide +kernel, by decide +kernel⟩⟩

/-- Hypotheses that the clauses of `Obligations.SeamsAct` meet. -/
theorem test_SeamsAct_hyps :
    (∃ (s : State) (m : Mbx) (c : Cmd) (scope : U16) (timeoutS : U16), (s.takes m (rowSeamOpen m scope timeoutS) c 4 = true)) ∧
    (∃ (s : State) (m : Mbx) (c : Cmd) (id : U16) (asap : Bool) (tNs : U32) (t : U64) (k : Seam) (v : Nat × Nat), (s.ownSeam m id = some k) ∧ (s.takes m (rowSeamClose m id asap tNs t) c 16 = true) ∧ (v = (if asap then s.asapT k else (t.toNat, if k.scope.isSome then 0 else tNs.toNat))) ∧ (k.entries = [])) ∧
    (∃ (s : State) (m : Mbx) (c : Cmd) (id : U16) (asap : Bool) (tNs : U32) (t : U64) (k : Seam) (v : Nat × Nat), (s.ownSeam m id = some k) ∧ (s.takes m (rowSeamClose m id asap tNs t) c 16 = true) ∧ (v = (if asap then s.asapT k else (t.toNat, if k.scope.isSome then 0 else tNs.toNat))) ∧ (k.entries ≠ [])) ∧
    (∃ (s : State) (m : Mbx) (c : Cmd) (id : U16), (s.takes m (rowSeamUnpick m id) c 0 = true)) ∧
    (∃ (s : State) (m : Mbx) (c : Cmd) (id : U16) (k : Seam), (s.ownSeam m id = some k) ∧ (s.takes m (rowSeamQuery m id) c 24 = true)) ∧
    (∃ (s : State) (id : U16) (k : Seam), (s.seamLive id = some k) ∧ (s.decides = true) ∧ (k.state = .open) ∧ (k.openUntil ≤ s.clk)) ∧
    (∃ (s : State) (id : U16) (k : Seam), (s.seamLive id = some k) ∧ (s.decides = true) ∧ (k.state = .confirming) ∧ (s.beforeDeadline k = false)) ∧
    (∃ (s : State) (id : U16) (k : Seam) (cell : U16), (s.seamLive id = some k) ∧ (k.state = .committed) ∧ (k.parts.any (fun p => p.cell == cell && !p.applied) = true) ∧ (s.boundaryDue k cell = true) ∧ (s.cannotApply k cell = true)) ∧
    (∃ (s : State) (id : U16) (k : Seam) (cell : U16) (parts : List SeamPart) (u : State), (s.seamLive id = some k) ∧ (k.state = .committed) ∧ (k.parts.any (fun p => p.cell == cell && !p.applied) = true) ∧ (s.boundaryDue k cell = true) ∧ (s.cannotApply k cell = false) ∧ (parts = k.parts.map (fun (p : SeamPart) => if p.cell = cell then { p with applied := true } else p)) ∧ (u = ((k.cmds.filter (fun c => c.cell == cell)).foldl (fun s c => s.applyCmd k c) s).modSeam id (fun q => { q with parts, cmds := q.cmds.filter (fun c => c.cell != cell) }))) :=
  ⟨⟨(asks (rowSeamOpen (0 : Mbx) (0 : U16) (60 : U16)) sPics), 0, (cmdFor (rowSeamOpen (0 : Mbx) (0 : U16) (60 : U16))), 0, 60, by decide +kernel⟩,
   ⟨(asks (rowSeamClose (0 : Mbx) (1 : U16) (true : Bool) (0 : U32) (0 : U64)) (withSeam seam0)), 0, (cmdFor (rowSeamClose (0 : Mbx) (1 : U16) (true : Bool) (0 : U32) (0 : U64))), 1, true, 0, 0, _, _, rfl, by decide +kernel, rfl, by decide +kernel⟩,
   ⟨(asks (rowSeamClose (0 : Mbx) (1 : U16) (true : Bool) (0 : U32) (0 : U64)) (withSeam { seam0 with entries := [{ cell := 0x1000, item := .confSpeakers 0 }], parts := [{ cell := 0x1000 }] })), 0, (cmdFor (rowSeamClose (0 : Mbx) (1 : U16) (true : Bool) (0 : U32) (0 : U64))), 1, true, 0, 0, _, _, rfl, by decide +kernel, rfl, by decide +kernel⟩,
   ⟨(asks (rowSeamUnpick (0 : Mbx) (1 : U16)) (withSeam seam0)), 0, (cmdFor (rowSeamUnpick (0 : Mbx) (1 : U16))), 1, by decide +kernel⟩,
   ⟨(asks (rowSeamQuery (0 : Mbx) (1 : U16)) (withSeam seam0)), 0, (cmdFor (rowSeamQuery (0 : Mbx) (1 : U16))), 1, _, rfl, by decide +kernel⟩,
   ⟨withSeam { seam0 with openUntil := 5 }, 1, _, rfl, by decide +kernel, by decide +kernel, by decide +kernel⟩,
   ⟨withSeam { seam0 with state := .confirming }, 1, _, rfl, by decide +kernel, by decide +kernel, by decide +kernel⟩,
   ⟨{ (withSeam { seam0 with state := .committed, scope := some 0, parts := [part0], entries := [{ cell := 0x6000, item := .leg 99 }] }) with fab := { sPics.fab with cells := [(0x6000, { fenced := true })] }, twin := { sPics.twin with state := .standby } }, 1, _, 0x6000, rfl, by decide +kernel, by decide +kernel, by decide +kernel, by decide +kernel⟩,
   ⟨withSeam { seam0 with state := .committed, scope := some 0, parts := [part0] }, 1, _, 0x6000, _, _, rfl, by decide +kernel, by decide +kernel, by decide +kernel, by decide +kernel, rfl, rfl⟩⟩

/-- Hypotheses that the clauses of `Obligations.AccessActs` meet. -/
theorem test_AccessActs_hyps :
    (∃ (s : State) (m : Mbx) (c : Cmd) (q : AccessPortReq), (s.takes m (rowAccessPort q) c 0 = true)) ∧
    (∃ (s : State) (m : Mbx) (c : Cmd) (port : U8) (kind : U8) (terminal : U8) (gemId : U16) (allocId : U16), (s.takes m (rowAccessGem m port 1 gemId kind terminal allocId) c 0 = true)) ∧
    (∃ (s : State) (m : Mbx) (c : Cmd) (port : U8) (mode : U8) (kind : U8) (terminal : U8) (gemId : U16) (allocId : U16), (mode ≠ 1) ∧ (s.takes m (rowAccessGem m port mode gemId kind terminal allocId) c 1 = true)) ∧
    (∃ (s : State) (m : Mbx) (c : Cmd) (port : U8) (terminal : U8) (index : U8) (fixed : U32) (assured : U32) (max : U32) (weight : U16), (s.takes m (rowAccessTcont m port 1 terminal index fixed assured max weight) c 0 = true)) ∧
    (∃ (s : State) (m : Mbx) (c : Cmd) (port : U8) (mode : U8) (terminal : U8) (index : U8) (fixed : U32) (assured : U32) (max : U32) (weight : U16), (mode ≠ 1) ∧ (s.takes m (rowAccessTcont m port mode terminal index fixed assured max weight) c 0 = true)) ∧
    (∃ (s : State) (m : Mbx) (c : Cmd) (port : U8) (mode : U8) (onuId : U8) (keyGroup : U8) (serial : U64) (o : Nat), (onuFor s (fin2 port.toNat) onuId = some o) ∧ (s.takes m (rowAccessTree m port mode onuId keyGroup serial) c 1 = true)) ∧
    (∃ (s : State) (m : Mbx) (c : Cmd) (port : U8) (a : AccPort), (a = s.accPort (fin2 port.toNat)) ∧ (s.takes m (rowAccessQuery port 0xFF) c (24 + 8 * a.counters.toList.length) = true)) ∧
    (∃ (s : State) (m : Mbx) (c : Cmd) (port : U8) (terminal : U8) (a : AccPort) (t : Terminal), (terminal ≠ 0xFF) ∧ (a = s.accPort (fin2 port.toNat)) ∧ (tget a.terminals terminal.toNat = some t) ∧ (s.takes m (rowAccessQuery port terminal) c (24 + 8 * a.counters.toList.length) = true)) ∧
    (∃ (s : State) (u : State) (p : Fin 2) (a : AccPort) (serial : U64) (onu : Nat) (t : Terminal), (s.treeRuns p = true) ∧ (a = s.accPort p) ∧ (u = s.consumed p) ∧ (a.inWindow = true) ∧ (a.terminals.find? (fun t => t.2.serial == serial) = some (onu, t)) ∧ (t.disabled = false) ∧ (t.state ≠ 5) ∧ (t.state ≠ 4)) ∧
    (∃ (s : State) (u : State) (p : Fin 2) (a : AccPort) (serial : U64) (q : AccessPortReq), (s.treeRuns p = true) ∧ (a = s.accPort p) ∧ (u = s.consumed p) ∧ (a.inWindow = true) ∧ (a.terminals.find? (fun t => t.2.serial == serial) = none) ∧ (a.cfg = some q) ∧ (q.autoDiscover = true)) ∧
    (∃ (s : State) (u : State) (p : Fin 2) (a : AccPort) (onu : Nat) (roundTrip : Nat) (t : Terminal) (conts : Table Tcont), (s.treeRuns p = true) ∧ (a = s.accPort p) ∧ (u = s.consumed p) ∧ (tget a.terminals onu = some t) ∧ (t.state = 4) ∧ (conts = a.tconts.filter (fun c => c.1 / 4 == onu))) ∧
    (∃ (s : State) (u : State) (p : Fin 2) (a : AccPort), (s.treeRuns p = true) ∧ (a = s.accPort p) ∧ (u = s.consumed p)) ∧
    (∃ (s : State) (u : State) (p : Fin 2) (a : AccPort), (s.treeRuns p = true) ∧ (a = s.accPort p) ∧ (u = s.consumed p)) ∧
    (∃ (s : State) (u : State) (p : Fin 2) (a : AccPort), (s.treeRuns p = true) ∧ (a = s.accPort p) ∧ (u = s.consumed p)) ∧
    (∃ (s : State) (u : State) (p : Fin 2) (a : AccPort) (onu : Nat) (t : Terminal) (due : Nat), (s.treeRuns p = true) ∧ (a = s.accPort p) ∧ (u = s.consumed p) ∧ (tget a.terminals onu = some t) ∧ (t.state = 4) ∧ (t.regUntil = some due) ∧ (due ≤ s.clk)) ∧
    (∃ (s : State) (u : State) (p : Fin 2) (a : AccPort) (onu : Nat) (t : Terminal), (s.treeRuns p = true) ∧ (a = s.accPort p) ∧ (u = s.consumed p) ∧ (tget a.terminals onu = some t) ∧ (t.state = 5)) ∧
    (∃ (s : State) (u : State) (p : Fin 2) (a : AccPort) (q : AccessPortReq), (s.treeRuns p = true) ∧ (a = s.accPort p) ∧ (u = s.consumed p) ∧ (a.cfg = some q) ∧ (a.windowAt = 0 ∨ a.windowAt + 100 * State.ticksPerMs ≤ s.clk) ∧ (q.autoDiscover = true ∨ a.terminals.any (fun t => t.2.state != 5 && !t.2.disabled) = true)) ∧
    (∃ (s : State) (u : State) (p : Fin 2) (a : AccPort) (g : Nat) (frame : Nat) (q : AccessPortReq) (now : Nat × Nat) (d : BitVec 256 × State), (s.treeRuns p = true) ∧ (a = s.accPort p) ∧ (u = s.consumed p) ∧ (g < 14) ∧ (thas a.groupSwitch g = false) ∧ (a.cfg = some q) ∧ (now = (tget a.groupIndex g).getD (0, 0)) ∧ (d = s.drawKey) ∧ (now.2 + (if q.keyRotateS = 0 then 3600 else q.keyRotateS.toNat) ≤ s.chipS ∨ (s.keySlot (State.accSlot p (State.groupSlot a g))).state = .nearSpent)) ∧
    (∃ (s : State) (u : State) (p : Fin 2) (a : AccPort) (reports : List (Nat × Nat)), (s.treeRuns p = true) ∧ (a = s.accPort p) ∧ (u = s.consumed p)) ∧
    (∃ (s : State) (u : State) (p : Fin 2) (a : AccPort), (s.treeRuns p = true) ∧ (a = s.accPort p) ∧ (u = s.consumed p) ∧ (a.oltgAt + 10 * State.ticksPerS ≤ s.clk)) ∧
    (∃ (s : State) (u : State) (p : Fin 2) (a : AccPort) (power : U16) (k : Nat), (s.treeRuns p = true) ∧ (a = s.accPort p) ∧ (u = s.consumed p) ∧ ((((a.terminals.filter (fun t => t.2.state == 5)).map (·.1)).find? (fun t => decide (a.rssiNext ≤ t))) = some k)) ∧
    (∃ (s : State) (u : State) (p : Fin 2) (a : AccPort) (power : U16) (k : Nat), (s.treeRuns p = true) ∧ (a = s.accPort p) ∧ (u = s.consumed p) ∧ ((((a.terminals.filter (fun t => t.2.state == 5)).map (·.1)).find? (fun t => decide (a.rssiNext ≤ t))) = none) ∧ (((a.terminals.filter (fun t => t.2.state == 5)).map (·.1)).head? = some k)) ∧
    (∃ (s : State) (u : State) (p : Fin 2) (a : AccPort) (i : U8), (s.treeRuns p = true) ∧ (a = s.accPort p) ∧ (u = s.consumed p) ∧ (i.toNat = 16 + p.val) ∧ (s.linkState i.toNat ≠ 2)) ∧
    (∃ (s : State) (u : State) (p : Fin 2) (a : AccPort) (lv : Option (Fin 8)) (c : Candidate) (i : U8) (v : State) (onu : Option Nat), (s.treeRuns p = true) ∧ (a = s.accPort p) ∧ (u = s.consumed p) ∧ (i.toNat = 16 + p.val) ∧ (s.linkState i.toNat = 2) ∧ (s.claimed p = true) ∧ (a.waits = false) ∧ (v = s.accClean p) ∧ (v.pick i.toNat = some (lv, c)) ∧ (onu = State.terminalOf (v.accPort p) c.frame) ∧ (State.gemFor (v.accPort p) onu (bit c.leg.isSome) = none)) ∧
    (∃ (s : State) (u : State) (p : Fin 2) (a : AccPort) (lv : Option (Fin 8)) (c : Candidate) (i : U8) (v : State) (onu : Option Nat) (gem : Nat) (k : Nat) (w : State × Bool), (s.treeRuns p = true) ∧ (a = s.accPort p) ∧ (u = s.consumed p) ∧ (i.toNat = 16 + p.val) ∧ (s.linkState i.toNat = 2) ∧ (s.claimed p = true) ∧ (a.waits = false) ∧ (v = s.accClean p) ∧ (v.pick i.toNat = some (lv, c)) ∧ (onu = State.terminalOf (v.accPort p) c.frame) ∧ (State.gemFor (v.accPort p) onu (bit c.leg.isSome) = some gem) ∧ (k = (match onu.bind (tget (v.accPort p).terminals) with | some t => State.groupSlot (v.accPort p) t.keyGroup | none => (v.accPort p).bcastIndex)) ∧ (w = (v.serve i.toNat lv c).accUse p k)) :=
  ⟨⟨(asks (rowAccessPort (accessReq0 : AccessPortReq)) sHead), 0, (cmdFor (rowAccessPort (accessReq0 : AccessPortReq))), accessReq0, by decide +kernel⟩,
   ⟨(asks (rowAccessGem (0 : Mbx) (0 : U8) 1 (100 : U16) (0 : U8) (3 : U8) (1036 : U16)) sHead), 0, (cmdFor (rowAccessGem (0 : Mbx) (0 : U8) 1 (100 : U16) (0 : U8) (3 : U8) (1036 : U16))), 0, 0, 3, 100, 1036, by decide +kernel⟩,
   ⟨(asks (rowAccessGem (0 : Mbx) (0 : U8) (0 : U8) (101 : U16) (0 : U8) (3 : U8) (1036 : U16)) sHead), 0, (cmdFor (rowAccessGem (0 : Mbx) (0 : U8) (0 : U8) (101 : U16) (0 : U8) (3 : U8) (1036 : U16))), 0, 0, 0, 3, 101, 1036, by decide +kernel, by decide +kernel⟩,
   ⟨(asks (rowAccessTcont (0 : Mbx) (0 : U8) 1 (3 : U8) (0 : U8) (0 : U32) (0 : U32) (0 : U32) (0 : U16)) sHead), 0, (cmdFor (rowAccessTcont (0 : Mbx) (0 : U8) 1 (3 : U8) (0 : U8) (0 : U32) (0 : U32) (0 : U32) (0 : U16))), 0, 3, 0, 0, 0, 0, 0, by decide +kernel⟩,
   ⟨(asks (rowAccessTcont (0 : Mbx) (0 : U8) (0 : U8) (3 : U8) (1 : U8) (1000 : U32) (1000 : U32) (0 : U32) (0 : U16)) sHead), 0, (cmdFor (rowAccessTcont (0 : Mbx) (0 : U8) (0 : U8) (3 : U8) (1 : U8) (1000 : U32) (1000 : U32) (0 : U32) (0 : U16))), 0, 0, 3, 1, 1000, 1000, 0, 0, by decide +kernel, by decide +kernel⟩,
   ⟨(asks (rowAccessTree (0 : Mbx) (0 : U8) (0 : U8) (0xFF : U8) (2 : U8) (99 : U64)) sHead), 0, (cmdFor (rowAccessTree (0 : Mbx) (0 : U8) (0 : U8) (0xFF : U8) (2 : U8) (99 : U64))), 0, 0, 0xFF, 2, 99, 0, by decide +kernel, by decide +kernel⟩,
   ⟨(asks (rowAccessQuery (0 : U8) 0xFF) sHead), 0, (cmdFor (rowAccessQuery (0 : U8) 0xFF)), 0, _, rfl, by decide +kernel⟩,
   ⟨(asks (rowAccessQuery (0 : U8) (3 : U8)) sHead), 0, (cmdFor (rowAccessQuery (0 : U8) (3 : U8))), 0, 3, _, _, by decide +kernel, rfl, rfl, by decide +kernel⟩,
   ⟨withPort { head0 with inWindow := true, terminals := [(3, { serial := 77, keyGroup := 1, state := 2 })] }, _, 0, _, 77, 3, { serial := 77, keyGroup := 1, state := 2 }, by decide +kernel, rfl, rfl, by decide +kernel, by decide +kernel, by decide +kernel, by decide +kernel, by decide +kernel⟩,
   ⟨withPort { head0 with inWindow := true }, _, 0, _, 99, accessReq0, by decide +kernel, rfl, rfl, by decide +kernel, by decide +kernel, by decide +kernel, by decide +kernel⟩,
   ⟨sHead, _, 0, _, 4, 100000, _, _, by decide +kernel, rfl, rfl, rfl, by decide +kernel, rfl⟩,
   ⟨sHead, _, 0, _, by decide +kernel, rfl, rfl⟩,
   ⟨sHead, _, 0, _, by decide +kernel, rfl, rfl⟩,
   ⟨sHead, _, 0, _, by decide +kernel, rfl, rfl⟩,
   ⟨sHead, _, 0, _, 4, _, _, by decide +kernel, rfl, rfl, rfl, by decide +kernel, rfl, by decide +kernel⟩,
   ⟨sHead, _, 0, _, 3, _, by decide +kernel, rfl, rfl, rfl, by decide +kernel⟩,
   ⟨sHead, _, 0, _, accessReq0, by decide +kernel, rfl, rfl, by decide +kernel, .inl rfl, by decide +kernel⟩,
   ⟨sHead, _, 0, _, 1, 100, accessReq0, _, _, by decide +kernel, rfl, rfl, by decide +kernel, by decide +kernel, by decide +kernel, rfl, rfl, .inl (by decide +kernel)⟩,
   ⟨sHead, _, 0, _, [(12, 100)], by decide +kernel, rfl, rfl⟩,
   ⟨sHead, _, 0, _, by decide +kernel, rfl, rfl, by decide +kernel⟩,
   ⟨sHead, _, 0, _, 7, 3, by decide +kernel, rfl, rfl, by decide +kernel⟩,
   ⟨withPort { head0 with rssiNext := 4 }, _, 0, _, 7, 3, by decide +kernel, rfl, rfl, by decide +kernel, by decide +kernel⟩,
   ⟨{ sHead with net := { sHead.net with ifaces := sHead.net.ifaces ++ [(16, { ifc0 with enable := false })] } }, _, 0, _, 16, by decide +kernel, rfl, rfl, by decide +kernel, by decide +kernel⟩,
   ⟨withPort { head0 with gems := [(100, { kind := 2, terminal := 9, allocId := 1036, active := true })], macTable := [(5, 3)], fifos := head0.fifos.set 0 { frames := [{ length := 200, stampNs := 0, leg := 0, dst := some 5 }] } }, _, 0, _, some 0, { leg := none, frame := { length := 200, stampNs := 0, leg := 0, dst := some 5 }, since := 0 }, 16, _, _, by decide +kernel, rfl, rfl, by decide +kernel, by decide +kernel, by decide +kernel, by decide +kernel, rfl, by decide +kernel, rfl, by decide +kernel⟩,
   ⟨withPort { head0 with macTable := [(5, 3)], fifos := head0.fifos.set 0 { frames := [{ length := 200, stampNs := 0, leg := 0, dst := some 5 }] } }, _, 0, _, some 0, { leg := none, frame := { length := 200, stampNs := 0, leg := 0, dst := some 5 }, since := 0 }, 16, _, _, 100, _, _, by decide +kernel, rfl, rfl, by decide +kernel, by decide +kernel, by decide +kernel, by decide +kernel, rfl, by decide +kernel, rfl, by decide +kernel, rfl, rfl⟩⟩

/-- Hypotheses that the clauses of `Obligations.TerminalActs` meet. -/
theorem test_TerminalActs_hyps :
    (∃ (s : State) (u : State) (p : Fin 2) (a : AccPort), (s.isTerminal p = true) ∧ (a = s.accPort p) ∧ (u = s.consumed p) ∧ (a.gen = 0) ∧ (a.synced = false)) ∧
    (∃ (s : State) (u : State) (p : Fin 2) (a : AccPort) (q : AccessPortReq) (v : State), (s.isTerminal p = true) ∧ (a = s.accPort p) ∧ (u = s.consumed p) ∧ (a.synced = false) ∧ (a.cfg = some q) ∧ (v = s.modAcc p (fun a => { a with synced := true, gen := if a.gen ≠ 0 then a.gen else if q.gen = 0 then (if a.huntFast then 2 else 1) else q.gen.toNat }))) ∧
    (∃ (s : State) (u : State) (p : Fin 2) (a : AccPort), (s.isTerminal p = true) ∧ (a = s.accPort p) ∧ (u = s.consumed p) ∧ (a.synced = true) ∧ (a.state = 2)) ∧
    (∃ (s : State) (u : State) (p : Fin 2) (a : AccPort) (q : AccessPortReq), (s.isTerminal p = true) ∧ (a = s.accPort p) ∧ (u = s.consumed p) ∧ (a.synced = true) ∧ (a.state = 5) ∧ (a.cfg = some q)) ∧
    (∃ (s : State) (u : State) (p : Fin 2) (a : AccPort), (s.isTerminal p = true) ∧ (a = s.accPort p) ∧ (u = s.consumed p) ∧ (a.synced = true) ∧ (a.state ≠ 2) ∧ (a.state ≠ 5)) ∧
    (∃ (s : State) (u : State) (p : Fin 2) (a : AccPort) (usRate : U8), (s.isTerminal p = true) ∧ (a = s.accPort p) ∧ (u = s.consumed p) ∧ (a.synced = true)) ∧
    (∃ (s : State) (u : State) (p : Fin 2) (a : AccPort) (onu : Nat) (serial : U64) (q : AccessPortReq), (s.isTerminal p = true) ∧ (a = s.accPort p) ∧ (u = s.consumed p) ∧ (a.state = 2) ∧ (a.identity = some serial) ∧ (a.cfg = some q)) ∧
    (∃ (s : State) (u : State) (p : Fin 2) (a : AccPort) (relative : Bool) (bits : Int), (s.isTerminal p = true) ∧ (a = s.accPort p) ∧ (u = s.consumed p) ∧ (a.state = 4) ∧ ((∀ t, a.to1 = some t → s.clk < t))) ∧
    (∃ (s : State) (u : State) (p : Fin 2) (a : AccPort) (relative : Bool) (bits : Int) (t : Nat), (s.isTerminal p = true) ∧ (a = s.accPort p) ∧ (u = s.consumed p) ∧ (a.state = 4) ∧ (a.to1 = some t) ∧ (t ≤ s.clk)) ∧
    (∃ (s : State) (u : State) (p : Fin 2) (a : AccPort) (relative : Bool) (bits : Int), (s.isTerminal p = true) ∧ (a = s.accPort p) ∧ (u = s.consumed p) ∧ (a.state = 5)) ∧
    (∃ (s : State) (u : State) (p : Fin 2) (a : AccPort) (t : _), (s.isTerminal p = true) ∧ (a = s.accPort p) ∧ (u = s.consumed p) ∧ (a.state = 4) ∧ (a.to1 = some t) ∧ (t ≤ s.clk)) ∧
    (∃ (s : State) (u : State) (p : Fin 2) (a : AccPort) (t : _), (s.isTerminal p = true) ∧ (a = s.accPort p) ∧ (u = s.consumed p) ∧ (a.state = 6) ∧ (a.to2 = some t) ∧ (t ≤ s.clk)) ∧
    (∃ (s : State) (u : State) (p : Fin 2) (a : AccPort) (onu : _), (s.isTerminal p = true) ∧ (a = s.accPort p) ∧ (u = s.consumed p) ∧ (a.state = 5) ∧ (a.onuId = some onu)) ∧
    (∃ (s : State) (u : State) (p : Fin 2) (a : AccPort) (serial : _), (s.isTerminal p = true) ∧ (a = s.accPort p) ∧ (u = s.consumed p) ∧ (a.identity = some serial) ∧ (a.state = 2 ∨ a.state = 4 ∨ a.state = 5)) ∧
    (∃ (s : State) (u : State) (p : Fin 2) (a : AccPort) (serial : _), (s.isTerminal p = true) ∧ (a = s.accPort p) ∧ (u = s.consumed p) ∧ (a.identity = some serial) ∧ (a.state = 7)) ∧
    (∃ (s : State) (u : State) (p : Fin 2) (a : AccPort) (n : Nat), (s.isTerminal p = true) ∧ (a = s.accPort p) ∧ (u = s.consumed p) ∧ (a.synced = true)) ∧
    (∃ (s : State) (u : State) (p : Fin 2) (a : AccPort), (s.isTerminal p = true) ∧ (a = s.accPort p) ∧ (u = s.consumed p) ∧ (a.state = 2)) ∧
    (∃ (s : State) (u : State) (p : Fin 2) (a : AccPort) (g : Allocation), (s.isTerminal p = true) ∧ (a = s.accPort p) ∧ (u = s.consumed p) ∧ (a.state = 4) ∧ (s.claimed p = true) ∧ (a.sleeping = false) ∧ (a.onuId = some g.allocId)) ∧
    (∃ (s : State) (u : State) (p : Fin 2) (a : AccPort) (g : Allocation), (s.isTerminal p = true) ∧ (a = s.accPort p) ∧ (u = s.consumed p) ∧ (a.state = 5 ∨ a.state = 4 ∧ a.onuId ≠ some g.allocId) ∧ (s.claimed p = true) ∧ (a.sleeping = false) ∧ (a.allocIds.contains g.allocId = true) ∧ (g.startBit < a.lastBurstEnd)) ∧
    (∃ (s : State) (u : State) (p : Fin 2) (a : AccPort) (g : Allocation) (b : List Gem) (v : State) (r : State × Nat), (s.isTerminal p = true) ∧ (a = s.accPort p) ∧ (u = s.consumed p) ∧ (a.state = 5 ∨ a.state = 4 ∧ a.onuId ≠ some g.allocId) ∧ (s.claimed p = true) ∧ (a.sleeping = false) ∧ (a.allocIds.contains g.allocId = true) ∧ (a.lastBurstEnd ≤ g.startBit) ∧ (v = ((s.modAcc p (fun a => { a with lastBurstEnd := g.startBit + 8 * g.lengthBytes, eqd := a.eqdNext.getD a.eqd, eqdNext := none })).countAcc p 3).accClean p) ∧ (b = v.gemsOf p g.allocId) ∧ (r = State.fillGrant p ((a.mib.find? (fun e => e.cls == 268 && e.allocId == g.allocId)).elim 0 (·.gemId)) (State.kindOn b 0) (State.kindOn b 1) 4096 (g.lengthBytes - (if g.statusReport then 4 else 0)) v)) ∧
    (∃ (s : State) (u : State) (p : Fin 2) (a : AccPort), (s.isTerminal p = true) ∧ (a = s.accPort p) ∧ (u = s.consumed p) ∧ (a.state = 4 ∨ a.state = 5)) ∧
    (∃ (s : State) (u : State) (p : Fin 2) (a : AccPort) (onu : _), (s.isTerminal p = true) ∧ (a = s.accPort p) ∧ (u = s.consumed p) ∧ (a.onuId = some onu) ∧ (a.state = 4 ∨ a.state = 5)) ∧
    (∃ (s : State) (u : State) (p : Fin 2) (a : AccPort) (k : Fin 2) (n : Nat) (d : BitVec 256 × State), (s.isTerminal p = true) ∧ (a = s.accPort p) ∧ (u = s.consumed p) ∧ (a.state = 5) ∧ (d = u.drawKey)) ∧
    (∃ (s : State) (u : State) (p : Fin 2) (a : AccPort) (k : Fin 2) (n : Nat) (d : BitVec 256 × State), (s.isTerminal p = true) ∧ (a = s.accPort p) ∧ (u = s.consumed p) ∧ (a.state = 5) ∧ (d = u.drawKey)) ∧
    (∃ (s : State) (u : State) (p : Fin 2) (a : AccPort), (s.isTerminal p = true) ∧ (a = s.accPort p) ∧ (u = s.consumed p)) ∧
    (∃ (s : State) (u : State) (p : Fin 2) (a : AccPort) (v : State), (s.isTerminal p = true) ∧ (a = s.accPort p) ∧ (u = s.consumed p) ∧ (v = u.modAcc p (fun a => { a with sleepAllow := true }))) ∧
    (∃ (s : State) (u : State) (p : Fin 2) (a : AccPort), (s.isTerminal p = true) ∧ (a = s.accPort p) ∧ (u = s.consumed p) ∧ (a.state = 4 ∨ a.state = 5)) ∧
    (∃ (s : State) (u : State) (p : Fin 2) (a : AccPort), (s.isTerminal p = true) ∧ (a = s.accPort p) ∧ (u = s.consumed p) ∧ (a.state = 4 ∨ a.state = 5)) ∧
    (∃ (s : State) (u : State) (p : Fin 2) (a : AccPort), (s.isTerminal p = true) ∧ (a = s.accPort p) ∧ (u = s.consumed p) ∧ (a.state = 5)) ∧
    (∃ (s : State) (u : State) (p : Fin 2) (a : AccPort), (s.isTerminal p = true) ∧ (a = s.accPort p) ∧ (u = s.consumed p) ∧ (a.sleeping = true)) ∧
    (∃ (s : State) (u : State) (p : Fin 2) (a : AccPort), (s.isTerminal p = true) ∧ (a = s.accPort p) ∧ (u = s.consumed p) ∧ (a.role ≠ 0)) ∧
    (∃ (s : State) (u : State) (p : Fin 2) (a : AccPort), (s.isTerminal p = true) ∧ (a = s.accPort p) ∧ (u = s.consumed p) ∧ (a.role ≠ 0)) ∧
    (∃ (s : State) (u : State) (p : Fin 2) (a : AccPort), (s.isTerminal p = true) ∧ (a = s.accPort p) ∧ (a.state = 5) ∧ (u = (s.consumed p).countAcc p 6)) ∧
    (∃ (s : State) (u : State) (p : Fin 2) (a : AccPort) (inst : _), (s.isTerminal p = true) ∧ (a = s.accPort p) ∧ (a.state = 5) ∧ (u = (s.consumed p).countAcc p 6) ∧ (a.mib.any (fun e => e.cls == 268 && e.inst == inst) = false)) ∧
    (∃ (s : State) (u : State) (p : Fin 2) (a : AccPort) (inst : _), (s.isTerminal p = true) ∧ (a = s.accPort p) ∧ (a.state = 5) ∧ (u = (s.consumed p).countAcc p 6) ∧ (a.mib.any (fun e => e.cls == 268 && e.inst == inst) = true)) ∧
    (∃ (s : State) (u : State) (p : Fin 2) (a : AccPort) (inst : Nat) (e : MibEntry), (s.isTerminal p = true) ∧ (a = s.accPort p) ∧ (a.state = 5) ∧ (u = (s.consumed p).countAcc p 6) ∧ (a.mib.find? (fun e => e.cls == 268 && e.inst == inst) = some e)) ∧
    (∃ (s : State) (u : State) (p : Fin 2) (a : AccPort) (inst : _) (target : _), (s.isTerminal p = true) ∧ (a = s.accPort p) ∧ (a.state = 5) ∧ (u = (s.consumed p).countAcc p 6) ∧ (target = 134 ∨ target = 347) ∧ (a.mib.any (fun e => e.cls == 266 && e.inst == inst) = false)) ∧
    (∃ (s : State) (u : State) (p : Fin 2) (a : AccPort) (inst : Nat) (e : MibEntry), (s.isTerminal p = true) ∧ (a = s.accPort p) ∧ (a.state = 5) ∧ (u = (s.consumed p).countAcc p 6) ∧ (a.mib.find? (fun e => e.cls == 266 && e.inst == inst) = some e)) ∧
    (∃ (s : State) (u : State) (p : Fin 2) (a : AccPort) (inst : Nat) (attr : Nat) (value : Nat) (e : MibEntry), (s.isTerminal p = true) ∧ (a = s.accPort p) ∧ (a.state = 5) ∧ (u = (s.consumed p).countAcc p 6) ∧ (e = (a.mib.find? (fun e => e.cls == 131 && e.inst == inst)).getD { cls := 131, inst })) ∧
    (∃ (s : State) (u : State) (p : Fin 2) (a : AccPort), (s.isTerminal p = true) ∧ (a = s.accPort p) ∧ (a.state = 5) ∧ (u = (s.consumed p).countAcc p 6)) ∧
    (∃ (s : State) (u : State) (p : Fin 2) (a : AccPort) (n : _), (s.isTerminal p = true) ∧ (a = s.accPort p) ∧ (a.state = 5) ∧ (u = (s.consumed p).countAcc p 6) ∧ (a.latches.find? (fun l => l.count == n && decide (s.clk ≤ l.tick + 2 * State.ticksPerS)) = none)) :=
  ⟨⟨withPort { term0 with state := 1, gen := 0, synced := false }, _, 0, _, by decide +kernel, rfl, rfl, by decide +kernel, by decide +kernel⟩,
   ⟨withPort { term0 with state := 1, gen := 0, synced := false, profile := false }, _, 0, _, _, _, by decide +kernel, rfl, rfl, by decide +kernel, rfl, rfl⟩,
   ⟨withPort { term0 with state := 2 }, _, 0, _, by decide +kernel, rfl, rfl, by decide +kernel, by decide +kernel⟩,
   ⟨withPort term0, _, 0, _, _, by decide +kernel, rfl, rfl, by decide +kernel, by decide +kernel, rfl⟩,
   ⟨withPort { term0 with state := 4 }, _, 0, _, by decide +kernel, rfl, rfl, by decide +kernel, by decide +kernel, by decide +kernel⟩,
   ⟨withPort { term0 with usRate := 0 }, _, 0, _, 1, by decide +kernel, rfl, rfl, by decide +kernel⟩,
   ⟨withPort { term0 with state := 2, onuId := none }, _, 0, _, 5, 9, _, by decide +kernel, rfl, rfl, by decide +kernel, by decide +kernel, rfl⟩,
   ⟨withPort { term0 with state := 4 }, _, 0, _, false, 1000, by decide +kernel, rfl, rfl, by decide +kernel, by intro t h; cases h⟩,
   ⟨withPort { term0 with state := 4, to1 := some 5 }, _, 0, _, false, 1000, 5, by decide +kernel, rfl, rfl, by decide +kernel, by decide +kernel, by decide +kernel⟩,
   ⟨withPort term0, _, 0, _, true, 10, by decide +kernel, rfl, rfl, by decide +kernel⟩,
   ⟨withPort { term0 with state := 4, to1 := some 5 }, _, 0, _, 5, by decide +kernel, rfl, rfl, by decide +kernel, by decide +kernel, by decide +kernel⟩,
   ⟨withPort { term0 with state := 6, to2 := some 5 }, _, 0, _, 5, by decide +kernel, rfl, rfl, by decide +kernel, by decide +kernel, by decide +kernel⟩,
   ⟨withPort term0, _, 0, _, 3, by decide +kernel, rfl, rfl, by decide +kernel, by decide +kernel⟩,
   ⟨withPort term0, _, 0, _, 9, by decide +kernel, rfl, rfl, by decide +kernel, .inr (.inr rfl)⟩,
   ⟨withPort { term0 with state := 7 }, _, 0, _, 9, by decide +kernel, rfl, rfl, by decide +kernel, by decide +kernel⟩,
   ⟨withPort term0, _, 0, _, 7, by decide +kernel, rfl, rfl, by decide +kernel⟩,
   ⟨withPort { term0 with state := 2 }, _, 0, _, by decide +kernel, rfl, rfl, by decide +kernel⟩,
   ⟨withPort { term0 with state := 4 }, _, 0, _, { allocId := 3, startBit := 100, lengthBytes := 48, statusReport := true }, by decide +kernel, rfl, rfl, by decide +kernel, by decide +kernel, by decide +kernel, by decide +kernel⟩,
   ⟨withPort { term0 with lastBurstEnd := 200 }, _, 0, _, { allocId := 1036, startBit := 100, lengthBytes := 48, statusReport := true }, by decide +kernel, rfl, rfl, .inl rfl, by decide +kernel, by decide +kernel, by decide +kernel, by decide +kernel⟩,
   ⟨withPort term0, _, 0, _, { allocId := 1036, startBit := 100, lengthBytes := 48, statusReport := true }, _, _, _, by decide +kernel, rfl, rfl, .inl rfl, by decide +kernel, by decide +kernel, by decide +kernel, by decide +kernel, rfl, rfl, rfl⟩,
   ⟨withPort term0, _, 0, _, by decide +kernel, rfl, rfl, .inr rfl⟩,
   ⟨withPort term0, _, 0, _, 3, by decide +kernel, rfl, rfl, by decide +kernel, .inr rfl⟩,
   ⟨withPort term0, _, 0, _, 1, 9, _, by decide +kernel, rfl, rfl, by decide +kernel, rfl⟩,
   ⟨withPort term0, _, 0, _, 1, 9, _, by decide +kernel, rfl, rfl, by decide +kernel, rfl⟩,
   ⟨withPort term0, _, 0, _, by decide +kernel, rfl, rfl⟩,
   ⟨withPort term0, _, 0, _, _, by decide +kernel, rfl, rfl, rfl⟩,
   ⟨withPort term0, _, 0, _, by decide +kernel, rfl, rfl, .inr rfl⟩,
   ⟨withPort term0, _, 0, _, by decide +kernel, rfl, rfl, .inr rfl⟩,
   ⟨withPort term0, _, 0, _, by decide +kernel, rfl, rfl, by decide +kernel⟩,
   ⟨withPort { term0 with sleeping := true }, _, 0, _, by decide +kernel, rfl, rfl, by decide +kernel⟩,
   ⟨withPort term0, _, 0, _, by decide +kernel, rfl, rfl, by decide +kernel⟩,
   ⟨withPort term0, _, 0, _, by decide +kernel, rfl, rfl, by decide +kernel⟩,
   ⟨withPort term0, _, 0, _, by decide +kernel, rfl, by decide +kernel, rfl⟩,
   ⟨withPort term0, _, 0, _, 1, by decide +kernel, rfl, by decide +kernel, rfl, by decide +kernel⟩,
   ⟨withPort term0, _, 0, _, 7, by decide +kernel, rfl, by decide +kernel, rfl, by decide +kernel⟩,
   ⟨withPort term0, _, 0, _, 7, _, by decide +kernel, rfl, by decide +kernel, rfl, rfl⟩,
   ⟨withPort term0, _, 0, _, 1, 134, by decide +kernel, rfl, by decide +kernel, rfl, .inl rfl, by decide +kernel⟩,
   ⟨withPort term0, _, 0, _, 8, _, by decide +kernel, rfl, by decide +kernel, rfl, rfl⟩,
   ⟨withPort term0, _, 0, _, 0, 3, 5, _, by decide +kernel, rfl, by decide +kernel, rfl, rfl⟩,
   ⟨withPort term0, _, 0, _, by decide +kernel, rfl, by decide +kernel, rfl⟩,
   ⟨withPort term0, _, 0, _, 7, by decide +kernel, rfl, by decide +kernel, rfl, by decide +kernel⟩⟩

/-- Hypotheses that the clauses of `Obligations.TwinActs` meet. -/
theorem test_TwinActs_hyps :
    (∃ (s : State) (m : Mbx) (c : Cmd) (enable : Bool) (singleSend : Bool) (resyncS : U16) (retryHoldS : U16), (s.takes m (rowTwinConfig enable singleSend resyncS retryHoldS) c 0 = true)) ∧
    (∃ (s : State) (m : Mbx) (c : Cmd) (group : U8) (homing : Bool) (homeSide : Bool) (holdOffS : U16) (prefA : BitVec 12) (prefB : BitVec 12), (s.takes m (rowTwinClaim group homing homeSide holdOffS prefA prefB) c 0 = true)) ∧
    (∃ (s : State) (m : Mbx) (c : Cmd) (group : U8) (leadTicks : U16), (s.takes m (rowTwinSwap m group leadTicks) c 0 = true)) ∧
    (∃ (s : State) (m : Mbx) (c : Cmd), (s.takes m rowTwinResync c 0 = true)) ∧
    (∃ (s : State) (m : Mbx) (c : Cmd), (s.takes m rowTwinQuery c 64 = true)) ∧
    (∃ (s : State), (s.twin.linkUp = true)) ∧
    (∃ (s : State), (s.twin.linkUp = true) ∧ (s.twin.lastFrame + State.ticksOfUs 100 ≤ s.clk)) ∧
    (∃ (s : State), (s.twin.state = .standby) ∧ (s.pwr.asleep = false) ∧ (s.twin.lastDecision + 21 * State.ticksPerMs < s.clk)) ∧
    (∃ (s : State), (s.twin.busOk = true) ∧ (s.twin.lastRound + State.ticksOfUs 1500 ≤ s.clk)) ∧
    (∃ (s : State) (tb0 : TimeVal) (tb3 : TimeVal), (s.twin.state = .resync) ∧ (s.twin.step = 2 ∨ s.twin.step = 3)) ∧
    (∃ (s : State), (s.twin.state = .resync) ∧ (s.twin.step = 5) ∧ (s.twin.stateDone = true)) ∧
    (∃ (s : State), (s.twin.state = .primary) ∧ (s.twin.peerState = some 2)) ∧
    (∃ (s : State), (s.twin.state = .resync) ∧ (6 ≤ s.twin.step)) ∧
    (∃ (s : State), (s.twin.state = .primary) ∧ (s.twin.peerState = some 2)) ∧
    (∃ (s : State), (s.twin.switchDue = false)) ∧
    (∃ (s : State), (s.twin.switchDue = true) ∧ (s.twin.state ≠ .standby)) ∧
    (∃ (s : State) (t : _), (s.twin.state = .resync) ∧ (s.twin.resyncUntil = some t) ∧ (t ≤ s.clk)) ∧
    (∃ (s : State) (t : _), (s.twin.state = .outOfSync) ∧ (s.twin.retryAt = some t) ∧ (t ≤ s.clk)) ∧
    (∃ (s : State) (g : BitVec 6) (c : Claim) (t : Nat), (tget s.twin.claims g.toNat = some c) ∧ (s.twin.state = .primary) ∧ (c.held = true) ∧ (c.homeAt = some t) ∧ (t ≤ s.clk) ∧ (s.twin.swap = none) ∧ (s.twin.peerState = some 3)) ∧
    (∃ (s : State) (w : Swap), (s.twin.swap = some w) ∧ (w.dropped = false) ∧ (w.tick ≤ s.tick3) ∧ (s.twin.state = .primary)) ∧
    (∃ (s : State) (w : Swap), (s.twin.swap = some w) ∧ (w.dropped = false) ∧ (w.tick ≤ s.tick3) ∧ (s.twin.state = .standby)) ∧
    (∃ (s : State), (s.boot.stage ≠ .held)) ∧
    (∃ (s : State) (f : ClaimFrame) (n : Nat) (valid : Bool) (u : State), (s.twin.round = some (n, valid)) ∧ (f.group.toNat = n) ∧ (u = s.modTwin (fun t => { t with sentClaim := s.claimWord n }))) ∧
    (∃ (s : State) (f : ClaimFrame) (n : Nat) (valid : Bool), (s.twin.round = some (n, valid)) ∧ (f.group.toNat ≠ n)) ∧
    (∃ (s : State) (u : State) (h : TrussHdr) (b : TrussHelloBody), (s.trussIn h true = (u, true))) ∧
    (∃ (s : State) (u : State) (h : TrussHdr) (r : CanonRec) (f : RxFrame), (s.trussIn h false = (u, true)) ∧ (u.shadows = true)) ∧
    (∃ (s : State) (u : State) (h : TrussHdr) (id : U16) (item : SeamMirror) (cmd : Instr), (s.trussIn h false = (u, true)) ∧ (u.follows = true)) ∧
    (∃ (s : State) (u : State) (h : TrussHdr) (r : Nat) (x : Option Record) (rseq : U64) (epoch : U32), (s.trussIn h false = (u, true)) ∧ (u.follows = true)) ∧
    (∃ (s : State) (u : State) (h : TrussHdr) (b : Fin 4) (adj : Int) (stepped : Option TimeVal) (value : TimeVal) (d : Nat), (s.trussIn h false = (u, true)) ∧ (u.shadows = true)) ∧
    (∃ (s : State) (u : State) (h : TrussHdr) (x : U32), (s.trussIn h false = (u, true)) ∧ (u.shadows = true)) ∧
    (∃ (s : State) (u : State) (h : TrussHdr) (d : DecisionRec), (s.trussIn h false = (u, true)) ∧ (u.twin.state = .standby ∨ u.twin.state = .resync ∧ 6 ≤ u.twin.step)) ∧
    (∃ (s : State) (u : State) (h : TrussHdr) (items : List StateItem) (last : Bool), (s.trussIn h false = (u, true)) ∧ (u.twin.state = .resync) ∧ (4 ≤ u.twin.step) ∧ (u.twin.stateDone = false)) ∧
    (∃ (s : State) (u : State) (h : TrussHdr) (i : KsMirror), (s.trussIn h false = (u, true))) ∧
    (∃ (s : State) (u : State) (h : TrussHdr) (level : Nat), (s.trussIn h false = (u, true)) ∧ (u.twin.state = .standby)) ∧
    (∃ (s : State) (u : State) (h : TrussHdr) (level : Nat), (s.trussIn h false = (u, true)) ∧ (u.twin.state = .primary)) ∧
    (∃ (s : State) (u : State) (h : TrussHdr) (item : ConfigItem) (cmd : Instr), (s.trussIn h false = (u, true)) ∧ (u.follows = true)) ∧
    (∃ (s : State) (u : State) (h : TrussHdr) (port : Fin 2) (ns : Nat) (cmd : Instr), (s.trussIn h false = (u, true))) ∧
    (∃ (s : State) (u : State) (h : TrussHdr), (s.trussIn h false = (u, true))) :=
  ⟨⟨(asks (rowTwinConfig (true : Bool) (false : Bool) (0 : U16) (0 : U16)) sPics), 0, (cmdFor (rowTwinConfig (true : Bool) (false : Bool) (0 : U16) (0 : U16))), true, false, 0, 0, by decide +kernel⟩,
   ⟨(asks (rowTwinClaim (5 : U8) (true : Bool) (false : Bool) (60 : U16) (5 : BitVec 12) (6 : BitVec 12)) sPrimary), 0, (cmdFor (rowTwinClaim (5 : U8) (true : Bool) (false : Bool) (60 : U16) (5 : BitVec 12) (6 : BitVec 12))), 5, true, false, 60, 5, 6, by decide +kernel⟩,
   ⟨(asks (rowTwinSwap (0 : Mbx) (0xFF : U8) (0 : U16)) sPrimary), 0, (cmdFor (rowTwinSwap (0 : Mbx) (0xFF : U8) (0 : U16))), 0xFF, 0, by decide +kernel⟩,
   ⟨(asks rowTwinResync (withTwin { twin0 with state := .outOfSync })), 0, (cmdFor rowTwinResync), by decide +kernel⟩,
   ⟨(asks rowTwinQuery sPrimary), 0, (cmdFor rowTwinQuery), by decide +kernel⟩,
   ⟨sPrimary, by decide +kernel⟩,
   ⟨sPrimary, by decide +kernel, by decide +kernel⟩,
   ⟨sStandby, by decide +kernel, by decide +kernel, by decide +kernel⟩,
   ⟨sPrimary, by decide +kernel, by decide +kernel⟩,
   ⟨(withTwin { twin0 with state := .resync, step := 2 }), { sec := 5, ns := 0, frac := 0 }, { sec := 5, ns := 0, frac := 0 }, by decide +kernel, .inl rfl⟩,
   ⟨(withTwin { twin0 with state := .resync, step := 5, stateDone := true }), by decide +kernel, by decide +kernel, by decide +kernel⟩,
   ⟨(withTwin { twin0 with peerState := some 2 }), by decide +kernel, by decide +kernel⟩,
   ⟨sResync, by decide +kernel, by decide +kernel⟩,
   ⟨(withTwin { twin0 with peerState := some 2 }), by decide +kernel, by decide +kernel⟩,
   ⟨sPrimary, by decide +kernel⟩,
   ⟨(withTwin { twin0 with switchDue := true }), by decide +kernel, by decide +kernel⟩,
   ⟨sResync, 5, by decide +kernel, by decide +kernel, by decide +kernel⟩,
   ⟨(withTwin { twin0 with state := .outOfSync, retryAt := some 5 }), 5, by decide +kernel, by decide +kernel, by decide +kernel⟩,
   ⟨(withTwin { twin0 with claims := [(0, { used := true, held := true, homeAt := some 5 })] }), 0, _, _, rfl, by decide +kernel, by decide +kernel, rfl, by decide +kernel, by decide +kernel, by decide +kernel⟩,
   ⟨(withTwin { twin0 with swap := some { group := none, tick := 5, issuer := none } }), { group := none, tick := 5, issuer := none }, by decide +kernel, by decide +kernel, by decide +kernel, by decide +kernel⟩,
   ⟨(withTwin { sStandby.twin with swap := some { group := none, tick := 5, issuer := none } }), { group := none, tick := 5, issuer := none }, by decide +kernel, by decide +kernel, by decide +kernel, by decide +kernel⟩,
   ⟨sPrimary, by decide +kernel⟩,
   ⟨(withTwin { twin0 with round := some (0, true) }), { group := 0, peerClaim := some 0x9000, peerSide := true, crcOk := true }, 0, true, _, by decide +kernel, by decide +kernel, rfl⟩,
   ⟨(withTwin { twin0 with round := some (0, true) }), { group := 1, peerClaim := some 0x9000, peerSide := true, crcOk := true }, 0, true, by decide +kernel, by decide +kernel⟩,
   ⟨sPrimary, (sPrimary.trussIn truss0 true).1, truss0, { minVersion := 1, maxVersion := 1, side := true, pairId := 0, authOk := true, fwRelease := 0, state := 3 }, Prod.ext rfl (by decide +kernel)⟩,
   ⟨sStandby, (sStandby.trussIn truss0 false).1, truss0, { index := 0, iface := 0, path := 0, length := 200, leg := 0, tb0 := { sec := 5, ns := 0, frac := 0 }, tb3 := { sec := 5, ns := 0, frac := 0 } }, frame0, Prod.ext rfl (by decide +kernel), by decide +kernel⟩,
   ⟨sStandby, (sStandby.trussIn truss0 false).1, truss0, 9, .opened 0 none 60, .sysInfo 0, Prod.ext rfl (by decide +kernel), by decide +kernel⟩,
   ⟨sStandby, (sStandby.trussIn truss0 false).1, truss0, 7, some rec0, 1, 0, Prod.ext rfl (by decide +kernel), by decide +kernel⟩,
   ⟨sStandby, (sStandby.trussIn truss0 false).1, truss0, 0, 0, none, { sec := 5, ns := 0, frac := 0 }, 100, Prod.ext rfl (by decide +kernel), by decide +kernel⟩,
   ⟨sStandby, (sStandby.trussIn truss0 false).1, truss0, 77, Prod.ext rfl (by decide +kernel), by decide +kernel⟩,
   ⟨sStandby, (sStandby.trussIn truss0 false).1, truss0, .throttle 1, Prod.ext rfl (by decide +kernel), .inl (by decide +kernel)⟩,
   ⟨(withTwin { sResync.twin with step := 4 }), ((withTwin { sResync.twin with step := 4 }).trussIn truss0 false).1, truss0, [], true, Prod.ext rfl (by decide +kernel), by decide +kernel, by decide +kernel, by decide +kernel⟩,
   ⟨sPrimary, (sPrimary.trussIn truss0 false).1, truss0, .auth true, Prod.ext rfl (by decide +kernel)⟩,
   ⟨sStandby, (sStandby.trussIn truss0 false).1, truss0, 1, Prod.ext rfl (by decide +kernel), by decide +kernel⟩,
   ⟨sPrimary, (sPrimary.trussIn truss0 false).1, truss0, 1, Prod.ext rfl (by decide +kernel), by decide +kernel⟩,
   ⟨sStandby, (sStandby.trussIn truss0 false).1, truss0, .lineEstimate 0 500, .sysInfo 0, Prod.ext rfl (by decide +kernel), by decide +kernel⟩,
   ⟨sPrimary, (sPrimary.trussIn truss0 false).1, truss0, 0, 500, .sysInfo 0, Prod.ext rfl (by decide +kernel)⟩,
   ⟨sPrimary, (sPrimary.trussIn truss0 false).1, truss0, Prod.ext rfl (by decide +kernel)⟩⟩

/-- Hypotheses that the clauses of `Obligations.TrussFramesAreChecked` meet. -/
theorem test_TrussFramesAreChecked_hyps :
    (∃ (s : State) (h : TrussHdr) (b : Bool), (h.hcrcOk = false)) ∧
    (∃ (s : State) (h : TrussHdr) (b : Bool), (h.crcOk = false ∨ h.seq ≠ s.twin.rxSeq + 1)) ∧
    (∃ (s : State) (h : TrussHdr) (b : Bool), (h.hcrcOk = true) ∧ (h.crcOk = true) ∧ (s.twin.enabled = true) ∧ (s.twin.linkUp = true ∨ b = true) ∧ (h.seq = s.twin.rxSeq + 1)) ∧
    (∃ (s : State) (h : TrussHdr) (b : Bool), ((s.trussIn h false).2 = false)) ∧
    (∃ (s : State) (h : TrussHdr) (b : Bool), ((s.trussIn h false).2 = false)) ∧
    (∃ (s : State) (h : TrussHdr) (b : Bool), ((s.trussIn h false).2 = false)) ∧
    (∃ (s : State) (h : TrussHdr) (b : Bool), ((s.trussIn h false).2 = false)) :=
  ⟨⟨sPrimary, { truss0 with hcrcOk := false }, false, by decide +kernel⟩,
   ⟨sPrimary, { truss0 with crcOk := false }, false, .inl rfl⟩,
   ⟨sPrimary, truss0, false, by decide +kernel, by decide +kernel, by decide +kernel, .inl rfl, by decide +kernel⟩,
   ⟨sPrimary, { truss0 with seq := 5 }, false, by decide +kernel⟩,
   ⟨sPrimary, { truss0 with seq := 5 }, false, by decide +kernel⟩,
   ⟨sPrimary, { truss0 with seq := 5 }, false, by decide +kernel⟩,
   ⟨sPrimary, { truss0 with seq := 5 }, false, by decide +kernel⟩⟩

/-- Hypotheses that `Obligations.OneUnitWinsAGroup` meets. -/
theorem test_OneUnitWinsAGroup_hyps :
    ∃ (a : State) (b : State) (g : Nat) (fa : ClaimFrame) (withFab : ClaimFrame), (a.pins.twinSide ≠ b.pins.twinSide) ∧ (fa.peerSide = b.pins.twinSide) ∧ (withFab.peerSide = a.pins.twinSide) ∧ (fa.peerClaim = some (BitVec.ofNat 16 (b.claimNo g))) ∧ (withFab.peerClaim = some (BitVec.ofNat 16 (a.claimNo g))) :=
  ⟨sPrimary, { sStandby with pins := { sStandby.pins with twinSide := !sStandby.pins.twinSide } }, 0, { group := 0, peerClaim := some (BitVec.ofNat 16 (({ sStandby with pins := { sStandby.pins with twinSide := !sStandby.pins.twinSide } } : State).claimNo 0)), peerSide := !sPrimary.pins.twinSide, crcOk := true }, { group := 0, peerClaim := some (BitVec.ofNat 16 (sPrimary.claimNo 0)), peerSide := sPrimary.pins.twinSide, crcOk := true }, by decide +kernel, by decide +kernel, by decide +kernel, by decide +kernel, by decide +kernel⟩

/-- Hypotheses that `Obligations.ClaimRanksAreOrdered` meets. -/
theorem test_ClaimRanksAreOrdered_hyps :
    ∃ (s : State) (g : Nat) (c : Claim), (tget s.twin.claims g = some c) :=
  ⟨sPrimary, 0, _, rfl⟩

/-- Hypotheses that the clauses of `Obligations.KeepingActs` meet. -/
theorem test_KeepingActs_hyps :
    (∃ (s : State) (m : Mbx) (c : Cmd) (byRecord : U8) (record : U32) (key : U128) (r : Nat) (x : Record), ((if byRecord = 1 then some record.toNat else s.findKey key) = some r) ∧ (s.recordSeen r = some x) ∧ (s.takes m (rowKeepLookup byRecord record key) c (16 + (recordBytes (Record.read x)).length) = true)) ∧
    (∃ (s : State) (m : Mbx) (c : Cmd) (q : RecordReq) (r : Nat) (x : Record), (s.recordWrite q = some (r, some x)) ∧ (s.accepts m (rowKeepRecord m q) c = true)) ∧
    (∃ (s : State) (m : Mbx) (c : Cmd) (q : RecordReq) (r : Nat), (s.recordWrite q = some (r, none)) ∧ (s.accepts m (rowKeepRecord m q) c = true)) ∧
    (∃ (s : State) (m : Mbx) (c : Cmd) (area : Fin 3 → Bytes), ((∀ k, area k = le 4 (s.wearOf k).1 ++ le 4 (s.wearOf k).2.1 ++ le 2 (s.wearOf k).2.2.1 ++ le 2 (s.keep.areas.get k).bad ++ le 4 (if (s.wearOf k).1 = 0 ∧ (s.wearOf k).2.1 = 0 then 0xFFFFFFFF else (s.wearOf k).2.2.2))) ∧ (s.takes m rowKeepHealth c 96 = true)) ∧
    (∃ (s : State) (m : Mbx) (c : Cmd) (first : U32) (count : U32) (l : List FaultRec), (l = (s.keep.log.filter (fun f => decide (first.toNat ≤ f.seq))).take count.toNat) ∧ (s.takes m (rowKeepFaults first count) c (8 + (l.flatMap faultBytes).length) = true)) ∧
    (∃ (s : State) (m : Mbx) (c : Cmd), (s.takes m (rowKeepSnapshot m) c 0 = true)) ∧
    (∃ (s : State) (m : Mbx) (c : Cmd) (retainDays : U16) (scrubDays : U16) (refreshBits : U16), (s.takes m (rowKeepConfig retainDays scrubDays refreshBits) c 0 = true)) ∧
    (∃ (s : State) (m : Mbx) (c : Cmd) (confirm : U32), (s.accepts m (rowKeepFormat m confirm) c = true)) ∧
    (∃ (s : State), (s.keep.open_ ≠ []) ∧ (s.keep.openAt + 5 * State.ticksPerMs ≤ s.now)) ∧
    (∃ (s : State) (gseq : Nat), (s.keep.groups.any (fun g => g.gseq == gseq && !g.programmed) = true)) ∧
    (∃ (s : State) (gseq : Nat) (u : State), (s.keep.groups.any (fun g => g.gseq == gseq && !g.programmed) = true) ∧ (u = s.modKeep (fun k => { k with areas := k.areas.set 1 { bad := (k.areas.get 1).bad + 1 } }))) ∧
    (∃ (s : State), (s.journalUp = true) ∧ (s.keep.pass = none) ∧ (34359738368 ≤ s.keep.span ∨ s.keep.lastPass + 86400 ≤ s.keepTime)) ∧
    (∃ (s : State) (n : Nat) (loc : U32) (start : Nat) (left : List Nat) (done : Nat), (s.keep.pass = some (start, left, done)) ∧ (left.contains n = true)) ∧
    (∃ (s : State) (start : Nat) (done : Nat), (s.keep.pass = some (start, [], done)) ∧ (s.keep.passFor = none)) ∧
    (∃ (s : State) (start : Nat) (left : List Nat) (done : Nat), (s.keep.pass = some (start, left, done)) ∧ (s.keep.passFor = none)) ∧
    (∃ (s : State) (start : Nat) (left : List Nat) (done : Nat) (ok : Bool) (k : Mbx) (n : Nat), (s.keep.pass = some (start, left, done)) ∧ (s.keep.passFor = some (k, n)) ∧ (ok = false ∨ left = [])) ∧
    (∃ (s : State) (corrected : Nat) (reads : Nat) (soft : Bool) (record : Option Nat) (generation : Option Nat), (s.journalUp = true)) ∧
    (∃ (s : State) (corrected : Nat) (reads : Nat) (soft : Bool) (r : Nat) (generation : Option Nat), (s.journalUp = true) ∧ (thas s.keep.recs r = true) ∧ (jFind r (s.keep.groups.flatMap (fun (g : JGroup) => g.entries) ++ s.keep.open_) = none) ∧ (tget s.keep.older r = none)) ∧
    (∃ (s : State) (corrected : Nat) (reads : Nat) (soft : Bool) (r : Nat) (x : Nat × Record) (generation : Option Nat), (s.journalUp = true) ∧ (thas s.keep.recs r = true) ∧ (jFind r (s.keep.groups.flatMap (fun (g : JGroup) => g.entries) ++ s.keep.open_) = none) ∧ (tget s.keep.older r = some x)) ∧
    (∃ (s : State) (corrected : Nat) (reads : Nat) (g : Nat) (soft : Bool) (record : Option Nat), (s.journalUp = true)) ∧
    (∃ (s : State) (corrected : Nat) (reads : Nat) (soft : Bool), (s.journalUp = true)) ∧
    (∃ (s : State) (r : MountResult), (s.keep.mount = .reading) ∧ (s.storeOk = false)) ∧
    (∃ (s : State) (r : MountResult), (s.keep.mount = .reading) ∧ (s.storeOk = true)) ∧
    (∃ (s : State), (s.keep.mount = .ready)) ∧
    (∃ (s : State), (s.keep.mount = .summaries)) :=
  ⟨⟨(asks (rowKeepLookup (1 : U8) (7 : U32) (0 : U128)) sRoster), 0, (cmdFor (rowKeepLookup (1 : U8) (7 : U32) (0 : U128))), 1, 7, 0, 7, rec0, by decide +kernel, by decide +kernel, by decide +kernel⟩,
   ⟨(asks (rowKeepRecord (0 : Mbx) (recordReq0 : RecordReq)) sRoster), 0, (cmdFor (rowKeepRecord (0 : Mbx) (recordReq0 : RecordReq))), recordReq0, 7, (((sRoster.recordWrite recordReq0).bind (fun p => p.2)).getD rec0), by decide +kernel, by decide +kernel⟩,
   ⟨(asks (rowKeepRecord (0 : Mbx) ({ recordReq0 with mode := 2 } : RecordReq)) sRoster), 0, (cmdFor (rowKeepRecord (0 : Mbx) ({ recordReq0 with mode := 2 } : RecordReq))), { recordReq0 with mode := 2 }, 7, by decide +kernel, by decide +kernel⟩,
   ⟨(asks rowKeepHealth sRoster), 0, (cmdFor rowKeepHealth), (fun k => le 4 (sRoster.wearOf k).1 ++ le 4 (sRoster.wearOf k).2.1 ++ le 2 (sRoster.wearOf k).2.2.1 ++ le 2 (sRoster.keep.areas.get k).bad ++ le 4 (if (sRoster.wearOf k).1 = 0 ∧ (sRoster.wearOf k).2.1 = 0 then 0xFFFFFFFF else (sRoster.wearOf k).2.2.2)), fun _ => rfl, by decide +kernel⟩,
   ⟨(asks (rowKeepFaults (1 : U32) (5 : U32)) sRoster), 0, (cmdFor (rowKeepFaults (1 : U32) (5 : U32))), 1, 5, _, rfl, by decide +kernel⟩,
   ⟨(asks (rowKeepSnapshot (0 : Mbx)) sRoster), 0, (cmdFor (rowKeepSnapshot (0 : Mbx))), by decide +kernel⟩,
   ⟨(asks (rowKeepConfig (30 : U16) (30 : U16) (48 : U16)) sRoster), 0, (cmdFor (rowKeepConfig (30 : U16) (30 : U16) (48 : U16))), 30, 30, 48, by decide +kernel⟩,
   ⟨(asks (rowKeepFormat (0 : Mbx) (0x464F524D : U32)) sRoster), 0, (cmdFor (rowKeepFormat (0 : Mbx) (0x464F524D : U32))), 0x464F524D, by decide +kernel⟩,
   ⟨(withKeep (fun k => { k with open_ := grp0.entries })), by decide +kernel, by decide +kernel⟩,
   ⟨(withKeep (fun k => { k with groups := [grp0] })), 1, by decide +kernel⟩,
   ⟨(withKeep (fun k => { k with groups := [grp0] })), 1, _, by decide +kernel, rfl⟩,
   ⟨(withKeep (fun k => { k with span := 34359738368 })), by decide +kernel, by decide +kernel, .inl (by decide +kernel)⟩,
   ⟨(withKeep (fun k => { k with pass := some (0, [4, 5], 1) })), 4, 9, 0, [4, 5], 1, by decide +kernel, by decide +kernel⟩,
   ⟨(withKeep (fun k => { k with pass := some (0, [], 1) })), 0, 1, by decide +kernel, by decide +kernel⟩,
   ⟨(withKeep (fun k => { k with pass := some (0, [4], 1) })), 0, [4], 1, by decide +kernel, by decide +kernel⟩,
   ⟨(withKeep (fun k => { k with pass := some (0, [4], 1), passFor := some (0, 1) })), 0, [4], 1, false, 0, 1, by decide +kernel, by decide +kernel, .inl rfl⟩,
   ⟨sRoster, 60, 5, true, some 7, none, by decide +kernel⟩,
   ⟨sRoster, 60, 5, true, 7, none, by decide +kernel, by decide +kernel, by decide +kernel, by decide +kernel⟩,
   ⟨(withKeep (fun k => { k with older := [(7, (3, rec0))] }) sRoster), 60, 5, true, 7, (3, rec0), none, by decide +kernel, by decide +kernel, by decide +kernel, by decide +kernel⟩,
   ⟨sRoster, 60, 5, 1, true, none, by decide +kernel⟩,
   ⟨sRoster, 60, 5, true, by decide +kernel⟩,
   ⟨(withKeep (fun k => { k with mount := .reading, dies := 0 })), { torn := 0, parkTail := true }, by decide +kernel, by decide +kernel⟩,
   ⟨(withKeep (fun k => { k with mount := .reading })), { torn := 0, parkTail := true }, by decide +kernel, by decide +kernel⟩,
   ⟨(withKeep (fun k => { k with mount := .ready })), by decide +kernel⟩,
   ⟨(withKeep (fun k => { k with mount := .summaries })), by decide +kernel⟩⟩

/-- Hypotheses that the clauses of `Obligations.DispatchActs` meet. -/
theorem test_DispatchActs_hyps :
    (∃ (s : State) (m : Mbx) (c : Cmd) (q : KernelReq) (k : Nat), (s.kernelIndex q = some k) ∧ (s.takes m (rowKernelLoad q) c 8 = true)) ∧
    (∃ (s : State) (m : Mbx) (c : Cmd) (kernel : U16), (s.takes m (rowKernelUnload kernel) c 0 = true)) ∧
    (∃ (s : State) (m : Mbx) (c : Cmd) (kernel : U16) (k : Kernel), (tget s.disp.kernels kernel.toNat = some k) ∧ (s.takes m (rowKernelQuery kernel) c 24 = true)) ∧
    (∃ (s : State) (m : Mbx) (c : Cmd) (q : TraceReq), (s.takes m (rowTraceConfig q) c 0 = true)) ∧
    (∃ (s : State) (m : Mbx) (c : Cmd) (start : U64) (count : U32) (oldest : Nat) (first : Nat) (l : List TraceRec), (oldest = s.disp.next - s.disp.ring.length) ∧ (first = max start.toNat oldest) ∧ (l = ((s.disp.ring.drop (first - oldest)).take count.toNat).take ((c.hdr.replyLen.toNat - 16) / 16)) ∧ (s.takes m (rowTraceRead start count) c (16 + 16 * l.length) = true)) ∧
    (∃ (s : State) (m : Mbx) (c : Cmd) (block : U8) (group : Nat → Bytes), ((∀ g, group g = le 1 (s.groupWeight g) ++ le 3 (s.disp.tasks.filter (fun p => p.2.block == block.toNat && p.2.group == g && p.2.state == .ready)).length ++ leI 4 (((s.dispBlock block.toNat).deficit[g]?).getD 0) ++ le 4 (((s.dispBlock block.toNat).handouts[g]?).getD 0).toNat ++ le 4 (((s.dispBlock block.toNat).late[g]?).getD 0).toNat)) ∧ (s.takes m (rowTraceQuery block) c 272 = true)) ∧
    (∃ (s : State) (cell : U16), (s.dspOk cell = true) ∧ ((s.dsp cell).prefetched = none)) ∧
    (∃ (s : State) (n : Nat) (t : Task) (cell : U16), (tget s.disp.tasks n = some t) ∧ (t.state = .ready) ∧ (((s.dispBlock t.block).blocked.filter s.dspOk).head? = some cell)) ∧
    (∃ (s : State) (n : Nat) (used : Nat) (how : RunEnd) (t : Task), (tget s.disp.tasks n = some t) ∧ (t.state = .running) ∧ ((s.dsp t.cell).running = some n) ∧ (t.group < 16)) ∧
    (∃ (s : State) (c : Nat) (q : Conf), (tget s.model.confs c = some q) ∧ (q.origin.isSome = true) ∧ (q.basted = none) ∧ (s.twin.state ≠ .standby) ∧ (s.twin.state ≠ .resync) ∧ ((∀ p, tget s.snd.ticks c = some p → p < s.media c / 48))) :=
  ⟨⟨(asks (rowKernelLoad (kernel0 : KernelReq)) sLegs), 0, (cmdFor (rowKernelLoad (kernel0 : KernelReq))), kernel0, 0, by decide +kernel, by decide +kernel⟩,
   ⟨(asks (rowKernelUnload (0 : U16)) sKernel), 0, (cmdFor (rowKernelUnload (0 : U16))), 0, by decide +kernel⟩,
   ⟨(asks (rowKernelQuery (0 : U16)) sKernel), 0, (cmdFor (rowKernelQuery (0 : U16))), 0, _, rfl, by decide +kernel⟩,
   ⟨(asks (rowTraceConfig ({ enable := true, stop := false, ringLog2 := 20, sample := 0, reasonMask := 1, groupMask := 1, cell := 0xFFFF, taskFirst := 0, taskLast := 5 } : TraceReq)) sLegs), 0, (cmdFor (rowTraceConfig ({ enable := true, stop := false, ringLog2 := 20, sample := 0, reasonMask := 1, groupMask := 1, cell := 0xFFFF, taskFirst := 0, taskLast := 5 } : TraceReq))), { enable := true, stop := false, ringLog2 := 20, sample := 0, reasonMask := 1, groupMask := 1, cell := 0xFFFF, taskFirst := 0, taskLast := 5 }, by decide +kernel⟩,
   ⟨(asks (rowTraceRead (1 : U64) (5 : U32)) sKernel), 0, (cmdFor (rowTraceRead (1 : U64) (5 : U32))), 1, 5, _, _, _, rfl, rfl, rfl, by decide +kernel⟩,
   ⟨(asks (rowTraceQuery (0 : U8)) sKernel), 0, (cmdFor (rowTraceQuery (0 : U8))), 0, (fun g => le 1 (sKernel.groupWeight g) ++ le 3 (sKernel.disp.tasks.filter (fun p => p.2.block == 0 && p.2.group == g && p.2.state == .ready)).length ++ leI 4 (((sKernel.dispBlock 0).deficit[g]?).getD 0) ++ le 4 (((sKernel.dispBlock 0).handouts[g]?).getD 0).toNat ++ le 4 (((sKernel.dispBlock 0).late[g]?).getD 0).toNat), fun _ => rfl, by decide +kernel⟩,
   ⟨sPics, 0, by decide +kernel, by decide +kernel⟩,
   ⟨(withDisp (fun d => { d with tasks := [(5, task0)], blocks := [(0, { blocked := [0] })] })), 5, task0, 0, by decide +kernel, by decide +kernel, by decide +kernel⟩,
   ⟨(withDisp (fun d => { d with tasks := [(5, { task0 with state := .running, cell := 0 })], cells := [(0, { running := some 5 })] })), 5, 50, .done, { task0 with state := .running, cell := 0 }, by decide +kernel, by decide +kernel, by decide +kernel, by decide +kernel⟩,
   ⟨sPics, 0, _, rfl, by decide +kernel, by decide +kernel, by decide +kernel, by decide +kernel, by intro p h; cases h⟩⟩

/-- Hypotheses that `Obligations.EveryGetIsServed` meets. -/
theorem test_EveryGetIsServed_hyps :
    ∃ (head : Nat → Option (Nat × Nat)) (weight : Nat → Nat) (b : DispBlock), (b.ptr < 16) ∧ ((∀ g, g < 16 → head g ≠ none → 0 < weight g)) ∧ ((∃ g, g < 16 ∧ head g ≠ none)) :=
  ⟨(fun g => if g = 3 then some (1, 5) else none), (fun _ => 1), {}, by decide, fun _ _ _ => Nat.one_pos, ⟨3, by decide, by decide⟩⟩

/-- Hypotheses that the clauses of `Obligations.SpoolsKeepTheirReserve` meet. -/
theorem test_SpoolsKeepTheirReserve_hyps :
    (∃ (q : Spool) (now : Nat) (op : SpoolOp), (2 ≤ q.depth) ∧ (q.ok = true)) ∧
    (∃ (q : Spool) (now : Nat) (op : SpoolOp), (2 ≤ q.depth) ∧ (q.ok = true)) ∧
    (∃ (q : Spool) (now : Nat) (op : SpoolOp), (2 ≤ q.depth) ∧ (q.ok = true)) ∧
    (∃ (q : Spool) (now : Nat) (op : SpoolOp), (2 ≤ q.depth) ∧ (q.ok = true)) ∧
    (∃ (q : Spool) (now : Nat) (op : SpoolOp), (2 ≤ q.depth) ∧ (q.ok = true)) ∧
    (∃ (q : Spool) (now : Nat) (op : SpoolOp) (x : _) (rest : _), (2 ≤ q.depth) ∧ (q.ok = true) ∧ (q.slots = x :: rest) ∧ (x.tag ≠ 3)) ∧
    (∃ (q : Spool) (now : Nat) (op : SpoolOp) (s : State) (u : State) (n : Nat) (left : Nat) (x : Slot) (rest : List Slot), (2 ≤ q.depth) ∧ (q.ok = true) ∧ (s.spool n = q) ∧ (u = s.modSpool n (fun q => q)) ∧ ((u.cellPick q.consumer).all (fun k => k == n) = true) ∧ (q.slots = x :: rest) ∧ (x.tag ≠ 3) ∧ (x.tag ≠ 2) ∧ (left = (if x.tag = 1 then (x.word.toNat % 65536 + 7) / 8 else if x.tag = 0 then q.wordsLeft - 1 else 0))) ∧
    (∃ (q : Spool) (now : Nat) (op : SpoolOp) (s : State) (u : State) (n : Nat) (k : Nat), (2 ≤ q.depth) ∧ (q.ok = true) ∧ (s.spool n = q) ∧ (u = s.modSpool n (fun q => q)) ∧ (u.cellPick q.consumer = some k) ∧ (k ≠ n) ∧ (q.slots.head?.any (fun x => x.tag != 3) = true)) :=
  ⟨⟨{}, 5, .openFrame, by decide +kernel, by decide +kernel⟩,
   ⟨{}, 5, .openFrame, by decide +kernel, by decide +kernel⟩,
   ⟨{}, 5, .openFrame, by decide +kernel, by decide +kernel⟩,
   ⟨{}, 5, .openFrame, by decide +kernel, by decide +kernel⟩,
   ⟨{}, 5, .openFrame, by decide +kernel, by decide +kernel⟩,
   ⟨{ slots := [{ tag := 1, word := 8 }, { tag := 0, word := 7 }], consumer := 1 }, 5, .openFrame, { tag := 1, word := 8 }, [{ tag := 0, word := 7 }], by decide +kernel, by decide +kernel, by decide +kernel, by decide +kernel⟩,
   ⟨{ slots := [{ tag := 1, word := 8 }, { tag := 0, word := 7 }], consumer := 1 }, 5, .openFrame, withSpool { slots := [{ tag := 1, word := 8 }, { tag := 0, word := 7 }], consumer := 1 }, _, 5, _, { tag := 1, word := 8 }, [{ tag := 0, word := 7 }], by decide +kernel, by decide +kernel, by decide +kernel, rfl, by decide +kernel, by decide +kernel, by decide +kernel, by decide +kernel, rfl⟩,
   ⟨{ slots := [{ tag := 1, word := 8 }, { tag := 0, word := 7 }], consumer := 1 }, 5, .openFrame, withFab (fun b => { b with spools := [(4, { ({ slots := [{ tag := 1, word := 8 }, { tag := 0, word := 7 }], consumer := 1 } : Spool) with class0 := true }), (5, { slots := [{ tag := 1, word := 8 }, { tag := 0, word := 7 }], consumer := 1 })] }), _, 5, 4, by decide +kernel, by decide +kernel, by decide +kernel, rfl, by decide +kernel, by decide +kernel, by decide +kernel⟩⟩

/-- Hypotheses that the clauses of `Obligations.FaultsAndResetsAct` meet. -/
theorem test_FaultsAndResetsAct_hyps :
    (∃ (s : State) (cell : U16) (cause : U8) (detail : U32), (isCell cell = true) ∧ (regionOf cell ≠ 7) ∧ ((s.block (blockOfIsland cell)).phase = .inService)) ∧
    (∃ (s : State) (cell : U16) (f : CellFault) (t : Nat), ((s.cell cell).fault = some f) ∧ ((s.cell cell).lastRecord = some t) ∧ (t / 3600 = s.chipS / 3600)) ∧
    (∃ (s : State) (cell : U16) (f : CellFault), ((s.cell cell).fault = some f) ∧ ((s.cell cell).lastRecord.all (fun t => t / 3600 != s.chipS / 3600) = true)) ∧
    (∃ (s : State) (cell : U16) (f : CellFault), ((s.cell cell).fault = some f)) ∧
    (∃ (s : State) (i : U16) (f : CellFault), (cellNo i ≠ 63) ∧ ((s.cell i).fault = some f) ∧ (f.since + State.ticksOfUs 10 ≤ s.clk)) ∧
    (∃ (s : State) (i : U16), (cellNo i = 63) ∧ ((s.block i).phase = .draining ∨ (s.block i).phase = .selfTest ∧ (s.block i).cause ≠ 0) ∧ (thas s.fab.regions (regionOf i) = false) ∧ ((s.block i).since + 5 * State.ticksPerMs ≤ s.clk)) ∧
    (∃ (s : State) (i : U16) (since : Nat) (detail : U32), (cellNo i = 63) ∧ ((s.block i).phase = .inService) ∧ ((s.block i).fenceAt = some (since, detail)) ∧ (since + State.ticksPerMs ≤ s.clk)) ∧
    (∃ (s : State) (n : Nat) (t : Nat), ((s.spool n).openSince = some t) ∧ (t + State.ticksOfUs 10 ≤ s.clk)) ∧
    (∃ (s : State) (cell : U16) (t : Nat), (s.seams.unacked.find? (fun u => u.1 == cell) = some (cell, t)) ∧ (t ≤ s.clk)) ∧
    (∃ (s : State) (b : U16) (drop : DramReq → DramReq) (u : State), ((s.block b).phase = .draining) ∧ ((∀ r, drop r = if blockOfIsland r.cell = b then { r with op := match r.op with | .read ecc crcOk _ => .read ecc crcOk .other | op => op } else r)) ∧ (u = (s.modVia (fun v => { v with waiting := v.waiting.map drop })).modMem (fun m => { m with chans := m.chans.map (fun c => { c with queues := tmap c.queues (fun _ q => q.map drop), issued := c.issued.map drop }) }))) ∧
    (∃ (s : State) (b : U16) (failed : List Nat), ((s.block b).phase = .selfTest)) ∧
    (∃ (s : State) (b : U16) (failed : List Nat), ((s.block b).phase = .selfTest) ∧ ((s.modBlock b (fun y => { y with phase := .retired })).blockLeft (regionOf b) (blockKind (regionOf b) (blockNo b)) = true)) ∧
    (∃ (s : State) (r : Fin 8) (cause : U8) (detail : U32), (r.val ≠ 7) ∧ (thas s.fab.regions r.val = false)) ∧
    (∃ (s : State) (r : Fin 8) (x : RegionFault), (tget s.fab.regions r.val = some x) ∧ (x.since + 250 * State.ticksPerMs ≤ s.clk)) ∧
    (∃ (s : State) (i : U16), (regionOf i ≠ 7) ∧ (thas s.fab.regions (regionOf i) = false)) ∧
    (∃ (s : State) (n : Nat) (toRegion : Bool) (resent : Bool) (i : U16), (((tget s.fab.spans n).getD {}).replays = 0)) ∧
    (∃ (s : State) (n : Nat) (toRegion : Bool) (resent : Bool) (i : U16) (x : Span), (tget s.fab.spans n = some x) ∧ (1 ≤ x.replays) ∧ (x.replays < 8) ∧ (s.clk ≤ x.firstReplay + State.ticksOfUs 1)) ∧
    (∃ (s : State) (n : Nat) (toRegion : Bool) (resent : Bool) (i : U16) (x : Span), (tget s.fab.spans n = some x) ∧ (x.replays = 8) ∧ (s.clk ≤ x.firstReplay + State.ticksOfUs 1)) ∧
    (∃ (s : State) (n : Nat) (op : SpoolOp), (s.mayWrite n = true)) ∧
    (∃ (s : State) (n : Nat) (op : SpoolOp), (s.mayWrite n = false)) ∧
    (∃ (s : State) (n : Nat), ((s.spool n).slots = [])) ∧
    (∃ (s : State) (n : Nat) (x : Slot) (rest : List Slot) (u : State) (v : State), ((s.spool n).slots = x :: rest) ∧ (x.tag = 2) ∧ (u = s.modSpool n (fun q => q)) ∧ ((u.cellPick (s.spool n).consumer).all (fun k => k == n) = true) ∧ (v = (u.modSpool n (fun q => { q with slots := rest, stalled := false, taken := some x, wordsLeft := 0, snagged := q.snagged + x.dropped })).modVia (fun w => { w with inputTurn := tput w.inputTurn (s.spool n).consumer.toNat n }))) ∧
    (∃ (s : State) (n : Nat), (n < 1000)) ∧
    (∃ (s : State) (n : Nat), (2000 ≤ n) ∧ (s.pins.resetN = true)) ∧
    (∃ (s : State) (src : Bool) (side : Bool) (addr : BitVec 3), (s.pins.resetN = false)) ∧
    (∃ (s : State) (m : Mbx) (n : Nat), (s.keep.formatFor = some (m, n))) :=
  ⟨⟨sPics, 0, 1, 0, by decide +kernel, by decide +kernel, by decide +kernel⟩,
   ⟨(withFab (fun b => { b with cells := [(0, { fault := some { cause := 1, detail := 0, since := 0 }, lastRecord := some 1000 })] })), 0, { cause := 1, detail := 0, since := 0 }, 1000, by decide +kernel, by decide +kernel, by decide +kernel⟩,
   ⟨(withFab (fun b => { b with cells := [(0, { fault := some { cause := 1, detail := 0, since := 0 } })] })), 0, { cause := 1, detail := 0, since := 0 }, by decide +kernel, by decide +kernel⟩,
   ⟨(withFab (fun b => { b with cells := [(0, { fault := some { cause := 1, detail := 0, since := 0 } })] })), 0, { cause := 1, detail := 0, since := 0 }, by decide +kernel⟩,
   ⟨(withFab (fun b => { b with cells := [(0, { fault := some { cause := 1, detail := 0, since := 0 } })] })), 0, { cause := 1, detail := 0, since := 0 }, by decide +kernel, by decide +kernel, by decide +kernel⟩,
   ⟨(withBlock 63 { phase := .draining }), 63, by decide +kernel, .inl (by decide +kernel), by decide +kernel, by decide +kernel⟩,
   ⟨(withBlock 63 { fenceAt := some (0, 0) }), 63, 0, 0, by decide +kernel, by decide +kernel, by decide +kernel, by decide +kernel⟩,
   ⟨(withSpool { openSince := some 0 }), 5, 0, by decide +kernel, by decide +kernel⟩,
   ⟨{ sPics with seams := { unacked := [(0x6000, 0)] } }, 0x6000, 0, by decide +kernel, by decide +kernel⟩,
   ⟨(withBlock 63 { phase := .draining }), 63, (fun r => if blockOfIsland r.cell = 63 then { r with op := match r.op with | .read ecc crcOk _ => .read ecc crcOk .other | op => op } else r), _, by decide +kernel, fun _ => rfl, rfl⟩,
   ⟨(withBlock 63 { phase := .selfTest }), 63, [], by decide +kernel⟩,
   ⟨(withBlock 63 { phase := .selfTest }), 63, [], by decide +kernel, by decide +kernel⟩,
   ⟨sPics, 1, 1, 0, by decide +kernel, by decide +kernel⟩,
   ⟨(withFab (fun b => { b with regions := [(1, { cause := 1, since := 0 })] })), 1, { cause := 1, since := 0 }, by decide +kernel, by decide +kernel⟩,
   ⟨sPics, 0, by decide +kernel, by decide +kernel⟩,
   ⟨sPics, 5, true, false, 0, by decide +kernel⟩,
   ⟨(withFab (fun b => { b with spans := [(5, { replays := 3, firstReplay := sPics.clk })] })), 5, true, false, 0, { replays := 3, firstReplay := sPics.clk }, by decide +kernel, by decide +kernel, by decide +kernel, by decide +kernel⟩,
   ⟨(withFab (fun b => { b with spans := [(5, { replays := 8, firstReplay := sPics.clk })] })), 5, true, false, 0, { replays := 8, firstReplay := sPics.clk }, by decide +kernel, by decide +kernel, by decide +kernel⟩,
   ⟨(withSpool {}), 5, .openFrame, by decide +kernel⟩,
   ⟨(withSpool { class0 := true, producer := 0, consumer := 0x6000, slots := List.replicate 4 { tag := 0, word := 0 } }), 5, .openFrame, by decide +kernel⟩,
   ⟨(withSpool {}), 5, by decide +kernel⟩,
   ⟨(withSpool { slots := [{ tag := 2, word := 5 }], consumer := 0x6000 }), 5, { tag := 2, word := 5 }, [], _, _, by decide +kernel, by decide +kernel, rfl, by decide +kernel, rfl⟩,
   ⟨sPics, 500, by decide +kernel⟩,
   ⟨sPics, 2000, by decide +kernel, by decide +kernel⟩,
   ⟨{ sPics with pins := { sPics.pins with resetN := false } }, true, true, 5, by decide +kernel⟩,
   ⟨(withKeep (fun k => { k with formatFor := some (0, 1) })), 0, 1, by decide +kernel⟩⟩

/-- Hypotheses that the clauses of `Obligations.MemoryActs` meet. -/
theorem test_MemoryActs_hyps :
    (∃ (s : State) (m : Mbx) (c : Cmd) (act : U16) (patrol : U8) (ms : U16), (s.takes m (rowMemConfig act patrol ms) c 0 = true)) ∧
    (∃ (s : State) (m : Mbx) (c : Cmd) (channel : U8) (clear : Bool) (k : MemChan), (k = s.chan channel.toNat) ∧ (s.takes m (rowMemQuery channel clear) c 48 = true)) ∧
    (∃ (s : State) (m : Mbx) (c : Cmd), (s.takes m rowMemMap c (136 + 24 * s.mem.windows.length) = true)) ∧
    (∃ (s : State) (m : Mbx) (c : Cmd) (q : WindowReq), (q.mode = 1) ∧ (s.takes m (rowMemWindow m q) c 0 = true)) ∧
    (∃ (s : State) (m : Mbx) (c : Cmd) (q : WindowReq) (k : Nat) (base : Nat), (q.mode = 0) ∧ (s.windowIndex q = some k) ∧ ((if q.kind = 1 then base = s.poolBase 4 else s.windowBase (q.sizeMib.toNat * 1048576) = some base)) ∧ (s.takes m (rowMemWindow m q) c 16 = true)) ∧
    (∃ (s : State) (a : Nat) (op : DramOp) (p : DramPath), (s.dramTop ≤ a ∨ s.cellOut p.cell = true ∨ (s.block (blockOfIsland p.cell)).phase ≠ .inService)) ∧
    (∃ (s : State) (a : Nat) (op : DramOp) (p : DramPath) (r : DramReq), (a < s.dramTop) ∧ (s.cellOut p.cell = false) ∧ ((s.block (blockOfIsland p.cell)).phase = .inService) ∧ (s.clk < s.fab.via.refillAt + State.ticksOfUs 1) ∧ (r = { seq := s.fab.via.nextSeq, cell := p.cell, addr := a, chan := s.chanOf a, bytes := if s.poolOf a = 2 then 4096 else 64, bank := p.bank, row := p.row, op })) ∧
    (∃ (s : State) (r : DramReq) (ecc : EccResult) (crcOk : Bool) (user : TileUse), (r.op = .read ecc crcOk user) ∧ (ecc ≠ .uncorrectable) ∧ (s.poolOf r.addr ≠ 2) ∧ (s.poolOf r.addr ≠ 3)) ∧
    (∃ (s : State) (r : DramReq) (crcOk : Bool) (user : TileUse), (r.op = .read .clean crcOk user) ∧ (s.poolOf r.addr = 3) ∧ ((s.tile r.addr).poison = false)) ∧
    (∃ (s : State) (r : DramReq) (ecc : EccResult) (crcOk : Bool) (user : TileUse), (r.op = .read ecc crcOk user) ∧ (ecc ≠ .uncorrectable) ∧ (s.poolOf r.addr = 3) ∧ ((s.tile r.addr).poison = true)) ∧
    (∃ (s : State) (r : DramReq) (crcOk : Bool) (user : TileUse), (r.op = .read .uncorrectable crcOk user) ∧ (s.poolOf r.addr = 0)) ∧
    (∃ (s : State) (r : DramReq) (cell : U16) (crcOk : Bool) (user : TileUse), (r.op = .read .clean crcOk user) ∧ (user ≠ .release) ∧ (s.poolOf r.addr = 2) ∧ ((s.tile r.addr).state = .open_ cell)) ∧
    (∃ (s : State) (r : DramReq), (r.op = .read .clean true .release) ∧ (s.poolOf r.addr = 2) ∧ ((s.tile r.addr).state = .sealed_) ∧ ((s.tile r.addr).poison = false)) ∧
    (∃ (s : State) (r : DramReq) (crcOk : Bool) (crc : U32), (r.op = .tableWrite true crcOk crc) ∧ (s.poolOf r.addr = 3)) ∧
    (∃ (s : State) (r : DramReq) (crcOk : Bool) (crc : U32), (r.op = .tableWrite false crcOk crc) ∧ (s.poolOf r.addr = 3)) ∧
    (∃ (s : State) (r : DramReq) (last : Bool) (crcOk : Bool) (crc : U32), (r.op = .tableWrite last crcOk crc) ∧ (s.poolOf r.addr = 2) ∧ ((s.tile r.addr).state = .free ∨ (s.tile r.addr).state = .open_ r.cell)) ∧
    (∃ (s : State) (r : DramReq) (last : Bool) (crcOk : Bool) (crc : U32), (r.op = .tableWrite last crcOk crc) ∧ (s.poolOf r.addr = 2) ∧ ((s.tile r.addr).state = .sealed_)) ∧
    (∃ (s : State) (k : MemChan) (bank : Nat) (r : DramReq), (thas k.inOrder bank = false) ∧ (k.nextOf bank = some r) ∧ (tget k.openRow bank ≠ some r.row)) ∧
    (∃ (s : State) (k : MemChan) (bank : Nat) (r : DramReq) (x : _), (thas k.inOrder bank = false) ∧ (k.nextOf bank = some r) ∧ (tget k.openRow bank ≠ some r.row) ∧ (x ∈ (tget k.queues bank).getD [])) ∧
    (∃ (s : State) (k : MemChan) (bank : Nat), (thas k.inOrder bank = true)) ∧
    (∃ (s : State) (channel : Nat) (bank : Nat) (row : Nat), (s.chanRuns channel = true) ∧ ((s.chan channel).busyBanks = [] ∨ (s.chan channel).nextActivate = some (bank, row))) ∧
    (∃ (s : State) (channel : Nat), (s.chanRuns channel = true) ∧ ((s.chan channel).lastRefresh + (if 85 < (s.chan channel).tempC then 16 else 32) * State.ticksPerMs ≤ s.clk)) ∧
    (∃ (s : State) (channel : Nat), (s.chanRuns channel = true) ∧ ((s.chan channel).lastZq + 128 * State.ticksPerMs ≤ s.clk)) ∧
    (∃ (s : State) (channel : Nat) (t : Int), (s.chanRuns channel = true) ∧ ((s.chan channel).lastTrain + (s.chan channel).retrainMs * State.ticksPerMs ≤ s.clk ∨ 10 ≤ (t - (s.chan channel).trainC).natAbs)) ∧
    (∃ (s : State) (channel : Nat) (t : Int) (u : State), (s.chanRuns channel = true) ∧ (channel < 12) ∧ ((s.chan channel).lastTrain + (s.chan channel).retrainMs * State.ticksPerMs ≤ s.clk ∨ 10 ≤ (t - (s.chan channel).trainC).natAbs) ∧ (u = (s.modChan channel (fun c => { c with retrains := c.retrains + 1, lastTrain := s.clk, tempC := t, trainC := t, retrainMs := s.mem.retrainMs, retrainFails := c.retrainFails + 1, failRun := c.failRun + 1 })).memEvent 2 channel 0xFF 0)) ∧
    (∃ (s : State) (channel : Nat) (t : Int), (s.clk < (s.chan channel).lastTrain + (s.chan channel).retrainMs * State.ticksPerMs) ∧ ((t - (s.chan channel).trainC).natAbs < 10)) ∧
    (∃ (s : State) (channel : Nat) (t : Int), (s.clk < (s.chan channel).lastTrain + (s.chan channel).retrainMs * State.ticksPerMs) ∧ ((t - (s.chan channel).trainC).natAbs < 10)) ∧
    (∃ (s : State) (channel : Nat) (a : U64) (ecc : EccResult) (crcOk : Bool) (u : State), (a.toNat < s.dramTop) ∧ (a.toNat = s.mem.patrolAt) ∧ (s.chanOf a.toNat = channel) ∧ (ecc ≠ .uncorrectable) ∧ (u = (s.eccRead a.toNat ecc).modMem (fun m => if s.dramTop ≤ s.mem.patrolAt + 64 then { m with patrolAt := 0, patrolH := m.patrolNext } else { m with patrolAt := s.mem.patrolAt + 64 }))) :=
  ⟨⟨(asks (rowMemConfig (512 : U16) (5 : U8) (500 : U16)) sMem), 0, (cmdFor (rowMemConfig (512 : U16) (5 : U8) (500 : U16))), 512, 5, 500, by decide +kernel⟩,
   ⟨(asks (rowMemQuery (0 : U8) (true : Bool)) sMem), 0, (cmdFor (rowMemQuery (0 : U8) (true : Bool))), 0, true, _, rfl, by decide +kernel⟩,
   ⟨(asks rowMemMap sMem), 0, (cmdFor rowMemMap), by decide +kernel⟩,
   ⟨(asks (rowMemWindow (0 : Mbx) ({ mode := 1, window := 3, kind := 0, chRead := true, chWrite := true, sizeMib := 0 } : WindowReq)) (withMem (fun m => { m with windows := [(3, { kind := 0, chRead := true, chWrite := true, sizeMib := 1, base := 3276800 })] }))), 0, (cmdFor (rowMemWindow (0 : Mbx) ({ mode := 1, window := 3, kind := 0, chRead := true, chWrite := true, sizeMib := 0 } : WindowReq))), { mode := 1, window := 3, kind := 0, chRead := true, chWrite := true, sizeMib := 0 }, by decide +kernel, by decide +kernel⟩,
   ⟨(asks (rowMemWindow (0 : Mbx) ({ mode := 0, window := 0xFF, kind := 0, chRead := true, chWrite := true, sizeMib := 1 } : WindowReq)) sMem), 0, (cmdFor (rowMemWindow (0 : Mbx) ({ mode := 0, window := 0xFF, kind := 0, chRead := true, chWrite := true, sizeMib := 1 } : WindowReq))), { mode := 0, window := 0xFF, kind := 0, chRead := true, chWrite := true, sizeMib := 1 }, 0, 3276800, by decide +kernel, by decide +kernel, by decide +kernel, by decide +kernel⟩,
   ⟨sMem, 20000000000, .read .clean true .other, path0, .inl (by decide +kernel)⟩,
   ⟨{ sMem with fab := { sMem.fab with via := { sMem.fab.via with refillAt := sMem.clk } } }, 0, .read .clean true .other, path0, _, by decide +kernel, by decide +kernel, by decide +kernel, by decide +kernel, rfl⟩,
   ⟨sMem, { rd0 with op := .read .clean true .other, addr := 0 }, .clean, true, .other, by decide +kernel, by decide +kernel, by decide +kernel, by decide +kernel⟩,
   ⟨sMem, { rd0 with op := .read .clean true .other, addr := 1179648 }, true, .other, by decide +kernel, by decide +kernel, by decide +kernel⟩,
   ⟨(mtile 1179648 { poison := true }), { rd0 with op := .read .clean true .other, addr := 1179648 }, .clean, true, .other, by decide +kernel, by decide +kernel, by decide +kernel, by decide +kernel⟩,
   ⟨sMem, { rd0 with op := .read .uncorrectable true .other, addr := 0 }, true, .other, by decide +kernel, by decide +kernel⟩,
   ⟨(mtile 131072 { state := .open_ 0x6000 }), { rd0 with op := .read .clean true .other, addr := 131072 }, 0x6000, true, .other, by decide +kernel, by decide +kernel, by decide +kernel, by decide +kernel⟩,
   ⟨(mtile 131072 { state := .sealed_ }), { rd0 with op := .read .clean true .release, addr := 131072 }, by decide +kernel, by decide +kernel, by decide +kernel, by decide +kernel⟩,
   ⟨sMem, { rd0 with op := .tableWrite true true 5, addr := 1179648 }, true, 5, by decide +kernel, by decide +kernel⟩,
   ⟨sMem, { rd0 with op := .tableWrite false true 5, addr := 1179648 }, true, 5, by decide +kernel, by decide +kernel⟩,
   ⟨sMem, { rd0 with op := .tableWrite true true 5, addr := 131072 }, true, true, 5, by decide +kernel, by decide +kernel, .inl (by decide +kernel)⟩,
   ⟨(mtile 131072 { state := .sealed_ }), { rd0 with op := .tableWrite true true 5, addr := 131072 }, true, true, 5, by decide +kernel, by decide +kernel, by decide +kernel⟩,
   ⟨sMem, { chan0 with queues := [(2, [rd0])] }, 2, rd0, by decide +kernel, by decide +kernel, by decide +kernel⟩,
   ⟨sMem, { chan0 with queues := [(2, [rd0])] }, 2, rd0, rd0, by decide +kernel, by decide +kernel, by decide +kernel, by simp [tget]⟩,
   ⟨sMem, { chan0 with inOrder := [(2, 5)] }, 2, by decide +kernel⟩,
   ⟨sMem, 0, 2, 3, by decide +kernel, .inl (by decide +kernel)⟩,
   ⟨sMem, 0, by decide +kernel, by decide +kernel⟩,
   ⟨sMem, 0, by decide +kernel, by decide +kernel⟩,
   ⟨sMem, 0, 5, by decide +kernel, .inl (by decide +kernel)⟩,
   ⟨sMem, 0, 5, _, by decide +kernel, by decide +kernel, .inl (by decide +kernel), rfl⟩,
   ⟨(mchan { chan0 with lastTrain := sMem.clk }), 0, 5, by decide +kernel, by decide +kernel⟩,
   ⟨(mchan { chan0 with lastTrain := sMem.clk }), 0, 5, by decide +kernel, by decide +kernel⟩,
   ⟨sMem, 0, 0, .clean, true, _, by decide +kernel, by decide +kernel, by decide +kernel, by decide +kernel, rfl⟩⟩

/-- Hypotheses that `Obligations.RowCountsStayUnderTheThreshold` meets. -/
theorem test_RowCountsStayUnderTheThreshold_hyps :
    ∃ (t : ActTable) (row : Nat) (threshold : Nat), (2 ≤ threshold) ∧ (t.length ≤ 16) ∧ ((t.map (·.1)).Nodup) ∧ ((∀ e ∈ t, e.2 < threshold)) :=
  ⟨[(5, 3)], 5, 10, by decide +kernel, by decide +kernel, by decide, by decide⟩

/-- Hypotheses that the clauses of `Obligations.DmaActs` meet. -/
theorem test_DmaActs_hyps :
    (∃ (s : State) (c : Fin 16), ((s.dmaOf c).state = .idle ∨ (s.dmaOf c).state = .parked ∨ (s.dmaOf c).state = .stopped ∨ (s.dmaOf c).state = .halted)) ∧
    (∃ (s : State) (c : Fin 16), ((s.dmaOf c).state = .stopped ∨ (s.dmaOf c).state = .halted)) ∧
    (∃ (s : State) (c : Fin 16), ((s.dmaOf c).state = .idle ∨ (s.dmaOf c).state = .parked)) ∧
    (∃ (s : State) (c : Fin 16), ((s.dmaOf c).state = .running ∨ (s.dmaOf c).state = .stopping)) ∧
    (∃ (s : State) (c : Fin 16), ((s.dmaOf c).state = .running ∨ (s.dmaOf c).state = .stopping)) ∧
    (∃ (s : State) (c : Fin 16), ((s.dmaOf c).image.invalid = false) ∧ ((s.dmaOf c).image.overlaps = false) ∧ ((s.dmaOf c).state = .idle)) ∧
    (∃ (s : State) (c : Fin 16), ((s.dmaOf c).state = .running)) ∧
    (∃ (s : State) (c : Fin 16), ((s.dmaOf c).state = .parked)) ∧
    (∃ (s : State) (c : Fin 16), ((s.dmaOf c).state = .stopped ∨ (s.dmaOf c).state = .parked ∨ (s.dmaOf c).state = .halted)) ∧
    (∃ (s : State) (c : Fin 16) (link : _), ((s.dmaOf c).state = .parked) ∧ (s.tailWord c (s.dmaOf c).cur = .inr (false, link))) ∧
    (∃ (s : State) (c : Fin 16) (d : _), ((s.dmaOf c).state = .running) ∧ ((s.dmaOf c).ahead = []) ∧ ((s.dmaOf c).desc = some d) ∧ (d.last = true)) ∧
    (∃ (s : State) (c : Fin 16), ((s.dmaOf c).state = .idle ∨ (s.dmaOf c).state = .stopped ∨ (s.dmaOf c).state = .halted)) ∧
    (∃ (s : State) (c : Fin 16) (f : Fin 16), (f ≠ 0)) ∧
    (∃ (s : State) (c : Fin 16), (s.pl.vfEnable = true)) ∧
    (∃ (s : State) (part : RegPart) (v : U64) (m : Mbx), (m ≠ 16) ∧ ((s.box m).enable = false) ∧ ((s.box m).quiesced = false) ∧ ((s.box m).halted = false)) ∧
    (∃ (s : State) (part : RegPart) (v : U64) (m : Mbx), (m ≠ 16) ∧ ((s.box m).enable = false) ∧ ((s.box m).quiesced = false) ∧ ((s.box m).halted = false)) ∧
    (∃ (s : State) (part : RegPart) (v : U64) (m : Mbx), (m ≠ 16) ∧ ((s.box m).enable = false) ∧ ((s.box m).quiesced = false) ∧ ((s.box m).halted = false)) ∧
    (∃ (s : State) (part : RegPart) (v : U64) (m : Mbx), ((s.box m).enable = true ∨ (s.box m).quiesced = true ∨ (s.box m).halted = true)) ∧
    (∃ (s : State) (part : RegPart) (v : U64) (m : Mbx), ((s.box m).enable = true ∨ (s.box m).quiesced = true ∨ (s.box m).halted = true)) ∧
    (∃ (s : State) (part : RegPart) (v : U64) (m : Mbx), ((s.box m).enable = true ∨ (s.box m).quiesced = true ∨ (s.box m).halted = true)) ∧
    (∃ (s : State) (part : RegPart) (v : U64) (m : Mbx) (e : Fin 9) (d : Fin 4), (m ≠ 16) ∧ ((s.box m).halted = false) ∧ (m = 0 ∨ e = 0)) ∧
    (∃ (s : State) (part : RegPart) (v : U64), (v.getLsbD 0 = true)) ∧
    (∃ (s : State) (part : RegPart) (v : U64), (v.getLsbD 0 = false)) ∧
    (∃ (s : State) (part : RegPart) (v : U64) (c : Fin 16), ((s.dmaOf c).state ≠ .running) ∧ ((s.dmaOf c).state ≠ .stopping)) ∧
    (∃ (s : State) (part : RegPart) (v : U64) (c : Fin 16), ((s.dmaOf c).state ≠ .running) ∧ ((s.dmaOf c).state ≠ .stopping)) ∧
    (∃ (s : State) (part : RegPart) (v : U64) (c : Fin 16), ((s.dmaOf c).state ≠ .running) ∧ ((s.dmaOf c).state ≠ .stopping)) ∧
    (∃ (s : State) (part : RegPart) (v : U64) (c : Fin 16), ((s.dmaOf c).state ≠ .running) ∧ ((s.dmaOf c).state ≠ .stopping)) ∧
    (∃ (s : State) (part : RegPart) (v : U64) (c : Fin 16), ((s.dmaOf c).state ≠ .running) ∧ ((s.dmaOf c).state ≠ .stopping)) :=
  ⟨⟨withDma { dma0 with state := .idle, desc := none }, 0, .inl (by decide +kernel)⟩,
   ⟨withDma { dma0 with state := .stopped }, 0, .inl (by decide +kernel)⟩,
   ⟨withDma { dma0 with state := .idle }, 0, .inl (by decide +kernel)⟩,
   ⟨withDma dma0, 0, .inl (by decide +kernel)⟩,
   ⟨withDma dma0, 0, .inl (by decide +kernel)⟩,
   ⟨withDma { dma0 with state := .idle, desc := none }, 0, by decide +kernel, by decide +kernel, by decide +kernel⟩,
   ⟨withDma dma0, 0, by decide +kernel⟩,
   ⟨withDma { dma0 with state := .parked }, 0, by decide +kernel⟩,
   ⟨withDma { dma0 with state := .parked }, 0, .inr (.inl (by decide +kernel))⟩,
   ⟨withDma { dma0 with state := .parked, next := 64 }, 0, 64, by decide +kernel, by decide +kernel⟩,
   ⟨withDma dma0, 0, dsc0, by decide +kernel, by decide +kernel, by decide +kernel, by decide +kernel⟩,
   ⟨withDma { dma0 with state := .idle }, 0, .inl (by decide +kernel)⟩,
   ⟨sPics, 0, 1, by decide +kernel⟩,
   ⟨{ sPics with pl := { sPics.pl with vfEnable := true } }, 0, by decide +kernel⟩,
   ⟨sReady, .whole, 5, 1, by decide +kernel, by decide +kernel, by decide +kernel, by decide +kernel⟩,
   ⟨sReady, .whole, 5, 1, by decide +kernel, by decide +kernel, by decide +kernel, by decide +kernel⟩,
   ⟨sReady, .whole, 5, 1, by decide +kernel, by decide +kernel, by decide +kernel, by decide +kernel⟩,
   ⟨sReady, .whole, 5, 0, .inl (by decide +kernel)⟩,
   ⟨sReady, .whole, 5, 0, .inl (by decide +kernel)⟩,
   ⟨sReady, .whole, 5, 0, .inl (by decide +kernel)⟩,
   ⟨sReady, .low, 5, 0, 1, 2, by decide +kernel, by decide +kernel, .inl rfl⟩,
   ⟨sReady, .whole, 1, by decide +kernel⟩,
   ⟨sReady, .whole, 0, by decide +kernel⟩,
   ⟨sReady, .whole, 5, 0, by decide +kernel, by decide +kernel⟩,
   ⟨sReady, .whole, 5, 0, by decide +kernel, by decide +kernel⟩,
   ⟨sReady, .whole, 5, 0, by decide +kernel, by decide +kernel⟩,
   ⟨sReady, .whole, 5, 0, by decide +kernel, by decide +kernel⟩,
   ⟨sReady, .whole, 5, 0, by decide +kernel, by decide +kernel⟩⟩

/-- Hypotheses that `Obligations.DescriptorCopiesItsBytes` meets. -/
theorem test_DescriptorCopiesItsBytes_hyps :
    ∃ (s : State) (c : Fin 16) (d : Desc), ((s.dmaOf c).state = .running ∨ (s.dmaOf c).state = .stopping) ∧ ((s.dmaOf c).desc = some d) ∧ (s.pwr.asleep = false) :=
  ⟨withDma dma0, 0, dsc0, .inl (by decide +kernel), by decide +kernel, by decide +kernel⟩

/-- Hypotheses that `Obligations.FailedAccessHaltsItsChannel` meets. -/
theorem test_FailedAccessHaltsItsChannel_hyps :
    ∃ (s : State) (c : Fin 16) (e : DmaError) (a : U64) (write : Bool) (d : Desc), ((s.dmaOf c).state = .running ∨ (s.dmaOf c).state = .stopping) ∧ ((s.dmaOf c).desc = some d) ∧ (e = .readError ∨ e = .writeError ∨ e = .poisoned) :=
  ⟨withDma dma0, 0, .readError, 0, false, dsc0, .inl (by decide +kernel), by decide +kernel, .inl rfl⟩

/-- Hypotheses that the clauses of `Obligations.KeystoneActs` meet. -/
theorem test_KeystoneActs_hyps :
    (∃ (s : State) (m : Mbx) (c : Cmd) (slot : U8) (image : PierImage), (s.accepts m (rowKeepImage m slot image) c = true)) ∧
    (∃ (s : State) (m : Mbx) (c : Cmd) (slot : U8) (force : Bool) (commitS : U32), (s.takes m (rowKeepActivate m 0 slot force commitS) c 0 = true)) ∧
    (∃ (s : State) (m : Mbx) (c : Cmd) (force : Bool) (commitS : U32) (svn : Nat), (s.takes m (rowKeepActivate m 1 0 force commitS) c 0 = true) ∧ (svn = max s.keep.fusedSvn (s.keep.image s.keep.runB).svn)) ∧
    (∃ (s : State) (m : Mbx) (c : Cmd) (force : Bool) (commitS : U32) (b : Bool), (s.takes m (rowKeepActivate m 2 0 force commitS) c 0 = true) ∧ (s.fallback = some b)) ∧
    (∃ (s : State) (m : Mbx) (c : Cmd), (s.takes m (rowKeepImages m) c 56 = true)) ∧
    (∃ (s : State) (m : Mbx) (c : Cmd), (s.takes m rowKsStatus c 24 = true)) ∧
    (∃ (s : State) (m : Mbx) (c : Cmd), (s.takes m (rowKsPropose m none) c 0 = true)) ∧
    (∃ (s : State) (m : Mbx) (c : Cmd) (p : Proposal), (c.hdr.reqLen = 0) ∧ (s.takes m (rowKsPropose m (some p)) c 0 = true)) ∧
    (∃ (s : State) (m : Mbx) (c : Cmd) (p : Proposal), (c.hdr.reqLen ≠ 0) ∧ (s.accepts m (rowKsPropose m (some p)) c = true)) ∧
    (∃ (s : State) (m : Mbx) (c : Cmd) (t : _) (n : _), (s.ks.cert = some (t, n)) ∧ (s.takes m rowKsCert c (40 + (Config.certificate n).length) = true)) ∧
    (∃ (s : State) (m : Mbx) (c : Cmd) (first : U32) (count : U16) (l : List KsRec), (l = (s.ks.log.dropWhile (fun r => r.seq != first)).take count.toNat) ∧ (s.takes m (rowKsLog first count) c (8 + (l.flatMap ksRecBytes).length) = true)) ∧
    (∃ (s : State) (m : Mbx) (c : Cmd) (type : U8) (b : Bytes), (b = (if type = 1 then s.ks.policy.permissions.flatMap (fun w => le 4 w.toNat) else Config.section_ type.toNat (if s.ks.policyOk then s.ks.activeSlot else 2))) ∧ (s.takes m (rowKsPolicy type) c (8 + b.length) = true)) ∧
    (∃ (s : State) (a : _), (s.twin.state = .standby) ∧ (s.twin.throttleAsk = some a) ∧ (a.2 ≤ s.clk)) ∧
    (∃ (s : State) (source : U16) (offset : U16) (n : Nat) (u : State), (s.pins.resetN = true) ∧ (n = source.toNat + 65536 * offset.toNat) ∧ (u = { s with ks := { s.ks with rejects := satInc s.ks.rejects, rejectLast := BitVec.ofNat 32 n, rejectAt := some s.chipS } })) ∧
    (∃ (s : State), (s.ks.state = .run) ∧ (s.ks.verified = true) ∧ (s.ks.released = false) ∧ (s.boot.recovery = false) ∧ (2 ≤ s.ks.seenRounds ∨ s.twin.lastStart + State.ticksOfUs 1500 ≤ s.clk)) ∧
    (∃ (s : State) (y : Nat) (l : Layout) (n : Nat) (r : PolicyRule) (g : Region), (tget s.pic.layouts y = some l) ∧ (l.awaiting = false) ∧ (l.basted = none) ∧ (s.winner l.conf = some (n, r)) ∧ ((s.ks.policy.overlays[r.overlay.toNat]?).bind (placeOverlay l r) = some g) ∧ (tget l.regions 3 ≠ some g)) ∧
    (∃ (s : State) (y : Nat) (l : Layout) (n : Nat) (r : PolicyRule), (tget s.pic.layouts y = some l) ∧ (l.awaiting = false) ∧ (l.basted = none) ∧ (s.winner l.conf = some (n, r)) ∧ ((s.ks.policy.overlays[r.overlay.toNat]?).bind (placeOverlay l r) = none) ∧ (tget l.regions 3 = none)) ∧
    (∃ (s : State) (y : Nat) (l : Layout) (g : Region), (tget s.pic.layouts y = some l) ∧ (l.awaiting = false) ∧ (l.basted = none) ∧ (s.winner l.conf = none) ∧ (tget l.regions 3 = some g) ∧ (g.byKeystone = true)) ∧
    (∃ (s : State) (k : Nat) (q : Conf), (tget s.model.confs k = some q) ∧ (q.basted = none) ∧ (q.origin.isSome = true)) ∧
    (∃ (s : State) (level : Fin 4), (s.pwr.levelDue = some level.val) ∧ (level.val ≠ 0 ∨ s.pwr.levelNow = 0)) ∧
    (∃ (s : State) (r : Rail) (mV : Nat), (s.pins.resetN = true) ∧ (s.railOk r mV = false) ∧ (s.ks.state ≠ .trip)) ∧
    (∃ (s : State) (r : Rail) (mV : Nat), (s.pins.resetN = true) ∧ (s.railOk r mV = false) ∧ (s.ks.state = .trip) ∧ (s.ks.tripThermal = false)) ∧
    (∃ (s : State) (t : Nat), (s.ks.state = .trip) ∧ (s.ks.clearSince = some t) ∧ (t + (if s.ks.tripThermal then 10 * State.ticksPerS else 100 * State.ticksPerMs) ≤ s.clk)) ∧
    (∃ (s : State), (s.pins.resetN = true)) ∧
    (∃ (s : State) (r : Fin 2) (target : Nat), (s.ks.state ≠ .trip) ∧ (s.ks.state ≠ .park) ∧ (s.pins.resetN = true) ∧ (s.ks.avsStuck.get r = false) ∧ (s.ks.avsMv.get r ≠ target) ∧ (700 ≤ target) ∧ (target ≤ 850) ∧ (((s.ks.avsAt.get r).all (fun t => decide (t + State.ticksOfUs 10 ≤ s.clk)) || s.ks.avsWait.get r) = true)) ∧
    (∃ (s : State) (r : Fin 2) (t : Nat) (n : Nat), (s.ks.avsWait.get r = true) ∧ (s.ks.avsAt.get r = some t) ∧ (t + State.ticksPerMs ≤ s.clk) ∧ (n = s.ks.avsMiss.get r + 1)) ∧
    (∃ (s : State) (m : Mbx) (n : Nat) (p : Proposal), (s.ks.writing = some (m, n, p))) ∧
    (∃ (s : State) (m : Mbx) (n : Nat) (b : Bool) (x : PierImage), (s.keep.imageFor = some (m, n, b, x))) ∧
    (∃ (s : State) (m : Mbx) (n : Nat) (b : Bool) (x : PierImage), (s.keep.imageFor = some (m, n, b, x))) ∧
    (∃ (s : State) (t : _), (s.keep.activateAt = some t)) ∧
    (∃ (s : State), (s.inTrial = true) ∧ (s.isReady 3 = false) ∧ (60 * State.ticksPerS ≤ s.clk)) ∧
    (∃ (s : State) (t : _), (s.inTrial = true) ∧ (s.keep.commitS = some t) ∧ (t * State.ticksPerS ≤ s.clk)) :=
  ⟨⟨asksFor (cmdWith (rowKeepImage 0 1 img0) (fun h => { h with reqLen := 65536 })) sPics, 0, cmdWith (rowKeepImage 0 1 img0) (fun h => { h with reqLen := 65536 }), 1, img0, by decide +kernel⟩,
   ⟨(asks (rowKeepActivate (0 : Mbx) 0 (1 : U8) (true : Bool) (60 : U32)) (withKeep (fun k => { k with slotB := { k.slotB with state := .staged } }))), 0, (cmdFor (rowKeepActivate (0 : Mbx) 0 (1 : U8) (true : Bool) (60 : U32))), 1, true, 60, by decide +kernel⟩,
   ⟨(asks (rowKeepActivate (0 : Mbx) 1 0 (true : Bool) (0 : U32)) trial0), 0, (cmdFor (rowKeepActivate (0 : Mbx) 1 0 (true : Bool) (0 : U32))), true, 0, _, by decide +kernel, rfl⟩,
   ⟨(asks (rowKeepActivate (0 : Mbx) 2 0 (true : Bool) (0 : U32)) (withKeep (fun k => { k with slotB := { k.slotB with state := .committed } }))), 0, (cmdFor (rowKeepActivate (0 : Mbx) 2 0 (true : Bool) (0 : U32))), true, 0, true, by decide +kernel, by decide +kernel⟩,
   ⟨(asks (rowKeepImages (0 : Mbx)) sLegs), 0, (cmdFor (rowKeepImages (0 : Mbx))), by decide +kernel⟩,
   ⟨(asks rowKsStatus sLegs), 0, (cmdFor rowKsStatus), by decide +kernel⟩,
   ⟨asksFor (cmdWith (rowKsPropose 0 none) (fun h => { h with reqLen := 0 })) sPics, 0, cmdWith (rowKsPropose 0 none) (fun h => { h with reqLen := 0 }), by decide +kernel⟩,
   ⟨asksFor (cmdWith (rowKsPropose 0 (some prop0)) (fun h => { h with reqLen := 0 })) fuse0, 0, cmdWith (rowKsPropose 0 (some prop0)) (fun h => { h with reqLen := 0 }), prop0, by decide +kernel, by decide +kernel⟩,
   ⟨(asks (rowKsPropose (0 : Mbx) (some (prop0 : Proposal))) fuse0), 0, (cmdFor (rowKsPropose (0 : Mbx) (some (prop0 : Proposal)))), prop0, by decide +kernel, by decide +kernel⟩,
   ⟨sCert, 0, cmdFor rowKsCert, 0, 1, by decide +kernel, cert_takes⟩,
   ⟨(asks (rowKsLog (1 : U32) (5 : U16)) fuse0), 0, (cmdFor (rowKsLog (1 : U32) (5 : U16))), 1, 5, _, rfl, by decide +kernel⟩,
   ⟨(asks (rowKsPolicy (1 : U8)) fuse0), 0, (cmdFor (rowKsPolicy (1 : U8))), 1, _, rfl, by decide +kernel⟩,
   ⟨(withTwin { sStandby.twin with throttleAsk := some (1, 5) }), (1, 5), by decide +kernel, by decide +kernel, by decide +kernel⟩,
   ⟨sPics, 1, 2, _, _, by decide +kernel, rfl, rfl⟩,
   ⟨(withKs (fun k => { k with released := false })), by decide +kernel, by decide +kernel, by decide +kernel, by decide +kernel, .inr (by decide +kernel)⟩,
   ⟨(rules [rule0]), 0, lay0, 0, rule0, { overlay := 0, byKeystone := true, x := 0, y := 0 }, by decide +kernel, by decide +kernel, by decide +kernel, by decide +kernel, by decide +kernel, by decide +kernel⟩,
   ⟨(rules [{ rule0 with overlay := 1 }]), 0, lay0, 0, { rule0 with overlay := 1 }, by decide +kernel, by decide +kernel, by decide +kernel, by decide +kernel, by decide +kernel, by decide +kernel⟩,
   ⟨(rules [] (withLayout { lay0 with regions := [(3, { overlay := 0, x := 0, y := 0, byKeystone := true })] })), 0, { lay0 with regions := [(3, { overlay := 0, x := 0, y := 0, byKeystone := true })] }, { overlay := 0, x := 0, y := 0, byKeystone := true }, by decide +kernel, by decide +kernel, by decide +kernel, by decide +kernel, by decide +kernel, by decide +kernel⟩,
   ⟨(rules [rule0]), 0, conf0, by decide +kernel, by decide +kernel, by decide +kernel⟩,
   ⟨{ sPics with pwr := { sPics.pwr with levelDue := some 2 } }, 2, by decide +kernel, .inl (by decide)⟩,
   ⟨sPics, .vddAo, 0, by decide +kernel, by decide +kernel, by decide +kernel⟩,
   ⟨(withKs (fun k => { k with state := .trip })), .vddAo, 0, by decide +kernel, by decide +kernel, by decide +kernel, by decide +kernel⟩,
   ⟨(withKs (fun k => { k with state := .trip, clearSince := some 0 })), 0, by decide +kernel, by decide +kernel, by decide +kernel⟩,
   ⟨sPics, by decide +kernel⟩,
   ⟨sPics, 0, 800, by decide +kernel, by decide +kernel, by decide +kernel, by decide +kernel, by decide +kernel, by decide +kernel, by decide +kernel, by decide +kernel⟩,
   ⟨(withKs (fun k => { k with avsWait := #v[true, false], avsAt := #v[some 0, none] })), 0, 0, _, by decide +kernel, by decide +kernel, by decide +kernel, rfl⟩,
   ⟨(withKs (fun k => { k with writing := some (0, 1, prop0) })), 0, 1, prop0, by decide +kernel⟩,
   ⟨(withKeep (fun k => { k with imageFor := some (0, 1, true, img0) })), 0, 1, true, img0, by decide +kernel⟩,
   ⟨(withKeep (fun k => { k with imageFor := some (0, 1, true, img0) })), 0, 1, true, img0, by decide +kernel⟩,
   ⟨(withKeep (fun k => { k with activateAt := some 5 })), 5, by decide +kernel⟩,
   ⟨({ trial0 with boot := { trial0.boot with readiness := 0 } }), by decide +kernel, by decide +kernel, by decide +kernel⟩,
   ⟨trial0, 5, by decide +kernel, by decide +kernel, by decide +kernel⟩⟩

/-- Hypotheses that the clauses of `Obligations.SensorsDecideTheTrip` meet. -/
theorem test_SensorsDecideTheTrip_hyps :
    (∃ (s : State) (vs : List (Option Int)), (vs.length = 32) ∧ (s.pins.resetN = true) ∧ (s.ks.state = .run ∨ s.ks.state = .hold) ∧ (s.ks.failed = []) ∧ ((∀ v ∈ vs, sensorOk v = true)) ∧ ((∀ v ∈ vs, ∀ x, v = some x → x < 8 * (s.ks.policy.tripC : Int) - 40))) ∧
    (∃ (s : State) (vs : List (Option Int)) (i : Nat) (x : Int) (y : Int), (vs.length = 32) ∧ (s.pins.resetN = true) ∧ (s.ks.state = .run ∨ s.ks.state = .hold) ∧ (s.ks.failed = []) ∧ ((∀ v ∈ vs, sensorOk v = true)) ∧ (vs[i]? = some (some x)) ∧ (s.ks.sensors[i]? = some (some y)) ∧ (8 * (s.ks.policy.tripC : Int) ≤ x) ∧ (8 * (s.ks.policy.tripC : Int) ≤ y)) :=
  ⟨⟨sPics, List.replicate 32 (some 400), by decide +kernel, by decide +kernel, .inl (by decide +kernel), by decide +kernel, by decide, by intro v h x e; rw [List.eq_of_mem_replicate h] at e; cases e; decide⟩,
   ⟨(withKs (fun k => { k with sensors := List.replicate 32 (some 960) })), List.replicate 32 (some 960), 0, 960, 960, by decide +kernel, by decide +kernel, .inl (by decide +kernel), by decide +kernel, by decide, by decide +kernel, by decide +kernel, by decide +kernel, by decide +kernel⟩⟩

/-- Hypotheses that the clauses of `Obligations.PowerActs` meet. -/
theorem test_PowerActs_hyps :
    (∃ (s : State) (m : Mbx) (c : Cmd) (state : U8) (port : U8) (sound : U32) (picture : BitVec 14) (access : BitVec 2) (q : PwrReq), (q = stateReq state port sound picture access (some (m, c.seq))) ∧ (s.accepts m (rowPowerState m state port sound picture access) c = true)) ∧
    (∃ (s : State) (m : Mbx) (c : Cmd) (d : U16), ((s.domain d).state = .up ∨ (s.domain d).state = .poweringUp) ∧ (s.takes m (rowPowerVote m d 1) c (voteReply (setVote s m d true) d).length = true)) ∧
    (∃ (s : State) (m : Mbx) (c : Cmd) (d : U16) (t : State), ((s.domain d).state = .gated) ∧ (s.pwr.asleep = false) ∧ (t = (setVote s m d true).raiseDomain d) ∧ (s.takes m (rowPowerVote m d 1) c (voteReply t d).length = true)) ∧
    (∃ (s : State) (m : Mbx) (c : Cmd) (d : U16) (t : State), ((s.domain d).state = .changing) ∧ ((s.domain d).deferred.contains m = false) ∧ (t = (setVote s m d true).modDomain d (fun x => { x with deferred := x.deferred ++ [m] })) ∧ (s.takes m (rowPowerVote m d 1) c (voteReply t d).length = true)) ∧
    (∃ (s : State) (m : Mbx) (c : Cmd) (d : U16), (dropsDomain s m d = false) ∧ ((s.domain d).deferred.contains m = false) ∧ (s.takes m (rowPowerVote m d 0) c (voteReply (setVote s m d false) d).length = true)) ∧
    (∃ (s : State) (m : Mbx) (c : Cmd) (d : U16) (t : State), (dropsDomain s m d = true) ∧ ((s.domain d).deferred.contains m = false) ∧ (t = ((setVote s m d false).modDomain d (fun x => { x with held := false })).dropDomain d (some (m, c.seq))) ∧ (s.takes m (rowPowerVote m d 0) c (voteReply t d).length = true)) ∧
    (∃ (s : State) (m : Mbx) (c : Cmd) (ride : U8) (flush : U8) (mv : U16), (s.takes m (rowPowerSupply m ride flush mv) c 0 = true)) ∧
    (∃ (s : State) (m : Mbx) (c : Cmd) (l1 : U8), (s.takes m (rowPowerThermal m l1) c 0 = true)) ∧
    (∃ (s : State) (m : Mbx) (c : Cmd), (s.takes m (rowPowerQuery 0xFFFF) c 48 = true)) ∧
    (∃ (s : State) (m : Mbx) (c : Cmd) (d : U16), (d ≠ 0xFFFF) ∧ (s.takes m (rowPowerQuery d) c 48 = true)) ∧
    (∃ (s : State) (q : PwrReq) (id : U16) (n : Nat) (t : Nat), (s.pwr.running = some (q, id)) ∧ (s.pwr.gating = some (n, t)) ∧ (t ≤ s.clk)) ∧
    (∃ (s : State) (q : PwrReq), (s.pwr.pendingReq = some q) ∧ (s.changeWaits = false) ∧ (s.patternSeam = false) ∧ (s.pwr.supply = .normal ∨ s.pwr.supply = .ride)) ∧
    (∃ (s : State) (d : U16) (t : Nat), ((s.domain d).holdUntil = some t) ∧ (t ≤ s.chipNs)) ∧
    (∃ (s : State) (d : U16) (failed : List U16), ((s.domain d).state = .poweringUp)) ∧
    (∃ (s : State) (i : U8), ((s.iface i.toNat).any (fun f => f.enable) = true)) ∧
    (∃ (s : State) (p : _), ((s.accPort p).role ≠ 0)) ∧
    (∃ (s : State), (s.formed = true)) ∧
    (∃ (s : State) (l : List (Fin 4)) (a : List (Fin 4)) (b : List (Fin 4)), (s.formed = true) ∧ (l = a ++ (List.replicate 8 [3, 0, 3, 0, 3, 3, 0, 0, 3, 3, 3, 0, 0, 0, 3, 0]).flatten ++ b)) ∧
    (∃ (s : State) (l : List (Fin 4)), ((∀ a b, l ≠ a ++ (List.replicate 8 [3, 0, 3, 0, 3, 3, 0, 0, 3, 3, 3, 0, 0, 0, 3, 0]).flatten ++ b))) ∧
    (∃ (s : State) (failed : List U16), (s.pwr.waking = true)) ∧
    (∃ (s : State) (t : _), (s.pwr.trussUntil = some t) ∧ (t ≤ s.clk) ∧ (s.twin.linkUp = true)) ∧
    (∃ (s : State) (t : _), (s.pwr.trussUntil = some t) ∧ (t ≤ s.clk) ∧ (s.twin.linkUp = false)) :=
  ⟨⟨(asks (rowPowerState (0 : Mbx) (1 : U8) (0xFF : U8) (0 : U32) (0 : BitVec 14) (0 : BitVec 2)) sReady), 0, (cmdFor (rowPowerState (0 : Mbx) (1 : U8) (0xFF : U8) (0 : U32) (0 : BitVec 14) (0 : BitVec 2))), 1, 0xFF, 0, 0, 0, _, rfl, by decide +kernel⟩,
   ⟨(asks (rowPowerVote (0 : Mbx) (63 : U16) 1) sReady), 0, (cmdFor (rowPowerVote (0 : Mbx) (63 : U16) 1)), 63, .inl (by decide +kernel), by decide +kernel⟩,
   ⟨(asks (rowPowerVote (0 : Mbx) (63 : U16) 1) (withPwr (fun p => { p with domains := [(63, { state := .gated })] }) sReady)), 0, (cmdFor (rowPowerVote (0 : Mbx) (63 : U16) 1)), 63, _, by decide +kernel, by decide +kernel, rfl, by decide +kernel⟩,
   ⟨(asks (rowPowerVote (0 : Mbx) (63 : U16) 1) (withPwr (fun p => { p with domains := [(63, { state := .changing })] }) sReady)), 0, (cmdFor (rowPowerVote (0 : Mbx) (63 : U16) 1)), 63, _, by decide +kernel, by decide +kernel, rfl, by decide +kernel⟩,
   ⟨(asks (rowPowerVote (0 : Mbx) (63 : U16) 0) (withPwr (fun p => { p with domains := [(63, { votes := 3 })] }) sReady)), 0, (cmdFor (rowPowerVote (0 : Mbx) (63 : U16) 0)), 63, by decide +kernel, by decide +kernel, by decide +kernel⟩,
   ⟨(asks (rowPowerVote (0 : Mbx) (63 : U16) 0) (withPwr (fun p => { p with state := .trim, trimSound := 1, domains := [(63, { votes := 1 })] }) sReady)), 0, (cmdFor (rowPowerVote (0 : Mbx) (63 : U16) 0)), 63, _, by decide +kernel, by decide +kernel, rfl, by decide +kernel⟩,
   ⟨(asks (rowPowerSupply (0 : Mbx) (8 : U8) (20 : U8) (0 : U16)) sLegs), 0, (cmdFor (rowPowerSupply (0 : Mbx) (8 : U8) (20 : U8) (0 : U16))), 8, 20, 0, by decide +kernel⟩,
   ⟨(asks (rowPowerThermal (0 : Mbx) (100 : U8)) sLegs), 0, (cmdFor (rowPowerThermal (0 : Mbx) (100 : U8))), 100, by decide +kernel⟩,
   ⟨(asks (rowPowerQuery 0xFFFF) sLegs), 0, (cmdFor (rowPowerQuery 0xFFFF)), by decide +kernel⟩,
   ⟨(asks (rowPowerQuery (63 : U16)) sReady), 0, (cmdFor (rowPowerQuery (63 : U16))), 63, by decide +kernel, by decide +kernel⟩,
   ⟨(withPwr (fun p => { p with running := some ({ target := some .trim }, 5), gating := some (1, 0) })), { target := some .trim }, 5, 1, 0, by decide +kernel, by decide +kernel, by decide +kernel⟩,
   ⟨(withPwr (fun p => { p with pendingReq := some { target := some .trim } })), { target := some .trim }, by decide +kernel, by decide +kernel, by decide +kernel, .inl (by decide +kernel)⟩,
   ⟨(withPwr (fun p => { p with domains := [(63, { holdUntil := some 5 })] }) sReady), 63, 5, by decide +kernel, by decide +kernel⟩,
   ⟨(withPwr (fun p => { p with domains := [(63, { state := .poweringUp })] }) sReady), 63, [], by decide +kernel⟩,
   ⟨sPics, 0, by decide +kernel⟩,
   ⟨sHead, 0, by decide +kernel⟩,
   ⟨sStandby, by decide +kernel⟩,
   ⟨sStandby, (List.replicate 8 [3, 0, 3, 0, 3, 3, 0, 0, 3, 3, 3, 0, 0, 0, 3, 0]).flatten, [], [], by decide +kernel, by simp⟩,
   ⟨sStandby, [], by intro a b h; have := congrArg List.length h; simp at this⟩,
   ⟨(withPwr (fun p => { p with waking := true, wake := some (4, 0), state := .quiet, asleep := true })), [], by decide +kernel⟩,
   ⟨(withPwr (fun p => { p with trussUntil := some 5 }) sStandby), 5, by decide +kernel, by decide +kernel, by decide +kernel⟩,
   ⟨(withPwr (fun p => { p with trussUntil := some 5 })), 5, by decide +kernel, by decide +kernel, by decide +kernel⟩⟩

/-- Hypotheses that the clauses of `Obligations.SupplyStepsInOrder` meet. -/
theorem test_SupplyStepsInOrder_hyps :
    (∃ (s : State), (s.boot.stage ≠ .held) ∧ (s.ks.state = .run) ∧ (s.pwr.state ≠ .park) ∧ (s.pwr.supply = .normal)) ∧
    (∃ (s : State) (t : _), (s.boot.stage ≠ .held) ∧ (s.ks.state = .run) ∧ (s.pwr.state ≠ .park) ∧ (s.pwr.supply = .ride) ∧ (s.pins.pfwN = false) ∧ (s.pwr.stepAt = some t) ∧ (t ≤ s.clk)) ∧
    (∃ (s : State) (t : _), (s.boot.stage ≠ .held) ∧ (s.ks.state = .run) ∧ (s.pwr.state ≠ .park) ∧ (s.pwr.supply = .shed) ∧ (s.pins.pfwN = false) ∧ (s.pwr.stepAt = some t) ∧ (t ≤ s.clk)) ∧
    (∃ (s : State) (mv : List Nat), (s.boot.stage ≠ .held) ∧ (s.ks.state = .run) ∧ (s.pwr.state ≠ .park) ∧ (s.pwr.supply = .normal)) ∧
    (∃ (s : State) (a : Nat) (b : Nat) (c : Nat), (s.boot.stage ≠ .held) ∧ (s.ks.state = .run) ∧ (s.pwr.state ≠ .park) ∧ (s.pwr.supply = .ride ∨ s.pwr.supply = .shed) ∧ (a < s.pwr.holdMv) ∧ (b < s.pwr.holdMv) ∧ (c < s.pwr.holdMv)) ∧
    (∃ (s : State), (s.boot.stage ≠ .held) ∧ (s.ks.state = .run) ∧ (s.pwr.state ≠ .park) ∧ (s.pwr.supply = .flush)) ∧
    (∃ (s : State), (s.boot.stage ≠ .held) ∧ (s.ks.state = .run) ∧ (s.pwr.state ≠ .park) ∧ (s.pwr.supply = .ride)) ∧
    (∃ (s : State), (s.boot.stage ≠ .held) ∧ (s.ks.state = .run) ∧ (s.pwr.state ≠ .park) ∧ (s.pwr.supply = .shed) ∧ (s.pwr.asleep = false) ∧ (s.pwr.running = none)) ∧
    (∃ (s : State) (load : Nat) (us : Nat), (s.boot.stage ≠ .held) ∧ (s.ks.state = .run) ∧ (s.pwr.state ≠ .park) ∧ (s.regLow = true) ∧ (120 < load) ∧ (20 < us)) ∧
    (∃ (s : State) (load : Nat) (us : Nat), (s.boot.stage ≠ .held) ∧ (s.ks.state = .run) ∧ (s.pwr.state ≠ .park) ∧ (s.regLow = false ∨ load ≤ 120 ∨ us ≤ 20)) ∧
    (∃ (s : State) (v : State) (t : Nat), (s.boot.stage ≠ .held) ∧ (s.ks.state = .run) ∧ (s.pwr.state ≠ .park) ∧ (v.pwr.state = .park) ∧ (v.pwr.clearSince = some t) ∧ (t + 100 * State.ticksPerMs ≤ v.clk)) :=
  ⟨⟨sPics, by decide +kernel, by decide +kernel, by decide +kernel, by decide +kernel⟩,
   ⟨{ sPics with pwr := { sPics.pwr with supply := .ride, stepAt := some 5 }, pins := { sPics.pins with pfwN := false } }, 5, by decide +kernel, by decide +kernel, by decide +kernel, by decide +kernel, by decide +kernel, by decide +kernel, by decide +kernel⟩,
   ⟨{ sPics with pwr := { sPics.pwr with supply := .shed, stepAt := some 5 }, pins := { sPics.pins with pfwN := false } }, 5, by decide +kernel, by decide +kernel, by decide +kernel, by decide +kernel, by decide +kernel, by decide +kernel, by decide +kernel⟩,
   ⟨sPics, [5], by decide +kernel, by decide +kernel, by decide +kernel, by decide +kernel⟩,
   ⟨{ sPics with pwr := { sPics.pwr with supply := .ride, holdMv := 100 }, pins := { sPics.pins with pfwN := false } }, 5, 6, 7, by decide +kernel, by decide +kernel, by decide +kernel, .inl (by decide +kernel), by decide +kernel, by decide +kernel, by decide +kernel⟩,
   ⟨{ sPics with pwr := { sPics.pwr with supply := .flush }, pins := { sPics.pins with pfwN := false } }, by decide +kernel, by decide +kernel, by decide +kernel, by decide +kernel⟩,
   ⟨{ sPics with pwr := { sPics.pwr with supply := .ride, stepAt := some 5 }, pins := { sPics.pins with pfwN := false } }, by decide +kernel, by decide +kernel, by decide +kernel, by decide +kernel⟩,
   ⟨{ sPics with pwr := { sPics.pwr with supply := .shed, stepAt := some 5 }, pins := { sPics.pins with pfwN := false } }, by decide +kernel, by decide +kernel, by decide +kernel, by decide +kernel, by decide +kernel, by decide +kernel⟩,
   ⟨(withKs (fun k => { k with lowPower := true })), 130, 30, by decide +kernel, by decide +kernel, by decide +kernel, by decide +kernel, by decide +kernel, by decide +kernel⟩,
   ⟨sPics, 130, 30, by decide +kernel, by decide +kernel, by decide +kernel, .inl (by decide +kernel)⟩,
   ⟨sPics, { sPics with pwr := { sPics.pwr with state := .park, clearSince := some 0 }, pins := { sPics.pins with pfwN := false } }, 0, by decide +kernel, by decide +kernel, by decide +kernel, by decide +kernel, by decide +kernel, by decide +kernel⟩⟩

/-- Hypotheses that the clauses of `Obligations.PatternsAct` meet. -/
theorem test_PatternsAct_hyps :
    (∃ (s : State) (m : Mbx) (c : Cmd) (label : U32), (s.accepts m (rowPatternSave m label) c = true)) ∧
    (∃ (s : State) (m : Mbx) (c : Cmd) (g : U32) (force : Bool) (after : U32), (s.accepts m (rowPatternApply m g force after) c = true)) ∧
    (∃ (s : State) (m : Mbx) (c : Cmd) (g : U32), (s.accepts m (rowPatternProve m g) c = true)) ∧
    (∃ (s : State) (m : Mbx) (c : Cmd) (force : Bool), (s.accepts m (rowPatternRevert m force) c = true)) ∧
    (∃ (s : State) (m : Mbx) (c : Cmd) (g0 : Gen) (l : List (Nat × Gen)), (s.genOf 0 = some g0) ∧ (l = (0, g0) :: s.patt.gens) ∧ (s.takes m rowPatternList c (8 + (l.flatMap (fun p => genBytes s p.1 p.2)).length) = true)) ∧
    (∃ (s : State) (id : U16) (cell : U16) (k : Seam) (parts : List SeamPart), (s.seamLive id = some k) ∧ (k.state = .confirming) ∧ (s.beforeDeadline k = true) ∧ (k.parts.any (fun p => p.cell == cell && !p.confirmed) = true) ∧ (s.cellOut cell = false) ∧ ((k.entries.any (fun e => e.cell == cell && !s.itemExists e.item) || k.cmds.any (fun c => c.cell == cell && !s.refsExist k c.instr)) = false) ∧ (s.resourcesPresent k cell = true) ∧ (k.owner ≠ SeamFor.power) ∧ (k.owner ≠ SeamFor.pattern) ∧ (parts = k.parts.map (fun p => if p.cell = cell then { p with confirmed := true } else p))) ∧
    (∃ (s : State) (id : U16) (cell : U16) (k : Seam), (s.seamLive id = some k) ∧ (k.state = .confirming) ∧ (s.beforeDeadline k = true) ∧ (k.parts.any (fun p => p.cell == cell && !p.confirmed) = true) ∧ (s.cellOut cell = false) ∧ (s.decides = true) ∧ ((k.entries.any (fun e => e.cell == cell && !s.itemExists e.item) || k.cmds.any (fun c => c.cell == cell && !s.refsExist k c.instr)) = true)) ∧
    (∃ (s : State) (id : U16) (cell : U16) (k : Seam), (s.seamLive id = some k) ∧ (k.state = .confirming) ∧ (s.beforeDeadline k = true) ∧ (k.parts.any (fun p => p.cell == cell && !p.confirmed) = true) ∧ (s.cellOut cell = false) ∧ (s.decides = true) ∧ ((k.entries.any (fun e => e.cell == cell && !s.itemExists e.item) || k.cmds.any (fun c => c.cell == cell && !s.refsExist k c.instr)) = false) ∧ (k.owner ≠ SeamFor.power) ∧ (k.owner = SeamFor.pattern ∧ s.patternFits = false ∨ s.resourcesPresent k cell = false)) ∧
    (∃ (s : State) (id : U16) (cell : U16) (k : Seam) (r : U8), (s.seamLive id = some k) ∧ (k.state = .confirming) ∧ (s.beforeDeadline k = true) ∧ (k.parts.any (fun p => p.cell == cell && !p.confirmed) = true) ∧ (s.cellOut cell = false) ∧ (s.decides = true)) ∧
    (∃ (s : State) (m : Mbx) (n : Nat) (label : U32) (cfg : PatCfg) (kib : Nat), (s.patt.saving = some (m, n, label, cfg)) ∧ (kib ≤ 262144)) ∧
    (∃ (s : State) (m : Mbx) (n : Nat) (label : U32) (cfg : PatCfg) (kib : Nat), (s.patt.saving = some (m, n, label, cfg))) ∧
    (∃ (s : State) (m : Mbx) (n : Nat) (label : U32) (cfg : PatCfg) (kib : Nat), (s.patt.saving = some (m, n, label, cfg))) ∧
    (∃ (s : State) (t : _), (s.patt.revertAt = some t) ∧ (t ≤ s.clk) ∧ (s.notPrimary = false) ∧ (s.unproven = true) ∧ (s.seamsLive.isEmpty = true)) :=
  ⟨⟨(asks (rowPatternSave (0 : Mbx) (5 : U32)) sLegs), 0, (cmdFor (rowPatternSave (0 : Mbx) (5 : U32))), 5, by decide +kernel⟩,
   ⟨(asks (rowPatternApply (0 : Mbx) (1 : U32) (true : Bool) (60 : U32)) sGen), 0, (cmdFor (rowPatternApply (0 : Mbx) (1 : U32) (true : Bool) (60 : U32))), 1, true, 60, by decide +kernel⟩,
   ⟨(asks (rowPatternProve (0 : Mbx) (1 : U32)) sGen), 0, (cmdFor (rowPatternProve (0 : Mbx) (1 : U32))), 1, by decide +kernel⟩,
   ⟨(asks (rowPatternRevert (0 : Mbx) (true : Bool)) sGen), 0, (cmdFor (rowPatternRevert (0 : Mbx) (true : Bool))), true, by decide +kernel⟩,
   ⟨(asks rowPatternList sGen), 0, (cmdFor rowPatternList), { label := 0, schema := 0, proven := true, sizeKib := 0, savedS := 0, cfg := {} }, _, by decide +kernel, rfl, by decide +kernel⟩,
   ⟨(withSeam kc0), 1, 0x6000, kc0, _, by decide +kernel, by decide +kernel, by decide +kernel, by decide +kernel, by decide +kernel, by decide +kernel, by decide +kernel, by decide +kernel, by decide +kernel, rfl⟩,
   ⟨(withSeam { kc0 with entries := [{ cell := 0x6000, item := .leg 99 }] }), 1, 0x6000, { kc0 with entries := [{ cell := 0x6000, item := .leg 99 }] }, by decide +kernel, by decide +kernel, by decide +kernel, by decide +kernel, by decide +kernel, by decide +kernel, by decide +kernel⟩,
   ⟨(withFab (fun b => { b with cells := [(0x1300, { fenced := true })] }) (withSeam { kc0 with parts := [{ cell := 0x1000 }], cmds := [{ cell := 0x1000, mbx := 0, version := 0x32, instr := .layoutCreate 0 layq0 }] })), 1, 0x1000, { kc0 with parts := [{ cell := 0x1000 }], cmds := [{ cell := 0x1000, mbx := 0, version := 0x32, instr := .layoutCreate 0 layq0 }] }, by decide +kernel, by decide +kernel, by decide +kernel, by decide +kernel, by decide +kernel, by decide +kernel, by decide +kernel, by decide +kernel, .inr (by decide +kernel)⟩,
   ⟨(withSeam kc0), 1, 0x6000, kc0, 5, by decide +kernel, by decide +kernel, by decide +kernel, by decide +kernel, by decide +kernel, by decide +kernel⟩,
   ⟨(withPatt (fun p => { p with saving := some (0, 1, 5, pcfg) })), 0, 1, 5, pcfg, 7, by decide +kernel, by decide +kernel⟩,
   ⟨(withPatt (fun p => { p with saving := some (0, 1, 5, pcfg) })), 0, 1, 5, pcfg, 7, by decide +kernel⟩,
   ⟨(withPatt (fun p => { p with saving := some (0, 1, 5, pcfg) })), 0, 1, 5, pcfg, 7, by decide +kernel⟩,
   ⟨(withPatt (fun p => { p with revertAt := some 5 }) sGen), 5, by decide +kernel, by decide +kernel, by decide +kernel, by decide +kernel, by decide +kernel⟩⟩

/-- Hypotheses that `Obligations.StoredGenerationsAreKept` meets. -/
theorem test_StoredGenerationsAreKept_hyps :
    ∃ (s : State) (m : Mbx) (n : Nat) (label : U32) (cfg : PatCfg) (kib : Nat), (s.patt.saving = some (m, n, label, cfg)) ∧ (kib ≤ 262144) ∧ (s.patt.gens.length ≤ 8) ∧ ((s.patt.gens.map (·.1)).Nodup) ∧ ((∀ p ∈ s.patt.gens, p.1 ≤ s.patt.highest)) :=
  ⟨(withPatt (fun p => { p with saving := some (0, 1, 5, pcfg) }) sGen), 0, 1, 5, pcfg, 7, by decide +kernel, by decide +kernel, by decide +kernel, by decide +kernel, by decide +kernel⟩

/-- Hypotheses that the clauses of `Obligations.StartupGoesThroughItsStages` meet. -/
theorem test_StartupGoesThroughItsStages_hyps :
    (∃ (s : State) (a : Bool) (b : Bool), (s.boot.stage = .keystone)) ∧
    (∃ (s : State) (r : TrainingResult), (populationOk r = true) ∧ (r.failed = []) ∧ (s.boot.stage = .pierImage)) ∧
    (∃ (s : State) (r : TrainingResult), (populationOk r = true) ∧ (r.failed ≠ []) ∧ ((∀ k ∈ r.failed, 8 ≤ k ∧ k < r.channels)) ∧ (s.boot.stage = .pierImage)) ∧
    (∃ (s : State) (r : TrainingResult), (populationOk r = false ∨ (∃ k ∈ r.failed, k < 8)) ∧ (s.boot.stage = .pierImage)) ∧
    (∃ (s : State) (r : TrainingResult), (populationOk r = true) ∧ (r.failed = []) ∧ (s.boot.stage = .stuck)) ∧
    (∃ (s : State), (s.boot.stage = .ddr)) ∧
    (∃ (s : State) (bad : List U32), (s.boot.stage = .ready) ∧ (s.boot.recovery = false) ∧ (s.isReady 2 = false) ∧ (s.journalUp = true ∨ s.noStore = true)) ∧
    (∃ (s : State), (s.boot.recovery = false) ∧ (s.isReady 3 = false) ∧ (s.isReady 2 = true) ∧ (s.lookupUp = true ∨ s.noStore = true)) :=
  ⟨⟨{ sPics with boot := { sPics.boot with stage := .keystone } }, true, false, by decide +kernel⟩,
   ⟨{ sPics with boot := { sPics.boot with stage := .pierImage } }, { failed := [], channels := 12, capacityGib := 16, rate := 4800, ranks := 1 }, by decide +kernel, by decide +kernel, by decide +kernel⟩,
   ⟨{ sPics with boot := { sPics.boot with stage := .pierImage } }, { failed := [9], channels := 12, capacityGib := 16, rate := 4800, ranks := 1 }, by decide +kernel, by decide +kernel, by decide, by decide +kernel⟩,
   ⟨{ sPics with boot := { sPics.boot with stage := .pierImage } }, { failed := [3], channels := 12, capacityGib := 16, rate := 4800, ranks := 1 }, .inr (by decide), by decide +kernel⟩,
   ⟨{ sPics with boot := { sPics.boot with stage := .stuck } }, { failed := [], channels := 12, capacityGib := 16, rate := 4800, ranks := 1 }, by decide +kernel, by decide +kernel, by decide +kernel⟩,
   ⟨{ sPics with boot := { sPics.boot with stage := .ddr } }, by decide +kernel⟩,
   ⟨{ sPics with boot := { sPics.boot with readiness := 0 } }, [], by decide +kernel, by decide +kernel, by decide +kernel, .inl (by decide +kernel)⟩,
   ⟨{ sPics with boot := { sPics.boot with readiness := 4 } }, by decide +kernel, by decide +kernel, by decide +kernel, .inl (by decide +kernel)⟩⟩

end Sys2Proof.Tests
end

section
/-! SUPPORT. The samples of pictures: the blend of one sample (07 R195) and the dither of an 8-bit feed (07 R197). -/

namespace Sys2Proof.Machine

open Sys2Proof

/-! ### The blend of one sample (07 R195) -/

/-- The weights add up to 1,024, so two samples of 10 bits weigh at most 1,024 times the largest sample. -/
theorem weighted_le {alpha f b : Nat} (ha : alpha ≤ 1024) (hf : f ≤ 1023) (hb : b ≤ 1023) :
    alpha * f + (1024 - alpha) * b ≤ 1024 * 1023 :=
  calc alpha * f + (1024 - alpha) * b
    _ ≤ alpha * 1023 + (1024 - alpha) * 1023 := by gcongr
    _ = 1024 * 1023 := by rw [← Nat.add_mul, Nat.add_sub_cancel' ha]

/-- The blend is a 10-bit sample: the half added for the rounding never carries past the largest one. -/
theorem blend_le {alpha f b : Nat} (ha : alpha ≤ 1024) (hf : f ≤ 1023) (hb : b ≤ 1023) : blend alpha f b ≤ 1023 := by
  have hw := weighted_le ha hf hb
  unfold blend
  omega

theorem blend_transparent (f b : Nat) : blend 0 f b = b := by
  unfold blend
  omega

theorem blend_opaque (f b : Nat) : blend 1024 f b = f := by
  unfold blend
  omega

/-- A weighted sum that lies midway between two samples goes to the upper one. -/
theorem blend_half {alpha f b n : Nat} (h : 2 * (alpha * f + (1024 - alpha) * b) = 1024 * (2 * n + 1)) :
    blend alpha f b = n + 1 := by
  unfold blend
  omega

/-- The formula of R195 in words of 32 bits: no intermediate result wraps, so the words hold the exact numbers. -/
theorem blend_word {alpha f b : Nat} (ha : alpha ≤ 1024) (hf : f ≤ 1023) (hb : b ≤ 1023) :
    BitVec.ofNat 32 (blend alpha f b) =
      (BitVec.ofNat 32 alpha * BitVec.ofNat 32 f + (1024#32 - BitVec.ofNat 32 alpha) * BitVec.ofNat 32 b + 512#32) >>> 10 := by
  have hw := weighted_le ha hf hb
  have hsum : BitVec.ofNat 32 alpha * BitVec.ofNat 32 f + (1024#32 - BitVec.ofNat 32 alpha) * BitVec.ofNat 32 b + 512#32 =
      BitVec.ofNat 32 (alpha * f + (1024 - alpha) * b + 512) := by
    rw [BitVec.ofNat_sub_ofNat_of_le 1024 alpha (by omega) ha, ← BitVec.ofNat_mul, ← BitVec.ofNat_mul, ← BitVec.ofNat_add,
      ← BitVec.ofNat_add]
  rw [hsum]
  apply BitVec.eq_of_toNat_eq
  rw [BitVec.toNat_ushiftRight, BitVec.toNat_ofNat, BitVec.toNat_ofNat, Nat.shiftRight_eq_div_pow]
  unfold blend
  omega

/-- Settles O24: the weighted sum is at most 1,024 × 1,023, so 32 bits hold it and its quotient needs no clamp. -/
theorem blendIsExact : Obligations.BlendIsExact := by
  intro alpha f b ha hf hb
  exact ⟨blend_word ha hf hb, blend_transparent f b, blend_opaque f b, fun _ => blend_half, blend_le ha hf hb⟩

/-! ### The matrix of the dither (Table 7-2) -/

/-- An entry of Table 7-2 that the table holds is the entry the dither takes. -/
theorem ditherAt_of_entry {row col d : Nat} (h : (ditherRows[row % 8]?).bind (fun r => r[col % 8]?) = some d) :
    ditherAt row col = d := by
  obtain ⟨r, hr, hd⟩ := Option.bind_eq_some_iff.mp h
  simp [ditherAt, hr, hd]

@[simp] theorem ditherAt_add_eight_row (row col : Nat) : ditherAt (row + 8) col = ditherAt row col := by
  simp [ditherAt]

@[simp] theorem ditherAt_add_eight_col (row col : Nat) : ditherAt row (col + 8) = ditherAt row col := by
  simp [ditherAt]

/-- What the dither adds to the upper 8 bits at an entry of the matrix, for the lower two bits r of the sample. -/
def ditherCarry (row col r : Nat) : Nat := if ditherAt row col < r * 16 then 1 else 0

theorem ditherCarry_le_one (row col r : Nat) : ditherCarry row col r ≤ 1 := by
  unfold ditherCarry
  split <;> decide

theorem ditherCarry_zero (row col : Nat) : ditherCarry row col 0 = 0 := by
  simp [ditherCarry]

theorem dither_eq_min (n x y v : Nat) :
    dither n x y v = min 255 (v / 4 + ditherCarry (y + n / 8 % 8) (x + n % 8) (v % 4)) := rfl

/-- Up to 1,020 the dither does not saturate: either four levels are left below 255, or there is nothing to add. -/
theorem dither_eq_add {n x y v : Nat} (hv : v ≤ 1020) :
    dither n x y v = v / 4 + ditherCarry (y + n / 8 % 8) (x + n % 8) (v % 4) := by
  rw [dither_eq_min]
  apply Nat.min_eq_right
  obtain rfl | hlt := hv.eq_or_lt
  · simp [ditherCarry_zero]
  · have hc := ditherCarry_le_one (y + n / 8 % 8) (x + n % 8) (v % 4)
    omega

/-- Each of the numbers 0 to 63 stands once in Table 7-2, so 16 r entries lie below 16 r. -/
theorem sum_ditherCarry_table {r : Nat} (hr : r < 4) :
    ∑ j ∈ Finset.range 8, ∑ i ∈ Finset.range 8, ditherCarry j i r = 16 * r := by
  revert r
  decide

/-! ### Sums over a block of positions -/

/-- Over a whole period it does not matter where a sum starts. -/
theorem sum_range_shift_of_periodic {g : Nat → Nat} {p : Nat} (hg : ∀ i, g (i + p) = g i) (a : Nat) :
    ∑ i ∈ Finset.range p, g (a + i) = ∑ i ∈ Finset.range p, g i := by
  induction a with
  | zero => simp only [Nat.zero_add]
  | succ a ih =>
    have hwin := (Finset.sum_range_succ' (fun i => g (a + i)) p).symm.trans (Finset.sum_range_succ (fun i => g (a + i)) p)
    rw [Nat.add_zero, hg a, ih] at hwin
    rw [← Nat.add_right_cancel hwin]
    exact Finset.sum_congr rfl fun i _ => congrArg g (by omega)

/-- The carries of any 8 by 8 block are those of the table itself, for its rows and columns repeat. -/
theorem sum_ditherCarry_block (row col : Nat) {r : Nat} (hr : r < 4) :
    ∑ j ∈ Finset.range 8, ∑ i ∈ Finset.range 8, ditherCarry (row + j) (col + i) r = 16 * r := by
  have hcols (k : Nat) : ∑ i ∈ Finset.range 8, ditherCarry k (col + i) r = ∑ i ∈ Finset.range 8, ditherCarry k i r :=
    sum_range_shift_of_periodic (g := fun i => ditherCarry k i r) (fun i => by simp [ditherCarry]) col
  have hrows : ∑ j ∈ Finset.range 8, ∑ i ∈ Finset.range 8, ditherCarry (row + j) i r =
      ∑ j ∈ Finset.range 8, ∑ i ∈ Finset.range 8, ditherCarry j i r :=
    sum_range_shift_of_periodic (g := fun j => ∑ i ∈ Finset.range 8, ditherCarry j i r) (fun j => by simp [ditherCarry]) row
  simp only [hcols]
  rw [hrows, sum_ditherCarry_table hr]

/-- `total` over the first n numbers is Mathlib's sum. -/
theorem total_range (n : Nat) (f : Nat → Nat) : total (List.range n) f = ∑ k ∈ Finset.range n, f k := by
  induction n with
  | zero => rfl
  | succ n ih =>
    rw [Finset.sum_range_succ, ← ih, List.range_succ]
    simp [total]

/-- A block read in raster order is read row by row. -/
theorem sum_range_raster (w h : Nat) (g : Nat → Nat → Nat) :
    ∑ k ∈ Finset.range (w * h), g (k % w) (k / w) = ∑ j ∈ Finset.range h, ∑ i ∈ Finset.range w, g i j := by
  induction h with
  | zero => simp
  | succ h ih =>
    rw [Nat.mul_succ, Finset.sum_range_add, ih, Finset.sum_range_succ]
    congr 1
    refine Finset.sum_congr rfl fun i hi => ?_
    have hiw : i < w := Finset.mem_range.mp hi
    rw [Nat.mul_add_mod, Nat.mod_eq_of_lt hiw, Nat.mul_add_div (by omega), Nat.div_eq_of_lt hiw, Nat.add_zero]

/-! ### The dither of one sample and of a block (07 R197) -/

/-- The dither as R197 writes it, with shifts and masks and the entry d of Table 7-2. -/
theorem dither_of_entry {n x y v d : Nat}
    (h : (ditherRows[(y + n / 8 % 8) % 8]?).bind (fun row => row[(x + n % 8) % 8]?) = some d) :
    dither n x y v = min 255 ((v >>> 2) + if ((v &&& 3) <<< 4) > d then 1 else 0) := by
  have hquot : v >>> 2 = v / 4 := Nat.shiftRight_eq_div_pow v 2
  have hlow : (v &&& 3) <<< 4 = v % 4 * 16 := by
    rw [Nat.shiftLeft_eq, Nat.and_two_pow_sub_one_eq_mod v 2]
  rw [dither_eq_min, ditherCarry, ditherAt_of_entry h, hquot, hlow]

/-- The dither keeps the mean of a block: 64 times the upper bits and 16 carries for each unit of the lower ones. -/
theorem total_dither_block (n x y : Nat) {v : Nat} (hv : v ≤ 1020) :
    total (List.range 64) (fun k => dither n (x + k % 8) (y + k / 8) v) = 16 * v :=
  calc total (List.range 64) (fun k => dither n (x + k % 8) (y + k / 8) v)
    _ = ∑ j ∈ Finset.range 8, ∑ i ∈ Finset.range 8, dither n (x + i) (y + j) v := by
      rw [total_range]
      exact sum_range_raster 8 8 fun i j => dither n (x + i) (y + j) v
    _ = ∑ j ∈ Finset.range 8, ∑ i ∈ Finset.range 8,
          (v / 4 + ditherCarry (y + n / 8 % 8 + j) (x + n % 8 + i) (v % 4)) := by
      simp only [dither_eq_add hv, Nat.add_right_comm]
    _ = 64 * (v / 4) + 16 * (v % 4) := by
      simp only [Finset.sum_add_distrib, sum_ditherCarry_block _ _ (Nat.mod_lt v (by decide : 0 < 4)), Finset.sum_const,
        Finset.card_range, smul_eq_mul]
      omega
    _ = 16 * v := by omega

/-- Settles O25: the model's matrix is Table 7-2, and a block of any place and phase meets each of its entries once. -/
theorem ditherFollowsItsMatrix : Obligations.DitherFollowsItsMatrix :=
  ⟨fun _ _ _ _ _ _ h => dither_of_entry h, fun n x y _ hv => total_dither_block n x y hv⟩

end Sys2Proof.Machine
end

section
/-! SUPPORT. The claim bus (12 R320 to R323): claim numbers and the one winner of a frame. -/

namespace Sys2Proof.Machine

open Sys2Proof

/-- A group without a claim has rank 0; a claim ranks as `rankOf` says, over the preference of the unit's side. -/
theorem State.claimNo_of_claim {s : State} {g : Nat} {c : Claim} (h : tget s.twin.claims g = some c) :
    s.claimNo g = if s.rankOf g c = 0 then 0 else s.rankOf g c * 4096 + (if s.pins.twinSide then c.prefB else c.prefA) % 4096 := by
  simp only [State.claimNo, h]

/-- A unit that does not use a group, has released its claims, or that Keystone holds back has no rank (12 R320, 16 R422). -/
theorem State.rankOf_held_back {s : State} {c : Claim} (g : Nat)
    (h : c.used = false ∨ s.twin.released = true ∨ s.ks.released = false ∨ s.ks.state = .trip ∨ s.ks.state = .park) : s.rankOf g c = 0 := by
  unfold State.rankOf
  rw [if_pos (by simpa using h)]

/-- A holder that does not yield ranks at least 0xC as PRIMARY (12 R321). -/
theorem State.le_rankOf_holder {s : State} {c : Claim} (g : Nat) (hu : c.used = true) (hr : s.twin.released = false)
    (hk : s.ks.released = true) (ht : s.ks.state ≠ .trip) (hp : s.ks.state ≠ .park) (hs : s.twin.state = .primary)
    (hh : c.held = true) (hy : c.yielding = false) : 0xC ≤ s.rankOf g c := by
  unfold State.rankOf
  rw [if_neg (by simp [hu, hr, hk, ht, hp]), hs]
  simp only [hh, hy]
  split <;> simp

/-- A standby that takes a group ranks 0xE (12 R321). -/
theorem State.rankOf_taking_standby {s : State} {c : Claim} (g : Nat) (hu : c.used = true) (hr : s.twin.released = false)
    (hk : s.ks.released = true) (ht : s.ks.state ≠ .trip) (hp : s.ks.state ≠ .park) (hs : s.twin.state = .standby)
    (hta : c.taking = true) : s.rankOf g c = 0xE := by
  unfold State.rankOf
  rw [if_neg (by simp [hu, hr, hk, ht, hp]), hs]
  simp [hta]

/-- The highest rank is that of a claim raised to take a group. -/
theorem State.rankOf_le (s : State) (g : Nat) (c : Claim) : s.rankOf g c ≤ 0xE := by
  unfold State.rankOf
  split
  · omega
  · split <;> (repeat' split) <;> omega

/-- A standby that neither holds a group nor takes it ranks below every holder. -/
theorem State.rankOf_idle_standby {s : State} {g : Nat} {c : Claim} (hs : s.twin.state = .standby) (ht : c.taking = false)
    (hh : c.held = false) (h0 : g = 0 → s.twin.raised0 = false) : s.rankOf g c ≤ 8 := by
  have hraised : ¬ (g = 0 ∧ s.twin.raised0 = true) := fun ⟨hg, hr⟩ => by simp [h0 hg] at hr
  unfold State.rankOf
  split
  · omega
  · simp [hs, ht, hh, hraised]

theorem State.claimNo_lt (s : State) (g : Nat) : s.claimNo g < 0xF000 := by
  unfold State.claimNo
  split
  · next c _ =>
    have := s.rankOf_le g c
    dsimp only
    split <;> omega
  · omega

/-- What decides a frame: the higher claim, or SIDE where the claims are equal. -/
theorem State.claimWon_iff {s : State} {g n : Nat} {f : ClaimFrame} (h : f.peerClaim = some (BitVec.ofNat 16 n)) (hn : n < 0x10000) :
    s.claimWon g f = true ↔ s.claimNo g ≠ 0 ∧ (n < s.claimNo g ∨ n = s.claimNo g ∧ (f.peerSide = true → s.pins.twinSide = true)) := by
  have hpeer : (f.peerClaim.getD 0).toNat = n := by
    simp only [h, Option.getD_some, BitVec.toNat_ofNat]
    omega
  have hside : bit f.peerSide ≤ bit s.pins.twinSide ↔ (f.peerSide = true → s.pins.twinSide = true) := by
    cases f.peerSide <;> cases s.pins.twinSide <;> decide
  simp only [State.claimWon, hpeer, hside, Bool.and_eq_true, Bool.or_eq_true, bne_iff_ne, beq_iff_eq, decide_eq_true_eq]

/-- Settles O39: of two unequal claims the higher wins, and of two equal ones that of SIDE 1, which only one of the two units has. -/
theorem oneUnitWinsAGroup : Obligations.OneUnitWinsAGroup := by
  intro a b g fa fb hsides hfa hfb hca hcb
  have ha := State.claimWon_iff (s := a) (g := g) hca (by have := b.claimNo_lt g; omega)
  have hb := State.claimWon_iff (s := b) (g := g) hcb (by have := a.claimNo_lt g; omega)
  rw [hfa] at ha
  rw [hfb] at hb
  constructor
  · rw [Bool.eq_false_iff, ne_eq, Bool.and_eq_true, ha, hb]
    rintro ⟨⟨-, hab | ⟨hab, hsa⟩⟩, -, hba | ⟨hba, hsb⟩⟩
    · omega
    · omega
    · omega
    · exact hsides (Bool.eq_iff_iff.mpr ⟨hsb, hsa⟩)
  · rw [Bool.eq_iff_iff, Bool.or_eq_true, Bool.or_eq_true, ha, hb, decide_eq_true_eq, decide_eq_true_eq]
    have hone : a.pins.twinSide = true ∨ b.pins.twinSide = true := by
      revert hsides
      cases a.pins.twinSide <;> cases b.pins.twinSide <;> decide
    constructor
    · rintro (⟨h, -⟩ | ⟨h, -⟩)
      · exact .inl h
      · exact .inr h
    · intro hclaims
      rcases Nat.lt_trichotomy (a.claimNo g) (b.claimNo g) with hlt | heq | hgt
      · exact .inr ⟨by omega, .inl hlt⟩
      · rcases hone with hsa | hsb
        · exact .inl ⟨by omega, .inr ⟨heq.symm, fun _ => hsa⟩⟩
        · exact .inr ⟨by omega, .inr ⟨heq, fun _ => hsb⟩⟩
      · exact .inl ⟨by omega, .inl hgt⟩

/-- Settles O40: the claim number is the rank over 12 bits of preference, so the order of the ranks is that of the claims. -/
theorem claimRanksAreOrdered : Obligations.ClaimRanksAreOrdered := by
  intro s g c hc
  rw [State.claimNo_of_claim hc]
  refine ⟨fun h => ?_, ?_, fun hs ht hh h0 => ?_, fun hu hr hk ht hp hs hh hy => ?_, fun hu hr hk ht hp hs hta => ?_⟩
  · rw [if_pos (State.rankOf_held_back g (h.imp_right .inr))]
  · rw [← State.claimNo_of_claim hc]
    exact s.claimNo_lt g
  · have := State.rankOf_idle_standby hs ht hh h0
    split <;> omega
  · have := State.le_rankOf_holder g hu hr hk ht hp hs hh hy
    split <;> omega
  · rw [State.rankOf_taking_standby g hu hr hk ht hp hs hta]
    split <;> omega

end Sys2Proof.Machine
end

section
/-! SUPPORT. The deficit round robin of a DSP block (14 R363). -/

namespace Sys2Proof.Machine

open Sys2Proof

/-! ### One turn of the round robin -/

/-- Enough turns left for group g to be reached k more times after its next one, and a deficit that so many weights lift above 0: a turn
of g adds at least 1,024, but its first one adds nothing where g stands at the pointer with its weight already added. -/
def DrrReaches (b : DispBlock) (g k n : Nat) : Prop :=
  (g + 16 - b.ptr) % 16 + 1 + 16 * k ≤ n ∧
    0 < (b.deficit[g]?).getD 0 + 1024 * ((k + if b.fresh = true ∨ b.ptr ≠ g then 1 else 0 : Nat) : Int)

/-- A group without READY tasks loses its deficit and its turn. -/
theorem drr_none {head : Nat → Option (Nat × Nat)} {weight : Nat → Nat} {b : DispBlock} (n : Nat) (hp : b.ptr < 16) (h : head b.ptr = none) :
    drr head weight (n + 1) b = drr head weight n { b with deficit := b.deficit.set! b.ptr 0, ptr := (b.ptr + 1) % 16, fresh := true } := by
  rw [drr]
  simp only [Nat.mod_eq_of_lt hp, h]

/-- A group whose deficit is above 0 hands out its head and keeps the turn. -/
theorem drr_serve {head : Nat → Option (Nat × Nat)} {weight : Nat → Nat} {b : DispBlock} {t est : Nat} (n : Nat) (hp : b.ptr < 16)
    (h : head b.ptr = some (t, est)) (hd : 0 < (b.deficit[b.ptr]?).getD 0 + (if b.fresh then 1024 * (weight b.ptr : Int) else 0)) :
    (drr head weight (n + 1) b).2 = some t ∧ (drr head weight (n + 1) b).1.ptr = b.ptr ∧ (drr head weight (n + 1) b).1.fresh = false := by
  rw [drr]
  simp [Nat.mod_eq_of_lt hp, h, if_pos hd]

/-- A group whose deficit is not above 0 keeps it, with the weight added, and loses the turn. -/
theorem drr_pass {head : Nat → Option (Nat × Nat)} {weight : Nat → Nat} {b : DispBlock} {t est : Nat} (n : Nat) (hp : b.ptr < 16)
    (h : head b.ptr = some (t, est)) (hd : ¬ 0 < (b.deficit[b.ptr]?).getD 0 + (if b.fresh then 1024 * (weight b.ptr : Int) else 0)) :
    drr head weight (n + 1) b = drr head weight n { b with
      deficit := b.deficit.set! b.ptr ((b.deficit[b.ptr]?).getD 0 + (if b.fresh then 1024 * (weight b.ptr : Int) else 0)),
      ptr := (b.ptr + 1) % 16, fresh := true } := by
  rw [drr]
  simp only [Nat.mod_eq_of_lt hp, h]
  rw [if_neg hd]

/-! ### Reaching a group -/

/-- A turn of another group brings g nearer by one turn. -/
theorem DrrReaches.next_of_ne {b : DispBlock} {g k n : Nat} (h : DrrReaches b g k (n + 1)) (hg : g < 16) (hp : b.ptr < 16) (hne : b.ptr ≠ g) (x : Int) :
    DrrReaches { b with deficit := b.deficit.set! b.ptr x, ptr := (b.ptr + 1) % 16, fresh := true } g k n := by
  obtain ⟨hturns, hdef⟩ := h
  refine ⟨by dsimp only; omega, ?_⟩
  simpa [Vector.set!, hne] using hdef

/-- A turn of g that hands out nothing leaves one visit less, and its weight is in the deficit. -/
theorem DrrReaches.next_of_pass {b : DispBlock} {g k n w : Nat} (h : DrrReaches b g k (n + 1)) (hg : g < 16) (hp : b.ptr = g) (hw : 0 < w)
    (hd : ¬ 0 < (b.deficit[g]?).getD 0 + (if b.fresh then 1024 * (w : Int) else 0)) :
    ∃ j, DrrReaches { b with deficit := b.deficit.set! g ((b.deficit[g]?).getD 0 + (if b.fresh then 1024 * (w : Int) else 0)), ptr := (g + 1) % 16, fresh := true } g j n := by
  obtain ⟨hturns, hdef⟩ := h
  simp only [hp, ne_eq, not_true_eq_false, or_false] at hdef
  have hk : k ≠ 0 := by
    rintro rfl
    split at hdef <;> simp_all <;> omega
  refine ⟨k - 1, by dsimp only; omega, ?_⟩
  simp [Vector.set!, hg]
  split at hdef <;> simp_all <;> omega

/-- A READY group that is reached often enough is served, unless another one is served before. -/
theorem drr_serves {head : Nat → Option (Nat × Nat)} {weight : Nat → Nat} (hw : ∀ g, g < 16 → head g ≠ none → 0 < weight g)
    {g : Nat} (hg : g < 16) (hready : head g ≠ none) (n : Nat) (b : DispBlock) (k : Nat) (hp : b.ptr < 16) (hr : DrrReaches b g k n) :
    ∃ g t est, g < 16 ∧ head g = some (t, est) ∧ (drr head weight n b).2 = some t ∧ (drr head weight n b).1.ptr = g ∧ (drr head weight n b).1.fresh = false := by
  induction n generalizing b k with
  | zero => exact absurd hr.1 (by omega)
  | succ n ih =>
    have hnext : (b.ptr + 1) % 16 < 16 := Nat.mod_lt _ (by decide)
    rcases hhead : head b.ptr with _ | ⟨t, est⟩
    · have hne : b.ptr ≠ g := fun e => hready (e ▸ hhead)
      rw [drr_none n hp hhead]
      exact ih _ k hnext (hr.next_of_ne hg hp hne 0)
    · by_cases hd : 0 < (b.deficit[b.ptr]?).getD 0 + (if b.fresh then 1024 * (weight b.ptr : Int) else 0)
      · exact ⟨b.ptr, t, est, hp, hhead, drr_serve n hp hhead hd⟩
      · rw [drr_pass n hp hhead hd]
        by_cases he : b.ptr = g
        · subst he
          obtain ⟨j, hj⟩ := hr.next_of_pass hp rfl (hw _ hp hready) hd
          exact ih _ j hnext hj
        · exact ih _ k hnext (hr.next_of_ne hg hp he _)

/-! ### The number of turns a GET runs for -/

/-- A running maximum is at least its start and every value met. -/
theorem le_foldl_max {α : Type} (f : α → Nat) (l : List α) (m : Nat) :
    m ≤ l.foldl (fun acc a => max acc (f a)) m ∧ ∀ a ∈ l, f a ≤ l.foldl (fun acc a => max acc (f a)) m := by
  induction l generalizing m with
  | nil => simp
  | cons x l ih =>
    obtain ⟨hstart, hmem⟩ := ih (max m (f x))
    simp only [List.foldl_cons, List.mem_cons, forall_eq_or_imp]
    exact ⟨by omega, by omega, hmem⟩

/-- The turns of one GET reach every group often enough. -/
theorem drrReaches_drrTurns (b : DispBlock) {g : Nat} (hg : g < 16) : ∃ k, DrrReaches b g k (drrTurns b) := by
  have hmax := (le_foldl_max (fun d : Int => (-d).toNat / 1024 + 3) b.deficit.toList 3).2 b.deficit[g] (by simp)
  refine ⟨((-b.deficit[g]).toNat / 1024 + 2), ?_, ?_⟩
  · unfold drrTurns
    omega
  · simp only [hg, Vector.getElem?_eq_getElem, Option.getD_some]
    split <;> omega

/-- Settles O44: the turns of a GET reach the READY group often enough to lift its deficit above 0, if no other group is served before. -/
theorem everyGetIsServed : Obligations.EveryGetIsServed := by
  intro head weight b hp hw ⟨g, hg, hready⟩
  obtain ⟨k, hk⟩ := drrReaches_drrTurns b hg
  exact drr_serves hw hg hready (drrTurns b) b k hp hk

end Sys2Proof.Machine
end

section
/-! SUPPORT. A step, and what a Pledom row does: nothing without a ready command, the answer of a failing check, the effect or the basting where every check passes (03 R82, R92, R95). -/

namespace Sys2Proof.Machine

open Sys2Proof

/-! ### A step -/

/-- Settles O1: both memories are empty at reset. -/
theorem resetMemoryOk : Obligations.ResetMemoryOk := by
  unfold Obligations.ResetMemoryOk
  rfl

theorem step_of_front {s : State} {i : Instr} {rest : List Instr} (h : s.pending = i :: rest) : step s = exec i s.popped := by
  simp only [step, h]

theorem step_of_empty {s : State} (h : s.pending = []) : step s = .next s.tick := by
  simp only [step, h]

/-- Settles O3. -/
theorem stepRunsFront : Obligations.StepRunsFront := by
  intro s i rest h
  rw [step_of_front h, State.popped, h, List.drop_succ_cons, List.drop_zero]

/-- Settles O6: every arm of `exec` answers a next state. -/
theorem everyCommandRuns : Obligations.EveryCommandRuns := by
  intro i s
  cases i <;> exact ⟨_, rfl⟩

/-! ### The rows of Pledom -/

/-- A row of Pledom is a run of its command. -/
theorem exec_of_pledom {i : Instr} {m : Mbx} {row : Row} (h : pledom i = some (m, row)) (s : State) : exec i s = .next (s.run m row) := by
  unfold pledom at h
  split at h <;> cases h <;> rfl

/-- Without a ready command of its opcode and operands a row changes nothing (log 5). -/
theorem State.run_of_none_ready {s : State} {m : Mbx} {row : Row} (h : (s.readyCmd m row.opcode).all (fun c => !row.reads c) = true) :
    s.run m row = s := by
  unfold State.run
  split
  · rfl
  · next c hc =>
    rw [hc] at h
    exact if_pos (by simpa using h)

/-- A command that fails a check answers with it (03 R95). -/
theorem State.run_of_verdict {s : State} {m : Mbx} {row : Row} {c : Cmd} {r : Rep} (hc : s.readyCmd m row.opcode = some c)
    (hr : row.reads c = true) (hv : s.verdict m c (row.allChecks c s) = some r) : s.run m row = (s.complete m c r).fin := by
  simp [State.run, hc, hr, hv]

/-- A command that is accepted takes its effect, and is answered or goes on acting. -/
theorem State.run_of_accepts {s : State} {m : Mbx} {row : Row} {c : Cmd} (h : s.accepts m row c = true) :
    s.run m row = if (row.effect c s).2.later then (row.effect c s).1.acting m row.opcode c (row.effect c s).2
      else (row.effect c s).1.answered m row.opcode c (row.effect c s).2 := by
  simp only [State.accepts, Bool.and_eq_true, beq_iff_eq, Option.isNone_iff_eq_none] at h
  obtain ⟨⟨⟨hc, hr⟩, hs⟩, hv⟩ := h
  simp [State.run, hc, hr, hs, hv, State.acting, State.answered]

/-- A command of a seam that is accepted is basted and answered (02 R47 to R49). -/
theorem State.run_of_accBaste {s t : State} {m : Mbx} {row : Row} {c : Cmd} {r : Rep} {x : Instr × Nat} (h : s.accBaste m row c = true)
    (hb : row.baste c s = (t, r, some x)) : s.run m row = (t.enterSeam m c (row.checks c s).items x).answered m row.opcode c r := by
  simp only [State.accBaste, Bool.and_eq_true, beq_iff_eq, bne_iff_ne, Option.isNone_iff_eq_none] at h
  obtain ⟨⟨⟨hc, hr⟩, hs⟩, hv⟩ := h
  have hitems : (row.allChecks c s).items = (row.checks c s).items := rfl
  simp [State.run, hc, hr, hv, hb, hitems, State.answered, show ¬ c.hdr.seam = 65535#16 from hs]

/-- The room for the reply is checked before every check but the card's own lengths (03 R82). -/
theorem State.verdict_of_tooLong {s : State} {m : Mbx} {row : Row} {c : Cmd} (hs : c.hdr.seam = 0xFFFF) (hp : (row.checks c s).pre = none)
    (hl : State.tooLong c (row.effect c s).2 = true) :
    s.verdict m c (row.allChecks c s) = some (Rep.fail St.length [(row.effect c s).2.data.length]) := by
  simp [State.verdict, Row.allChecks, hs, hp, hl, firstFail, need]

/-- Answering a failed check changes mailboxes and pins. -/
theorem State.fin_complete_eq (s : State) (m : Mbx) (c : Cmd) (r : Rep) :
    (s.complete m c r).fin = { s with pl := (s.complete m c r).fin.pl, pins := (s.complete m c r).fin.pins } := by
  rw [State.fin_eq, State.complete_eq]

/-- Settles O8: a Pledom row is a run of its command, and the run takes the path that the checks decide. -/
theorem commandsAreCheckedThenAct : Obligations.CommandsAreCheckedThenAct := by
  refine ⟨fun i m row s c hi ha => ?_, fun i m row s c hi hc hr => ⟨fun r hv => ⟨?_, s.fin_complete_eq m c r⟩, fun hs hp hl => ?_⟩,
    fun i m row s t c r x hi ha hb => ?_⟩
  · rw [exec_of_pledom hi, State.run_of_accepts ha]
    exact ⟨fun hl => by rw [if_pos hl], fun hl => by rw [if_neg (by simp [hl])]⟩
  · rw [exec_of_pledom hi, State.run_of_verdict hc hr hv]
  · rw [exec_of_pledom hi, State.run_of_verdict hc hr (State.verdict_of_tooLong hs hp hl)]
  · rw [exec_of_pledom hi, State.run_of_accBaste ha hb]

/-- Settles O9. -/
theorem answeringKeepsTheRest : Obligations.AnsweringKeepsTheRest :=
  fun s m op c r => ⟨⟨_, _, _, s.answered_eq m op c r⟩, ⟨_, _, _, s.acting_eq m op c r⟩⟩

end Sys2Proof.Machine
end

section
/-! SUPPORT. What leaves the queue and the memories alone.

Only a DMA channel and a reset touch what memory holds, and only `popped` touches the queue. For every other
function of the model one lemma says so (`State.Keeps`), in the order of the model's chapters: a function that calls
others uses their lemmas. -/

namespace Sys2Proof.Machine
open Sys2Proof

/-- A part of a step that leaves the queue and what both memories hold. -/
abbrev State.Keeps (s t : State) : Prop := t.pending = s.pending ∧ t.mem.dram = s.mem.dram ∧ t.mem.host = s.mem.host

theorem State.Keeps.refl (s : State) : s.Keeps s := ⟨rfl, rfl, rfl⟩

theorem State.Keeps.trans {s t u : State} (h : State.Keeps s t) (k : State.Keeps t u) : State.Keeps s u :=
  ⟨k.1.trans h.1, k.2.1.trans h.2.1, k.2.2.trans h.2.2⟩

theorem foldl_keeps {α : Type} {f : State → α → State} (h : ∀ (s : State) (a : α), s.Keeps (f s a)) (l : List α) (s : State) : s.Keeps (l.foldl f s) :=
  ⟨foldl_pending f (fun s a => (h s a).1) l s, foldl_dram f (fun s a => (h s a).2.1) l s, foldl_host f (fun s a => (h s a).2.2) l s⟩

/-- A row whose effect and whose basting leave the queue and what both memories hold. -/
abbrev Row.Keeps (row : Row) : Prop := ∀ c s, State.Keeps s (row.effect c s).1 ∧ State.Keeps s (row.baste c s).1

theorem State.Keeps.ite {s a b : State} (c : Prop) [Decidable c] (h : State.Keeps s a) (k : State.Keeps s b) : State.Keeps s (if c then a else b) := by
  split <;> assumption

/-! ### Ops -/

@[simp] theorem State.mirror_keeps (s : State) (payload : Nat) : s.Keeps (s.mirror payload) := by
  unfold State.mirror; simp [↓State.Keeps]

@[simp] theorem State.draw32_keeps (s : State) : s.Keeps (s.draw32).2 := by
  unfold State.draw32; split <;> simp [↓State.Keeps]

@[simp] theorem State.drawKey_keeps (s : State) : s.Keeps (s.drawKey).2 := by
  unfold State.drawKey; simp [↓State.Keeps]

@[simp] theorem State.setBox_keeps (s : State) (m : Mbx) (b : Mailbox) :
    s.Keeps (s.setBox m b) := by
  unfold State.setBox; simp [↓State.Keeps]

@[simp] theorem State.modBox_keeps (s : State) (m : Mbx) (f : Mailbox → Mailbox) :
    s.Keeps (s.modBox m f) := by
  unfold State.modBox; simp [↓State.Keeps]

@[simp] theorem State.raise_keeps (s : State) (code : Nat) (status : U8) (data : Bytes) :
    s.Keeps (s.raise code status data) := by
  unfold State.raise; simp [↓State.Keeps]

@[simp] theorem State.raiseTo_keeps (s : State) (m : Mbx) (code : Nat) (status : U8) (data : Bytes) :
    s.Keeps (s.raiseTo m code status data) := by
  unfold State.raiseTo; simp [↓State.Keeps]

@[simp] theorem State.raiseDone_keeps (s : State) (m : Mbx) (seq : Nat) (code : Nat) (status : U8) (data : Bytes) :
    s.Keeps (s.raiseDone m seq code status data) := by
  unfold State.raiseDone; simp [↓State.Keeps]

/-! ### Mailbox -/

@[simp] theorem State.sendIrq_keeps (s : State) (m : Mbx) : s.Keeps (s.sendIrq m) := by
  unfold State.sendIrq; simp [↓State.Keeps]

@[simp] theorem State.irq_keeps (s : State) (m : Mbx) : s.Keeps (s.irq m) := by
  unfold State.irq; simp [↓State.Keeps]

@[simp] theorem State.alert_keeps (s : State) : s.Keeps s.alert := by
  unfold State.alert; simp [↓State.Keeps]

@[simp] theorem State.putBox_keeps (s : State) (m : Mbx) (b : Mailbox) :
    s.Keeps (s.putBox m b) := by
  unfold State.putBox; simp [↓State.Keeps]

@[simp] theorem State.offerTo_keeps (s : State) (r : Raised) (l : List Mbx) : s.Keeps (s.offerTo r l) := by
  rw [State.offerTo_eq]
  exact ⟨rfl, rfl, rfl⟩

@[simp] theorem State.offerAll_keeps (s : State) (l : List Raised) : s.Keeps (s.offerAll l) := by
  rw [State.offerAll_eq]
  exact ⟨rfl, rfl, rfl⟩

@[simp] theorem State.fin_keeps (s : State) : s.Keeps s.fin := by
  unfold State.fin; simp [↓State.Keeps]

@[simp] theorem State.eventsOf_keeps (s : State) (seq : Nat) : s.Keeps (s.eventsOf seq) := by
  unfold State.eventsOf; simp [↓State.Keeps]

@[simp] theorem State.complete_keeps (s : State) (m : Mbx) (c : Cmd) (r : Rep) :
    s.Keeps (s.complete m c r) := by
  unfold State.complete; simp [↓State.Keeps]

@[simp] theorem State.dropSession_keeps (s : State) (m : Mbx) : s.Keeps (s.dropSession m) := by
  unfold State.dropSession; simp [↓State.Keeps]

@[simp] theorem State.countWaits_keeps (s : State) (m : Mbx) (l : List Mbx) : s.Keeps (s.countWaits m l) := by
  induction l generalizing s with
  | nil => exact .refl s
  | cons k ks ih =>
    unfold State.countWaits
    split
    · exact .refl s
    · exact .trans (by split <;> simp [↓State.Keeps]) (ih _)

@[simp] theorem State.startCmd_keeps (s : State) (m : Mbx) (c : Cmd) :
    s.Keeps (s.startCmd m c) := by
  unfold State.startCmd; split <;> simp [↓State.Keeps]

@[simp] theorem State.fetch_keeps (s : State) (m : Mbx) (slot : Bytes) (request : Bytes) (bufErr : Fin 3) (reserve : Bool) :
    s.Keeps (s.fetch m slot request bufErr reserve) := by
  unfold State.fetch; simp [↓State.Keeps]

/-! ### Pledom -/

@[simp] theorem State.modSeam_keeps (s : State) (id : U16) (f : Seam → Seam) :
    s.Keeps (s.modSeam id f) := by
  unfold State.modSeam; simp [↓State.Keeps]

@[simp] theorem State.enterSeam_keeps (s : State) (m : Mbx) (c : Cmd) (items : List Item) (i : Instr × Nat) :
    s.Keeps (s.enterSeam m c items i) := by
  unfold State.enterSeam; simp [↓State.Keeps]

@[simp] theorem State.finish_keeps (s : State) (m : Mbx) (seq : Nat) (r : Rep) :
    s.Keeps (s.finish m seq r) := by
  unfold State.finish; split <;> simp [↓State.Keeps]

@[simp] theorem State.mirrorCmd_keeps (s : State) (op : Nat) (r : Rep) :
    s.Keeps (s.mirrorCmd op r) := by
  unfold State.mirrorCmd; simp [↓State.Keeps]

theorem State.run_keeps {row : Row} (h : row.Keeps) (s : State) (m : Mbx) : s.Keeps (s.run m row) := by
  unfold State.run
  split
  · exact .refl s
  · next c _ =>
    have heff := (h c s).1
    have hbaste := (h c s).2
    dsimp only
    split
    · exact .refl s
    · split
      · simp [↓State.Keeps]
      · split
        · split <;> exact .trans heff (by simp [↓State.Keeps])
        · split
          · next hb => exact .trans (hb ▸ hbaste) (by simp [↓State.Keeps])
          · next hb => exact .trans (hb ▸ hbaste) (by simp [↓State.Keeps])

/-! ### Objects -/

@[simp] theorem State.modVia_keeps (s : State) (f : Viaduct → Viaduct) : s.Keeps (s.modVia f) := by
  unfold State.modVia; simp [↓State.Keeps]

@[simp] theorem State.setReadiness_keeps (s : State) (w : U16) : s.Keeps (s.setReadiness w) := by
  unfold State.setReadiness; simp [↓State.Keeps]

@[simp] theorem State.readyBit_keeps (s : State) (k : Nat) (on : Bool) :
    s.Keeps (s.readyBit k on) := by
  unfold State.readyBit; simp [↓State.Keeps]

@[simp] theorem State.modKeep_keeps (s : State) (f : Keep → Keep) : s.Keeps (s.modKeep f) := by
  unfold State.modKeep; simp [↓State.Keeps]

@[simp] theorem State.closeGroup_keeps (s : State) : s.Keeps s.closeGroup := by
  unfold State.closeGroup; simp [↓State.Keeps]

@[simp] theorem State.journal_keeps (s : State) (e : JEntry) : s.Keeps (s.journal e) := by
  unfold State.journal; simp [↓State.Keeps]

@[simp] theorem State.journalRoster_keeps (s : State) (k : JKind) (ack : Option (Mbx × Nat)) :
    s.Keeps (s.journalRoster k ack) := by
  unfold State.journalRoster; simp [↓State.Keeps]

@[simp] theorem State.rosterWrite_keeps (s : State) (r : Nat) (rec : Record) :
    s.Keeps (s.rosterWrite r rec).1 := by
  unfold State.rosterWrite; simp [↓State.Keeps]

@[simp] theorem State.faultEvent_keeps (s : State) (f : FaultRec) : s.Keeps (s.faultEvent f) := by
  unfold State.faultEvent; simp [↓State.Keeps]

@[simp] theorem State.writeFault_keeps (s : State) (f : FaultRec) : s.Keeps (s.writeFault f) := by
  unfold State.writeFault; (repeat' split) <;> simp -implicitDefEqProofs [↓State.Keeps]

@[simp] theorem State.faultRec_keeps (s : State) (location : U16) (level : Nat) (cause : Nat) (action : Nat) (seamId : U16) (seams : Nat) (detail : U32) :
    s.Keeps (s.faultRec location level cause action seamId seams detail) := by
  unfold State.faultRec; simp [↓State.Keeps]

@[simp] theorem State.ksLog_keeps (s : State) (cause : Nat) (detail : Nat) (value : Nat) :
    s.Keeps (s.ksLog cause detail value) := by
  unfold State.ksLog; simp [↓State.Keeps]

@[simp] theorem State.chargeLeg_keeps (s : State) (l : Nat) (t : State) : s.Keeps (s.chargeLeg l t) := by
  unfold State.chargeLeg; simp [↓State.Keeps]

@[simp] theorem State.charging_keeps {f : State → State} (h : ∀ s : State, s.Keeps (f s)) (s : State) (l : Nat) : s.Keeps (s.charging l f) := by
  unfold State.charging; simp [↓State.Keeps, h]

@[simp] theorem State.legEvent_keeps (s : State) (leg : Nat) (conf : Nat) (new : Nat) (old : Nat) (cause : Nat) :
    s.Keeps (s.legEvent leg conf new old cause) := by
  unfold State.legEvent; simp [↓State.Keeps]

@[simp] theorem State.modLeg_keeps (s : State) (l : Nat) (f : Leg → Leg) :
    s.Keeps (s.modLeg l f) := by
  unfold State.modLeg; simp [↓State.Keeps]

@[simp] theorem State.setLegState_keeps (s : State) (l : Nat) (st : LegState) (cause : Nat) :
    s.Keeps (s.setLegState l st cause) := by
  unfold State.setLegState; split <;> simp [↓State.Keeps]

@[simp] theorem State.closeLeg_keeps (s : State) (l : Nat) (cause : Nat) :
    s.Keeps (s.closeLeg l cause) := by
  unfold State.closeLeg; split <;> simp [↓State.Keeps]

/-! ### Time -/

@[simp] theorem State.modTime_keeps (s : State) (f : Time → Time) : s.Keeps (s.modTime f) := by
  unfold State.modTime; simp [↓State.Keeps]

@[simp] theorem State.modBase_keeps (s : State) (b : Fin 4) (f : TimeBase → TimeBase) :
    s.Keeps (s.modBase b f) := by
  unfold State.modBase; simp [↓State.Keeps]

@[simp] theorem State.advance_keeps (s : State) (n : Nat) : s.Keeps (s.advance n) := by
  unfold State.advance; simp [↓State.Keeps]

@[simp] theorem State.repps_keeps (s : State) (b : Fin 4) : s.Keeps (s.repps b) := by
  unfold State.repps; simp [↓State.Keeps]

@[simp] theorem State.restartGates_keeps (s : State) : s.Keeps s.restartGates := by
  unfold State.restartGates; simp [↓State.Keeps]

@[simp] theorem State.stepTo_keeps (s : State) (b : Fin 4) (units : Nat) :
    s.Keeps (s.stepTo b units) := by
  unfold State.stepTo; simp [↓State.Keeps]

@[simp] theorem State.mirrorTime_keeps (s : State) (b : Fin 4) : s.Keeps (s.mirrorTime b) := by
  unfold State.mirrorTime; simp [↓State.Keeps]

@[simp] theorem State.setServo_keeps (s : State) (b : Fin 4) (v : ServoState) :
    s.Keeps (s.setServo b v) := by
  unfold State.setServo; simp [↓State.Keeps]

@[simp] theorem rowTimeBase_keeps (base : U8) (enable : Bool) (source : U8) (trackS : U8) :
    (rowTimeBase base enable source trackS).Keeps := by
  intro c s; unfold rowTimeBase; dsimp only; constructor <;> (repeat' split) <;> simp [↓State.Keeps]

@[simp] theorem rowTimeStep_keeps (base : U8) (mode : U8) (value : U64) (frac : U32) (m : Mbx) :
    (rowTimeStep base mode value frac m).Keeps := by
  intro c s; unfold rowTimeStep; dsimp only; constructor <;> (repeat' split) <;> simp [↓State.Keeps]

@[simp] theorem rowTimeRate_keeps (base : U8) (adj : U32) : (rowTimeRate base adj).Keeps := by
  intro c s; unfold rowTimeRate; dsimp only; constructor <;> (repeat' split) <;> simp [↓State.Keeps]

@[simp] theorem rowTimeUnlock_keeps (base : U8) (m : Mbx) : (rowTimeUnlock base m).Keeps := by
  intro c s; unfold rowTimeUnlock; dsimp only; constructor <;> (repeat' split) <;> simp [↓State.Keeps]

@[simp] theorem rowTimeRead_keeps : rowTimeRead.Keeps := by
  intro c s; simp [rowTimeRead, ↓State.Keeps]

@[simp] theorem rowTimePps_keeps (outEnable : Bool) (inEnable : Bool) (outBase : U8) (widthMs : U16) (offsetNs : U32) :
    (rowTimePps outEnable inEnable outBase widthMs offsetNs).Keeps := by
  intro c s; unfold rowTimePps; dsimp only; constructor <;> (repeat' split) <;> simp [↓State.Keeps]

@[simp] theorem rowTimeQuery_keeps : rowTimeQuery.Keeps := by
  intro c s; simp [rowTimeQuery, ↓State.Keeps]

@[simp] theorem absTimeout_keeps (s : State) : s.Keeps (absTimeout s) := by
  unfold absTimeout; split <;> simp [↓State.Keeps]

@[simp] theorem rollover_keeps (b : Fin 4) (s : State) : s.Keeps (rollover b s) := by
  unfold rollover; simp [↓State.Keeps]

@[simp] theorem servoCompare_keeps (b : Fin 4) (phaseNs : Int) (present : Bool) (s : State) :
    s.Keeps (servoCompare b phaseNs present s) := by
  unfold servoCompare; simp [↓State.Keeps]

@[simp] theorem absAtEdge_keeps (s : State) : s.Keeps (absAtEdge s) := by
  unfold absAtEdge; (repeat' split) <;> simp [↓State.Keeps]

@[simp] theorem ppsIn_keeps (s : State) : s.Keeps (ppsIn s) := by
  unfold ppsIn; simp [↓State.Keeps]

@[simp] theorem ppsOut_keeps (s : State) : s.Keeps (ppsOut s) := by
  unfold ppsOut; dsimp only; (repeat' split) <;> simp [↓State.Keeps]

@[simp] theorem ppsEnd_keeps (s : State) : s.Keeps (ppsEnd s) := by
  unfold ppsEnd; simp [↓State.Keeps]

/-! ### Net -/

@[simp] theorem State.modNet_keeps (s : State) (f : Net → Net) : s.Keeps (s.modNet f) := by
  unfold State.modNet; simp [↓State.Keeps]

@[simp] theorem State.modPort_keeps (s : State) (p : Fin 2) (f : Port → Port) :
    s.Keeps (s.modPort p f) := by
  unfold State.modPort; simp [↓State.Keeps]

@[simp] theorem State.modIface_keeps (s : State) (i : Nat) (f : Iface → Iface) :
    s.Keeps (s.modIface i f) := by
  unfold State.modIface; simp [↓State.Keeps]

@[simp] theorem State.modAcc_keeps (s : State) (p : Fin 2) (f : AccPort → AccPort) :
    s.Keeps (s.modAcc p f) := by
  unfold State.modAcc; simp [↓State.Keeps]

@[simp] theorem State.countIface_keeps (s : State) (i : Nat) (k : Fin 20) (n : Nat) :
    s.Keeps (s.countIface i k n) := by
  unfold State.countIface; simp [↓State.Keeps]

@[simp] theorem State.setAddrs_keeps (s : State) (i : Nat) (l : List (U8 × U128 × Nat)) :
    s.Keeps (s.setAddrs i l) := by
  unfold State.setAddrs; simp [↓State.Keeps]

@[simp] theorem State.setRoutes_keeps (s : State) (i : Nat) (l : List Route) :
    s.Keeps (s.setRoutes i l) := by
  unfold State.setRoutes; simp [↓State.Keeps]

@[simp] theorem State.linkEvent_keeps (s : State) (i : Nat) : s.Keeps (s.linkEvent i) := by
  unfold State.linkEvent; simp [↓State.Keeps]

@[simp] theorem State.resplit_keeps (s : State) (p : Fin 2) (split : Nat) :
    s.Keeps (s.resplit p split) := by
  unfold State.resplit; simp [↓State.Keeps]

@[simp] theorem rowNetPort_keeps (port : U8) (split : U8) (m : Mbx) :
    (rowNetPort port split m).Keeps := by
  intro c s; simp [rowNetPort, ↓State.Keeps]

@[simp] theorem netPortDone_keeps (p : Fin 2) (s : State) : s.Keeps (netPortDone p s) := by
  unfold netPortDone; split <;> simp [↓State.Keeps]

@[simp] theorem rowNetIface_keeps (q : IfaceReq) : (rowNetIface q).Keeps := by
  intro c s; simp [rowNetIface, ↓State.Keeps]

@[simp] theorem doNetAddr_keeps (iface : U8) (kind : U8) (mode : U8) (af : U8) (address : U128) (prefixLen : U8) (s : State) :
    s.Keeps (doNetAddr iface kind mode af address prefixLen s) := by
  unfold doNetAddr; simp [↓State.Keeps]

@[simp] theorem rowNetAddr_keeps (m : Mbx) (iface : U8) (kind : U8) (mode : U8) (af : U8) (address : U128) (prefixLen : U8) :
    (rowNetAddr m iface kind mode af address prefixLen).Keeps := by
  intro c s; simp [rowNetAddr, ↓State.Keeps]

@[simp] theorem State.groupRef_keeps (s : State) (p : Fin 2) (a : BitVec 48) (add : Bool) :
    s.Keeps (s.groupRef p a add) := by
  unfold State.groupRef; simp [↓State.Keeps]

@[simp] theorem doNetGroup_keeps (port : U8) (mode : U8) (address : BitVec 48) (s : State) :
    s.Keeps (doNetGroup port mode address s) := by
  unfold doNetGroup; simp [↓State.Keeps]

@[simp] theorem rowNetGroup_keeps (m : Mbx) (port : U8) (mode : U8) (address : BitVec 48) :
    (rowNetGroup m port mode address).Keeps := by
  intro c s; simp [rowNetGroup, ↓State.Keeps]

@[simp] theorem doNetRoute_keeps (iface : U8) (mode : U8) (af : U8) (prefixLen : U8) (pfx : U128) (gateway : U128) (s : State) :
    s.Keeps (doNetRoute iface mode af prefixLen pfx gateway s) := by
  unfold doNetRoute; simp [↓State.Keeps]

@[simp] theorem rowNetRoute_keeps (m : Mbx) (iface : U8) (mode : U8) (af : U8) (prefixLen : U8) (pfx : U128) (gateway : U128) :
    (rowNetRoute m iface mode af prefixLen pfx gateway).Keeps := by
  intro c s; simp [rowNetRoute, ↓State.Keeps]

@[simp] theorem rowNetQuery_keeps (iface : U8) (clear : Bool) :
    (rowNetQuery iface clear).Keeps := by
  intro c s; simp [rowNetQuery, ↓State.Keeps]

@[simp] theorem linkUp_keeps (i : Nat) (s : State) : s.Keeps (linkUp i s) := by
  unfold linkUp; simp [↓State.Keeps]

@[simp] theorem linkDown_keeps (i : Nat) (s : State) : s.Keeps (linkDown i s) := by
  unfold linkDown; simp [↓State.Keeps]

@[simp] theorem neighbourRetry_keeps (i : Nat) (a : U128) (mac : Option (BitVec 48)) (s : State) :
    s.Keeps (neighbourRetry i a mac s) := by
  unfold neighbourRetry; simp [↓State.Keeps]

/-! ### Sched -/

@[simp] theorem State.modLegQ_keeps (s : State) (l : Nat) (f : LegQ → LegQ) :
    s.Keeps (s.modLegQ l f) := by
  unfold State.modLegQ; simp [↓State.Keeps]

@[simp] theorem State.setShaper_keeps (s : State) (l : Nat) (kbps : Nat) :
    s.Keeps (s.setShaper l kbps) := by
  unfold State.setShaper; simp [↓State.Keeps]

@[simp] theorem State.setV_keeps (s : State) (i : Nat) (v : Nat) : s.Keeps (s.setV i v) := by
  unfold State.setV; simp [↓State.Keeps]

@[simp] theorem State.pushFifo_keeps (s : State) (i : Nat) (k : Fin 8) (f : QFrame) :
    s.Keeps (s.pushFifo i k f) := by
  unfold State.pushFifo; (repeat' split) <;> simp [↓State.Keeps]

@[simp] theorem State.tagHead_keeps (s : State) (i : Nat) (l : Nat) : s.Keeps (s.tagHead i l) := by
  unfold State.tagHead; split <;> simp [↓State.Keeps]

@[simp] theorem State.pushLeg_keeps (s : State) (l : Nat) (f : QFrame) :
    s.Keeps (s.pushLeg l f) := by
  unfold State.pushLeg; split <;> simp [↓State.Keeps]

@[simp] theorem State.enqueue_keeps (s : State) (t : TxFrame) (ident : Option U16) (dst : Option (BitVec 48)) :
    s.Keeps (s.enqueue t ident dst) := by
  unfold State.enqueue; split <;> simp [↓State.Keeps]

@[simp] theorem State.emptyQueue_keeps (s : State) (l : Nat) : s.Keeps (s.emptyQueue l) := by
  unfold State.emptyQueue; simp [↓State.Keeps]

@[simp] theorem State.dropHead_keeps (s : State) (l : Nat) (f : LegQ → LegQ) :
    s.Keeps (s.dropHead l f) := by
  unfold State.dropHead; simp [↓State.Keeps]

@[simp] theorem State.dropAged_keeps (s : State) (l n : Nat) : s.Keeps (s.dropAged l n) := by
  induction n generalizing s with
  | zero => exact .refl s
  | succ n ih =>
    unfold State.dropAged
    (repeat' split)
    · exact .trans (by simp [↓State.Keeps]) (ih _)
    · exact .refl s
    · exact .refl s

@[simp] theorem State.serve_keeps (s : State) (i : Nat) (level : Option (Fin 8)) (c : Candidate) :
    s.Keeps (s.serve i level c) := by
  unfold State.serve; dsimp only; (repeat' split) <;> simp [↓State.Keeps]

@[simp] theorem State.depart_keeps (s : State) (i : Nat) (j : Fin 9) (media : Bool) (f : QFrame) :
    s.Keeps (s.depart i j media f) := by
  unfold State.depart; (repeat' split) <;> simp [↓State.Keeps]

@[simp] theorem State.countFault_keeps (s : State) (i : Nat) (leg : Option Nat) (x3 : Fin 3) :
    s.Keeps (s.countFault i leg x3) := by
  unfold State.countFault; (repeat' split) <;> simp [↓State.Keeps]

@[simp] theorem State.cleanFifo_keeps (s : State) (i : Nat) (j : Fin 8) (l : List QFrame) : s.Keeps (s.cleanFifo i j l) := by
  induction l generalizing s with
  | nil => exact .refl s
  | cons f rest ih =>
    unfold State.cleanFifo
    split
    · exact .refl s
    · exact .trans (by split <;> simp [↓State.Keeps]) (ih _)

@[simp] theorem State.cleanLeg_keeps (s : State) (i l n : Nat) : s.Keeps (s.cleanLeg i l n) := by
  induction n generalizing s with
  | zero => exact .refl s
  | succ n ih =>
    unfold State.cleanLeg
    dsimp only
    (repeat' split)
    · simp [↓State.Keeps]
    · simp [↓State.Keeps]
    · exact .trans (by simp [↓State.Keeps]) (ih _)

@[simp] theorem State.clean_keeps (s : State) (i : Nat) : s.Keeps (s.clean i) := by
  unfold State.clean; simp [↓State.Keeps]

@[simp] theorem State.dropAll_keeps (s : State) (i : Nat) : s.Keeps (s.dropAll i) := by
  unfold State.dropAll; simp [↓State.Keeps]

@[simp] theorem schedule_keeps (i : Nat) (s : State) : s.Keeps (schedule i s) := by
  unfold schedule; dsimp only; (repeat' split) <;> simp [↓State.Keeps]

@[simp] theorem latencySample_keeps (s : State) : s.Keeps (latencySample s) := by
  unfold latencySample; simp [↓State.Keeps]

@[simp] theorem doSchedPort_keeps (port : U8) (change : BitVec 9) (levels : List LevelReq) (s : State) :
    s.Keeps (doSchedPort port change levels s) := by
  unfold doSchedPort; simp [↓State.Keeps]

@[simp] theorem rowSchedPort_keeps (m : Mbx) (port : U8) (change : BitVec 9) (levels : List LevelReq) :
    (rowSchedPort m port change levels).Keeps := by
  intro c s; simp [rowSchedPort, ↓State.Keeps]

@[simp] theorem doSchedLeg_keeps (q : SchedLegReq) (s : State) : s.Keeps (doSchedLeg q s) := by
  unfold doSchedLeg; simp [↓State.Keeps]

@[simp] theorem rowSchedLeg_keeps (m : Mbx) (req : SchedLegReq) : (rowSchedLeg m req).Keeps := by
  intro c s; simp [rowSchedLeg, ↓State.Keeps]

@[simp] theorem State.gateEvent_keeps (s : State) (p : Fin 2) (status : U8) (g : GateList) (n : Nat) :
    s.Keeps (s.gateEvent p status g n) := by
  unfold State.gateEvent; simp [↓State.Keeps]

@[simp] theorem State.takeListId_keeps (s : State) (p : Fin 2) : s.Keeps (s.takeListId p).2 := by
  unfold State.takeListId; simp [↓State.Keeps]

@[simp] theorem State.pend_keeps (s : State) (p : Fin 2) (g : GateList) : s.Keeps (s.pend p g) := by
  unfold State.pend; split <;> simp [↓State.Keeps]

@[simp] theorem doSchedGate_keeps (q : GateReq) (id : Nat) (s : State) :
    s.Keeps (doSchedGate q id s) := by
  unfold doSchedGate; simp [↓State.Keeps]

@[simp] theorem rowSchedGate_keeps (m : Mbx) (q : GateReq) : (rowSchedGate m q).Keeps := by
  intro c s; simp [rowSchedGate, ↓State.Keeps]

@[simp] theorem gateTakeover_keeps (p : Fin 2) (s : State) : s.Keeps (gateTakeover p s) := by
  unfold gateTakeover; split <;> simp [↓State.Keeps]

@[simp] theorem gateEntry_keeps (p : Fin 2) (s : State) : s.Keeps (gateEntry p s) := by
  unfold gateEntry; split <;> simp [↓State.Keeps]

@[simp] theorem rowSchedQuery_keeps (leg : U16) (clear : Bool) :
    (rowSchedQuery leg clear).Keeps := by
  intro c s; simp [rowSchedQuery, ↓State.Keeps]

@[simp] theorem rowSchedPortq_keeps (port : U8) (level : U8) (clear : Bool) :
    (rowSchedPortq port level clear).Keeps := by
  intro c s; simp [rowSchedPortq, ↓State.Keeps]

/-! ### Cipher -/

@[simp] theorem State.modCip_keeps (s : State) (f : Cipher → Cipher) : s.Keeps (s.modCip f) := by
  unfold State.modCip; simp [↓State.Keeps]

@[simp] theorem State.modSlot_keeps (s : State) (n : Nat) (f : KeySlot → KeySlot) :
    s.Keeps (s.modSlot n f) := by
  unfold State.modSlot; simp [↓State.Keeps]

@[simp] theorem State.countCipher_keeps (s : State) (leg : Option Nat) (k : Fin 8) (n : Nat) :
    s.Keeps (s.countCipher leg k n) := by
  unfold State.countCipher; simp [↓State.Keeps]

@[simp] theorem State.modRekey_keeps (s : State) (l : Nat) (f : Rekey → Rekey) :
    s.Keeps (s.modRekey l f) := by
  unfold State.modRekey; simp [↓State.Keeps]

@[simp] theorem State.keyEvent_keeps (s : State) (kind : Nat) (n : Nat) :
    s.Keeps (s.keyEvent kind n) := by
  unfold State.keyEvent; simp [↓State.Keeps]

@[simp] theorem State.wrapSlot_keeps (s : State) (n : Nat) : s.Keeps (s.wrapSlot n) := by
  unfold State.wrapSlot; simp [↓State.Keeps]

@[simp] theorem State.loadSlot_keeps (s : State) (n : Nat) (suite : Nat) (cls : Nat) (owner : Nat) (roc : Nat) (key : BitVec 256) :
    s.Keeps (s.loadSlot n suite cls owner roc key) := by
  unfold State.loadSlot; simp [↓State.Keeps]

@[simp] theorem State.loadLeg_keeps (s : State) (l : Nat) (suite : Nat) (txRoc : Nat) (rxRoc : Nat) (keys : Nat → BitVec 256) :
    s.Keeps (s.loadLeg l suite txRoc rxRoc keys) := by
  unfold State.loadLeg; simp [↓State.Keeps]

@[simp] theorem State.emptyLeg_keeps (s : State) (l : Nat) : s.Keeps (s.emptyLeg l) := by
  unfold State.emptyLeg; simp [↓State.Keeps]

@[simp] theorem State.pkAsk_keeps (s : State) (l : Nat) : s.Keeps (s.pkAsk l) := by
  unfold State.pkAsk; simp [↓State.Keeps]

@[simp] theorem State.pkDone_keeps (s : State) (l : Nat) : s.Keeps (s.pkDone l) := by
  unfold State.pkDone; simp [↓State.Keeps]

@[simp] theorem State.startRekey_keeps (s : State) (l : Nat) : s.Keeps (s.startRekey l) := by
  unfold State.startRekey; split <;> simp [↓State.Keeps]

@[simp] theorem State.spentNow_keeps (s : State) (l : Nat) : s.Keeps (s.spentNow l) := by
  unfold State.spentNow; simp [↓State.Keeps]

@[simp] theorem State.checkUse_keeps (s : State) (n : Nat) : s.Keeps (s.checkUse n) := by
  unfold State.checkUse; simp [↓State.Keeps]

@[simp] theorem State.touch_keeps (s : State) (n : Nat) : s.Keeps (s.touch n) := by
  unfold State.touch; simp [↓State.Keeps]

@[simp] theorem State.cipherRun_keeps (s : State) (j : CipherJob) : s.Keeps (s.cipherRun j).1 := by
  unfold State.cipherRun; dsimp only; (repeat' split) <;> simp [↓State.Keeps]

@[simp] theorem State.cipher_keeps (s : State) (j : CipherJob) : s.Keeps (s.cipher j).1 := by
  unfold State.cipher; (repeat' split) <;> simp [↓State.Keeps]

@[simp] theorem State.slotLost_keeps (s : State) (n : Nat) : s.Keeps (s.slotLost n) := by
  unfold State.slotLost; simp [↓State.Keeps]

@[simp] theorem keyCacheFill_keeps (n : Nat) (intact : Bool) (s : State) :
    s.Keeps (keyCacheFill n intact s) := by
  unfold keyCacheFill; dsimp only; (repeat' split) <;> simp [↓State.Keeps]

@[simp] theorem State.answerRekey_keeps (s : State) (l : Nat) (kind : Nat) :
    s.Keeps (s.answerRekey l kind) := by
  unfold State.answerRekey; dsimp only; (repeat' split) <;> simp -implicitDefEqProofs [↓State.Keeps]

@[simp] theorem State.rekeyed_keeps (s : State) (l : Nat) (suite : Nat) (txRoc : Nat) (rxRoc : Nat) (keys : Nat → BitVec 256) :
    s.Keeps (s.rekeyed l suite txRoc rxRoc keys) := by
  unfold State.rekeyed; simp [↓State.Keeps]

@[simp] theorem rekeyDone_keeps (l : Nat) (ok : Bool) (s : State) : s.Keeps (rekeyDone l ok s) := by
  unfold rekeyDone; simp [↓State.Keeps]

@[simp] theorem previousErase_keeps (l : Nat) (s : State) : s.Keeps (previousErase l s) := by
  unfold previousErase; simp [↓State.Keeps]

@[simp] theorem rowCipherClass_keeps (cls : U8) (check : Bool) (rekeyS : U8) (useLimit : U32) :
    (rowCipherClass cls check rekeyS useLimit).Keeps := by
  intro c s; simp [rowCipherClass, ↓State.Keeps]

@[simp] theorem rowCipherSlot_keeps (space : U8) (slot : U32) :
    (rowCipherSlot space slot).Keeps := by
  intro c s; simp [rowCipherSlot, ↓State.Keeps]

@[simp] theorem rowCipherRekey_keeps (m : Mbx) (leg : U16) : (rowCipherRekey m leg).Keeps := by
  intro c s; simp [rowCipherRekey, ↓State.Keeps]

@[simp] theorem rowCipherStats_keeps (leg : U16) (clear : Bool) :
    (rowCipherStats leg clear).Keeps := by
  intro c s; simp [rowCipherStats, ↓State.Keeps]

/-! ### Carriage -/

@[simp] theorem State.learnMac_keeps (s : State) (i : Nat) (f : RxFrame) :
    s.Keeps (s.learnMac i f) := by
  unfold State.learnMac; simp [↓State.Keeps]

@[simp] theorem State.countAcc_keeps (s : State) (p : Fin 2) (k : Fin 8) (n : Nat) :
    s.Keeps (s.countAcc p k n) := by
  unfold State.countAcc; simp [↓State.Keeps]

@[simp] theorem State.accUse_keeps (s : State) (p : Fin 2) (k : Nat) :
    s.Keeps (s.accUse p k).1 := by
  unfold State.accUse; simp [↓State.Keeps]

@[simp] theorem State.sendPause_keeps (s : State) (i : Nat) : s.Keeps (s.sendPause i) := by
  unfold State.sendPause; simp [↓State.Keeps]

@[simp] theorem State.cancelPause_keeps (s : State) (i : Nat) : s.Keeps (s.cancelPause i) := by
  unfold State.cancelPause; simp [↓State.Keeps]

@[simp] theorem State.fill_keeps (s : State) (i : Nat) (length : Nat) :
    s.Keeps (s.fill i length) := by
  unfold State.fill; dsimp only; (repeat' split) <;> simp [↓State.Keeps]

@[simp] theorem State.pauseIn_keeps (s : State) (i : Nat) (k : FrameKind) :
    s.Keeps (s.pauseIn i k) := by
  unfold State.pauseIn; simp [↓State.Keeps]

@[simp] theorem State.slowPath_keeps (s : State) (i : Nat) (event : Bool) :
    s.Keeps (s.slowPath i event).1 := by
  unfold State.slowPath; split <;> simp [↓State.Keeps]

@[simp] theorem State.canonise_keeps (s : State) (length : Nat) : s.Keeps (s.canonise length) := by
  unfold State.canonise; simp [↓State.Keeps]

@[simp] theorem State.answer_keeps (s : State) (i : Nat) (length : Nat) (dst : BitVec 48) :
    s.Keeps (s.answer i length dst) := by
  unfold State.answer; simp [↓State.Keeps]

@[simp] theorem State.police_keeps (s : State) (l : Nat) (media : Bool) (length : Nat) :
    s.Keeps (s.police l media length).1 := by
  unfold State.police; simp [↓State.Keeps]

@[simp] theorem State.fullBuckets_keeps (s : State) (l : Nat) : s.Keeps (s.fullBuckets l) := by
  unfold State.fullBuckets; simp [↓State.Keeps]

@[simp] theorem State.intoLeg_keeps (s : State) (l : Nat) (f : RxFrame) :
    s.Keeps (s.intoLeg l f) := by
  unfold State.intoLeg; (repeat' split) <;> simp [↓State.Keeps]

@[simp] theorem State.toLeg_keeps (s : State) (l : Nat) (length : Nat) (f : RxFrame) :
    s.Keeps (s.toLeg l length f) := by
  unfold State.toLeg; simp [↓State.Keeps]

@[simp] theorem frameReceive_keeps (i : Nat) (f : RxFrame) (s : State) : s.Keeps (frameReceive i f s) := by
  have hslow : ∀ (s : State) (eth event : Bool), s.Keeps (if eth = true then s.slowPath i event else (s, true)).1 := fun s eth event => by
    split <;> simp [↓State.Keeps]
  have huse : ∀ (s : State) (eth : Bool) (k : Nat), s.Keeps (if eth = true then (s, true) else s.accUse (fin2 i) k).1 := fun s eth k => by
    split <;> simp [↓State.Keeps]
  unfold frameReceive
  extract_lets eth
  refine .ite _ (.refl s) (.ite _ (.refl s) (.ite _ (.refl s) (.ite _ (State.countIface_keeps ..) (.ite _ (State.countIface_keeps ..) ?_))))
  have hkeyed := huse s eth (State.rxSlot (s.accPort (fin2 i)) f)
  generalize (if eth = true then (s, true) else s.accUse (fin2 i) (State.rxSlot (s.accPort (fin2 i)) f)) = u at hkeyed ⊢
  obtain ⟨s1, keyed⟩ := u
  dsimp only at hkeyed ⊢
  refine .trans hkeyed (.ite _ (.refl _) (.trans (t := ((s1.countIface i 0).countIface i 1 f.length).learnMac i f) (by simp [↓State.Keeps]) ?_))
  generalize ((s1.countIface i 0).countIface i 1 f.length).learnMac i f = s2
  split
  · simp [↓State.Keeps]
  · refine .ite _ (State.countIface_keeps ..) (.trans (t := if eth = true then s2.fill i f.length else s2) (.ite _ (State.fill_keeps ..) (.refl _)) ?_)
    generalize (if eth = true then s2.fill i f.length else s2) = s3
    refine .trans ?_ (State.fin_keeps _)
    split
    · simp [↓State.Keeps]
    · exact .refl s3
    · next event _ =>
      have hs := hslow s3 eth event
      generalize (if eth = true then s3.slowPath i event else (s3, true)) = u at hs ⊢
      obtain ⟨s4, ok⟩ := u
      refine .trans hs (.ite _ (.refl _) ?_)
      (repeat' split) <;> simp [↓State.Keeps]
    · simp [↓State.Keeps]

@[simp] theorem ingressDrain_keeps (i : Nat) (bytes : Nat) (s : State) :
    s.Keeps (ingressDrain i bytes s) := by
  unfold ingressDrain; dsimp only; (repeat' split) <;> simp [↓State.Keeps]

@[simp] theorem pauseRepeat_keeps (i : Nat) (s : State) : s.Keeps (pauseRepeat i s) := by
  unfold pauseRepeat; split <;> simp [↓State.Keeps]

@[simp] theorem pauseExpiry_keeps (i : Nat) (s : State) : s.Keeps (pauseExpiry i s) := by
  unfold pauseExpiry; simp [↓State.Keeps]

@[simp] theorem slowWindow_keeps (i : Nat) (s : State) : s.Keeps (slowWindow i s) := by
  unfold slowWindow; simp [↓State.Keeps]

/-! ### Signal -/

@[simp] theorem State.modSnd_keeps (s : State) (f : Sound → Sound) : s.Keeps (s.modSnd f) := by
  unfold State.modSnd; simp [↓State.Keeps]

@[simp] theorem State.modLegSnd_keeps (s : State) (l : Nat) (f : LegSound → LegSound) :
    s.Keeps (s.modLegSnd l f) := by
  unfold State.modLegSnd; simp [↓State.Keeps]

@[simp] theorem State.modMix_keeps (s : State) (x : Nat) (f : Mix → Mix) :
    s.Keeps (s.modMix x f) := by
  unfold State.modMix; simp [↓State.Keeps]

/-! ### Sound -/

@[simp] theorem audioArrival_keeps (l : Nat) (p : AudioPkt) (s : State) :
    s.Keeps (audioArrival l p s) := by
  unfold audioArrival; (repeat' split) <;> simp [↓State.Keeps]

@[simp] theorem concealLimit_keeps (l : Nat) (s : State) : s.Keeps (concealLimit l s) := by
  unfold concealLimit; simp [↓State.Keeps]

@[simp] theorem State.sendPacket_keeps (s : State) (l : Nat) (kind : Nat) (level : Option (Fin 8)) (packet : Nat) (ssrc : U32) (seq : U16) :
    s.Keeps (s.sendPacket l kind level packet ssrc seq) := by
  unfold State.sendPacket; split <;> simp [↓State.Keeps]

@[simp] theorem State.sendAudio_keeps (s : State) (x : Mix) (l : Nat) (frame : Bytes) :
    s.Keeps (s.sendAudio x l frame) := by
  unfold State.sendAudio; (repeat' split) <;> simp [↓State.Keeps]

@[simp] theorem State.stitchSound_keeps (s : State) (c : Nat) (m : Nat) :
    s.Keeps (s.stitchSound c m) := by
  unfold State.stitchSound; simp [↓State.Keeps]

@[simp] theorem State.modGain_keeps (s : State) (p : GainPoint) (f : Gain → Gain) :
    s.Keeps (s.modGain p f) := by
  unfold State.modGain; split <;> simp [↓State.Keeps]

@[simp] theorem gainStep_keeps (p : GainPoint) (s : State) : s.Keeps (gainStep p s) := by
  unfold gainStep; simp [↓State.Keeps]

@[simp] theorem gainStepTimeout_keeps (p : GainPoint) (s : State) :
    s.Keeps (gainStepTimeout p s) := by
  unfold gainStepTimeout; simp [↓State.Keeps]

@[simp] theorem State.decided_keeps (s : State) (c : Nat) (incoming : Option Nat) (outgoing : Option Nat) (e : Nat) :
    s.Keeps (s.decide_ c incoming outgoing e) := by
  unfold State.decide_; simp [↓State.Keeps]

@[simp] theorem State.quieten_keeps (s : State) (l : Nat) : s.Keeps (s.quieten l) := by
  unfold State.quieten; simp [↓State.Keeps]

@[simp] theorem State.firstPass_keeps (s : State) (c : Nat) (e : Nat) (l : Nat) :
    s.Keeps (s.firstPass c e l) := by
  unfold State.firstPass; split <;> simp [↓State.Keeps]

@[simp] theorem State.lowerTo_keeps (s : State) (c e n fuel : Nat) : s.Keeps (s.lowerTo c e n fuel) := by
  induction fuel generalizing s with
  | zero => exact .refl s
  | succ fuel ih =>
    unfold State.lowerTo
    dsimp only
    (repeat' split)
    · exact .refl s
    · exact .refl s
    · exact .trans (by simp [↓State.Keeps]) (ih _)

@[simp] theorem State.promote_keeps (s : State) (c : Nat) (e : Nat) (n : Nat) (margin : Nat) (l : Nat) :
    s.Keeps (s.promote c e n margin l) := by
  unfold State.promote; dsimp only; (repeat' split) <;> simp [↓State.Keeps]

@[simp] theorem speakerWindow_keeps (c : Nat) (k : Nat) (s : State) :
    s.Keeps (speakerWindow c k s) := by
  unfold speakerWindow; split <;> simp [↓State.Keeps]

@[simp] theorem State.changeSpeakers_keeps (s : State) (g : SpeakerChg) :
    s.Keeps (s.changeSpeakers g) := by
  unfold State.changeSpeakers; (repeat' split) <;> simp [↓State.Keeps]

@[simp] theorem speakerChange_keeps (c : Nat) (s : State) : s.Keeps (speakerChange c s) := by
  unfold speakerChange; simp [↓State.Keeps]

@[simp] theorem overlapEnd_keeps (c : Nat) (l : Nat) (s : State) : s.Keeps (overlapEnd c l s) := by
  unfold overlapEnd; simp [↓State.Keeps]

@[simp] theorem meterPeriod_keeps (m : Mbx) (due : Nat) (s : State) :
    s.Keeps (meterPeriod m due s) := by
  unfold meterPeriod; dsimp only; (repeat' split) <;> simp -implicitDefEqProofs [↓State.Keeps]

@[simp] theorem doMixCreate_keeps (conf : Nat) (x : Nat) (master : Int) (basted : Option U16) (s : State) :
    s.Keeps (doMixCreate conf x master basted s) := by
  unfold doMixCreate; simp [↓State.Keeps]

@[simp] theorem rowMixCreate_keeps (conf : U16) (mix : U16) (master : U16) :
    (rowMixCreate conf mix master).Keeps := by
  intro c s; unfold rowMixCreate; dsimp only; constructor <;> (repeat' split) <;> simp [↓State.Keeps]

@[simp] theorem doMixDelete_keeps (t : Nat) (x : Nat) (s : State) :
    s.Keeps (doMixDelete t x s) := by
  unfold doMixDelete; split <;> simp [↓State.Keeps]

@[simp] theorem rowMixDelete_keeps (mix : U16) : (rowMixDelete mix).Keeps := by
  intro c s; simp [rowMixDelete, ↓State.Keeps]

@[simp] theorem State.carryTones_keeps (s : State) (old : Nat) (new : Nat) :
    s.Keeps (s.carryTones old new) := by
  unfold State.carryTones; split <;> simp [↓State.Keeps]

@[simp] theorem doMixRoute_keeps (now : Bool) (t : Nat) (l : Nat) (mode : Nat) (x : Nat) (gain : Int) (s : State) :
    s.Keeps (doMixRoute now t l mode x gain s) := by
  unfold doMixRoute; simp [↓State.Keeps]

@[simp] theorem State.withPending_keeps (s : State) (i : Instr) : s.Keeps (s.withPending i) := by
  unfold State.withPending; simp [↓State.Keeps]

@[simp] theorem rowMixRoute_keeps (m : Mbx) (leg : U16) (mode : U8) (mix : U16) (gain : U16) :
    (rowMixRoute m leg mode mix gain).Keeps := by
  intro c s; simp [rowMixRoute, ↓State.Keeps]

@[simp] theorem doMixGain_keeps (t : Nat) (v14 : Bool) (q : GainReq) (s : State) :
    s.Keeps (doMixGain t v14 q s) := by
  unfold doMixGain; simp [↓State.Keeps]

@[simp] theorem rowMixGain_keeps (m : Mbx) (q : GainReq) : (rowMixGain m q).Keeps := by
  intro c s; simp [rowMixGain, ↓State.Keeps]

@[simp] theorem doMixChain_keeps (t : Nat) (l : Nat) (q : ChainReq) (s : State) :
    s.Keeps (doMixChain t l q s) := by
  unfold doMixChain; simp [↓State.Keeps]

@[simp] theorem rowMixChain_keeps (m : Mbx) (leg : U16) (q : ChainReq) :
    (rowMixChain m leg q).Keeps := by
  intro c s; simp [rowMixChain, ↓State.Keeps]

@[simp] theorem doMixJitter_keeps (source : U32) (minMs : U16) (maxMs : U16) (fixed : Bool) (s : State) :
    s.Keeps (doMixJitter source minMs maxMs fixed s) := by
  unfold doMixJitter; simp [↓State.Keeps]

@[simp] theorem rowMixJitter_keeps (m : Mbx) (source : U32) (minMs : U16) (maxMs : U16) (fixed : Bool) :
    (rowMixJitter m source minMs maxMs fixed).Keeps := by
  intro c s; simp [rowMixJitter, ↓State.Keeps]

@[simp] theorem doMixEncode_keeps (t : Nat) (x : Nat) (kbps : Nat) (frameMs : Nat) (fec : Bool) (dtx : Bool) (s : State) :
    s.Keeps (doMixEncode t x kbps frameMs fec dtx s) := by
  unfold doMixEncode; simp [↓State.Keeps]

@[simp] theorem rowMixEncode_keeps (m : Mbx) (mix : U16) (kbps : U16) (frameMs : U8) (fec : Bool) (dtx : Bool) :
    (rowMixEncode m mix kbps frameMs fec dtx).Keeps := by
  intro c s; simp [rowMixEncode, ↓State.Keeps]

@[simp] theorem doMixSpeakers_keeps (conf : Nat) (threshold : U8) (marginDb : U8) (s : State) :
    s.Keeps (doMixSpeakers conf threshold marginDb s) := by
  unfold doMixSpeakers; simp [↓State.Keeps]

@[simp] theorem rowMixSpeakers_keeps (m : Mbx) (conf : U16) (threshold : U8) (marginDb : U8) :
    (rowMixSpeakers m conf threshold marginDb).Keeps := by
  intro c s; simp [rowMixSpeakers, ↓State.Keeps]

@[simp] theorem rowMixMeter_keeps (m : Mbx) (q : MeterReq) : (rowMixMeter m q).Keeps := by
  intro c s; simp [rowMixMeter, ↓State.Keeps]

@[simp] theorem rowMixQuery_keeps (mix : U16) : (rowMixQuery mix).Keeps := by
  intro c s; unfold rowMixQuery; dsimp only; constructor <;> (repeat' split) <;> simp [↓State.Keeps]

@[simp] theorem rowMixSource_keeps (leg : U16) : (rowMixSource leg).Keeps := by
  intro c s; unfold rowMixSource; dsimp only; constructor <;> (repeat' split) <;> simp [↓State.Keeps]

/-! ### Picture -/

@[simp] theorem State.modPic_keeps (s : State) (f : Picture → Picture) : s.Keeps (s.modPic f) := by
  unfold State.modPic; simp [↓State.Keeps]

@[simp] theorem State.modDec_keeps (s : State) (k : Nat) (f : DecCtx → DecCtx) :
    s.Keeps (s.modDec k f) := by
  unfold State.modDec; simp [↓State.Keeps]

@[simp] theorem State.modEnc_keeps (s : State) (k : Nat) (f : EncCtx → EncCtx) :
    s.Keeps (s.modEnc k f) := by
  unfold State.modEnc; simp [↓State.Keeps]

@[simp] theorem State.decLess_keeps (s : State) (source : Nat) : s.Keeps (s.decLess source) := by
  unfold State.decLess; split <;> simp [↓State.Keeps]

@[simp] theorem State.decPlace_keeps (s : State) (source : Nat) (y : Nat) (t : Nat) (k : Nat) (stallMs : Nat) :
    s.Keeps (s.decPlace source y t k stallMs) := by
  unfold State.decPlace; (repeat' split) <;> simp [↓State.Keeps]

@[simp] theorem State.decUnplace_keeps (s : State) (y : Nat) (t : Nat) :
    s.Keeps (s.decUnplace y t) := by
  unfold State.decUnplace; simp [↓State.Keeps]

@[simp] theorem State.sendKey_keeps (s : State) (source : Nat) (fir : Bool) (pli : Bool) :
    s.Keeps (s.sendKey source fir pli) := by
  unfold State.sendKey; dsimp only; (repeat' split) <;> simp [↓State.Keeps]

@[simp] theorem State.askKey_keeps (s : State) (source : Nat) (fir : Bool) (pli : Bool) :
    s.Keeps (s.askKey source fir pli) := by
  unfold State.askKey; simp [↓State.Keeps]

@[simp] theorem State.setDec_keeps (s : State) (i : Nat) (v : DecState) :
    s.Keeps (s.setDec i v) := by
  unfold State.setDec; split <;> simp [↓State.Keeps]

@[simp] theorem videoArrival_keeps (source : Nat) (p : VideoPkt) (s : State) :
    s.Keeps (videoArrival source p s) := by
  unfold videoArrival; split <;> simp [↓State.Keeps]

@[simp] theorem segmentDecode_keeps (i : Nat) (seg : SegmentInfo) (s : State) :
    s.Keeps (segmentDecode i seg s) := by
  unfold segmentDecode; simp [↓State.Keeps]

@[simp] theorem stallResume_keeps (i : Nat) (s : State) : s.Keeps (stallResume i s) := by
  unfold stallResume; simp [↓State.Keeps]

@[simp] theorem lanePicture_keeps (i : Nat) (n : Nat) (s : State) :
    s.Keeps (lanePicture i n s) := by
  unfold lanePicture; (repeat' split) <;> simp [↓State.Keeps]

@[simp] theorem keyDeferred_keeps (source : Nat) (s : State) : s.Keeps (keyDeferred source s) := by
  unfold keyDeferred; split <;> simp [↓State.Keeps]

@[simp] theorem decodeStall_keeps (i : Nat) (s : State) : s.Keeps (decodeStall i s) := by
  unfold decodeStall; split <;> simp [↓State.Keeps]

@[simp] theorem State.wantKey_keeps (s : State) (ctx : Nat) (m : Nat) (receiver : Bool) :
    s.Keeps (s.wantKey ctx m receiver) := by
  unfold State.wantKey; simp [↓State.Keeps]

@[simp] theorem encodePicture_keeps (i : Nat) (layers : List LayerCode) (s : State) :
    s.Keeps (encodePicture i layers s) := by
  unfold encodePicture; (repeat' split) <;> simp [↓State.Keeps]

/-! ### Compose -/

@[simp] theorem State.modLayout_keeps (s : State) (y : Nat) (f : Layout → Layout) :
    s.Keeps (s.modLayout y f) := by
  unfold State.modLayout; simp [↓State.Keeps]

@[simp] theorem State.modFeed_keeps (s : State) (f : Nat) (g : Feed → Feed) :
    s.Keeps (s.modFeed f g) := by
  unfold State.modFeed; simp [↓State.Keeps]

@[simp] theorem State.switchEvent_keeps (s : State) (e : Nat) (f : FwdEntry) (state : Nat) (media : Option Nat) :
    s.Keeps (s.switchEvent e f state media) := by
  unfold State.switchEvent; simp [↓State.Keeps]

@[simp] theorem State.dropLayout_keeps (s : State) (y : Nat) : s.Keeps (s.dropLayout y) := by
  unfold State.dropLayout; simp [↓State.Keeps]

@[simp] theorem State.dropEntries_keeps (s : State) (fuel : Nat) (es : List Nat) : s.Keeps (s.dropEntries fuel es) := by
  induction fuel generalizing s es with
  | zero => cases es <;> exact .refl s
  | succ fuel ih =>
    cases es with
    | nil => exact .refl s
    | cons e es =>
      unfold State.dropEntries
      refine foldl_keeps (fun s e => ?_) _ s
      dsimp only
      (repeat' split)
      · exact .refl s
      · exact .trans (by simp [↓State.Keeps]) (ih _ _)
      · simp [↓State.Keeps]

@[simp] theorem State.deleteLayout_keeps (s : State) (y : Nat) : s.Keeps (s.deleteLayout y) := by
  unfold State.deleteLayout; simp [↓State.Keeps]

@[simp] theorem State.settleTile_keeps (s : State) (y : Nat) (t : Nat) :
    s.Keeps (s.settleTile y t) := by
  unfold State.settleTile; simp [↓State.Keeps]

@[simp] theorem State.reserveTile_keeps (s : State) (q : TileReq) : s.Keeps (s.reserveTile q) := by
  unfold State.reserveTile; simp [↓State.Keeps]

@[simp] theorem State.setFeed_keeps (s : State) (f : Nat) (q : FeedReq) (slot : Nat) :
    s.Keeps (s.setFeed f q slot) := by
  unfold State.setFeed; split <;> simp [↓State.Keeps]

@[simp] theorem State.applyChange_keeps (s : State) (y : Nat) (slot : Nat) (x3 : LayoutChange) :
    s.Keeps (s.applyChange y slot x3) := by
  unfold State.applyChange; split <;> simp [↓State.Keeps]

@[simp] theorem State.noticeEvent_keeps (s : State) (y : Nat) (on : Nat) (region : Nat) (seq : Nat) (slot : Nat) :
    s.Keeps (s.noticeEvent y on region seq slot) := by
  unfold State.noticeEvent; simp [↓State.Keeps]

@[simp] theorem State.noticeRecord_keeps (s : State) (y : Nat) (cause : Nat) :
    s.Keeps (s.noticeRecord y cause) := by
  unfold State.noticeRecord; simp [↓State.Keeps]

@[simp] theorem State.gateCard_keeps (s : State) (y : Nat) : s.Keeps (s.gateCard y) := by
  unfold State.gateCard; split <;> simp [↓State.Keeps]

@[simp] theorem State.startCard_keeps (s : State) (y : Nat) (region : Nat) (slot : Nat) :
    s.Keeps (s.startCard y region slot) := by
  unfold State.startCard; split <;> simp [↓State.Keeps]

@[simp] theorem State.applyVerdict_keeps (s : State) (y : Nat) (bad : Option Nat) :
    s.Keeps (s.applyVerdict y bad) := by
  unfold State.applyVerdict; (repeat' split) <;> simp [↓State.Keeps]

@[simp] theorem State.outputPoison_keeps (s : State) (y : Nat) (slot : Nat) (x : Nat) (y0 : Nat) (w : Nat) (h : Nat) :
    s.Keeps (s.outputPoison y slot x y0 w h) := by
  unfold State.outputPoison; split <;> simp [↓State.Keeps]

@[simp] theorem drawLayout_keeps (y : Nat) (slot : Nat) (silent : List Nat) (s : State) :
    s.Keeps (drawLayout y slot silent s) := by
  unfold drawLayout; split <;> simp [↓State.Keeps]

@[simp] theorem composeSlot_keeps (y : Nat) (slot : Nat) (silent : List Nat) (s : State) :
    s.Keeps (composeSlot y slot silent s) := by
  unfold composeSlot; split <;> simp [↓State.Keeps]

@[simp] theorem safetyVerdict_keeps (y : Nat) (s : State) : s.Keeps (safetyVerdict y s) := by
  unfold safetyVerdict; split <;> simp [↓State.Keeps]

@[simp] theorem signatureTimeout_keeps (y : Nat) (s : State) : s.Keeps (signatureTimeout y s) := by
  unfold signatureTimeout; split <;> simp [↓State.Keeps]

@[simp] theorem cardRendered_keeps (y : Nat) (s : State) : s.Keeps (cardRendered y s) := by
  unfold cardRendered; split <;> simp [↓State.Keeps]

@[simp] theorem doLayoutCreate_keeps (q : LayoutReq) (y : Nat) (m : Nat) (basted : Option U16) (s : State) :
    s.Keeps (doLayoutCreate q y m basted s) := by
  unfold doLayoutCreate; simp [↓State.Keeps]

@[simp] theorem rowLayoutCreate_keeps (m : Mbx) (q : LayoutReq) : (rowLayoutCreate m q).Keeps := by
  intro c s; unfold rowLayoutCreate; dsimp only; constructor <;> (repeat' split) <;> simp [↓State.Keeps]

@[simp] theorem State.waitSlot_keeps (s : State) (y : Nat) (m : Nat) (c : LayoutChange) :
    s.Keeps (s.waitSlot y m c) := by
  unfold State.waitSlot; simp [↓State.Keeps]

@[simp] theorem rowLayoutDelete_keeps (m : Mbx) (layout : U16) :
    (rowLayoutDelete m layout).Keeps := by
  intro c s; simp [rowLayoutDelete, ↓State.Keeps]

@[simp] theorem rowLayoutTile_keeps (m : Mbx) (q : TileReq) : (rowLayoutTile m q).Keeps := by
  intro c s; simp [rowLayoutTile, ↓State.Keeps]

@[simp] theorem rowLayoutSafety_keeps (m : Mbx) (layout : U16) (region : U8) (overlay : U8) (x : U16) (y0 : U16) :
    (rowLayoutSafety m layout region overlay x y0).Keeps := by
  intro c s; simp [rowLayoutSafety, ↓State.Keeps]

@[simp] theorem newFeed_keeps (q : FeedReq) (y : Nat) (f : Nat) (m : Nat) (basted : Option U16) (s : State) :
    s.Keeps (newFeed q y f m basted s) := by
  unfold newFeed; simp [↓State.Keeps]

@[simp] theorem State.feedCharge_keeps (s : State) (f : Nat) (q : FeedReq) :
    s.Keeps (s.feedCharge f q) := by
  unfold State.feedCharge; split <;> simp [↓State.Keeps]

@[simp] theorem rowLayoutFeed_keeps (m : Mbx) (q : FeedReq) : (rowLayoutFeed m q).Keeps := by
  intro c s; unfold rowLayoutFeed; dsimp only; constructor <;> (repeat' split) <;> simp [↓State.Keeps]

@[simp] theorem rowLayoutKeypic_keeps (m : Mbx) (feed : U16) : (rowLayoutKeypic m feed).Keeps := by
  intro c s; unfold rowLayoutKeypic; dsimp only; constructor <;> (repeat' split) <;> simp [↓State.Keeps]

@[simp] theorem rowLayoutQuery_keeps (layout : U16) : (rowLayoutQuery layout).Keeps := by
  intro c s; unfold rowLayoutQuery; dsimp only; constructor <;> (repeat' split) <;> simp [↓State.Keeps]

@[simp] theorem rowLayoutContext_keeps (kind : U8) (index : U16) :
    (rowLayoutContext kind index).Keeps := by
  intro c s; unfold rowLayoutContext; dsimp only; constructor <;> (repeat' split) <;> simp [↓State.Keeps]

end Sys2Proof.Machine

end

section

namespace Sys2Proof.Machine
open Sys2Proof

/-! ### Forward -/

@[simp] theorem State.modFwd_keeps (s : State) (f : Fwd → Fwd) : s.Keeps (s.modFwd f) := by
  unfold State.modFwd; simp [↓State.Keeps]

@[simp] theorem State.modEntry_keeps (s : State) (e : Nat) (f : FwdEntry → FwdEntry) :
    s.Keeps (s.modEntry e f) := by
  unfold State.modEntry; simp [↓State.Keeps]

@[simp] theorem State.modLine_keeps (s : State) (l : Nat) (f : Line → Line) :
    s.Keeps (s.modLine l f) := by
  unfold State.modLine; simp [↓State.Keeps]

@[simp] theorem State.startLine_keeps (s : State) (l : Nat) : s.Keeps (s.startLine l) := by
  unfold State.startLine; split <;> simp [↓State.Keeps]

theorem State.transcodeDraft_keeps {s t : State} {e : Nat} {b : Option U16} {l : List (Option Rep)} (h : s.transcodeDraft e b = some (t, l)) : s.Keeps t := by
  unfold State.transcodeDraft at h
  dsimp only at h
  (repeat' split at h) <;> simp only [Option.some.injEq, Prod.mk.injEq, reduceCtorEq] at h <;> obtain ⟨rfl, -⟩ := h <;> simp [↓State.Keeps]

theorem State.buildTranscode_keeps {s t : State} {e : Nat} {b : Option U16} (h : s.buildTranscode e b = some t) : s.Keeps t := by
  unfold State.buildTranscode at h
  split at h
  · cases h
  · next u l hd =>
    split at h <;> cases h
    exact State.transcodeDraft_keeps hd

@[simp] theorem State.setEntry_keeps (s : State) (e : Nat) (st : FwdState) (cur : Option (Nat × Nat)) (media : Option Nat) :
    s.Keeps (s.setEntry e st cur media) := by
  unfold State.setEntry; split <;> simp [↓State.Keeps]

@[simp] theorem State.tryTranscode_keeps (s : State) (e : Nat) : s.Keeps (s.tryTranscode e) := by
  unfold State.tryTranscode
  split
  · next t h => exact .trans (State.buildTranscode_keeps h) (by simp [↓State.Keeps])
  · simp [↓State.Keeps]

@[simp] theorem State.dropTranscode_keeps (s : State) (e : Nat) : s.Keeps (s.dropTranscode e) := by
  unfold State.dropTranscode; split <;> simp [↓State.Keeps]

@[simp] theorem State.refreshEntry_keeps (s : State) (e : Nat) : s.Keeps (s.refreshEntry e) := by
  unfold State.refreshEntry; split <;> simp [↓State.Keeps]

@[simp] theorem State.refreshLeg_keeps (s : State) (l : Nat) : s.Keeps (s.refreshLeg l) := by
  unfold State.refreshLeg; simp [↓State.Keeps]

@[simp] theorem State.applyAlloc_keeps (s : State) (e : Nat) (m : Nat) (at_ : Nat) (rate : Nat × Nat → Nat) (a : Option (Nat × Nat)) (kbps : Nat) (upHoldMs : Nat) :
    s.Keeps (s.applyAlloc e m at_ rate a kbps upHoldMs) := by
  unfold State.applyAlloc; (repeat' split) <;> simp [↓State.Keeps]

@[simp] theorem State.applyShare_keeps (s : State) (e : Nat) (m : Nat) (share : Nat) (could : Option (Nat × Nat)) :
    s.Keeps (s.applyShare e m share could) := by
  unfold State.applyShare; dsimp only; (repeat' split) <;> simp [↓State.Keeps]

@[simp] theorem State.enterMode_keeps (s : State) (e : Nat) : s.Keeps (s.enterMode e) := by
  unfold State.enterMode; split <;> simp [↓State.Keeps]

@[simp] theorem State.retryEntry_keeps (s : State) (e : Nat) : s.Keeps (s.retryEntry e) := by
  unfold State.retryEntry; split <;> simp [↓State.Keeps]

@[simp] theorem State.allocateLeg_keeps (s : State) (l : Nat) (m : Nat) (at_ : Nat) :
    s.Keeps (s.allocateLeg l m at_) := by
  unfold State.allocateLeg; simp [↓State.Keeps]

@[simp] theorem lineUpdate_keeps (l : Nat) (s : State) : s.Keeps (lineUpdate l s) := by
  unfold lineUpdate; split <;> simp [↓State.Keeps]

@[simp] theorem rtcpFeedback_keeps (l : Nat) (r : RtcpReport) (s : State) :
    s.Keeps (rtcpFeedback l r s) := by
  unfold rtcpFeedback; split <;> simp [↓State.Keeps]

@[simp] theorem tmmbr_keeps (l : Nat) (kbps : Nat) (s : State) : s.Keeps (tmmbr l kbps s) := by
  unfold tmmbr; split <;> simp [↓State.Keeps]

@[simp] theorem doFwdSet_keeps (q : FwdSetReq) (s : State) : s.Keeps (doFwdSet q s) := by
  unfold doFwdSet; simp [↓State.Keeps]

@[simp] theorem doFwdRetarget_keeps (e : Nat) (src : Nat) (s : State) :
    s.Keeps (doFwdRetarget e src s) := by
  unfold doFwdRetarget; split <;> simp [↓State.Keeps]

@[simp] theorem State.fwdChange_keeps (s : State) (e : Nat) (x2 : FwdChange) :
    s.Keeps (s.fwdChange e x2) := by
  unfold State.fwdChange; split <;> simp [↓State.Keeps]

@[simp] theorem State.takeDue_keeps (s : State) (e : Nat) (capture : Int) :
    s.Keeps (s.takeDue e capture) := by
  unfold State.takeDue; split <;> simp [↓State.Keeps]

@[simp] theorem State.armEntry_keeps (s : State) (e : Nat) (t : Nat) (c : FwdChange) :
    s.Keeps (s.armEntry e t c) := by
  unfold State.armEntry; split <;> simp [↓State.Keeps]

@[simp] theorem State.measure_keeps (s : State) (o : Nat) (isFeed : Bool) (m : Nat) (layer : Nat × Nat) (length : Nat) (r : FwdSource) (switch : Bool) :
    s.Keeps (s.measure o isFeed m layer length r switch) := by
  unfold State.measure; simp [↓State.Keeps]

@[simp] theorem State.switchEntry_keeps (s : State) (e : Nat) (p : MediaPkt) (layer : Nat × Nat) (capture : Int) :
    s.Keeps (s.switchEntry e p layer capture) := by
  unfold State.switchEntry; (repeat' split) <;> simp [↓State.Keeps]

@[simp] theorem State.retargetEntry_keeps (s : State) (e : Nat) (src : Nat) :
    s.Keeps (s.retargetEntry e src) := by
  unfold State.retargetEntry; (repeat' split) <;> simp [↓State.Keeps]

@[simp] theorem State.rewrite_keeps (s : State) (e : Nat) (p : MediaPkt) (ssrc : U32) (codec : Option U8) (selected : Bool) (tsOff : FwdEntry → U32) :
    s.Keeps (s.rewrite e p ssrc codec selected tsOff) := by
  unfold State.rewrite; dsimp only; (repeat' split) <;> simp [↓State.Keeps]

@[simp] theorem State.entryPacket_keeps (s : State) (e : Nat) (o : Nat) (isFeed : Bool) (p : MediaPkt) (newPicture : Bool) (layer : Nat × Nat) (capture : Int) :
    s.Keeps (s.entryPacket e o isFeed p newPicture layer capture) := by
  unfold State.entryPacket; dsimp only; (repeat' split) <;> simp [↓State.Keeps]

@[simp] theorem forwardPacket_keeps (o : Nat) (isFeed : Bool) (p : MediaPkt) (s : State) :
    s.Keeps (forwardPacket o isFeed p s) := by
  unfold forwardPacket; simp [↓State.Keeps]

@[simp] theorem State.ownKey_keeps (s : State) (e : Nat) (f : FwdEntry) :
    s.Keeps (s.ownKey e f) := by
  unfold State.ownKey; dsimp only; (repeat' split) <;> simp [↓State.Keeps]

@[simp] theorem switchKeyWait_keeps (e : Nat) (s : State) : s.Keeps (switchKeyWait e s) := by
  unfold switchKeyWait; split <;> simp [↓State.Keeps]

@[simp] theorem transcodeAfter_keeps (e : Nat) (s : State) : s.Keeps (transcodeAfter e s) := by
  unfold transcodeAfter; split <;> simp [↓State.Keeps]

@[simp] theorem receiverKey_keeps (e : Nat) (fir : Bool) (s : State) :
    s.Keeps (receiverKey e fir s) := by
  unfold receiverKey; dsimp only; (repeat' split) <;> simp [↓State.Keeps]

@[simp] theorem newEntry_keeps (q : SubscribeReq) (e : Nat) (basted : Option U16) (s : State) :
    s.Keeps (newEntry q e basted s) := by
  unfold newEntry; dsimp only; (repeat' split) <;> simp [↓State.Keeps]

@[simp] theorem doSubscribe_keeps (e : Nat) (s : State) : s.Keeps (doSubscribe e s) := by
  unfold doSubscribe; simp [↓State.Keeps]

@[simp] theorem rowFwdSubscribe_keeps (m : Mbx) (q : SubscribeReq) : (rowFwdSubscribe m q).Keeps := by
  have hdraft : ∀ (s : State) (e : Nat) (b : Option U16), s.Keeps ((s.buildTranscode e b).getD s) := fun s e b => by
    cases h : s.buildTranscode e b with
    | none => exact .refl s
    | some t => exact State.buildTranscode_keeps h
  intro c s
  unfold rowFwdSubscribe
  dsimp only
  constructor <;> (repeat' split) <;> simp [↓State.Keeps, hdraft]

@[simp] theorem rowFwdUnsubscribe_keeps (m : Mbx) (entry : U32) :
    (rowFwdUnsubscribe m entry).Keeps := by
  intro c s; simp [rowFwdUnsubscribe, ↓State.Keeps]

@[simp] theorem rowFwdSet_keeps (m : Mbx) (q : FwdSetReq) : (rowFwdSet m q).Keeps := by
  intro c s; simp [rowFwdSet, ↓State.Keeps]

@[simp] theorem rowFwdRetarget_keeps (m : Mbx) (entry : U32) (source : U32) :
    (rowFwdRetarget m entry source).Keeps := by
  intro c s; simp [rowFwdRetarget, ↓State.Keeps]

@[simp] theorem doFwdSource_keeps (src : Nat) (ddExt : U8) (fmExt : U8) (t : Nat) (s : State) :
    s.Keeps (doFwdSource src ddExt fmExt t s) := by
  unfold doFwdSource; simp [↓State.Keeps]

@[simp] theorem rowFwdSource_keeps (m : Mbx) (source : U32) (ddExt : U8) (fmExt : U8) :
    (rowFwdSource m source ddExt fmExt).Keeps := by
  intro c s; simp [rowFwdSource, ↓State.Keeps]

@[simp] theorem doFwdLine_keeps (q : FwdLineReq) (s : State) : s.Keeps (doFwdLine q s) := by
  unfold doFwdLine; simp [↓State.Keeps]

@[simp] theorem rowFwdLine_keeps (m : Mbx) (q : FwdLineReq) : (rowFwdLine m q).Keeps := by
  intro c s; simp [rowFwdLine, ↓State.Keeps]

@[simp] theorem rowFwdQuery_keeps (entry : U32) : (rowFwdQuery entry).Keeps := by
  intro c s; unfold rowFwdQuery; dsimp only; constructor <;> (repeat' split) <;> simp [↓State.Keeps]

@[simp] theorem rowFwdLeg_keeps (leg : U16) : (rowFwdLeg leg).Keeps := by
  intro c s; simp [rowFwdLeg, ↓State.Keeps]

/-! ### Roster -/

@[simp] theorem State.rosterOpen_keeps (s : State) (o : LegOffer) : s.Keeps (s.rosterOpen o).1 := by
  unfold State.rosterOpen; (repeat' split) <;> simp [↓State.Keeps]

@[simp] theorem State.rosterBaste_keeps (s : State) (o : LegOffer) (seam : U16) :
    s.Keeps (s.rosterBaste o seam).1 := by
  unfold State.rosterBaste; (repeat' split) <;> simp [↓State.Keeps]

@[simp] theorem State.rosterChange_keeps (s : State) (r : Option Nat) (f : Record → Record) :
    s.Keeps (s.rosterChange r f).1 := by
  unfold State.rosterChange; (repeat' split) <;> simp [↓State.Keeps]

@[simp] theorem rosterDeferred_keeps (r : Nat) (s : State) : s.Keeps (rosterDeferred r s) := by
  unfold rosterDeferred; split <;> simp [↓State.Keeps]

/-! ### Legs -/

@[simp] theorem State.farewell_keeps (s : State) (l : Nat) (cause : Nat) (q : Leg) :
    s.Keeps (s.farewell l cause q) := by
  unfold State.farewell; simp [↓State.Keeps]

@[simp] theorem State.shutLeg_keeps (s : State) (l : Nat) (cause : Nat) :
    s.Keeps (s.shutLeg l cause) := by
  unfold State.shutLeg; split <;> simp [↓State.Keeps]

@[simp] theorem State.idleBuffer_keeps (s : State) (l : Nat) : s.Keeps (s.idleBuffer l) := by
  unfold State.idleBuffer; simp [↓State.Keeps]

@[simp] theorem State.enterLeg_keeps (s : State) (l : Nat) (st : LegState) :
    s.Keeps (s.enterLeg l st) := by
  unfold State.enterLeg; simp [↓State.Keeps]

@[simp] theorem State.progress_keeps (s : State) (l : Nat) : s.Keeps (s.progress l) := by
  unfold State.progress; split <;> simp [↓State.Keeps]

@[simp] theorem State.newSound_keeps (s : State) (l : Nat) (conf : Nat) :
    s.Keeps (s.newSound l conf) := by
  unfold State.newSound; simp [↓State.Keeps]

@[simp] theorem State.startLeg_keeps (s : State) (l : Nat) : s.Keeps (s.startLeg l) := by
  unfold State.startLeg; split <;> simp [↓State.Keeps]

@[simp] theorem State.withLeg_keeps (s : State) (l : Nat) (q : Leg) : s.Keeps (s.withLeg l q) := by
  unfold State.withLeg; simp [↓State.Keeps]

@[simp] theorem doLegOpen_keeps (o : LegOffer) (l : Nat) (s : State) :
    s.Keeps (doLegOpen o l s).1 := by
  unfold doLegOpen; simp [↓State.Keeps]

@[simp] theorem rowLegOpen_keeps (m : Mbx) (o : LegOffer) : (rowLegOpen m o).Keeps := by
  intro c s
  unfold rowLegOpen
  dsimp only
  constructor
  · split <;> simp [↓State.Keeps]
  · split <;> simp -implicitDefEqProofs [↓State.Keeps]

@[simp] theorem applyLegOpen_keeps (l : Nat) (s : State) : s.Keeps (applyLegOpen l s) := by
  unfold applyLegOpen; dsimp only; (repeat' split) <;> simp [↓State.Keeps]

@[simp] theorem rowLegCheck_keeps (m : Mbx) (offer : LegOffer) : (rowLegCheck m offer).Keeps := by
  intro c s; simp [rowLegCheck, ↓State.Keeps]

@[simp] theorem moveSound_keeps (l : Nat) (conf : Nat) (s : State) :
    s.Keeps (moveSound l conf s) := by
  unfold moveSound; simp [↓State.Keeps]

@[simp] theorem doLegUpdate_keeps (o : LegOffer) (s : State) : s.Keeps (doLegUpdate o s).1 := by
  unfold doLegUpdate; dsimp only; (repeat' split) <;> simp [↓State.Keeps]

@[simp] theorem rowLegUpdate_keeps (m : Mbx) (offer : LegOffer) : (rowLegUpdate m offer).Keeps := by
  intro c s; simp [rowLegUpdate, ↓State.Keeps]

@[simp] theorem rowLegClose_keeps (m : Mbx) (leg : U16) : (rowLegClose m leg).Keeps := by
  intro c s; simp [rowLegClose, ↓State.Keeps]

@[simp] theorem doLegHold_keeps (l : Nat) (hold : Bool) (s : State) :
    s.Keeps (doLegHold l hold s) := by
  unfold doLegHold; (repeat' split) <;> simp [↓State.Keeps]

@[simp] theorem rowLegHold_keeps (m : Mbx) (leg : U16) (hold : Bool) :
    (rowLegHold m leg hold).Keeps := by
  intro c s; simp [rowLegHold, ↓State.Keeps]

@[simp] theorem rowLegQuery_keeps (leg : U16) : (rowLegQuery leg).Keeps := by
  intro c s; unfold rowLegQuery; dsimp only; constructor <;> (repeat' split) <;> simp [↓State.Keeps]

@[simp] theorem stunRequest_keeps (l : Nat) (fromNew : Bool) (integrityOk : Bool) (s : State) :
    s.Keeps (stunRequest l fromNew integrityOk s) := by
  unfold stunRequest; split <;> simp [↓State.Keeps]

@[simp] theorem dtlsDone_keeps (l : Nat) (ok : Bool) (suite : U8) (version : U8) (s : State) :
    s.Keeps (dtlsDone l ok suite version s) := by
  unfold dtlsDone; split <;> simp [↓State.Keeps]

@[simp] theorem timedClose_keeps (l : Nat) (cause : Nat) (s : State) :
    s.Keeps (timedClose l cause s) := by
  unfold timedClose; simp [↓State.Keeps]

@[simp] theorem connectTimeout_keeps (l : Nat) (s : State) : s.Keeps (connectTimeout l s) := by
  unfold connectTimeout; simp [↓State.Keeps]

@[simp] theorem consentLost_keeps (l : Nat) (s : State) : s.Keeps (consentLost l s) := by
  unfold consentLost; simp [↓State.Keeps]

@[simp] theorem rekeyTimeout_keeps (l : Nat) (s : State) : s.Keeps (rekeyTimeout l s) := by
  unfold rekeyTimeout; dsimp only; (repeat' split) <;> simp -implicitDefEqProofs [↓State.Keeps]

@[simp] theorem State.dropSources_keeps (s : State) (l : Nat) : s.Keeps (s.dropSources l) := by
  unfold State.dropSources; simp [↓State.Keeps]

@[simp] theorem State.dropSound_keeps (s : State) (l : Nat) : s.Keeps (s.dropSound l) := by
  unfold State.dropSound; simp [↓State.Keeps]

@[simp] theorem State.dropLeg_keeps (s : State) (l : Nat) : s.Keeps (s.dropLeg l) := by
  unfold State.dropLeg; simp [↓State.Keeps]

@[simp] theorem State.holdLeg_keeps (s : State) (l : Nat) : s.Keeps (s.holdLeg l) := by
  unfold State.holdLeg; simp [↓State.Keeps]

@[simp] theorem State.freeLeg_keeps (s : State) (l : Nat) : s.Keeps (s.freeLeg l) := by
  unfold State.freeLeg; split <;> simp [↓State.Keeps]

@[simp] theorem closingDrainEnd_keeps (l : Nat) (s : State) : s.Keeps (closingDrainEnd l s) := by
  unfold closingDrainEnd; split <;> simp [↓State.Keeps]

/-! ### Confs -/

@[simp] theorem doConfCreate_keeps (c : Nat) (speakers : Nat) (standing : Bool) (legLimit : Nat) (startMedia : Nat) (notBefore : Nat) (basted : Option U16) (s : State) :
    s.Keeps (doConfCreate c speakers standing legLimit startMedia notBefore basted s) := by
  unfold doConfCreate; simp [↓State.Keeps]

@[simp] theorem rowConfCreate_keeps (m : Mbx) (conf : U16) (speakers : U8) (standing : Bool) (legLimit : U32) (startMedia : U64) :
    (rowConfCreate m conf speakers standing legLimit startMedia).Keeps := by
  intro c s; unfold rowConfCreate; dsimp only; constructor <;> (repeat' split) <;> simp [↓State.Keeps]

@[simp] theorem setOrigin_keeps (c : Nat) (tb3 : Nat) (s : State) :
    s.Keeps (setOrigin c tb3 s) := by
  unfold setOrigin; simp [↓State.Keeps]

@[simp] theorem confOrigin_keeps (c : Nat) (s : State) : s.Keeps (confOrigin c s) := by
  unfold confOrigin; split <;> simp [↓State.Keeps]

@[simp] theorem removeConf_keeps (c : Nat) (s : State) : s.Keeps (removeConf c s) := by
  unfold removeConf; simp [↓State.Keeps]

@[simp] theorem doConfSpeakers_keeps (c : Nat) (speakers : U8) (s : State) :
    s.Keeps (doConfSpeakers c speakers s) := by
  unfold doConfSpeakers; simp [↓State.Keeps]

@[simp] theorem doConfLimits_keeps (c : Nat) (standing : Bool) (legField : Bool) (legLimit : U32) (s : State) :
    s.Keeps (doConfLimits c standing legField legLimit s) := by
  unfold doConfLimits; simp [↓State.Keeps]

@[simp] theorem doConfSet_keeps (c : Nat) (speakers : U8) (standing : Bool) (legField : Bool) (legLimit : U32) (s : State) :
    s.Keeps (doConfSet c speakers standing legField legLimit s) := by
  unfold doConfSet; simp [↓State.Keeps]

@[simp] theorem rowConfSet_keeps (m : Mbx) (conf : U16) (speakers : U8) (standing : Bool) (legField : Bool) (legLimit : U32) :
    (rowConfSet m conf speakers standing legField legLimit).Keeps := by
  intro c s; simp [rowConfSet, ↓State.Keeps]

@[simp] theorem rowConfQuery_keeps (conf : U16) : (rowConfQuery conf).Keeps := by
  intro c s; unfold rowConfQuery; dsimp only; constructor <;> (repeat' split) <;> simp [↓State.Keeps]

@[simp] theorem rowConfCapacity_keeps : rowConfCapacity.Keeps := by
  intro c s; simp [rowConfCapacity, ↓State.Keeps]

@[simp] theorem holdoffEnd_keeps (kind : HoldKind) (i : Nat) (s : State) :
    s.Keeps (holdoffEnd kind i s) := by
  unfold holdoffEnd; split <;> simp [↓State.Keeps]

/-! ### Seams -/

@[simp] theorem State.seamDone_keeps (s : State) (k : Seam) : s.Keeps (s.seamDone k) := by
  unfold State.seamDone; (repeat' split) <;> simp [↓State.Keeps]

@[simp] theorem State.patternDone_keeps (s : State) (issuer : Option (Mbx × Nat)) (st : U8) (op : Nat) (gen : Nat) (seam : Nat) (island : Nat) (count : Nat) :
    s.Keeps (s.patternDone issuer st op gen seam island count) := by
  unfold State.patternDone; (repeat' split) <;> simp [↓State.Keeps]

@[simp] theorem State.powerEvent_keeps (s : State) (m : Mbx) (seq : Nat) (op : Nat) (st : U8) (cause : Nat) (island : U16) (gated : Nat) :
    s.Keeps (s.powerEvent m seq op st cause island gated) := by
  unfold State.powerEvent; simp [↓State.Keeps]

@[simp] theorem State.deferredEvent_keeps (s : State) (m : Mbx) (st : U8) :
    s.Keeps (s.deferredEvent m st) := by
  unfold State.deferredEvent; simp [↓State.Keeps]

@[simp] theorem State.powerEvents_keeps (s : State) (q : PwrReq) (st : U8) (cause : Nat) (island : U16) (gated : Nat) :
    s.Keeps (s.powerEvents q st cause island gated) := by
  unfold State.powerEvents; split <;> simp [↓State.Keeps]

@[simp] theorem State.powerUnpicked_keeps (s : State) (k : Seam) : s.Keeps (s.powerUnpicked k) := by
  unfold State.powerUnpicked; split <;> simp [↓State.Keeps]

@[simp] theorem State.patternUnpicked_keeps (s : State) (k : Seam) :
    s.Keeps (s.patternUnpicked k) := by
  unfold State.patternUnpicked; split <;> simp [↓State.Keeps]

@[simp] theorem State.freeCmd_keeps (s : State) (i : Instr) : s.Keeps (s.freeCmd i) := by
  unfold State.freeCmd; (repeat' split) <;> simp [↓State.Keeps]

@[simp] theorem State.releaseBasted_keeps (s : State) (k : Seam) : s.Keeps (s.releaseBasted k) := by
  unfold State.releaseBasted; simp [↓State.Keeps]

@[simp] theorem State.finishSeam_keeps (s : State) (id : U16) (f : Seam → Seam) :
    s.Keeps (s.finishSeam id f) := by
  unfold State.finishSeam; simp [↓State.Keeps]

@[simp] theorem State.unpickSeam_keeps (s : State) (id : U16) (reason : Nat) (isl : U16) (pstatus : U8) :
    s.Keeps (s.unpickSeam id reason isl pstatus) := by
  unfold State.unpickSeam; dsimp only; (repeat' split) <;> simp [↓State.Keeps]

@[simp] theorem State.unpickAll_keeps (s : State) (p : Seam → Bool) (reason : Nat) (isl : U16) :
    s.Keeps (s.unpickAll p reason isl) := by
  unfold State.unpickAll; simp [↓State.Keeps]

@[simp] theorem State.faultSeams_keeps (s : State) (hit : U16 → Bool) (isl : U16) :
    s.Keeps (s.faultSeams hit isl) := by
  unfold State.faultSeams; simp [↓State.Keeps]

@[simp] theorem State.endSession_keeps (s : State) (m : Mbx) : s.Keeps (s.endSession m) := by
  unfold State.endSession; simp [↓State.Keeps]

@[simp] theorem State.commitSeam_keeps (s : State) (id : U16) : s.Keeps (s.commitSeam id) := by
  unfold State.commitSeam; dsimp only; (repeat' split) <;> simp [↓State.Keeps]

@[simp] theorem State.openSeam_keeps (s : State) (owner : SeamFor) (scope : Option Nat) (timeoutS : Nat) :
    s.Keeps (s.openSeam owner scope timeoutS).1 := by
  unfold State.openSeam; simp [↓State.Keeps]

@[simp] theorem State.closeSeamAs_keeps (s : State) (id : U16) (t : Nat) (tNs : Nat) (closer : Option Nat) (counter : Nat × Table Nat) :
    s.Keeps (s.closeSeamAs id t tNs closer counter) := by
  unfold State.closeSeamAs; split <;> simp [↓State.Keeps]

@[simp] theorem State.closeSeam_keeps (s : State) (id : U16) (t : Nat) (tNs : Nat) (closer : Option Nat) :
    s.Keeps (s.closeSeam id t tNs closer) := by
  unfold State.closeSeam; split <;> simp [↓State.Keeps]

@[simp] theorem rowSeamOpen_keeps (m : Mbx) (scope : U16) (timeoutS : U16) :
    (rowSeamOpen m scope timeoutS).Keeps := by
  intro c s; simp [rowSeamOpen, ↓State.Keeps]

@[simp] theorem rowSeamClose_keeps (m : Mbx) (seamId : U16) (asap : Bool) (tNs : U32) (t : U64) :
    (rowSeamClose m seamId asap tNs t).Keeps := by
  intro c s; unfold rowSeamClose; dsimp only; constructor <;> (repeat' split) <;> simp [↓State.Keeps]

@[simp] theorem rowSeamUnpick_keeps (m : Mbx) (seamId : U16) : (rowSeamUnpick m seamId).Keeps := by
  intro c s; simp [rowSeamUnpick, ↓State.Keeps]

@[simp] theorem rowSeamQuery_keeps (m : Mbx) (seamId : U16) : (rowSeamQuery m seamId).Keeps := by
  intro c s; unfold rowSeamQuery; dsimp only; constructor <;> (repeat' split) <;> simp [↓State.Keeps]

@[simp] theorem seamOpenTimeout_keeps (id : U16) (s : State) : s.Keeps (seamOpenTimeout id s) := by
  unfold seamOpenTimeout; split <;> simp [↓State.Keeps]

@[simp] theorem confirmationDeadline_keeps (id : U16) (s : State) :
    s.Keeps (confirmationDeadline id s) := by
  unfold confirmationDeadline; split <;> simp [↓State.Keeps]

@[simp] theorem doConfDelete_keeps (c : Nat) (s : State) : s.Keeps (doConfDelete c s) := by
  unfold doConfDelete; simp [↓State.Keeps]

@[simp] theorem rowConfDelete_keeps (m : Mbx) (conf : U16) (force : Bool) :
    (rowConfDelete m conf force).Keeps := by
  intro c s; simp [rowConfDelete, ↓State.Keeps]

/-! ### Doorbell -/

@[simp] theorem State.halt_keeps (s : State) (m : Mbx) (cause : Nat) :
    s.Keeps (s.halt m cause) := by
  unfold State.halt; simp [↓State.Keeps]

@[simp] theorem State.startBox_keeps (s : State) (m : Mbx) : s.Keeps (s.startBox m) := by
  unfold State.startBox; simp [↓State.Keeps]

@[simp] theorem State.enableBox_keeps (s : State) (m : Mbx) : s.Keeps (s.enableBox m) := by
  unfold State.enableBox; dsimp only; (repeat' split) <;> simp [↓State.Keeps]

@[simp] theorem State.quiesceBox_keeps (s : State) (m : Mbx) : s.Keeps (s.quiesceBox m) := by
  unfold State.quiesceBox; simp [↓State.Keeps]

@[simp] theorem State.resetBox_keeps (s : State) (m : Mbx) : s.Keeps (s.resetBox m) := by
  unfold State.resetBox; simp [↓State.Keeps]

@[simp] theorem State.quiesceDone_keeps (s : State) (m : Mbx) : s.Keeps (s.quiesceDone m) := by
  unfold State.quiesceDone; simp [↓State.Keeps]

@[simp] theorem State.noteWake_keeps (s : State) (source : Nat) : s.Keeps (s.noteWake source) := by
  unfold State.noteWake; simp [↓State.Keeps]

@[simp] theorem State.cmdDoorbell_keeps (s : State) (m : Mbx) (value : Nat) :
    s.Keeps (s.cmdDoorbell m value) := by
  unfold State.cmdDoorbell; simp [↓State.Keeps]

@[simp] theorem State.cplDoorbell_keeps (s : State) (m : Mbx) (value : Nat) :
    s.Keeps (s.cplDoorbell m value) := by
  unfold State.cplDoorbell; simp [↓State.Keeps]

@[simp] theorem State.commandFetch_keeps (s : State) (m : Mbx) (slot : Bytes) (request : Bytes) (bufErr : Fin 3) :
    s.Keeps (s.commandFetch m slot request bufErr) := by
  unfold State.commandFetch; split <;> simp [↓State.Keeps]

@[simp] theorem State.fencedStart_keeps (s : State) (m : Mbx) : s.Keeps (s.fencedStart m) := by
  unfold State.fencedStart; split <;> simp [↓State.Keeps]

@[simp] theorem State.holdoffExpiry_keeps (s : State) (m : Mbx) : s.Keeps (s.holdoffExpiry m) := by
  unfold State.holdoffExpiry; simp [↓State.Keeps]

@[simp] theorem State.modSmb_keeps (s : State) (f : Smbus → Smbus) : s.Keeps (s.modSmb f) := by
  unfold State.modSmb; simp [↓State.Keeps]

@[simp] theorem State.smbus_keeps {f : State → State} (h : ∀ s : State, s.Keeps (f s)) (s : State) (pecOk : Bool) : s.Keeps (s.smbus pecOk f) := by
  unfold State.smbus; (repeat' split) <;> simp [↓State.Keeps, h]

@[simp] theorem State.nack_keeps (s : State) : s.Keeps s.nack := by
  unfold State.nack; simp [↓State.Keeps]

@[simp] theorem State.slotWrite_keeps (off16 : U8) (d : Bytes) (s : State) :
    s.Keeps (State.slotWrite off16 d s) := by
  unfold State.slotWrite; simp [↓State.Keeps]

@[simp] theorem State.slotSubmit_keeps (s : State) : s.Keeps s.slotSubmit := by
  unfold State.slotSubmit; simp [↓State.Keeps]

@[simp] theorem State.cplRead_keeps (s : State) : s.Keeps s.cplRead := by
  unfold State.cplRead; dsimp only; (repeat' split) <;> simp [↓State.Keeps]

@[simp] theorem State.smbStatus_keeps (s : State) : s.Keeps s.smbStatus := by
  unfold State.smbStatus; simp [↓State.Keeps]

@[simp] theorem State.stageWrite_keeps (off : U16) (d : Bytes) (s : State) :
    s.Keeps (State.stageWrite off d s) := by
  unfold State.stageWrite; simp [↓State.Keeps]

@[simp] theorem State.replyRead_keeps (off : U16) (s : State) :
    s.Keeps (State.replyRead off s) := by
  unfold State.replyRead; simp [↓State.Keeps]

@[simp] theorem State.alertAnswer_keeps (s : State) : s.Keeps s.alertAnswer := by
  unfold State.alertAnswer; simp [↓State.Keeps]

@[simp] theorem rowSysHello_keeps (m : Mbx) (lo : U8) (hi : U8) : (rowSysHello m lo hi).Keeps := by
  intro c s; unfold rowSysHello; dsimp only; constructor <;> (repeat' split) <;> simp -implicitDefEqProofs [↓State.Keeps]

@[simp] theorem rowSysSubscribe_keeps (m : Mbx) (family : U8) (mode : U8) (select : U32) :
    (rowSysSubscribe m family mode select).Keeps := by
  intro c s; simp [rowSysSubscribe, ↓State.Keeps]

@[simp] theorem rowSysInfo_keeps (m : Mbx) : (rowSysInfo m).Keeps := by
  intro c s; simp [rowSysInfo, ↓State.Keeps]

@[simp] theorem rowSysEcho_keeps (data : Bytes) : (rowSysEcho data).Keeps := by
  intro c s; simp [rowSysEcho, ↓State.Keeps]

@[simp] theorem rowSysGoodbye_keeps (m : Mbx) : (rowSysGoodbye m).Keeps := by
  intro c s; simp [rowSysGoodbye, ↓State.Keeps]

@[simp] theorem rowSysCounters_keeps (m : Mbx) (clear : Bool) : (rowSysCounters m clear).Keeps := by
  intro c s; simp [rowSysCounters, ↓State.Keeps]

end Sys2Proof.Machine

end

section

namespace Sys2Proof.Machine
open Sys2Proof

/-! ### Access -/

@[simp] theorem State.accessEvent_keeps (s : State) (p : Fin 2) (terminal : Nat) (new : Nat) (old : Nat) (cause : Nat) (serial : U64) :
    s.Keeps (s.accessEvent p terminal new old cause serial) := by
  unfold State.accessEvent; simp [↓State.Keeps]

@[simp] theorem State.ploam_keeps (s : State) (p : Fin 2) (l : List PloamMsg) :
    s.Keeps (s.ploam p l) := by
  unfold State.ploam; simp [↓State.Keeps]

@[simp] theorem State.dropKeys_keeps (s : State) (p : Fin 2) : s.Keeps (s.dropKeys p) := by
  unfold State.dropKeys; simp [↓State.Keeps]

@[simp] theorem State.accState_keeps (s : State) (p : Fin 2) (new : Nat) (cause : Nat) :
    s.Keeps (s.accState p new cause) := by
  unfold State.accState; simp [↓State.Keeps]

@[simp] theorem State.toO23_keeps (s : State) (p : Fin 2) : s.Keeps (s.toO23 p) := by
  unfold State.toO23; simp [↓State.Keeps]

@[simp] theorem State.hunt_keeps (p : Fin 2) (s : State) : s.Keeps (State.hunt p s) := by
  unfold State.hunt; simp [↓State.Keeps]

@[simp] theorem State.syncGained_keeps (p : Fin 2) (s : State) :
    s.Keeps (State.syncGained p s) := by
  unfold State.syncGained; simp [↓State.Keeps]

@[simp] theorem State.syncLost_keeps (p : Fin 2) (s : State) : s.Keeps (State.syncLost p s) := by
  unfold State.syncLost; simp [↓State.Keeps]

@[simp] theorem State.superframe_keeps (p : Fin 2) (n : Nat) (s : State) :
    s.Keeps (State.superframe p n s) := by
  unfold State.superframe; simp [↓State.Keeps]

@[simp] theorem State.to1Expiry_keeps (p : Fin 2) (s : State) : s.Keeps (State.to1Expiry p s) := by
  unfold State.to1Expiry; simp [↓State.Keeps]

@[simp] theorem State.to2Expiry_keeps (p : Fin 2) (s : State) : s.Keeps (State.to2Expiry p s) := by
  unfold State.to2Expiry; simp [↓State.Keeps]

@[simp] theorem State.snGrant_keeps (p : Fin 2) (s : State) : s.Keeps (State.snGrant p s) := by
  unfold State.snGrant; simp [↓State.Keeps]

@[simp] theorem State.burstProfile_keeps (p : Fin 2) (usRate : U8) (s : State) :
    s.Keeps (State.burstProfile p usRate s) := by
  unfold State.burstProfile; simp [↓State.Keeps]

@[simp] theorem State.assignOnu_keeps (p : Fin 2) (onu : Nat) (serial : U64) (s : State) :
    s.Keeps (State.assignOnu p onu serial s) := by
  unfold State.assignOnu; simp [↓State.Keeps]

@[simp] theorem State.rangingTime_keeps (p : Fin 2) (relative : Bool) (bits : Int) (s : State) :
    s.Keeps (State.rangingTime p relative bits s) := by
  unfold State.rangingTime; simp [↓State.Keeps]

@[simp] theorem State.deactivate_keeps (p : Fin 2) (onu : Nat) (s : State) :
    s.Keeps (State.deactivate p onu s) := by
  unfold State.deactivate; simp [↓State.Keeps]

@[simp] theorem State.disableSerial_keeps (p : Fin 2) (enable : Bool) (serial : U64) (s : State) :
    s.Keeps (State.disableSerial p enable serial s) := by
  unfold State.disableSerial; simp [↓State.Keeps]

@[simp] theorem State.register_keeps (s : State) (p : Fin 2) : s.Keeps (s.register p) := by
  unfold State.register; simp [↓State.Keeps]

@[simp] theorem State.requestRegistration_keeps (p : Fin 2) (s : State) :
    s.Keeps (State.requestRegistration p s) := by
  unfold State.requestRegistration; simp [↓State.Keeps]

@[simp] theorem State.assignAlloc_keeps (p : Fin 2) (alloc : Nat) (s : State) :
    s.Keeps (State.assignAlloc p alloc s) := by
  unfold State.assignAlloc; simp [↓State.Keeps]

@[simp] theorem State.keyControl_keeps (p : Fin 2) (k : Fin 2) (broadcast : Bool) (at_ : Nat) (s : State) :
    s.Keeps (State.keyControl p k broadcast at_ s) := by
  unfold State.keyControl; simp [↓State.Keeps]

@[simp] theorem State.sleepTo_keeps (s : State) (p : Fin 2) (asleep : Bool) :
    s.Keeps (s.sleepTo p asleep) := by
  unfold State.sleepTo; simp [↓State.Keeps]

@[simp] theorem State.sleepAllow_keeps (p : Fin 2) (on : Bool) (s : State) :
    s.Keeps (State.sleepAllow p on s) := by
  unfold State.sleepAllow; simp [↓State.Keeps]

@[simp] theorem State.sleepWake_keeps (p : Fin 2) (s : State) : s.Keeps (State.sleepWake p s) := by
  unfold State.sleepWake; simp [↓State.Keeps]

@[simp] theorem State.powerLevel_keeps (p : Fin 2) (level : Nat) (reports : Bool) (s : State) :
    s.Keeps (State.powerLevel p level reports s) := by
  unfold State.powerLevel; simp [↓State.Keeps]

@[simp] theorem State.powerInquire_keeps (p : Fin 2) (s : State) :
    s.Keeps (State.powerInquire p s) := by
  unfold State.powerInquire; simp [↓State.Keeps]

@[simp] theorem State.ploamIgnored_keeps (p : Fin 2) (micFail : Bool) (s : State) :
    s.Keeps (State.ploamIgnored p micFail s) := by
  unfold State.ploamIgnored; simp [↓State.Keeps]

@[simp] theorem State.accClean_keeps (s : State) (p : Fin 2) : s.Keeps (s.accClean p) := by
  unfold State.accClean; simp [↓State.Keeps]

@[simp] theorem State.fragment_keeps (s : State) (p : Fin 2) (lv : Option (Fin 8)) (c : Candidate) (n : Nat) :
    s.Keeps (s.fragment p lv c n) := by
  unfold State.fragment; split <;> simp [↓State.Keeps]

@[simp] theorem State.fillGrant_keeps (p : Fin 2) (gem : Nat) (prio media : Bool) (fuel left : Nat) (s : State) : s.Keeps (State.fillGrant p gem prio media fuel left s).1 := by
  induction fuel generalizing left s with
  | zero => exact .refl s
  | succ fuel ih =>
    cases left with
    | zero => exact .refl s
    | succ left =>
      rw [State.fillGrant]
      · dsimp only
        split
        · exact .refl s
        · split
          · refine State.Keeps.trans ?_ (ih _ _)
            split <;> simp [↓State.Keeps]
          · simp [↓State.Keeps]
      · simp

@[simp] theorem State.burstGrant_keeps (p : Fin 2) (g : Allocation) (s : State) :
    s.Keeps (State.burstGrant p g s) := by
  unfold State.burstGrant; simp [↓State.Keeps]

@[simp] theorem State.timeOfDay_keeps (s : State) (p : Fin 2) (n : Nat) (sec : Nat) (ns : Nat) :
    s.Keeps (s.timeOfDay p n sec ns) := by
  unfold State.timeOfDay; dsimp only; (repeat' split) <;> simp [↓State.Keeps]

@[simp] theorem State.omciAlarm_keeps (s : State) (p : Fin 2) (onu : Nat) :
    s.Keeps (s.omciAlarm p onu) := by
  unfold State.omciAlarm; split <;> simp [↓State.Keeps]

@[simp] theorem State.omci_keeps (p : Fin 2) (q : OmciReq) (s : State) :
    s.Keeps (State.omci p q s) := by
  unfold State.omci; (repeat' split) <;> simp [↓State.Keeps]

@[simp] theorem State.modTerminal_keeps (s : State) (p : Fin 2) (onu : Nat) (f : Terminal → Terminal) :
    s.Keeps (s.modTerminal p onu f) := by
  unfold State.modTerminal; simp [↓State.Keeps]

@[simp] theorem State.termState_keeps (s : State) (p : Fin 2) (onu : Nat) (new : Nat) (cause : Nat) :
    s.Keeps (s.termState p onu new cause) := by
  unfold State.termState; split <;> simp [↓State.Keeps]

@[simp] theorem State.serialReceived_keeps (p : Fin 2) (serial : U64) (s : State) :
    s.Keeps (State.serialReceived p serial s) := by
  unfold State.serialReceived; dsimp only; (repeat' split) <;> simp [↓State.Keeps]

@[simp] theorem State.registrationReceived_keeps (p : Fin 2) (onu : Nat) (roundTripNs : Nat) (s : State) :
    s.Keeps (State.registrationReceived p onu roundTripNs s) := by
  unfold State.registrationReceived; split <;> simp [↓State.Keeps]

@[simp] theorem State.keyReport_keeps (p : Fin 2) (onu : Nat) (s : State) :
    s.Keeps (State.keyReport p onu s) := by
  unfold State.keyReport; simp [↓State.Keeps]

@[simp] theorem State.acknowledge_keeps (p : Fin 2) (onu : Nat) (error : Bool) (s : State) :
    s.Keeps (State.acknowledge p onu error s) := by
  unfold State.acknowledge; simp [↓State.Keeps]

@[simp] theorem State.registrationTimeout_keeps (p : Fin 2) (onu : Nat) (s : State) :
    s.Keeps (State.registrationTimeout p onu s) := by
  unfold State.registrationTimeout; split <;> simp [↓State.Keeps]

@[simp] theorem State.missingBursts_keeps (p : Fin 2) (onu : Nat) (s : State) :
    s.Keeps (State.missingBursts p onu s) := by
  unfold State.missingBursts; split <;> simp [↓State.Keeps]

@[simp] theorem State.snWindow_keeps (p : Fin 2) (s : State) : s.Keeps (State.snWindow p s) := by
  unfold State.snWindow; simp [↓State.Keeps]

@[simp] theorem State.groupRotate_keeps (p : Fin 2) (g : Nat) (at_ : Nat) (s : State) :
    s.Keeps (State.groupRotate p g at_ s) := by
  unfold State.groupRotate; simp [↓State.Keeps]

@[simp] theorem State.oltg_keeps (p : Fin 2) (s : State) : s.Keeps (State.oltg p s) := by
  unfold State.oltg; simp [↓State.Keeps]

@[simp] theorem State.rssi_keeps (p : Fin 2) (power : BitVec 16) (s : State) :
    s.Keeps (State.rssi p power s) := by
  unfold State.rssi; dsimp only; (repeat' split) <;> simp [↓State.Keeps]

@[simp] theorem State.allocateUpstream_keeps (p : Fin 2) (reports : List (Nat × Nat)) (s : State) :
    s.Keeps (State.allocateUpstream p reports s) := by
  unfold State.allocateUpstream; simp [↓State.Keeps]

@[simp] theorem State.headServe_keeps (p : Fin 2) (s : State) : s.Keeps (State.headServe p s) := by
  unfold State.headServe; dsimp only; (repeat' split) <;> simp [↓State.Keeps]

@[simp] theorem State.accDrop_keeps (s : State) (p : Fin 2) : s.Keeps (s.accDrop p) := by
  unfold State.accDrop; simp [↓State.Keeps]

@[simp] theorem decision_keeps (i : Nat) (s : State) : s.Keeps (decision i s) := by
  unfold decision; simp [↓State.Keeps]

@[simp] theorem setPort_keeps (p : Fin 2) (q : AccessPortReq) (s : State) :
    s.Keeps (setPort p q s) := by
  unfold setPort; simp [↓State.Keeps]

@[simp] theorem rowAccessPort_keeps (q : AccessPortReq) : (rowAccessPort q).Keeps := by
  intro c s; simp [rowAccessPort, ↓State.Keeps]

@[simp] theorem doGem_keeps (p : Fin 2) (mode : U8) (gemId : Nat) (kind : Nat) (terminal : Nat) (alloc : Nat) (s : State) :
    s.Keeps (doGem p mode gemId kind terminal alloc s) := by
  unfold doGem; simp [↓State.Keeps]

@[simp] theorem rowAccessGem_keeps (m : Mbx) (port : U8) (mode : U8) (gemId : U16) (kind : U8) (terminal : U8) (allocId : U16) :
    (rowAccessGem m port mode gemId kind terminal allocId).Keeps := by
  intro c s; simp [rowAccessGem, ↓State.Keeps]

@[simp] theorem doTcont_keeps (p : Fin 2) (mode : U8) (k : Nat) (t : Tcont) (s : State) :
    s.Keeps (doTcont p mode k t s) := by
  unfold doTcont; simp [↓State.Keeps]

@[simp] theorem rowAccessTcont_keeps (m : Mbx) (port : U8) (mode : U8) (terminal : U8) (index : U8) (fixed : U32) (assured : U32) (max : U32) (weight : U16) :
    (rowAccessTcont m port mode terminal index fixed assured max weight).Keeps := by
  intro c s; simp [rowAccessTcont, ↓State.Keeps]

@[simp] theorem State.tellSerial_keeps (s : State) (p : Fin 2) (onu : Nat) (enable : Bool) :
    s.Keeps (s.tellSerial p onu enable) := by
  unfold State.tellSerial; split <;> simp [↓State.Keeps]

@[simp] theorem doTree_keeps (p : Fin 2) (mode : U8) (onu : Nat) (keyGroup : Nat) (serial : U64) (s : State) :
    s.Keeps (doTree p mode onu keyGroup serial s) := by
  unfold doTree; split <;> simp [↓State.Keeps]

@[simp] theorem rowAccessTree_keeps (m : Mbx) (port : U8) (mode : U8) (onuId : U8) (keyGroup : U8) (serial : U64) :
    (rowAccessTree m port mode onuId keyGroup serial).Keeps := by
  intro c s; unfold rowAccessTree; dsimp only; constructor <;> (repeat' split) <;> simp [↓State.Keeps]

@[simp] theorem rowAccessQuery_keeps (port : U8) (terminal : U8) :
    (rowAccessQuery port terminal).Keeps := by
  intro c s; simp [rowAccessQuery, ↓State.Keeps]

@[simp] theorem State.consumed_keeps (s : State) (p : Fin 2) : s.Keeps (s.consumed p) := by
  unfold State.consumed; simp [↓State.Keeps]

/-! ### Twin -/

@[simp] theorem State.modTwin_keeps (s : State) (f : Twin → Twin) : s.Keeps (s.modTwin f) := by
  unfold State.modTwin; simp [↓State.Keeps]

@[simp] theorem State.modClaim_keeps (s : State) (g : Nat) (f : Claim → Claim) :
    s.Keeps (s.modClaim g f) := by
  unfold State.modClaim; simp [↓State.Keeps]

@[simp] theorem State.twinEvent_keeps (s : State) (old : Nat) (cause : Nat) (group : Nat) (won : Bool) :
    s.Keeps (s.twinEvent old cause group won) := by
  unfold State.twinEvent; simp [↓State.Keeps]

@[simp] theorem State.twinReady_keeps (s : State) : s.Keeps s.twinReady := by
  unfold State.twinReady; simp [↓State.Keeps]

@[simp] theorem State.newEpoch_keeps (s : State) : s.Keeps s.newEpoch := by
  unfold State.newEpoch; simp [↓State.Keeps]

@[simp] theorem State.newCert_keeps (s : State) : s.Keeps s.newCert := by
  unfold State.newCert; simp [↓State.Keeps]

@[simp] theorem State.setTwin_keeps (s : State) (new : TwinState) (cause : Nat) :
    s.Keeps (s.setTwin new cause) := by
  unfold State.setTwin; simp [↓State.Keeps]

@[simp] theorem State.endSwap_keeps (s : State) (st : U8) (cause : Nat) :
    s.Keeps (s.endSwap st cause) := by
  unfold State.endSwap; (repeat' split) <;> simp [↓State.Keeps]

@[simp] theorem State.homeTimers_keeps (s : State) : s.Keeps s.homeTimers := by
  unfold State.homeTimers; simp [↓State.Keeps]

@[simp] theorem State.setPeer_keeps (s : State) (p : Option U8) (cause : Nat) :
    s.Keeps (s.setPeer p cause) := by
  unfold State.setPeer; simp [↓State.Keeps]

@[simp] theorem State.dropMedia_keeps (s : State) : s.Keeps s.dropMedia := by
  unfold State.dropMedia; simp [↓State.Keeps]

@[simp] theorem State.leaveSync_keeps (s : State) (cause : Nat) : s.Keeps (s.leaveSync cause) := by
  unfold State.leaveSync; simp [↓State.Keeps]

@[simp] theorem State.startResync_keeps (s : State) (cause : Nat) :
    s.Keeps (s.startResync cause) := by
  unfold State.startResync; simp [↓State.Keeps]

@[simp] theorem State.keyAll_keeps (s : State) (at_ : Conf → Nat) : s.Keeps (s.keyAll at_) := by
  unfold State.keyAll
  refine foldl_keeps (fun s p => ?_) _ _
  split <;> simp [↓State.Keeps]

@[simp] theorem State.coldTakeover_keeps (s : State) (cause : Nat) :
    s.Keeps (s.coldTakeover cause) := by
  unfold State.coldTakeover; simp [↓State.Keeps]

@[simp] theorem State.takeOver_keeps (s : State) : s.Keeps s.takeOver := by
  unfold State.takeOver; simp [↓State.Keeps]

@[simp] theorem State.stepDown_keeps (s : State) : s.Keeps s.stepDown := by
  unfold State.stepDown; simp [↓State.Keeps]

@[simp] theorem State.releaseClaims_keeps (s : State) : s.Keeps s.releaseClaims := by
  unfold State.releaseClaims; simp [↓State.Keeps]

@[simp] theorem State.takePort_keeps (s : State) (p : Fin 2) : s.Keeps (s.takePort p) := by
  unfold State.takePort; simp [↓State.Keeps]

@[simp] theorem State.group0_keeps (s : State) (won : Bool) (peer : Nat) (yielded : Bool) :
    s.Keeps (s.group0 won peer yielded) := by
  unfold State.group0; dsimp only; (repeat' split) <;> simp [↓State.Keeps]

@[simp] theorem State.decideGroup_keeps (s : State) (g : Nat) (f : ClaimFrame) : s.Keeps (s.decideGroup g f) := by
  unfold State.decideGroup
  split
  · exact .refl s
  · extract_lets peer won still s1 s2 s3 s4 s5
    have h1 : s.Keeps s1 := s.modClaim_keeps g _
    have h2 : s1.Keeps s2 := by dsimp only [s2]; split <;> simp [↓State.Keeps]
    have h3 : s2.Keeps s3 := by dsimp only [s3]; split <;> simp -implicitDefEqProofs [↓State.Keeps]
    have h4 : s3.Keeps s4 := by dsimp only [s4]; split <;> simp [↓State.Keeps]
    have h5 : s4.Keeps s5 := by dsimp only [s5]; split <;> simp [↓State.Keeps]
    refine .trans (.trans h1 (.trans h2 (.trans h3 (.trans h4 h5)))) ?_
    split <;> simp [↓State.Keeps]

@[simp] theorem State.endRound_keeps (s : State) (valid : Bool) : s.Keeps (s.endRound valid) := by
  unfold State.endRound; simp [↓State.Keeps]

@[simp] theorem claimRoundStart_keeps (s : State) : s.Keeps (claimRoundStart s) := by
  unfold claimRoundStart; simp [↓State.Keeps]

@[simp] theorem claimFrame_keeps (f : ClaimFrame) (s : State) : s.Keeps (claimFrame f s) := by
  unfold claimFrame; split <;> simp [↓State.Keeps]

@[simp] theorem claimBusLost_keeps (s : State) : s.Keeps (claimBusLost s) := by
  unfold claimBusLost; simp [↓State.Keeps]

@[simp] theorem trussIdleTimer_keeps (s : State) : s.Keeps (trussIdleTimer s) := by
  unfold trussIdleTimer; simp [↓State.Keeps]

@[simp] theorem trussLinkLost_keeps (s : State) : s.Keeps (trussLinkLost s) := by
  unfold trussLinkLost; simp [↓State.Keeps]

@[simp] theorem trussLaneFail_keeps (lane : Fin 4) (s : State) :
    s.Keeps (trussLaneFail lane s) := by
  unfold trussLaneFail; simp [↓State.Keeps]

@[simp] theorem mirrorStoreFree_keeps (bytes : Nat) (s : State) :
    s.Keeps (mirrorStoreFree bytes s) := by
  unfold mirrorStoreFree; simp [↓State.Keeps]

@[simp] theorem decisionLate_keeps (s : State) : s.Keeps (decisionLate s) := by
  unfold decisionLate; simp [↓State.Keeps]

@[simp] theorem resyncTimeout_keeps (s : State) : s.Keeps (resyncTimeout s) := by
  unfold resyncTimeout; simp [↓State.Keeps]

@[simp] theorem retryHoldExpiry_keeps (s : State) : s.Keeps (retryHoldExpiry s) := by
  unfold retryHoldExpiry; simp [↓State.Keeps]

@[simp] theorem homingHoldOff_keeps (g : Nat) (s : State) : s.Keeps (homingHoldOff g s) := by
  unfold homingHoldOff; split <;> simp [↓State.Keeps]

@[simp] theorem swapTick_keeps (s : State) : s.Keeps (swapTick s) := by
  unfold swapTick; split <;> simp [↓State.Keeps]

@[simp] theorem failoverCanonSwitch_keeps (s : State) : s.Keeps (failoverCanonSwitch s) := by
  unfold failoverCanonSwitch; simp [↓State.Keeps]

@[simp] theorem doTwinConfig_keeps (enable : Bool) (singleSend : Bool) (resyncS : Nat) (retryHoldS : Nat) (s : State) :
    s.Keeps (doTwinConfig enable singleSend resyncS retryHoldS s) := by
  unfold doTwinConfig; dsimp only; (repeat' split) <;> simp [↓State.Keeps]

@[simp] theorem rowTwinConfig_keeps (enable : Bool) (singleSend : Bool) (resyncS : U16) (retryHoldS : U16) :
    (rowTwinConfig enable singleSend resyncS retryHoldS).Keeps := by
  intro c s; simp [rowTwinConfig, ↓State.Keeps]

@[simp] theorem doTwinClaim_keeps (g : Nat) (homing : Bool) (homeSide : Bool) (holdOffS : Nat) (prefA : Nat) (prefB : Nat) (s : State) :
    s.Keeps (doTwinClaim g homing homeSide holdOffS prefA prefB s) := by
  unfold doTwinClaim; simp [↓State.Keeps]

@[simp] theorem rowTwinClaim_keeps (group : U8) (homing : Bool) (homeSide : Bool) (holdOffS : U16) (prefA : BitVec 12) (prefB : BitVec 12) :
    (rowTwinClaim group homing homeSide holdOffS prefA prefB).Keeps := by
  intro c s; simp [rowTwinClaim, ↓State.Keeps]

@[simp] theorem rowTwinSwap_keeps (m : Mbx) (group : U8) (leadTicks : U16) :
    (rowTwinSwap m group leadTicks).Keeps := by
  intro c s; simp [rowTwinSwap, ↓State.Keeps]

@[simp] theorem rowTwinResync_keeps : rowTwinResync.Keeps := by
  intro c s; simp [rowTwinResync, ↓State.Keeps]

@[simp] theorem rowTwinQuery_keeps : rowTwinQuery.Keeps := by
  intro c s; simp [rowTwinQuery, ↓State.Keeps]

/-! ### Keep -/

@[simp] theorem State.keepEvent_keeps (s : State) (kind : Nat) (torn : Nat) (count : Nat) :
    s.Keeps (s.keepEvent kind torn count) := by
  unfold State.keepEvent; simp [↓State.Keeps]

@[simp] theorem State.setLevel_keeps (s : State) (level : Nat) : s.Keeps (s.setLevel level) := by
  unfold State.setLevel; simp [↓State.Keeps]

@[simp] theorem State.numberWaiting_keeps (s : State) : s.Keeps s.numberWaiting := by
  unfold State.numberWaiting; simp [↓State.Keeps]

@[simp] theorem State.applyEntry_keeps (s : State) (gseq : Nat) (e : JEntry) : s.Keeps (s.applyEntry gseq e) := by
  unfold State.applyEntry; (repeat' split) <;> simp -implicitDefEqProofs [↓State.Keeps]

@[simp] theorem State.commitGroup_keeps (s : State) (g : JGroup) : s.Keeps (s.commitGroup g) := by
  unfold State.commitGroup
  refine .trans (t := s.modKeep _) ?_ (foldl_keeps (fun s e => ?_) _ _)
  · simp [↓State.Keeps]
  · dsimp only
    split <;> simp [↓State.Keeps]

@[simp] theorem State.commitReady_keeps (s : State) (n : Nat) : s.Keeps (s.commitReady n) := by
  induction n generalizing s with
  | zero => exact .refl s
  | succ n ih =>
    unfold State.commitReady
    (repeat' split)
    · exact .trans (by simp [↓State.Keeps]) (ih _)
    · exact .refl s
    · exact .refl s

@[simp] theorem journalGroupClose_keeps (s : State) : s.Keeps (journalGroupClose s) := by
  unfold journalGroupClose; simp [↓State.Keeps]

@[simp] theorem groupProgramDone_keeps (gseq : Nat) (ok : Bool) (s : State) :
    s.Keeps (groupProgramDone gseq ok s) := by
  unfold groupProgramDone; simp [↓State.Keeps]

@[simp] theorem State.startPass_keeps (s : State) (for_ : Option (Mbx × Nat)) :
    s.Keeps (s.startPass for_) := by
  unfold State.startPass; simp [↓State.Keeps]

@[simp] theorem snapshotPassStart_keeps (s : State) : s.Keeps (snapshotPassStart s) := by
  unfold snapshotPassStart; simp [↓State.Keeps]

@[simp] theorem segmentImageDone_keeps (n : Nat) (loc : U32) (s : State) :
    s.Keeps (segmentImageDone n loc s) := by
  unfold segmentImageDone; split <;> simp [↓State.Keeps]

@[simp] theorem snapshotPassEnd_keeps (ok : Bool) (s : State) : s.Keeps (snapshotPassEnd ok s) := by
  unfold snapshotPassEnd; dsimp only; (repeat' split) <;> simp [↓State.Keeps]

@[simp] theorem scrubRead_keeps (corrected : Nat) (soft : Bool) (reads : Nat) (uncorrectable : Bool) (record : Option Nat) (generation : Option Nat) (s : State) :
    s.Keeps (scrubRead corrected soft reads uncorrectable record generation s) := by
  unfold scrubRead; dsimp only; (repeat' split) <;> simp [↓State.Keeps]

@[simp] theorem mountJournalReady_keeps (r : MountResult) (s : State) :
    s.Keeps (mountJournalReady r s) := by
  unfold mountJournalReady; simp [↓State.Keeps]

@[simp] theorem mountSummariesLoaded_keeps (s : State) : s.Keeps (mountSummariesLoaded s) := by
  unfold mountSummariesLoaded; simp [↓State.Keeps]

@[simp] theorem mountIndexed_keeps (s : State) : s.Keeps (mountIndexed s) := by
  unfold mountIndexed; simp [↓State.Keeps]

@[simp] theorem rowKeepLookup_keeps (byRecord : U8) (record : U32) (key : U128) :
    (rowKeepLookup byRecord record key).Keeps := by
  intro c s; unfold rowKeepLookup; dsimp only; constructor <;> (repeat' split) <;> simp [↓State.Keeps]

@[simp] theorem applyKeepRecord_keeps (seam : U16) (r : Nat) (s : State) :
    s.Keeps (applyKeepRecord seam r s) := by
  unfold applyKeepRecord; split <;> simp [↓State.Keeps]

@[simp] theorem rowKeepRecord_keeps (m : Mbx) (q : RecordReq) : (rowKeepRecord m q).Keeps := by
  intro c s; unfold rowKeepRecord; dsimp only; constructor <;> (repeat' split) <;> simp [↓State.Keeps]

@[simp] theorem rowKeepHealth_keeps : rowKeepHealth.Keeps := by
  intro c s; simp [rowKeepHealth, ↓State.Keeps]

@[simp] theorem rowKeepFaults_keeps (first : U32) (count : U32) :
    (rowKeepFaults first count).Keeps := by
  intro c s; simp [rowKeepFaults, ↓State.Keeps]

@[simp] theorem rowKeepSnapshot_keeps (m : Mbx) : (rowKeepSnapshot m).Keeps := by
  intro c s; simp [rowKeepSnapshot, ↓State.Keeps]

@[simp] theorem doKeepConfig_keeps (retainDays : Nat) (scrubDays : Nat) (refreshBits : Nat) (s : State) :
    s.Keeps (doKeepConfig retainDays scrubDays refreshBits s) := by
  unfold doKeepConfig; simp [↓State.Keeps]

@[simp] theorem rowKeepConfig_keeps (retainDays : U16) (scrubDays : U16) (refreshBits : U16) :
    (rowKeepConfig retainDays scrubDays refreshBits).Keeps := by
  intro c s; simp [rowKeepConfig, ↓State.Keeps]

@[simp] theorem rowKeepFormat_keeps (m : Mbx) (confirm : U32) :
    (rowKeepFormat m confirm).Keeps := by
  intro c s; simp [rowKeepFormat, ↓State.Keeps]

end Sys2Proof.Machine

end

section

namespace Sys2Proof.Machine
open Sys2Proof

/-! ### Disp -/

@[simp] theorem State.modDisp_keeps (s : State) (f : Disp → Disp) : s.Keeps (s.modDisp f) := by
  unfold State.modDisp; simp [↓State.Keeps]

@[simp] theorem State.modTask_keeps (s : State) (t : Nat) (f : Task → Task) :
    s.Keeps (s.modTask t f) := by
  unfold State.modTask; simp [↓State.Keeps]

@[simp] theorem State.modDispBlock_keeps (s : State) (b : Nat) (f : DispBlock → DispBlock) :
    s.Keeps (s.modDispBlock b f) := by
  unfold State.modDispBlock; simp [↓State.Keeps]

@[simp] theorem State.modDsp_keeps (s : State) (c : U16) (f : Dsp → Dsp) :
    s.Keeps (s.modDsp c f) := by
  unfold State.modDsp; simp [↓State.Keeps]

@[simp] theorem State.tracePut_keeps (s : State) (q : TraceReq) (r : TraceRec) :
    s.Keeps (s.tracePut q r) := by
  unfold State.tracePut; simp [↓State.Keeps]

@[simp] theorem State.traceRec_keeps (s : State) (cell : U16) (task : Nat) (group : Nat) (reason : Nat) (detail : Nat) :
    s.Keeps (s.traceRec cell task group reason detail) := by
  unfold State.traceRec; split <;> simp [↓State.Keeps]

@[simp] theorem State.makeTask_keeps (s : State) (k : TaskKind) (object : Nat) :
    s.Keeps (s.makeTask k object) := by
  unfold State.makeTask; simp [↓State.Keeps]

@[simp] theorem State.parkTask_keeps (s : State) (n : Nat) (t : Task) :
    s.Keeps (s.parkTask n t) := by
  unfold State.parkTask; simp [↓State.Keeps]

@[simp] theorem State.reweigh_keeps (s : State) : s.Keeps s.reweigh := by
  unfold State.reweigh; simp [↓State.Keeps]

@[simp] theorem State.syncTasks_keeps (s : State) (c : Nat) : s.Keeps (s.syncTasks c) := by
  unfold State.syncTasks; simp [↓State.Keeps]

@[simp] theorem State.setFlags_keeps (s : State) (n : Nat) (f : U32) :
    s.Keeps (s.setFlags n f) := by
  unfold State.setFlags; simp [↓State.Keeps]

@[simp] theorem State.joinTasks_keeps (s : State) (c : Nat) : s.Keeps (s.joinTasks c) := by
  unfold State.joinTasks; simp [↓State.Keeps]

@[simp] theorem State.missed_keeps (s : State) (e : LocalEvent) : s.Keeps (s.missed e) := by
  unfold State.missed; split <;> simp [↓State.Keeps]

@[simp] theorem State.missSignal_keeps (s : State) (t : Task) : s.Keeps (s.missSignal t) := by
  unfold State.missSignal; split <;> simp [↓State.Keeps]

@[simp] theorem State.lateTask_keeps (s : State) (n : Nat) (t : Task) :
    s.Keeps (s.lateTask n t) := by
  unfold State.lateTask; simp [↓State.Keeps]

@[simp] theorem State.rebalance_keeps (s : State) (n : Nat) (t : Task) :
    s.Keeps (s.rebalance n t) := by
  unfold State.rebalance; simp [↓State.Keeps]

@[simp] theorem State.kernelsTold_keeps (s : State) (c m : Nat) : s.Keeps (s.kernelsTold c m) := by
  unfold State.kernelsTold
  refine foldl_keeps (fun s p => ?_) _ s
  dsimp only
  (repeat' split) <;> simp [↓State.Keeps]

@[simp] theorem stitchTick_keeps (c : Nat) (s : State) : s.Keeps (stitchTick c s) := by
  unfold stitchTick; dsimp only; (repeat' split) <;> simp [↓State.Keeps]

@[simp] theorem State.handOut_keeps (s : State) (cell : U16) (n : Nat) :
    s.Keeps (s.handOut cell n) := by
  unfold State.handOut; split <;> simp [↓State.Keeps]

@[simp] theorem State.serveGet_keeps (s : State) (cell : U16) : s.Keeps (s.serveGet cell) := by
  unfold State.serveGet; dsimp only; (repeat' split) <;> simp [↓State.Keeps]

@[simp] theorem State.cellFail_keeps (s : State) (cell : U16) (cause : Nat) (detail : U32) :
    s.Keeps (s.cellFail cell cause detail) := by
  unfold State.cellFail; simp [↓State.Keeps]

@[simp] theorem dispatchGet_keeps (cell : U16) (s : State) : s.Keeps (dispatchGet cell s) := by
  unfold dispatchGet; simp [↓State.Keeps]

@[simp] theorem taskReadyHandout_keeps (n : Nat) (s : State) : s.Keeps (taskReadyHandout n s) := by
  unfold taskReadyHandout; (repeat' split) <;> simp [↓State.Keeps]

@[simp] theorem State.feedTasks_keeps (s : State) (t : Task) : s.Keeps (s.feedTasks t) := by
  unfold State.feedTasks; dsimp only; (repeat' split) <;> simp [↓State.Keeps]

@[simp] theorem taskEnd_keeps (n : Nat) (used : Nat) (how : RunEnd) (s : State) :
    s.Keeps (taskEnd n used how s) := by
  unfold taskEnd; (repeat' split) <;> simp [↓State.Keeps]

@[simp] theorem State.fenceDsp_keeps (s : State) (cell : U16) : s.Keeps (s.fenceDsp cell) := by
  unfold State.fenceDsp; dsimp only; (repeat' split) <;> simp [↓State.Keeps]

@[simp] theorem doKernelLoad_keeps (k : Nat) (q : KernelReq) (s : State) :
    s.Keeps (doKernelLoad k q s) := by
  unfold doKernelLoad; simp [↓State.Keeps]

@[simp] theorem rowKernelLoad_keeps (q : KernelReq) : (rowKernelLoad q).Keeps := by
  intro c s; simp [rowKernelLoad, ↓State.Keeps]

@[simp] theorem rowKernelUnload_keeps (kernel : U16) : (rowKernelUnload kernel).Keeps := by
  intro c s; simp [rowKernelUnload, ↓State.Keeps]

@[simp] theorem rowKernelQuery_keeps (kernel : U16) : (rowKernelQuery kernel).Keeps := by
  intro c s; unfold rowKernelQuery; dsimp only; constructor <;> (repeat' split) <;> simp [↓State.Keeps]

@[simp] theorem rowTraceConfig_keeps (q : TraceReq) : (rowTraceConfig q).Keeps := by
  intro c s; simp [rowTraceConfig, ↓State.Keeps]

@[simp] theorem rowTraceRead_keeps (start : U64) (count : U32) :
    (rowTraceRead start count).Keeps := by
  intro c s; simp [rowTraceRead, ↓State.Keeps]

@[simp] theorem rowTraceQuery_keeps (block : U8) : (rowTraceQuery block).Keeps := by
  intro c s; simp [rowTraceQuery, ↓State.Keeps]

/-! ### Reset -/

@[simp] theorem State.l1Rule_keeps (s : State) : s.Keeps s.l1Rule := by
  unfold State.l1Rule; simp [↓State.Keeps]

@[simp] theorem State.adoptPending_keeps (s : State) : s.Keeps s.adoptPending := by
  unfold State.adoptPending; dsimp only; (repeat' split) <;> simp [↓State.Keeps]

@[simp] theorem State.takePolicy_keeps (s : State) : s.Keeps s.takePolicy := by
  unfold State.takePolicy; dsimp only; (repeat' split) <;> simp [↓State.Keeps]

@[simp] theorem State.bootStart_keeps (s : State) : s.Keeps s.bootStart := by
  unfold State.bootStart; simp [↓State.Keeps]

@[simp] theorem State.faultAll_keeps (s : State) : s.Keeps s.faultAll := by
  unfold State.faultAll; simp [↓State.Keeps]

@[simp] theorem resetNRelease_keeps (bootSrc : Bool) (twinSide : Bool) (mgmtAddr : BitVec 3) (s : State) :
    s.Keeps (resetNRelease bootSrc twinSide mgmtAddr s) := by
  unfold resetNRelease; simp [↓State.Keeps]

/-! ### Cells -/

@[simp] theorem State.modSpool_keeps (s : State) (n : Nat) (f : Spool → Spool) :
    s.Keeps (s.modSpool n f) := by
  unfold State.modSpool; simp [↓State.Keeps]

@[simp] theorem State.loseSpools_keeps (s : State) (i : U16) : s.Keeps (s.loseSpools i) := by
  unfold State.loseSpools; simp [↓State.Keeps]

@[simp] theorem State.modCell_keeps (s : State) (i : U16) (f : Cell → Cell) :
    s.Keeps (s.modCell i f) := by
  unfold State.modCell; simp [↓State.Keeps]

@[simp] theorem State.modBlock_keeps (s : State) (b : U16) (f : Block → Block) :
    s.Keeps (s.modBlock b f) := by
  unfold State.modBlock; simp [↓State.Keeps]

@[simp] theorem State.degrade_keeps (s : State) : s.Keeps s.degrade := by
  unfold State.degrade; simp [↓State.Keeps]

@[simp] theorem State.faultCommands_keeps (s : State) (region blk : Nat) : s.Keeps (s.faultCommands region blk) := by
  unfold State.faultCommands
  split
  · refine foldl_keeps (fun s p => ?_) _ s
    split <;> simp [↓State.Keeps]
  · split
    · extract_lets pass image saving format waits s1 s2 s3 s4 s5 done
      have h1 : s.Keeps s1 := by dsimp only [s1, format]; split <;> simp [↓State.Keeps]
      have h2 : s1.Keeps s2 := by simp [s2, ↓State.Keeps]
      have h3 : s2.Keeps s3 := by dsimp only [s3, pass]; split <;> simp [↓State.Keeps]
      have h4 : s3.Keeps s4 := by dsimp only [s4, image]; split <;> simp [↓State.Keeps]
      have h5 : s4.Keeps s5 := by dsimp only [s5, saving]; split <;> simp [↓State.Keeps]
      exact .trans h1 (.trans h2 (.trans h3 (.trans h4 (.trans h5 ⟨rfl, rfl, rfl⟩))))
    · exact .refl s

@[simp] theorem State.loseBlock_keeps (s : State) (region : Nat) (blk : Nat) :
    s.Keeps (s.loseBlock region blk) := by
  unfold State.loseBlock; split <;> simp [↓State.Keeps]

@[simp] theorem State.resetBlock_keeps (s : State) (b : U16) : s.Keeps (s.resetBlock b) := by
  unfold State.resetBlock; simp [↓State.Keeps]

@[simp] theorem State.claimStep_keeps (s : State) : s.Keeps s.claimStep := by
  unfold State.claimStep; simp [↓State.Keeps]

@[simp] theorem State.regionDone_keeps (s : State) (region : Nat) :
    s.Keeps (s.regionDone region) := by
  unfold State.regionDone; dsimp only; (repeat' split) <;> simp [↓State.Keeps]

@[simp] theorem State.compareFail_keeps (s : State) (cell : U16) (cause : U8) :
    s.Keeps (s.compareFail cell cause) := by
  unfold State.compareFail; (repeat' split) <;> simp [↓State.Keeps]

@[simp] theorem cellFaultDetect_keeps (cell : U16) (cause : U8) (detail : U32) (s : State) :
    s.Keeps (cellFaultDetect cell cause detail s) := by
  unfold cellFaultDetect; simp [↓State.Keeps]

@[simp] theorem State.selfTested_keeps (s : State) (b : U16) (failed : List Nat) :
    s.Keeps (s.selfTested b failed) := by
  unfold State.selfTested; simp [↓State.Keeps]

@[simp] theorem State.snagAct_keeps (s : State) (n : Nat) (q : Spool) (dropped : Nat) :
    s.Keeps (s.snagAct n q dropped) := by
  unfold State.snagAct; split <;> simp [↓State.Keeps]

@[simp] theorem State.mediaSnag_keeps (s : State) (n : Nat) (q : Spool) (dropped : Nat) :
    s.Keeps (s.mediaSnag n q dropped) := by
  unfold State.mediaSnag; simp [↓State.Keeps]

@[simp] theorem spoolRead_keeps (n : Nat) (s : State) : s.Keeps (spoolRead n s) := by
  unfold spoolRead; dsimp only; (repeat' split) <;> simp [↓State.Keeps]

/-! ### Viaduct -/

@[simp] theorem State.modChan_keeps (s : State) (c : Nat) (f : MemChan → MemChan) :
    s.Keeps (s.modChan c f) := by
  unfold State.modChan; simp [↓State.Keeps]

@[simp] theorem State.refill_keeps (s : State) (intervals : Nat) :
    s.Keeps (s.refill intervals) := by
  unfold State.refill; simp [↓State.Keeps]

@[simp] theorem State.send_keeps (s : State) (r : DramReq) : s.Keeps (s.send r) := by
  unfold State.send; simp [↓State.Keeps]

/-! ### Memory -/

@[simp] theorem State.memEvent_keeps (s : State) (kind : Nat) (channel : Nat) (pool : Nat) (a : Nat) :
    s.Keeps (s.memEvent kind channel pool a) := by
  unfold State.memEvent; simp [↓State.Keeps]

@[simp] theorem State.memFlush_keeps (s : State) : s.Keeps s.memFlush := by
  unfold State.memFlush; dsimp only; (repeat' split) <;> simp -implicitDefEqProofs [↓State.Keeps]

@[simp] theorem State.poisonTile_keeps (s : State) (a : Nat) : s.Keeps (s.poisonTile a) := by
  unfold State.poisonTile; simp [↓State.Keeps]

@[simp] theorem State.eccRead_keeps (s : State) (a : Nat) (ecc : EccResult) :
    s.Keeps (s.eccRead a ecc) := by
  unfold State.eccRead; split <;> simp [↓State.Keeps]

@[simp] theorem State.userPoison_keeps (s : State) (u : TileUse) (a : Nat) :
    s.Keeps (s.userPoison u a) := by
  unfold State.userPoison; split <;> simp [↓State.Keeps]

@[simp] theorem State.tellPoison_keeps (s : State) (u : TileUse) (a : Nat) :
    s.Keeps (s.tellPoison u a) := by
  unfold State.tellPoison; simp [↓State.Keeps]

@[simp] theorem mediaWrite_keeps (a : Nat) (last : Bool) (crc : U32) (cell : U16) (s : State) :
    s.Keeps (mediaWrite a last crc cell s) := by
  unfold mediaWrite; (repeat' split) <;> simp [↓State.Keeps]

@[simp] theorem tableWrite_keeps (a : Nat) (whole : Bool) (crcOk : Bool) (crc : U32) (cell : U16) (s : State) :
    s.Keeps (tableWrite a whole crcOk crc cell s) := by
  unfold tableWrite; simp [↓State.Keeps]

@[simp] theorem rowActivate_keeps (channel : Nat) (bank : Nat) (row : Nat) (s : State) :
    s.Keeps (rowActivate channel bank row s) := by
  unfold rowActivate; simp [↓State.Keeps]

@[simp] theorem rowMemConfig_keeps (actThreshold : U16) (patrolH : U8) (retrainMs : U16) :
    (rowMemConfig actThreshold patrolH retrainMs).Keeps := by
  intro c s; simp [rowMemConfig, ↓State.Keeps]

@[simp] theorem rowMemQuery_keeps (channel : U8) (clear : Bool) :
    (rowMemQuery channel clear).Keeps := by
  intro c s; simp [rowMemQuery, ↓State.Keeps]

@[simp] theorem rowMemMap_keeps : rowMemMap.Keeps := by
  intro c s; simp [rowMemMap, ↓State.Keeps]

@[simp] theorem rowMemWindow_keeps (m : Mbx) (q : WindowReq) : (rowMemWindow m q).Keeps := by
  intro c s; simp [rowMemWindow, ↓State.Keeps]

/-! ### Dma -/

@[simp] theorem State.modDma_keeps (s : State) (c : Fin 16) (f : Dma → Dma) :
    s.Keeps (s.modDma c f) := by
  unfold State.modDma; simp [↓State.Keeps]

@[simp] theorem State.dmaIrq_keeps (s : State) (c : Fin 16) (b : Nat) : s.Keeps (s.dmaIrq c b) := by
  unfold State.dmaIrq; simp [↓State.Keeps]

@[simp] theorem State.dmaHalt_keeps (s : State) (c : Fin 16) (e : DmaError) (a : Nat) (write : Bool) :
    s.Keeps (s.dmaHalt c e a write) := by
  unfold State.dmaHalt; simp [↓State.Keeps]

@[simp] theorem State.dmaRefuse_keeps (s : State) (c : Fin 16) (e : DmaError) :
    s.Keeps (s.dmaRefuse c e) := by
  unfold State.dmaRefuse; simp [↓State.Keeps]

@[simp] theorem State.dmaBegin_keeps (s : State) (c : Fin 16) (d : Desc) (ahead : List Desc) :
    s.Keeps (s.dmaBegin c d ahead) := by
  unfold State.dmaBegin; simp [↓State.Keeps]

@[simp] theorem State.dmaAt_keeps (s : State) (c : Fin 16) (a : U64) : s.Keeps (s.dmaAt c a) := by
  unfold State.dmaAt; (repeat' split) <;> simp [↓State.Keeps]

@[simp] theorem State.dmaLink_keeps (s : State) (c : Fin 16) (a : U64) :
    s.Keeps (s.dmaLink c a) := by
  unfold State.dmaLink; split <;> simp [↓State.Keeps]

@[simp] theorem State.dmaAccept_keeps (s : State) (c : Fin 16) : s.Keeps (s.dmaAccept c) := by
  unfold State.dmaAccept; simp [↓State.Keeps]

@[simp] theorem State.dmaTail_keeps (s : State) (c : Fin 16) (d : Desc) (stopping : Bool) :
    s.Keeps (s.dmaTail c d stopping) := by
  unfold State.dmaTail; dsimp only; (repeat' split) <;> simp [↓State.Keeps]

@[simp] theorem dmaStart_keeps (c : Fin 16) (s : State) : s.Keeps (dmaStart c s) := by
  unfold dmaStart; split <;> simp [↓State.Keeps]

@[simp] theorem dmaResume_keeps (c : Fin 16) (s : State) : s.Keeps (dmaResume c s) := by
  unfold dmaResume; split <;> simp [↓State.Keeps]

@[simp] theorem dmaStop_keeps (c : Fin 16) (s : State) : s.Keeps (dmaStop c s) := by
  unfold dmaStop; split <;> simp [↓State.Keeps]

@[simp] theorem dmaAppend_keeps (c : Fin 16) (s : State) : s.Keeps (dmaAppend c s) := by
  unfold dmaAppend; dsimp only; (repeat' split) <;> simp [↓State.Keeps]

@[simp] theorem haltVfs_keeps (s : State) : s.Keeps (haltVfs s) := by
  unfold haltVfs; simp [↓State.Keeps]

@[simp] theorem functionReset_keeps (fn : Fin 16) (s : State) : s.Keeps (functionReset fn s) := by
  unfold functionReset; dsimp only; (repeat' split) <;> simp -implicitDefEqProofs [↓State.Keeps]

@[simp] theorem vfCleared_keeps (s : State) : s.Keeps (vfCleared s) := by
  unfold vfCleared; simp [↓State.Keeps]

@[simp] theorem sendPending_keeps (s : State) (m : Mbx) (e : Fin 9) :
    s.Keeps (sendPending s m e) := by
  unfold sendPending; simp [↓State.Keeps]

@[simp] theorem registerWrite_keeps (reg : PlainReg) (part : RegPart) (v : U64) (s : State) :
    s.Keeps (registerWrite reg part v s) := by
  unfold registerWrite; split <;> simp [↓State.Keeps]

end Sys2Proof.Machine

end

section

namespace Sys2Proof.Machine
open Sys2Proof

/-! ### Images -/

@[simp] theorem State.commitAll_keeps (s : State) : s.Keeps s.commitAll := by
  unfold State.commitAll; simp [↓State.Keeps]

@[simp] theorem State.parkJournal_keeps (s : State) (byFlush : Bool) :
    s.Keeps (s.parkJournal byFlush) := by
  unfold State.parkJournal; simp [↓State.Keeps]

@[simp] theorem rowKeepImage_keeps (m : Mbx) (slot : U8) (image : PierImage) :
    (rowKeepImage m slot image).Keeps := by
  intro c s; simp [rowKeepImage, ↓State.Keeps]

@[simp] theorem commitTrial_keeps (s : State) : s.Keeps (commitTrial s) := by
  unfold commitTrial; simp [↓State.Keeps]

@[simp] theorem nameImage_keeps (b : Bool) (commitS : Option Nat) (s : State) :
    s.Keeps (nameImage b commitS s) := by
  unfold nameImage; simp [↓State.Keeps]

@[simp] theorem rowKeepActivate_keeps (m : Mbx) (mode : U8) (slot : U8) (force : Bool) (commitS : U32) :
    (rowKeepActivate m mode slot force commitS).Keeps := by
  intro c s; simp [rowKeepActivate, ↓State.Keeps]

@[simp] theorem rowKeepImages_keeps (m : Mbx) : (rowKeepImages m).Keeps := by
  intro c s; simp [rowKeepImages, ↓State.Keeps]

@[simp] theorem imageWritten_keeps (ok : Bool) (s : State) : s.Keeps (imageWritten ok s) := by
  unfold imageWritten; split <;> simp [↓State.Keeps]

@[simp] theorem policyWritten_keeps (ok : Bool) (s : State) : s.Keeps (policyWritten ok s) := by
  unfold policyWritten; split <;> simp [↓State.Keeps]

/-! ### Keystone -/

@[simp] theorem State.ksEvent_keeps (s : State) (kind : Nat) (rule : Nat) (conf : Nat) (detail : Nat) (media : Nat) :
    s.Keeps (s.ksEvent kind rule conf detail media) := by
  unfold State.ksEvent; simp [↓State.Keeps]

@[simp] theorem ksWriteReject_keeps (source : U16) (offset : U16) (s : State) :
    s.Keeps (ksWriteReject source offset s) := by
  unfold ksWriteReject; simp [↓State.Keeps]

@[simp] theorem rowKsStatus_keeps : rowKsStatus.Keeps := by
  intro c s; simp [rowKsStatus, ↓State.Keeps]

@[simp] theorem rowKsPropose_keeps (m : Mbx) (proposal : Option Proposal) :
    (rowKsPropose m proposal).Keeps := by
  intro c s; unfold rowKsPropose; dsimp only; constructor <;> (repeat' split) <;> simp [↓State.Keeps]

@[simp] theorem rowKsCert_keeps : rowKsCert.Keeps := by
  intro c s; unfold rowKsCert; dsimp only; constructor <;> (repeat' split) <;> simp [↓State.Keeps]

@[simp] theorem rowKsLog_keeps (first : U32) (count : U16) : (rowKsLog first count).Keeps := by
  intro c s; simp [rowKsLog, ↓State.Keeps]

@[simp] theorem rowKsPolicy_keeps (type : U8) : (rowKsPolicy type).Keeps := by
  intro c s; simp [rowKsPolicy, ↓State.Keeps]

@[simp] theorem keystoneRelease_keeps (s : State) : s.Keeps (keystoneRelease s) := by
  unfold keystoneRelease; simp [↓State.Keeps]

@[simp] theorem ruleOverlay_keeps (y : Nat) (s : State) : s.Keeps (ruleOverlay y s) := by
  unfold ruleOverlay; (repeat' split) <;> simp [↓State.Keeps]

@[simp] theorem State.toneStep_keeps (s : State) (c : Nat) (m : Nat) (n : Nat) (r : PolicyRule) :
    s.Keeps (s.toneStep c m n r) := by
  unfold State.toneStep; dsimp only; (repeat' split) <;> simp [↓State.Keeps]

@[simp] theorem noticeTone_keeps (c : Nat) (s : State) : s.Keeps (noticeTone c s) := by
  unfold noticeTone; split <;> simp [↓State.Keeps]

@[simp] theorem State.regate_keeps (s : State) : s.Keeps s.regate := by
  unfold State.regate; simp [↓State.Keeps]

@[simp] theorem State.powerNotice_keeps (s : State) (kind : Nat) (detail : Nat) :
    s.Keeps (s.powerNotice kind detail) := by
  unfold State.powerNotice; simp [↓State.Keeps]

@[simp] theorem State.sendFrame_keeps (s : State) (payload : Nat) :
    s.Keeps (s.sendFrame payload) := by
  unfold State.sendFrame; simp [↓State.Keeps]

@[simp] theorem State.decideLevel_keeps (s : State) : s.Keeps s.decideLevel := by
  unfold State.decideLevel; simp [↓State.Keeps]

@[simp] theorem State.ladder_keeps (s : State) (hot : Int) : s.Keeps (s.ladder hot) := by
  unfold State.ladder; simp [↓State.Keeps]

@[simp] theorem State.modKs_keeps (s : State) (f : Keystone → Keystone) : s.Keeps (s.modKs f) := by
  unfold State.modKs; simp [↓State.Keeps]

@[simp] theorem throttleChange_keeps (level : Nat) (s : State) :
    s.Keeps (throttleChange level s) := by
  unfold throttleChange; simp [↓State.Keeps]

@[simp] theorem throttleTimeout_keeps (s : State) : s.Keeps (throttleTimeout s) := by
  unfold throttleTimeout; simp [↓State.Keeps]

@[simp] theorem avsStep_keeps (r : Fin 2) (target : Nat) (ack : Bool) (s : State) :
    s.Keeps (avsStep r target ack s) := by
  unfold avsStep; simp [↓State.Keeps]

@[simp] theorem avsTimeout_keeps (r : Fin 2) (s : State) : s.Keeps (avsTimeout r s) := by
  unfold avsTimeout; simp [↓State.Keeps]

/-! ### Power -/

@[simp] theorem State.modDomain_keeps (s : State) (d : U16) (f : Domain → Domain) :
    s.Keeps (s.modDomain d f) := by
  unfold State.modDomain; simp [↓State.Keeps]

@[simp] theorem State.pictureUp_keeps (s : State) (d : U16) : s.Keeps (s.pictureUp d) := by
  unfold State.pictureUp; simp [↓State.Keeps]

@[simp] theorem State.domainUp_keeps (s : State) (d : U16) (failed : List U16) :
    s.Keeps (s.domainUp d failed) := by
  unfold State.domainUp; simp [↓State.Keeps]

@[simp] theorem State.raiseDomain_keeps (s : State) (d : U16) : s.Keeps (s.raiseDomain d) := by
  unfold State.raiseDomain; simp [↓State.Keeps]

@[simp] theorem State.gateDomain_keeps (s : State) (d : U16) : s.Keeps (s.gateDomain d) := by
  unfold State.gateDomain; simp [↓State.Keeps]

@[simp] theorem State.powerGate_keeps (s : State) (ds : List U16) : s.Keeps (s.powerGate ds) := by
  unfold State.powerGate; dsimp only; (repeat' split) <;> simp [↓State.Keeps]

@[simp] theorem State.startChange_keeps (s : State) (q : PwrReq) : s.Keeps (s.startChange q).1 := by
  unfold State.startChange; dsimp only; (repeat' split) <;> simp -implicitDefEqProofs [↓State.Keeps]

@[simp] theorem State.setPending_keeps (s : State) (q : PwrReq) : s.Keeps (s.setPending q) := by
  unfold State.setPending; (repeat' split) <;> simp [↓State.Keeps]

@[simp] theorem State.dropDomain_keeps (s : State) (d : U16) (voter : Option (Mbx × Nat)) :
    s.Keeps (s.dropDomain d voter) := by
  unfold State.dropDomain; simp [↓State.Keeps]

@[simp] theorem State.powerWatch_keeps (s : State) : s.Keeps s.powerWatch := by
  unfold State.powerWatch; simp [↓State.Keeps]

@[simp] theorem powerChangeDone_keeps (s : State) : s.Keeps (powerChangeDone s) := by
  unfold powerChangeDone; split <;> simp [↓State.Keeps]

@[simp] theorem pendingPowerStart_keeps (s : State) : s.Keeps (pendingPowerStart s) := by
  unfold pendingPowerStart; split <;> simp [↓State.Keeps]

@[simp] theorem wakeEvent_keeps (w : WakeSource) (s : State) : s.Keeps (wakeEvent w s) := by
  unfold wakeEvent; simp [↓State.Keeps]

@[simp] theorem wakeComplete_keeps (failed : List U16) (s : State) :
    s.Keeps (wakeComplete failed s) := by
  unfold wakeComplete; simp [↓State.Keeps]

@[simp] theorem wakeTrussTimeout_keeps (s : State) : s.Keeps (wakeTrussTimeout s) := by
  unfold wakeTrussTimeout; simp [↓State.Keeps]

@[simp] theorem parkWatch_keeps (s : State) : s.Keeps (parkWatch s) := by
  unfold parkWatch; simp [↓State.Keeps]

@[simp] theorem pfwAssert_keeps (s : State) : s.Keeps (pfwAssert s) := by
  unfold pfwAssert; simp [↓State.Keeps]

@[simp] theorem rideExpiry_keeps (s : State) : s.Keeps (rideExpiry s) := by
  unfold rideExpiry; simp [↓State.Keeps]

@[simp] theorem flush_keeps (s : State) : s.Keeps (flush s) := by
  unfold flush; simp [↓State.Keeps]

@[simp] theorem flushStart_keeps (s : State) : s.Keeps (flushStart s) := by
  unfold flushStart; simp [↓State.Keeps]

@[simp] theorem holdSample_keeps (s : State) (mV : Nat) : s.Keeps (holdSample s mV) := by
  unfold holdSample; simp [↓State.Keeps]

@[simp] theorem holdSense_keeps (samples : List Nat) (s : State) :
    s.Keeps (holdSense samples s) := by
  unfold holdSense; simp [↓State.Keeps]

@[simp] theorem pfwClear_keeps (s : State) : s.Keeps (pfwClear s) := by
  unfold pfwClear; dsimp only; (repeat' split) <;> simp [↓State.Keeps]

@[simp] theorem rowPowerState_keeps (m : Mbx) (state : U8) (quietPort : U8) (sound : U32) (picture : BitVec 14) (access : BitVec 2) :
    (rowPowerState m state quietPort sound picture access).Keeps := by
  intro c s; simp [rowPowerState, ↓State.Keeps]

@[simp] theorem setVote_keeps (s : State) (m : Mbx) (d : U16) (raise : Bool) :
    s.Keeps (setVote s m d raise) := by
  unfold setVote; simp [↓State.Keeps]

@[simp] theorem rowPowerVote_keeps (m : Mbx) (d : U16) (action : U8) :
    (rowPowerVote m d action).Keeps := by
  intro c s; unfold rowPowerVote; dsimp only; constructor <;> (repeat' split) <;> simp [↓State.Keeps]

@[simp] theorem doPowerSupply_keeps (rideMs : Nat) (flushMs : Nat) (holdMv : Nat) (s : State) :
    s.Keeps (doPowerSupply rideMs flushMs holdMv s) := by
  unfold doPowerSupply; simp [↓State.Keeps]

@[simp] theorem rowPowerSupply_keeps (m : Mbx) (rideMs : U8) (flushMs : U8) (holdMv : U16) :
    (rowPowerSupply m rideMs flushMs holdMv).Keeps := by
  intro c s; simp [rowPowerSupply, ↓State.Keeps]

@[simp] theorem doPowerThermal_keeps (l1 : Nat) (s : State) : s.Keeps (doPowerThermal l1 s) := by
  unfold doPowerThermal; simp [↓State.Keeps]

@[simp] theorem rowPowerThermal_keeps (m : Mbx) (l1 : U8) : (rowPowerThermal m l1).Keeps := by
  intro c s; simp [rowPowerThermal, ↓State.Keeps]

@[simp] theorem rowPowerQuery_keeps (d : U16) : (rowPowerQuery d).Keeps := by
  intro c s; simp [rowPowerQuery, ↓State.Keeps]

/-! ### Ptp -/

@[simp] theorem State.modPtp_keeps (s : State) (i : Nat) (f : PtpPort → PtpPort) :
    s.Keeps (s.modPtp i f) := by
  unfold State.modPtp; simp [↓State.Keeps]

@[simp] theorem State.loseMaster_keeps (s : State) (i : Nat) : s.Keeps (s.loseMaster i) := by
  unfold State.loseMaster; simp [↓State.Keeps]

@[simp] theorem State.ptpOff_keeps (s : State) (i : Nat) : s.Keeps (s.ptpOff i) := by
  unfold State.ptpOff; split <;> simp [↓State.Keeps]

@[simp] theorem State.ptpSend_keeps (s : State) (i : Nat) (body : Nat) (event : Bool) (kind : Nat) :
    s.Keeps (s.ptpSend i body event kind) := by
  unfold State.ptpSend; split <;> simp [↓State.Keeps]

@[simp] theorem State.ptpStamps_keeps (s : State) (p : Fin 2) : s.Keeps (s.ptpStamps p) := by
  unfold State.ptpStamps; simp [↓State.Keeps]

@[simp] theorem rowTimePtp_keeps (q : PtpReq) : (rowTimePtp q).Keeps := by
  intro c s; simp [rowTimePtp, ↓State.Keeps]

@[simp] theorem ptpMessage_keeps (i : Nat) (msg : PtpMsg) (s : State) :
    s.Keeps (ptpMessage i msg s) := by
  unfold ptpMessage; dsimp only; (repeat' split) <;> simp [↓State.Keeps]

@[simp] theorem ptpTimer_keeps (i : Nat) (kind : Fin 3) (s : State) :
    s.Keeps (ptpTimer i kind s) := by
  unfold ptpTimer; (repeat' split) <;> simp [↓State.Keeps]

@[simp] theorem announceTimeout_keeps (i : Nat) (s : State) : s.Keeps (announceTimeout i s) := by
  unfold announceTimeout; split <;> simp [↓State.Keeps]

/-! ### Patterns -/

@[simp] theorem State.rebuildLayout_keeps (s : State) (c : Nat) (startMedia : Nat) (y : Nat) (l : Layout) :
    s.Keeps (s.rebuildLayout c startMedia y l).1 := by
  unfold State.rebuildLayout; split <;> simp [↓State.Keeps]

@[simp] theorem State.rebuildConf_keeps (s : State) (nb : Nat) (p : PatConf) : s.Keeps (s.rebuildConf nb p) := by
  unfold State.rebuildConf
  extract_lets q c s1 _model s2 s3
  have h1 : s.Keeps s1 := doConfCreate_keeps ..
  have h2 : s1.Keeps s2 := ⟨rfl, rfl, rfl⟩
  have h3 : s2.Keeps s3 := foldl_keeps (fun s x => by
    dsimp only
    (repeat' split) <;> simp [↓State.Keeps]) _ _
  refine .trans (.trans h1 (.trans h2 h3)) (foldl_keeps (fun s y => ?_) _ _)
  have hlayout := s.rebuildLayout_keeps c q.startMedia y.1 y.2
  split
  · next h => rwa [h] at hlayout
  · next h =>
    rw [h] at hlayout
    refine .trans hlayout (foldl_keeps (fun s f => ?_) _ _)
    (repeat' split) <;> simp [↓State.Keeps]

@[simp] theorem State.rebuildConfs_keeps (s : State) (g : PatCfg) (nb : Nat) :
    s.Keeps (s.rebuildConfs g nb) := by
  unfold State.rebuildConfs; simp [↓State.Keeps]

@[simp] theorem State.restorePort_keeps (s : State) (g : PatCfg) (p : Fin 2) :
    s.Keeps (s.restorePort g p) := by
  unfold State.restorePort; dsimp only; (repeat' split) <;> simp [↓State.Keeps]

@[simp] theorem State.restoreBase_keeps (s : State) (b : Fin 4) (q : Bool × U8 × Nat) :
    s.Keeps (s.restoreBase b q) := by
  unfold State.restoreBase; simp [↓State.Keeps]

@[simp] theorem State.restoreAccess_keeps (s : State) (q : AccPort) (p : Fin 2) :
    s.Keeps (s.restoreAccess q p) := by
  unfold State.restoreAccess; dsimp only; (repeat' split) <;> simp [↓State.Keeps]

@[simp] theorem State.restoreClaims_keeps (s : State) (g : PatCfg) :
    s.Keeps (s.restoreClaims g) := by
  unfold State.restoreClaims; simp [↓State.Keeps]

@[simp] theorem State.restoreRest_keeps (s : State) (g : PatCfg) : s.Keeps (s.restoreRest g) := by
  unfold State.restoreRest; split <;> simp [↓State.Keeps]

@[simp] theorem State.restoreTwin_keeps (s : State) (g : PatCfg) (boot : Bool) :
    s.Keeps (s.restoreTwin g boot) := by
  unfold State.restoreTwin; simp [↓State.Keeps]

@[simp] theorem State.restoreCfg_keeps (s : State) (g : PatCfg) (nb : Nat) (boot : Bool) :
    s.Keeps (s.restoreCfg g nb boot) := by
  unfold State.restoreCfg; simp [↓State.Keeps]

@[simp] theorem State.launch_keeps (s : State) (c : PatChange) : s.Keeps (s.launch c) := by
  unfold State.launch; dsimp only; (repeat' split) <;> simp [↓State.Keeps]

@[simp] theorem State.applyPattern_keeps (s : State) (k : Seam) : s.Keeps (s.applyPattern k) := by
  unfold State.applyPattern; split <;> simp [↓State.Keeps]

@[simp] theorem participantConfirm_keeps (id : U16) (cell : U16) (refusal : Option U8) (s : State) :
    s.Keeps (participantConfirm id cell refusal s) := by
  unfold participantConfirm; dsimp only; (repeat' split) <;> simp [↓State.Keeps]

@[simp] theorem rowPatternSave_keeps (m : Mbx) (label : U32) : (rowPatternSave m label).Keeps := by
  intro c s; simp [rowPatternSave, ↓State.Keeps]

@[simp] theorem State.storeGen_keeps (s : State) (label : U32) (cfg : PatCfg) (sizeKib : Nat) (savedS : Nat) :
    s.Keeps (s.storeGen label cfg sizeKib savedS) := by
  unfold State.storeGen; dsimp only; (repeat' split) <;> simp [↓State.Keeps]

@[simp] theorem patternSaveDone_keeps (outcome : StoreEnd) (sizeKib : Nat) (s : State) :
    s.Keeps (patternSaveDone outcome sizeKib s) := by
  unfold patternSaveDone; (repeat' split) <;> simp [↓State.Keeps]

@[simp] theorem rowPatternApply_keeps (m : Mbx) (generation : U32) (force : Bool) (revertAfterS : U32) :
    (rowPatternApply m generation force revertAfterS).Keeps := by
  intro c s; simp [rowPatternApply, ↓State.Keeps]

@[simp] theorem rowPatternProve_keeps (m : Mbx) (generation : U32) :
    (rowPatternProve m generation).Keeps := by
  intro c s; simp [rowPatternProve, ↓State.Keeps]

@[simp] theorem rowPatternRevert_keeps (m : Mbx) (force : Bool) :
    (rowPatternRevert m force).Keeps := by
  intro c s; simp [rowPatternRevert, ↓State.Keeps]

@[simp] theorem rowPatternList_keeps : rowPatternList.Keeps := by
  intro c s; simp [rowPatternList, ↓State.Keeps]

@[simp] theorem revertAfter_keeps (s : State) : s.Keeps (revertAfter s) := by
  unfold revertAfter; split <;> simp [↓State.Keeps]

/-! ### Startup -/

@[simp] theorem bootSlot_keeps (b : Bool) (s : State) : s.Keeps (bootSlot b s) := by
  unfold bootSlot; simp [↓State.Keeps]

@[simp] theorem bootRecovery_keeps (s : State) : s.Keeps (bootRecovery s) := by
  unfold bootRecovery; simp [↓State.Keeps]

@[simp] theorem pierImageVerify_keeps (slotAOk : Bool) (slotBOk : Bool) (s : State) :
    s.Keeps (pierImageVerify slotAOk slotBOk s) := by
  unfold pierImageVerify; simp [↓State.Keeps]

@[simp] theorem trained_keeps (r : TrainingResult) (s : State) : s.Keeps (trained r s) := by
  unfold trained; simp [↓State.Keeps]

@[simp] theorem mailboxesReady_keeps (s : State) : s.Keeps (mailboxesReady s) := by
  unfold mailboxesReady; simp [↓State.Keeps]

@[simp] theorem skipGen_keeps (s : State) (g : Nat) : s.Keeps (skipGen s g) := by
  unfold skipGen; simp [↓State.Keeps]

@[simp] theorem bootGen_keeps (s : State) : s.Keeps (bootGen s).1 := by
  unfold bootGen; simp [↓State.Keeps]

@[simp] theorem bootPattern_keeps (damaged : List U32) (s : State) :
    s.Keeps (bootPattern damaged s) := by
  unfold bootPattern; simp [↓State.Keeps]

@[simp] theorem mediaReady_keeps (s : State) : s.Keeps (mediaReady s) := by
  unfold mediaReady; simp [↓State.Keeps]

/-! ### Apply -/

@[simp] theorem State.applyConf_keeps (s : State) (k : Seam) (c : Nat) :
    s.Keeps (s.applyConf k c) := by
  unfold State.applyConf; simp [↓State.Keeps]

@[simp] theorem State.applyLayout_keeps (s : State) (k : Seam) (y : Nat) :
    s.Keeps (s.applyLayout k y) := by
  unfold State.applyLayout; simp [↓State.Keeps]

@[simp] theorem State.applyNewFeed_keeps (s : State) (k : Seam) (f : Nat) :
    s.Keeps (s.applyNewFeed k f) := by
  unfold State.applyNewFeed; split <;> simp [↓State.Keeps]

@[simp] theorem State.applyToLayout_keeps (s : State) (k : Seam) (y : Nat) (c : LayoutChange) :
    s.Keeps (s.applyToLayout k y c) := by
  unfold State.applyToLayout; simp [↓State.Keeps]

@[simp] theorem State.applySubscribe_keeps (s : State) (k : Seam) (e : Nat) :
    s.Keeps (s.applySubscribe k e) := by
  unfold State.applySubscribe; split <;> simp [↓State.Keeps]

@[simp] theorem State.applyCmd_keeps (s : State) (k : Seam) (c : SeamCmd) :
    s.Keeps (s.applyCmd k c) := by
  unfold State.applyCmd; (repeat' split) <;> simp [↓State.Keeps]

@[simp] theorem State.seamApplied_keeps (s : State) (k : Seam) : s.Keeps (s.seamApplied k) := by
  unfold State.seamApplied; split <;> simp [↓State.Keeps]

@[simp] theorem seamBoundary_keeps (id : U16) (cell : U16) (s : State) :
    s.Keeps (seamBoundary id cell s) := by
  unfold seamBoundary; split <;> simp [↓State.Keeps]

/-! ### Mirror -/

@[simp] theorem State.bumpSeq_keeps (s : State) : s.Keeps s.bumpSeq := by
  unfold State.bumpSeq; simp [↓State.Keeps]

@[simp] theorem State.quietly_keeps {f : State → State} (h : ∀ s : State, s.Keeps (f s)) (s : State) : s.Keeps (s.quietly f) := by
  unfold State.quietly; simp [↓State.Keeps, h]

theorem rowOf_keeps {s : State} {i : Instr} {row : Row} (h : rowOf s i = some row) : row.Keeps := by
  unfold rowOf at h
  split at h <;> cases h <;> simp [↓Row.Keeps, ↓State.Keeps]
@[simp] theorem State.mirroredEffect_keeps (s : State) (version : U8) (i : Instr) : s.Keeps (s.mirroredEffect version i) := by
  unfold State.mirroredEffect
  split
  · simp [↓State.Keeps]
  · simp [↓State.Keeps]
  · split
    · exact .refl s
    · next row h =>
      have hrow := rowOf_keeps h
      dsimp only
      split
      · simp [↓State.Keeps]
      · exact .trans (by simp [↓State.Keeps]) (State.quietly_keeps (fun s => (hrow _ s).1) _)

@[simp] theorem State.trussIn_keeps (s : State) (h : TrussHdr) (hello : Bool) :
    s.Keeps (s.trussIn h hello).1 := by
  unfold State.trussIn; dsimp only; (repeat' split) <;> simp [↓State.Keeps]

@[simp] theorem State.onFrame_keeps {f : State → State} (hf : ∀ s : State, s.Keeps (f s)) (s : State) (h : TrussHdr) : s.Keeps (s.onFrame h f) := by
  unfold State.onFrame; dsimp only; split <;> simp [↓State.Keeps, hf]

@[simp] theorem State.pairFault_keeps (s : State) (cause : Nat) : s.Keeps (s.pairFault cause) := by
  unfold State.pairFault; simp [↓State.Keeps]

@[simp] theorem State.paired_keeps (s : State) : s.Keeps s.paired := by
  unfold State.paired; dsimp only; (repeat' split) <;> simp [↓State.Keeps]

@[simp] theorem State.hello_keeps (s : State) (b : TrussHelloBody) : s.Keeps (s.hello b) := by
  unfold State.hello; (repeat' split) <;> simp [↓State.Keeps]

@[simp] theorem State.seamMirrored_keeps (s : State) (id : U16) (owner : Mbx) (scope : Option Nat) (timeoutS : Nat) :
    s.Keeps (s.seamMirrored id owner scope timeoutS) := by
  unfold State.seamMirrored; simp [↓State.Keeps]

@[simp] theorem State.basteMirrored_keeps (s : State) (id : U16) (owner : Mbx) (version : U8) (i : Instr) : s.Keeps (s.basteMirrored id owner version i) := by
  unfold State.basteMirrored
  split
  · exact .refl s
  · next row h =>
    have hbaste := (rowOf_keeps h (mirroredCmd s row.opcode version id) s.bumpSeq).2
    dsimp only
    split
    · simp [↓State.Keeps]
    · refine .trans s.bumpSeq_keeps (.trans hbaste ?_)
      split <;> next h => simp [↓State.Keeps, h]

@[simp] theorem State.pierSeam_keeps (s : State) (id : U16) (pattern : Bool) (t : U64) (tNs : U32) (tChipNs : Nat) :
    s.Keeps (s.pierSeam id pattern t tNs tChipNs) := by
  unfold State.pierSeam; split <;> simp [↓State.Keeps]

@[simp] theorem State.seamItem_keeps (s : State) (id : U16) (item : SeamMirror) (i : Instr) :
    s.Keeps (s.seamItem id item i) := by
  unfold State.seamItem; (repeat' split) <;> simp [↓State.Keeps]

@[simp] theorem State.canonIn_keeps (s : State) (r : CanonRec) (f : RxFrame) :
    s.Keeps (s.canonIn r f) := by
  unfold State.canonIn; simp [↓State.Keeps]

@[simp] theorem State.canonRun_keeps (s : State) (x : CanonRec × RxFrame) :
    s.Keeps (s.canonRun x) := by
  unfold State.canonRun; simp [↓State.Keeps]

@[simp] theorem State.localEvent_keeps (s : State) (e : LocalEvent) : s.Keeps (s.localEvent e) := by
  unfold State.localEvent; split <;> simp [↓State.Keeps]

@[simp] theorem State.tickDecision_keeps (s : State) (tick : Nat) (end_ : U64) (events : List LocalEvent) :
    s.Keeps (s.tickDecision tick end_ events) := by
  unfold State.tickDecision; simp [↓State.Keeps]

@[simp] theorem State.pictureDecision_keeps (s : State) (encode : Bool) (i : Nat) (n : Nat) (repeated : Bool) (snag : Bool) :
    s.Keeps (s.pictureDecision encode i n repeated snag) := by
  unfold State.pictureDecision; simp [↓State.Keeps]

@[simp] theorem State.verdictIn_keeps (s : State) (y : Nat) (card : Bool) :
    s.Keeps (s.verdictIn y card) := by
  unfold State.verdictIn; split <;> simp [↓State.Keeps]

@[simp] theorem State.decisionIn_keeps (s : State) (d : DecisionRec) :
    s.Keeps (s.decisionIn d) := by
  unfold State.decisionIn; split <;> simp [↓State.Keeps]

@[simp] theorem State.ksItem_keeps (s : State) (k : KsMirror) : s.Keeps (s.ksItem k) := by
  unfold State.ksItem; split <;> simp [↓State.Keeps]

@[simp] theorem State.configItem_keeps (s : State) (k : ConfigItem) (i : Instr) :
    s.Keeps (s.configItem k i) := by
  unfold State.configItem; split <;> simp [↓State.Keeps]

@[simp] theorem State.replaceRoster_keeps (s : State) : s.Keeps s.replaceRoster := by
  unfold State.replaceRoster; simp [↓State.Keeps]

@[simp] theorem State.journalIn_keeps (s : State) (r : Nat) (content : Option Record) (rseq : U64) (epoch : U32) :
    s.Keeps (s.journalIn r content rseq epoch) := by
  unfold State.journalIn; simp [↓State.Keeps]

@[simp] theorem State.timeIn_keeps (s : State) (b : Fin 4) (adj : Int) (stepped : Option TimeVal) (value : TimeVal) (delayNs : Nat) :
    s.Keeps (s.timeIn b adj stepped value delayNs) := by
  unfold State.timeIn; (repeat' split) <;> simp [↓State.Keeps]

@[simp] theorem State.legItem_keeps (s : State) (l : Nat) (o : LegOffer) (active : Bool) (held : Bool) :
    s.Keeps (s.legItem l o active held) := by
  unfold State.legItem; simp [↓State.Keeps]

@[simp] theorem State.stateItem_keeps (s : State) (i : StateItem) : s.Keeps (s.stateItem i) := by
  unfold State.stateItem; (repeat' split) <;> simp [↓State.Keeps]

@[simp] theorem State.loadBase_keeps (s : State) (b : Fin 4) (v : TimeVal) :
    s.Keeps (s.loadBase b v) := by
  unfold State.loadBase; simp [↓State.Keeps]

@[simp] theorem State.dropForResync_keeps (s : State) (l : Nat) : s.Keeps (s.dropForResync l) := by
  unfold State.dropForResync; simp [↓State.Keeps]

@[simp] theorem trussHello_keeps (hdr : TrussHdr) (body : TrussHelloBody) (s : State) :
    s.Keeps (trussHello hdr body s) := by
  unfold trussHello; simp [↓State.Keeps]

@[simp] theorem trussConfig_keeps (hdr : TrussHdr) (item : ConfigItem) (cmd : Instr) (s : State) :
    s.Keeps (trussConfig hdr item cmd s) := by
  unfold trussConfig; split <;> simp [↓State.Keeps]

@[simp] theorem resyncEntry_keeps (tb0 tb3 : TimeVal) (s : State) : s.Keeps (resyncEntry tb0 tb3 s) := by
  unfold resyncEntry; split <;> simp -implicitDefEqProofs [↓State.Keeps]

@[simp] theorem resyncSnapshot_keeps (s : State) : s.Keeps (resyncSnapshot s) := by
  unfold resyncSnapshot; dsimp only; (repeat' split) <;> simp -implicitDefEqProofs [↓State.Keeps]

@[simp] theorem resyncComplete_keeps (s : State) : s.Keeps (resyncComplete s) := by
  unfold resyncComplete; simp [↓State.Keeps]

end Sys2Proof.Machine

end

section
/-! SUPPORT. What a reset and a DMA descriptor do to the queue and to the memories. -/

namespace Sys2Proof.Machine
open Sys2Proof

/-- A part of a step that may reset the device: the queue stays, device memory stays or is emptied, and host memory stays in canonical form. -/
structure State.MayWipe (s t : State) : Prop where
  pending : t.pending = s.pending
  dram : t.mem.dram = s.mem.dram ∨ t.mem.dram = []
  host : memWf 0 s.mem.host = true → memWf 0 t.mem.host = true

namespace State.MayWipe

theorem of_keeps {s t : State} (h : State.Keeps s t) : State.MayWipe s t := ⟨h.1, .inl h.2.1, fun k => h.2.2 ▸ k⟩

theorem refl (s : State) : State.MayWipe s s := of_keeps (.refl s)

theorem trans {s t u : State} (h : State.MayWipe s t) (k : State.MayWipe t u) : State.MayWipe s u :=
  ⟨k.pending.trans h.pending, k.dram.elim (fun e => e ▸ h.dram) .inr, fun w => k.host (h.host w)⟩

theorem before {s t u : State} (h : State.MayWipe s t) (k : State.Keeps t u) : State.MayWipe s u := h.trans (of_keeps k)

theorem after {s t u : State} (h : State.Keeps s t) (k : State.MayWipe t u) : State.MayWipe s u := (of_keeps h).trans k

theorem ite {s a b : State} (c : Prop) [Decidable c] (h : State.MayWipe s a) (k : State.MayWipe s b) : State.MayWipe s (if c then a else b) := by
  split <;> assumption

/-- The last thing a command does is `fin`. -/
theorem fin {s t : State} (h : State.MayWipe s t) : State.MayWipe s t.fin := h.before t.fin_keeps

end State.MayWipe

/-! ### Resets -/

theorem State.wiped_mayWipe (s : State) (cause outcome : Nat) : s.MayWipe (s.wiped cause outcome) := ⟨rfl, .inr rfl, s.landed_ok⟩

theorem State.deviceReset_mayWipe (s : State) (cause outcome : Nat) (r : Option FaultRec) : s.MayWipe (s.deviceReset cause outcome r) := by
  unfold State.deviceReset
  exact (State.MayWipe.after s.faultAll_keeps (State.wiped_mayWipe ..)).before (.trans (State.bootStart_keeps _) (State.writeFault_keeps ..))

theorem resetNAssert_mayWipe (lowNs : Nat) (s : State) : s.MayWipe (resetNAssert lowNs s) := by
  unfold resetNAssert
  extract_lets open_ resets s1
  have h1 : s.Keeps s1 := .ite _ ⟨rfl, rfl, rfl⟩ (.refl s)
  exact .after h1 (.ite _ (.refl s1) ((s1.wiped_mayWipe 1 3).before ⟨rfl, rfl, rfl⟩))

theorem liveInsertion_mayWipe (s : State) : s.MayWipe (liveInsertion s) := by
  unfold liveInsertion
  extract_lets s1
  exact (s.wiped_mayWipe _ 3).before (t := s1) ⟨rfl, rfl, rfl⟩

theorem storeFormatDone_mayWipe (s : State) : s.MayWipe (storeFormatDone s) := by
  unfold storeFormatDone
  split
  · exact .refl s
  · next m n _ =>
    extract_lets s1 s2
    have h2 : s.Keeps s2 := .trans (t := s1) (State.finish_keeps ..) (State.modKeep_keeps ..)
    have h3 : s2.Keeps { s2 with patt := {} } := ⟨rfl, rfl, rfl⟩
    exact .fin (.after (.trans h2 h3) (State.deviceReset_mayWipe ..))

theorem State.faultReset_mayWipe (s : State) (location : U16) (cause : Nat) (detail : U32) : s.MayWipe (s.faultReset location cause detail) := by
  unfold State.faultReset
  exact State.deviceReset_mayWipe ..

theorem activationReset_mayWipe (s : State) : s.MayWipe (activationReset s) := by
  unfold activationReset
  split
  · exact .refl s
  · extract_lets s1 s2 b s3
    have h1 : s.Keeps s1 := .trans (State.parkJournal_keeps ..) (State.fin_keeps _)
    have h2 : s1.Keeps s2 := .ite _ (State.modKeep_keeps ..) (.refl s1)
    exact .fin (.before (t := s3) (.after (.trans h1 h2) (State.deviceReset_mayWipe ..)) (State.modKeep_keeps ..))

theorem trialMediaTimeout_mayWipe (s : State) : s.MayWipe (trialMediaTimeout s) := by
  unfold trialMediaTimeout
  exact .ite _ (State.deviceReset_mayWipe ..).fin (.refl s)

theorem trialCommitTimeout_mayWipe (s : State) : s.MayWipe (trialCommitTimeout s) := by
  unfold trialCommitTimeout
  exact .ite _ (State.deviceReset_mayWipe ..).fin (.refl s)

theorem State.trip_mayWipe (s : State) (cause detail value : Nat) (thermal : Bool) : s.MayWipe (s.trip cause detail value thermal) := by
  unfold State.trip
  extract_lets s1 k s2
  exact .before (t := s2) (.after (State.ksLog_keeps ..) (State.wiped_mayWipe ..)) ⟨rfl, rfl, rfl⟩

theorem sensorRead_mayWipe (readings : List (Option Int)) (s : State) : s.MayWipe (sensorRead readings s) := by
  unfold sensorRead
  refine .ite _ (.refl s) ?_
  extract_lets vs fresh s1 ks s2 k good at_ limit cool hot h near s3 ks3
  have h2 : s.Keeps s2 := .trans (t := s1) (foldl_keeps (fun s i => State.ksLog_keeps ..) _ _) ⟨rfl, rfl, rfl⟩
  refine .after h2 (.ite _ (.of_keeps (.ite _ ⟨rfl, rfl, rfl⟩ (.refl s2))) ?_)
  have h3 : s2.Keeps s3 := .ite _ (State.ksEvent_keeps ..) (.refl s2)
  clear_value hot
  cases hot with
  | some i => exact (State.trip_mayWipe ..).before (State.modKs_keeps ..)
  | none => exact .ite _ ((State.trip_mayWipe ..).before (State.modKs_keeps ..)) (.fin (.of_keeps (.trans (.trans h3 ⟨rfl, rfl, rfl⟩) (State.ladder_keeps ..))))

theorem supplyTrip_mayWipe (r : Rail) (mV : Nat) (s : State) : s.MayWipe (supplyTrip r mV s) := by
  unfold supplyTrip
  exact .ite _ (.refl s) (.ite _ (.ite _ (.refl s) (.of_keeps ⟨rfl, rfl, rfl⟩)) (State.trip_mayWipe ..))

theorem tripClear_mayWipe (s : State) : s.MayWipe (tripClear s) := by
  unfold tripClear
  exact .ite _ (State.deviceReset_mayWipe ..).fin (.refl s)

theorem lockstep_mayWipe (s : State) : s.MayWipe (lockstep s) := by
  unfold lockstep
  exact .ite _ (.refl s) (.fin (.after (s.ksLog_keeps 3 0 0) (State.deviceReset_mayWipe ..)))

theorem flushPark_mayWipe (s : State) : s.MayWipe (flushPark s) := by
  unfold flushPark
  refine .ite _ (.refl s) (.before (t := (s.parkJournal true).wiped 5 3) (.after (s.parkJournal_keeps true) (State.wiped_mayWipe ..)) (.trans ?_ (parkWatch_keeps _)))
  exact ⟨rfl, rfl, rfl⟩

theorem parkExit_mayWipe (s : State) : s.MayWipe (parkExit s) := by
  unfold parkExit
  exact .ite _ (State.deviceReset_mayWipe ..).fin (.refl s)

theorem brownOut_mayWipe (loadMa us : Nat) (s : State) : s.MayWipe (brownOut loadMa us s) := by
  unfold brownOut
  exact .ite _ (.fin (.before (State.deviceReset_mayWipe ..) (State.ksLog_keeps ..))) (.refl s)

/-! ### Faults, which may end in a reset -/

theorem State.chipLevel_mayWipe (s : State) (region cause : Nat) (detail : U32) (fromLevel : Nat) :
    s.MayWipe (s.chipLevel region cause detail fromLevel) := by
  unfold State.chipLevel
  extract_lets s1 hit seams live s2 regions s3
  have h2 : s1.Keeps s2 := foldl_keeps (fun s b => s.resetBlock_keeps _) _ _
  have h3 : s2.Keeps s3 := ⟨rfl, rfl, rfl⟩
  exact .after s.claimStep_keeps (.ite _ (State.faultReset_mayWipe ..) (.of_keeps (.trans (.trans h2 h3) (.ite _ (State.faultRec_keeps ..) (.refl s3)))))

theorem State.blockFault_mayWipe (s : State) (b : U16) (cause : Nat) (detail : U32) : s.MayWipe (s.blockFault b cause detail) := by
  unfold State.blockFault
  exact .ite _ (.refl s) (.after (State.faultRec_keeps ..) (.ite _ (State.chipLevel_mayWipe ..) (.of_keeps (State.modBlock_keeps ..))))

theorem State.fence_mayWipe (s : State) (i : U16) (cause : Nat) (detail : U32) : s.MayWipe (s.fence i cause detail) := by
  unfold State.fence
  refine .ite _ (.refl s) ?_
  extract_lets seams fences s1 s2 s3 s4 s5 s6 s7 s8 s9
  have h2 : s.Keeps s2 := .trans (t := s1) (State.modCell_keeps ..) (.ite _ (State.fenceDsp_keeps ..) (.refl s1))
  have h4 : s2.Keeps s4 := .trans (t := s3) (.trans (State.loseSpools_keeps ..) (State.modVia_keeps ..)) (State.modBlock_keeps ..)
  have h6 : s4.Keeps s6 := .trans (t := s5) (State.faultSeams_keeps ..) (State.faultRec_keeps ..)
  have h7 : s6.Keeps s7 := .ite _ (.trans (State.modCell_keeps ..) (.trans (State.journal_keeps ..) (State.faultRec_keeps ..))) (.refl s6)
  have h9 : s7.Keeps s9 := .trans (t := s8) s7.degrade_keeps (.ite _ (State.leaveSync_keeps ..) (.refl s8))
  exact .after (.trans h2 (.trans h4 (.trans h6 (.trans h7 h9)))) (.ite _ (State.blockFault_mayWipe ..) (.refl s9))

theorem cellRetryResult_mayWipe (cell : U16) (ok : Bool) (s : State) : s.MayWipe (cellRetryResult cell ok s) := by
  unfold cellRetryResult
  split
  · exact .refl s
  · exact .ite _ (.fin (.of_keeps (by split <;> simp [↓State.Keeps]))) (State.fence_mayWipe ..).fin

theorem unpickAckTimeout_mayWipe (cell : U16) (s : State) : s.MayWipe (unpickAckTimeout cell s) := by
  unfold unpickAckTimeout
  refine .ite _ (.fin (.after ?_ (State.fence_mayWipe ..))) (.refl s)
  exact ⟨rfl, rfl, rfl⟩

theorem boundExpired_mayWipe (i : U16) (s : State) : s.MayWipe (boundExpired i s) := by
  unfold boundExpired
  refine .ite _ (.ite _ (State.fence_mayWipe ..).fin (.refl s)) (.ite _ (State.chipLevel_mayWipe ..).fin ?_)
  split
  · exact .ite _ (.fin (.after (State.modBlock_keeps ..) (State.blockFault_mayWipe ..))) (.refl s)
  · exact .refl s

theorem blockSelfTest_mayWipe (b : U16) (failed : List Nat) (pass : Bool) (s : State) : s.MayWipe (blockSelfTest b failed pass s) := by
  unfold blockSelfTest
  refine .ite _ (.refl s) (.ite _ (.fin (.of_keeps ?_)) (.fin (.after ?_ (.ite _ (.of_keeps (State.regionDone_keeps ..)) (State.chipLevel_mayWipe ..)))))
  · (repeat' split) <;> simp [↓State.Keeps]
  · simp [↓State.Keeps]

theorem chipFault_mayWipe (region cause detail : Nat) (s : State) : s.MayWipe (chipFault region cause detail s) := by
  unfold chipFault
  exact .ite _ (.refl s) (State.chipLevel_mayWipe ..).fin

theorem arbiterFault_mayWipe (i : U16) (level : Nat) (s : State) : s.MayWipe (arbiterFault i level s) := by
  unfold arbiterFault
  split
  · exact (State.blockFault_mayWipe ..).fin
  · exact .ite _ (.refl s) (State.chipLevel_mayWipe ..).fin
  · exact .fin (.after s.claimStep_keeps (State.faultReset_mayWipe ..))
  · exact .refl s

theorem regionTimeout_mayWipe (region : Nat) (s : State) : s.MayWipe (regionTimeout region s) := by
  unfold regionTimeout
  split
  · exact .ite _ (State.faultReset_mayWipe ..).fin (.refl s)
  · exact .refl s

theorem State.spanFault_mayWipe (s : State) (span : Nat) (dieCrossing toRegion : Bool) (target : U16) (cause : Nat) :
    s.MayWipe (s.spanFault span dieCrossing toRegion target cause) := by
  unfold State.spanFault
  exact .ite _ (State.blockFault_mayWipe ..).fin (chipFault_mayWipe ..)

theorem spanFlitError_mayWipe (span : Nat) (dieCrossing toRegion resent : Bool) (target : U16) (s : State) :
    s.MayWipe (spanFlitError span dieCrossing toRegion resent target s) := by
  unfold spanFlitError
  refine .ite _ (.ite _ (State.spanFault_mayWipe ..) (.refl s)) (.ite _ (.after ?_ (State.spanFault_mayWipe ..)) (.of_keeps ⟨rfl, rfl, rfl⟩))
  exact ⟨rfl, rfl, rfl⟩

theorem lengthUnfilled_mayWipe (n : Nat) (s : State) : s.MayWipe (lengthUnfilled n s) := by
  unfold lengthUnfilled
  exact .ite _ (.fin (.after (State.modSpool_keeps ..) (State.fence_mayWipe ..))) (.refl s)

/-! ### Memory requests, whose reads may find an uncorrectable error -/

theorem readTile_mayWipe (a : Nat) (ecc : EccResult) (crcOk : Bool) (user : TileUse) (s : State) : s.MayWipe (readTile a ecc crcOk user s) := by
  unfold readTile
  refine .after (s.eccRead_keeps a ecc) (.ite _ (State.chipLevel_mayWipe ..).fin (.fin (.of_keeps ?_)))
  (repeat' split) <;> simp [↓State.Keeps]

theorem DramReq.act_mayWipe (r : DramReq) (s : State) : s.MayWipe (r.act s) := by
  unfold DramReq.act
  split
  · exact readTile_mayWipe ..
  · exact .of_keeps (tableWrite_keeps ..)

theorem State.completed_mayWipe (s : State) (c : Nat) : s.MayWipe (s.completed c) := by
  unfold State.completed
  dsimp only
  split
  · exact .refl s
  · exact .after (State.modChan_keeps ..) (DramReq.act_mayWipe ..)

theorem State.channelTurn_mayWipe {s t : State} {c : Nat} (h : s.channelTurn c = some t) : s.MayWipe t := by
  unfold State.channelTurn at h
  dsimp only at h
  split at h
  · cases h
    exact s.completed_mayWipe c
  · split at h
    · split at h <;> cases h
      · exact .after (State.modChan_keeps ..) (DramReq.act_mayWipe ..)
      · exact .of_keeps (State.modChan_keeps ..)
    · simp only [Option.map_eq_some_iff] at h
      obtain ⟨b, -, rfl⟩ := h
      exact .of_keeps (State.modChan_keeps ..)

theorem State.fabricTurn_mayWipe {s t : State} (h : s.fabricTurn = some t) : s.MayWipe t := by
  unfold State.fabricTurn at h
  dsimp only at h
  split at h
  · cases h
    exact .of_keeps (State.send_keeps ..)
  · split at h
    · next hf =>
      cases h
      obtain ⟨c, -, hc⟩ := List.exists_of_findSome?_eq_some hf
      exact State.channelTurn_mayWipe hc
    · split at h <;> cases h
      exact .of_keeps (State.refill_keeps ..)

theorem State.fabricRun_mayWipe (n : Nat) (s : State) : s.MayWipe (State.fabricRun n s) := by
  induction n generalizing s with
  | zero => exact .refl s
  | succ n ih =>
    unfold State.fabricRun
    split
    · next t h => exact (State.fabricTurn_mayWipe h).trans (ih t)
    · exact .refl s

theorem State.fabricDrain_mayWipe (s : State) : s.MayWipe s.fabricDrain := State.fabricRun_mayWipe _ s

theorem State.request_mayWipe (s : State) (addr : Nat) (op : DramOp) (path : DramPath) : s.MayWipe (s.request addr op path) := by
  unfold State.request
  refine .ite _ (.refl s) ?_
  extract_lets s1 bytes r s2
  have h2 : s.Keeps s2 := .trans (t := s1) (.ite _ (State.refill_keeps ..) (.refl s)) (State.modVia_keeps ..)
  exact .after h2 (.ite _ (.refl s2) s2.fabricDrain_mayWipe)

theorem drainDone_mayWipe (b : U16) (s : State) : s.MayWipe (drainDone b s) := by
  unfold drainDone
  refine .ite _ (.refl s) (.fin (.before (.after ?_ (State.fabricDrain_mayWipe _)) (State.resetBlock_keeps ..)))
  exact ⟨rfl, rfl, rfl⟩

theorem patrolRead_mayWipe (channel a : Nat) (ecc : EccResult) (crcOk : Bool) (s : State) : s.MayWipe (patrolRead channel a ecc crcOk s) := by
  unfold patrolRead
  refine .ite _ (.refl s) ?_
  extract_lets s1 next s2
  have h2 : s.Keeps s2 := .trans (t := s1) (s.eccRead_keeps a ecc) (by simp only [s2, State.modMem]; split <;> exact ⟨rfl, rfl, rfl⟩)
  exact .after h2 (.ite _ (State.chipLevel_mayWipe ..).fin (.fin (.of_keeps (.ite _ (State.poisonTile_keeps ..) (.refl s2)))))

theorem retrain_mayWipe (channel : Nat) (tempC : Int) (marginOk : Bool) (s : State) : s.MayWipe (retrain channel tempC marginOk s) := by
  unfold retrain
  refine .ite _ (.refl s) ?_
  extract_lets s1 s2
  have h2 : s.Keeps s1 := State.modChan_keeps ..
  exact .after h2 (.ite _ (.refl s1) (.after (State.memEvent_keeps ..) (.fin (.ite _ (State.blockFault_mayWipe ..) (.refl s2)))))

end Sys2Proof.Machine

end

section
/-! SUPPORT. What a step does to the queue and to the memories; O2, O4, O5 and O7. -/

namespace Sys2Proof.Machine
open Sys2Proof

/-- A part of a step that may move bytes: the queue stays, and both memories stay in canonical form. -/
structure State.MayMove (s t : State) : Prop where
  pending : t.pending = s.pending
  wf : s.mem.wf = true → t.mem.wf = true

theorem Memory.wf_iff (m : Memory) : m.wf = true ↔ memWf 0 m.dram = true ∧ memWf 0 m.host = true := by
  simp [Memory.wf]

namespace State.MayMove

theorem of_mayWipe {s t : State} (h : State.MayWipe s t) : State.MayMove s t := by
  refine ⟨h.pending, fun w => ?_⟩
  obtain ⟨wd, wh⟩ := (Memory.wf_iff _).mp w
  refine (Memory.wf_iff _).mpr ⟨?_, h.host wh⟩
  rcases h.dram with e | e
  · rwa [e]
  · rw [e]; rfl

theorem of_keeps {s t : State} (h : State.Keeps s t) : State.MayMove s t := of_mayWipe (.of_keeps h)

theorem refl (s : State) : State.MayMove s s := of_keeps (.refl s)

theorem trans {s t u : State} (h : State.MayMove s t) (k : State.MayMove t u) : State.MayMove s u :=
  ⟨k.pending.trans h.pending, fun w => k.wf (h.wf w)⟩

theorem before {s t u : State} (h : State.MayMove s t) (k : State.Keeps t u) : State.MayMove s u := h.trans (of_keeps k)

end State.MayMove

/-! ### DMA -/

theorem State.landPosted_mayWipe (s : State) : s.MayWipe s.landPosted := ⟨rfl, .inl rfl, s.landed_ok⟩

theorem State.dmaPut_mayMove (s : State) (a : Nat) (b : Bytes) : s.MayMove (s.dmaPut a b) := by
  unfold State.dmaPut
  split
  · refine .trans (t := if s.postedAll.isEmpty then s else s.landPosted) (.of_mayWipe (.ite _ (.refl s) s.landPosted_mayWipe)) ⟨rfl, fun w => ?_⟩
    obtain ⟨wd, wh⟩ := (Memory.wf_iff _).mp w
    exact (Memory.wf_iff _).mpr ⟨wd, memWf_put wh _ b⟩
  · refine ⟨rfl, fun w => ?_⟩
    obtain ⟨wd, wh⟩ := (Memory.wf_iff _).mp w
    exact (Memory.wf_iff _).mpr ⟨memWf_put wd a b, wh⟩

theorem State.copied_mayMove (s : State) (d : Desc) (n : Nat) : s.MayMove (s.copied d n) := by
  unfold State.copied
  exact State.dmaPut_mayMove ..

theorem State.dmaData_mayMove (s : State) (c : Fin 16) (d : Desc) : s.MayMove (s.dmaData c d).1 := by
  unfold State.dmaData
  dsimp only
  (repeat' split) <;> exact State.copied_mayMove ..

theorem State.dmaCrc_mayMove (s : State) (c : Fin 16) (d : Desc) (v : U32) : s.MayMove (s.dmaCrc c d v).1 := by
  unfold State.dmaCrc
  (repeat' split)
  · exact .refl s
  · exact .refl s
  · exact State.dmaPut_mayMove ..

theorem State.dmaDone_mayMove (s : State) (c : Fin 16) (d : Desc) : s.MayMove (s.dmaDone c d).1 := by
  unfold State.dmaDone
  (repeat' split)
  · exact .refl s
  · exact .refl s
  · exact State.dmaPut_mayMove ..

theorem dmaDescriptorDone_mayMove (c : Fin 16) (s : State) : s.MayMove (dmaDescriptorDone c s) := by
  unfold dmaDescriptorDone
  dsimp only
  split
  · exact .refl s
  · next d _ =>
    split
    · exact .refl s
    · have hdata := s.dmaData_mayMove c d
      split
      · next h => rw [h] at hdata; exact hdata.before (State.dmaHalt_keeps ..)
      · next s1 h =>
        rw [h] at hdata
        refine hdata.trans ?_
        have hcrc := s1.dmaCrc_mayMove c d (crc32c (s.dmaBytes d.src.toNat d.count.toNat))
        split
        · next h => rw [h] at hcrc; exact hcrc.before (State.dmaHalt_keeps ..)
        · next s2 h =>
          rw [h] at hcrc
          refine hcrc.trans ?_
          have hdone := s2.dmaDone_mayMove c d
          split
          · next h => rw [h] at hdone; exact hdone.before (State.dmaHalt_keeps ..)
          · next s3 h =>
            rw [h] at hdone
            refine hdone.before ?_
            (repeat' split) <;> simp [↓State.Keeps]

theorem State.MayMove.dmaHalt {s t : State} (h : s.MayMove t) (c : Fin 16) (e : DmaError) (a : Nat) (write : Bool) : s.MayMove (t.dmaHalt c e a write) :=
  h.before (State.dmaHalt_keeps ..)

theorem dmaError_mayMove (c : Fin 16) (e : DmaError) (a : Nat) (write : Bool) (s : State) : s.MayMove (dmaError c e a write s) := by
  unfold dmaError
  dsimp only
  (repeat' split) <;> simp [State.MayMove.refl, State.MayMove.dmaHalt, State.copied_mayMove]

/-! ### Every command -/

theorem pledom_keeps {i : Instr} {m : Mbx} {row : Row} (h : pledom i = some (m, row)) : row.Keeps := by
  cases i <;> cases h <;> simp [↓Row.Keeps, ↓State.Keeps]

theorem exec_keeps {i : Instr} {s t : State} (h : exec i s = .next t) (hd : dmaWrites i = false) (hr : mayReset i = false) : s.Keeps t := by
  cases hp : pledom i with
  | some p =>
    obtain ⟨m, row⟩ := p
    rw [exec_of_pledom hp] at h
    cases h
    exact State.run_keeps (pledom_keeps hp) s m
  | none =>
    cases i <;> cases hp <;> cases hd <;> cases hr <;> cases h <;> simp [↓State.Keeps]

theorem exec_mayWipe {i : Instr} {s t : State} (h : exec i s = .next t) (hr : mayReset i = true) : s.MayWipe t := by
  cases i with
  | activationReset => cases h; exact activationReset_mayWipe s
  | arbiterFault island level => cases h; exact arbiterFault_mayWipe ..
  | blockMemParity block address => cases h; exact (State.blockFault_mayWipe ..).fin
  | blockSelfTestDone block failed pass => cases h; exact blockSelfTest_mayWipe ..
  | boundExpired island => cases h; exact boundExpired_mayWipe ..
  | brownOut loadMa us => cases h; exact brownOut_mayWipe ..
  | cellRetryResult cell ok => cases h; exact cellRetryResult_mayWipe ..
  | cellSilent cell => cases h; exact (State.fence_mayWipe ..).fin
  | chipFault region cause detail => cases h; exact chipFault_mayWipe ..
  | dramRead addr ecc crcOk user path => cases h; exact State.request_mayWipe ..
  | flushPark => cases h; exact flushPark_mayWipe s
  | keystoneSensorRead readings => cases h; exact sensorRead_mayWipe ..
  | lengthUnfilled spool => cases h; exact lengthUnfilled_mayWipe ..
  | liveInsertion => cases h; exact liveInsertion_mayWipe s
  | lockstepMismatch => cases h; exact lockstep_mayWipe s
  | parkExit => cases h; exact parkExit_mayWipe s
  | patrolRead channel addr ecc crcOk => cases h; exact patrolRead_mayWipe ..
  | periodicRetrain channel tempC marginOk => cases h; exact retrain_mayWipe ..
  | regionBlockDrainDone block => cases h; exact drainDone_mayWipe ..
  | regionRecoveryTimeout region => cases h; exact regionTimeout_mayWipe ..
  | resetNAssert lowNs => cases h; exact resetNAssert_mayWipe ..
  | spanFlitError span dieCrossing toRegion resent target => cases h; exact spanFlitError_mayWipe ..
  | spanWatchdog span dieCrossing toRegion target => cases h; exact State.spanFault_mayWipe ..
  | storeFormatDone => cases h; exact storeFormatDone_mayWipe s
  | supplyTrip rail mV => cases h; exact supplyTrip_mayWipe ..
  | tableTileWrite addr whole crcOk crc path => cases h; exact .ite _ (State.request_mayWipe ..) (.refl s)
  | trialCommitTimeout => cases h; exact trialCommitTimeout_mayWipe s
  | trialMediaTimeout => cases h; exact trialMediaTimeout_mayWipe s
  | tripClear => cases h; exact tripClear_mayWipe s
  | unpickAckTimeout cell => cases h; exact unpickAckTimeout_mayWipe ..
  | _ => cases hr

theorem exec_mayMove_of_dmaWrites {i : Instr} {s t : State} (h : exec i s = .next t) (hd : dmaWrites i = true) : s.MayMove t := by
  cases i with
  | dmaDescriptorDone ch => cases h; exact dmaDescriptorDone_mayMove ch s
  | dmaHalt ch err addr write => cases h; exact dmaError_mayMove ..
  | _ => cases hd

theorem exec_mayMove {i : Instr} {s t : State} (h : exec i s = .next t) : s.MayMove t := by
  cases hd : dmaWrites i with
  | true => exact exec_mayMove_of_dmaWrites h hd
  | false =>
    cases hr : mayReset i with
    | true => exact .of_mayWipe (exec_mayWipe h hr)
    | false => exact .of_keeps (exec_keeps h hd hr)

theorem State.tick_keeps (s : State) : s.Keeps s.tick := by
  unfold State.tick
  simp [↓State.Keeps]

theorem step_mayMove {s t : State} (h : step s = .next t) : s.popped.MayMove t := by
  cases hp : s.pending with
  | nil =>
    rw [step_of_empty hp] at h
    cases h
    refine ⟨?_, (State.MayMove.of_keeps s.tick_keeps).wf⟩
    rw [s.tick_keeps.1, State.popped, hp]
    rfl
  | cons i rest =>
    rw [step_of_front hp] at h
    exact exec_mayMove h

/-- Settles O2: no part of a step but a DMA write and a reset touches a memory, and both keep its form. -/
theorem memoryFormKept : Obligations.MemoryFormKept :=
  fun _ _ hs h => (step_mayMove h).wf hs

/-- Settles O4: a tick leaves the queue, and a row without its command leaves the state. -/
theorem nothingToDoChangesOnlyTime : Obligations.NothingToDoChangesOnlyTime := by
  refine ⟨fun s h => ⟨step_of_empty h, ?_⟩, fun i m row s hi hc => ?_⟩
  · rw [s.tick_keeps.1, h]
  · rw [exec_of_pledom hi, State.run_of_none_ready hc]

/-- Settles O5: no command touches the queue, and the step itself takes its front. -/
theorem queueLosesItsFront : Obligations.QueueLosesItsFront :=
  fun _ _ h => (step_mayMove h).pending

/-- Settles O7: a command that is neither a DMA write nor a reset keeps both memories. -/
theorem bytesOnlyDmaWrites : Obligations.BytesOnlyDmaWrites := by
  refine ⟨fun i s t h hd => ⟨fun hr a => ?_, fun hr a => ?_, fun hr => (exec_mayWipe h hr).dram⟩, fun s cause outcome => ⟨rfl, rfl⟩⟩
  · rw [(exec_keeps h hd hr).2.2]
  · rw [(exec_keeps h hd hr).2.1]

end Sys2Proof.Machine

end

section
/-! O13: a completion whose reply buffer met a DMA error. -/

namespace Sys2Proof.Machine
open Sys2Proof

/-- A command whose reply buffer met a DMA error (03 R81). -/
def replyErrorCmd : Cmd :=
  { seq := 1, bufErr := 2, stage := .ready, fromReserve := false
    hdr := { opcode := 2, version := 0x32, indirect := true, fence := false, tag := 7, seam := 0xFFFF, length := 32, reqAddr := 0, reqLen := 0, replyLen := 4096, replyAddr := 0, arg := 0 } }

/-- Refutes O13: a reply of more than 24 bytes whose reply buffer met a DMA error is answered FAULT (03 R81), and the obligation does not exclude it. -/
theorem not_completionWritesOneEntry : ¬ Obligations.CompletionWritesOneEntry := by
  unfold Obligations.CompletionWritesOneEntry
  intro h
  obtain ⟨hring, -⟩ := h State.reset 0 replyErrorCmd (Rep.ok (List.replicate 25 0)) rfl rfl (by decide +kernel) rfl
  exact absurd (congrArg (·.map (·.status)) hring) (by decide +kernel)

end Sys2Proof.Machine

end

section
/-! O15: what a time base counts (09 R243, R246). -/

namespace Sys2Proof.Machine
open Sys2Proof

/-- A base's value is read back modulo the span of its seconds counter: no fraction is lost. -/
theorem TimeBase.units_at (b : TimeBase) (u : Nat) : (b.at_ u).units = u % (18446744073709551616 * secUnits) := by
  simp only [TimeBase.units, TimeBase.at_, TimeBase.sub, secUnits, BitVec.toNat_ofNat]
  omega

/-- A base holds its value only modulo the span of its seconds counter. -/
theorem TimeBase.at_mod (b : TimeBase) (u v : Nat) : b.at_ (u % (18446744073709551616 * secUnits) + v) = b.at_ (u + v) := by
  have hsec : BitVec.ofNat 64 ((u % (18446744073709551616 * secUnits) + v) / secUnits) = BitVec.ofNat 64 ((u + v) / secUnits) := by
    apply BitVec.eq_of_toNat_eq
    simp only [BitVec.toNat_ofNat, secUnits]
    omega
  have hsub : (u % (18446744073709551616 * secUnits) + v) % secUnits = (u + v) % secUnits := by
    simp only [secUnits]
    omega
  have hfrac : (u % (18446744073709551616 * secUnits) + v) % 4294967296 = (u + v) % 4294967296 := by
    simp only [secUnits]
    omega
  simp only [TimeBase.at_, hsec, hsub, hfrac]

theorem TimeBase.tick_of_enabled {b : TimeBase} (h : b.enabled = true) (n : Nat) : b.tick n = b.at_ (b.units + n * b.inc) := if_pos h

theorem TimeBase.tick_of_disabled {b : TimeBase} (h : b.enabled = false) (n : Nat) : b.tick n = b := by
  simp [TimeBase.tick, h]

theorem TimeBase.inc_at (b : TimeBase) (u : Nat) : (b.at_ u).inc = b.inc := by
  unfold TimeBase.at_
  rfl

theorem TimeBase.at_at (b : TimeBase) (u v : Nat) : (b.at_ u).at_ v = b.at_ v := by
  unfold TimeBase.at_
  rfl

theorem TimeBase.enabled_at (b : TimeBase) (u : Nat) : (b.at_ u).enabled = b.enabled := by
  unfold TimeBase.at_
  rfl

theorem TimeBase.tick_tick (b : TimeBase) (j k : Nat) : (b.tick j).tick k = b.tick (j + k) := by
  cases h : b.enabled with
  | false => rw [TimeBase.tick_of_disabled h, TimeBase.tick_of_disabled h, TimeBase.tick_of_disabled h]
  | true =>
    have hat : (b.at_ (b.units + j * b.inc)).enabled = true := (b.enabled_at _).trans h
    rw [TimeBase.tick_of_enabled h, TimeBase.tick_of_enabled hat, TimeBase.tick_of_enabled h, TimeBase.units_at, TimeBase.inc_at, TimeBase.at_at,
      TimeBase.at_mod, Nat.add_mul, Nat.add_assoc]

/-- A rate correction of at most 500 ppm fits the increment register. -/
theorem TimeBase.inc_rate (b : TimeBase) {adj : Int} (hl : -32768000 ≤ adj) (hh : adj ≤ 32768000) : ((b.rate adj).inc : Int) = rateInc adj := by
  have hpos : 0 ≤ rateInc adj ∧ rateInc adj < 1099511627776 := by
    simp only [rateInc]
    omega
  generalize hr : rateInc adj = r at hpos
  simp only [TimeBase.inc, TimeBase.rate, hr, BitVec.toNat_ofNat]
  omega

/-- The correction is rounded to the nearest unit. -/
theorem rateInc_near (adj : Int) :
    -32768000000 ≤ 65536000000 * (rateInc adj - 13743895347) - 13743895347 * adj ∧
    65536000000 * (rateInc adj - 13743895347) - 13743895347 * adj ≤ 32768000000 := by
  simp only [rateInc]
  omega

/-- Settles O15: a base is a counter of units, read back whole after every tick. -/
theorem timeBasesCountExactly : Obligations.TimeBasesCountExactly := by
  intro b _
  refine ⟨fun n h => ?_, b.tick_tick, fun n h => TimeBase.tick_of_disabled h n, fun adj hl hh => ⟨rfl, rfl, ?_⟩⟩
  · rw [TimeBase.tick_of_enabled h, TimeBase.units_at]
  · rw [TimeBase.inc_rate b hl hh]
    exact rateInc_near adj

end Sys2Proof.Machine

end

section
/-! O17, O18: network commands stay in their interface; aged frames leave from the head. -/

namespace Sys2Proof.Machine
open Sys2Proof

/-! ### Addresses and routes (09 R238) -/

/-- Interfaces i and j keep their addresses in different tables. -/
def TablesApart (i j : Nat) : Prop := j ≠ i ∧ (j < 8 ∨ i < 8 ∨ fin2 j ≠ fin2 i)

theorem State.modIface_iface_ne (s : State) {i j : Nat} (h : j ≠ i) (f : Iface → Iface) : (s.modIface i f).iface j = s.iface j :=
  tget_tmod_ne s.net.ifaces h f

theorem State.modAcc_accPort_ne (s : State) {p q : Fin 2} (h : q ≠ p) (f : AccPort → AccPort) : (s.modAcc p f).accPort q = s.accPort q := by
  unfold State.modAcc State.accPort
  exact Vector.getElem_set_ne (xs := s.acc.ports) p.isLt q.isLt (fun e => h (Fin.ext e.symm))

theorem State.addrsOf_modIface (s : State) {i j : Nat} (h : TablesApart i j) (f : Iface → Iface) : (s.modIface i f).addrsOf j = s.addrsOf j := by
  unfold State.addrsOf
  rw [s.modIface_iface_ne h.1]
  rfl

theorem State.addrsOf_modAcc (s : State) {i j : Nat} (hi : ¬ i < 8) (h : TablesApart i j) (f : AccPort → AccPort) :
    (s.modAcc (fin2 i) f).addrsOf j = s.addrsOf j := by
  unfold State.addrsOf
  by_cases hj : j < 8
  · rw [if_pos hj, if_pos hj]
    rfl
  · have hp : fin2 j ≠ fin2 i := by
      rcases h.2 with h | h | h
      · exact absurd h hj
      · exact absurd h hi
      · exact h
    rw [if_neg hj, if_neg hj, s.modAcc_accPort_ne hp]

theorem State.addrsOf_setAddrs (s : State) {i j : Nat} (h : TablesApart i j) (l : List (U8 × U128 × Nat)) : (s.setAddrs i l).addrsOf j = s.addrsOf j := by
  unfold State.setAddrs
  split
  · exact s.addrsOf_modIface h _
  · next hi => exact s.addrsOf_modAcc hi h _

theorem State.addrsOf_setRoutes (s : State) {i j : Nat} (h : TablesApart i j) (l : List Route) : (s.setRoutes i l).addrsOf j = s.addrsOf j := by
  unfold State.setRoutes
  split
  · exact s.addrsOf_modIface h _
  · next hi => exact s.addrsOf_modAcc hi h _

theorem State.setAddrs_net_acc (s : State) (i : Nat) (l : List (U8 × U128 × Nat)) : ∃ net acc, s.setAddrs i l = { s with net, acc } := by
  unfold State.setAddrs
  split <;> exact ⟨_, _, rfl⟩

theorem State.setRoutes_net_acc (s : State) (i : Nat) (l : List Route) : ∃ net acc, s.setRoutes i l = { s with net, acc } := by
  unfold State.setRoutes
  split <;> exact ⟨_, _, rfl⟩

theorem doNetAddr_of_kind_one (iface mode af n : U8) (a : U128) (s : State) :
    ∃ l, doNetAddr iface 1 mode af a n s = s.setAddrs iface.toNat l := ⟨_, rfl⟩

theorem doNetRoute_eq (iface mode af n : U8) (a gw : U128) (s : State) :
    ∃ l, doNetRoute iface mode af n a gw s = s.setRoutes iface.toNat l := ⟨_, rfl⟩

/-- Settles O17: both commands replace one interface's table. -/
theorem netChangesStayInTheirInterface : Obligations.NetChangesStayInTheirInterface := by
  intro s iface kind mode af n a gw j hj hapart hkind
  subst hkind
  obtain ⟨l, ha⟩ := doNetAddr_of_kind_one iface mode af n a s
  obtain ⟨r, hr⟩ := doNetRoute_eq iface mode af n a gw s
  rw [ha, hr]
  exact ⟨s.setAddrs_net_acc _ l, s.addrsOf_setAddrs ⟨hj, hapart⟩ l, s.setRoutes_net_acc _ r, s.addrsOf_setRoutes ⟨hj, hapart⟩ r⟩

/-! ### Frames too old (10 R258) -/

theorem State.modLegQ_legQ (s : State) (l : Nat) (f : LegQ → LegQ) : (s.modLegQ l f).legQ l = f (s.legQ l) := by
  unfold State.modLegQ State.legQ State.modNet
  simp [tget_tput]

theorem State.dropHead_aged_legQ (s : State) (l : Nat) :
    (s.dropHead l (fun q => { q with qdropAge := q.qdropAge + 1 })).legQ l =
      { s.legQ l with qdropAge := (s.legQ l).qdropAge + 1, frames := (s.legQ l).frames.drop 1, tag := none } := by
  rw [State.dropHead, State.modLegQ_legQ]

theorem State.dropAged_legQ (s : State) (l n : Nat) :
    (∃ k, ((s.dropAged l n).legQ l).frames = (s.legQ l).frames.drop k) ∧
    ((s.legQ l).frames.length ≤ n → ∀ f rest, ((s.dropAged l n).legQ l).frames = f :: rest → s.chipNs ≤ f.stampNs + (s.legQ l).sojournMs * 1000000) := by
  induction n generalizing s with
  | zero =>
    refine ⟨⟨0, rfl⟩, fun hn f rest h => ?_⟩
    rw [show (s.dropAged l 0) = s from rfl, List.length_eq_zero_iff.mp (Nat.le_zero.mp hn)] at h
    cases h
  | succ n ih =>
    unfold State.dropAged
    split
    · next f rest hf =>
      split
      · obtain ⟨⟨k, hk⟩, hhead⟩ := ih (s.dropHead l (fun q => { q with qdropAge := q.qdropAge + 1 }))
        rw [State.dropHead_aged_legQ] at hk hhead
        refine ⟨⟨k + 1, ?_⟩, fun hn => ?_⟩
        · rw [hk, List.drop_drop, Nat.add_comm]
        · exact hhead (by simpa [hf] using hn)
      · next hold =>
        refine ⟨⟨0, rfl⟩, fun _ g rest' h => ?_⟩
        rw [hf] at h
        cases h
        omega
    · next hf =>
      refine ⟨⟨0, rfl⟩, fun _ g rest' h => ?_⟩
      rw [hf] at h
      cases h

/-- Settles O18: frames leave one by one from the head, as many as stand there at most. -/
theorem agedFramesLeaveFromTheHead : Obligations.AgedFramesLeaveFromTheHead := by
  intro s t l h _
  cases h
  obtain ⟨hdrop, hhead⟩ := s.dropAged_legQ l (s.legQ l).frames.length
  exact ⟨hdrop, hhead (Nat.le_refl _)⟩

end Sys2Proof.Machine

end

section
/-! O22, O23: gain steps and speaker selection. -/

namespace Sys2Proof.Machine
open Sys2Proof

/-! ### Gain steps (05 R145) -/

theorem Gain.cur_step (g : Gain) (t : Nat) : (g.step t).cur = (g.cur.1 + clampInt (-4) 4 (g.target - g.cur.1), g.muteTarget) := by
  simp [Gain.step, Gain.cur]

theorem Gain.target_step (g : Gain) (t : Nat) : (g.step t).target = g.target := rfl

/-- A step goes at most 4 eighths. -/
theorem Gain.natAbs_cur_step_sub (g : Gain) (t : Nat) : ((g.step t).cur.1 - g.cur.1).natAbs ≤ 4 := by
  rw [Gain.cur_step, clampInt]
  omega

/-- A step takes 4 eighths off the way to the target, or what is left of it. -/
theorem Gain.natAbs_target_sub_cur_step (g : Gain) (t : Nat) :
    ((g.step t).target - (g.step t).cur.1).natAbs = (g.target - g.cur.1).natAbs - 4 := by
  rw [Gain.cur_step, Gain.target_step, clampInt]
  omega

theorem Gain.due_step (g : Gain) (t : Nat) : (g.step t).due = if (g.step t).cur.1 = g.target then none else some (t + 1) := by
  rw [Gain.cur_step]
  rfl

theorem Gain.iterate_step_reaches (g : Gain) (t n : Nat) :
    ((fun h : Gain => h.step t)^[n] g).cur.1 = g.target ↔ (g.target - g.cur.1).natAbs ≤ 4 * n := by
  induction n generalizing g with
  | zero =>
    rw [Function.iterate_zero_apply]
    omega
  | succ n ih =>
    have hfirst := ih (g.step t)
    rw [Gain.natAbs_target_sub_cur_step, Gain.target_step] at hfirst
    rw [Function.iterate_succ_apply, hfirst]
    omega

/-- Settles O22: each step takes up to 4 eighths off the way that is left. -/
theorem gainStepsReachTheirTarget : Obligations.GainStepsReachTheirTarget :=
  fun g t => ⟨g.natAbs_cur_step_sub t, g.natAbs_target_sub_cur_step t, by rw [Gain.cur_step], rfl, g.due_step t, g.iterate_step_reaches t⟩

/-! ### Speaker selection (05 R134) -/

/-- A speaker's selection state over one window. -/
def selWindow (loud : Bool) (x : SelState × Nat × Nat × Bool) : SelState × Nat × Nat × Bool := selStep x.1 x.2.1 x.2.2.1 loud

theorem selWindow_loud_iterate (attack release n : Nat) (h : 0 < n) :
    (selWindow true)^[n] (.quiet, attack, release, false) = (.contending, min n 30, release, false) := by
  induction n with
  | zero => omega
  | succ n ih =>
    rw [Function.iterate_succ_apply']
    rcases Nat.eq_zero_or_pos n with rfl | hn
    · rfl
    · rw [ih hn]
      simp only [selWindow, selStep, Prod.mk.injEq, true_and, and_true]
      omega

theorem selWindow_quiet_iterate (attack release n : Nat) (h : 0 < n) (hn : n < 80) :
    (selWindow false)^[n] (.speaking, attack, release, false) = (.releasing, attack, n, false) := by
  induction n with
  | zero => omega
  | succ n ih =>
    rw [Function.iterate_succ_apply']
    rcases Nat.eq_zero_or_pos n with rfl | hpos
    · rfl
    · rw [ih hpos (by omega)]
      simp [selWindow, selStep, show ¬ 80 ≤ n + 1 by omega]

/-- Settles O23: ATTACK counts loud windows up to 30, RELEASE quiet ones up to the 80th. -/
theorem speakerSelectionTakesItsWindows : Obligations.SpeakerSelectionTakesItsWindows := by
  refine ⟨fun attack release n h => selWindow_loud_iterate attack release n h, fun attack release => rfl,
    fun attack release n h hn => ⟨selWindow_quiet_iterate attack release n h hn, rfl⟩, fun attack release => ?_⟩
  change (selWindow false)^[79 + 1] _ = _
  rw [Function.iterate_succ_apply', selWindow_quiet_iterate attack release 79 (by omega) (by omega)]
  rfl

end Sys2Proof.Machine

end

section
/-! O29, O30, O32, O36: the allocation of a line, output numbers, a conference's settings, the bandwidth map. -/

namespace Sys2Proof.Machine
open Sys2Proof

/-! ### Sums and sorted lists -/

theorem total_eq_sum {α : Type} (l : List α) (f : α → Nat) : total l f = (l.map f).sum := by
  rw [total, List.sum_eq_foldl, List.foldl_map]

theorem insertBy_perm {α : Type} (le : α → α → Bool) (a : α) (l : List α) : (insertBy le a l).Perm (a :: l) := by
  induction l with
  | nil => exact .refl _
  | cons b l ih =>
    unfold insertBy
    split
    · exact .refl _
    · exact (ih.cons b).trans (.swap a b l)

theorem sortBy_perm {α : Type} (le : α → α → Bool) (l : List α) : (sortBy le l).Perm l := by
  induction l with
  | nil => exact .refl _
  | cons a l ih => exact (insertBy_perm le a _).trans (ih.cons a)

/-! ### The allocation (08 R213) -/

/-- The rates that a list of bids holds, as the remainder counts them. -/
def heldRate (l : List Bid) : Int := (total l Bid.rate : Nat)

theorem heldRate_nil : heldRate [] = 0 := rfl

theorem heldRate_cons (b : Bid) (l : List Bid) : heldRate (b :: l) = b.rate + heldRate l := by
  simp [heldRate, total_eq_sum]

theorem Bid.rate_of_idle {b : Bid} (h : b.held = none) : b.rate = 0 := by
  simp [Bid.rate, h]

theorem heldRate_of_idle {l : List Bid} (h : ∀ b ∈ l, b.held = none) : heldRate l = 0 := by
  induction l with
  | nil => rfl
  | cons b l ih =>
    rw [List.forall_mem_cons] at h
    rw [heldRate_cons, Bid.rate_of_idle h.1, ih h.2]
    rfl

/-- A bid that moved to a combination of its own list, if it moved. -/
structure Bid.Moved (b c : Bid) : Prop where
  entry : c.entry = b.entry
  priority : c.priority = b.priority
  trans : c.trans = b.trans
  combos : c.combos = b.combos
  held : (∀ k, b.held = some k → k < b.combos.length) → ∀ k, c.held = some k → k < c.combos.length

theorem Bid.Moved.refl (b : Bid) : b.Moved b := ⟨rfl, rfl, rfl, rfl, id⟩

theorem Bid.Moved.stop (b : Bid) : b.Moved { b with stopped := true } := ⟨rfl, rfl, rfl, rfl, id⟩

theorem Bid.Moved.to {b : Bid} {k : Nat} (h : k < b.combos.length) : b.Moved { b with held := some k } :=
  ⟨rfl, rfl, rfl, rfl, fun _ j hj => by cases hj; exact h⟩

theorem Bid.Moved.step {b c d : Bid} (h : b.Moved c) (k : c.Moved d) : b.Moved d :=
  ⟨k.entry.trans h.entry, k.priority.trans h.priority, k.trans.trans h.trans, k.combos.trans h.combos, fun w => k.held (h.held w)⟩

theorem takeLowest_moved (l : List Bid) (r : Int) : List.Forall₂ Bid.Moved l (takeLowest l r).1 := by
  induction l generalizing r with
  | nil => exact .nil
  | cons b l ih =>
    unfold takeLowest
    split
    · next hc =>
      split
      · exact .cons (.to (by simp [hc])) (ih _)
      · exact .cons (.refl b) (ih _)
    · exact .cons (.refl b) (ih _)

theorem stepRound_moved (l : List Bid) (r : Int) : List.Forall₂ Bid.Moved l (stepRound l r).1 := by
  induction l generalizing r with
  | nil => exact .nil
  | cons b l ih =>
    unfold stepRound
    split
    · split
      · next hc =>
        split
        · exact .cons (.to (List.getElem?_eq_some_iff.mp hc).1) (ih _)
        · exact .cons (.stop b) (ih _)
      · exact .cons (.stop b) (ih _)
    · exact .cons (.refl b) (ih _)

theorem forall₂_moved_trans {l m n : List Bid} (h : List.Forall₂ Bid.Moved l m) (k : List.Forall₂ Bid.Moved m n) : List.Forall₂ Bid.Moved l n := by
  induction h generalizing n with
  | nil => exact k
  | cons hb _ ih =>
    cases k with
    | cons kb kl => exact .cons (hb.step kb) (ih kl)

theorem stepRounds_moved (n : Nat) (x : List Bid × Int) : List.Forall₂ Bid.Moved x.1 (stepRounds n x).1 := by
  induction n generalizing x with
  | zero => exact List.forall₂_same.mpr (fun b _ => .refl b)
  | succ n ih => exact forall₂_moved_trans (stepRound_moved x.1 x.2) (ih _)

/-- What the lowest combinations take comes out of the remainder, which stays above 0. -/
theorem takeLowest_budget {l : List Bid} (h : ∀ b ∈ l, b.held = none) {r : Int} (hr : 0 ≤ r) :
    heldRate (takeLowest l r).1 + (takeLowest l r).2 = r ∧ 0 ≤ (takeLowest l r).2 := by
  induction l generalizing r with
  | nil => exact ⟨by simp [takeLowest, heldRate_nil], hr⟩
  | cons b l ih =>
    rw [List.forall_mem_cons] at h
    obtain ⟨hb, hl⟩ := h
    unfold takeLowest
    split
    · next c rest hc =>
      split
      · next hfit =>
        obtain ⟨hsum, hpos⟩ := ih hl (r := r - c.2) (by omega)
        have hrate : Bid.rate { b with held := some 0 } = c.2 := by simp [Bid.rate, hc]
        dsimp only
        rw [heldRate_cons, hrate]
        omega
      · obtain ⟨hsum, hpos⟩ := ih hl hr
        dsimp only
        rw [heldRate_cons, Bid.rate_of_idle hb]
        omega
    · obtain ⟨hsum, hpos⟩ := ih hl hr
      dsimp only
      rw [heldRate_cons, Bid.rate_of_idle hb]
      omega

/-- What a round adds comes out of the remainder, which stays above 0. -/
theorem stepRound_budget (l : List Bid) {r : Int} (hr : 0 ≤ r) :
    heldRate (stepRound l r).1 + (stepRound l r).2 = heldRate l + r ∧ 0 ≤ (stepRound l r).2 := by
  induction l generalizing r with
  | nil => exact ⟨rfl, hr⟩
  | cons b l ih =>
    have hstay : ∀ c : Bid, c.rate = b.rate →
        heldRate (c :: (stepRound l r).1) + (stepRound l r).2 = heldRate (b :: l) + r ∧ 0 ≤ (stepRound l r).2 := fun c hc => by
      obtain ⟨hsum, hpos⟩ := ih hr
      rw [heldRate_cons, heldRate_cons, hc]
      omega
    unfold stepRound
    split
    · next k _ =>
      split
      · next c hc =>
        split
        · next hfit =>
          obtain ⟨hsum, hpos⟩ := ih (r := r - ((c.2 : Int) - b.rate)) (by omega)
          have hrate : Bid.rate { b with held := some (k + 1) } = c.2 := by simp [Bid.rate, hc]
          dsimp only
          rw [heldRate_cons, heldRate_cons, hrate]
          omega
        · exact hstay _ rfl
      · exact hstay _ rfl
    · exact hstay b rfl

theorem stepRounds_budget (n : Nat) (x : List Bid × Int) (hr : 0 ≤ x.2) :
    heldRate (stepRounds n x).1 + (stepRounds n x).2 = heldRate x.1 + x.2 ∧ 0 ≤ (stepRounds n x).2 := by
  induction n generalizing x with
  | zero => exact ⟨rfl, hr⟩
  | succ n ih =>
    obtain ⟨hsum, hpos⟩ := stepRound_budget x.1 hr
    obtain ⟨hsum', hpos'⟩ := ih (stepRound x.1 x.2) hpos
    exact ⟨hsum'.trans hsum, hpos'⟩

/-- Without a remainder nothing is taken. -/
theorem takeLowest_of_neg {l : List Bid} {r : Int} (hr : r < 0) : takeLowest l r = (l, r) := by
  induction l with
  | nil => rfl
  | cons b l ih =>
    unfold takeLowest
    split
    · next c _ _ => simp [ih, show ¬ (c.2 : Int) ≤ r by omega]
    · simp [ih]

theorem stepRound_of_idle {l : List Bid} (h : ∀ b ∈ l, b.held = none) (r : Int) : stepRound l r = (l, r) := by
  induction l with
  | nil => rfl
  | cons b l ih =>
    rw [List.forall_mem_cons] at h
    simp [stepRound, h.1, ih h.2]

theorem stepRounds_of_idle {l : List Bid} (h : ∀ b ∈ l, b.held = none) (n : Nat) (r : Int) : stepRounds n (l, r) = (l, r) := by
  induction n with
  | zero => rfl
  | succ n ih => rw [stepRounds, stepRound_of_idle h, ih]

/-- The rounds from idle bids hold no more than the remainder they start from. -/
theorem heldRate_rounds_le {l : List Bid} (h : ∀ b ∈ l, b.held = none) (r : Int) : heldRate (stepRounds 9 (takeLowest l r)).1 ≤ max 0 r := by
  rcases lt_or_ge r 0 with hr | hr
  · rw [takeLowest_of_neg hr, stepRounds_of_idle h, heldRate_of_idle h]
    exact le_max_left ..
  · obtain ⟨hsum, hpos⟩ := takeLowest_budget h hr
    obtain ⟨hsum', hpos'⟩ := stepRounds_budget 9 _ hpos
    omega

/-- The forwarding bids in the order in which they are served. -/
def bidOrder (bids : List Bid) : List Bid :=
  sortBy (fun (a b : Bid) => decide (b.priority < a.priority) || (a.priority == b.priority && decide (a.entry ≤ b.entry))) (bids.filter (fun b => !b.trans))

theorem allocate_eq (v : Int) (bids : List Bid) (w : Nat) :
    allocate v bids w = if v ≤ 0 then bidOrder bids else
      (stepRounds 9 (takeLowest (bidOrder bids) ((v - (total (bids.filter (·.trans)) (fun b => shareOf v b.priority w) : Nat)) * 1000))).1 := rfl

theorem mem_bidOrder {bids : List Bid} {b : Bid} : b ∈ bidOrder bids ↔ b ∈ bids ∧ b.trans = false := by
  rw [bidOrder, (sortBy_perm _ _).mem_iff]
  simp

theorem allocate_moved (v : Int) (bids : List Bid) (w : Nat) : List.Forall₂ Bid.Moved (bidOrder bids) (allocate v bids w) := by
  rw [allocate_eq]
  split
  · exact List.forall₂_same.mpr (fun b _ => .refl b)
  · exact forall₂_moved_trans (takeLowest_moved ..) (stepRounds_moved ..)

/-- Settles O29: what the entries hold comes out of the remainder, and an entry only moves along its own list. -/
theorem allocationStaysInTheBudget : Obligations.AllocationStaysInTheBudget := by
  intro v bids w hidle
  have horder : ∀ b ∈ bidOrder bids, b.held = none := fun b hb => hidle b (mem_bidOrder.mp hb).1
  have hmoved := allocate_moved v bids w
  refine ⟨?_, fun c hc => ?_, ?_⟩
  · change heldRate (allocate v bids w) ≤ _
    rw [allocate_eq]
    split
    · rw [heldRate_of_idle horder]
      exact le_max_left ..
    · exact heldRate_rounds_le horder _
  · obtain ⟨b, hb, hm⟩ : ∃ b ∈ bidOrder bids, b.Moved c := by
      obtain ⟨i, hi, rfl⟩ := List.getElem_of_mem hc
      have hi' : i < (bidOrder bids).length := hmoved.length_eq ▸ hi
      exact ⟨_, List.getElem_mem hi', hmoved.get hi' hi⟩
    obtain ⟨hbids, htrans⟩ := mem_bidOrder.mp hb
    exact ⟨hm.trans.trans htrans, hm.held (fun k hk => by rw [horder b hb] at hk; cases hk), b, hbids, hm.entry.symm, hm.priority.symm, hm.combos.symm⟩
  · rw [← hmoved.length_eq]
    exact (sortBy_perm _ _).length_eq

/-! ### Output numbers (08 R217) -/

/-- The number that the next packet in order would take. -/
def Numbering.next (n : Numbering) : U16 := n.high + 1 + n.seqOff - n.dropped

theorem Numbering.take_in_order (n : Numbering) (h : n.restart = false) (selected : Bool) :
    (n.take (n.high + 1) selected).1.restart = false ∧ (n.take (n.high + 1) selected).1.high = n.high + 1 ∧
    (n.take (n.high + 1) selected).1.next = n.next + (if selected then 1 else 0) ∧
    (n.take (n.high + 1) selected).2.1 = if selected then some n.next else none := by
  have hd : (n.high + 1 - n.high).toInt = 1 := by
    rw [show n.high + 1 - n.high = 1 by bv_omega]
    rfl
  unfold Numbering.take
  rw [if_neg (by simp [h]), hd]
  cases selected with
  | true =>
    refine ⟨h, rfl, ?_, rfl⟩
    simp [Numbering.next]
    bv_omega
  | false =>
    refine ⟨h, rfl, ?_, rfl⟩
    simp [Numbering.next]
    bv_omega

theorem Numbering.outputs_in_order (n : Numbering) (flags : List Bool) (h : n.restart = false) :
    n.outputs (n.high + 1) flags = (List.range (flags.count true)).map (fun k => n.next + BitVec.ofNat 16 k) := by
  induction flags generalizing n with
  | nil => rfl
  | cons b bs ih =>
    obtain ⟨hrestart, hhigh, hnext, hout⟩ := n.take_in_order h b
    have htail := ih _ hrestart
    rw [hhigh, hnext] at htail
    rw [Numbering.outputs, htail, hout]
    cases b with
    | true =>
      simp only [if_true, Option.toList_some, List.count_cons_self, List.range_succ_eq_map, List.map_cons, List.map_map, List.singleton_append]
      congr 1
      · simp
      · refine List.map_congr_left (fun k _ => ?_)
        simp only [Function.comp_apply, Nat.succ_eq_add_one, BitVec.ofNat_add]
        bv_omega
    | false => simp

/-- Settles O30: a packet in order takes the next number if it is selected, and leaves it to its successor if not. -/
theorem selectedPacketsAreNumberedInSequence : Obligations.SelectedPacketsAreNumberedInSequence :=
  fun n flags h => n.outputs_in_order flags h

/-! ### Setting a conference (04 conf.set) -/

/-- Settles O32: both parts of the command change one conference's record. -/
theorem settingAConferenceKeepsTheOthers : Obligations.SettingAConferenceKeepsTheOthers := by
  intro k j speakers standing legField legLimit s
  refine ⟨fun hj => ?_, fun q hq => ?_, fun hk => ?_⟩
  · simp only [doConfSet, doConfLimits, doConfSpeakers]
    rw [tget_tmod_ne _ hj, tget_tmod_ne _ hj]
  · refine ⟨_, tget_tmod (tget_tmod hq _) _, rfl, rfl, rfl, rfl, rfl⟩
  · simp only [doConfSet, doConfLimits, doConfSpeakers]
    rw [tmod_none hk, tmod_none hk]

/-! ### The bandwidth map (11 R300) -/

theorem total_fourEach (left : Nat) (l : List Share) : total (fourEach left l) (·.grant) ≤ left + total l (·.grant) ∧ (fourEach left l).map (·.id) = l.map (·.id) := by
  simp only [total_eq_sum]
  induction l generalizing left with
  | nil => exact ⟨Nat.zero_le _, rfl⟩
  | cons x t ih =>
    unfold fourEach
    split
    · next h =>
      obtain ⟨hsum, hid⟩ := ih (left - 4)
      simp only [List.map_cons, List.sum_cons, hid, and_true]
      omega
    · obtain ⟨hsum, hid⟩ := ih left
      simp only [List.map_cons, List.sum_cons, hid, and_true]
      omega

/-- Shares in proportion to weights, each rounded down, come out of what is left. -/
theorem sum_proportional_le (left w : Nat) (l : List Share) (on : Share → Bool) (s : Share → Nat)
    (hs : ∀ x ∈ l, s x ≤ if on x then left * x.weight / w else 0) (hw : ((l.filter on).map (·.weight)).sum ≤ w) : (l.map s).sum ≤ left := by
  have hmul : w * (l.map s).sum ≤ left * ((l.filter on).map (·.weight)).sum := by
    clear hw
    induction l with
    | nil => simp
    | cons x l ih =>
      rw [List.forall_mem_cons] at hs
      obtain ⟨hx, hl⟩ := hs
      have hrest := ih hl
      have hterm : w * s x ≤ if on x then left * x.weight else 0 := by
        split at hx
        · next h =>
          rw [if_pos h]
          exact (Nat.mul_le_mul_left w hx).trans (Nat.mul_div_le _ _)
        · next h => simp [Nat.le_zero.mp hx]
      simp only [List.map_cons, List.sum_cons, Nat.mul_add, List.filter_cons]
      split
      · next h =>
        rw [if_pos h] at hterm
        simp only [List.map_cons, List.sum_cons, Nat.mul_add]
        omega
      · next h =>
        rw [if_neg h] at hterm
        omega
  rcases Nat.eq_zero_or_pos w with rfl | hpos
  · have hzero : ∀ x ∈ l, s x = 0 := fun x hx => by simpa using hs x hx
    rw [List.map_congr_left hzero]
    simp
  · exact Nat.le_of_mul_le_mul_left (hmul.trans ((Nat.mul_le_mul_left left hw).trans_eq (Nat.mul_comm ..))) hpos

theorem sum_grant_add (l : List Share) (s : Share → Nat) :
    ((l.map (fun x => { x with grant := x.grant + s x, need := x.need - s x })).map (·.grant)).sum = (l.map (·.grant)).sum + (l.map s).sum := by
  rw [List.map_map, ← List.sum_map_add]
  rfl

theorem total_sharePasses (fuel left : Nat) (l : List Share) :
    total (sharePasses fuel left l) (·.grant) ≤ left + total l (·.grant) ∧ (sharePasses fuel left l).map (·.id) = l.map (·.id) := by
  induction fuel generalizing left l with
  | zero => exact ⟨Nat.le_add_left .., rfl⟩
  | succ fuel ih =>
    unfold sharePasses
    extract_lets on w s sum
    split
    · exact ⟨Nat.le_add_left .., rfl⟩
    · split
      · exact total_fourEach left l
      · have hsum : sum ≤ left := by
          simp only [sum, total_eq_sum]
          refine sum_proportional_le left w l on s (fun x _ => ?_) (by simp only [w, total_eq_sum]; exact Nat.le_refl _)
          simp only [s]
          split
          · simp only [floor4]
            omega
          · exact Nat.le_refl 0
        obtain ⟨hpass, hid⟩ := ih (left - sum) (l.map (fun x => { x with grant := x.grant + s x, need := x.need - s x }))
        refine ⟨?_, hid.trans (by rw [List.map_map]; rfl)⟩
        simp only [total_eq_sum, sum_grant_add] at hpass ⊢
        simp only [sum, total_eq_sum] at hsum hpass ⊢
        omega

theorem total_map_entries (l : List Share) : total ((l.filter (fun x => x.grant != 0)).map (fun x => (x.id, x.grant))) (·.2) = total l (·.grant) := by
  simp only [total_eq_sum]
  induction l with
  | nil => rfl
  | cons x l ih =>
    rw [List.filter_cons]
    split
    · simpa using ih
    · next h => simpa [show x.grant = 0 by simpa using h] using ih

/-- Settles O36: each pass shares out of what is left, and the map starts from what the frame holds beside its bursts and first shares. -/
theorem bandwidthMapFitsTheFrame : Obligations.BandwidthMapFitsTheFrame := by
  refine ⟨total_sharePasses, fun a bursts hb hfit => ?_⟩
  subst hb
  unfold State.bandwidthMap
  extract_lets f n first left
  rw [total_map_entries]
  have hpass := (total_sharePasses (left + 1) left first).1
  change total first (·.grant) + n * f.2 ≤ f.1 at hfit
  change _ + n * f.2 ≤ f.1
  simp only [left] at hpass ⊢
  omega

end Sys2Proof.Machine

end

section
/-! O42: journal groups commit in order; O59: the generations that are kept. -/

namespace Sys2Proof.Machine
open Sys2Proof

/-! ### Journal groups (13 R342, R343) -/

/-- A part of a step that only adds groups behind those that stand there, none of them programmed yet. -/
def State.Queues (s t : State) : Prop := ∃ fresh : List JGroup, t.keep.groups = s.keep.groups ++ fresh ∧ fresh.all (fun g => !g.programmed) = true

namespace State.Queues

theorem of_eq {s t : State} (h : t.keep.groups = s.keep.groups) : State.Queues s t := ⟨[], by simp [h], rfl⟩

theorem refl (s : State) : State.Queues s s := of_eq rfl

theorem trans {s t u : State} (h : State.Queues s t) (k : State.Queues t u) : State.Queues s u := by
  obtain ⟨f, hf, hnew⟩ := h
  obtain ⟨g, hg, knew⟩ := k
  exact ⟨f ++ g, by rw [hg, hf, List.append_assoc], by rw [List.all_append, hnew, knew]; rfl⟩

theorem modKeep {s : State} {f : Keep → Keep} (h : (f s.keep).groups = s.keep.groups) : State.Queues s (s.modKeep f) := of_eq h

theorem ite {s a b : State} (c : Prop) [Decidable c] (h : State.Queues s a) (k : State.Queues s b) : State.Queues s (if c then a else b) := by
  split <;> assumption

theorem foldl {α : Type} {f : State → α → State} (h : ∀ (s : State) (a : α), s.Queues (f s a)) (l : List α) (s : State) : s.Queues (l.foldl f s) := by
  induction l generalizing s with
  | nil => exact refl s
  | cons a l ih => exact (h s a).trans (ih _)

end State.Queues

theorem State.closeGroup_queues (s : State) : s.Queues s.closeGroup := by
  unfold State.closeGroup
  exact .ite _ (.refl s) ⟨_, rfl, rfl⟩

theorem State.journal_queues (s : State) (e : JEntry) : s.Queues (s.journal e) := by
  unfold State.journal
  exact .trans (.ite _ s.closeGroup_queues (.refl s)) (.of_eq rfl)

theorem State.faultEvent_queues (s : State) (f : FaultRec) : s.Queues (s.faultEvent f) := .of_eq rfl

theorem State.writeFault_queues (s : State) (f : FaultRec) : s.Queues (s.writeFault f) := by
  unfold State.writeFault
  split
  · split
    · extract_lets f'
      exact .trans (.trans (.modKeep rfl) (State.journal_queues _ _)) (State.faultEvent_queues ..)
    · exact .trans (.ite _ (.trans (.modKeep rfl) (State.journal_queues _ _)) (.refl s)) (.modKeep rfl)
  · extract_lets f' raise s1 s2
    have h2 : s1.Queues s2 := .ite _ (.refl s1) (.ite _ (.modKeep rfl) (.modKeep rfl))
    exact .trans (.trans (.modKeep rfl) h2) (State.faultEvent_queues ..)

theorem State.numberWaiting_queues (s : State) : s.Queues s.numberWaiting :=
  .trans (.modKeep rfl) (.foldl (fun s f => s.writeFault_queues f) _ _)

theorem State.applyEntry_queues (s : State) (gseq : Nat) (e : JEntry) : s.Queues (s.applyEntry gseq e) := by
  unfold State.applyEntry
  split
  case h_5 => exact .refl s
  case h_6 => split <;> exact .of_eq rfl
  case h_8 => exact .refl s
  case h_9 => exact .trans (.modKeep rfl) (State.numberWaiting_queues _)
  all_goals exact .modKeep rfl

theorem State.finish_keep (s : State) (m : Mbx) (seq : Nat) (r : Rep) : (s.finish m seq r).keep = s.keep := by
  unfold State.finish
  split <;> simp

theorem State.commitGroup_queues (s : State) (g : JGroup) : s.Queues (s.commitGroup g) := by
  unfold State.commitGroup
  refine .trans (t := s.modKeep _) (.modKeep rfl) (.foldl (fun s e => ?_) _ _)
  refine .trans (s.applyEntry_queues g.gseq e) ?_
  split
  · exact .of_eq (by rw [State.finish_keep])
  · exact .refl _

theorem State.commitReady_queues (s : State) (n : Nat) :
    ∃ done fresh : List JGroup, s.keep.groups ++ fresh = done ++ (s.commitReady n).keep.groups ∧ done.all (·.programmed) = true ∧
      fresh.all (fun g => !g.programmed) = true := by
  induction n generalizing s with
  | zero => exact ⟨[], [], by simp [State.commitReady], rfl, rfl⟩
  | succ n ih =>
    unfold State.commitReady
    split
    · next g rest hg =>
      split
      · next hp =>
        obtain ⟨added, hadded, hnew⟩ := (s.modKeep (fun k => { k with groups := rest })).commitGroup_queues g
        obtain ⟨done, fresh, hsplit, hdone, hfresh⟩ := ih ((s.modKeep (fun k => { k with groups := rest })).commitGroup g)
        refine ⟨g :: done, added ++ fresh, ?_, by simp [hp, hdone], by rw [List.all_append, hnew, hfresh]; rfl⟩
        rw [hadded] at hsplit
        rw [hg, List.cons_append, List.cons_append, ← hsplit, ← List.append_assoc]
        rfl
      · exact ⟨[], [], by simp [hg], rfl, rfl⟩
    · next hg => exact ⟨[], [], by simp [hg], rfl, rfl⟩

/-- Where as many turns are taken as groups stood there, only groups that wait for their programming are left in front. -/
theorem State.commitReady_head (s : State) (n : Nat) (old fresh : List JGroup) (h : s.keep.groups = old ++ fresh) (hn : old.length ≤ n)
    (hfresh : fresh.all (fun g => !g.programmed) = true) {g : JGroup} (hg : (s.commitReady n).keep.groups.head? = some g) : g.programmed = false := by
  have hhead : ∀ l : List JGroup, l.all (fun g => !g.programmed) = true → l.head? = some g → g.programmed = false := fun l hl hm => by
    simpa using List.all_eq_true.mp hl g (List.mem_of_head? hm)
  induction n generalizing s old fresh with
  | zero =>
    rw [List.length_eq_zero_iff.mp (Nat.le_zero.mp hn), List.nil_append] at h
    exact hhead fresh hfresh (by rwa [← h])
  | succ n ih =>
    unfold State.commitReady at hg
    split at hg
    · next x rest hx =>
      split at hg
      · next hp =>
        obtain ⟨added, hadded, hnew⟩ := (s.modKeep (fun k => { k with groups := rest })).commitGroup_queues x
        cases old with
        | nil =>
          rw [List.nil_append] at h
          rw [← h, hx] at hfresh
          simp [hp] at hfresh
        | cons y old =>
          rw [hx, List.cons_append] at h
          obtain ⟨rfl, hrest⟩ := List.cons.inj h
          refine ih _ old (fresh ++ added) ?_ (Nat.le_of_succ_le_succ hn) (by rw [List.all_append, hfresh, hnew]; rfl) hg
          rw [hadded, ← List.append_assoc, ← hrest]
          rfl
      · next hp =>
        rw [hx] at hg
        cases hg
        simpa using hp
    · next hx =>
      rw [hx] at hg
      cases hg

/-- Settles O42: a commit takes the front group while it is programmed, and what it journals goes behind. -/
theorem journalGroupsCommitInOrder : Obligations.JournalGroupsCommitInOrder := by
  intro s n
  obtain ⟨done, fresh, hsplit, hdone, hfresh⟩ := s.commitReady_queues n
  exact ⟨done, fresh, hsplit, hdone, hfresh, fun hn g hg => s.commitReady_head n _ [] (by simp) hn rfl hg⟩

/-! ### Stored generations (02 R63 to R66) -/

theorem State.journal_patt (s : State) (e : JEntry) : (s.journal e).patt = s.patt := by
  unfold State.journal State.closeGroup
  dsimp only
  (repeat' split) <;> rfl

theorem State.mirror_patt (s : State) (n : Nat) : (s.mirror n).patt = s.patt := by rw [State.mirror_eq]

theorem State.journalRoster_patt (s : State) (k : JKind) (ack : Option (Mbx × Nat)) : (s.journalRoster k ack).patt = s.patt := by
  unfold State.journalRoster
  simp [apply_ite State.patt, State.journal_patt, State.mirror_patt]

theorem State.patternDone_patt (s : State) (issuer : Option (Mbx × Nat)) (st : U8) (op gen seam island count : Nat) :
    (s.patternDone issuer st op gen seam island count).patt = s.patt := by
  unfold State.patternDone
  dsimp only
  (repeat' split) <;> rfl

theorem tput_of_lt {α : Type} {t : Table α} {i : Nat} (h : ∀ p ∈ t, p.1 < i) (a : α) : tput t i a = t ++ [(i, a)] := by
  induction t with
  | nil => rfl
  | cons p t ih =>
    rw [List.forall_mem_cons] at h
    obtain ⟨hp, ht⟩ := h
    rw [tput, if_neg (by omega), if_neg (by omega), ih ht]
    rfl

theorem mem_tdel {α : Type} {t : Table α} {i : Nat} {p : Nat × α} : p ∈ tdel t i ↔ p ∈ t ∧ p.1 ≠ i := by
  simp [tdel]

theorem tdel_keys_nodup {α : Type} {t : Table α} (h : (t.map (·.1)).Nodup) (i : Nat) : ((tdel t i).map (·.1)).Nodup :=
  h.sublist (List.filter_sublist.map _)

/-- A record whose number stands once leaves one fewer behind. -/
theorem tdel_length {α : Type} {t : Table α} (h : (t.map (·.1)).Nodup) {p : Nat × α} (hp : p ∈ t) : (tdel t p.1).length + 1 = t.length := by
  induction t with
  | nil => cases hp
  | cons q t ih =>
    rw [List.map_cons, List.nodup_cons] at h
    obtain ⟨hq, ht⟩ := h
    rcases List.mem_cons.mp hp with rfl | hp
    · have hstay : tdel t p.1 = t := List.filter_eq_self.mpr (fun x hx => by
        simpa using fun e => hq (List.mem_map.mpr ⟨x, hx, e⟩))
      have : tdel (p :: t) p.1 = tdel t p.1 := by simp [tdel]
      rw [this, hstay]
      rfl
    · have hne : q.1 ≠ p.1 := fun e => hq (e ▸ List.mem_map_of_mem hp)
      have : tdel (q :: t) p.1 = q :: tdel t p.1 := by simp [tdel, hne]
      rw [this, List.length_cons, List.length_cons, ih ht hp]

/-- Of four numbers or more in a table, one is none of three given ones. -/
theorem find_other_isSome {α : Type} {t : Table α} (h : (t.map (·.1)).Nodup) (hl : 4 ≤ t.length) (a b c : Nat) :
    (t.find? (fun p => p.1 != a && p.1 != b && p.1 != c)).isSome = true := by
  rw [List.find?_isSome]
  by_contra hnone
  have hsub : (t.map (·.1)) ⊆ [a, b, c] := fun k hk => by
    obtain ⟨p, hp, rfl⟩ := List.mem_map.mp hk
    have := fun hq => hnone ⟨p, hp, hq⟩
    simp only [Bool.and_eq_true, bne_iff_ne, ne_eq] at this
    simp only [List.mem_cons, List.not_mem_nil, or_false]
    tauto
  have := (h.subperm hsub).length_le
  simp only [List.length_map, List.length_cons, List.length_nil] at this
  omega

/-- The generation that a save stores. -/
def State.savedGen (s : State) (label : U32) (cfg : PatCfg) (sizeKib savedS : Nat) : Gen :=
  { label, schema := s.schemaWritten, sizeKib, savedS, cfg }

/-- The generations with the saved one among them, before any is replaced. -/
def State.gensWith (s : State) (g : Gen) : Table Gen := tput s.patt.gens (s.patt.highest + 1) g

/-- The generation that a ninth replaces (02 R66). -/
def State.replaced (s : State) (g : Gen) : Option Nat :=
  if (s.gensWith g).length ≤ 8 then none
  else ((s.gensWith g).find? (fun p => p.1 != s.patt.highest + 1 && p.1 != s.patt.running && p.1 != s.patt.proven)).map (·.1)

theorem State.storeGen_patt (s : State) (label : U32) (cfg : PatCfg) (sizeKib savedS : Nat) :
    (s.storeGen label cfg sizeKib savedS).patt = { s.patt with
      gens := (s.replaced (s.savedGen label cfg sizeKib savedS)).elim (s.gensWith (s.savedGen label cfg sizeKib savedS)) (tdel (s.gensWith (s.savedGen label cfg sizeKib savedS)))
      highest := s.patt.highest + 1, running := s.patt.highest + 1, revertAt := none } := by
  unfold State.storeGen
  extract_lets n gens out _ s1 s2
  have h2 : s2.patt = s1.patt := State.journalRoster_patt ..
  have h1 : s1.patt = { s.patt with gens := out.elim gens (tdel gens), highest := n, running := n, revertAt := none } := by
    simp only [s1]
    cases out <;> rfl
  refine .trans ?_ (h2.trans h1)
  clear h1 h2
  clear_value s2 out
  cases out with
  | some k => exact State.journalRoster_patt ..
  | none => rfl

theorem patternSaveDone_ok {s : State} {m : Mbx} {n : Nat} {label : U32} {cfg : PatCfg} {kib : Nat} (h : s.patt.saving = some (m, n, label, cfg))
    (hk : kib ≤ 262144) :
    (patternSaveDone .ok kib s).patt = (({ s with patt := { s.patt with saving := none } } : State).storeGen label cfg kib s.chipS).patt := by
  unfold patternSaveDone
  rw [h]
  dsimp only
  rw [if_neg (by omega), State.fin_patt, State.mirror_patt, State.patternDone_patt]
  rfl

/-- Settles O59: the ninth generation replaces one that is neither new, nor running, nor the last proven one. -/
theorem storedGenerationsAreKept : Obligations.StoredGenerationsAreKept := by
  intro s m n label cfg kib hsaving hkib hlen hnodup hmax
  refine ⟨_, rfl, ?_⟩
  rw [patternSaveDone_ok hsaving hkib, State.storeGen_patt]
  generalize hu : ({ s with patt := { s.patt with saving := none } } : State) = u
  generalize hg : u.savedGen label cfg kib s.chipS = g
  have hgens : u.gensWith g = s.patt.gens ++ [(s.patt.highest + 1, g)] := by
    subst hu
    exact tput_of_lt (fun p hp => Nat.lt_succ_of_le (hmax p hp)) g
  have hkeys : ((u.gensWith g).map (·.1)).Nodup := by
    rw [hgens, List.map_append, List.nodup_append]
    refine ⟨hnodup, by simp, fun a ha b hb => ?_⟩
    obtain ⟨p, hp, rfl⟩ := List.mem_map.mp ha
    have := hmax p hp
    simp only [List.map_cons, List.map_nil, List.mem_singleton] at hb
    omega
  have hnew : (s.patt.highest + 1, g) ∈ u.gensWith g := by simp [hgens]
  have hold : ∀ p ∈ u.gensWith g, p.1 = s.patt.highest + 1 ∨ p ∈ s.patt.gens := fun p hp => by
    rw [hgens, List.mem_append, List.mem_singleton] at hp
    exact hp.elim .inr (fun e => .inl (e ▸ rfl))
  have hkept : ∀ p ∈ s.patt.gens, p ∈ u.gensWith g := fun p hp => by simp [hgens, hp]
  have hfields : g.label = label ∧ g.cfg = cfg ∧ g.sizeKib = kib ∧ g.savedS = s.chipS ∧ g.proven = false := by
    subst hg
    exact ⟨rfl, rfl, rfl, rfl, rfl⟩
  have hhigh : u.patt.highest = s.patt.highest ∧ u.patt.running = s.patt.running ∧ u.patt.proven = s.patt.proven ∧ u.patt.saving = none := by
    subst hu
    exact ⟨rfl, rfl, rfl, rfl⟩
  obtain ⟨hhighest, hrunning, hproven, hsave⟩ := hhigh
  cases hout : u.replaced g with
  | none =>
    have hsmall : (u.gensWith g).length ≤ 8 := by
      by_contra hbig
      have hsome := find_other_isSome hkeys (by omega) (u.patt.highest + 1) u.patt.running u.patt.proven
      rw [State.replaced, if_neg hbig, Option.map_eq_none_iff] at hout
      rw [hout] at hsome
      cases hsome
    exact ⟨hsmall, hkeys, ⟨_, hnew, rfl, hfields⟩, hold, by rw [hhighest], by rw [hhighest], hsave, fun p hp _ => hkept p hp⟩
  | some k =>
    rw [State.replaced] at hout
    split at hout
    · cases hout
    · obtain ⟨q, hq, rfl⟩ := Option.map_eq_some_iff.mp hout
      have hqmem := List.mem_of_find?_eq_some hq
      have hqne := List.find?_some hq
      simp only [Bool.and_eq_true, bne_iff_ne, ne_eq, hhighest, hrunning, hproven] at hqne
      obtain ⟨⟨hqn, hqr⟩, hqp⟩ := hqne
      have hlength := tdel_length hkeys hqmem
      rw [hgens, List.length_append] at hlength
      refine ⟨?_, tdel_keys_nodup hkeys _, ⟨_, mem_tdel.mpr ⟨hnew, Ne.symm hqn⟩, rfl, hfields⟩, fun p hp => hold p (mem_tdel.mp hp).1,
        by rw [hhighest], by rw [hhighest], hsave, fun p hp hpk => mem_tdel.mpr ⟨hkept p hp, ?_⟩⟩
      · simp only [List.length_singleton, ← hgens] at hlength
        simp only [Option.elim_some]
        omega
      · intro e
        rcases hpk with h | h
        · exact hqr (e ▸ h)
        · exact hqp (e ▸ h)

end Sys2Proof.Machine

end

section
/-! O38, O45, O49, O56: Truss frames, DSP arithmetic, activate counts, wake sources. -/

namespace Sys2Proof.Machine
open Sys2Proof

/-! ### Truss frames (12 R308) -/

theorem State.trussIn_of_bad_header {s : State} {h : TrussHdr} (hh : h.hcrcOk = false) (b : Bool) : s.trussIn h b = (s, false) := by
  simp [State.trussIn, hh]

/-- A part of a step that changes only the link's own figures. -/
def State.LinkOnly (s t : State) : Prop := ∃ twin, t = { s with twin } ∧ twin.state = s.twin.state ∧ twin.claims = s.twin.claims

namespace State.LinkOnly

theorem refl (s : State) : State.LinkOnly s s := ⟨s.twin, rfl, rfl, rfl⟩

theorem trans {s t u : State} (h : State.LinkOnly s t) (k : State.LinkOnly t u) : State.LinkOnly s u := by
  obtain ⟨v, rfl, hs, hc⟩ := h
  obtain ⟨w, rfl, ks, kc⟩ := k
  exact ⟨w, rfl, ks.trans hs, kc.trans hc⟩

theorem modTwin {s : State} {f : Twin → Twin} (hs : (f s.twin).state = s.twin.state) (hc : (f s.twin).claims = s.twin.claims) :
    State.LinkOnly s (s.modTwin f) := ⟨f s.twin, rfl, hs, hc⟩

end State.LinkOnly

theorem State.trussIn_linkOnly (s : State) (h : TrussHdr) (b : Bool) : s.LinkOnly (s.trussIn h b).1 := by
  unfold State.trussIn
  split
  · exact .refl s
  · extract_lets s1 s2 s3
    have h2 : s.LinkOnly s2 := .trans (t := s1) (.modTwin rfl rfl) (.modTwin rfl rfl)
    split
    · exact h2
    · have h3 : s.LinkOnly s3 := h2.trans (.modTwin rfl rfl)
      split
      · exact h3
      · exact h3.trans (State.LinkOnly.modTwin (f := fun t => { t with rxSeq := h.seq }) rfl rfl)

theorem State.trussIn_rejects {s : State} {h : TrussHdr} (hbad : h.crcOk = false ∨ h.seq ≠ s.twin.rxSeq + 1) (b : Bool) : (s.trussIn h b).2 = false := by
  unfold State.trussIn
  dsimp only
  split
  · rfl
  · split
    · rfl
    · next hcrc =>
      rcases hbad with hc | hs
      · simp [hc] at hcrc
      · exact congrArg Prod.snd (if_pos hs)

/-- The link's figures after a good frame. -/
theorem State.trussIn_accepts {s : State} {h : TrussHdr} {b : Bool} (hh : h.hcrcOk = true) (hc : h.crcOk = true) (he : s.twin.enabled = true)
    (hl : s.twin.linkUp = true ∨ b = true) (hs : h.seq = s.twin.rxSeq + 1) :
    (s.trussIn h b).2 = true ∧ (s.trussIn h b).1.twin.rxSeq = h.seq ∧ (s.trussIn h b).1.twin.linkUp = true ∧ (s.trussIn h b).1.twin.lastFrame = s.clk := by
  have hlink : (s.twin.linkUp || b) = true := by simpa using hl
  unfold State.trussIn
  simp [hh, hc, he, hlink, hs]
  rfl

theorem State.onFrame_of_rejected {s : State} {h : TrussHdr} (hr : (s.trussIn h false).2 = false) (f : State → State) : s.onFrame h f = (s.trussIn h false).1 := by
  unfold State.onFrame
  dsimp only
  rw [hr]
  rfl

/-- Settles O38: the link's figures are all that the checks of a frame touch. -/
theorem trussFramesAreChecked : Obligations.TrussFramesAreChecked := by
  intro s h b
  obtain ⟨twin, heq, hstate, hclaims⟩ := s.trussIn_linkOnly h b
  refine ⟨fun hh => State.trussIn_of_bad_header hh b, fun hbad => State.trussIn_rejects hbad b, fun hh hc he hl hs => State.trussIn_accepts hh hc he hl hs,
    by rw [heq], by rw [heq], by rw [heq], by rw [heq, hstate], by rw [heq, hclaims], fun hr => ?_⟩
  exact ⟨fun item cmd => congrArg _ (State.onFrame_of_rejected hr _), fun r f => congrArg _ (State.onFrame_of_rejected hr _),
    fun d => congrArg _ (State.onFrame_of_rejected hr _), fun i => congrArg _ (State.onFrame_of_rejected hr _)⟩

/-! ### DSP arithmetic (14 R371, R372) -/

/-- A step through a ring that starts inside it ends inside it. -/
theorem postModify_ring {p q : BitVec 20} {n : Int} {b : Nat} {hoops : Vector (BitVec 40) 4} {first span : Nat} (hb : b < 4)
    (hf : first = ((hoops[b]?).getD 0).toNat % 2 ^ 20) (hs : span = ((hoops[b]?).getD 0).toNat / 2 ^ 20) (h0 : span ≠ 0)
    (h : postModify p n (b + 1) hoops = .address q) : first ≤ q.toNat ∧ q.toNat < first + span ∧ ((q.toNat : Int) - p.toNat - n) % span = 0 := by
  have hfirst : ((((hoops[b]?).getD 0).extractLsb' 0 20).toNat) = first := by
    rw [hf, BitVec.extractLsb'_toNat, Nat.shiftRight_zero]
  have hspan : ((((hoops[b]?).getD 0).extractLsb' 20 20).toNat) = span := by
    have := ((hoops[b]?).getD 0).isLt
    rw [hs, BitVec.extractLsb'_toNat, Nat.shiftRight_eq_div_pow]
    omega
  unfold postModify at h
  simp only [hfirst, hspan] at h
  rw [if_neg (by omega), if_neg h0] at h
  split at h
  · cases h
  · next hin =>
    obtain ⟨hup, hdown, hlo, hhi, htop⟩ : n < span ∧ -(span : Int) < n ∧ first ≤ p.toNat ∧ p.toNat < first + span ∧ first + span ≤ 0x20000 := by omega
    injection h with hq
    have hto : ∀ x : Int, 0 ≤ x → x < 2 ^ 20 → ((BitVec.ofInt 20 x).toNat : Int) = x := fun x hx0 hx1 => by
      rw [BitVec.toNat_ofInt]
      omega
    split at hq
    · have := hto _ (by omega) (by omega : (p.toNat : Int) + n - span < 2 ^ 20)
      rw [hq] at this
      refine ⟨by omega, by omega, ?_⟩
      rw [show (q.toNat : Int) - p.toNat - n = -1 * span by omega]
      exact Int.mul_emod_left _ _
    · split at hq
      · have := hto _ (by omega) (by omega : (p.toNat : Int) + n + span < 2 ^ 20)
        rw [hq] at this
        refine ⟨by omega, by omega, ?_⟩
        rw [show (q.toNat : Int) - p.toNat - n = 1 * span by omega]
        exact Int.mul_emod_left _ _
      · have := hto _ (by omega) (by omega : (p.toNat : Int) + n < 2 ^ 20)
        rw [hq] at this
        refine ⟨by omega, by omega, ?_⟩
        rw [show (q.toNat : Int) - p.toNat - n = 0 * span by omega]
        exact Int.mul_emod_left _ _

/-- A sum that fits the accumulator is exact, saturating or not. -/
theorem accumulate_of_fits {a : BitVec 80} {x : Int} {minus : Bool} (hl : -(2 ^ 79) ≤ a.toInt + (if minus then -x else x))
    (hh : a.toInt + (if minus then -x else x) < 2 ^ 79) :
    (accumulate true a x minus).toInt = a.toInt + (if minus then -x else x) ∧ accumulate true a x minus = accumulate false a x minus := by
  have hclamp : max (-(2 ^ 79)) (min (2 ^ 79 - 1) (a.toInt + (if minus then -x else x))) = a.toInt + (if minus then -x else x) := by omega
  have heq : accumulate true a x minus = BitVec.ofInt 80 (a.toInt + (if minus then -x else x)) := by
    simp only [accumulate, if_true, hclamp]
  refine ⟨?_, heq⟩
  rw [heq, BitVec.toInt_ofInt]
  exact Int.bmod_eq_of_le (by omega) (by omega)

theorem accumulate_of_overflow {a : BitVec 80} {x : Int} (h : 2 ^ 79 ≤ a.toInt + x) : accumulate true a x false = BitVec.intMax 80 := by
  have hclamp : max (-(2 ^ 79)) (min (2 ^ 79 - 1) (a.toInt + x)) = 2 ^ 79 - 1 := by omega
  simp only [accumulate, if_true, Bool.false_eq_true, if_false, hclamp]
  rfl

theorem extract_of_overflow {k : Nat} {a : BitVec 80} (h : 2 ^ 31 - 1 ≤ (if k = 0 then a.toInt else (a.toInt + 2 ^ (k - 1)) / 2 ^ k)) :
    extract true k a = BitVec.intMax 32 := by
  unfold extract
  generalize (if k = 0 then a.toInt else (a.toInt + 2 ^ (k - 1)) / 2 ^ k) = t at h ⊢
  have hclamp : sat32 t = 2147483647 := by
    unfold sat32
    omega
  simp only [if_true, hclamp]
  rfl

/-- Settles O45: a ring step is corrected by one span at most, and saturation is a clamp. -/
theorem dspArithmeticStaysInItsBounds : Obligations.DspArithmeticStaysInItsBounds := by
  refine ⟨fun p q n bind first span hoops h1 h4 hf hs h0 h => ?_, fun p n hoops => rfl, fun p n bind hoops h => if_pos h,
    fun a x minus hl hh => accumulate_of_fits hl hh, fun a x h => accumulate_of_overflow h, fun k a h => extract_of_overflow h⟩
  obtain ⟨b, rfl⟩ : ∃ b, bind = b + 1 := ⟨bind - 1, by omega⟩
  exact postModify_ring (by omega) hf hs h0 h

/-! ### Wake sources (17 R441, R442) -/

/-- Settles O56: the first source sets what keeps the next one out. -/
theorem firstWakeSourceWins : Obligations.FirstWakeSourceWins := by
  refine fun s n k => ⟨fun hq hw => ?_, fun hq hr hw => ?_, fun hq hr => ?_⟩
  · simp [State.noteWake, hq, hw]
  · simp [State.noteWake, hq, hr, hw]
  · simp [State.noteWake, hq, hr]

end Sys2Proof.Machine

end

section
/-! O46, O49: spools, and the activate counts of a bank. -/

namespace Sys2Proof.Machine
open Sys2Proof

/-! ### Activate counts (15 R386) -/

/-- The choice of `lowestEntry`, one entry at a time. -/
def lowerEntry (acc : Option (Nat × Nat)) (p : (Nat × Nat) × Nat) : Option (Nat × Nat) :=
  match acc with
  | none => some (p.1.2, p.2)
  | some (c, i) => if p.1.2 < c then some (p.1.2, p.2) else some (c, i)

theorem lowestEntry_eq (t : ActTable) : lowestEntry t = (t.zipIdx.foldl lowerEntry none).map (·.2) := rfl

theorem foldl_lowerEntry (l : List ((Nat × Nat) × Nat)) (c i : Nat) :
    ∃ d j, l.foldl lowerEntry (some (c, i)) = some (d, j) ∧ d ≤ c ∧ (∀ p ∈ l, d ≤ p.1.2) ∧ ((d, j) = (c, i) ∨ ∃ p ∈ l, p.1.2 = d ∧ p.2 = j) := by
  induction l generalizing c i with
  | nil => exact ⟨c, i, rfl, Nat.le_refl c, by simp, .inl rfl⟩
  | cons q l ih =>
    rw [List.foldl_cons]
    by_cases hq : q.1.2 < c
    · obtain ⟨d, j, hd, hle, hmin, hfrom⟩ := ih q.1.2 q.2
      refine ⟨d, j, by rw [← hd, lowerEntry, if_pos hq], by omega, List.forall_mem_cons.mpr ⟨hle, hmin⟩, .inr ?_⟩
      rcases hfrom with h | ⟨p, hp, h⟩
      · cases h
        exact ⟨q, List.mem_cons_self, rfl, rfl⟩
      · exact ⟨p, List.mem_cons_of_mem _ hp, h⟩
    · obtain ⟨d, j, hd, hle, hmin, hfrom⟩ := ih c i
      refine ⟨d, j, by rw [← hd, lowerEntry, if_neg hq], hle, List.forall_mem_cons.mpr ⟨by omega, hmin⟩, ?_⟩
      rcases hfrom with h | ⟨p, hp, h⟩
      · exact .inl h
      · exact .inr ⟨p, List.mem_cons_of_mem _ hp, h⟩

theorem lowestEntry_spec {t : ActTable} (h : t ≠ []) : ∃ i e, lowestEntry t = some i ∧ t[i]? = some e ∧ ∀ x ∈ t, e.2 ≤ x.2 := by
  obtain ⟨q, t, rfl⟩ := List.exists_cons_of_ne_nil h
  obtain ⟨d, j, hd, hle, hmin, hfrom⟩ := foldl_lowerEntry (t.zipIdx 1) q.2 0
  have hlow : lowestEntry (q :: t) = some j := by
    rw [lowestEntry_eq, List.zipIdx_cons, List.foldl_cons]
    change ((t.zipIdx 1).foldl lowerEntry (some (q.2, 0))).map (·.2) = _
    rw [hd]
    rfl
  have hall : ∀ x ∈ q :: t, d ≤ x.2 := List.forall_mem_cons.mpr ⟨hle, fun x hx => by
    obtain ⟨k, hk, rfl⟩ := List.getElem_of_mem hx
    exact hmin (t[k], 1 + k) (List.mk_mem_zipIdx_iff_le_and_getElem?_sub.mpr ⟨Nat.le_add_right 1 k, by rw [Nat.add_sub_cancel_left, List.getElem?_eq_getElem hk]⟩)⟩
  rcases hfrom with h | ⟨p, hp, hp2, hpj⟩
  · cases h
    exact ⟨0, q, hlow, rfl, hall⟩
  · obtain ⟨hlt, hget⟩ := List.mk_mem_zipIdx_iff_le_and_getElem?_sub.mp (hp : (p.1, p.2) ∈ t.zipIdx 1)
    refine ⟨j, p.1, hlow, ?_, hp2 ▸ hall⟩
    rw [← hpj, ← hget, List.getElem?_cons, if_neg (by omega)]

/-- A table with one more activate of a row counted. -/
def countRow (t : ActTable) (row : Nat) : ActTable :=
  if t.any (fun e => e.1 == row) then t.map (fun e => if e.1 = row then (e.1, e.2 + 1) else e)
  else if t.length < 16 then t ++ [(row, 1)]
  else match lowestEntry t with
    | some i => t.set i (row, ((t[i]?).map (·.2)).getD 0 + 1)
    | none => t

theorem activate_eq (t : ActTable) (row threshold : Nat) :
    activate t row threshold = if (countRow t row).any (fun e => e.1 == row && decide (threshold ≤ e.2)) then
      ((countRow t row).map (fun e => if e.1 = row then (e.1, 0) else e), true) else (countRow t row, false) := rfl

/-- What counting makes of a table: the row stands in it once with its count, and the others are below the threshold. -/
structure Counted (t : ActTable) (row threshold m : Nat) : Prop where
  length : t.length ≤ 16
  nodup : (t.map (·.1)).Nodup
  mem : (row, m) ∈ t
  others : ∀ e ∈ t, e.1 ≠ row → e.2 < threshold

/-- A row stands once in a table whose numbers stand once. -/
theorem snd_unique {t : ActTable} (h : (t.map (·.1)).Nodup) {e f : Nat × Nat} (he : e ∈ t) (hf : f ∈ t) (heq : e.1 = f.1) : e = f :=
  List.inj_on_of_nodup_map h he hf heq

theorem map_keys_of_keeps {t : ActTable} {f : Nat × Nat → Nat × Nat} (hf : ∀ e, (f e).1 = e.1) : (t.map f).map (·.1) = t.map (·.1) := by
  rw [List.map_map]
  exact List.map_congr_left (fun e _ => hf e)

theorem Counted.any_iff {t : ActTable} {row threshold m : Nat} (h : Counted t row threshold m) :
    t.any (fun e => e.1 == row && decide (threshold ≤ e.2)) = true ↔ threshold ≤ m := by
  simp only [List.any_eq_true, Bool.and_eq_true, beq_iff_eq, decide_eq_true_eq]
  constructor
  · rintro ⟨e, he, hrow, hle⟩
    rwa [snd_unique h.nodup he h.mem hrow] at hle
  · exact fun hle => ⟨_, h.mem, rfl, hle⟩

theorem Counted.activate {t : ActTable} {row threshold m : Nat} (ht : 2 ≤ threshold) (h : Counted (countRow t row) row threshold m) :
    (activate t row threshold).1.length ≤ 16 ∧ ((activate t row threshold).1.map (·.1)).Nodup ∧ (∀ e ∈ (activate t row threshold).1, e.2 < threshold) ∧
    row ∈ (activate t row threshold).1.map (·.1) ∧ ((activate t row threshold).2 = true ↔ threshold ≤ m) := by
  have hrow : row ∈ (countRow t row).map (·.1) := List.mem_map_of_mem h.mem
  rw [activate_eq]
  split
  · next hfire =>
    have hkeys : ((countRow t row).map (fun e => if e.1 = row then (e.1, 0) else e)).map (·.1) = (countRow t row).map (·.1) :=
      map_keys_of_keeps (fun e => by split <;> rfl)
    dsimp only
    rw [List.length_map, hkeys]
    refine ⟨h.length, h.nodup, fun e he => ?_, hrow, fun _ => h.any_iff.mp hfire, fun _ => rfl⟩
    obtain ⟨x, hx, rfl⟩ := List.mem_map.mp he
    split
    · omega
    · next hne => exact h.others x hx hne
  · next hquiet =>
    have hm : ¬ threshold ≤ m := fun hle => hquiet (h.any_iff.mpr hle)
    refine ⟨h.length, h.nodup, fun e he => ?_, hrow, fun hf => (Bool.noConfusion hf), fun hle => absurd hle hm⟩
    by_cases he1 : e.1 = row
    · rw [snd_unique h.nodup he h.mem he1]
      exact Nat.lt_of_not_le hm
    · exact h.others e he he1

theorem countRow_of_mem {t : ActTable} {row threshold n : Nat} (hl : t.length ≤ 16) (hn : (t.map (·.1)).Nodup) (hlt : ∀ e ∈ t, e.2 < threshold)
    (hrow : (row, n) ∈ t) : Counted (countRow t row) row threshold (n + 1) := by
  have heq : countRow t row = t.map (fun e => if e.1 = row then (e.1, e.2 + 1) else e) :=
    if_pos (List.any_eq_true.mpr ⟨_, hrow, by simp⟩)
  rw [heq]
  refine ⟨by rwa [List.length_map], by rwa [map_keys_of_keeps (fun e => by split <;> rfl)], List.mem_map.mpr ⟨_, hrow, if_pos rfl⟩, fun e he hne => ?_⟩
  obtain ⟨x, hx, rfl⟩ := List.mem_map.mp he
  split at hne
  · next h => exact absurd h hne
  · next h =>
    rw [if_neg h]
    exact hlt x hx

theorem any_row_iff (t : ActTable) (row : Nat) : t.any (fun e => e.1 == row) = true ↔ row ∈ t.map (·.1) := by
  simp

theorem countRow_of_room {t : ActTable} {row threshold : Nat} (hl : t.length < 16) (hn : (t.map (·.1)).Nodup) (hlt : ∀ e ∈ t, e.2 < threshold)
    (hrow : row ∉ t.map (·.1)) : Counted (countRow t row) row threshold 1 := by
  have heq : countRow t row = t ++ [(row, 1)] := (if_neg (fun h => hrow ((any_row_iff t row).mp h))).trans (if_pos hl)
  rw [heq]
  refine ⟨by simpa using hl, ?_, by simp, fun e he hne => ?_⟩
  · rw [List.map_append, List.nodup_append]
    refine ⟨hn, by simp, fun a ha b hb => ?_⟩
    rw [List.map_singleton, List.mem_singleton] at hb
    rw [hb]
    rintro rfl
    exact hrow ha
  · rcases List.mem_append.mp he with h | h
    · exact hlt e h
    · exact absurd (congrArg Prod.fst (List.mem_singleton.mp h)) hne

theorem countRow_of_full {t : ActTable} {row threshold : Nat} (hl : t.length = 16) (hn : (t.map (·.1)).Nodup) (hlt : ∀ e ∈ t, e.2 < threshold)
    (hrow : row ∉ t.map (·.1)) : ∃ e ∈ t, (∀ x ∈ t, e.2 ≤ x.2) ∧ Counted (countRow t row) row threshold (e.2 + 1) := by
  obtain ⟨i, e, hi, hget, hmin⟩ := lowestEntry_spec (t := t) (by rintro rfl; cases hl)
  obtain ⟨hlen, hgete⟩ := List.getElem?_eq_some_iff.mp hget
  have heq : countRow t row = t.set i (row, e.2 + 1) := by
    unfold countRow
    rw [if_neg (fun h => hrow ((any_row_iff t row).mp h)), if_neg (by omega), hi]
    simp [hget]
  refine ⟨e, List.mem_of_getElem? hget, hmin, ?_⟩
  rw [heq]
  refine ⟨by rw [List.length_set, hl], ?_, List.mem_set hlen _, fun x hx hne => ?_⟩
  · rw [List.map_set]
    exact hn.set hrow
  · rcases List.mem_or_eq_of_mem_set hx with h | h
    · exact hlt x h
    · exact absurd (congrArg Prod.fst h) hne

/-- Settles O49: a row known counts on, a new one takes a free entry, or the lowest entry and its count. -/
theorem rowCountsStayUnderTheThreshold : Obligations.RowCountsStayUnderTheThreshold := by
  intro t row threshold ht hl hn hlt
  by_cases hrow : row ∈ t.map (·.1)
  · obtain ⟨⟨r, n⟩, hmem, rfl⟩ := List.mem_map.mp hrow
    obtain ⟨hlen, hnodup, hbelow, hin, hfire⟩ := (countRow_of_mem hl hn hlt hmem).activate ht
    refine ⟨hlen, hnodup, hbelow, hin, hfire.trans ⟨fun h => ⟨n, .inl ⟨hmem, h⟩⟩, ?_⟩⟩
    rintro ⟨k, ⟨hk, hle⟩ | ⟨hno, -⟩⟩
    · cases snd_unique hn hk hmem rfl
      exact hle
    · exact absurd hrow hno
  · have hnone : ∀ k, (row, k) ∉ t := fun k hk => hrow (List.mem_map_of_mem hk)
    rcases Nat.lt_or_eq_of_le hl with hroom | hfull
    · obtain ⟨hlen, hnodup, hbelow, hin, hfire⟩ := (countRow_of_room hroom hn hlt hrow).activate ht
      refine ⟨hlen, hnodup, hbelow, hin, hfire.trans ⟨fun h => by omega, ?_⟩⟩
      rintro ⟨k, ⟨hk, -⟩ | ⟨-, h16, -⟩⟩
      · exact absurd hk (hnone k)
      · omega
    · obtain ⟨e, he, hmin, hcount⟩ := countRow_of_full hfull hn hlt hrow
      obtain ⟨hlen, hnodup, hbelow, hin, hfire⟩ := hcount.activate ht
      refine ⟨hlen, hnodup, hbelow, hin, hfire.trans ⟨fun h => ⟨e.2, .inr ⟨hrow, hfull, ⟨e.1, he⟩, hmin, h⟩⟩, ?_⟩⟩
      rintro ⟨k, ⟨hk, -⟩ | ⟨-, -, ⟨x, hx⟩, hkmin, hle⟩⟩
      · exact absurd hk (hnone k)
      · have := hkmin e he
        have := hmin _ hx
        dsimp only at this
        omega

/-! ### Spools (01 R33 to R39) -/

theorem Spool.ok_iff (q : Spool) : q.ok = true ↔ q.slots.length ≤ q.depth ∧ (q.slots.length < q.depth ∨ ∃ x, q.slots.getLast? = some x ∧ x.tag = 2) ∧
    (q.openSince = none ∨ ∃ x ∈ q.slots, x.tag = 3) := by
  simp [Spool.ok, and_assoc, Option.any_eq_true]

/-- A spool whose frame, if any, is over. -/
theorem Spool.ok_of_closed {q : Spool} (hl : q.slots.length ≤ q.depth) (hlast : q.slots.length < q.depth ∨ ∃ x, q.slots.getLast? = some x ∧ x.tag = 2)
    (ho : q.openSince = none) : q.ok = true := q.ok_iff.mpr ⟨hl, hlast, .inl ho⟩

theorem Spool.ok_wake (q : Spool) : (q.wake).ok = q.ok := rfl

/-- A marker that joins the last one, or takes a free slot: the spool does not overfill and its last slot is the marker. -/
theorem addSnag_fits {l : List Slot} {d : Nat} (hl : l.length ≤ d) (hlast : l.length < d ∨ ∃ x, l.getLast? = some x ∧ x.tag = 2) (n k : Nat) :
    (addSnag l n k).length ≤ d ∧ (∃ x, (addSnag l n k).getLast? = some x ∧ x.tag = 2) := by
  unfold addSnag
  split
  · next x hx =>
    have hpos : 0 < l.length := by
      rcases l with - | ⟨y, l⟩
      · cases hx
      · exact Nat.succ_pos _
    split
    · refine ⟨?_, ⟨_, by rw [List.getLast?_concat], rfl⟩⟩
      rw [List.length_append, List.length_dropLast, List.length_singleton]
      omega
    · next hne =>
      have hroom : l.length < d := hlast.resolve_right (fun ⟨y, hy, htag⟩ => hne (by rw [hx] at hy; cases hy; exact htag))
      exact ⟨by rw [List.length_append, List.length_singleton]; omega, ⟨_, by rw [List.getLast?_concat], rfl⟩⟩
  · next hx =>
    rw [List.getLast?_eq_none_iff] at hx
    subst hx
    refine ⟨?_, ⟨_, rfl, rfl⟩⟩
    rcases hlast with h | ⟨y, hy, -⟩
    · exact h
    · cases hy

/-- A marker never takes a reserved slot. -/
theorem addSnag_reserved {l : List Slot} (h : ∃ x ∈ l, x.tag = 3) (n k : Nat) : ∃ x ∈ addSnag l n k, x.tag = 3 := by
  obtain ⟨x, hx, htag⟩ := h
  unfold addSnag
  split
  · next y hy =>
    split
    · next h2 =>
      refine ⟨x, List.mem_append_left _ ?_, htag⟩
      have hsplit := List.dropLast_append_getLast? y hy
      rw [← hsplit, List.mem_append, List.mem_singleton] at hx
      exact hx.resolve_right (fun e => by rw [e, h2] at htag; cases htag)
    · exact ⟨x, List.mem_append_left _ hx, htag⟩
  · next hnil =>
    rw [List.getLast?_eq_none_iff.mp hnil] at hx
    cases hx

theorem Spool.ok_addSnag {q : Spool} (h : q.ok = true) (n k : Nat) : Spool.ok { q with slots := addSnag q.slots n k } = true := by
  obtain ⟨hl, hlast, hopen⟩ := q.ok_iff.mp h
  obtain ⟨hl', hlast'⟩ := addSnag_fits hl hlast n k
  exact (Spool.ok_iff _).mpr ⟨hl', .inr hlast', hopen.imp_right (fun hx => addSnag_reserved hx n k)⟩

theorem Spool.ok_append {q : Spool} (h : q.ok = true) (hroom : q.accepts = true) (x : Slot) : Spool.ok { q with slots := q.slots ++ [x] } = true := by
  obtain ⟨hl, hlast, hopen⟩ := q.ok_iff.mp h
  have hroom : q.slots.length + 2 ≤ q.depth := by simpa [Spool.accepts] using hroom
  refine (Spool.ok_iff _).mpr ⟨?_, .inl ?_, hopen.imp_right (fun ⟨y, hy, htag⟩ => ⟨y, List.mem_append_left _ hy, htag⟩)⟩
  all_goals
    rw [List.length_append, List.length_singleton]
    dsimp only
    omega

/-- The slots from the reserved one on. -/
theorem beforeReserved_append (l : List Slot) : beforeReserved l ++ l.dropWhile (fun x => x.tag != 3) = l := List.takeWhile_append_dropWhile

theorem beforeReserved_length_lt {l : List Slot} (h : ∃ x ∈ l, x.tag = 3) : (beforeReserved l).length < l.length := by
  induction l with
  | nil => obtain ⟨x, hx, -⟩ := h; cases hx
  | cons y l ih =>
    unfold beforeReserved
    rw [List.takeWhile_cons]
    split
    · next hy =>
      obtain ⟨x, hx, htag⟩ := h
      rcases List.mem_cons.mp hx with rfl | hx
      · simp [htag] at hy
      · exact Nat.succ_lt_succ (ih ⟨x, hx, htag⟩)
    · exact Nat.succ_pos _

theorem Spool.ok_withdraw {q : Spool} (h : q.ok = true) (b : Bool) : (q.withdraw b).ok = true := by
  obtain ⟨hl, -, hopen⟩ := q.ok_iff.mp h
  unfold Spool.withdraw
  split
  · next hsome =>
    have hshort := beforeReserved_length_lt (hopen.resolve_left (fun e => by rw [e] at hsome; cases hsome))
    rw [Spool.ok_wake]
    obtain ⟨hl', hlast'⟩ := addSnag_fits (d := q.depth) (by omega) (.inl (by omega)) 1 q.frameSeq.toNat (l := beforeReserved q.slots)
    exact Spool.ok_of_closed hl' (.inr hlast') rfl
  · exact h

theorem Spool.padLast_length (n : Nat) (words : List Slot) : (Spool.padLast n words).length = words.length := by
  unfold Spool.padLast
  split
  · rfl
  · rw [List.length_append, List.length_dropLast, List.length_map, List.length_drop]
    omega

/-- Padding changes no slot's kind. -/
theorem Spool.padLast_last_tag (n : Nat) {words : List Slot} {x : Slot} (h : words.getLast? = some x) :
    ∃ y, (Spool.padLast n words).getLast? = some y ∧ y.tag = x.tag := by
  unfold Spool.padLast
  split
  · exact ⟨x, h, rfl⟩
  · obtain ⟨init, rfl⟩ := List.getLast?_eq_some_iff.mp h
    simp

theorem Spool.ok_closeFrame {q : Spool} (h : q.ok = true) (x : Slot) (n : Nat)
    (hn : ((q.slots.dropWhile (fun x => x.tag != 3)).drop 1) ≠ []) (seq : U16) :
    Spool.ok { q with slots := beforeReserved q.slots ++ x :: Spool.padLast n ((q.slots.dropWhile (fun x => x.tag != 3)).drop 1), frameSeq := seq, openSince := none } = true := by
  obtain ⟨hl, hlast, -⟩ := q.ok_iff.mp h
  generalize hw : q.slots.dropWhile (fun x => x.tag != 3) = w at hn
  have hsplit : beforeReserved q.slots ++ w = q.slots := hw ▸ beforeReserved_append q.slots
  cases w with
  | nil => exact absurd rfl hn
  | cons y words =>
    rw [List.drop_one, List.tail_cons] at hn ⊢
    have hlen : (beforeReserved q.slots ++ x :: Spool.padLast n words).length = q.slots.length := by
      rw [← congrArg List.length hsplit, List.length_append, List.length_append, List.length_cons, List.length_cons, Spool.padLast_length]
    refine Spool.ok_of_closed (by rw [hlen]; exact hl) ?_ rfl
    rw [hlen]
    refine hlast.imp_right (fun ⟨z, hz, htag⟩ => ?_)
    have hwords : words.getLast? = some z := by
      rw [← hsplit, List.getLast?_append, List.getLast?_cons] at hz
      rw [List.getLast?_eq_getLast_of_ne_nil hn]
      simpa [List.getLast?_eq_getLast_of_ne_nil hn] using hz
    obtain ⟨v, hv, hvtag⟩ := Spool.padLast_last_tag n hwords
    refine ⟨v, ?_, hvtag.trans htag⟩
    rw [List.getLast?_append, List.getLast?_cons, hv]
    rfl

theorem Spool.write_depth (q : Spool) (now : Nat) (op : SpoolOp) : (q.write now op).depth = q.depth := by
  unfold Spool.write Spool.withdraw Spool.wake
  cases op with
  | word w => dsimp only; (repeat' split) <;> rfl
  | openFrame => dsimp only; (repeat' split) <;> rfl
  | frameWord w => dsimp only; (repeat' split) <;> rfl
  | closeFrame lw => dsimp only; (repeat' split) <;> rfl

theorem Spool.ok_write {q : Spool} (h : q.ok = true) (now : Nat) (op : SpoolOp) : (q.write now op).ok = true := by
  unfold Spool.write
  cases op with
  | word w =>
    dsimp only
    split
    · exact h
    · split
      · next hroom => exact Spool.ok_append h hroom _
      · split
        · exact h
        · exact Spool.ok_addSnag h 1 0
  | openFrame =>
    dsimp only
    split
    · exact h
    · next hfree =>
      split
      · next hroom =>
        obtain ⟨hl, hlast, -⟩ := (Spool.ok_iff _).mp (Spool.ok_append h hroom { tag := 3, word := 0 })
        exact (Spool.ok_iff _).mpr ⟨hl, hlast, .inr ⟨{ tag := 3, word := 0 }, by simp, rfl⟩⟩
      · split
        · exact h
        · exact Spool.ok_addSnag (q := q) h 1 q.frameSeq.toNat
  | frameWord w =>
    dsimp only
    split
    · exact h
    · split
      · next hroom => exact Spool.ok_append h hroom _
      · split
        · exact h
        · exact Spool.ok_withdraw h true
  | closeFrame lw =>
    dsimp only
    split
    · exact h
    · split
      · exact h
      · split
        · exact h
        · next hfit =>
          rw [Spool.ok_wake]
          refine Spool.ok_closeFrame h _ _ (fun hnil => ?_) _
          rw [hnil] at hfit
          simp only [List.length_nil] at hfit
          omega

theorem Spool.ok_producerLost {q : Spool} (h : q.ok = true) : q.producerLost.ok = true := by
  obtain ⟨hl, hlast, -⟩ := q.ok_iff.mp h
  have hsplit := beforeReserved_append q.slots
  have hle : (beforeReserved q.slots).length ≤ q.slots.length := by
    rw [← congrArg List.length hsplit, List.length_append]
    omega
  unfold Spool.producerLost
  dsimp only
  rw [Spool.ok_wake]
  split
  · next hroom =>
    refine Spool.ok_of_closed ?_ (.inr ⟨_, by rw [List.getLast?_concat], rfl⟩) rfl
    rw [List.length_append, List.length_singleton]
    exact hroom
  · next hfull =>
    have hall : beforeReserved q.slots = q.slots :=
      (List.takeWhile_prefix _).eq_of_length (by change (beforeReserved q.slots).length = _; omega)
    obtain ⟨hl', hlast'⟩ := addSnag_fits hl hlast 0xFFFFFFFF (if q.frames then q.frameSeq.toNat else 0)
    exact Spool.ok_of_closed (by rw [hall]; exact hl') (.inr (by rw [hall]; exact hlast')) rfl

theorem Spool.ok_consumerLost {q : Spool} (hd : 2 ≤ q.depth) : q.consumerLost.ok = true :=
  Spool.ok_of_closed (show 1 ≤ q.depth by omega) (.inl (show 1 < q.depth by omega)) rfl

theorem Spool.ok_rest {q : Spool} (h : q.ok = true) {x : Slot} {rest : List Slot} (hs : q.slots = x :: rest) (hx : x.tag ≠ 3) :
    Spool.ok { q with slots := rest } = true := by
  obtain ⟨hl, -, hopen⟩ := q.ok_iff.mp h
  rw [hs] at hl hopen
  rw [List.length_cons] at hl
  refine (Spool.ok_iff _).mpr ⟨by dsimp only; omega, .inl (by dsimp only; omega), hopen.imp_right (fun ⟨y, hy, htag⟩ => ?_)⟩
  rcases List.mem_cons.mp hy with rfl | hy
  · exact absurd htag hx
  · exact ⟨y, hy, htag⟩

/-! ### Reading a spool (01 R33, R38) -/

theorem State.modSpool_spool (s : State) (n : Nat) (f : Spool → Spool) : (s.modSpool n f).spool n = f (s.spool n) := by
  unfold State.modSpool State.spool
  simp

theorem State.modVia_spool (s : State) (n : Nat) (f : Viaduct → Viaduct) : (s.modVia f).spool n = s.spool n := rfl

theorem spoolRead_of_pick {s u : State} {n left : Nat} {x : Slot} {rest : List Slot} (hu : u = s.modSpool n (fun q => q))
    (hpick : (u.cellPick (s.spool n).consumer).all (fun k => k == n) = true) (hs : (s.spool n).slots = x :: rest) (h3 : x.tag ≠ 3) (h2 : x.tag ≠ 2)
    (hleft : left = if x.tag = 1 then (x.word.toNat % 65536 + 7) / 8 else if x.tag = 0 then (s.spool n).wordsLeft - 1 else 0) :
    spoolRead n s =
      let r := u.modSpool n (fun q => { q with
        slots := rest, stalled := false, taken := some x, wordsLeft := left,
        object := if x.tag = 1 then x.word.toNat / 281474976710656 else q.object,
        snagged := if x.tag = 2 then q.snagged + x.dropped else q.snagged })
      if left = 0 then r.modVia (fun v => { v with inputTurn := tput v.inputTurn (s.spool n).consumer.toNat n }) else r := by
  have hspool : u.spool n = s.spool n := by rw [hu, State.modSpool_spool]
  have hturn : ¬ (((u.cellPick (s.spool n).consumer).any (fun k => k != n)) = true ∧ (s.spool n).slots.head?.any (fun x => x.tag != 3) = true) := by
    rintro ⟨hother, -⟩
    cases hk : u.cellPick (s.spool n).consumer with
    | none => simp [hk] at hother
    | some k => simp_all
  unfold spoolRead
  rw [← hu]
  simp only [hspool]
  rw [if_neg hturn]
  simp only [hs]
  rw [if_neg h3, if_pos h2, ← hleft]

theorem spoolRead_of_other_turn {s u : State} {n k : Nat} (hu : u = s.modSpool n (fun q => q)) (hpick : u.cellPick (s.spool n).consumer = some k) (hk : k ≠ n)
    (hs : (s.spool n).slots.head?.any (fun x => x.tag != 3) = true) : spoolRead n s = u := by
  have hspool : u.spool n = s.spool n := by rw [hu, State.modSpool_spool]
  unfold spoolRead
  rw [← hu]
  simp only [hspool]
  rw [if_pos ⟨by simp [hpick, hk], hs⟩]

/-- Settles O46: a marker only joins another or takes the slot kept for it, and a read takes the front where the arbiter's turn is this spool's. -/
theorem spoolsKeepTheirReserve : Obligations.SpoolsKeepTheirReserve := by
  intro q now op hd hok
  refine ⟨Spool.ok_write hok now op, q.write_depth now op, Spool.ok_producerLost hok, Spool.ok_consumerLost hd, Spool.ok_withdraw hok,
    fun x rest hs hx => Spool.ok_rest hok hs hx, ?_, ?_⟩
  · rintro s u n left x rest rfl hu hpick hs h3 h2 hleft
    refine ⟨_, rfl, ?_⟩
    rw [spoolRead_of_pick hu hpick hs h3 h2 hleft]
    have hvia : u.fab.via = s.fab.via := by rw [hu]; rfl
    dsimp only
    split
    · rw [State.modVia_spool, State.modSpool_spool]
      refine ⟨rfl, rfl, rfl, rfl, fun _ => ?_⟩
      rw [← hvia]
      rfl
    · next h0 =>
      rw [State.modSpool_spool]
      exact ⟨rfl, rfl, rfl, rfl, fun h => absurd h h0⟩
  · rintro s u n k rfl hu hpick hk hs
    exact congrArg _ (spoolRead_of_other_turn hu hpick hk hs)

end Sys2Proof.Machine

end

section
/-! O51, O52: what a DMA descriptor writes, and what a failed access leaves. -/

namespace Sys2Proof.Machine
open Sys2Proof

/-! ### Host memory under posted writes (03 R82 to R84) -/

theorem memRead_put (m : List Host.Cell) (a : Nat) (b : Bytes) (x : Nat) :
    memRead (memPut m a b) x = if a ≤ x ∧ x < a + b.length then (b[x - a]?).getD 0 else memRead m x := by
  split
  · next h =>
    obtain ⟨k, rfl⟩ : ∃ k, x = a + k := ⟨x - a, by omega⟩
    have hk : k < b.length := by omega
    rw [memRead_put_inside m a b k hk, Nat.add_sub_cancel_left, List.getElem?_eq_getElem hk]
    rfl
  · exact memRead_put_outside m a b (by omega)

/-- The last write that covers an address gives its byte. -/
theorem memRead_puts (l : List (Nat × Bytes)) (m : List Host.Cell) (x : Nat) :
    memRead (l.foldl (fun h w => memPut h w.1 w.2) m) x =
      match l.reverse.find? (fun w => decide (w.1 ≤ x) && decide (x < w.1 + w.2.length)) with
      | some w => (w.2[x - w.1]?).getD 0
      | none => memRead m x := by
  induction l using List.reverseRecOn with
  | nil => rfl
  | append_singleton l w ih =>
    rw [List.foldl_append, List.foldl_cons, List.foldl_nil, memRead_put, ih, List.reverse_append, List.reverse_singleton, List.singleton_append,
      List.find?_cons]
    by_cases h : w.1 ≤ x ∧ x < w.1 + w.2.length
    · rw [if_pos h]
      simp [h]
    · rw [if_neg h]
      have : (decide (w.1 ≤ x) && decide (x < w.1 + w.2.length)) = false := by simpa using h
      rw [this]

theorem State.memRead_landed (s : State) (x : Nat) : memRead s.landed x = s.hostByte x := by
  rw [State.landed, memRead_puts]
  rfl

theorem State.hostByte_of_settled {s : State} (h : s.postedAll = []) (x : Nat) : s.hostByte x = memRead s.mem.host x := by
  simp [State.hostByte, h]

theorem State.landed_of_settled {s : State} (h : s.postedAll = []) : s.landed = s.mem.host := by
  simp [State.landed, h]

theorem State.postedAll_landPosted (s : State) : s.landPosted.postedAll = [] := by
  simp [State.postedAll, State.landPosted, State.box]

/-! ### A channel's write -/

theorem State.dmaPut_host {s : State} {a : Nat} (ha : State.isHost a = true) (b : Bytes) :
    (s.dmaPut a b).postedAll = [] ∧ (s.dmaPut a b).mem.host = memPut s.landed (a - 9223372036854775808) b ∧ (s.dmaPut a b).mem.dram = s.mem.dram := by
  unfold State.dmaPut
  rw [if_pos ha]
  by_cases h : s.postedAll.isEmpty = true
  · have hnil : s.postedAll = [] := List.isEmpty_iff.mp h
    rw [if_pos h, State.landed_of_settled hnil]
    exact ⟨hnil, rfl, rfl⟩
  · rw [if_neg h]
    exact ⟨s.postedAll_landPosted, rfl, rfl⟩

theorem State.dmaPut_dram {s : State} {a : Nat} (ha : State.isHost a = false) (b : Bytes) :
    s.dmaPut a b = s.modMem (fun m => { m with dram := memPut m.dram a b }) := by
  simp [State.dmaPut, ha]

theorem isHost_iff (a : Nat) : State.isHost a = true ↔ 9223372036854775808 ≤ a := by simp [State.isHost]

/-- What a channel's write leaves at an address: the range runs on in the memory that its first address names. -/
theorem State.dmaPut_storedByte (s : State) (a : Nat) (b : Bytes) (x : Nat) :
    (s.dmaPut a b).storedByte x = if State.isHost a = State.isHost x ∧ a ≤ x ∧ x < a + b.length then (b[x - a]?).getD 0 else s.storedByte x := by
  unfold State.storedByte
  cases ha : State.isHost a with
  | true =>
    obtain ⟨hposted, hhost, hdram⟩ := State.dmaPut_host (s := s) ha b
    have hle := (isHost_iff a).mp ha
    cases hx : State.isHost x with
    | true =>
      have hlex := (isHost_iff x).mp hx
      rw [if_pos rfl, if_pos rfl, State.hostByte_of_settled hposted, hhost, memRead_put, State.memRead_landed,
        show x - 9223372036854775808 - (a - 9223372036854775808) = x - a by omega]
      by_cases hin : a ≤ x ∧ x < a + b.length
      · rw [if_pos (by omega), if_pos ⟨rfl, hin⟩]
      · rw [if_neg (by omega), if_neg (fun h => hin h.2)]
    | false => simp [hdram]
  | false =>
    rw [State.dmaPut_dram ha]
    cases hx : State.isHost x with
    | true => simp; rfl
    | false => simp [memRead_put]

theorem State.dmaPut_outside (s : State) {a : Nat} {b : Bytes} {x : Nat} (h : x < a ∨ a + b.length ≤ x) : (s.dmaPut a b).storedByte x = s.storedByte x := by
  rw [State.dmaPut_storedByte, if_neg (by omega)]

theorem State.dmaBytes_length (s : State) (a n : Nat) : (s.dmaBytes a n).length = n := by simp [State.dmaBytes]

theorem State.dmaPut_dmaOf (s : State) (a : Nat) (b : Bytes) (c : Fin 16) : (s.dmaPut a b).dmaOf c = s.dmaOf c := by
  unfold State.dmaPut
  split
  · split <;> rfl
  · rfl

theorem State.copied_dmaOf (s : State) (d : Desc) (n : Nat) (c : Fin 16) : (s.copied d n).dmaOf c = s.dmaOf c := by
  unfold State.copied
  exact State.dmaPut_dmaOf ..

/-- A copy of at most COUNT bytes stays in the destination. -/
theorem State.copied_outside (s : State) (d : Desc) {n x : Nat} (hn : n ≤ d.count.toNat) (hx : x < d.dst.toNat ∨ d.dst.toNat + d.count.toNat ≤ x) :
    (s.copied d n).storedByte x = s.storedByte x := by
  unfold State.copied
  refine State.dmaPut_outside _ ?_
  rw [State.dmaBytes_length]
  split <;> omega

theorem State.copied_whole (s : State) (d : Desc) (h : State.isHost d.dst.toNat = State.isHost (d.dst.toNat + d.count.toNat - 1)) {k : Nat}
    (hk : k < d.count.toNat) : (s.copied d d.count.toNat).storedByte (d.dst.toNat + k) = s.dmaByte (d.src.toNat + k) := by
  have hsame : State.isHost d.dst.toNat = State.isHost (d.dst.toNat + k) := by
    have hiff : State.isHost d.dst.toNat = true ↔ State.isHost (d.dst.toNat + d.count.toNat - 1) = true := by rw [h]
    rw [isHost_iff, isHost_iff] at hiff
    rw [Bool.eq_iff_iff, isHost_iff, isHost_iff]
    omega
  unfold State.copied
  rw [Nat.sub_self, ite_self]
  dsimp only
  rw [Nat.add_zero, Nat.add_zero, State.dmaPut_storedByte, State.dmaBytes_length, if_pos ⟨hsame, by omega, by omega⟩,
    Nat.add_sub_cancel_left]
  simp [State.dmaBytes, hk]

/-! ### The accesses of a range -/

theorem pieceLen_le {a left : Nat} (h : left ≠ 0) : pieceLen a left ≤ left := by
  unfold pieceLen
  (repeat' split) <;> omega

theorem pieces_sum_le (fuel a left : Nat) : ((pieces fuel a left).map (·.2)).sum ≤ left := by
  induction fuel generalizing a left with
  | zero => exact Nat.zero_le _
  | succ fuel ih =>
    unfold pieces
    split
    · exact Nat.zero_le _
    · next h =>
      have := ih (a + pieceLen a left) (left - pieceLen a left)
      have := pieceLen_le (a := a) h
      rw [List.map_cons, List.sum_cons]
      omega

theorem orderOf_sum_le (d : Desc) (a : Nat) : ((State.orderOf d a).map (·.2)).sum ≤ d.count.toNat := by
  unfold State.orderOf splitRange
  split
  · rw [List.map_reverse, List.sum_reverse]
    exact pieces_sum_le ..
  · exact pieces_sum_le ..

theorem upTo_le (bad : Nat × Nat → Bool) (l : List (Nat × Nat)) : (upTo bad l).1 ≤ (l.map (·.2)).sum := by
  induction l with
  | nil => exact Nat.le_refl 0
  | cons p l ih =>
    unfold upTo
    split
    · exact Nat.zero_le _
    · rw [List.map_cons, List.sum_cons]
      dsimp only
      omega

theorem upTo_bad {bad : Nat × Nat → Bool} {l : List (Nat × Nat)} {p : Nat × Nat} (h : (upTo bad l).2 = some p) : bad p = true := by
  induction l with
  | nil => cases h
  | cons q l ih =>
    unfold upTo at h
    split at h
    · next hq => cases h; exact hq
    · exact ih h

theorem wholeWithin_le (n : Nat) (l : List (Nat × Nat)) : wholeWithin n l ≤ (l.map (·.2)).sum := by
  induction l generalizing n with
  | nil => exact Nat.le_refl 0
  | cons p l ih =>
    unfold wholeWithin
    have := ih (n - p.2)
    rw [List.map_cons, List.sum_cons]
    split <;> omega

theorem upTo_orderOf_le (bad : Nat × Nat → Bool) (d : Desc) (a : Nat) : (upTo bad (State.orderOf d a)).1 ≤ d.count.toNat :=
  (upTo_le _ _).trans (orderOf_sum_le d a)

theorem wholeWithin_orderOf_le (n : Nat) (d : Desc) (a : Nat) : wholeWithin n (State.orderOf d a) ≤ d.count.toNat :=
  (wholeWithin_le _ _).trans (orderOf_sum_le d a)

/-! ### The parts of a descriptor -/

theorem State.dmaData_outside (s : State) (c : Fin 16) (d : Desc) {x : Nat} (hx : x < d.dst.toNat ∨ d.dst.toNat + d.count.toNat ≤ x) :
    (s.dmaData c d).1.storedByte x = s.storedByte x := by
  unfold State.dmaData
  dsimp only
  (repeat' split)
  · exact s.copied_outside d (Nat.le_refl _) hx
  · exact s.copied_outside d (upTo_orderOf_le ..) hx
  · exact s.copied_outside d (wholeWithin_orderOf_le ..) hx
  · exact s.copied_outside d (upTo_orderOf_le ..) hx
  · exact s.copied_outside d (wholeWithin_orderOf_le ..) hx

/-- Where every access may be made, the whole range is copied. -/
theorem State.dmaData_whole {s : State} {c : Fin 16} {d : Desc} (h : (s.dmaData c d).2 = none) : s.dmaData c d = (s.copied d d.count.toNat, none) := by
  have hread : ∀ p, (upTo (fun p => (s.accessErr c false p.1 p.2).isSome) (State.orderOf d d.src.toNat)).2 = some p →
      (s.accessErr c false p.1 p.2).isSome = true := fun p hp => upTo_bad hp
  have hwrite : ∀ p, (upTo (fun p => (s.accessErr c true p.1 p.2).isSome) (State.orderOf d d.dst.toNat)).2 = some p →
      (s.accessErr c true p.1 p.2).isSome = true := fun p hp => upTo_bad hp
  unfold State.dmaData at h ⊢
  dsimp only at h ⊢
  split at h
  · next hr hw => simp only [hr, hw]
  · next w hw =>
    have := hwrite w hw
    split at h
    · simp_all
    · split at h
      · next r hr => have := hread r hr; simp_all
      · simp_all
  · next r hr hw =>
    have := hread r hr
    simp_all

theorem State.dmaCrc_outside (s : State) (c : Fin 16) (d : Desc) (v : U32) {x : Nat}
    (hx : d.crc = true → x < d.crcAddr.toNat ∨ d.crcAddr.toNat + 4 ≤ x) : (s.dmaCrc c d v).1.storedByte x = s.storedByte x := by
  unfold State.dmaCrc
  split
  · rfl
  · next hcrc =>
    split
    · rfl
    · exact s.dmaPut_outside (by rw [length_le]; exact hx (by simpa using hcrc))

theorem State.dmaDone_outside (s : State) (c : Fin 16) (d : Desc) {x : Nat}
    (hx : d.addr ≠ 0 → x < d.addr.toNat + 0x28 ∨ d.addr.toNat + 0x2C ≤ x) : (s.dmaDone c d).1.storedByte x = s.storedByte x := by
  unfold State.dmaDone
  split
  · rfl
  · next haddr =>
    split
    · rfl
    · exact s.dmaPut_outside (by rw [length_le]; exact hx haddr)

/-! ### Going on after a descriptor -/

/-- A part of a step that moves no byte and counts no descriptor of channel c. -/
structure State.DmaStill (c : Fin 16) (s t : State) : Prop where
  byte : ∀ x, t.storedByte x = s.storedByte x
  done : (t.dmaOf c).descDone = (s.dmaOf c).descDone

namespace State.DmaStill

variable {c : Fin 16} {s t u : State}

theorem refl (c : Fin 16) (s : State) : State.DmaStill c s s := ⟨fun _ => rfl, rfl⟩

theorem trans (h : State.DmaStill c s t) (k : State.DmaStill c t u) : State.DmaStill c s u :=
  ⟨fun x => (k.byte x).trans (h.byte x), k.done.trans h.done⟩

theorem ite {p : Prop} [Decidable p] (h : State.DmaStill c s t) (k : State.DmaStill c s u) : State.DmaStill c s (if p then t else u) := by
  split <;> assumption

end State.DmaStill

theorem State.modDma_dmaOf (s : State) (c : Fin 16) (f : Dma → Dma) : (s.modDma c f).dmaOf c = f (s.dmaOf c) := by
  unfold State.modDma State.dmaOf
  exact Vector.getElem_set_self (xs := s.dma) c.isLt

theorem State.modDma_still {s : State} {c : Fin 16} {f : Dma → Dma} (h : (f (s.dmaOf c)).descDone = (s.dmaOf c).descDone) : State.DmaStill c s (s.modDma c f) :=
  ⟨fun _ => rfl, by rw [State.modDma_dmaOf, h]⟩

theorem State.modBox_box (s : State) (m k : Mbx) (f : Mailbox → Mailbox) : (s.modBox m f).box k = if k = m then f (s.box m) else s.box k := by
  unfold State.modBox State.setBox State.box
  split
  · next h =>
    subst h
    exact Vector.getElem_set_self (xs := s.pl.boxes) k.isLt
  · next h => exact Vector.getElem_set_ne (xs := s.pl.boxes) m.isLt k.isLt (fun e => h (Fin.ext e.symm))

theorem State.modBox_storedByte {s : State} {m : Mbx} {f : Mailbox → Mailbox} (h : (f (s.box m)).posted = (s.box m).posted) (x : Nat) :
    (s.modBox m f).storedByte x = s.storedByte x := by
  have hposted : (s.modBox m f).postedAll = s.postedAll := by
    unfold State.postedAll
    congr 1
    funext k
    rw [State.modBox_box]
    split
    · next hk => rw [h, hk]
    · rfl
  unfold State.storedByte State.hostByte
  rw [hposted]
  rfl

theorem State.modBox_still {s : State} {m : Mbx} {f : Mailbox → Mailbox} (h : (f (s.box m)).posted = (s.box m).posted) (c : Fin 16) :
    State.DmaStill c s (s.modBox m f) := ⟨State.modBox_storedByte h, rfl⟩

theorem State.dmaIrq_still (s : State) (c : Fin 16) (b : Nat) : State.DmaStill c s (s.dmaIrq c b) := by
  unfold State.dmaIrq
  refine .ite (.refl c s) ?_
  extract_lets s1
  have h1 : State.DmaStill c s s1 := State.modDma_still rfl
  exact .ite h1 (.ite (h1.trans (State.modDma_still rfl)) (h1.trans (State.modBox_still rfl c)))

theorem State.dmaHalt_still (s : State) (c : Fin 16) (e : DmaError) (a : Nat) (write : Bool) : State.DmaStill c s (s.dmaHalt c e a write) :=
  .trans (State.modDma_still rfl) (State.dmaIrq_still ..)

theorem State.dmaRefuse_still (s : State) (c : Fin 16) (e : DmaError) : State.DmaStill c s (s.dmaRefuse c e) :=
  .trans (t := { s with draws := s.draws + 2 }) ⟨fun _ => rfl, rfl⟩ (State.dmaHalt_still ..)

theorem State.dmaBegin_still (s : State) (c : Fin 16) (d : Desc) (ahead : List Desc) : State.DmaStill c s (s.dmaBegin c d ahead) := by
  unfold State.dmaBegin
  extract_lets s1 more
  have h1 : State.DmaStill c s s1 := State.modDma_still rfl
  exact .ite (h1.trans (State.dmaRefuse_still ..)) (.ite (h1.trans (State.dmaRefuse_still ..)) (h1.trans (State.modDma_still rfl)))

theorem State.dmaLink_still (s : State) (c : Fin 16) (a : U64) : State.DmaStill c s (s.dmaLink c a) := by
  unfold State.dmaLink
  split
  · exact .trans (State.modDma_still rfl) (State.dmaHalt_still ..)
  · exact State.dmaBegin_still ..

theorem State.dmaTail_still (s : State) (c : Fin 16) (d : Desc) (stopping : Bool) : State.DmaStill c s (s.dmaTail c d stopping) := by
  have hpark : ∀ (s : State) (f : Dma → Dma) (b : Nat), (∀ x, (f x).descDone = x.descDone) → State.DmaStill c s ((s.modDma c f).dmaIrq c b) :=
    fun s f b h => .trans (State.modDma_still (h _)) (State.dmaIrq_still ..)
  unfold State.dmaTail
  dsimp only
  split
  · refine .trans (t := s.modDma c (fun x => { x with doorbell := false })) (State.modDma_still rfl) ?_
    split
    · exact State.dmaHalt_still ..
    · exact .ite (hpark _ _ _ fun _ => rfl) (hpark _ _ _ fun _ => rfl)
    · exact .ite (hpark _ _ _ fun _ => rfl) (State.dmaLink_still ..)
  · exact .ite (hpark _ _ _ fun _ => rfl) (hpark _ _ _ fun _ => rfl)

/-! ### A whole descriptor (15 R399 to R402) -/

/-- The end of a descriptor whose accesses were all made, for a channel as it was: the counts, the interrupt, and the next descriptor (15 R402, R405). -/
def State.dmaGoesOn (s : State) (c : Fin 16) (d : Desc) (ch : Dma) : State :=
  let s := s.modDma c (fun x => { x with descDone := x.descDone + 1, doneRun := x.doneRun + 1 })
  let s := if d.irq then s.dmaIrq c 0 else s
  let stopping := ch.state == .stopping
  if d.last then s.dmaTail c d stopping
  else if stopping then (s.modDma c (fun x => { x with state := .stopped, cur := d.link, desc := none, ahead := [], doorbell := false })).dmaIrq c 2
  else match ch.ahead with
    | x :: rest => s.dmaBegin c x rest
    | [] => s.dmaLink c d.link

theorem State.dmaGoesOn_still (s : State) (c : Fin 16) (d : Desc) (ch : Dma) :
    State.DmaStill c (s.modDma c (fun x => { x with descDone := x.descDone + 1, doneRun := x.doneRun + 1 })) (s.dmaGoesOn c d ch) := by
  unfold State.dmaGoesOn
  extract_lets s1 s2 stopping
  have h2 : State.DmaStill c s1 s2 := .ite (State.dmaIrq_still ..) (.refl c s1)
  refine .trans h2 (.ite (State.dmaTail_still ..) (.ite (.trans (State.modDma_still rfl) (State.dmaIrq_still ..)) ?_))
  split
  · exact State.dmaBegin_still ..
  · exact State.dmaLink_still ..

/-- A descriptor with no CRC word and no DONE word whose accesses may all be made is copied whole, and the channel goes on. -/
theorem dmaDescriptorDone_of_plain {c : Fin 16} {s : State} {d : Desc} (hs : (s.dmaOf c).state = .running ∨ (s.dmaOf c).state = .stopping)
    (hd : (s.dmaOf c).desc = some d) (hawake : s.pwr.asleep = false) (hdata : (s.dmaData c d).2 = none) (hcrc : d.crc = false) (haddr : d.addr = 0) :
    dmaDescriptorDone c s = (s.copied d d.count.toNat).dmaGoesOn c d (s.dmaOf c) := by
  have hrun : ¬ (((s.dmaOf c).state ≠ .running ∧ (s.dmaOf c).state ≠ .stopping) ∨ s.pwr.asleep = true) := by
    rw [hawake]
    tauto
  unfold dmaDescriptorDone
  simp only [hd]
  rw [if_neg hrun, State.dmaData_whole hdata]
  simp only [State.dmaCrc, hcrc, Bool.not_false, if_true, State.dmaDone, haddr]
  rfl

theorem dmaDescriptorDone_storedByte {c : Fin 16} {s : State} {d : Desc} (hd : (s.dmaOf c).desc = some d) {x : Nat}
    (hx : x < d.dst.toNat ∨ d.dst.toNat + d.count.toNat ≤ x) (hcrc : d.crc = true → x < d.crcAddr.toNat ∨ d.crcAddr.toNat + 4 ≤ x)
    (haddr : d.addr ≠ 0 → x < d.addr.toNat + 0x28 ∨ d.addr.toNat + 0x2C ≤ x) : (dmaDescriptorDone c s).storedByte x = s.storedByte x := by
  unfold dmaDescriptorDone
  simp only [hd]
  split
  · rfl
  · have hdata := s.dmaData_outside c d hx
    split
    · next h => rw [h] at hdata; exact ((State.dmaHalt_still ..).byte x).trans hdata
    · next s1 h =>
      rw [h] at hdata
      refine .trans ?_ hdata
      have hcrc' := s1.dmaCrc_outside c d (crc32c (s.dmaBytes d.src.toNat d.count.toNat)) hcrc
      split
      · next h => rw [h] at hcrc'; exact ((State.dmaHalt_still ..).byte x).trans hcrc'
      · next s2 h =>
        rw [h] at hcrc'
        refine .trans ?_ hcrc'
        have hdone := s2.dmaDone_outside c d haddr
        split
        · next h => rw [h] at hdone; exact ((State.dmaHalt_still ..).byte x).trans hdone
        · next s3 h =>
          rw [h] at hdone
          refine .trans ?_ hdone
          exact (s3.dmaGoesOn_still c d (s.dmaOf c)).byte x

/-- Settles O51: each part of a descriptor writes its own range, and a plain one copies its bytes whole. -/
theorem descriptorCopiesItsBytes : Obligations.DescriptorCopiesItsBytes := by
  intro s c d hs hd hawake
  refine ⟨_, rfl, fun x hx hcrc haddr => dmaDescriptorDone_storedByte hd hx hcrc haddr, fun hdata hcrc haddr hsame => ?_⟩
  rw [dmaDescriptorDone_of_plain hs hd hawake hdata hcrc haddr]
  obtain ⟨hbyte, hdone⟩ := (s.copied d d.count.toNat).dmaGoesOn_still c d (s.dmaOf c)
  refine ⟨fun k hk => (hbyte _).trans (s.copied_whole d hsame hk), ?_⟩
  rw [hdone, State.modDma_dmaOf, State.copied_dmaOf]

/-! ### A failed access (15 R404) -/

theorem State.dmaIrq_dmaOf (s : State) (c : Fin 16) (b : Nat) : ∃ irq msgs, (s.dmaIrq c b).dmaOf c = { s.dmaOf c with irq, msgs } ∧ (b < 4 → irq.getLsbD b = true) := by
  have hset : ∀ q : BitVec 4, b < 4 → (q ||| BitVec.ofNat 4 (2 ^ b)).getLsbD b = true := fun q hb => by
    interval_cases b <;> simp
  unfold State.dmaIrq
  split
  · next h => exact ⟨_, _, rfl, fun _ => h⟩
  · dsimp only
    split
    · exact ⟨_, _, State.modDma_dmaOf .., hset _⟩
    · split
      · exact ⟨_, _, by rw [State.modDma_dmaOf, State.modDma_dmaOf], hset _⟩
      · exact ⟨_, _, (State.modDma_dmaOf s c (fun d => { d with irq := d.irq ||| BitVec.ofNat 4 (2 ^ b) }) :), hset _⟩

theorem State.dmaHalt_dmaOf (s : State) (c : Fin 16) (e : DmaError) (a : Nat) (write : Bool) :
    ((s.dmaHalt c e a write).dmaOf c).state = .halted ∧ ((s.dmaHalt c e a write).dmaOf c).cause = dmaCause e ∧
    ((s.dmaHalt c e a write).dmaOf c).failAddr = BitVec.ofNat 64 a ∧ ((s.dmaHalt c e a write).dmaOf c).dir = write ∧
    ((s.dmaHalt c e a write).dmaOf c).desc = none ∧ ((s.dmaHalt c e a write).dmaOf c).irq.getLsbD 3 = true ∧
    ((s.dmaHalt c e a write).dmaOf c).cur = (s.dmaOf c).cur := by
  unfold State.dmaHalt
  generalize hu : s.modDma c _ = u
  obtain ⟨irq, msgs, heq, hirq⟩ := u.dmaIrq_dmaOf c 3
  rw [heq, ← hu, State.modDma_dmaOf]
  exact ⟨rfl, rfl, rfl, rfl, rfl, hirq (by omega), rfl⟩

/-- The copy before a failed access, on the writing or on the reading side, stays within the descriptor's count. -/
theorem stopped_le {p : Prop} [Decidable p] {bad : Nat × Nat → Bool} {d : Desc} {n : Nat}
    (h : (if p then (upTo bad (State.orderOf d d.dst.toNat)).2.map (fun _ => (upTo bad (State.orderOf d d.dst.toNat)).1)
      else ((upTo bad (State.orderOf d d.src.toNat)).2.map (fun _ => (upTo bad (State.orderOf d d.src.toNat)).1)).map
        (fun n => wholeWithin n (State.orderOf d d.dst.toNat))) = some n) : n ≤ d.count.toNat := by
  split at h
  · obtain ⟨_, _, rfl⟩ := Option.map_eq_some_iff.mp h
    exact upTo_orderOf_le ..
  · obtain ⟨m, _, rfl⟩ := Option.map_eq_some_iff.mp h
    exact wholeWithin_orderOf_le ..

/-- A failure outside the device: the copy stops within the destination, and the channel halts. -/
theorem dmaError_of_access {c : Fin 16} {s : State} {d : Desc} {e : DmaError} (hs : (s.dmaOf c).state = .running ∨ (s.dmaOf c).state = .stopping)
    (hd : (s.dmaOf c).desc = some d) (he : e = .readError ∨ e = .writeError ∨ e = .poisoned) (a : Nat) (write : Bool) :
    ∃ u, dmaError c e a write s = State.dmaHalt u c e a (e == .writeError || (e == .readError && write)) ∧ (u = s ∨ ∃ n ≤ d.count.toNat, u = s.copied d n) := by
  have hrun : ¬ ((s.dmaOf c).state ≠ .running ∧ (s.dmaOf c).state ≠ .stopping) := by tauto
  unfold dmaError
  dsimp only
  rw [if_neg hrun]
  simp only [hd]
  rcases he with rfl | rfl | rfl
  all_goals
    refine ⟨_, rfl, ?_⟩
    split
    · next n hn => exact .inr ⟨n, stopped_le hn, rfl⟩
    · split
      · exact .inr ⟨_, Nat.le_refl _, rfl⟩
      · exact .inl rfl

/-- Settles O52: the channel halts with the failure latched, after a copy within the destination. -/
theorem failedAccessHaltsItsChannel : Obligations.FailedAccessHaltsItsChannel := by
  intro s c e a write d hs hd he
  obtain ⟨u, heq, hu⟩ := dmaError_of_access hs hd he a.toNat write
  obtain ⟨hstate, hcause, haddr, hdir, hdesc, hirq, hcur⟩ := u.dmaHalt_dmaOf c e a.toNat (e == .writeError || (e == .readError && write))
  refine ⟨_, congrArg Host.Outcome.next heq, hstate, hcause, haddr.trans (by simp), hdir, hdesc, hirq, hcur.trans ?_, fun x hx => ((State.dmaHalt_still ..).byte x).trans ?_⟩
  · rcases hu with rfl | ⟨n, -, rfl⟩
    · rfl
    · rw [State.copied_dmaOf]
  · rcases hu with rfl | ⟨n, hn, rfl⟩
    · rfl
    · exact s.copied_outside d hn hx

end Sys2Proof.Machine

end

section
/-! O54: what the sensors decide. -/

namespace Sys2Proof.Machine
open Sys2Proof

/-- Keystone with 32 good readings taken (16 R426). -/
def State.sensed (s : State) (vs : List (Option Int)) : State :=
  { s with ks := { s.ks with prev := s.ks.sensors, sensors := vs, failed := [] } }

/-- A sensor read at TRIP_C or above twice in a row (16 R427). -/
def hotTwice (limit : Int) (vs prev : List (Option Int)) (i : Nat) : Bool :=
  ((vs[i]?).join).any (fun v => decide (limit ≤ v)) && ((prev[i]?).join).any (fun v => decide (limit ≤ v))

/-- The end of a reading without a trip: the warning near the trip, and the throttle ladder. -/
def State.sensedCalm (s : State) (limit : Int) : State :=
  let h := s.ks.hottest.elim (-320) (·.2)
  let near := decide (limit - 40 ≤ h)
  let u := if near ∧ !s.ks.nearTold then s.ksEvent 5 0xFF 0xFFFF s.ksTempWord 0 else s
  (({ u with ks := { u.ks with nearTold := near } } : State).ladder h).fin

/-- What a reading in which every sensor works decides. -/
theorem sensorRead_of_good {s : State} {vs : List (Option Int)} (hl : vs.length = 32) (hr : s.pins.resetN = true)
    (hs : s.ks.state = .run ∨ s.ks.state = .hold) (hf : s.ks.failed = []) (hok : ∀ v ∈ vs, sensorOk v = true) :
    sensorRead vs s =
      match (List.range 32).find? (hotTwice (8 * (s.ks.policy.tripC : Int)) vs s.ks.sensors) with
      | some i => ((s.sensed vs).trip 0 i (((vs[i]?).join).elim 0 (fun v => (BitVec.ofInt 32 v).toNat)) true).modKs (fun k => { k with clearSince := none })
      | none => (s.sensed vs).sensedCalm (8 * (s.ks.policy.tripC : Int)) := by
  have hup : ¬ ((!s.pins.resetN) = true ∨ s.ks.state = .boot ∨ s.ks.state = .park) := by
    rcases hs with h | h <;> simp [hr, h]
  have htake : (vs ++ List.replicate 32 none).take 32 = vs := by
    rw [← hl, List.take_left]
  have hfresh : (List.range 32).filter (fun i => !sensorOk ((vs[i]?).join) && !s.ks.failed.contains i) = [] := by
    rw [List.filter_eq_nil_iff]
    intro i hi
    have hi : i < vs.length := by rw [hl]; exact List.mem_range.mp hi
    have := hok _ (List.getElem_mem hi)
    simp [List.getElem?_eq_getElem hi, this]
  have hgood : (List.range 32).filter (fun i => !([] : List Nat).contains i) = List.range 32 := by simp
  have htrip : s.ks.state ≠ .trip := by rcases hs with h | h <;> simp [h]
  unfold sensorRead
  rw [if_neg hup, htake]
  dsimp only
  rw [hfresh]
  simp only [List.foldl_nil, hf, List.append_nil, hgood]
  rw [if_neg htrip]
  rfl

/-! ### No sensor near the trip -/

/-- The hottest reading is one of the readings. -/
theorem Keystone.hottest_lt {k : Keystone} {b : Int} (h : ∀ v ∈ k.sensors, ∀ x, v = some x → x < b) (hb : -320 < b) : k.hottest.elim (-320) (·.2) < b := by
  have hread : ∀ i x, (k.sensors[i]?).join = some x → x < b := fun i x hx =>
    h _ (List.mem_of_getElem? (Option.join_eq_some_iff.mp hx)) x rfl
  unfold Keystone.hottest
  refine List.foldlRecOn (motive := fun (acc : Option (Nat × Int)) => acc.elim (-320) (·.2) < b) _ _ hb (fun acc hacc i _ => ?_)
  cases hv : (k.sensors[i]?).join with
  | none => exact hacc
  | some v =>
    have hvb := hread i v hv
    dsimp only
    split
    · exact hacc
    · split
      · split
        · exact hvb
        · exact hacc
      · exact hvb

theorem State.mirror_ks (s : State) (n : Nat) : (s.mirror n).ks = s.ks := by rw [State.mirror_eq]

theorem State.sendFrame_ks (s : State) (n : Nat) : (s.sendFrame n).ks = s.ks := by
  unfold State.sendFrame
  split <;> rfl

theorem State.decideLevel_ks (s : State) : s.decideLevel.ks = s.ks := by
  simp [State.decideLevel, apply_ite State.ks, State.sendFrame_ks, State.mirror_ks]

theorem State.ladder_ks (s : State) (hot : Int) : (s.ladder hot).ks = s.ks := by
  simp only [State.ladder, apply_ite State.ks, State.decideLevel_ks, ite_self]

theorem State.sensedCalm_ks {s : State} {limit : Int} (h : s.ks.hottest.elim (-320) (·.2) < limit - 40) :
    (s.sensedCalm limit).ks = { s.ks with nearTold := false } := by
  have hfar : decide (limit - 40 ≤ s.ks.hottest.elim (-320) (·.2)) = false := by
    rw [decide_eq_false_iff_not]
    omega
  unfold State.sensedCalm
  simp only [hfar, State.fin_ks, State.ladder_ks]
  simp

theorem hotTwice_eq_false {limit : Int} {vs prev : List (Option Int)} (h : ∀ v ∈ vs, ∀ x, v = some x → x < limit) (i : Nat) : hotTwice limit vs prev i = false := by
  unfold hotTwice
  cases hi : (vs[i]?).join with
  | none => rfl
  | some x =>
    have hx := h (some x) (List.mem_of_getElem? (Option.join_eq_some_iff.mp hi)) x rfl
    simp [show ¬ limit ≤ x by omega]

/-! ### A trip -/

theorem State.ksLog_pl_mem (s : State) (cause detail value : Nat) : (s.ksLog cause detail value).pl = s.pl ∧ (s.ksLog cause detail value).mem = s.mem := by
  unfold State.ksLog
  dsimp only
  split <;> exact ⟨rfl, rfl⟩

theorem State.landed_congr {s t : State} (hpl : t.pl = s.pl) (hmem : t.mem = s.mem) : t.landed = s.landed := by
  unfold State.landed State.postedAll State.box
  rw [hpl, hmem]

theorem State.trip_thermal (s : State) (detail value : Nat) :
    (s.trip 0 detail value true).ks.state = .trip ∧ (s.trip 0 detail value true).ks.released = false ∧ (s.trip 0 detail value true).ks.tripThermal = true ∧
    (s.trip 0 detail value true).ks.trips.getLsbD 0 = true ∧ (s.trip 0 detail value true).mem.host = s.landed ∧ (s.trip 0 detail value true).mem.dram = [] := by
  obtain ⟨hpl, hmem⟩ := s.ksLog_pl_mem 0 detail value
  exact ⟨rfl, rfl, rfl, by simp [State.trip], State.landed_congr hpl hmem, rfl⟩

theorem find_hotTwice {limit : Int} {vs prev : List (Option Int)} (hl : vs.length = 32) {i : Nat} {x y : Int} (hx : vs[i]? = some (some x))
    (hy : prev[i]? = some (some y)) (hlx : limit ≤ x) (hly : limit ≤ y) : ∃ k, (List.range 32).find? (hotTwice limit vs prev) = some k := by
  have hi : i < 32 := hl ▸ (List.getElem?_eq_some_iff.mp hx).1
  exact Option.isSome_iff_exists.mp (List.find?_isSome.mpr ⟨i, List.mem_range.mpr hi, by simp [hotTwice, hx, hy, hlx, hly]⟩)

/-- Settles O54: readings below the warning leave Keystone's state, two at TRIP_C trip. -/
theorem sensorsDecideTheTrip : Obligations.SensorsDecideTheTrip := by
  intro s vs hl hr hs hf hok
  have hread := sensorRead_of_good hl hr hs hf hok
  refine ⟨fun hcold => ⟨_, rfl, ?_⟩, fun i x y hx hy hlx hly => ⟨_, rfl, ?_⟩⟩
  · have hnone : (List.range 32).find? (hotTwice (8 * (s.ks.policy.tripC : Int)) vs s.ks.sensors) = none := by
      rw [List.find?_eq_none]
      intro i _
      rw [hotTwice_eq_false (fun v hv x hx => by have := hcold v hv x hx; omega)]
      exact Bool.false_ne_true
    rw [hread, hnone]
    dsimp only
    rw [State.sensedCalm_ks (Keystone.hottest_lt hcold (by omega))]
    exact ⟨rfl, rfl, rfl, rfl, rfl, rfl⟩
  · obtain ⟨k, hk⟩ := find_hotTwice hl hx hy hlx hly
    rw [hread, hk]
    obtain ⟨hstate, hreleased, hthermal, htrips, hhost, hdram⟩ :=
      (s.sensed vs).trip_thermal k (((vs[k]?).join).elim 0 (fun v => (BitVec.ofInt 32 v).toNat))
    exact ⟨hstate, hreleased, hthermal, htrips, rfl, hhost, hdram⟩

end Sys2Proof.Machine

end

section
/-! O28: a line's update. -/

namespace Sys2Proof.Machine
open Sys2Proof

/-! ### What leaves the legs' lines alone

What follows an update in the entries of the leg (08 R213 to R216) goes through the sound, picture, network and cipher parts; none of it changes a line. -/

@[simp] theorem foldl_lines {α : Type} {f : State → α → State} (h : ∀ (s : State) (a : α), (f s a).fwd.lines = s.fwd.lines) (l : List α) (s : State) :
    (l.foldl f s).fwd.lines = s.fwd.lines := by
  induction l generalizing s with
  | nil => rfl
  | cons a l ih => rw [List.foldl_cons, ih, h]

@[simp] theorem foldl_fst_lines {α β : Type} {f : State × β → α → State × β} (h : ∀ (s : State × β) (a : α), (f s a).1.fwd.lines = s.1.fwd.lines) (l : List α)
    (s : State × β) : (l.foldl f s).1.fwd.lines = s.1.fwd.lines := by
  induction l generalizing s with
  | nil => rfl
  | cons a l ih => rw [List.foldl_cons, ih, h]

@[simp] theorem State.mirror_lines (s : State) (payload : Nat) :
    (s.mirror payload).fwd.lines = s.fwd.lines := by
  unfold State.mirror; (repeat' split) <;> simp

@[simp] theorem State.draw32_lines (s : State) : (s.draw32).2.fwd.lines = s.fwd.lines := by
  unfold State.draw32; split <;> simp

@[simp] theorem State.raise_lines (s : State) (code : Nat) (status : U8) (data : Bytes) :
    (s.raise code status data).fwd.lines = s.fwd.lines := by
  unfold State.raise; rfl

@[simp] theorem State.modNet_lines (s : State) (f : Net → Net) : (s.modNet f).fwd.lines = s.fwd.lines := by
  unfold State.modNet; rfl

@[simp] theorem State.modPort_lines (s : State) (p : Fin 2) (f : Port → Port) :
    (s.modPort p f).fwd.lines = s.fwd.lines := by
  unfold State.modPort; rfl

@[simp] theorem State.modIface_lines (s : State) (i : Nat) (f : Iface → Iface) :
    (s.modIface i f).fwd.lines = s.fwd.lines := by
  unfold State.modIface; rfl

@[simp] theorem State.modAcc_lines (s : State) (p : Fin 2) (f : AccPort → AccPort) :
    (s.modAcc p f).fwd.lines = s.fwd.lines := by
  unfold State.modAcc; rfl

@[simp] theorem State.modLegQ_lines (s : State) (l : Nat) (f : LegQ → LegQ) :
    (s.modLegQ l f).fwd.lines = s.fwd.lines := by
  unfold State.modLegQ; rfl

@[simp] theorem State.pushFifo_lines (s : State) (i : Nat) (k : Fin 8) (f : QFrame) :
    (s.pushFifo i k f).fwd.lines = s.fwd.lines := by
  unfold State.pushFifo; dsimp only; (repeat' split) <;> simp

@[simp] theorem State.tagHead_lines (s : State) (i : Nat) (l : Nat) :
    (s.tagHead i l).fwd.lines = s.fwd.lines := by
  unfold State.tagHead; (repeat' split) <;> simp

@[simp] theorem State.pushLeg_lines (s : State) (l : Nat) (f : QFrame) :
    (s.pushLeg l f).fwd.lines = s.fwd.lines := by
  unfold State.pushLeg; (repeat' split) <;> simp

@[simp] theorem State.enqueue_lines (s : State) (t : TxFrame) (ident : Option U16) (dst : Option (BitVec 48)) :
    (s.enqueue t ident dst).fwd.lines = s.fwd.lines := by
  unfold State.enqueue; split <;> simp

@[simp] theorem State.modCip_lines (s : State) (f : Cipher → Cipher) :
    (s.modCip f).fwd.lines = s.fwd.lines := by
  unfold State.modCip; rfl

@[simp] theorem State.modSlot_lines (s : State) (n : Nat) (f : KeySlot → KeySlot) :
    (s.modSlot n f).fwd.lines = s.fwd.lines := by
  unfold State.modSlot; rfl

@[simp] theorem State.countCipher_lines (s : State) (leg : Option Nat) (k : Fin 8) (n : Nat) :
    (s.countCipher leg k n).fwd.lines = s.fwd.lines := by
  unfold State.countCipher; rfl

@[simp] theorem State.modRekey_lines (s : State) (l : Nat) (f : Rekey → Rekey) :
    (s.modRekey l f).fwd.lines = s.fwd.lines := by
  unfold State.modRekey; rfl

@[simp] theorem State.keyEvent_lines (s : State) (kind : Nat) (n : Nat) :
    (s.keyEvent kind n).fwd.lines = s.fwd.lines := by
  unfold State.keyEvent; rfl

@[simp] theorem State.pkAsk_lines (s : State) (l : Nat) : (s.pkAsk l).fwd.lines = s.fwd.lines := by
  unfold State.pkAsk; rfl

@[simp] theorem State.startRekey_lines (s : State) (l : Nat) : (s.startRekey l).fwd.lines = s.fwd.lines := by
  unfold State.startRekey; (repeat' split) <;> simp

@[simp] theorem State.spentNow_lines (s : State) (l : Nat) : (s.spentNow l).fwd.lines = s.fwd.lines := by
  unfold State.spentNow; rfl

@[simp] theorem State.checkUse_lines (s : State) (n : Nat) : (s.checkUse n).fwd.lines = s.fwd.lines := by
  unfold State.checkUse; dsimp only; (repeat' split) <;> simp

@[simp] theorem State.touch_lines (s : State) (n : Nat) : (s.touch n).fwd.lines = s.fwd.lines := by
  unfold State.touch; rfl

@[simp] theorem State.cipherRun_lines (s : State) (j : CipherJob) :
    (s.cipherRun j).1.fwd.lines = s.fwd.lines := by
  unfold State.cipherRun; dsimp only; (repeat' split) <;> simp

@[simp] theorem State.cipher_lines (s : State) (j : CipherJob) : (s.cipher j).1.fwd.lines = s.fwd.lines := by
  unfold State.cipher; dsimp only; (repeat' split) <;> simp

@[simp] theorem State.sendPacket_lines (s : State) (l : Nat) (kind : Nat) (level : Option (Fin 8)) (packet : Nat) (ssrc : U32) (seq : U16) :
    (s.sendPacket l kind level packet ssrc seq).fwd.lines = s.fwd.lines := by
  unfold State.sendPacket; dsimp only; (repeat' split) <;> simp

@[simp] theorem State.modPic_lines (s : State) (f : Picture → Picture) :
    (s.modPic f).fwd.lines = s.fwd.lines := by
  unfold State.modPic; rfl

@[simp] theorem State.modDec_lines (s : State) (k : Nat) (f : DecCtx → DecCtx) :
    (s.modDec k f).fwd.lines = s.fwd.lines := by
  unfold State.modDec; rfl

@[simp] theorem State.modEnc_lines (s : State) (k : Nat) (f : EncCtx → EncCtx) :
    (s.modEnc k f).fwd.lines = s.fwd.lines := by
  unfold State.modEnc; rfl

@[simp] theorem State.decLess_lines (s : State) (source : Nat) :
    (s.decLess source).fwd.lines = s.fwd.lines := by
  unfold State.decLess; split <;> simp

@[simp] theorem State.decPlace_lines (s : State) (source : Nat) (y : Nat) (t : Nat) (k : Nat) (stallMs : Nat) :
    (s.decPlace source y t k stallMs).fwd.lines = s.fwd.lines := by
  unfold State.decPlace; (repeat' split) <;> simp

@[simp] theorem State.decUnplace_lines (s : State) (y : Nat) (t : Nat) :
    (s.decUnplace y t).fwd.lines = s.fwd.lines := by
  unfold State.decUnplace; rfl

@[simp] theorem State.sendKey_lines (s : State) (source : Nat) (fir : Bool) (pli : Bool) :
    (s.sendKey source fir pli).fwd.lines = s.fwd.lines := by
  unfold State.sendKey; dsimp only; (repeat' split) <;> simp

@[simp] theorem State.askKey_lines (s : State) (source : Nat) (fir : Bool) (pli : Bool) :
    (s.askKey source fir pli).fwd.lines = s.fwd.lines := by
  unfold State.askKey; dsimp only; (repeat' split) <;> simp

@[simp] theorem State.wantKey_lines (s : State) (ctx : Nat) (m : Nat) (receiver : Bool) :
    (s.wantKey ctx m receiver).fwd.lines = s.fwd.lines := by
  unfold State.wantKey; rfl

@[simp] theorem State.modLayout_lines (s : State) (y : Nat) (f : Layout → Layout) :
    (s.modLayout y f).fwd.lines = s.fwd.lines := by
  unfold State.modLayout; rfl

@[simp] theorem State.modFeed_lines (s : State) (f : Nat) (g : Feed → Feed) :
    (s.modFeed f g).fwd.lines = s.fwd.lines := by
  unfold State.modFeed; rfl

@[simp] theorem State.switchEvent_lines (s : State) (e : Nat) (f : FwdEntry) (state : Nat) (media : Option Nat) :
    (s.switchEvent e f state media).fwd.lines = s.fwd.lines := by
  unfold State.switchEvent; rfl

@[simp] theorem State.dropLayout_lines (s : State) (y : Nat) : (s.dropLayout y).fwd.lines = s.fwd.lines := by
  unfold State.dropLayout
  simp only [State.modPic_fwd]
  exact foldl_lines (fun s t => by split <;> simp) _ s


@[simp] theorem State.dropEntries_lines (s : State) (fuel : Nat) (es : List Nat) : (s.dropEntries fuel es).fwd.lines = s.fwd.lines := by
  induction fuel generalizing s es with
  | zero => cases es <;> rfl
  | succ fuel ih =>
    cases es with
    | nil => rfl
    | cons e es =>
      unfold State.dropEntries
      refine foldl_lines (fun s e => ?_) _ s
      dsimp only
      (repeat' split)
      · rfl
      · exact (ih _ _).trans (by simp)
      · simp


@[simp] theorem State.deleteLayout_lines (s : State) (y : Nat) :
    (s.deleteLayout y).fwd.lines = s.fwd.lines := by
  unfold State.deleteLayout; simp

@[simp] theorem State.setFeed_lines (s : State) (f : Nat) (q : FeedReq) (slot : Nat) :
    (s.setFeed f q slot).fwd.lines = s.fwd.lines := by
  unfold State.setFeed; split <;> simp

@[simp] theorem doLayoutCreate_lines (q : LayoutReq) (y : Nat) (m : Nat) (basted : Option U16) (s : State) :
    (doLayoutCreate q y m basted s).fwd.lines = s.fwd.lines := by
  unfold doLayoutCreate; rfl

@[simp] theorem newFeed_lines (q : FeedReq) (y f m : Nat) (basted : Option U16) (s : State) : (newFeed q y f m basted s).fwd.lines = s.fwd.lines := by
  unfold newFeed
  simp



@[simp] theorem State.modEntry_lines (s : State) (e : Nat) (f : FwdEntry → FwdEntry) :
    (s.modEntry e f).fwd.lines = s.fwd.lines := by
  unfold State.modEntry; rfl

theorem State.transcodeDraft_lines {s t : State} {e : Nat} {b : Option U16} {l : List (Option Rep)} (h : s.transcodeDraft e b = some (t, l)) :
    t.fwd.lines = s.fwd.lines := by
  unfold State.transcodeDraft at h
  dsimp only at h
  (repeat' split at h) <;> simp only [Option.some.injEq, Prod.mk.injEq, reduceCtorEq] at h <;> obtain ⟨rfl, -⟩ := h <;> simp


theorem State.buildTranscode_lines {s t : State} {e : Nat} {b : Option U16} (h : s.buildTranscode e b = some t) : t.fwd.lines = s.fwd.lines := by
  unfold State.buildTranscode at h
  split at h
  · cases h
  · next u l hd =>
    split at h <;> cases h
    exact State.transcodeDraft_lines hd


@[simp] theorem State.setEntry_lines (s : State) (e : Nat) (st : FwdState) (cur : Option (Nat × Nat)) (media : Option Nat) :
    (s.setEntry e st cur media).fwd.lines = s.fwd.lines := by
  unfold State.setEntry; (repeat' split) <;> simp

@[simp] theorem State.tryTranscode_lines (s : State) (e : Nat) : (s.tryTranscode e).fwd.lines = s.fwd.lines := by
  unfold State.tryTranscode
  split
  · next t h => exact .trans (by simp) (State.buildTranscode_lines h)
  · simp


@[simp] theorem State.dropTranscode_lines (s : State) (e : Nat) :
    (s.dropTranscode e).fwd.lines = s.fwd.lines := by
  unfold State.dropTranscode; split <;> simp

@[simp] theorem State.refreshEntry_lines (s : State) (e : Nat) :
    (s.refreshEntry e).fwd.lines = s.fwd.lines := by
  unfold State.refreshEntry; (repeat' split) <;> simp

@[simp] theorem State.applyAlloc_lines (s : State) (e : Nat) (m : Nat) (at_ : Nat) (rate : Nat × Nat → Nat) (a : Option (Nat × Nat)) (kbps : Nat) (upHoldMs : Nat) :
    (s.applyAlloc e m at_ rate a kbps upHoldMs).fwd.lines = s.fwd.lines := by
  unfold State.applyAlloc; dsimp only; (repeat' split) <;> simp

@[simp] theorem State.applyShare_lines (s : State) (e : Nat) (m : Nat) (share : Nat) (could : Option (Nat × Nat)) :
    (s.applyShare e m share could).fwd.lines = s.fwd.lines := by
  unfold State.applyShare; dsimp only; (repeat' split) <;> simp

@[simp] theorem State.enterMode_lines (s : State) (e : Nat) : (s.enterMode e).fwd.lines = s.fwd.lines := by
  unfold State.enterMode; (repeat' split) <;> simp

@[simp] theorem State.retryEntry_lines (s : State) (e : Nat) : (s.retryEntry e).fwd.lines = s.fwd.lines := by
  unfold State.retryEntry; (repeat' split) <;> simp

@[simp] theorem State.allocateLeg_lines (s : State) (l m at_ : Nat) : (s.allocateLeg l m at_).fwd.lines = s.fwd.lines := by
  unfold State.allocateLeg
  refine foldl_lines (fun s p => ?_) _ s
  dsimp only
  (repeat' split) <;> simp


/-! ### The update itself (08 R207 to R211) -/

theorem State.line_congr {s t : State} (h : t.fwd.lines = s.fwd.lines) (l : Nat) : t.line l = s.line l := by
  unfold State.line
  rw [h]

theorem State.modLine_line (s : State) (l : Nat) (f : Line → Line) : (s.modLine l f).line l = f (s.line l) := by
  unfold State.modLine State.line
  simp

/-- The estimate that an update of a unit that works for itself reaches, from the figures after the shaper is set. -/
def State.updatedE (s : State) (l m : Nat) : Nat :=
  let old := s.line l
  let fig := (s.setShaper l (old.e * old.pacePct / 100)).lineFigures l m
  s.boundE l (if old.lastRtcp + 48000 ≤ m then old.e / 2 else nextE old.e old.minKbps fig.1 fig.2.1 fig.2.2.1 fig.2.2.2)

theorem State.setShaper_boundE (s : State) (l k e : Nat) : (s.setShaper l k).boundE l e = s.boundE l e := rfl

theorem State.setShaper_audioKbps (s : State) (l k : Nat) : (s.setShaper l k).audioKbps l = s.audioKbps l := rfl

theorem State.setShaper_line (s : State) (l k : Nat) : (s.setShaper l k).line l = s.line l := rfl

theorem State.setShaper_twin (s : State) (l k : Nat) : (s.setShaper l k).twin = s.twin := rfl

/-- What an update does in the entries of its leg leaves the lines. -/
theorem State.afterLine_lines (s : State) (es : List Nat) (l m at_ : Nat) :
    (((es.foldl (fun s e => ((s.refreshEntry e).enterMode e).retryEntry e) (s.mirror 16)).allocateLeg l m at_).fin).fwd.lines = s.fwd.lines := by
  rw [State.fin_fwd, State.allocateLeg_lines, foldl_lines (fun s e => by simp), State.mirror_lines]

theorem lineUpdate_line {s : State} {l : Nat} {q : Leg} (hq : s.legLive l = some q) (hactive : q.state = .active)
    (hdue : ∀ j, (s.line l).lastUpdate = some j → j < s.media q.conf / 4800) (hstandby : s.twin.state ≠ .standby) :
    ((lineUpdate l s).line l).e = s.updatedE l (s.media q.conf) ∧
    ((lineUpdate l s).line l).v = (s.updatedE l (s.media q.conf) * 95 / 100 : Nat) - (s.audioKbps l : Int) ∧
    ((lineUpdate l s).line l).lastUpdate = some (s.media q.conf / 4800) ∧ ((lineUpdate l s).line l).tmmbr = (s.line l).tmmbr := by
  have hrun : ¬ (q.state ≠ .active ∨ (!(s.line l).lastUpdate.all (fun j => decide (j < s.media q.conf / 4800))) = true) := by
    rw [hactive]
    cases hlast : (s.line l).lastUpdate with
    | none => simp
    | some j => simpa using hdue j hlast
  unfold lineUpdate
  rw [hq]
  dsimp only
  rw [if_neg hrun]
  rw [State.line_congr (State.afterLine_lines _ _ l _ _), State.modLine_line]
  simp only [State.setShaper_boundE, State.setShaper_audioKbps, State.setShaper_line, State.setShaper_twin]
  have hprimary : (s.twin.state != TwinState.standby) = true := by simpa using hstandby
  simp only [hprimary, Bool.not_true, Bool.false_eq_true, if_false, decide_eq_true_eq, true_and, and_true]
  exact ⟨rfl, rfl⟩

theorem State.boundE_ge (s : State) (l e : Nat) : (s.line l).minKbps ≤ s.boundE l e := Nat.le_max_left ..

theorem State.boundE_le {s : State} {l : Nat} (hc : s.lineCeiling l ≠ 0) (hm : (s.line l).minKbps ≤ s.lineCeiling l) (e : Nat) :
    s.boundE l e ≤ s.lineCeiling l := by
  unfold State.boundE
  dsimp only
  rw [if_neg hc]
  exact Nat.max_le.mpr ⟨hm, Nat.min_le_right ..⟩

/-- Settles O28: the update sets the line, and what follows in the leg's entries leaves it. -/
theorem lineUpdateSetsTheEstimate : Obligations.LineUpdateSetsTheEstimate := by
  rintro s l q m old u hq hactive rfl rfl hdue hstandby rfl
  obtain ⟨he, hv, hlast, htmmbr⟩ := lineUpdate_line hq hactive hdue hstandby
  refine ⟨_, rfl, hlast, htmmbr, he, by rw [hv, he], ?_, fun hc hm => ?_⟩
  · rw [he]
    exact s.boundE_ge ..
  · rw [he]
    exact State.boundE_le hc hm _

end Sys2Proof.Machine

end

section
/-! O10: mailbox registers and SMBus transfers. -/

namespace Sys2Proof.Machine
open Sys2Proof

/-- A command's outcome, by the state it leaves. -/
theorem next_congr {t u : State} (h : t = u) : (Host.Outcome.next t : Host.Outcome State Fault Refusal) = .next u := congrArg _ h

/-- As `next_congr`, for a command that ends with the events due. -/
theorem next_fin_congr {t u : State} (h : t = u) : (Host.Outcome.next t.fin : Host.Outcome State Fault Refusal) = .next u.fin := next_congr (congrArg _ h)

/-! ### Mailbox registers (03 R77 to R79, R97 to R99) -/

theorem State.enableBox_of_quiesced {s : State} {m : Mbx} (hm : m ≠ 16) (hh : (s.box m).halted = false) (he : (s.box m).enable = false)
    (hq : (s.box m).quiesced = true) :
    s.enableBox m = s.putBox m ({ s.box m with enable := true, quiesced := false, running := true } : Mailbox).settle := by
  simp [State.enableBox, hm, hh, he, hq]

theorem State.enableBox_of_off {s : State} {m : Mbx} (hm : m ≠ 16) (hh : (s.box m).halted = false) (he : (s.box m).enable = false)
    (hq : (s.box m).quiesced = false) :
    s.enableBox m = if s.boot.ready then (s.setBox m { s.box m with enable := true }).startBox m else s.setBox m { s.box m with enable := true } := by
  simp [State.enableBox, hm, hh, he, hq]

/-- A ring that mailbox registers may name: 2^9 to 2^14 entries, both rings on a page. -/
def Mailbox.ringOk (b : Mailbox) : Prop := 9 ≤ b.cfg.toNat % 16 ∧ b.cfg.toNat % 16 ≤ 14 ∧ b.cmdBase.toNat % 4096 = 0 ∧ b.cplBase.toNat % 4096 = 0

theorem State.startBox_of_ringOk {s : State} {m : Mbx} (hs : s.serves m = true) (h : (s.box m).ringOk) :
    s.startBox m = s.setBox m { s.box m with
      running := true, hostRing := true, ldCmdBase := (s.box m).cmdBase, ldCplBase := (s.box m).cplBase,
      ldLog2 := (s.box m).cfg.toNat % 16, ldHoldoff := (s.box m).cfg.toNat / 256 % 256,
      cmdHead := 0, pos := 0, pi := 0, ci := 0, ring := [], waiting := [] } := by
  obtain ⟨hlo, hhi, hcmd, hcpl⟩ := h
  unfold State.startBox
  rw [hs]
  dsimp only
  rw [if_neg (by simp), if_neg (by omega)]

theorem State.startBox_of_bad_ring {s : State} {m : Mbx} (hs : s.serves m = true)
    (h : (s.box m).cfg.toNat % 16 < 9 ∨ 14 < (s.box m).cfg.toNat % 16 ∨ (s.box m).cmdBase.toNat % 4096 ≠ 0 ∨ (s.box m).cplBase.toNat % 4096 ≠ 0) :
    s.startBox m = s.halt m 6 := by
  unfold State.startBox
  rw [hs]
  dsimp only
  rw [if_neg (by simp), if_pos h]

theorem State.cmdDoorbell_of_running {s : State} {m : Mbx} (hm : m ≠ 16) (hh : (s.box m).halted = false) (hr : (s.box m).running = true) (v : Nat) :
    s.cmdDoorbell m v =
      if 256 < (v % 512 + 512 - (s.box m).cmdHead) % 512 ∨ 256 < (v % 512 + 512 - (s.box m).pi) % 512 then (s.noteWake 4).halt m 1
      else (s.noteWake 4).setBox m { s.box m with pi := v % 512 } := by
  simp [State.cmdDoorbell, hm, hh, hr]

theorem State.cplDoorbell_of_up {s : State} {m : Mbx} (hm : m ≠ 16) (hh : (s.box m).halted = false)
    (hr : (s.box m).running = true ∨ (s.box m).quiesced = true) (v : Nat) :
    s.cplDoorbell m v =
      s.putBox m ({ s.box m with ci := v % 65536, ring := (s.box m).ring.drop ((v % 65536 + 65536 - (s.box m).ci) % 65536) } : Mailbox).settle := by
  have hup : ((s.box m).running || (s.box m).quiesced) = true := by simpa using hr
  simp [State.cplDoorbell, hm, hh, hup]

/-! ### SMBus (03 R101, R102) -/

theorem State.smbus_of_good {s : State} (h : s.boot.ready = true) (act : State → State) :
    s.smbus true act = act (s.modSmb (fun b => { b with acked := true, answer := [] })) := by
  simp [State.smbus, h]

theorem State.smbus_of_bad_pec {s : State} (h : s.boot.ready = true) (act : State → State) :
    s.smbus false act = (s.modBox 16 (fun b => { b with cBadPec := b.cBadPec + 1 })).modSmb (fun b => { b with acked := false, answer := [] }) := by
  simp [State.smbus, h]

/-- Settles O10: each register and each transfer by the equation of its function. -/
theorem mailboxesServe : Obligations.MailboxesServe := by
  refine ⟨fun s => ⟨⟨rfl, rfl⟩, fun m hm => ⟨?_, ?_, ?_, ?_, ?_, ?_, ?_, ?_, ?_, ?_, ?_, ?_⟩⟩, fun s hr => ⟨?_, ?_, ?_, ?_, ?_, ?_, ?_, ?_, ?_⟩⟩
  · intro hh he hq
    exact next_fin_congr (State.enableBox_of_quiesced hm hh he hq)
  · intro hh he hq hr
    exact next_fin_congr ((State.enableBox_of_off hm hh he hq).trans (if_neg (by simp [hr])))
  · intro hh he hq hr hs h9 h14 hcmd hcpl
    refine next_fin_congr ((State.enableBox_of_off hm hh he hq).trans ?_)
    rw [if_pos hr, State.startBox_of_ringOk (s := s.setBox m _) hs (by rw [State.box_setBox]; exact ⟨h9, h14, hcmd, hcpl⟩), State.box_setBox, State.setBox_setBox]
  · intro hh he hq hr hs hbad
    refine next_fin_congr ((State.enableBox_of_off hm hh he hq).trans ?_)
    rw [if_pos hr, State.startBox_of_bad_ring (s := s.setBox m _) hs (by rw [State.box_setBox]; exact hbad)]
  · intro hh hrun hq
    exact next_congr (by simp [State.quiesceBox, hm, hh, hrun, hq])
  · intro hq hrun hin hw
    exact next_congr (by simp [State.quiesceDone, hq, hrun, hin, hw])
  · exact next_fin_congr (t := s.resetBox m) (if_neg hm)
  · intro v hh hrun h1 h2
    exact next_fin_congr ((State.cmdDoorbell_of_running hm hh hrun v.toNat).trans (if_neg (by omega)))
  · intro v hh hrun h
    exact next_fin_congr ((State.cmdDoorbell_of_running hm hh hrun v.toNat).trans (if_pos h))
  · intro v hh hup
    exact next_congr (State.cplDoorbell_of_up hm hh hup v.toNat)
  · intro completion hup
    exact next_congr (if_pos ⟨hm, hup⟩)
  · intro hheld hoff
    exact next_congr (by simp [State.holdoffExpiry, hheld, hoff])
  · intro off d h0 h128 h256
    exact next_congr ((State.smbus_of_good hr _).trans (if_neg (by omega)))
  · intro hroom
    exact next_congr ((State.smbus_of_good hr _).trans (if_neg (Nat.not_le.mpr hroom)))
  · intro hfull
    exact next_congr ((State.smbus_of_good hr _).trans (if_pos hfull))
  · intro e r hring
    refine next_congr ((State.smbus_of_good hr _).trans ?_)
    unfold State.cplRead
    dsimp only
    rw [show ((s.modSmb _).box 16).ring = e :: r from hring]
    rfl
  · refine next_congr ((State.smbus_of_good hr _).trans ?_)
    unfold State.smbStatus
    rw [show (s.modSmb _).boot.ready = true from hr]
    rfl
  · intro off d h0 h128 h4096
    exact next_congr ((State.smbus_of_good hr _).trans (if_neg (by omega)))
  · intro off
    exact next_congr (State.smbus_of_good hr _)
  · intro halert
    exact next_congr ((State.smbus_of_good hr _).trans (if_pos halert))
  · rintro i (⟨off, d, rfl⟩ | rfl | rfl | rfl | ⟨off, d, rfl⟩ | ⟨off, rfl⟩)
    all_goals exact next_congr (State.smbus_of_bad_pec hr _)

end Sys2Proof.Machine

end

section
/-! O11: fetching. -/

namespace Sys2Proof.Machine
open Sys2Proof

/-- What counting the mailboxes passed over leaves: the turn, the mailbox served, and every mailbox's slots and commands. -/
structure State.CountsWaits (m : Mbx) (s t : State) : Prop where
  served : t.box m = s.box m
  slots : ∀ k, (t.box k).cmdHead = (s.box k).cmdHead ∧ (t.box k).inflight = (s.box k).inflight
  nextSeq : t.pl.nextSeq = s.pl.nextSeq
  smb : t.pl.smb = s.pl.smb
  boot : t.boot = s.boot

theorem State.CountsWaits.refl (m : Mbx) (s : State) : State.CountsWaits m s s := ⟨rfl, fun _ => ⟨rfl, rfl⟩, rfl, rfl, rfl⟩

theorem State.countWaits_counts (s : State) (m : Mbx) (l : List Mbx) : State.CountsWaits m s (s.countWaits m l) := by
  induction l generalizing s with
  | nil => exact .refl m s
  | cons k ks ih =>
    unfold State.countWaits
    split
    · exact .refl m s
    · next hk =>
      split
      · obtain ⟨hserved, hslots, hseq, hsmb, hboot⟩ := ih (s.modBox k (fun b => { b with cTokenWaits := b.cTokenWaits + 1 }))
        refine ⟨?_, fun j => ?_, hseq, hsmb, hboot⟩
        · rw [hserved, State.modBox_box, if_neg (Ne.symm hk)]
        · rw [(hslots j).1, (hslots j).2, State.modBox_box]
          split
          · next h => rw [h]; exact ⟨rfl, rfl⟩
          · exact ⟨rfl, rfl⟩
      · exact ih s

theorem State.headerCheck_congr {s t : State} {m : Mbx} (hs : (t.box m).session = (s.box m).session) (hb : t.boot = s.boot) (c : Cmd) :
    t.headerCheck m c = s.headerCheck m c := by
  unfold State.headerCheck
  rw [hs, hb]

theorem State.startCmd_of_checked {s : State} {m : Mbx} {c : Cmd} (h : s.headerCheck m c = none) (he : c.bufErr = 0) :
    s.startCmd m c = s.modBox m (fun b => b.setStage c.seq .ready) := by
  unfold State.startCmd
  rw [h, he]
  simp [firstFail, need]

/-- What fetching a command does to its mailbox and to the rotation. -/
def State.takesSlot (u : State) (m : Mbx) (c : Cmd) : State :=
  let t := u.setBox m { u.box m with
    inflight := (u.box m).inflight ++ [c], cmdHead := ((u.box m).cmdHead + 1) % 512, cFetched := (u.box m).cFetched + 1 }
  { t with pl := { t.pl with nextSeq := t.pl.nextSeq + 1, rot := (m.val + 1) % 17 } }

theorem State.box_takesSlot (u : State) (m : Mbx) (c : Cmd) : (u.takesSlot m c).box m = { u.box m with
    inflight := (u.box m).inflight ++ [c], cmdHead := ((u.box m).cmdHead + 1) % 512, cFetched := (u.box m).cFetched + 1 } :=
  State.box_setBox ..

theorem State.box_takesSlot_ne (u : State) {m k : Mbx} (h : k ≠ m) (c : Cmd) : (u.takesSlot m c).box k = u.box k :=
  State.box_setBox_ne _ h _

/-- A fetched command enters its mailbox, and starts at once in a mailbox with nothing in flight. -/
theorem State.fetch_of_idle {s u : State} {m : Mbx} {slot request : Bytes} {reserve : Bool} (hu : u = s.countWaits m s.rotation)
    (hin : (u.box m).inflight = []) :
    s.fetch m slot request 0 reserve =
      let h := State.readHeader (u.box m) (State.parseSlot slot)
      let c : Cmd := { seq := u.pl.nextSeq, hdr := h, req := u.requestOf m h slot request, stage := .fenced, fromReserve := reserve }
      (u.takesSlot m c).startCmd m c := by
  subst hu
  refine if_neg ?_
  rw [hin]
  simp

/-- A command that meets nothing in flight and passes its header checks starts at once. -/
theorem State.fetch_of_free {s : State} {m : Mbx} {slot request : Bytes} {reserve : Bool} {h : SlotHdr} {c : Cmd} (hin : (s.box m).inflight = [])
    (hh : h = State.readHeader (s.box m) (State.parseSlot slot))
    (hc : c = { seq := s.pl.nextSeq, hdr := h, req := s.requestOf m h slot request, stage := .fenced, fromReserve := reserve })
    (hcheck : s.headerCheck m c = none) :
    ((s.fetch m slot request 0 reserve).box m = { s.box m with
      inflight := [{ c with stage := .ready }], cmdHead := ((s.box m).cmdHead + 1) % 512, cFetched := (s.box m).cFetched + 1 }) ∧
    (s.fetch m slot request 0 reserve).pl.rot = (m.val + 1) % 17 ∧
    ∀ k, k ≠ m → ((s.fetch m slot request 0 reserve).box k).cmdHead = (s.box k).cmdHead ∧ ((s.fetch m slot request 0 reserve).box k).inflight = (s.box k).inflight := by
  obtain ⟨hserved, hslots, hseq, hsmb, hboot⟩ := s.countWaits_counts m s.rotation
  generalize hu : s.countWaits m s.rotation = u at hserved hslots hseq hsmb hboot
  have hreq : u.requestOf m h slot request = s.requestOf m h slot request := by
    unfold State.requestOf
    rw [hsmb]
  have hbox := u.box_takesSlot m c
  rw [hserved, hin, List.nil_append] at hbox
  have hstart : (u.takesSlot m c).startCmd m c = (u.takesSlot m c).modBox m (fun b => b.setStage c.seq .ready) :=
    State.startCmd_of_checked ((State.headerCheck_congr (s := s) (t := u.takesSlot m c) (by rw [hbox]) hboot c).trans hcheck) (by rw [hc])
  have hfetch : s.fetch m slot request 0 reserve = (u.takesSlot m c).modBox m (fun b => b.setStage c.seq .ready) := by
    rw [State.fetch_of_idle hu.symm (by rw [hserved, hin]), hserved, ← hh]
    simp only [hreq, hseq, ← hc]
    exact hstart
  rw [hfetch]
  refine ⟨?_, rfl, fun k hk => ?_⟩
  · rw [State.modBox_box, if_pos rfl, hbox]
    simp [Mailbox.setStage]
  · rw [State.modBox_box, if_neg hk, u.box_takesSlot_ne hk]
    exact hslots k

/-- Settles O11: the mailbox whose turn it is fetches; the command enters behind those in flight. -/
theorem fetchingTakesTurns : Obligations.FetchingTakesTurns := by
  refine ⟨fun s m slot request err => ⟨fun hturn hm hwake => ?_, fun raw rest hturn hqueue hwake => ?_, fun c hfind hnone => ?_⟩, ?_⟩
  · exact next_fin_congr (by simp [State.commandFetch, hturn, hm, hwake])
  · exact next_fin_congr (by simp [State.commandFetch, hturn, hqueue, hwake]; rfl)
  · exact next_fin_congr (by simp [State.fencedStart, hfind, hnone])
  · rintro s t m slot request reserve h c hin hh hc hcheck rfl
    obtain ⟨hbox, hrot, hother⟩ := State.fetch_of_free hin hh hc hcheck
    exact ⟨by rw [hbox]; exact ⟨rfl, rfl, hrot, rfl⟩, hother⟩

end Sys2Proof.Machine

end

section
/-! O12: the sys commands. -/

namespace Sys2Proof.Machine
open Sys2Proof

/-- An accepted command whose reply is complete takes its effect and is answered (03 R82). -/
theorem State.run_of_takes {s t : State} {m : Mbx} {row : Row} {c : Cmd} {r : Rep} {n : Nat} (h : s.takes m row c n = true)
    (he : row.effect c s = (t, r)) (hl : r.later = false) : s.run m row = t.answered m row.opcode c r := by
  simp only [State.takes, State.accepts, Bool.and_eq_true, beq_iff_eq, Option.isNone_iff_eq_none] at h
  obtain ⟨⟨⟨⟨hready, hreads⟩, hseam⟩, hverdict⟩, -⟩ := h
  simp [State.run, hready, hreads, hseam, hverdict, he, hl, State.answered]

/-- Settles O12: each sys command takes its effect and is answered. -/
theorem sysCommandsComplete : Obligations.SysCommandsComplete := by
  intro s m c
  refine ⟨?_, ?_, ?_, ?_, ?_, ?_, ?_⟩
  · rintro lo hi v u t h hv rfl rfl
    refine next_congr (State.run_of_takes h ?_ rfl)
    simp [rowSysHello]
    rw [hv]
  · rintro lo hi u h rfl hv
    refine next_congr (State.run_of_takes h ?_ rfl)
    simp [rowSysHello]
    rw [hv]
  · intro family mode select h
    refine ⟨_, rfl, next_congr (State.run_of_takes h ?_ rfl)⟩
    simp [rowSysSubscribe, State.modBox_eq_setBox]
  · intro h
    refine next_congr (State.run_of_takes h ?_ rfl)
    rfl
  · intro data h
    exact next_congr (State.run_of_takes h rfl rfl)
  · intro h
    exact next_congr (State.run_of_takes h rfl rfl)
  · intro clear h
    refine next_congr (State.run_of_takes h ?_ rfl)
    simp [rowSysCounters]

end Sys2Proof.Machine

end

section
/-! O14: time. -/

namespace Sys2Proof.Machine
open Sys2Proof

theorem State.mirrorTime_time (s : State) (b : Fin 4) : (s.mirrorTime b).time = s.time := by
  unfold State.mirrorTime
  split
  · rw [State.mirror_eq]
  · rfl

theorem State.modBase_base (s : State) (b : Fin 4) (f : TimeBase → TimeBase) : (s.modBase b f).base b = f (s.base b) := by
  simp [State.base, State.modBase, State.modTime, Vector.get_eq_getElem]

theorem State.base_of_time_eq {s t : State} (h : t.time = s.time) (b : Fin 4) : t.base b = s.base b := by
  unfold State.base
  rw [h]

/-- The value and the increment that a rate correction answers are those of the base it leaves. -/
theorem State.base_rate_mirrored (s : State) (b : Fin 4) (adj : Int) :
    ((s.modBase b (fun t => t.rate adj)).mirrorTime b).base b = (s.base b).rate adj := by
  rw [State.base_of_time_eq (State.mirrorTime_time _ b), State.modBase_base]

theorem any_early {o : Option Nat} {t k n : Nat} (hl : o = some t) (ht : k < t + n) : o.any (fun t => decide (k < t + n)) = true := by
  rw [hl]
  exact decide_eq_true ht

theorem ppsIn_of_early {s : State} {t : Nat} (hi : s.time.pps.inEnable = true) (hl : s.time.pps.lastIn = some t)
    (ht : s.clk < t + 500 * State.ticksPerMs) : ppsIn s = s.modTime (fun t => { t with pps := { t.pps with ignored := t.pps.ignored + 1 } }) := by
  have h := any_early hl ht
  unfold ppsIn
  rw [if_neg (by simp [hi]), if_pos h]

/-- Settles O14: the time commands, the time events and PTP take effect. -/
theorem timeActs : Obligations.TimeActs := by
  refine ⟨fun s m c => ⟨?_, ?_, ?_, ?_, ?_, ?_, ?_, ?_, ?_, ?_, ?_⟩, fun s => ⟨?_, ?_, ?_, ?_, ?_, ?_, ?_, ?_, ?_, ?_⟩,
    fun s i p hp => ⟨?_, ?_, ?_, ?_, ?_, ?_, ?_, ?_⟩⟩
  · rintro base source trackS b t u hb h rfl rfl
    refine next_congr (State.run_of_takes h ?_ rfl)
    simp [rowTimeBase, hb]
    split_ifs <;> simp_all
  · intro base source trackS b hb h
    refine next_congr (State.run_of_takes h ?_ rfl)
    simp [rowTimeBase, hb]
  · intro base value frac b hb h
    refine next_congr (State.run_of_takes h ?_ rfl)
    simp [rowTimeStep, hb]
  · intro base value frac b hb h
    refine next_congr (State.run_acts h ?_ rfl)
    simp [rowTimeStep, hb]
  · intro base adj b hb h
    refine next_congr (State.run_of_takes h ?_ rfl)
    simp [rowTimeRate, hb, State.base_rate_mirrored]
  · intro base b hb h
    refine next_congr (State.run_of_takes h ?_ rfl)
    simp [rowTimeUnlock, hb]
  · intro h
    exact next_congr (State.run_of_takes h rfl rfl)
  · intro outEnable inEnable outBase widthMs offsetNs b hb h
    refine next_congr (State.run_of_takes h ?_ rfl)
    simp [rowTimePps, hb]
  · intro q h hq
    refine next_congr (State.run_of_takes h ?_ rfl)
    simp [rowTimePtp, hq]
  · intro q h hq
    refine next_congr (State.run_of_takes h ?_ rfl)
    simp [rowTimePtp, show ¬ q.profile = 0#8 from hq]
  · intro h
    refine next_congr (State.run_of_takes h ?_ rfl)
    simp [rowTimeQuery] <;> rfl
  · intro b he hb
    exact next_congr (by simp [rollover, he, hb])
  · intro b phase present he hs hh hp ha
    exact next_congr (by simp [servoCompare, he, show ¬ (s.base b).source = 0#8 from hs, hh, hp, ha])
  · intro b phase present he hs hh hp hf
    exact next_congr (by simp [servoCompare, he, show ¬ (s.base b).source = 0#8 from hs, hh, hp, hf])
  · intro hi hl ha
    exact next_congr (by simp [ppsIn, hi, hl, absAtEdge, ha, State.modTime])
  · intro t hi hl ht
    exact next_congr (ppsIn_of_early hi hl ht)
  · intro b hd hb
    exact next_congr (by simp [ppsOut, hd, hb, State.modTime])
  · intro t hl ht
    exact next_congr (by simp [ppsEnd, hl, ht])
  · intro hz ms hhz hms
    exact next_congr (by simp [hhz, hms, State.modTime])
  · intro q hq
    exact next_congr (by simp [hq, State.modTime])
  · intro a ha hu
    exact next_congr (by simp [absTimeout, ha, hu, State.modTime])
  · intro gm steps utc hr hs
    exact next_congr (by simp [ptpMessage, hp, show ¬ p.req.role = 1#8 from hr, hs])
  · intro off path g hg hg' hst
    exact next_congr (by simp [ptpMessage, hp, hst, hg'])
  · exact next_congr (by simp [ptpMessage, hp])
  · intro hst
    exact next_congr (by simp [ptpMessage, hp, hst])
  · intro hst
    exact next_congr (by simp [ptpTimer, hp, hst])
  · intro hst
    exact next_congr (by simp [ptpTimer, hp, hst])
  · intro hst
    exact next_congr (by simp [ptpTimer, hp, hst])
  · intro hst hle
    exact next_congr (by simp [announceTimeout, hp, hst, hle])

end Sys2Proof.Machine

end

section
/-! O16: network commands, links, queues and the scheduler. -/

namespace Sys2Proof.Machine
open Sys2Proof

theorem fin8_of_byte (k : Fin 8) : (BitVec.ofNat 8 k.val).toNat % 8 = k.val := by simp

theorem State.modLegQ_legQ_ne (s : State) {k l : Nat} (h : k ≠ l) (f : LegQ → LegQ) : (s.modLegQ l f).legQ k = s.legQ k := by
  unfold State.modLegQ State.legQ State.modNet
  simp [tget_tput_ne _ h]

/-- A latency sample adds to the figures of the leg whose turn it is (10 R266). -/
theorem latencySample_legQ (s : State) (l : Nat) : (latencySample s).legQ l = if l = s.net.sampleLeg then
    { s.legQ s.net.sampleLeg with
      depthHist := (s.legQ s.net.sampleLeg).depthHist.bump (binsOf (s.legQ s.net.sampleLeg).frames s.chipNs).1
      sojournHist := (s.legQ s.net.sampleLeg).sojournHist.bump (binsOf (s.legQ s.net.sampleLeg).frames s.chipNs).2 } else s.legQ l := by
  have hq : (latencySample s).legQ l = (s.modLegQ s.net.sampleLeg (fun q => { q with
      depthHist := q.depthHist.bump (binsOf (s.legQ s.net.sampleLeg).frames s.chipNs).1
      sojournHist := q.sojournHist.bump (binsOf (s.legQ s.net.sampleLeg).frames s.chipNs).2 })).legQ l := rfl
  rw [hq]
  split
  · next h => rw [h, State.modLegQ_legQ]
  · next h => rw [State.modLegQ_legQ_ne s h]

/-- Settles O16: the net and sched commands and the network's events take effect. -/
theorem networkActs : Obligations.NetworkActs := by
  refine ⟨fun s m c => ⟨?_, ?_, ?_, ?_, ?_, ?_, ?_, ?_, ?_⟩, fun s => ⟨?_, ?_, ?_, ?_, ?_, ?_, ?_, ?_, ?_, ?_⟩,
    fun s m c => ⟨?_, ?_, ?_, ?_, ?_, ?_⟩⟩
  · intro port split h hs
    refine next_congr (State.run_of_takes h ?_ rfl)
    simp [rowNetPort, hs]
  · intro port h hs
    refine next_congr (State.run_of_takes h ?_ rfl)
    simp [rowNetPort, hs]
  · intro port split h hs h0
    refine next_congr (State.run_acts h ?_ rfl)
    simp [rowNetPort, hs, show ¬ split = 0#8 from h0]
  · rintro q t h rfl
    refine next_congr (State.run_of_takes h ?_ rfl)
    simp [rowNetIface]
  · intro iface kind mode af a n h
    exact next_congr (State.run_of_takes h rfl rfl)
  · intro port mode a h
    exact next_congr (State.run_of_takes h rfl rfl)
  · intro iface mode af n pfx gw h
    exact next_congr (State.run_of_takes h rfl rfl)
  · rintro iface f h rfl
    exact next_congr (State.run_of_takes h rfl rfl)
  · rintro iface f h rfl
    exact next_congr (State.run_of_takes h rfl rfl)
  · intro i f hf he hl
    exact next_congr (by simp [linkUp, hf, he, hl])
  · intro i f hf hl
    exact next_congr (by simp [linkDown, hf, hl])
  · intro i a mac
    refine ⟨_, rfl, fun hi => ?_, fun hi => ?_, fun h8 h16 h17 => ?_⟩
    · simp [neighbourRetry, hi]
    · simp [neighbourRetry, hi, show ¬ i.toNat < 8 by omega]
    · simp [neighbourRetry, h16, h17, show ¬ i.toNat < 8 by omega]
  · intro p m seq hi
    exact next_congr (by simp [netPortDone, hi])
  · intro t ht
    exact next_congr (by simp [State.enqueue, ht])
  · intro t k ht
    exact next_congr (by simp [State.enqueue, ht])
  · intro l
    rfl
  · intro p g hg hc hs
    exact next_congr (by simp [gateEntry, hg, hc, hs])
  · intro p g hg hs
    exact next_congr (by simp [gateTakeover, hg, hs])
  · refine ⟨_, rfl, rfl, rfl, fun l hl => ?_, ?_, ?_⟩
    · rw [latencySample_legQ, if_neg hl]
    · rw [latencySample_legQ, if_pos rfl]
    · rw [latencySample_legQ, if_pos rfl]
  · intro port change levels h
    exact next_congr (State.run_of_takes h rfl rfl)
  · intro q h
    exact next_congr (State.run_of_takes h rfl rfl)
  · intro q id u h hu
    refine next_congr (State.run_of_takes h ?_ rfl)
    simp [rowSchedGate, hu]
  · intro leg clear h
    exact next_congr (State.run_of_takes h rfl rfl)
  · intro port k h
    refine next_congr (State.run_of_takes h ?_ rfl)
    simp only [rowSchedPortq, fin8_of_byte]
    rfl
  · rintro port k data h rfl
    refine next_congr (State.run_of_takes h ?_ rfl)
    simp only [rowSchedPortq, fin8_of_byte, if_true]

end Sys2Proof.Machine

end

section
/-! O19, O20: received frames and the ciphers. -/

namespace Sys2Proof.Machine
open Sys2Proof

theorem State.iface_modIface {s : State} {i : Nat} {g : Iface} (h : s.iface i = some g) (f : Iface → Iface) : (s.modIface i f).iface i = some (f g) :=
  tget_tmod h f

/-- Settles O19: a received frame is counted, filtered and handed on, and the pauses follow the buffer. -/
theorem receivedFramesAct : Obligations.ReceivedFramesAct := by
  intro s i g hi hg hw
  refine ⟨?_, ?_, ?_, ?_, ?_, ?_, ?_, ?_, ?_⟩
  · intro f he hl hf
    exact next_congr (by simp [frameReceive, hi, hg, hw, he, hl, hf])
  · intro f he hl hf hlen
    exact next_congr (by simp [frameReceive, hi, hg, hw, he, hl, hf, hlen])
  · rintro f u k he hl hf h64 hmtu rfl hk hfit
    exact next_congr (by simp [frameReceive, hi, hg, hw, he, hl, hf, not_lt.2 h64, not_lt.2 hmtu, hk, hfit])
  · rintro f u l he hl hf h64 hmtu rfl hk hfit
    exact next_congr (by simp [frameReceive, hi, hg, hw, he, hl, hf, not_lt.2 h64, not_lt.2 hmtu, hk, hfit])
  · intro n hp
    exact next_congr (by simp [ingressDrain, State.iface_modIface hg, hp])
  · intro t hp ht hlow
    exact next_congr (by simp [pauseRepeat, hg, hp, ht, hlow])
  · intro t hp ht hlow
    exact next_congr (by simp [pauseRepeat, hg, hp, ht, not_lt.2 hlow])
  · rfl
  · rfl

/-- Settles O20: the cipher commands and the keys' events take effect. -/
theorem cipherActs : Obligations.CipherActs := by
  refine ⟨fun s m c => ⟨?_, ?_, ?_, ?_, ?_, ?_, ?_⟩, fun s => ⟨?_, ?_, ?_, ?_, ?_⟩⟩
  · intro cls rekeyS check useLimit h
    exact next_congr (State.run_of_takes h rfl rfl)
  · intro slot h
    exact next_congr (State.run_of_takes h rfl rfl)
  · intro slot h
    exact next_congr (State.run_of_takes h rfl rfl)
  · intro leg h
    exact next_congr (State.run_of_takes h rfl rfl)
  · intro leg hleg h
    refine next_congr (State.run_of_takes h ?_ rfl)
    simp [rowCipherStats, show ¬ leg = 0xFFFF#16 from hleg]
  · intro leg hleg h
    refine next_congr (State.run_of_takes h ?_ rfl)
    simp [rowCipherStats, show ¬ leg = 0xFFFF#16 from hleg]
  · intro clear h
    refine next_congr (State.run_of_takes h ?_ rfl)
    simp [rowCipherStats]
  · rintro access k n u key rfl hne rfl hkey
    exact next_congr (by simp only [keyCacheFill, if_neg hne, if_true, hkey])
  · rintro access k n u rfl hne rfl
    exact next_congr (by simp only [keyCacheFill, if_neg hne, Bool.false_eq_true, if_false])
  · intro l hr
    exact next_congr (by simp [rekeyDone, hr])
  · intro l hr
    exact next_congr (by simp [rekeyDone, hr])
  · intro l hp hu
    exact next_congr (by simp [previousErase, hp, hu])

end Sys2Proof.Machine

end

section
/-! O21: sound. -/

namespace Sys2Proof.Machine
open Sys2Proof

/-- A change of the sound path that leaves the windows taken. -/
structure State.Hears (s t : State) : Prop where
  only : t = { s with snd := t.snd }
  windows : t.snd.windows = s.snd.windows

theorem State.Hears.refl (s : State) : s.Hears s := ⟨rfl, rfl⟩

theorem State.Hears.trans {s t u : State} (h : s.Hears t) (k : t.Hears u) : s.Hears u := by
  refine ⟨?_, k.windows.trans h.windows⟩
  rw [k.only, h.only]

theorem State.modLegSnd_hears (s : State) (l : Nat) (f : LegSound → LegSound) : s.Hears (s.modLegSnd l f) := ⟨rfl, rfl⟩

theorem State.quieten_hears (s : State) (l : Nat) : s.Hears (s.quieten l) := ⟨rfl, rfl⟩

theorem State.decide_hears (s : State) (c : Nat) (i o : Option Nat) (e : Nat) : s.Hears (s.decide_ c i o e) := ⟨rfl, rfl⟩

theorem State.firstPass_hears (s : State) (c e l : Nat) : s.Hears (s.firstPass c e l) := by
  unfold State.firstPass
  split
  · dsimp only
    split
    · exact (s.modLegSnd_hears l _).trans (State.decide_hears ..)
    · exact s.modLegSnd_hears l _
  · exact .refl s

theorem State.lowerTo_hears (s : State) (c e n fuel : Nat) : s.Hears (s.lowerTo c e n fuel) := by
  induction fuel generalizing s with
  | zero => exact .refl s
  | succ fuel ih =>
    unfold State.lowerTo
    dsimp only
    split
    · exact .refl s
    · split
      · exact .refl s
      · exact ((s.quieten_hears _).trans (State.decide_hears ..)).trans (ih _)

theorem State.promote_hears (s : State) (c e n margin l : Nat) : s.Hears (s.promote c e n margin l) := by
  have win (t : State) (f : LegSound → LegSound) (i o : Option Nat) (h : s.Hears t) : s.Hears ((t.modLegSnd l f).decide_ c i o e) :=
    (h.trans (t.modLegSnd_hears l f)).trans (State.decide_hears ..)
  unfold State.promote
  split
  · exact .refl s
  · dsimp only
    split
    · exact win _ _ _ _ (.refl s)
    · split
      · exact win _ _ _ _ (s.quieten_hears _)
      · split
        · split
          · exact win _ _ _ _ (s.quieten_hears _)
          · exact .refl s
        · exact .refl s

theorem State.foldl_hears {α : Type} (l : List α) (f : State → α → State) (h : ∀ (s : State) a, s.Hears (f s a)) (s : State) : s.Hears (l.foldl f s) :=
  List.foldlRecOn (motive := fun t => s.Hears t) l f (.refl s) (fun t ht a _ => ht.trans (h t a))

/-- Taking a window changes the sound path only, and notes the window taken. -/
theorem speakerWindow_takes {s : State} {c k : Nat} {q : Conf} (hq : tget s.model.confs c = some q)
    (hgo : ¬ (k ≠ (tget s.snd.ticks c).getD 0 / 10 ∨ q.origin.isNone ∨ q.basted.isSome ∨ 480 * k ≤ q.startMedia ∨ (tget s.snd.windows c).any (fun w => decide (k ≤ w)))) :
    (s.modSnd (fun d => { d with windows := tput d.windows c k })).Hears (speakerWindow c k s) := by
  unfold speakerWindow
  rw [hq]
  dsimp only
  rw [if_neg hgo]
  refine .trans (.trans (.trans ?_ (State.lowerTo_hears _ c (480 * k) q.speakers 9)) (State.foldl_hears _ _ (fun s a => s.promote_hears ..) _))
    (State.foldl_hears _ _ (fun s a => s.modLegSnd_hears ..) _)
  exact State.foldl_hears _ _ (fun s a => s.firstPass_hears ..) _

theorem tmod_of_some {α : Type} {t : Table α} {i : Nat} {a : α} (h : tget t i = some a) (f : α → α) : tmod t i f = tput t i (f a) := by
  simp [tmod, h]

theorem State.gainAt_modGain {s : State} {p : GainPoint} {g : Gain} (h : s.gainAt p = some g) (f : Gain → Gain) : (s.modGain p f).gainAt p = some (f g) := by
  cases p with
  | leg l => 
    simp only [State.gainAt, Option.map_eq_some_iff] at h ⊢
    obtain ⟨d, hd, rfl⟩ := h
    exact ⟨_, tget_tmod hd _, rfl⟩
  | master x =>
    simp only [State.gainAt, Option.map_eq_some_iff] at h ⊢
    obtain ⟨d, hd, rfl⟩ := h
    exact ⟨_, tget_tmod hd _, rfl⟩
  | route l x =>
    simp only [State.gainAt, Option.bind_eq_some_iff, Option.map_eq_some_iff] at h ⊢
    obtain ⟨d, hd, i, hi, rfl⟩ := h
    exact ⟨_, tget_tmod hd _, _, tget_tmod hi _, rfl⟩

theorem State.modGain_only (s : State) (p : GainPoint) (f : Gain → Gain) : ∃ snd, s.modGain p f = { s with snd } := by
  cases p <;> exact ⟨_, rfl⟩

/-- What subscribing meters leaves in the mailbox (05 R150). -/
def Mailbox.metering (b : Mailbox) (q : MeterReq) (clk : Nat) : Mailbox :=
  { b with
    meters := metersAfter q b.meters
    meterPeriodMs := if q.periodMs = 0 then b.meterPeriodMs else q.periodMs.toNat
    meterHoldMs := if q.holdMs = 0xFFFF then b.meterHoldMs else q.holdMs.toNat
    meterDecay := if q.decayDbs = 0 then b.meterDecay else q.decayDbs.toNat
    meterDue := if metersAfter q b.meters = [] then none
      else if b.meters = [] ∨ q.periodMs ≠ 0 then some (clk + (if q.periodMs = 0 then b.meterPeriodMs else q.periodMs.toNat) * State.ticksPerMs) else b.meterDue
    meterPeaks := b.meterPeaks.filter (fun p => (metersAfter q b.meters).any (fun x => meterKey x.kind.toNat x.index == p.1)) }

theorem rowMixMeter_effect (m : Mbx) (q : MeterReq) (c : Cmd) (s : State) : (rowMixMeter m q).effect c s =
    (s.setBox m ((s.box m).metering q s.clk), Rep.ok (le 2 ((s.box m).metering q s.clk).meters.length)) := by
  have h : (rowMixMeter m q).effect c s = (s.setBox m ((s.box m).metering q s.clk),
      Rep.ok (le 2 ((s.setBox m ((s.box m).metering q s.clk)).box m).meters.length)) := rfl
  rw [h, State.box_setBox]

/-- Settles O21: the mix commands and the events of the sound path take effect. -/
theorem soundActs : Obligations.SoundActs := by
  refine ⟨fun s m c => ⟨?_, ?_, ?_, ?_, ?_, ?_, ?_, ?_, ?_, ?_, ?_⟩, fun s => ⟨?_, ?_, ?_, ?_, ?_, ?_, ?_, ?_⟩⟩
  · intro conf mix master x hx h
    refine next_congr (State.run_of_takes h ?_ rfl)
    simp only [rowMixCreate, hx]
  · intro mix h
    exact next_congr (State.run_of_takes h rfl rfl)
  · intro leg mode mix gain h
    exact next_congr (State.run_of_takes h rfl rfl)
  · intro q g h hg
    refine next_congr (State.run_of_takes h ?_ rfl)
    simp only [rowMixGain, hg]
    rfl
  · intro leg q h
    exact next_congr (State.run_of_takes h rfl rfl)
  · intro source lo hi fixed h
    exact next_congr (State.run_of_takes h rfl rfl)
  · intro mix kbps frameMs fec dtx h
    exact next_congr (State.run_of_takes h rfl rfl)
  · intro conf threshold marginDb h
    exact next_congr (State.run_of_takes h rfl rfl)
  · intro q h
    exact ⟨(s.box m).metering q s.clk, next_congr (State.run_of_takes h (rowMixMeter_effect ..) rfl), rfl, rfl, rfl, rfl, rfl, rfl, rfl⟩
  · intro mix q hq h
    refine next_congr (State.run_of_takes h ?_ rfl)
    simp only [rowMixQuery, hq, List.length_map]
  · intro leg d hd h
    refine next_congr (State.run_of_takes h ?_ rfl)
    simp only [rowMixSource, hd]
  · intro l p q cf e hl ha hs hc ho he
    have hopen : ¬ (q.state ≠ .active ∨ !LegOffer.sends q.offer 0 ∨ (tget s.model.confs q.conf).all (fun c => c.origin.isNone)) := by
      cases hco : cf.origin <;> simp_all
    refine ⟨fun hpt hd => ?_, fun hpt hd => ?_, fun hpt => ?_⟩
    · exact next_congr (by simp only [audioArrival, hl, if_neg hopen, he, hpt, hd]; simp)
    · exact next_congr (by simp only [audioArrival, hl, if_neg hopen, he, hpt, hd]; simp)
    · exact next_congr (by simp only [audioArrival, hl, if_neg hopen, he, if_pos hpt])
  · intro l d a hd hc hf ha
    exact next_congr (by simp [concealLimit, State.modLegSnd, State.modSnd, tmod_of_some hd, hc, hf, ha])
  · rintro p g u t hg rfl hd hu hx
    refine ⟨_, rfl, ?_, by unfold gainStep; exact s.modGain_only p _⟩
    rw [gainStep, State.gainAt_modGain hg]
    simp [hx, hd, hu]
  · rintro p g u t hg rfl hd hu
    refine ⟨_, rfl, ?_, by unfold gainStepTimeout; exact s.modGain_only p _⟩
    rw [gainStepTimeout, State.gainAt_modGain hg]
    simp [hd, hu]
  · intro c l u d hd hm hu
    exact next_congr (by simp [overlapEnd, State.modLegSnd, State.modSnd, tmod_of_some hd, hm, hu])
  · intro c
    rfl
  · rintro c k n q hq ho hb ht rfl hs hw
    have hnone : q.origin.isNone = false := by cases horigin : q.origin <;> simp_all
    have h := speakerWindow_takes (s := s) (c := c) (k := n / 10) hq (by
      rw [hw, hnone, hb, ht]
      simpa using hs)
    exact ⟨_, rfl, by rw [h.windows]; simp [State.modSnd], _, h.only⟩
  · rintro m ws u hm hd hu rfl
    exact ⟨{ (s.box m).meterWindows (s.meterWins ((s.box m).meterPeriodMs / 10)) with
        meterDue := ((s.box m).meterWindows (s.meterWins ((s.box m).meterPeriodMs / 10))).meterDue.map (fun t => t + (s.box m).meterPeriodMs * State.ticksPerMs) },
      rfl, rfl, next_congr (if_neg (by simp [hm, hd, hu]))⟩

end Sys2Proof.Machine

end

section
/-! What sending a packet leaves alone. -/

namespace Sys2Proof.Machine
open Sys2Proof

/-- The state without the parts that sending, ciphering and queueing packets and frames change. -/
def State.still (s : State) : State := { s with net := {}, cip := {}, acc := {}, ks := {}, pl := {}, twin := {} }

theorem State.pic_of_still {s t : State} (h : t.still = s.still) : t.pic = s.pic :=
  (congrArg State.pic h : t.still.pic = s.still.pic)

@[simp] theorem State.mirror_still (s : State) (payload : Nat) : (s.mirror payload).still = s.still := by
  unfold State.mirror; (repeat' split) <;> rfl

@[simp] theorem State.raise_still (s : State) (code : Nat) (status : U8) (data : Bytes) :
    (s.raise code status data).still = s.still := by
  unfold State.raise; rfl

@[simp] theorem State.modNet_still (s : State) (f : Net → Net) : (s.modNet f).still = s.still := by
  unfold State.modNet; rfl

@[simp] theorem State.modPort_still (s : State) (p : Fin 2) (f : Port → Port) :
    (s.modPort p f).still = s.still := by
  unfold State.modPort; rfl

@[simp] theorem State.modIface_still (s : State) (i : Nat) (f : Iface → Iface) :
    (s.modIface i f).still = s.still := by
  unfold State.modIface; rfl

@[simp] theorem State.modAcc_still (s : State) (p : Fin 2) (f : AccPort → AccPort) :
    (s.modAcc p f).still = s.still := by
  unfold State.modAcc; rfl

@[simp] theorem State.modLegQ_still (s : State) (l : Nat) (f : LegQ → LegQ) :
    (s.modLegQ l f).still = s.still := by
  unfold State.modLegQ; rfl

@[simp] theorem State.pushFifo_still (s : State) (i : Nat) (k : Fin 8) (f : QFrame) :
    (s.pushFifo i k f).still = s.still := by
  unfold State.pushFifo; dsimp only; (repeat' split) <;> simp

@[simp] theorem State.tagHead_still (s : State) (i : Nat) (l : Nat) : (s.tagHead i l).still = s.still := by
  unfold State.tagHead; (repeat' split) <;> simp

@[simp] theorem State.pushLeg_still (s : State) (l : Nat) (f : QFrame) : (s.pushLeg l f).still = s.still := by
  unfold State.pushLeg; (repeat' split) <;> simp

@[simp] theorem State.enqueue_still (s : State) (t : TxFrame) (ident : Option U16) (dst : Option (BitVec 48)) :
    (s.enqueue t ident dst).still = s.still := by
  unfold State.enqueue; split <;> simp

@[simp] theorem State.modCip_still (s : State) (f : Cipher → Cipher) : (s.modCip f).still = s.still := by
  unfold State.modCip; rfl

@[simp] theorem State.modSlot_still (s : State) (n : Nat) (f : KeySlot → KeySlot) :
    (s.modSlot n f).still = s.still := by
  unfold State.modSlot; rfl

@[simp] theorem State.countCipher_still (s : State) (leg : Option Nat) (k : Fin 8) (n : Nat) :
    (s.countCipher leg k n).still = s.still := by
  unfold State.countCipher; rfl

@[simp] theorem State.modRekey_still (s : State) (l : Nat) (f : Rekey → Rekey) :
    (s.modRekey l f).still = s.still := by
  unfold State.modRekey; rfl

@[simp] theorem State.keyEvent_still (s : State) (kind : Nat) (n : Nat) :
    (s.keyEvent kind n).still = s.still := by
  unfold State.keyEvent; rfl

@[simp] theorem State.pkAsk_still (s : State) (l : Nat) : (s.pkAsk l).still = s.still := by
  unfold State.pkAsk; rfl

@[simp] theorem State.startRekey_still (s : State) (l : Nat) : (s.startRekey l).still = s.still := by
  unfold State.startRekey; (repeat' split) <;> simp

@[simp] theorem State.spentNow_still (s : State) (l : Nat) : (s.spentNow l).still = s.still := by
  unfold State.spentNow; rfl

@[simp] theorem State.checkUse_still (s : State) (n : Nat) : (s.checkUse n).still = s.still := by
  unfold State.checkUse; dsimp only; (repeat' split) <;> simp

@[simp] theorem State.touch_still (s : State) (n : Nat) : (s.touch n).still = s.still := by
  unfold State.touch; rfl

@[simp] theorem State.cipherRun_still (s : State) (j : CipherJob) : (s.cipherRun j).1.still = s.still := by
  unfold State.cipherRun; dsimp only; (repeat' split) <;> simp

@[simp] theorem State.cipher_still (s : State) (j : CipherJob) : (s.cipher j).1.still = s.still := by
  unfold State.cipher; dsimp only; (repeat' split) <;> simp

@[simp] theorem State.sendPacket_still (s : State) (l : Nat) (kind : Nat) (level : Option (Fin 8)) (packet : Nat) (ssrc : U32) (seq : U16) :
    (s.sendPacket l kind level packet ssrc seq).still = s.still := by
  unfold State.sendPacket; dsimp only; (repeat' split) <;> simp

end Sys2Proof.Machine

end

section
/-! O26: pictures and their composition. -/

namespace Sys2Proof.Machine
open Sys2Proof

theorem State.dec_modDec {s : State} {i : Nat} {d : DecCtx} (h : tget s.pic.dec i = some d) (f : DecCtx → DecCtx) :
    tget (s.modDec i f).pic.dec i = some (f d) := tget_tmod h f

theorem State.modDec_congr {s : State} {i : Nat} {f g : DecCtx → DecCtx} (h : ∀ d, tget s.pic.dec i = some d → f d = g d) : s.modDec i f = s.modDec i g := by
  unfold State.modDec State.modPic
  dsimp only
  rw [tmod_congr h]

theorem State.dec_setDec {s : State} {i : Nat} {d : DecCtx} (h : tget s.pic.dec i = some d) (v : DecState) :
    tget (s.setDec i v).pic.dec i = some { d with state := v } := by
  unfold State.setDec
  rw [h]
  dsimp only
  split
  · next hv => rw [h, ← hv]
  · exact State.dec_modDec h _

/-- A context that only counted key requests. -/
def DecCtx.Asked (d e : DecCtx) : Prop := e = { d with cFir := e.cFir, cPli := e.cPli }

theorem State.dec_sendPacket (s : State) (l kind : Nat) (level : Option (Fin 8)) (n : Nat) (ssrc : U32) (seq : U16) :
    (s.sendPacket l kind level n ssrc seq).pic = s.pic := State.pic_of_still (by simp)

theorem State.dec_sendKey {s : State} {i : Nat} {d : DecCtx} (h : tget s.pic.dec i = some d) (src : Nat) (fir pli : Bool) :
    ∃ e, tget (s.sendKey src fir pli).pic.dec i = some e ∧ d.Asked e := by
  unfold State.sendKey
  extract_lets a b c
  have hc : tget c.pic.dec i = some d := by
    have ha : tget a.pic.dec i = some d := h
    have hb : tget b.pic.dec i = some d := by
      unfold b
      split
      · rw [State.dec_sendPacket]
        exact ha
      · exact ha
    unfold c
    split
    · rw [State.dec_sendPacket]
      exact hb
    · exact hb
  split
  · next j _ _ =>
    by_cases hj : i = j
    · rw [← hj, State.dec_modDec hc]
      exact ⟨_, rfl, rfl⟩
    · refine ⟨d, ?_, rfl⟩
      rw [← hc]
      exact tget_tmod_ne _ hj _
  · exact ⟨d, hc, rfl⟩

theorem State.dec_askKey {s : State} {i : Nat} {d : DecCtx} (h : tget s.pic.dec i = some d) (src : Nat) (fir pli : Bool) :
    ∃ e, tget (s.askKey src fir pli).pic.dec i = some e ∧ d.Asked e := by
  unfold State.askKey
  dsimp only
  split
  · exact ⟨d, h, rfl⟩
  · exact State.dec_sendKey h src fir pli

theorem State.enc_modEnc {s : State} {i : Nat} {e : EncCtx} (h : tget s.pic.enc i = some e) (f : EncCtx → EncCtx) :
    tget (s.modEnc i f).pic.enc i = some (f e) := tget_tmod h f

theorem State.layout_modLayout {s : State} {y : Nat} {l : Layout} (h : tget s.pic.layouts y = some l) (f : Layout → Layout) :
    tget (s.modLayout y f).pic.layouts y = some (f l) := tget_tmod h f

/-- The unit that a segment names is the first of those that wait. -/
theorem DecCtx.skipTo_of_head {d : DecCtx} {u : AccessUnit} {us : List AccessUnit} {ts : U32} (hu : d.units = u :: us) (hts : u.ts = ts) (hd : u.dropped = false) (n : Nat) :
    d.skipTo ts n = d := by
  cases n with
  | zero => rfl
  | succ n => simp [DecCtx.skipTo, hu, hts, hd]

/-- What the first packet of a source sets (06 R155). -/
def DecCtx.anchoredBy (d : DecCtx) (p : VideoPkt) (m : Nat) : DecCtx :=
  { d with anchor := some (p.ts, (m : Int)), ssrc := p.ssrc, lastSeq := some p.seq, lastArrival := if p.marker then m else d.lastArrival }

/-- A context in which a unit opens, with what its bucket holds after the cost. -/
def DecCtx.opens (d : DecCtx) (u : AccessUnit) (m bucket : Nat) : DecCtx :=
  { d with units := d.units.map (fun u => { u with closed := true }) ++ [u], snagNext := false, bucketAt := m, bucket }

/-- The unit that the first packet of a source opens. -/
def DecCtx.firstUnit (d : DecCtx) (p : VideoPkt) (m : Nat) : AccessUnit :=
  { ts := p.ts, capture := captureOf (p.ts, (m : Int)) p.ts, seqs := [p.seq], marked := p.marker, closed := p.marker, snagged := d.snagNext, arrived := m }

section
variable {s : State} {src i m : Nat} {p : VideoPkt} {d : DecCtx} (hdec : s.decOf src = some (i, d)) (hlive : s.sourceLive src = true) (hdark : s.decDark d = false)
  (hlev : s.pwr.levelNow < 3) (ha : d.anchor = none) (hu : d.units = []) (hm : m = s.arrivalMedia (src / 4) p.seq (s.confOfSource src))
include hdec hlive hdark hlev ha hu hm

theorem videoArrival_of_paid (hcost : p.lumaSamples * 48 ≤ min (d.kpxs * 48000) (d.bucket + d.kpxs * (m - d.bucketAt))) :
    videoArrival src p s = (s.modDec i (fun e => e.anchoredBy p m)).modDec i
      (fun e => e.opens (d.firstUnit p m) m (min (d.kpxs * 48000) (d.bucket + d.kpxs * (m - d.bucketAt)) - p.lumaSamples * 48)) := by
  subst hm
  simp [videoArrival, hdec, hlive, hdark, not_le.2 hlev, ha, hu, not_lt.2 hcost]
  rfl

theorem videoArrival_of_short (hcost : min (d.kpxs * 48000) (d.bucket + d.kpxs * (m - d.bucketAt)) < p.lumaSamples * 48) (hst : d.state ≠ .clean) :
    videoArrival src p s = ((s.modDec i (fun e => e.anchoredBy p m)).modDec i
      (fun e => { e.opens { d.firstUnit p m with dropped := true } m (min (d.kpxs * 48000) (d.bucket + d.kpxs * (m - d.bucketAt))) with
        cRateDrop := e.cRateDrop + 1, picnum := e.picnum + 1 })).fin := by
  subst hm
  simp [videoArrival, hdec, hlive, hdark, not_le.2 hlev, ha, hu, hcost, hst]
  rfl

end

theorem State.mirror_pic (s : State) (n : Nat) : (s.mirror n).pic = s.pic := by rw [State.mirror_eq]

theorem State.dec_asked {s : State} {i : Nat} {d : DecCtx} (h : tget s.pic.dec i = some d) (src : Nat) (fir pli : Bool) :
    ∃ e, tget (if fir then s.askKey src true false else if pli then s.askKey src false true else s).pic.dec i = some e ∧ d.Asked e := by
  split
  · exact State.dec_askKey h src true false
  · split
    · exact State.dec_askKey h src false true
    · exact ⟨d, h, rfl⟩

/-- What a lane leaves in its context: the picture decoded and counted, and the state it moves to (06 R167 to R172). -/
theorem lanePicture_dec {s : State} {i : Nat} {d : DecCtx} {b : BufPic} {rest : List BufPic} {good : List SynRec} {refs : List (Option RefPic)} {sub : Frame}
    (hd : tget s.pic.dec i = some d) (hb : d.buffer = b :: rest) (hend : b.ended = true) (hdark : s.decDark d = false) (hst : s.twin.state ≠ .standby)
    (hgood : good = (if b.full then [] else ((withinWork (workMax b.hdr) 0 (b.records.filter (fun r => r.kind == .block))).zipIdx.filter (fun p => !b.poisoned.contains p.2)).map (·.1)))
    (hrefs : refs = (b.hdr.refs ++ b.hdr.lower.toList).map (fun n => d.dpb.find? (fun r => r.name == n)))
    (hsub : sub = (tget d.recent b.hdr.spatial.val).getD (greyFrame b.hdr.width b.hdr.height)) :
    ∃ e, tget (lanePicture i d.picnum s).pic.dec i = some e ∧ e.buffer = rest ∧ e.picnum = (if b.hdr.shown then d.picnum + 1 else d.picnum) ∧ e.cPictures = d.cPictures + 1 ∧
      e.state = decAfter d.state b.hdr.key b.hdr.nonRef (b.full || b.missing || someConcealed b.hdr good) (refs.all (fun r => r.any (·.clean))) ∧
      tget e.recent b.hdr.spatial.val = some (reconstruct b.hdr b.depth good (refs.map (fun r => r.elim sub (·.pixels))) sub) := by
  subst hgood hrefs hsub
  unfold lanePicture
  split
  · next h => simp [hd] at h
  next d' h =>
  obtain rfl := Option.some.inj (hd.symm.trans h)
  split
  · next h => simp [hb] at h
  next b' rest' h =>
  obtain ⟨rfl, rfl⟩ := List.cons.inj (hb.symm.trans h)
  rw [if_neg (by simp [hend, hdark, hst])]
  extract_lets h all run good refs sub pixels past concealed refsClean clean next two codec out named s1 s2 first s3
  have h2 := State.dec_setDec (State.dec_modDec hd _ : tget s1.pic.dec i = some _) next
  obtain ⟨e, he, hasked⟩ := State.dec_asked h2 d.source (b.missing || first) (concealed && !h.nonRef)
  refine ⟨e, ?_, ?_⟩
  · rw [State.fin_pic, State.mirror_pic]
    exact he
  · rw [hasked]
    exact ⟨rfl, rfl, rfl, rfl, tget_tput ..⟩

theorem encodePicture_enc {s : State} {i : Nat} {layers : List LayerCode} {e : EncCtx} {f : Feed} (he : tget s.pic.enc i = some e) (hf : tget s.pic.feeds e.feed = some f)
    (hg : e.gated = false) (hb : f.basted = none) (hst : s.twin.state ≠ .standby)
    (hcap : State.nextCapture e f.req.rate.toNat ≤ s.media ((tget s.pic.layouts f.layout).elim 0 (·.conf)))
    (hready : s.slotReady f.layout (State.nextCapture e f.req.rate.toNat) = true) :
    ∃ g, tget (encodePicture i layers s).pic.enc i = some g ∧ g.picnum = e.picnum + 1 ∧ g.feed = e.feed := by
  unfold encodePicture
  simp only [he, hf]
  rw [if_neg (by simp [hg, hb, hst, hready, not_lt.2 hcap])]
  have hm : tget (s.mirror 16).pic.enc i = some e := by rw [State.mirror_pic, he]
  exact iteInduction (motive := fun t : State => ∃ g : EncCtx, tget t.pic.enc i = some g ∧ g.picnum = e.picnum + 1 ∧ g.feed = e.feed)
    (fun _ => ⟨_, State.enc_modEnc hm _, rfl, rfl⟩) (fun _ => ⟨_, State.enc_modEnc hm _, rfl, rfl⟩)

theorem State.dropDue_of_layout {s : State} {y : Nat} {l : Layout} (hl : tget s.pic.layouts y = some l) :
    s.modLayout y (fun k => { k with changes := k.changes.filter (fun c => !decide (c.1 ≤ k.next)) }) =
      s.modLayout y (fun k => { k with changes := k.changes.filter (fun c => !decide (c.1 ≤ l.next)) }) := by
  unfold State.modLayout State.modPic
  dsimp only
  rw [tmod_congr (fun k hk => ?_)]
  obtain rfl := Option.some.inj (hl.symm.trans hk)
  rfl

/-- What drawing a slot leaves in the layout, until its verdict (07 R193, R198). -/
def Layout.drawn (l : Layout) (s : State) (slot : Nat) (silent : List Nat) : Layout :=
  let views := l.tiles.map (fun p => (p.1, p.2, s.showTile l slot p.1 p.2))
  let good := (s.regionRects l).filter (fun r => !l.bad.contains r.1)
  let f := drawSlot l.width l.height l.bg (views.map (fun v => (v.1, v.2.1, v.2.2.content))) (good.map (·.2))
  { l with
    lastSlot := slot, awaiting := true
    signatures := (good.filter (fun r => !silent.contains r.1)).map (fun r => (r.1, crc32c (regionBytes f r.2.2.1 r.2.2.2.1 r.2.2.2.2.1 r.2.2.2.2.2)))
    sigUntil := some (slot + 2 * slotDelta l.rate)
    picts := { slot, pixels := f, rects := (s.regionRects l).map (·.2.2) } :: l.picts.filter (fun p => decide (slot ≤ p.slot + 192000))
    shown := views.filterMap (fun v => v.2.2.source.map (fun p => (v.1, p))), contents := views.map (fun v => (v.1, v.2.2.content)), snags := []
    concealed := (views.filter (fun v => v.2.2.concealed)).length, stale := (views.filter (fun v => v.2.2.stale)).length }

/-- A layout with a safety region that can be drawn waits for its signatures. -/
theorem drawLayout_of_regions {s : State} {y : Nat} {l : Layout} (hl : tget s.pic.layouts y = some l) (hr : s.drawnRegions l ≠ []) (slot : Nat) (silent : List Nat) :
    tget (drawLayout y slot silent s).pic.layouts y = some (l.drawn s slot silent) := by
  unfold drawLayout
  split
  · next h => simp [hl] at h
  next l' h =>
  obtain rfl := Option.some.inj (hl.symm.trans h)
  extract_lets views rects good f sign own t
  have hno : ¬ (t.drawnRegions l = [] ∧ (!l.noFit) = true ∧ t.twin.state ≠ TwinState.standby) := fun h => hr h.1
  rw [if_neg hno]
  exact State.layout_modLayout hl _

/-- Settles O26: the layout commands, the decoders and the compositor take effect. -/
theorem pictureActs : Obligations.PictureActs := by
  refine ⟨fun s m c => ⟨?_, ?_, ?_, ?_, ?_, ?_, ?_, ?_, ?_, ?_, ?_⟩, fun s => ⟨?_, ?_, ?_, ?_, ?_, ?_, ?_⟩, fun s y l hl => ⟨?_, ?_, ?_, ?_, ?_⟩⟩
  · rintro q r y rfl hy h
    refine next_congr (State.run_of_takes h ?_ rfl)
    simp only [rowLayoutCreate, hy]
  · intro y h
    exact next_congr (State.run_of_takes h rfl rfl)
  · intro q h
    exact next_congr (State.run_of_takes h rfl rfl)
  · intro layout region overlay x y r h ho hr
    refine next_congr (State.run_of_takes h ?_ rfl)
    simp only [rowLayoutSafety, if_neg ho, hr]
  · intro layout region x y h hr
    refine next_congr (State.run_of_takes h ?_ rfl)
    simp only [rowLayoutSafety, if_true, hr, show (0xFF : U8).toNat = 0xFF from rfl]
  · intro q f hf hq h
    refine next_congr (State.run_of_takes h ?_ rfl)
    simp only [rowLayoutFeed, hf, if_pos hq]
  · rintro q f t hf hq h rfl
    refine next_congr (State.run_of_takes h ?_ rfl)
    simp only [rowLayoutFeed, hf, if_neg hq]
  · intro feed g hg h
    refine next_congr (State.run_of_takes h ?_ rfl)
    simp only [rowLayoutKeypic, hg]
  · intro y l hl h
    refine next_congr (State.run_of_takes h ?_ rfl)
    simp only [rowLayoutQuery, hl]
  · intro i d hd h
    refine next_congr (State.run_of_takes h ?_ rfl)
    simp only [rowLayoutContext, hd, if_true]
  · intro i e he h
    refine next_congr (State.run_of_takes h ?_ rfl)
    simp [rowLayoutContext, he]
  · intro src i m p d hdec hd hlive hdark hlev ha hu hm
    have hfirst := State.dec_modDec hd (fun e => e.anchoredBy p m)
    have hunits (u : AccessUnit) (k b : Nat) : ((d.anchoredBy p m).opens u k b).units = [u] := by simp [DecCtx.opens, DecCtx.anchoredBy, hu]
    refine ⟨fun hcost => ?_, fun hcost hst => ?_⟩
    · have h := State.dec_modDec hfirst (fun e => e.opens (d.firstUnit p m) m (min (d.kpxs * 48000) (d.bucket + d.kpxs * (m - d.bucketAt)) - p.lumaSamples * 48))
      rw [← videoArrival_of_paid hdec hlive hdark hlev ha hu hm hcost] at h
      exact ⟨_, _, rfl, h, rfl, rfl, rfl, hunits .., rfl, rfl, rfl⟩
    · have h := State.dec_modDec hfirst (fun e => { e.opens { d.firstUnit p m with dropped := true } m (min (d.kpxs * 48000) (d.bucket + d.kpxs * (m - d.bucketAt))) with
        cRateDrop := e.cRateDrop + 1, picnum := e.picnum + 1 })
      rw [← State.fin_pic, ← videoArrival_of_short hdec hlive hdark hlev ha hu hm hcost hst] at h
      exact ⟨_, _, rfl, h, rfl, by rw [hunits]; rfl, rfl, rfl⟩
  · intro i g d e u us hd he hdark hu hts hdrop hspent
    have hgo : ¬ (s.decDark d = true ∨ (!d.units.any (fun u => u.ts == g.ts && !u.dropped)) = true) := by simp [hdark, hu, hts, hdrop]
    refine ⟨fun hm hc => next_congr (State.modDec_congr fun d' hd' => ?_), fun hm hw hb => next_congr (State.modDec_congr fun d' hd' => ?_),
      fun w hm hw hdone hw' => next_congr (State.modDec_congr fun d' hd' => ?_)⟩
    all_goals
      obtain rfl : d = d' := by rw [hd] at hd'; exact Option.some.inj hd'
      rw [he]
      dsimp only
      rw [if_neg hgo, DecCtx.skipTo_of_head hu hts hdrop, hu]
      dsimp only
      rw [hm, hspent]
    · simp [hc]
    · simp [hw, hb]
    · have hbusy : ¬ ((!d.writing) = true ∧ 2 ≤ d.buffer.length) := by
        rintro ⟨hidle, hfull⟩
        rcases hw with hw | hw
        · simp [hw] at hidle
        · omega
      rw [if_neg Bool.false_ne_true, if_neg (by simp), if_neg hbusy, hw', hdone]
      simp
  · intro i d hd hb
    exact next_congr (State.modDec_congr fun d' hd' => by
      obtain rfl : d = d' := by rw [hd] at hd'; exact Option.some.inj hd'
      rw [if_pos hb])
  · intro i d b rest good refs sub hd hb hend hdark hst hgood hrefs hsub
    obtain ⟨e, he, hfacts⟩ := lanePicture_dec hd hb hend hdark hst hgood hrefs hsub
    exact ⟨_, e, rfl, he, hfacts⟩
  · intro src fir pli hall hdue
    exact next_congr (by simp [keyDeferred, hall, hdue])
  · intro i d hd hs hl
    exact next_congr (by simp [decodeStall, hd, hs, hl])
  · intro i layers e f he hf hg hb hst hcap hready
    obtain ⟨g, hg, hfacts⟩ := encodePicture_enc (layers := layers) he hf hg hb hst hcap hready
    exact ⟨_, g, rfl, hg, hfacts⟩
  · rintro silent t hb ha hn hc rfl hw
    refine next_congr ?_
    unfold composeSlot
    simp only [hl]
    rw [if_neg (by simp [hb, ha, hc, not_lt.2 hn])]
    rw [State.dropDue_of_layout hl] at hw ⊢
    exact if_neg (Bool.eq_false_iff.1 hw)
  · rintro silent slot f hr rfl
    refine ⟨_, drawLayout_of_regions hl hr slot silent, rfl, rfl, rfl, ?_, ?_⟩
    · simp [Layout.drawn, List.map_map, Function.comp_def]
    · simp [Layout.drawn, List.map_map, Function.comp_def]
  · intro ha hs hsig
    exact next_congr (by simp [safetyVerdict, hl, ha, hs, hsig])
  · intro u ha hs hu hm hsig
    exact next_congr (by simp [signatureTimeout, hl, ha, hs, hsig, hu, hm])
  · intro hg
    exact next_congr (by simp [cardRendered, hl, hg])

end Sys2Proof.Machine

end

section
/-! O27: forwarding. -/

namespace Sys2Proof.Machine
open Sys2Proof

theorem State.modEntry_pic (s : State) (e : Nat) (g : FwdEntry → FwdEntry) : (s.modEntry e g).pic = s.pic := rfl

theorem State.entryMedia_modEntry (s : State) (e : Nat) (g : FwdEntry → FwdEntry) (f : FwdEntry) : (s.modEntry e g).entryMedia f = s.entryMedia f := rfl

theorem State.measure_entries (s : State) (o : Nat) (isFeed : Bool) (m : Nat) (layer : Nat × Nat) (n : Nat) (r : FwdSource) (switch : Bool) :
    ((s.measure o isFeed m layer n r switch).modFwd (fun w => { w with sent := [] })).fwd.entries = s.fwd.entries := by
  cases isFeed <;> rfl

/-- Settles O27: the forwarding commands and the forwarder's events take effect. -/
theorem forwardingActs : Obligations.ForwardingActs := by
  refine ⟨fun s m c => ⟨?_, ?_, ?_, ?_, ?_, ?_, ?_, ?_⟩, fun s => ⟨?_, ?_, ?_, ?_, ?_, ?_, ?_⟩⟩
  · rintro r q e u v rfl he h rfl rfl
    refine next_congr (State.run_of_takes h ?_ rfl)
    simp only [rowFwdSubscribe, he]
  · intro entry h
    exact next_congr (State.run_of_takes h rfl rfl)
  · intro q h
    exact next_congr (State.run_of_takes h rfl rfl)
  · intro entry source h
    exact next_congr (State.run_of_takes h rfl rfl)
  · intro source ddExt fmExt h
    exact next_congr (State.run_of_takes h rfl rfl)
  · intro q h
    exact next_congr (State.run_of_takes h rfl rfl)
  · intro entry f hf h
    refine next_congr (State.run_of_takes h ?_ rfl)
    simp only [rowFwdQuery, hf]
  · intro leg h
    exact next_congr (State.run_of_takes h rfl rfl)
  · intro e fir f hf hb hidle htrans hfeed
    exact next_congr (by simp [receiverKey, hf, hb, hidle, htrans, hfeed])
  · intro e fir f k g hf hb hidle hk hg
    rcases hk with ⟨ht, hk⟩ | ⟨ht, hfeed, rfl⟩
    · cases htr : f.trans with
      | none => simp [htr] at hk
      | some t =>
        have hk' : tget s.pic.feeds t.2 = some g := by rw [← hg]; simp_all
        exact next_congr (by simp [receiverKey, hf, hb, ht, htr, State.modEntry_pic, State.entryMedia_modEntry, hk'])
    · exact next_congr (by simp [receiverKey, hf, hb, hidle, ht, hfeed, State.modEntry_pic, State.entryMedia_modEntry, hg])
  · intro l r q hl hq
    exact next_congr (by simp [rtcpFeedback, hl, hq])
  · intro l kbps q hl hq
    exact next_congr (by simp [tmmbr, hl, hq])
  · rintro o isFeed p m fresh x r layer hlive hsil hwork rfl rfl rfl rfl rfl
    refine next_congr ?_
    unfold forwardPacket
    rw [if_neg (by simp [hlive, hwork]; simpa using hsil)]
    dsimp only
    rw [State.measure_entries]
  · intro e f hf hk hdue
    exact next_congr (by simp [switchKeyWait, hf, hk, hdue])
  · intro e f t hf hs hm ht hl hafter hp hdue
    exact next_congr (by simp [transcodeAfter, hf, hs, hm, ht, hl, hafter, hp, hdue])

end Sys2Proof.Machine

end

section
/-! O31, O33: conferences, legs and seams. -/

namespace Sys2Proof.Machine
open Sys2Proof

theorem State.notPrimary_modLeg (s : State) (l : Nat) (f : Leg → Leg) : (s.modLeg l f).notPrimary = s.notPrimary := rfl

/-- Settles O31: the conference and leg commands and the events of legs take effect. -/
theorem conferencesAndLegsAct : Obligations.ConferencesAndLegsAct := by
  refine ⟨fun s m c => ⟨?_, ?_, ?_, ?_, ?_⟩, fun s m c => ⟨?_, ?_, ?_, ?_, ?_, ?_⟩, fun s => ⟨?_, ?_, ?_, ?_, ?_, ?_, ?_, ?_, ?_, ?_, ?_, ?_, ?_⟩⟩
  · intro conf speakers standing legLimit startMedia k hk h
    refine next_congr (State.run_of_takes h ?_ rfl)
    simp only [rowConfCreate, hk]
  · intro conf force h
    exact next_congr (State.run_of_takes h rfl rfl)
  · intro conf speakers standing legField legLimit h
    exact next_congr (State.run_of_takes h rfl rfl)
  · intro conf q hq h
    refine next_congr (State.run_of_takes h ?_ rfl)
    simp only [rowConfQuery, hq, List.length_map]
  · intro h
    exact next_congr (State.run_of_takes h rfl rfl)
  · intro o l hl h
    refine next_congr (State.run_of_takes h ?_ ?_)
    · simp only [rowLegOpen, hl]
    · rfl
  · rintro r o a b rfl h rfl rfl
    exact next_congr (State.run_of_takes h rfl rfl)
  · rintro o q confs t hq h rfl rfl
    refine next_congr (State.run_of_takes h ?_ rfl)
    simp only [rowLegUpdate, hq]
    rfl
  · intro leg h
    exact next_congr (State.run_of_takes h rfl rfl)
  · intro leg hold h
    exact next_congr (State.run_of_takes h rfl rfl)
  · intro leg q hq h
    refine next_congr (State.run_of_takes h ?_ rfl)
    simp only [rowLegQuery, hq]
  · intro c q hq ho hb ht hst hre
    exact next_congr (by simp [confOrigin, hq, ho, hb, ht, hst, hre, setOrigin, tmod_of_some hq])
  · intro i hi
    exact next_congr (by simp [holdoffEnd, hi])
  · intro i hi
    exact next_congr (by simp [holdoffEnd, hi])
  · intro i hi
    exact next_congr (by simp [holdoffEnd, State.modFwd, hi])
  · rintro l fresh q o u hl hq ho rfl
    rcases ho with ⟨rfl, rfl⟩ | ⟨rfl, ho⟩
    · exact next_congr (by simp only [stunRequest, hl, hq]; simp [State.notPrimary_modLeg])
    · cases ha : q.newAddr with
      | none => simp [ha] at ho
      | some a =>
        obtain rfl : withAddr q.offer a = o := by simpa [ha] using ho
        exact next_congr (by simp only [stunRequest, hl, hq, ha]; simp [State.notPrimary_modLeg])
  · intro l suite version q hl hq hk hd hw
    exact next_congr (by simp [dtlsDone, hl, hq, hk, hd, hw])
  · intro l suite version q hl hq hk hd hw
    exact next_congr (by simp [dtlsDone, hl, hq, hk, hd, hw])
  · intro l q hp hl hq hu
    exact next_congr (by simp [connectTimeout, hl, hq, hu, measures, hp, timedClose])
  · intro l q t hp hl hq hu ht
    exact next_congr (by simp [consentLost, hl, hq, hu, measures, hp, timedClose, ht])
  · intro l t hp hu ht
    exact next_congr (by simp [rekeyTimeout, hu, measures, hp, timedClose, ht])
  · intro l q hp hl hq hu
    exact next_congr (by simp [closingDrainEnd, hl, hq, hu, measures, hp])
  · intro r x hx hr hp
    exact next_congr (by simp [rosterDeferred, hx, hr, hp])
  · intro r hx hr hp
    exact next_congr (by simp [rosterDeferred, hx, hr, hp])

/-- Settles O33: the seam commands and the seams' events take effect. -/
theorem seamsAct : Obligations.SeamsAct := by
  refine ⟨fun s m c => ⟨?_, ?_, ?_, ?_, ?_⟩, fun s id k hk => ⟨?_, ?_, ?_, ?_⟩⟩
  · intro scope timeoutS h
    refine next_congr (State.run_of_takes h ?_ rfl)
    simp [rowSeamOpen, State.openSeam, State.seamsLive, Seam.inProgress]
  · rintro id asap tNs t k v hk h rfl he
    refine next_congr (State.run_of_takes h ?_ rfl)
    simp only [rowSeamClose, hk, he, if_true]
    rfl
  · rintro id asap tNs t k v hk h rfl he
    refine next_congr (State.run_of_takes h ?_ rfl)
    simp only [rowSeamClose, hk, if_neg he]
  · intro id h
    exact next_congr (State.run_of_takes h rfl rfl)
  · intro id k hk h
    refine next_congr (State.run_of_takes h ?_ rfl)
    simp only [rowSeamQuery, hk]
  · intro hd hs ho
    exact next_congr (by simp [seamOpenTimeout, hk, hd, hs, ho])
  · intro hd hs ho
    exact next_congr (by simp [confirmationDeadline, hk, hd, hs, ho])
  · intro cell hs hp hb hc
    exact next_congr (by simp only [seamBoundary, hk, hs, hp, hb, hc]; simp)
  · rintro cell parts u hs hp hb hc rfl rfl
    exact next_congr (by simp only [seamBoundary, hk, hs, hp, hb, hc]; simp)

end Sys2Proof.Machine

end

section
/-! O34: the access ports. -/

namespace Sys2Proof.Machine
open Sys2Proof

theorem State.accPort_modAcc (s : State) (p : Fin 2) (f : AccPort → AccPort) : (s.modAcc p f).accPort p = f (s.accPort p) := by
  simp [State.accPort, State.modAcc, Vector.get_eq_getElem]

theorem State.canonise_acc (s : State) (n : Nat) : (s.canonise n).acc = s.acc := by
  unfold State.canonise
  split
  · rw [State.mirror_eq]
  · rfl

theorem State.consumed_acc (s : State) (p : Fin 2) : (s.consumed p).acc = s.acc := by
  unfold State.consumed
  split
  · rfl
  · exact s.canonise_acc 48

theorem State.accPort_congr {s t : State} (h : t.acc = s.acc) (p : Fin 2) : t.accPort p = s.accPort p := by
  unfold State.accPort
  rw [h]

theorem State.treeRuns_congr {s t : State} (h : t.acc = s.acc) (p : Fin 2) : t.treeRuns p = s.treeRuns p := by
  unfold State.treeRuns
  rw [State.accPort_congr h]

theorem decision_of_access {i : Nat} {p : Fin 2} (h : i = 16 + p.val) (s : State) : decision i s = if s.linkState i ≠ 2 then s.accDrop p else s.headServe p := by
  have hp : fin2 i = p := by
    subst h
    unfold fin2
    split <;> ext <;> simp <;> omega
  unfold decision
  rw [if_neg (by omega), if_neg (by omega), hp]

/-- Settles O34: the access commands and the head's events take effect. -/
theorem accessActs : Obligations.AccessActs := by
  refine ⟨fun s m c => ⟨?_, ?_, ?_, ?_, ?_, ?_, ?_, ?_⟩, ?_⟩
  · intro q h
    exact next_congr (State.run_of_takes h rfl rfl)
  · intro port kind terminal gemId allocId h
    refine next_congr (State.run_of_takes h ?_ rfl)
    simp [rowAccessGem, doGem]
  · intro port mode kind terminal gemId allocId hmode h
    refine next_congr (State.run_of_takes h ?_ rfl)
    simp only [rowAccessGem, doGem, if_neg hmode]
  · intro port terminal index fixed assured max weight h
    refine next_congr (State.run_of_takes h ?_ rfl)
    simp [rowAccessTcont, doTcont]
  · intro port mode terminal index fixed assured max weight hmode h
    exact next_congr (State.run_of_takes h rfl rfl)
  · intro port mode onuId keyGroup serial o ho h
    refine next_congr (State.run_of_takes h ?_ rfl)
    simp only [rowAccessTree, ho]
  · rintro port a rfl h
    exact next_congr (State.run_of_takes h rfl rfl)
  · rintro port terminal a t hne rfl ht h
    refine next_congr (State.run_of_takes h ?_ rfl)
    simp [rowAccessQuery, show (terminal == 0xFF#8) = false from beq_false_of_ne hne, ht]
  · rintro s u p a hrun rfl rfl
    have hu : (s.consumed p).treeRuns p = true := (State.treeRuns_congr (s.consumed_acc p) p).trans hrun
    have ha : (s.consumed p).accPort p = s.accPort p := State.accPort_congr (s.consumed_acc p) p
    refine ⟨?_, ?_, ?_, ?_, ?_, ?_, ?_, ?_, ?_, ?_, ?_, ?_, ?_, ?_, ?_, ?_⟩
    · intro serial onu t hw hf hd h5 h4
      exact next_fin_congr (by simp [State.serialReceived, hu, ha, hw, hf, hd, h5, h4])
    · intro serial q hw hf hq hd
      exact next_fin_congr (by simp [State.serialReceived, hu, ha, hw, hf, hq, hd])
    · rintro onu roundTrip t conts ht h4 rfl
      exact next_fin_congr (by simp [State.registrationReceived, hu, ha, ht, h4])
    · intro onu
      exact next_congr (by simp [State.keyReport, hu])
    · intro onu
      exact next_congr (by simp [State.acknowledge, hu])
    · intro onu
      exact next_congr (by simp [State.acknowledge])
    · intro onu t due ht h4 hr hdue
      exact next_fin_congr (by simp [State.registrationTimeout, hrun, ht, h4, hr, hdue])
    · intro onu t ht h5
      exact next_fin_congr (by simp [State.missingBursts, hrun, ht, h5])
    · intro q hq hw hd
      exact next_congr (if_pos ⟨hrun, hw, by rw [hq]; exact hd⟩)
    · rintro g frame q now d hg hsw hq rfl rfl hdue
      refine next_fin_congr ?_
      unfold State.groupRotate
      simp only [hq]
      rw [if_pos ⟨hrun, hg, by simp [hsw], hdue⟩]
    · intro reports
      refine ⟨_, rfl, ?_⟩
      simp [State.allocateUpstream, hrun, State.accPort_modAcc]
      rfl
    · intro hle
      exact next_congr (by simp [State.oltg, hrun, hle])
    · intro power k hk
      exact next_congr (by simp only [State.rssi, hrun, hk]; simp)
    · intro power k hn hk
      exact next_congr (by simp only [State.rssi, hrun, hn, hk]; simp)
    · intro i hi hl
      exact next_congr ((decision_of_access hi s).trans (if_pos hl))
    · rintro lv c i v onu hi hl hc hw rfl hp rfl
      have hserve : decision i.toNat s = s.headServe p := (decision_of_access hi s).trans (if_neg (by simp [hl]))
      rw [hi] at hp ⊢
      rw [hi] at hserve
      refine ⟨fun hg => next_congr ?_, fun gem k w hg hk hw' => next_congr ?_⟩
      all_goals
        rw [hi, hserve]
        unfold State.headServe
        rw [if_neg (by simp [hrun, hc, hw])]
        simp only [hp, hg]
      subst hw' hk
      rfl

end Sys2Proof.Machine

end

section
/-! O35: the terminal role. -/

namespace Sys2Proof.Machine
open Sys2Proof

theorem State.modAcc_congr {s : State} {p : Fin 2} {f g : AccPort → AccPort} (h : f (s.accPort p) = g (s.accPort p)) : s.modAcc p f = s.modAcc p g := by
  unfold State.modAcc
  rw [show f (s.acc.ports.get p) = g (s.acc.ports.get p) from h]

theorem State.isTerminal_congr {s t : State} (h : t.acc = s.acc) (p : Fin 2) : t.isTerminal p = s.isTerminal p := by
  unfold State.isTerminal
  rw [State.accPort_congr h]

theorem State.clk_consumed (s : State) (p : Fin 2) : (s.consumed p).clk = s.clk := by
  have h : (s.consumed p).time = s.time := by
    unfold State.consumed
    split
    · rfl
    · unfold State.canonise
      split
      · rw [State.mirror_eq]
      · rfl
  simp only [State.clk, State.clkInt, State.chipNs, h]

theorem State.clk_modAcc (s : State) (p : Fin 2) (f : AccPort → AccPort) : (s.modAcc p f).clk = s.clk := rfl

/-- An operating terminal counts an OMCI message, answers it and, where it accepts it, takes its effect. -/
theorem State.omci_of_operating {s : State} {p : Fin 2} (ht : s.isTerminal p = true) (h5 : (s.accPort p).state = 5) {q : OmciReq} (halarm : ∀ onu, q ≠ .alarm onu)
    (htod : ∀ n sec ns, q ≠ .timeOfDay n sec ns) :
    State.omci p q s = (s.countAcc p 6).modAcc p (fun a =>
      { (if State.omciResult (s.accPort p) q = .success then State.omciEffect a q else a) with omciAnswer := some (State.omciResult (s.accPort p) q) }) := by
  unfold State.omci
  split
  · next onu => exact absurd rfl (halarm onu)
  · rw [if_neg (by simp [ht, h5])]
    cases q
    case timeOfDay n sec ns => exact absurd rfl (htod _ _ _)
    all_goals rfl

theorem State.draw32_acc (s : State) : s.draw32.2.acc = s.acc := by
  unfold State.draw32
  split
  · rfl
  · rw [State.mirror_eq]

theorem State.claimed_congr {s t : State} {p : Fin 2} (hks : t.ks = s.ks) (hbus : t.twin.busOk = s.twin.busOk) (hclaims : t.twin.claims = s.twin.claims)
    (hcfg : (t.accPort p).cfg = (s.accPort p).cfg) (hrole : (t.accPort p).role = (s.accPort p).role) : t.claimed p = s.claimed p := by
  unfold State.claimed State.gatedOn State.holdsGroup State.claimGroup State.laserOk
  rw [hks, hbus, hclaims, hcfg, hrole]

theorem State.mirror_claims (s : State) (n : Nat) : (s.mirror n).twin.busOk = s.twin.busOk ∧ (s.mirror n).twin.claims = s.twin.claims := by
  unfold State.mirror
  split
  · split <;> exact ⟨rfl, rfl⟩
  · exact ⟨rfl, rfl⟩

theorem State.draw32_claims (s : State) : s.draw32.2.ks = s.ks ∧ s.draw32.2.twin.busOk = s.twin.busOk ∧ s.draw32.2.twin.claims = s.twin.claims := by
  unfold State.draw32
  split
  · exact ⟨rfl, rfl, rfl⟩
  · exact ⟨by rw [State.mirror_eq], State.mirror_claims _ 4⟩

/-- A terminal that is granted its serial number draws its delay and, with its claim held, answers (11 R283). -/
theorem State.snGrant_of_standby {s : State} {p : Fin 2} (ht : s.isTerminal p = true) (h2 : (s.accPort p).state = 2) :
    ((State.snGrant p s).accPort p).snDelay = s.draw32.1.toNat % 48001 ∧
    (s.claimed p = true → ((State.snGrant p s).accPort p).ploamOut = [.serialNumberOnu ((s.accPort p).identity.getD 0) (s.draw32.1.toNat % 48001)]) := by
  have hgrant : State.snGrant p s =
      (let t := s.draw32.2.modAcc p (fun a => { a with snDelay := s.draw32.1.toNat % 48001 })
       if t.claimed p then t.ploam p [.serialNumberOnu ((t.accPort p).identity.getD 0) (t.accPort p).snDelay] else t) := if_pos ⟨ht, h2⟩
  have hport : (s.draw32.2.modAcc p (fun a => { a with snDelay := s.draw32.1.toNat % 48001 })).accPort p =
      { s.accPort p with snDelay := s.draw32.1.toNat % 48001 } := by
    rw [State.accPort_modAcc, State.accPort_congr s.draw32_acc]
  obtain ⟨hks, hbus, hclaims⟩ := s.draw32_claims
  have hclaimed := State.claimed_congr (t := s.draw32.2.modAcc p (fun a => { a with snDelay := s.draw32.1.toNat % 48001 })) (p := p) hks hbus hclaims
    (by rw [hport]) (by rw [hport])
  rw [hgrant]
  dsimp only
  rw [hclaimed, hport]
  split
  · rw [State.ploam, State.accPort_modAcc, hport]
    exact ⟨rfl, fun _ => rfl⟩
  · next h => exact ⟨by rw [hport], fun hc => absurd hc h⟩

section
variable {s : State} {p : Fin 2} {g : Allocation} (ht : s.isTerminal p = true)
  (hst : (s.accPort p).state = 5 ∨ (s.accPort p).state = 4 ∧ (s.accPort p).onuId ≠ some g.allocId) (hc : s.claimed p = true)
  (hs : (s.accPort p).sleeping = false) (halloc : (s.accPort p).allocIds.contains g.allocId = true)
include ht hst hc hs halloc

/-- A terminal in operation, or ranging on another Alloc-ID, looks at the grants of its own Alloc-IDs. -/
theorem State.burstGrant_active :
    ¬ (!s.isTerminal p ∨ !((s.accPort p).state = 4 ∨ (s.accPort p).state = 5) ∨ !s.claimed p ∨ (s.accPort p).sleeping) ∧
    ¬ ((s.accPort p).state = 4 ∧ (s.accPort p).onuId = some g.allocId) ∧ ¬ (!(s.accPort p).allocIds.contains g.allocId) = true := by
  refine ⟨?_, ?_, by rw [halloc]; decide⟩
  · rcases hst with h | ⟨h, -⟩ <;> simp [ht, hc, hs, h]
  · rcases hst with h | ⟨h, hn⟩
    · simp [h]
    · simp [hn]

theorem State.burstGrant_of_overlap (hlt : g.startBit < (s.accPort p).lastBurstEnd) : State.burstGrant p g s = s.countAcc p 5 := by
  obtain ⟨hactive, hother, hown⟩ := State.burstGrant_active ht hst hc hs halloc
  unfold State.burstGrant
  dsimp only
  rw [if_neg hactive, if_neg hother, if_neg hown, if_pos hlt]

theorem State.burstGrant_of_free {b : List Gem} {v : State} {r : State × Nat} (hle : (s.accPort p).lastBurstEnd ≤ g.startBit)
    (hv : v = ((s.modAcc p (fun a => { a with lastBurstEnd := g.startBit + 8 * g.lengthBytes, eqd := a.eqdNext.getD a.eqd, eqdNext := none })).countAcc p 3).accClean p)
    (hb : b = v.gemsOf p g.allocId)
    (hr : r = State.fillGrant p (((s.accPort p).mib.find? (fun e => e.cls == 268 && e.allocId == g.allocId)).elim 0 (·.gemId)) (State.kindOn b 0) (State.kindOn b 1) 4096
      (g.lengthBytes - (if g.statusReport then 4 else 0)) v) :
    State.burstGrant p g s = r.1.modAcc p (fun a => { a with burst := some {
      allocId := g.allocId, start := g.startBit, stop := g.startBit + 8 * g.lengthBytes, leadNs := (State.enableNs a).1, lagNs := (State.enableNs a).2,
      report := if g.statusReport then some (v.bufferReport p (State.kindOn b 0) (State.kindOn b 1)) else none, idle := r.2 } }) := by
  obtain ⟨hactive, hother, hown⟩ := State.burstGrant_active ht hst hc hs halloc
  unfold State.burstGrant
  dsimp only
  rw [if_neg hactive, if_neg hother, if_neg hown, if_neg (not_lt.2 hle), ← hv, ← hb, ← hr]

end

/-- A GEM port or an interworking point that does not exist is created, the latter for a bridge or a mapper. -/
theorem State.omciResult_create {a : AccPort} {cls inst gemId allocId target : Nat} (hcls : cls = 266 ∧ (target = 134 ∨ target = 347) ∨ cls = 268)
    (hno : a.mib.any (fun e => e.cls == cls && e.inst == inst) = false) : State.omciResult a (.create cls inst gemId allocId target) = .success := by
  rcases hcls with ⟨rfl, htarget⟩ | rfl
  · simp only [State.omciResult, State.inMib, hno]
    rcases htarget with rfl | rfl <;> rfl
  · simp only [State.omciResult, State.inMib, hno]
    rfl

theorem State.omciResult_delete {a : AccPort} {cls inst : Nat} {e : MibEntry} (hcls : cls = 266 ∨ cls = 268)
    (he : a.mib.find? (fun e => e.cls == cls && e.inst == inst) = some e) : State.omciResult a (.delete cls inst) = .success := by
  have hin : a.mib.any (fun e => e.cls == cls && e.inst == inst) = true := by
    rw [List.any_eq_true]
    exact ⟨e, List.mem_of_find?_eq_some he, List.find?_some (p := fun e : MibEntry => e.cls == cls && e.inst == inst) he⟩
  rcases hcls with rfl | rfl <;> (simp only [State.omciResult, State.inMib, hin]; rfl)

theorem State.timeOfDay_late {s : State} {p : Fin 2} {n : Nat}
    (h : (s.accPort p).latches.find? (fun l => l.count == n && decide (s.clk ≤ l.tick + 2 * State.ticksPerS)) = none) (sec ns : Nat) :
    s.timeOfDay p n sec ns = s.modAcc p (fun a => { a with cLateTod := a.cLateTod + 1 }) := by
  unfold State.timeOfDay
  dsimp only
  rw [h]

/-- Settles O35: the terminal's states, its grants and messages, and its OMCI agent. -/
theorem terminalActs : Obligations.TerminalActs := by
  refine ⟨?_, ?_, ?_⟩
  · rintro s u p a ht rfl rfl
    have hu : (s.consumed p).isTerminal p = true := (State.isTerminal_congr (s.consumed_acc p) p).trans ht
    have ha : (s.consumed p).accPort p = s.accPort p := State.accPort_congr (s.consumed_acc p) p
    refine ⟨?_, ?_, ?_, ?_, ?_, ?_, ?_, ?_, ?_, ?_, ?_, ?_, ?_, ?_, ?_⟩
    · intro hg hs
      exact next_congr (by simp [State.hunt, ht, hg, hs])
    · rintro q v hs hq rfl
      refine next_fin_congr ?_
      unfold State.syncGained
      have hv := State.modAcc_congr (s := s) (p := p)
        (f := fun a => { a with synced := true, gen := if a.gen ≠ 0 then a.gen else (match a.cfg with | some q => if q.gen = 0 then (if a.huntFast then 2 else 1) else q.gen.toNat | none => 0) })
        (g := fun a => { a with synced := true, gen := if a.gen ≠ 0 then a.gen else if q.gen = 0 then (if a.huntFast then 2 else 1) else q.gen.toNat }) (by simp only [hq])
      rw [if_neg (by simp [ht, hs]), ← hv]
      rfl
    · intro hs h2
      exact next_fin_congr (by simp [State.syncLost, ht, hs, h2])
    · intro q hs h5 hq
      exact next_fin_congr (by simp [State.syncLost, ht, hs, h5, hq, State.clk_modAcc])
    · intro hs h2 h5
      exact next_fin_congr (by simp [State.syncLost, ht, hs, h2, h5])
    · intro usRate hs
      exact next_fin_congr (by simp [State.burstProfile, hu, ha, hs])
    · intro onu serial q h2 hi hq
      exact next_fin_congr (by simp [State.assignOnu, hu, ha, h2, hi, hq])
    · intro relative bits h4 hto
      refine next_fin_congr ?_
      have hin : (s.accPort p).to1.any (fun t => decide (t ≤ s.clk)) = false := by
        cases hto1 : (s.accPort p).to1 with
        | none => rfl
        | some t => simpa using hto t hto1
      unfold State.rangingTime
      dsimp only
      rw [if_neg (by simp [hu]), if_pos (by rw [ha, h4]), if_neg (by rw [ha, s.clk_consumed, hin]; exact Bool.false_ne_true)]
      exact congrArg (fun t : State => (t.accState p 5 1).modBase 2 (fun b => if b.enabled then { b with armed := true } else b)) (State.modAcc_congr rfl)
    · intro relative bits t h4 hto hle
      exact next_fin_congr (by simp [State.rangingTime, hu, ha, h4, s.clk_consumed, hto, hle])
    · intro relative bits h5
      refine next_fin_congr ?_
      unfold State.rangingTime
      dsimp only
      rw [if_neg (by simp [hu]), if_neg (by rw [ha, h5]; decide), if_pos (by rw [ha, h5])]
      exact State.modAcc_congr rfl
    · intro t h4 hto hle
      exact next_fin_congr (by simp [State.to1Expiry, ht, h4, hto, hle])
    · intro t h6 hto hle
      exact next_fin_congr (by simp [State.to2Expiry, ht, h6, hto, hle])
    · intro onu h5 ho
      exact next_fin_congr (by simp [State.deactivate, hu, ha, h5, ho])
    · intro serial hi hs
      exact next_fin_congr (by simp [State.disableSerial, hu, ha, hi, hs])
    · intro serial hi h7
      exact next_fin_congr (by simp [State.disableSerial, hu, ha, hi, h7])
  · rintro s u p a ht rfl rfl
    have hu : (s.consumed p).isTerminal p = true := (State.isTerminal_congr (s.consumed_acc p) p).trans ht
    have ha : (s.consumed p).accPort p = s.accPort p := State.accPort_congr (s.consumed_acc p) p
    refine ⟨?_, ?_, ?_, ?_, ?_, ?_, ?_, ?_, ?_, ?_, ?_, ?_, ?_, ?_, ?_, ?_, ?_⟩
    · intro n hs
      exact next_congr (if_neg (by simp [ht, hs]))
    · intro h2
      obtain ⟨hdelay, hout⟩ := State.snGrant_of_standby ht h2
      exact ⟨_, rfl, hdelay, hout⟩
    · intro g h4 hc hs ho
      exact next_fin_congr (by simp [State.burstGrant, ht, h4, hc, hs, ho])
    · intro g hst hc hs halloc hlt
      exact next_fin_congr (State.burstGrant_of_overlap ht hst hc hs halloc hlt)
    · intro g b v r hst hc hs halloc hle hv hb hr
      exact next_fin_congr (State.burstGrant_of_free ht hst hc hs halloc hle hv hb hr)
    · intro hst
      exact next_congr (by simp [State.requestRegistration, hu, ha, hst])
    · intro alloc onu ho hst
      exact next_congr (by simp [State.assignAlloc, hu, ha, ho, hst])
    · rintro k n d h5 rfl
      exact next_fin_congr (by simp [State.keyControl, hu, ha, h5])
    · rintro k n d h5 rfl
      exact next_fin_congr (by simp [State.keyControl, hu, ha, h5])
    · exact next_congr (by simp [State.sleepAllow, hu])
    · rintro v rfl
      exact next_congr (by simp [State.sleepAllow, hu])
    · intro level hst
      exact next_congr (by simp [State.powerLevel, hu, ha, hst])
    · intro level hst
      exact next_congr (by simp [State.powerLevel, hu, ha, hst])
    · intro h5
      exact next_congr (by simp [State.powerInquire, hu, ha, h5])
    · intro hs
      exact next_congr (by simp [State.sleepWake, State.sleepTo, hs])
    · intro hr
      exact next_congr (by simp [State.ploamIgnored, ha, hr])
    · intro hr
      exact next_congr (by simp [State.ploamIgnored, ha, hr])
  · rintro s u p a ht rfl h5 rfl
    have hu : (s.consumed p).isTerminal p = true := (State.isTerminal_congr (s.consumed_acc p) p).trans ht
    have ha : (s.consumed p).accPort p = s.accPort p := State.accPort_congr (s.consumed_acc p) p
    have hu5 : ((s.consumed p).accPort p).state = 5 := by rw [ha, h5]
    have hmib : (((s.consumed p).countAcc p 6).accPort p).mib = (s.accPort p).mib := by
      rw [State.countAcc, State.accPort_modAcc, ha]
    have omci (q : OmciReq) (f : AccPort → AccPort) (halarm : ∀ onu, q ≠ .alarm onu) (htod : ∀ n sec ns, q ≠ .timeOfDay n sec ns)
        (hf : ∀ b : AccPort, b.mib = (s.accPort p).mib →
          { (if State.omciResult (s.accPort p) q = .success then State.omciEffect b q else b) with omciAnswer := some (State.omciResult (s.accPort p) q) } = f b) :
        State.omci p q (s.consumed p) = ((s.consumed p).countAcc p 6).modAcc p f := by
      rw [State.omci_of_operating hu hu5 halarm htod, ha]
      exact State.modAcc_congr (hf _ hmib)
    have taken (q : OmciReq) (f : AccPort → AccPort) (halarm : ∀ onu, q ≠ .alarm onu) (htod : ∀ n sec ns, q ≠ .timeOfDay n sec ns)
        (hr : State.omciResult (s.accPort p) q = .success)
        (hf : ∀ b : AccPort, b.mib = (s.accPort p).mib → { State.omciEffect b q with omciAnswer := some .success } = f b) :
        State.omci p q (s.consumed p) = ((s.consumed p).countAcc p 6).modAcc p f :=
      omci q f halarm htod (fun b hb => by rw [hr, if_pos rfl, hf b hb])
    refine ⟨?_, ?_, ?_, ?_, ?_, ?_, ?_, ?_, ?_⟩
    · exact next_fin_congr (taken _ _ (by simp) (by simp) rfl (fun b hb => rfl))
    · intro inst gemId allocId target hno
      exact next_fin_congr (taken _ _ (by simp) (by simp) (State.omciResult_create (.inr rfl) hno) (fun b hb => rfl))
    · intro inst gemId allocId target hin
      exact next_fin_congr (omci _ _ (by simp) (by simp) (fun b hb => by simp [State.omciResult, State.inMib, State.entities, hin]))
    · intro inst e he
      exact next_fin_congr (taken _ _ (by simp) (by simp) (State.omciResult_delete (.inr rfl) he) (fun b hb => by simp only [State.omciEffect, hb, he]; rfl))
    · intro inst gemId allocId target htarget hno
      exact next_fin_congr (taken _ _ (by simp) (by simp) (State.omciResult_create (.inl ⟨rfl, htarget⟩) hno) (fun b hb => rfl))
    · intro inst e he
      exact next_fin_congr (taken _ _ (by simp) (by simp) (State.omciResult_delete (.inl rfl) he) (fun b hb => by simp only [State.omciEffect, hb, he]; rfl))
    · rintro inst attr value e rfl
      exact next_fin_congr (taken _ _ (by simp) (by simp) rfl (fun b hb => by rw [← hb]; rfl))
    · intro inst allocId
      exact next_fin_congr (taken _ _ (by simp) (by simp) rfl (fun b hb => rfl))
    · intro n sec ns hl
      refine next_fin_congr ((if_neg (by simp [hu, hu5])).trans (State.timeOfDay_late ?_ sec ns))
      have hlatch : ((((s.consumed p).countAcc p 6).modAcc p (fun a => { a with omciAnswer := some .success })).accPort p).latches = (s.accPort p).latches := by
        rw [State.accPort_modAcc, State.countAcc, State.accPort_modAcc, ha]
      exact (congrArg₂ (fun l c => List.find? (fun x : FrameLatch => x.count == n && decide (c ≤ x.tick + 2 * State.ticksPerS)) l) hlatch (s.clk_consumed p)).trans hl

end Sys2Proof.Machine

end

section
/-! What the twin keeps of itself. -/

namespace Sys2Proof.Machine
open Sys2Proof

/-- The twin without what sending to the peer and drawing change. -/
def Twin.pair (t : Twin) : Twin := { t with unacked := [], txSeq := 0, mirrorStopped := false, peerState := none, draws := [], canon := 0 }

@[simp] theorem foldl_pair {α : Type} {f : State → α → State} (h : ∀ (s : State) (a : α), (f s a).twin.pair = s.twin.pair) (l : List α) (s : State) :
    (l.foldl f s).twin.pair = s.twin.pair := by
  induction l generalizing s with
  | nil => rfl
  | cons a l ih => rw [List.foldl_cons, ih, h]

/-! ### What leaves it alone -/

@[simp] theorem State.mirror_pair (s : State) (payload : Nat) :
    (s.mirror payload).twin.pair = s.twin.pair := by
  unfold State.mirror; (repeat' split) <;> rfl

@[simp] theorem State.raise_pair (s : State) (code : Nat) (status : U8) (data : Bytes) :
    (s.raise code status data).twin.pair = s.twin.pair := by
  unfold State.raise; rfl

@[simp] theorem State.raiseTo_pair (s : State) (m : Mbx) (code : Nat) (status : U8) (data : Bytes) :
    (s.raiseTo m code status data).twin.pair = s.twin.pair := by
  unfold State.raiseTo; rfl

@[simp] theorem State.raiseDone_pair (s : State) (m : Mbx) (seq : Nat) (code : Nat) (status : U8) (data : Bytes) :
    (s.raiseDone m seq code status data).twin.pair = s.twin.pair := by
  unfold State.raiseDone; rfl

@[simp] theorem State.modSeam_pair (s : State) (id : U16) (f : Seam → Seam) :
    (s.modSeam id f).twin.pair = s.twin.pair := by
  unfold State.modSeam; rfl

@[simp] theorem State.legEvent_pair (s : State) (leg : Nat) (conf : Nat) (new : Nat) (old : Nat) (cause : Nat) :
    (s.legEvent leg conf new old cause).twin.pair = s.twin.pair := by
  unfold State.legEvent; rfl

@[simp] theorem State.modLeg_pair (s : State) (l : Nat) (f : Leg → Leg) :
    (s.modLeg l f).twin.pair = s.twin.pair := by
  unfold State.modLeg; rfl

@[simp] theorem State.modNet_pair (s : State) (f : Net → Net) : (s.modNet f).twin.pair = s.twin.pair := by
  unfold State.modNet; rfl

@[simp] theorem State.modLegQ_pair (s : State) (l : Nat) (f : LegQ → LegQ) :
    (s.modLegQ l f).twin.pair = s.twin.pair := by
  unfold State.modLegQ; rfl

@[simp] theorem State.emptyQueue_pair (s : State) (l : Nat) : (s.emptyQueue l).twin.pair = s.twin.pair := by
  unfold State.emptyQueue; rfl

@[simp] theorem State.modCip_pair (s : State) (f : Cipher → Cipher) :
    (s.modCip f).twin.pair = s.twin.pair := by
  unfold State.modCip; rfl

@[simp] theorem State.modSlot_pair (s : State) (n : Nat) (f : KeySlot → KeySlot) :
    (s.modSlot n f).twin.pair = s.twin.pair := by
  unfold State.modSlot; rfl

@[simp] theorem State.countCipher_pair (s : State) (leg : Option Nat) (k : Fin 8) (n : Nat) :
    (s.countCipher leg k n).twin.pair = s.twin.pair := by
  unfold State.countCipher; rfl

@[simp] theorem State.modRekey_pair (s : State) (l : Nat) (f : Rekey → Rekey) :
    (s.modRekey l f).twin.pair = s.twin.pair := by
  unfold State.modRekey; rfl

@[simp] theorem State.keyEvent_pair (s : State) (kind : Nat) (n : Nat) :
    (s.keyEvent kind n).twin.pair = s.twin.pair := by
  unfold State.keyEvent; rfl

@[simp] theorem State.emptyLeg_pair (s : State) (l : Nat) : (s.emptyLeg l).twin.pair = s.twin.pair := by
  unfold State.emptyLeg; rfl

@[simp] theorem State.pkAsk_pair (s : State) (l : Nat) : (s.pkAsk l).twin.pair = s.twin.pair := by
  unfold State.pkAsk; rfl

@[simp] theorem State.startRekey_pair (s : State) (l : Nat) : (s.startRekey l).twin.pair = s.twin.pair := by
  unfold State.startRekey; (repeat' split) <;> simp

@[simp] theorem State.spentNow_pair (s : State) (l : Nat) : (s.spentNow l).twin.pair = s.twin.pair := by
  unfold State.spentNow; rfl

@[simp] theorem State.checkUse_pair (s : State) (n : Nat) : (s.checkUse n).twin.pair = s.twin.pair := by
  unfold State.checkUse; dsimp only; (repeat' split) <;> simp

@[simp] theorem State.touch_pair (s : State) (n : Nat) : (s.touch n).twin.pair = s.twin.pair := by
  unfold State.touch; rfl

@[simp] theorem State.cipherRun_pair (s : State) (j : CipherJob) :
    (s.cipherRun j).1.twin.pair = s.twin.pair := by
  unfold State.cipherRun; dsimp only; (repeat' split) <;> simp

@[simp] theorem State.cipher_pair (s : State) (j : CipherJob) : (s.cipher j).1.twin.pair = s.twin.pair := by
  unfold State.cipher; dsimp only; (repeat' split) <;> simp

@[simp] theorem State.answerRekey_pair (s : State) (l kind : Nat) : (s.answerRekey l kind).twin.pair = s.twin.pair := by
  unfold State.answerRekey
  simp only [State.modRekey_pair]
  rw [foldl_pair (fun s w => State.raiseDone_pair ..), foldl_pair (fun s m => by split <;> simp)]

@[simp] theorem State.canonise_pair (s : State) (length : Nat) : (s.canonise length).twin.pair = s.twin.pair := by
  unfold State.canonise
  split
  · rw [State.mirror_pair]; rfl
  · rfl

@[simp] theorem State.police_pair (s : State) (l : Nat) (media : Bool) (length : Nat) :
    (s.police l media length).1.twin.pair = s.twin.pair := by
  unfold State.police; dsimp only; (repeat' split) <;> simp

@[simp] theorem State.fullBuckets_pair (s : State) (l : Nat) : (s.fullBuckets l).twin.pair = s.twin.pair := by
  unfold State.fullBuckets; rfl

@[simp] theorem State.intoLeg_pair (s : State) (l : Nat) (f : RxFrame) :
    (s.intoLeg l f).twin.pair = s.twin.pair := by
  unfold State.intoLeg; dsimp only; (repeat' split) <;> simp

@[simp] theorem State.modSnd_pair (s : State) (f : Sound → Sound) : (s.modSnd f).twin.pair = s.twin.pair := by
  unfold State.modSnd; rfl

@[simp] theorem State.modLegSnd_pair (s : State) (l : Nat) (f : LegSound → LegSound) :
    (s.modLegSnd l f).twin.pair = s.twin.pair := by
  unfold State.modLegSnd; rfl

@[simp] theorem State.withPending_pair (s : State) (i : Instr) :
    (s.withPending i).twin.pair = s.twin.pair := by
  unfold State.withPending; rfl

@[simp] theorem State.modPic_pair (s : State) (f : Picture → Picture) :
    (s.modPic f).twin.pair = s.twin.pair := by
  unfold State.modPic; rfl

@[simp] theorem State.modDec_pair (s : State) (k : Nat) (f : DecCtx → DecCtx) :
    (s.modDec k f).twin.pair = s.twin.pair := by
  unfold State.modDec; rfl

@[simp] theorem State.modEnc_pair (s : State) (k : Nat) (f : EncCtx → EncCtx) :
    (s.modEnc k f).twin.pair = s.twin.pair := by
  unfold State.modEnc; rfl

@[simp] theorem State.decLess_pair (s : State) (source : Nat) :
    (s.decLess source).twin.pair = s.twin.pair := by
  unfold State.decLess; split <;> simp

@[simp] theorem State.decUnplace_pair (s : State) (y : Nat) (t : Nat) :
    (s.decUnplace y t).twin.pair = s.twin.pair := by
  unfold State.decUnplace; rfl

@[simp] theorem State.switchEvent_pair (s : State) (e : Nat) (f : FwdEntry) (state : Nat) (media : Option Nat) :
    (s.switchEvent e f state media).twin.pair = s.twin.pair := by
  unfold State.switchEvent; rfl

@[simp] theorem State.dropLayout_pair (s : State) (y : Nat) : (s.dropLayout y).twin.pair = s.twin.pair := by
  unfold State.dropLayout
  simp only [State.modPic_pair]
  exact foldl_pair (fun s t => by split <;> simp) _ s

@[simp] theorem State.dropEntries_pair (s : State) (fuel : Nat) (es : List Nat) : (s.dropEntries fuel es).twin.pair = s.twin.pair := by
  induction fuel generalizing s es with
  | zero => cases es <;> rfl
  | succ fuel ih =>
    cases es with
    | nil => rfl
    | cons e es =>
      unfold State.dropEntries
      refine foldl_pair (fun s e => ?_) _ s
      dsimp only
      (repeat' split)
      · rfl
      · exact (ih _ _).trans (by simp)
      · simp

@[simp] theorem State.feedCharge_pair (s : State) (f : Nat) (q : FeedReq) :
    (s.feedCharge f q).twin.pair = s.twin.pair := by
  unfold State.feedCharge; (repeat' split) <;> simp

@[simp] theorem State.modFwd_pair (s : State) (f : Fwd → Fwd) : (s.modFwd f).twin.pair = s.twin.pair := by
  unfold State.modFwd; rfl

@[simp] theorem State.dropSources_pair (s : State) (l : Nat) : (s.dropSources l).twin.pair = s.twin.pair := by
  unfold State.dropSources; rfl

@[simp] theorem State.dropSound_pair (s : State) (l : Nat) : (s.dropSound l).twin.pair = s.twin.pair := by
  unfold State.dropSound; rfl

@[simp] theorem State.dropLeg_pair (s : State) (l : Nat) : (s.dropLeg l).twin.pair = s.twin.pair := by
  unfold State.dropLeg; split <;> simp

@[simp] theorem State.holdLeg_pair (s : State) (l : Nat) : (s.holdLeg l).twin.pair = s.twin.pair := by
  unfold State.holdLeg; rfl

@[simp] theorem State.seamDone_pair (s : State) (k : Seam) : (s.seamDone k).twin.pair = s.twin.pair := by
  unfold State.seamDone; (repeat' split) <;> simp

@[simp] theorem State.patternDone_pair (s : State) (issuer : Option (Mbx × Nat)) (st : U8) (op : Nat) (gen : Nat) (seam : Nat) (island : Nat) (count : Nat) :
    (s.patternDone issuer st op gen seam island count).twin.pair = s.twin.pair := by
  unfold State.patternDone; (repeat' split) <;> simp

@[simp] theorem State.powerEvent_pair (s : State) (m : Mbx) (seq : Nat) (op : Nat) (st : U8) (cause : Nat) (island : U16) (gated : Nat) :
    (s.powerEvent m seq op st cause island gated).twin.pair = s.twin.pair := by
  unfold State.powerEvent; rfl

@[simp] theorem State.deferredEvent_pair (s : State) (m : Mbx) (st : U8) :
    (s.deferredEvent m st).twin.pair = s.twin.pair := by
  unfold State.deferredEvent; rfl

@[simp] theorem State.powerEvents_pair (s : State) (q : PwrReq) (st : U8) (cause : Nat) (island : U16) (gated : Nat) :
    (s.powerEvents q st cause island gated).twin.pair = s.twin.pair := by
  unfold State.powerEvents
  rw [foldl_pair (fun s v => State.powerEvent_pair ..)]
  split <;> simp

@[simp] theorem State.powerUnpicked_pair (s : State) (k : Seam) :
    (s.powerUnpicked k).twin.pair = s.twin.pair := by
  unfold State.powerUnpicked; dsimp only; (repeat' split) <;> simp

@[simp] theorem State.patternUnpicked_pair (s : State) (k : Seam) : (s.patternUnpicked k).twin.pair = s.twin.pair := by
  unfold State.patternUnpicked
  split
  · rfl
  · next c _ =>
    show (if k.reason = 6 then s else s.patternDone c.issuer St.seamUnpicked c.opcode s.patt.running k.id.toNat k.island.toNat 0).twin.pair = s.twin.pair
    split <;> simp

@[simp] theorem State.freeCmd_pair (s : State) (i : Instr) : (s.freeCmd i).twin.pair = s.twin.pair := by
  unfold State.freeCmd State.charging
  (repeat' split) <;> simp

@[simp] theorem State.releaseBasted_pair (s : State) (k : Seam) :
    (s.releaseBasted k).twin.pair = s.twin.pair := by
  unfold State.releaseBasted; simp

@[simp] theorem State.finishSeam_pair (s : State) (id : U16) (f : Seam → Seam) :
    (s.finishSeam id f).twin.pair = s.twin.pair := by
  unfold State.finishSeam; rfl

@[simp] theorem State.unpickSeam_pair (s : State) (id : U16) (reason : Nat) (isl : U16) (pstatus : U8) :
    (s.unpickSeam id reason isl pstatus).twin.pair = s.twin.pair := by
  unfold State.unpickSeam; dsimp only; (repeat' split) <;> simp

@[simp] theorem State.commitSeam_pair (s : State) (id : U16) : (s.commitSeam id).twin.pair = s.twin.pair := by
  unfold State.commitSeam; dsimp only; (repeat' split) <;> simp

@[simp] theorem State.dropMedia_pair (s : State) : (s.dropMedia).twin.pair = s.twin.pair := by
  unfold State.dropMedia; rfl

end Sys2Proof.Machine

end

section
/-! O37: the twin commands, the pair in time, the claim rounds and the Truss frames. -/

namespace Sys2Proof.Machine
open Sys2Proof

/-! ### Leaving synchronisation leaves the claim bus alone -/

/-- What the claim bus keeps. -/
def Twin.bus (t : Twin) : Bool × Option (Nat × Bool) × Nat := (t.busOk, t.round, t.goodRounds)

theorem Twin.bus_of_pair {t u : Twin} (h : t.pair = u.pair) : t.bus = u.bus := by
  show t.pair.bus = u.pair.bus
  rw [h]

@[simp] theorem State.twinEvent_bus (s : State) (old cause group : Nat) (won : Bool) : (s.twinEvent old cause group won).twin.bus = s.twin.bus := rfl

theorem State.draw32_bus (s : State) : s.draw32.2.twin.bus = s.twin.bus := by
  unfold State.draw32
  split
  · rfl
  · exact Twin.bus_of_pair (State.mirror_pair ..)

theorem State.newEpoch_bus (s : State) : s.newEpoch.twin.bus = s.twin.bus := s.draw32_bus

theorem State.newCert_bus (s : State) : s.newCert.twin.bus = s.twin.bus := by
  unfold State.newCert
  split <;> rfl

theorem State.setReadiness_bus (s : State) (w : U16) : (s.setReadiness w).twin.bus = s.twin.bus := by
  unfold State.setReadiness
  split <;> rfl

theorem State.twinReady_bus (s : State) : s.twinReady.twin.bus = s.twin.bus := by
  unfold State.twinReady State.readyBit
  split
  · rfl
  · exact State.setReadiness_bus ..

theorem State.setTwin_bus (s : State) (new : TwinState) (cause : Nat) : (s.setTwin new cause).twin.bus = s.twin.bus := by
  unfold State.setTwin
  split
  · rfl
  · refine (State.twinReady_bus _).trans ((State.twinEvent_bus ..).trans ?_)
    show (if new = .primary ∨ new = .alone then s.newEpoch.newCert else s).twin.bus = s.twin.bus
    split
    · exact (State.newCert_bus _).trans (State.newEpoch_bus s)
    · rfl

theorem State.leaveSync_bus (s : State) (cause : Nat) : (s.leaveSync cause).twin.bus = s.twin.bus := by
  unfold State.leaveSync
  split
  · rfl
  · refine (State.setTwin_bus ..).trans ?_
    exact (show _ = s.dropMedia.twin.bus from rfl).trans (Twin.bus_of_pair s.dropMedia_pair)

theorem claimBusLost_drops {s : State} (h : s.twin.busOk = true) (ht : s.twin.lastRound + State.ticksOfUs 1500 ≤ s.clk) :
    (claimBusLost s).twin.bus = (false, none, 0) := by
  unfold claimBusLost
  rw [if_pos ⟨h, ht⟩, State.fin_twin]
  split
  · exact (State.leaveSync_bus ..).trans rfl
  · rfl

/-! ### What the failover takes in again leaves the pair's state alone -/

theorem State.toLeg_pair {s : State} (h : s.twin.state ≠ .standby) (l length : Nat) (f : RxFrame) : (s.toLeg l length f).twin.pair = s.twin.pair := by
  unfold State.toLeg
  have hp : (s.police l (match f.kind with | .rtp _ => true | _ => false) length).1.twin.pair = s.twin.pair := State.police_pair ..
  generalize s.police l _ length = r at hp
  obtain ⟨s', ok⟩ := r
  dsimp only at hp ⊢
  have hst : ¬ s'.twin.state = .standby := fun hst => h ((congrArg Twin.state hp).symm.trans hst)
  rw [if_neg hst]
  split
  · exact hp
  · exact (State.intoLeg_pair ..).trans ((State.canonise_pair ..).trans hp)

theorem State.foldl_toLeg_pair {α : Type} (l : List α) (leg len : α → Nat) (f : α → RxFrame) {s : State} (h : s.twin.state ≠ .standby) :
    (l.foldl (fun s x => s.toLeg (leg x) (len x) (f x)) s).twin.pair = s.twin.pair := by
  induction l generalizing s with
  | nil => rfl
  | cons x l ih =>
    have hx := State.toLeg_pair h (leg x) (len x) (f x)
    rw [List.foldl_cons, ih (fun hst => h ((congrArg Twin.state hx).symm.trans hst)), hx]

theorem failoverCanonSwitch_pair {s : State} (hd : s.twin.switchDue = true) (h : s.twin.state ≠ .standby) :
    (failoverCanonSwitch s).twin.pair = { s.twin.pair with switchDue := false, switchFrom := none, ingress := [], canonHeld := [], canonEnd := none } := by
  unfold failoverCanonSwitch
  rw [if_neg (by simp [hd])]
  extract_lets _ _ s₁ s₂ s₃ _ _ s₄
  have h₁ : s₁.twin.pair = _ := rfl
  have h₂ : s₂.twin.pair = s₁.twin.pair := foldl_pair (fun s p => State.fullBuckets_pair ..) _ s₁
  have h₃ : s₃.twin.pair = s₂.twin.pair :=
    State.foldl_toLeg_pair _ _ _ _ (fun hst => h ((congrArg Twin.state h₂).symm.trans hst))
  have h₄ : s₄.twin.pair = s₃.twin.pair := foldl_pair (fun s id => State.commitSeam_pair ..) _ s₃
  rw [State.fin_twin, foldl_pair (fun s r => State.unpickSeam_pair ..), h₄, h₃, h₂, h₁]
  rfl

/-! ### Truss frames -/

theorem State.onFrame_taken {s u : State} {h : TrussHdr} (f : State → State) (ht : s.trussIn h false = (u, true)) : s.onFrame h f = (f u).fin := by
  unfold State.onFrame
  rw [ht]
  rfl

theorem next_onFrame {s u : State} {h : TrussHdr} {f : State → State} {t : State} (ht : s.trussIn h false = (u, true)) (hf : f u = t) :
    (.next (s.onFrame h f) : Host.Outcome State Fault Refusal) = .next t.fin :=
  next_congr ((State.onFrame_taken f ht).trans (congrArg State.fin hf))

/-- The snapshot of the primary, with the tick's time `n` as a variable: the kernel must not meet the product's numeral. -/
theorem resyncSnapshot_of_primary {s : State} {n : Nat} (hn : s.tick3 * 1000000 = n) (hst : s.twin.state = .primary) (hp : s.twin.peerState = some 2) :
    resyncSnapshot s = ((s.pic.dec.filter (fun d => d.2.state == .clean || d.2.state == .damaged)).foldl (fun s d => s.askKey d.2.source true false)
      (s.modTwin (fun t => { t with snapTb3 := n }))).fin := by
  unfold resyncSnapshot
  rw [hn]
  exact (if_neg (by simp [hst])).trans (if_pos ⟨hst, hp⟩)

/-- Settles O37: each row's case, and for the lost bus and the failover what the pair keeps of itself on the way. -/
theorem twinActs : Obligations.TwinActs := by
  unfold Obligations.TwinActs
  refine ⟨fun s m c => ⟨?_, ?_, ?_, ?_, ?_⟩, fun s => ⟨?_, ?_, ?_, ?_, ?_, ?_, ?_, ?_, ?_, ?_, ?_, ?_, ?_, ?_, ?_, ?_, ?_, ?_⟩, fun s => ⟨?_, ?_, ?_⟩, fun s u h => ⟨?_, fun hu => ⟨?_, ?_, ?_, ?_, ?_, ?_, ?_, ?_, ?_, ?_, ?_, ?_, ?_⟩⟩⟩
  · intro enable singleSend resyncS retryHoldS h
    exact next_congr (State.run_of_takes h rfl rfl)
  · intro group homing homeSide holdOffS prefA prefB h
    exact next_congr (State.run_of_takes h rfl rfl)
  · intro group leadTicks h
    exact next_congr (State.run_of_takes h rfl rfl)
  · intro h
    exact next_congr (State.run_of_takes h rfl rfl)
  · intro h
    exact next_congr (State.run_of_takes h rfl rfl)
  · intro hl
    exact next_congr (by simp [trussIdleTimer, hl])
  · intro hl ht
    exact next_congr (by simp [trussLinkLost, hl, ht])
  · intro lane
    rfl
  · intro n
    rfl
  · intro hst ha ht
    exact next_congr (by simp [decisionLate, hst, ha, ht])
  · intro hb ht
    have hbus := claimBusLost_drops hb ht
    exact ⟨_, rfl, congrArg Prod.fst hbus, congrArg (·.2.1) hbus, congrArg (·.2.2) hbus⟩
  · intro hst hstep tb0 tb3
    refine ⟨_, next_congr (if_neg ?_), by rw [State.fin_twin]; rfl⟩
    rintro (hn | ⟨h2, h3⟩)
    · exact hn hst
    · exact hstep.elim h2 h3
  · intro hst h5 hd
    exact next_congr (by simp [resyncSnapshot, hst, h5, hd])
  · intro hst hp
    exact next_congr (resyncSnapshot_of_primary rfl hst hp)
  · intro hst h6
    exact next_congr ((if_pos hst).trans (if_neg (Nat.not_lt.mpr h6)))
  · intro hst hp
    exact next_congr ((if_neg (by simp [hst])).trans (if_pos ⟨hst, hp⟩))
  · intro hd
    exact next_congr (if_pos (by simp [hd]))
  · intro hd hst
    have hpair := failoverCanonSwitch_pair hd hst
    exact ⟨_, rfl, congrArg Twin.switchDue hpair, congrArg Twin.canonEnd hpair, congrArg Twin.ingress hpair⟩
  · intro t hst hr ht
    exact next_congr (by simp [resyncTimeout, hst, hr, ht])
  · intro t hst hr ht
    exact next_congr (by simp [retryHoldExpiry, hst, hr, ht])
  · intro g c t hc hst hh hat ht hsw hp
    exact next_congr (by simp [homingHoldOff, hc, hst, hh, hat, ht, hsw, hp])
  · intro w hw hd ht hst
    exact next_congr (by simp [swapTick, hw, hd, Nat.not_lt.mpr ht, hst])
  · intro w hw hd ht hst
    exact next_congr (by simp [swapTick, hw, hd, Nat.not_lt.mpr ht, hst])
  · intro hst
    exact next_congr (if_neg hst)
  · rintro f n valid _ hr hg rfl
    exact next_congr (by simp [claimFrame, hr, hg])
  · intro f n valid hr hg
    exact next_congr (by simp [claimFrame, hr, hg])
  · intro b hu
    exact next_congr (by simp [trussHello, hu])
  · intro r f hs
    exact next_onFrame hu (by simp [hs])
  · intro id item cmd hs
    exact next_onFrame hu (by simp [hs])
  · intro r x rseq epoch hs
    exact next_onFrame hu (by simp [hs])
  · intro b adj stepped value d hs
    exact next_onFrame hu (by simp [hs])
  · intro x hs
    exact next_onFrame hu (by simp [hs])
  · intro d hs
    exact next_onFrame hu (if_pos hs)
  · intro items last hst h4 hd
    exact next_onFrame hu (by simp [hst, h4, hd])
  · intro i
    exact next_onFrame hu rfl
  · intro level hst
    exact next_onFrame hu (by simp [hst])
  · intro level hst
    exact next_onFrame hu (by simp [hst])
  · intro item cmd hs
    exact next_onFrame hu (by cases item <;> simp [hs])
  · intro port ns cmd
    exact next_onFrame hu rfl
  · exact next_onFrame hu rfl

end Sys2Proof.Machine

end

section
/-! O41: the keep commands and the Keeping region in time. -/

namespace Sys2Proof.Machine
open Sys2Proof

/-! ### What a journal entry and a fault record leave alone -/

/-- What the region keeps beside its journal, its fault log and its times. -/
structure Settled where
  mount : MountStep
  torn : Nat
  pass : Option (Nat × List Nat × Nat)
  passFor : Option (Mbx × Nat)
  recs : Table Record
  lost : U32
  activateAt : Option Nat
  bootB : Bool

/-- The parts of the region that the journal leaves. -/
def Keep.settled (k : Keep) : Settled :=
  { mount := k.mount, torn := k.torn, pass := k.pass, passFor := k.passFor, recs := k.recs, lost := k.lost, activateAt := k.activateAt, bootB := k.bootB }

theorem State.closeGroup_settled (s : State) : s.closeGroup.keep.settled = s.keep.settled := by
  unfold State.closeGroup
  split <;> rfl

theorem State.closeGroup_mark (s : State) : s.closeGroup.keep.mark = s.keep.mark := by
  unfold State.closeGroup
  split <;> rfl

@[simp] theorem State.journal_settled (s : State) (e : JEntry) : (s.journal e).keep.settled = s.keep.settled := by
  show (if 16320 < jBytes s.keep.open_ + e.size then s.closeGroup else s).keep.settled = _
  split
  · exact s.closeGroup_settled
  · rfl

theorem State.journal_mark (s : State) (e : JEntry) : (s.journal e).keep.mark = s.keep.mark := by
  show (if 16320 < jBytes s.keep.open_ + e.size then s.closeGroup else s).keep.mark = _
  split
  · exact s.closeGroup_mark
  · rfl

theorem State.writeFault_settled (s : State) (f : FaultRec) : (s.writeFault f).keep.settled = s.keep.settled := by
  unfold State.writeFault
  split
  · split
    · exact (State.journal_settled ..).trans rfl
    · extract_lets s₁
      have h : s₁.keep.settled = s.keep.settled := by
        unfold s₁
        split
        · exact (State.journal_settled ..).trans rfl
        · rfl
      exact h
  · extract_lets f _ s₁ s₂
    have h : s₂.keep.settled = s₁.keep.settled := by
      unfold s₂ Keep.settled
      (repeat' split) <;> rfl
    exact h.trans (by unfold Keep.settled; rfl)

theorem State.writeFault_patt (s : State) (f : FaultRec) : (s.writeFault f).patt = s.patt := by
  unfold State.writeFault
  split
  · split
    · exact (State.journal_patt ..).trans rfl
    · extract_lets s₁
      have h : s₁.patt = s.patt := by
        unfold s₁
        split
        · exact (State.journal_patt ..).trans rfl
        · rfl
      exact h
  · extract_lets f _ s₁ s₂
    have h : s₂.patt = s₁.patt := by
      unfold s₂
      (repeat' split) <;> rfl
    exact h

@[simp] theorem State.faultRec_settled (s : State) (location : U16) (level cause action : Nat) (seamId : U16) (seams : Nat) (detail : U32) :
    (s.faultRec location level cause action seamId seams detail).keep.settled = s.keep.settled := State.writeFault_settled ..

@[simp] theorem State.faultRec_patt (s : State) (location : U16) (level cause action : Nat) (seamId : U16) (seams : Nat) (detail : U32) :
    (s.faultRec location level cause action seamId seams detail).patt = s.patt := State.writeFault_patt ..

/-! ### The scrub (13 R352) -/

theorem tget_tdel {α : Type} (t : Table α) (i : Nat) : tget (tdel t i) i = none := by
  unfold tdel
  induction t with
  | nil => rfl
  | cons p t ih =>
    rw [List.filter_cons]
    split
    · next h => rw [tget, if_neg (by simpa using h), ih]
    · exact ih

/-- The scrub's own count of what it has read and refreshed. -/
def scrubCounted (corrected reads : Nat) (soft : Bool) (s : State) : State := s.modKeep (fun k => { k with
  scrubbed := if 100 ≤ Config.scrubPct (s.keep.scrubbed + 1) then 0 else k.scrubbed + 1,
  scrubBy := if 100 ≤ Config.scrubPct (s.keep.scrubbed + 1) then s.keepTime + 86400 * k.scrubDays else k.scrubBy,
  refreshed := if k.refreshBits < corrected ∨ soft ∨ 200000 ≤ reads then k.refreshed + 1 else k.refreshed })

/-- What the scrub does about a record of a block that it cannot read: the older copy takes its place, or it is lost. -/
def scrubLost (r : Nat) (s : State) : State :=
  if !thas s.keep.recs r ∨ (jFind r (s.keep.groups.flatMap (fun (g : JGroup) => g.entries) ++ s.keep.open_)).isSome then s
  else match tget s.keep.older r with
    | some x => s.modKeep (fun k => { k with recs := tput k.recs r x.2, newest := tput k.newest r x, older := tdel k.older r })
    | none => (s.modKeep (fun k => { k with recs := tdel k.recs r, newest := tdel k.newest r, lost := k.lost + 1 })).keepEvent 3 0 1

/-- A pattern generation of the block is damaged. -/
def scrubDamaged (generation : Option Nat) (s : State) : State :=
  match generation with
  | some g => { s with patt := { s.patt with gens := tmod s.patt.gens g (fun x => { x with damaged := true }) } }
  | none => s

theorem scrubDamaged_keep (g : Option Nat) (s : State) : (scrubDamaged g s).keep = s.keep := by cases g <;> rfl

theorem scrubLost_patt (r : Nat) (s : State) : (scrubLost r s).patt = s.patt := by
  unfold scrubLost
  (repeat' split) <;> rfl

/-- What stands after a block that cannot be read, before the fault record. -/
def scrubUnread (record generation : Option Nat) (s : State) : State := scrubDamaged generation (record.elim s (fun r => scrubLost r s))

theorem scrubRead_uncorrectable {s : State} (hup : s.journalUp = true) (corrected reads : Nat) (soft : Bool) (record generation : Option Nat) :
    ∃ (t : State) (a : U16) (b c d : Nat) (e : U32), scrubRead corrected soft reads true record generation s = (t.faultRec a b c d 0xFFFF 0 e).fin ∧
      t.keep = (scrubUnread record generation (scrubCounted corrected reads soft s)).keep ∧
      t.patt = (scrubUnread record generation (scrubCounted corrected reads soft s)).patt := by
  unfold scrubRead
  rw [if_neg (by simp [hup])]
  extract_lets whole s₁ s₂ _ s₃ f s₄
  rw [if_neg (by simp)]
  have hs₁ : s₁ = scrubCounted corrected reads soft s := by
    simp [s₁, whole, scrubCounted]
  rw [← hs₁]
  have hs₃ : s₃ = scrubUnread record generation s₁ := by
    cases record <;> cases generation <;> rfl
  exact ⟨s₄, _, _, _, _, _, rfl, show s₃.keep = _ from congrArg State.keep hs₃, show s₃.patt = _ from congrArg State.patt hs₃⟩

/-- What a scrub of an unreadable block leaves, by the parts the clauses speak of. -/
theorem scrubRead_leaves {s : State} (hup : s.journalUp = true) (corrected reads : Nat) (soft : Bool) (record generation : Option Nat) :
    (scrubRead corrected soft reads true record generation s).keep.settled = (record.elim (scrubCounted corrected reads soft s) (fun r => scrubLost r (scrubCounted corrected reads soft s))).keep.settled ∧
    (scrubRead corrected soft reads true record generation s).patt = (scrubDamaged generation s).patt := by
  obtain ⟨t, a, b, c, d, e, heq, hkeep, hpatt⟩ := scrubRead_uncorrectable hup corrected reads soft record generation
  rw [heq]
  constructor
  · rw [State.fin_keep, State.faultRec_settled, hkeep, scrubUnread, scrubDamaged_keep]
  · rw [State.fin_patt, State.faultRec_patt, hpatt, scrubUnread]
    have h : (record.elim (scrubCounted corrected reads soft s) (fun r => scrubLost r (scrubCounted corrected reads soft s))).patt = s.patt := by
      cases record
      · rfl
      · exact scrubLost_patt ..
    cases generation
    · exact h
    · simp only [scrubDamaged, h]

/-! ### The end of a pass (13 R345) and the mount (13 R350) -/

theorem snapshotPassEnd_settled {s : State} {start done : Nat} {left : List Nat} {ok : Bool} (hp : s.keep.pass = some (start, left, done)) (h : ok = false ∨ left = []) :
    (snapshotPassEnd ok s).keep.settled = (s.modKeep (fun k => { k with pass := none, passFor := none })).keep.settled := by
  unfold snapshotPassEnd
  split
  · next hn => exact absurd (hn.symm.trans hp) (by simp)
  · next start' left' done' hp' =>
    have hl : left' = left := congrArg (·.2.1) (Option.some.inj (hp'.symm.trans hp))
    rw [if_neg (by rcases h with rfl | rfl <;> simp [hl])]
    rw [State.fin_keep]
    have hs (a b : State) (m : Option (Mbx × Nat)) (f : Mbx → Nat → Bytes) (st : U8) (h : a.keep.settled = b.keep.settled) :
        (match m with | some (m, n) => a.raiseDone m n 0x0D81 st (f m n) | none => a).keep.settled = b.keep.settled := by
      split <;> exact h
    refine hs _ _ _ _ _ ?_
    split
    · exact (State.journal_settled ..).trans rfl
    · rfl

theorem State.foldl_journal_settled {α : Type} (f : α → JEntry) (l : List α) (s : State) : (l.foldl (fun s a => s.journal (f a)) s).keep.settled = s.keep.settled := by
  induction l generalizing s with
  | nil => rfl
  | cons a l ih => rw [List.foldl_cons, ih, State.journal_settled]

theorem State.foldl_journal_mark {α : Type} (f : α → JEntry) (l : List α) (s : State) : (l.foldl (fun s a => s.journal (f a)) s).keep.mark = s.keep.mark := by
  induction l generalizing s with
  | nil => rfl
  | cons a l ih => rw [List.foldl_cons, ih, State.journal_mark]

theorem State.readyBit_keep (s : State) (k : Nat) (on : Bool) : (s.readyBit k on).keep = s.keep := by
  unfold State.readyBit State.setReadiness
  (repeat' split) <;> rfl

theorem State.draw32_keep (s : State) : s.draw32.2.keep = s.keep := by
  unfold State.draw32
  split
  · rfl
  · dsimp only
    rw [State.mirror_eq]

theorem State.newEpoch_mounted (s : State) : s.newEpoch.keep.settled = s.keep.settled ∧ s.newEpoch.keep.mark = s.keep.mark := by
  have h : s.newEpoch.keep = { s.draw32.2.keep with epoch := s.draw32.1, ownFrom := s.draw32.2.keep.rseq, epochOwn := true } := rfl
  rw [h, s.draw32_keep]
  exact ⟨rfl, rfl⟩

theorem mountJournalReady_mounts {s : State} (r : MountResult) (hm : s.keep.mount = .reading) (hok : s.storeOk = true) :
    (mountJournalReady r s).keep.settled = { s.keep.settled with mount := .ready, torn := r.torn } ∧
    (mountJournalReady r s).keep.mark = max s.keep.mark s.keep.ksMark := by
  unfold mountJournalReady
  rw [if_neg (by simp [hm]), if_neg (by simp [hok])]
  extract_lets held off staged s₁ s₂ s₃ s₄ s₅
  have h₁ : s₁.keep.settled = _ ∧ s₁.keep.mark = _ := ⟨rfl, rfl⟩
  have h₂ : s₂.keep.settled = s₁.keep.settled ∧ s₂.keep.mark = s₁.keep.mark := by
    unfold s₂
    split
    · exact s₁.newEpoch_mounted
    · exact ⟨rfl, rfl⟩
  have h₃ : s₃.keep.settled = s₂.keep.settled ∧ s₃.keep.mark = s₂.keep.mark := ⟨State.foldl_journal_settled _ _ s₂, State.foldl_journal_mark _ _ s₂⟩
  have h₄ : s₄.keep.settled = s₃.keep.settled ∧ s₄.keep.mark = s₃.keep.mark := ⟨State.foldl_journal_settled _ _ s₃, State.foldl_journal_mark _ _ s₃⟩
  have h₅ : s₅.keep = s₄.keep := s₄.readyBit_keep 1 true
  rw [State.fin_keep, State.keepEvent, State.raise_keep, h₅, h₄.1, h₄.2, h₃.1, h₃.2, h₂.1, h₂.2, h₁.1, h₁.2]
  exact ⟨rfl, rfl⟩

/-- Settles O41: each row's case; for the scrub, the end of a pass and the mount by what they leave of the region beside its journal. -/
theorem keepingActs : Obligations.KeepingActs := by
  unfold Obligations.KeepingActs
  refine ⟨fun s m c => ⟨?_, ?_, ?_, ?_, ?_, ?_, ?_, ?_⟩, fun s => ⟨?_, ?_, ?_, ?_, ?_, ?_, ?_, ?_, ?_, ?_, ?_, ?_, ?_, ?_, ?_, ?_, ?_⟩⟩
  · intro byRecord record key r x hr hx h
    exact next_congr (State.run_of_takes h (by simp only [rowKeepLookup, hr, Option.bind_some, hx]) rfl)
  · intro q r x hq h
    exact next_congr (State.run_acts h (by simp only [rowKeepRecord, hq]) rfl)
  · intro q r hq h
    exact next_congr (State.run_acts h (by simp only [rowKeepRecord, hq]) rfl)
  · intro area harea h
    refine next_congr (State.run_of_takes h ?_ rfl)
    rw [harea, harea, harea]
    rfl
  · rintro first count _ rfl h
    exact next_congr (State.run_of_takes h rfl rfl)
  · intro h
    exact next_congr (State.run_of_takes h rfl rfl)
  · intro retainDays scrubDays refreshBits h
    exact next_congr (State.run_of_takes h rfl rfl)
  · intro confirm h
    exact next_congr (State.run_acts h rfl rfl)
  · intro ho ht
    exact next_congr (if_pos ⟨ho, ht⟩)
  · intro gseq hg
    exact next_congr (by simp [groupProgramDone, hg])
  · rintro gseq _ hg rfl
    exact next_congr ((if_neg (by simp [hg])).trans (if_neg (by simp)))
  · intro hup hp hdue
    exact next_congr (if_pos ⟨hup, by simp [hp], hdue⟩)
  · intro n loc start left done hp hn
    exact next_congr (by simp only [segmentImageDone, hp, hn, if_true])
  · intro start done hp hf
    exact next_congr (by simp [snapshotPassEnd, hp, hf])
  · intro start left done hp hf
    exact next_congr (by simp [snapshotPassEnd, hp, hf])
  · intro start left done ok k n hp hf h
    have hs := snapshotPassEnd_settled hp h
    exact ⟨_, rfl, congrArg Settled.pass hs, congrArg Settled.passFor hs⟩
  · intro corrected reads soft record generation hup
    exact next_congr (by simp [scrubRead, hup])
  · intro corrected reads soft r generation hup hr hj ho
    have hs := (scrubRead_leaves hup corrected reads soft (some r) generation).1
    have hl : scrubLost r (scrubCounted corrected reads soft s) =
        ((scrubCounted corrected reads soft s).modKeep (fun k => { k with recs := tdel k.recs r, newest := tdel k.newest r, lost := k.lost + 1 })).keepEvent 3 0 1 := by
      rw [scrubLost, if_neg (by simpa [scrubCounted, State.modKeep, hr] using hj)]
      simp only [show tget (scrubCounted corrected reads soft s).keep.older r = none from ho]
    rw [Option.elim_some, hl] at hs
    exact ⟨_, rfl, (congrArg (fun k => tget k.recs r) hs).trans (tget_tdel ..), congrArg Settled.lost hs⟩
  · intro corrected reads soft r x generation hup hr hj ho
    have hs := (scrubRead_leaves hup corrected reads soft (some r) generation).1
    have hl : scrubLost r (scrubCounted corrected reads soft s) =
        (scrubCounted corrected reads soft s).modKeep (fun k => { k with recs := tput k.recs r x.2, newest := tput k.newest r x, older := tdel k.older r }) := by
      rw [scrubLost, if_neg (by simpa [scrubCounted, State.modKeep, hr] using hj)]
      simp only [show tget (scrubCounted corrected reads soft s).keep.older r = some x from ho]
    rw [Option.elim_some, hl] at hs
    exact ⟨_, rfl, (congrArg (fun k => tget k.recs r) hs).trans (tget_tput ..), congrArg Settled.lost hs⟩
  · intro corrected reads g soft record hup
    have hs := (scrubRead_leaves hup corrected reads soft record (some g)).2
    exact ⟨_, rfl, congrArg Patterns.gens hs⟩
  · intro corrected reads soft hup
    obtain ⟨hk, hp⟩ := scrubRead_leaves hup corrected reads soft none none
    exact ⟨_, rfl, congrArg Settled.recs hk, hp⟩
  · intro r hm hok
    exact next_congr (by simp [mountJournalReady, hm, hok])
  · intro r hm hok
    obtain ⟨hs, hmark⟩ := mountJournalReady_mounts r hm hok
    exact ⟨_, rfl, congrArg Settled.mount hs, congrArg Settled.torn hs, (Nat.le_max_left ..).trans hmark.ge⟩
  · intro hm
    exact next_congr (if_pos hm)
  · intro hm
    exact next_congr (if_pos hm)

end Sys2Proof.Machine

end

section
/-! O43: the kernel and trace commands, and dispatch in time. -/

namespace Sys2Proof.Machine
open Sys2Proof

/-- What every step of a run through a list leaves, the run leaves. -/
theorem foldl_proj {α β : Type} (p : State → β) {f : State → α → State} (h : ∀ (s : State) (a : α), p (f s a) = p s) (l : List α) (s : State) :
    p (l.foldl f s) = p s := by
  induction l generalizing s with
  | nil => rfl
  | cons a l ih => rw [List.foldl_cons, ih, h]

/-! ### What leaves the ticks of the conferences alone -/

@[simp] theorem State.mirror_ticks (s : State) (payload : Nat) :
    (s.mirror payload).snd.ticks = s.snd.ticks := by
  unfold State.mirror; (repeat' split) <;> simp

@[simp] theorem State.raise_ticks (s : State) (code : Nat) (status : U8) (data : Bytes) :
    (s.raise code status data).snd.ticks = s.snd.ticks := by
  unfold State.raise; rfl

@[simp] theorem State.modDisp_ticks (s : State) (f : Disp → Disp) :
    (s.modDisp f).snd.ticks = s.snd.ticks := by
  unfold State.modDisp; rfl

@[simp] theorem State.modTask_ticks (s : State) (t : Nat) (f : Task → Task) :
    (s.modTask t f).snd.ticks = s.snd.ticks := by
  unfold State.modTask; rfl

@[simp] theorem State.tracePut_ticks (s : State) (q : TraceReq) (r : TraceRec) :
    (s.tracePut q r).snd.ticks = s.snd.ticks := by
  unfold State.tracePut; (repeat' split) <;> simp

@[simp] theorem State.traceRec_ticks (s : State) (cell : U16) (task : Nat) (group : Nat) (reason : Nat) (detail : Nat) :
    (s.traceRec cell task group reason detail).snd.ticks = s.snd.ticks := by
  unfold State.traceRec; dsimp only; (repeat' split) <;> simp

@[simp] theorem State.makeTask_ticks (s : State) (k : TaskKind) (object : Nat) :
    (s.makeTask k object).snd.ticks = s.snd.ticks := by
  unfold State.makeTask; rfl

@[simp] theorem State.parkTask_ticks (s : State) (n : Nat) (t : Task) :
    (s.parkTask n t).snd.ticks = s.snd.ticks := by
  unfold State.parkTask; dsimp only; (repeat' split) <;> simp

@[simp] theorem State.reweigh_ticks (s : State) : (s.reweigh).snd.ticks = s.snd.ticks := by
  unfold State.reweigh; rfl

@[simp] theorem State.syncTasks_ticks (s : State) (c : Nat) : (s.syncTasks c).snd.ticks = s.snd.ticks := by
  unfold State.syncTasks
  extract_lets want mine s₁ s₂ s₃ mine'
  have h₁ : s₁.snd.ticks = s.snd.ticks := foldl_proj (·.snd.ticks) (fun s p => by split <;> rfl) _ s
  have h₂ : s₂.snd.ticks = s₁.snd.ticks := by
    refine foldl_proj (·.snd.ticks) (fun s w => ?_) _ s₁
    exact State.makeTask_ticks s w.1 w.2
  have h₃ : s₃.snd.ticks = s₂.snd.ticks := by
    unfold s₃
    exact foldl_proj (·.snd.ticks) (fun s b => by split <;> simp) _ s₂
  refine (foldl_proj (·.snd.ticks) (fun s p => ?_) _ s₃.reweigh).trans ((State.reweigh_ticks s₃).trans (h₃.trans (h₂.trans h₁)))
  dsimp only
  rw [State.parkTask_ticks]
  split <;> rfl

@[simp] theorem State.setFlags_ticks (s : State) (n : Nat) (f : U32) :
    (s.setFlags n f).snd.ticks = s.snd.ticks := by
  unfold State.setFlags; rfl

@[simp] theorem State.joinTasks_ticks (s : State) (c : Nat) : (s.joinTasks c).snd.ticks = s.snd.ticks :=
  foldl_proj (·.snd.ticks) (fun s p => by split <;> simp) _ s

@[simp] theorem State.rebalance_ticks (s : State) (n : Nat) (t : Task) :
    (s.rebalance n t).snd.ticks = s.snd.ticks := by
  unfold State.rebalance; dsimp only; (repeat' split) <;> simp

/-! ### What leaves the blocks, the cells and the tasks' estimates alone -/

/-- The dispatch of a trace's record leaves all but the trace. -/
def Disp.untraced (d : Disp) : Disp := { d with ring := [], next := 0, dropped := 0, tries := 0, lost := 0, full := false }

theorem State.tracePut_untraced (s : State) (q : TraceReq) (r : TraceRec) : (s.tracePut q r).disp.untraced = s.disp.untraced := by
  unfold State.tracePut
  dsimp only
  (repeat' split) <;> rfl

theorem State.traceRec_untraced (s : State) (cell : U16) (task group reason detail : Nat) : (s.traceRec cell task group reason detail).disp.untraced = s.disp.untraced := by
  unfold State.traceRec
  split
  · rfl
  · dsimp only
    split
    · rfl
    · split
      · rfl
      · rw [State.tracePut_untraced]
        split
        · rfl
        · exact (State.tracePut_untraced ..).trans rfl

theorem State.cellFail_disp (s : State) (cell : U16) (cause : Nat) (detail : U32) : (s.cellFail cell cause detail).disp = s.disp := by
  unfold State.cellFail
  split <;> rfl

/-- The blocks, the cells and the estimate of task `n`. -/
def Disp.runs (n : Nat) (d : Disp) : Table DispBlock × Table Dsp × Option Nat := (d.blocks, d.cells, (tget d.tasks n).map (·.est))

theorem tget_tmod_map {α β : Type} (t : Table α) (i j : Nat) {f : α → α} {g : α → β} (h : ∀ a, g (f a) = g a) : (tget (tmod t i f) j).map g = (tget t j).map g := by
  by_cases hj : j = i
  · subst hj
    cases ht : tget t j with
    | none => rw [tmod_none ht, ht]
    | some a => simp [tget_tmod ht, h]
  · rw [tget_tmod_ne t hj]

theorem State.setFlags_runs (n : Nat) (s : State) (i : Nat) (f : U32) : (s.setFlags i f).disp.runs n = s.disp.runs n := by
  have h := tget_tmod_map s.disp.tasks i n (g := Task.est) (f := fun t =>
    let t := { t with flags := t.flags ||| f }
    if t.state = .waiting ∧ Task.ready t then { t with state := .ready, readyAt := s.chipNs } else t) (fun t => by dsimp only; split <;> rfl)
  exact congrArg (fun e => (s.disp.blocks, s.disp.cells, e)) h

theorem State.joinTasks_runs (n : Nat) (s : State) (c : Nat) : (s.joinTasks c).disp.runs n = s.disp.runs n :=
  foldl_proj (fun s => s.disp.runs n) (fun s p => by split <;> simp [State.setFlags_runs]) _ s

theorem State.feedTasks_runs (n : Nat) (s : State) (t : Task) : (s.feedTasks t).disp.runs n = s.disp.runs n := by
  unfold State.feedTasks
  extract_lets s₁
  have h : s₁.disp.runs n = s.disp.runs n := by
    unfold s₁
    split
    · exact foldl_proj (fun s => s.disp.runs n) (fun s p => State.setFlags_runs ..) _ s
    · rfl
  split
  · rw [State.joinTasks_runs, h]
  · exact h

/-! ### The end of a run (14 R361, R363) and a stitch tick (14 R359) -/

/-- What the records of the end of a run leave: the deficits of block `b`, the cells and the tasks. -/
def Disp.left (b : Nat) (d : Disp) : Vector Int 16 × Table Dsp × Table Task := (((tget d.blocks b).getD {}).deficit, d.cells, d.tasks)

theorem Disp.left_of_untraced {d e : Disp} (h : d.untraced = e.untraced) (b : Nat) : d.left b = e.left b := by
  show d.untraced.left b = e.untraced.left b
  rw [h]

theorem State.traceRec_left (b : Nat) (s : State) (cell : U16) (task group reason detail : Nat) : (s.traceRec cell task group reason detail).disp.left b = s.disp.left b :=
  Disp.left_of_untraced (s.traceRec_untraced cell task group reason detail) b

theorem State.modDispBlock_left (s : State) (b : Nat) (f : DispBlock → DispBlock) :
    (s.modDispBlock b f).disp.left b = ((f (s.dispBlock b)).deficit, s.disp.cells, s.disp.tasks) := by
  simp [State.modDispBlock, State.modDisp, Disp.left, State.dispBlock]

theorem State.dsp_congr {s t : State} (h : s.disp.cells = t.disp.cells) (c : U16) : s.dsp c = t.dsp c := by
  unfold State.dsp
  rw [h]

theorem taskEnd_leaves {s : State} {n used : Nat} {t : Task} (how : RunEnd) (ht : tget s.disp.tasks n = some t) (hst : t.state = .running)
    (hr : (s.dsp t.cell).running = some n) :
    ((taskEnd n used how s).dispBlock t.block).deficit = ((s.dispBlock t.block).deficit.set! t.group ((((s.dispBlock t.block).deficit[t.group]?).getD 0) + t.est - used)) ∧
    ((taskEnd n used how s).dsp t.cell).running = (s.dsp t.cell).prefetched ∧ ((taskEnd n used how s).dsp t.cell).prefetched = none ∧
    (tget (taskEnd n used how s).disp.tasks n).map (·.est) = if t.deleted then none else some used := by
  unfold taskEnd
  split
  · next hn => exact absurd (hn.symm.trans ht) (by simp)
  · next t' ht' =>
    obtain rfl : t' = t := Option.some.inj (ht'.symm.trans ht)
    extract_lets cell s₁ s₂ s₃ s₄ now s₅ s₆
    rw [if_neg (by simp [cell, hst, hr])]
    have h₁ : s₁.disp.left t'.block = _ := State.modDispBlock_left ..
    have h₂ : s₂.disp.left t'.block = s₁.disp.left t'.block := State.traceRec_left ..
    have h₃ : s₃.disp.left t'.block = s₂.disp.left t'.block := by
      unfold s₃
      split
      · rw [State.modDispBlock_left]
        exact State.traceRec_left t'.block s₂ cell n t'.group 3 t'.late
      · rfl
    have h₄ : s₄.disp.left t'.block = s₃.disp.left t'.block := by
      unfold s₄
      split
      · rw [State.cellFail_disp, State.traceRec_left]
      · rfl
    have hleft := h₄.trans (h₃.trans (h₂.trans h₁))
    have hcells : s₄.disp.cells = s.disp.cells := congrArg (·.2.1) hleft
    have htasks : s₄.disp.tasks = s.disp.tasks := congrArg (·.2.2) hleft
    have hcell : s₅.dsp cell = { s.dsp cell with running := (s.dsp cell).prefetched, prefetched := none } := by
      rw [show s.dsp cell = s₄.dsp cell from State.dsp_congr hcells.symm cell]
      exact congrArg (Option.getD · _) (tget_tput ..)
    have h₆ : s₆.disp.blocks = s₄.disp.blocks ∧ s₆.disp.cells = s₅.disp.cells ∧ (tget s₆.disp.tasks n).map (·.est) = if t'.deleted then none else some used := by
      unfold s₆
      split
      · exact ⟨rfl, rfl, congrArg (Option.map _) (tget_tdel ..)⟩
      · refine ⟨rfl, rfl, (congrArg (Option.map _) (tget_tmod (htasks ▸ ht : tget s₅.disp.tasks n = some t') _)).trans ?_⟩
        dsimp only [Option.map_some]
        split <;> rfl
    obtain ⟨hblocks₆, hcells₆, hest₆⟩ := h₆
    have hruns : (s₆.feedTasks t').fin.disp.runs n = s₆.disp.runs n := by rw [State.fin_disp, State.feedTasks_runs]
    have hblock := congrArg (fun r => ((tget r.1 t'.block).getD {}).deficit) hruns
    have hdsp : (s₆.feedTasks t').fin.dsp cell = s₅.dsp cell :=
      State.dsp_congr ((congrArg (·.2.1) hruns).trans hcells₆) cell
    refine ⟨hblock.trans ?_, ?_, ?_, (congrArg (·.2.2) hruns).trans hest₆⟩
    · exact (congrArg (fun l => ((tget l t'.block).getD {}).deficit) hblocks₆).trans (congrArg (·.1) hleft)
    · exact congrArg Dsp.running (hdsp.trans hcell)
    · exact congrArg Dsp.prefetched (hdsp.trans hcell)

theorem stitchTick_begins {s : State} {c : Nat} {q : Conf} (hq : tget s.model.confs c = some q) (ho : q.origin.isSome = true) (hb : q.basted = none)
    (h1 : s.twin.state ≠ .standby) (h2 : s.twin.state ≠ .resync) (hp : ∀ p, tget s.snd.ticks c = some p → p < s.media c / 48) :
    tget (stitchTick c s).snd.ticks c = some (s.media c / 48) := by
  unfold stitchTick
  split
  · next hn => exact absurd (hn.symm.trans hq) (by simp)
  · next q' hq' =>
    obtain rfl : q' = q := Option.some.inj (hq'.symm.trans hq)
    extract_lets k waits mine s₁ s₂ s₃ s₄ s₅ s₆
    rw [if_neg (by
      have hany : (tget s.snd.ticks c).any (fun p => decide (k ≤ p)) = false := by
        cases hc : tget s.snd.ticks c with
        | none => rfl
        | some p => simpa using hp p hc
      simp [Option.isSome_iff_ne_none.mp ho, hb, hany, waits, h1, h2])]
    have h₃ : s₃.snd.ticks = tput s₂.snd.ticks c k := by
      unfold s₃
      rw [State.syncTasks_ticks]
      rfl
    have h₄ : s₄.snd.ticks = s₃.snd.ticks := by
      unfold s₄
      refine foldl_proj (·.snd.ticks) (fun s p => ?_) _ s₃
      simp only [State.rebalance_ticks]
    have h₅ : s₅.snd.ticks = s₄.snd.ticks := by
      unfold s₅
      refine foldl_proj (·.snd.ticks) (fun s p => ?_) _ s₄
      simp only [State.setFlags_ticks]
    have h₆ : s₆.snd.ticks = s₅.snd.ticks := by
      unfold s₆
      rw [State.modTwin_snd, State.joinTasks_ticks]
    rw [State.fin_snd, State.mirror_ticks, h₆, h₅, h₄, h₃, tget_tput]

/-- Settles O43: each row's case; for the end of a run and the stitch tick by what the later parts of the step leave. -/
theorem dispatchActs : Obligations.DispatchActs := by
  unfold Obligations.DispatchActs
  refine ⟨fun s m c => ⟨?_, ?_, ?_, ?_, ?_, ?_⟩, fun s => ⟨?_, ?_, ?_, ?_⟩⟩
  · intro q k hk h
    exact next_congr (State.run_of_takes h (by simp only [rowKernelLoad, hk]; rfl) rfl)
  · intro kernel h
    exact next_congr (State.run_of_takes h rfl rfl)
  · intro kernel k hk h
    exact next_congr (State.run_of_takes h (by simp only [rowKernelQuery, hk]) rfl)
  · intro q h
    exact next_congr (State.run_of_takes h rfl rfl)
  · rintro start count oldest first l rfl rfl rfl h
    exact next_congr (State.run_of_takes h rfl rfl)
  · intro block group hg h
    obtain rfl : group = _ := funext hg
    exact next_congr (State.run_of_takes h rfl rfl)
  · intro cell hok hp
    exact next_congr (if_pos ⟨hok, by simp [hp]⟩)
  · intro n t cell ht hst hc
    exact next_congr (by simp [taskReadyHandout, ht, hst, hc])
  · intro n used how t ht hst hr hg
    obtain ⟨hd, hrun, hpre, hest⟩ := taskEnd_leaves (used := used) how ht hst hr
    refine ⟨_, rfl, ?_, hrun, hpre, ?_⟩
    · rw [hd]
      simp [hg]
    · split
      · next hdel => simpa [hdel] using hest
      · next hdel => simpa [hdel] using hest
  · intro c q hq ho hb h1 h2 hp
    exact ⟨_, rfl, stitchTick_begins hq ho hb h1 h2 hp⟩

end Sys2Proof.Machine

end

section
/-! O47: faults act at their level, and what a reset leaves. -/

namespace Sys2Proof.Machine
open Sys2Proof

/-! ### A fault record changes the journal and the mailboxes only -/

/-- What the clauses on resets and self-tests speak of. -/
structure Beside where
  pins : Pins
  boot : Boot
  fab : Fabric
  mem : Memory
  patt : Patterns
  model : Model
  keep : Settled

/-- The parts of the state that a fault record leaves. -/
def State.beside (s : State) : Beside :=
  { pins := s.pins, boot := s.boot, fab := s.fab, mem := s.mem, patt := s.patt, model := s.model, keep := s.keep.settled }

theorem State.beside_of {s t : State} (h1 : s.pins = t.pins) (h2 : s.boot = t.boot) (h3 : s.fab = t.fab) (h4 : s.mem = t.mem) (h5 : s.patt = t.patt)
    (h6 : s.model = t.model) (h7 : s.keep.settled = t.keep.settled) : s.beside = t.beside := by
  unfold State.beside
  rw [h1, h2, h3, h4, h5, h6, h7]

theorem State.beside_eq {s : State} {b : Beside} (h : s.beside = b) :
    s.pins = b.pins ∧ s.boot = b.boot ∧ s.fab = b.fab ∧ s.mem = b.mem ∧ s.patt = b.patt ∧ s.model = b.model ∧ s.keep.settled = b.keep := by
  subst h
  exact ⟨rfl, rfl, rfl, rfl, rfl, rfl, rfl⟩

theorem State.closeGroup_beside (s : State) : s.closeGroup.beside = s.beside := by
  unfold State.closeGroup
  split <;> rfl

theorem State.journal_beside (s : State) (e : JEntry) : (s.journal e).beside = s.beside := by
  show (if 16320 < jBytes s.keep.open_ + e.size then s.closeGroup else s).beside = _
  split
  · exact s.closeGroup_beside
  · rfl

theorem State.writeFault_beside (s : State) (f : FaultRec) : (s.writeFault f).beside = s.beside := by
  unfold State.writeFault
  split
  · split
    · exact (State.journal_beside ..).trans rfl
    · extract_lets s₁
      have h : s₁.beside = s.beside := by
        unfold s₁
        split
        · exact (State.journal_beside ..).trans rfl
        · rfl
      exact h
  · extract_lets f _ s₁ s₂
    have h : s₂.beside = s₁.beside := by
      unfold s₂
      (repeat' split) <;> exact State.beside_of rfl rfl rfl rfl rfl rfl (by unfold Keep.settled; rfl)
    exact h.trans (State.beside_of rfl rfl rfl rfl rfl rfl (by unfold Keep.settled; rfl))

@[simp] theorem State.faultRec_beside (s : State) (location : U16) (level cause action : Nat) (seamId : U16) (seams : Nat) (detail : U32) :
    (s.faultRec location level cause action seamId seams detail).beside = s.beside := State.writeFault_beside ..

/-! ### Keystone's part of a boot -/

@[simp] theorem State.ksLog_beside (s : State) (cause detail value : Nat) : (s.ksLog cause detail value).beside = s.beside := by
  unfold State.ksLog
  extract_lets k r
  split
  · rfl
  · exact State.beside_of rfl rfl rfl rfl rfl rfl rfl

theorem State.adoptPending_beside (s : State) : s.adoptPending.beside = s.beside := by
  unfold State.adoptPending
  extract_lets k idle
  split
  · split
    · exact (State.ksLog_beside ..).trans rfl
    · rfl
  · extract_lets code
    split
    · exact (foldl_proj State.beside (fun s n => State.ksLog_beside ..) _ _).trans ((State.ksLog_beside ..).trans rfl)
    · exact (State.ksLog_beside ..).trans rfl

theorem State.takePolicy_beside (s : State) : s.takePolicy.beside = s.beside := by
  unfold State.takePolicy
  extract_lets k whole take
  split
  · rfl
  · split
    · exact (State.ksLog_beside ..).trans rfl
    · exact (State.ksLog_beside ..).trans rfl

theorem State.l1Rule_beside (s : State) : s.l1Rule.beside = s.beside := by
  unfold State.l1Rule
  extract_lets trip f
  split
  · rfl
  · exact (State.faultRec_beside ..).trans rfl

theorem State.bootStart_beside (s : State) :
    s.bootStart.beside = { s.beside with boot := { s.boot with stage := .keystone, releasedAt := s.now }, keep := { s.keep.settled with mount := .reading } } := by
  have hkey : s.drawKey.2.beside = s.beside := rfl
  have hnow : s.drawKey.2.now = s.now := rfl
  unfold State.bootStart
  generalize s.drawKey = r at hkey hnow
  obtain ⟨wrapKey, t⟩ := r
  dsimp -zeta only
  extract_lets _ _ _ s₁ s₂ s₃ s₄
  have h₁ : s₁.beside = { t.beside with boot := { t.beside.boot with stage := .keystone, releasedAt := t.now }, keep := { t.beside.keep with mount := .reading } } := rfl
  have h₂ : s₂.beside = s₁.beside := (State.takePolicy_beside s₁.adoptPending).trans (State.adoptPending_beside s₁)
  clear_value s₂
  have h₄ : s₄.beside = s₂.beside := State.beside_of rfl rfl rfl rfl rfl rfl rfl
  rw [State.l1Rule_beside, h₄, h₂, h₁]
  dsimp only at hkey hnow ⊢
  rw [hkey, hnow]
  rfl

/-! ### What a reset leaves (18 R465) -/

theorem Keep.recs_endTrial (k : Keep) (outcome : Nat) : (k.endTrial outcome).recs = k.recs := by
  unfold Keep.endTrial
  (repeat' split) <;> rfl

/-- A reset takes device memory and the conferences away, forgets an activation that was to boot a slot, and keeps its cause. -/
theorem State.wiped_afresh (s : State) (cause outcome : Nat) : (s.wiped cause outcome).boot.cause = BitVec.ofNat 8 cause ∧ (s.wiped cause outcome).mem.dram = [] ∧
    (s.wiped cause outcome).model = State.reset.model ∧ (s.wiped cause outcome).keep.activateAt = none ∧ (s.wiped cause outcome).patt.gens = s.patt.gens :=
  ⟨rfl, rfl, rfl, rfl, rfl⟩

theorem State.wiped_recs (s : State) (cause outcome : Nat) : (s.wiped cause outcome).keep.recs = s.keep.recs := s.keep.recs_endTrial outcome

theorem State.faultAll_kept (s : State) : s.faultAll.keep = s.keep ∧ s.faultAll.patt = s.patt := by
  unfold State.faultAll
  rw [State.fin_keep, State.fin_patt, ← Prod.mk.injEq]
  exact foldl_proj (fun s => (s.keep, s.patt)) (fun s p => by split <;> simp) _ s

theorem State.deviceReset_beside (s : State) (cause outcome : Nat) (r : Option FaultRec) :
    (s.deviceReset cause outcome r).boot.stage = .keystone ∧ (s.deviceReset cause outcome r).boot.cause = BitVec.ofNat 8 cause ∧ (s.deviceReset cause outcome r).mem.dram = [] ∧
    (s.deviceReset cause outcome r).patt.gens = s.patt.gens ∧ (s.deviceReset cause outcome r).model = State.reset.model ∧
    (s.deviceReset cause outcome r).keep.recs = s.keep.recs ∧ (s.deviceReset cause outcome r).keep.activateAt = none := by
  have h : (s.deviceReset cause outcome r).beside = (s.faultAll.wiped cause outcome).bootStart.beside := State.writeFault_beside ..
  rw [State.bootStart_beside] at h
  obtain ⟨-, hboot, -, hmem, hpatt, hmodel, hkeep⟩ := State.beside_eq h
  obtain ⟨hfkeep, hfpatt⟩ := s.faultAll_kept
  obtain ⟨hcause, hdram, hconfs, hact, hgens⟩ := s.faultAll.wiped_afresh cause outcome
  have hrecs := (s.faultAll.wiped_recs cause outcome).trans (congrArg Keep.recs hfkeep)
  clear h
  generalize s.faultAll.wiped cause outcome = t at hboot hmem hpatt hmodel hkeep hcause hdram hconfs hact hgens hrecs
  generalize s.deviceReset cause outcome r = u at hboot hmem hpatt hmodel hkeep ⊢
  exact ⟨congrArg Boot.stage hboot, (congrArg Boot.cause hboot).trans hcause, (congrArg Memory.dram hmem).trans hdram,
    (congrArg Patterns.gens hpatt).trans (hgens.trans (congrArg Patterns.gens hfpatt)), hmodel.trans hconfs,
    (congrArg Settled.recs hkeep).trans hrecs, (congrArg Settled.activateAt hkeep).trans hact⟩

/-- The pins but the alert, which an event may raise or clear. -/
def Pins.held (p : Pins) : Pins := { p with smbAlert := false }

theorem State.putBox_held (s : State) (m : Mbx) (b : Mailbox) : (s.putBox m b).pins.held = s.pins.held := by
  unfold State.putBox
  extract_lets wrote s₁ s₂
  have h : s₂.pins = s.pins := by
    unfold s₂
    split
    · unfold State.irq
      split
      · rfl
      · split <;> rfl
    · rfl
  split
  · exact (show _ = s₂.pins.held from rfl).trans (congrArg Pins.held h)
  · exact congrArg Pins.held h

theorem State.offerTo_held (s : State) (r : Raised) (l : List Mbx) : (s.offerTo r l).pins.held = s.pins.held := by
  induction l generalizing s with
  | nil => rfl
  | cons m ms ih =>
    unfold State.offerTo
    refine (ih _).trans ?_
    split
    · exact State.putBox_held ..
    · rfl

theorem State.offerAll_held (s : State) (l : List Raised) : (s.offerAll l).pins.held = s.pins.held := by
  induction l generalizing s with
  | nil => rfl
  | cons r rs ih => exact (ih _).trans (State.offerTo_held ..)

theorem State.fin_held (s : State) : s.fin.pins.held = s.pins.held := State.offerAll_held ..

theorem resetNRelease_boots {s : State} (h : s.pins.resetN = false) (src side : Bool) (addr : BitVec 3) :
    (resetNRelease src side addr s).pins.held = { s.pins.held with resetN := true, bootSrc := src, twinSide := side, mgmtAddr := addr } ∧
    (resetNRelease src side addr s).boot.stage = .keystone ∧ (resetNRelease src side addr s).keep.mount = .reading := by
  have hb := State.bootStart_beside { s with pins := { s.pins with resetN := true, bootSrc := src, twinSide := side, mgmtAddr := addr } }
  unfold resetNRelease
  rw [if_neg (by simp [h])]
  generalize State.bootStart _ = u at hb
  obtain ⟨hpins, hboot, -, -, -, -, hkeep⟩ := State.beside_eq hb
  have hw (r : FaultRec) (c : Prop) [Decidable c] : (if c then u.writeFault r else u).fin.pins.held = u.pins.held ∧ (if c then u.writeFault r else u).fin.boot = u.boot ∧
      (if c then u.writeFault r else u).fin.keep.settled = u.keep.settled := by
    rw [State.fin_held, State.fin_boot, State.fin_keep]
    split
    · obtain ⟨h1, h2, -, -, -, -, h3⟩ := State.beside_eq (u.writeFault_beside r)
      exact ⟨congrArg Pins.held h1, h2, h3⟩
    · exact ⟨rfl, rfl, rfl⟩
  obtain ⟨h1, h2, h3⟩ := hw (u.plainReset 1) (u.boot.cause = 1)
  exact ⟨h1.trans (congrArg Pins.held hpins), (congrArg Boot.stage (h2.trans hboot)), congrArg Settled.mount (h3.trans hkeep)⟩

/-! ### What the end of a self-test leaves of the blocks (01 R25) -/

theorem State.faultRec_fab (s : State) (location : U16) (level cause action : Nat) (seamId : U16) (seams : Nat) (detail : U32) :
    (s.faultRec location level cause action seamId seams detail).fab = s.fab := congrArg Beside.fab (State.faultRec_beside s location level cause action seamId seams detail)

theorem State.journal_fab (s : State) (e : JEntry) : (s.journal e).fab = s.fab := congrArg Beside.fab (s.journal_beside e)

theorem State.selfTested_blocks (s : State) (b : U16) (failed : List Nat) : (s.selfTested b failed).fab.blocks = s.fab.blocks := by
  unfold State.selfTested
  refine foldl_proj (·.fab.blocks) (fun s c => ?_) _ s
  extract_lets i fences s₁
  (repeat' split)
  all_goals simp [s₁, State.faultRec_fab, State.journal_fab, State.modCell]

theorem State.readyBit_fab (s : State) (k : Nat) (on : Bool) : (s.readyBit k on).fab = s.fab := by
  unfold State.readyBit State.setReadiness
  (repeat' split) <;> rfl

theorem State.newEpoch_fab (s : State) : s.newEpoch.fab = s.fab := by
  show s.draw32.2.fab = s.fab
  unfold State.draw32
  split
  · rfl
  · dsimp only
    rw [State.mirror_eq]

theorem State.newCert_fab (s : State) : s.newCert.fab = s.fab := by
  unfold State.newCert
  split <;> rfl

theorem State.setTwin_fab (s : State) (new : TwinState) (cause : Nat) : (s.setTwin new cause).fab = s.fab := by
  unfold State.setTwin
  split
  · rfl
  · refine (State.readyBit_fab ..).trans ?_
    show (if new = .primary ∨ new = .alone then s.newEpoch.newCert else s).fab = s.fab
    split
    · rw [State.newCert_fab, State.newEpoch_fab]
    · rfl

theorem State.regionDone_blocks (s : State) (region : Nat) : (s.regionDone region).fab.blocks = s.fab.blocks := by
  unfold State.regionDone
  split
  · rfl
  · next r _ =>
    split
    · rfl
    · extract_lets _ s₁ s₂ s₃ s₄
      have h₂ : s₂.fab = s₁.fab := State.faultRec_fab ..
      clear_value s₂
      have h₄ : s₄.fab = s₂.fab := by
        unfold s₄
        split
        · split
          · rfl
          · split
            · rfl
            · rw [State.setTwin_fab]
              rfl
        · rfl
      rw [h₄, h₂]

theorem State.block_congr {s t : State} (h : s.fab.blocks = t.fab.blocks) (b : U16) : s.block b = t.block b := by
  unfold State.block
  rw [h]

theorem State.block_modBlock (s : State) (b : U16) (f : Block → Block) : (s.modBlock b f).block b = f (s.block b) := by
  simp [State.modBlock, State.block]

theorem blockSelfTest_passes {s : State} {b : U16} (h : (s.block b).phase = .selfTest) (failed : List Nat) : ((blockSelfTest b failed true s).block b).phase = .inService := by
  unfold blockSelfTest
  extract_lets x region alone s₁ s₂ s₃ s₄
  rw [if_neg (by simp [x, h]), if_pos rfl]
  have h₁ : s₁.fab.blocks = (s.modBlock b (fun y => { y with phase := .inService })).fab.blocks := State.selfTested_blocks ..
  have h₂ : s₂.fab.blocks = s₁.fab.blocks := by
    unfold s₂
    split
    · rw [State.faultRec_fab]
    · rfl
  have h₃ : s₃.fab.blocks = s₂.fab.blocks := congrArg Fabric.blocks (s₂.readyBit_fab 6 _)
  have h₄ : s₄.fab.blocks = s₃.fab.blocks := s₃.regionDone_blocks region
  have hb := State.block_congr (h₄.trans (h₃.trans (h₂.trans h₁))) b
  rw [State.block_modBlock] at hb
  have hfin (u : State) : u.fin.block b = u.block b := State.block_congr (by rw [State.fin_fab]) b
  rw [hfin]
  split <;> exact congrArg Block.phase hb

theorem blockSelfTest_fails {s : State} {b : U16} (h : (s.block b).phase = .selfTest) (failed : List Nat)
    (hl : (s.modBlock b (fun y => { y with phase := .retired })).blockLeft (regionOf b) (blockKind (regionOf b) (blockNo b)) = true) :
    ((blockSelfTest b failed false s).block b).phase = .retired := by
  unfold blockSelfTest
  extract_lets x region alone _ _ _ _ s₁ s₂ s₃
  rw [if_neg (by simp [x, h]), if_neg (by simp)]
  have h₂ : s₂.fab = s₁.fab := (State.faultRec_fab ..).trans (State.journal_fab ..)
  have h₃ : s₃.fab = s₁.fab := (s₂.readyBit_fab 6 _).trans h₂
  have hleft : s₃.blockLeft region (blockKind region (blockNo b)) = true := by
    rw [← hl]
    unfold State.blockLeft
    simp only [State.block_congr (congrArg Fabric.blocks h₃), s₁, region]
  rw [if_pos hleft]
  have hb : (s₃.regionDone region).fin.block b = s₁.block b :=
    State.block_congr (by rw [State.fin_fab, State.regionDone_blocks, h₃]) b
  rw [hb, State.block_modBlock]

theorem resetNAssert_wipes {s : State} {n : Nat} (hn : 2000 ≤ n) (h : s.pins.resetN = true) :
    resetNAssert n s = { s.wiped 1 3 with pins := { (s.wiped 1 3).pins with resetN := false } } := by
  unfold resetNAssert
  have hopen : (decide (1000 ≤ n) && decide (n < 2000)) = false := by simp [hn]
  simp [hopen, hn, h]

theorem storeFormatDone_empties {s : State} {m : Mbx} {n : Nat} (h : s.keep.formatFor = some (m, n)) :
    (storeFormatDone s).keep.recs = [] ∧ (storeFormatDone s).patt.gens = [] ∧ (storeFormatDone s).mem.dram = [] ∧ (storeFormatDone s).boot.stage = .keystone := by
  unfold storeFormatDone
  split
  · next hn => exact absurd (hn.symm.trans h) (by simp)
  · extract_lets s₁ s₂
    rw [State.fin_keep, State.fin_patt, State.fin_mem, State.fin_boot]
    obtain ⟨hboot, -, hmem, hpatt, -, hkeep, -⟩ := State.deviceReset_beside { s₂ with patt := {} } 1 3 none
    exact ⟨hkeep, hpatt, hmem, hboot⟩

theorem State.unacked_any {s : State} {cell : U16} {t : Nat} (h : s.seams.unacked.find? (fun u => u.1 == cell) = some (cell, t)) (ht : t ≤ s.clk) :
    s.seams.unacked.any (fun u => u.1 == cell && decide (u.2 ≤ s.clk)) = true :=
  List.any_eq_true.mpr ⟨_, List.mem_of_find?_eq_some h, by simp [ht]⟩

theorem State.compareFail_fab (s : State) (cell : U16) (cause : U8) : (s.compareFail cell cause).fab = s.fab := by
  unfold State.compareFail
  (repeat' split) <;> rfl

/-- A snag marker at the front is taken whole: what it dropped is counted, and its producer fails or the snag goes on to what its consumer works on. -/
theorem spoolRead_snag {s u : State} {n : Nat} {x : Slot} {rest : List Slot} (hs : (s.spool n).slots = x :: rest) (hx : x.tag = 2)
    (hu : u = s.modSpool n (fun q => q)) (hpick : (u.cellPick (s.spool n).consumer).all (fun k => k == n) = true) :
    spoolRead n s =
      let v := (u.modSpool n (fun q => { q with slots := rest, stalled := false, taken := some x, wordsLeft := 0, snagged := q.snagged + x.dropped })).modVia
        (fun w => { w with inputTurn := tput w.inputTurn (s.spool n).consumer.toNat n })
      if (s.spool n).class0 then v.cellFail (s.spool n).producer 0xC (BitVec.ofNat 32 n) else (v.mediaSnag n { s.spool n with slots := rest } x.dropped).fin := by
  have hspool : u.spool n = s.spool n := by rw [hu, State.modSpool_spool]
  have hturn : ¬ (((u.cellPick (s.spool n).consumer).any (fun k => k != n)) = true ∧ (s.spool n).slots.head?.any (fun x => x.tag != 3) = true) := by
    rintro ⟨hother, -⟩
    cases hk : u.cellPick (s.spool n).consumer with
    | none => simp [hk] at hother
    | some k => simp_all
  unfold spoolRead
  rw [← hu]
  simp only [hspool]
  rw [if_neg hturn]
  simp [hs, hx]

/-- Settles O47: each row's case; for the end of a self-test and the resets by what they leave of the blocks, the pins, the store and the patterns. -/
theorem faultsAndResetsAct : Obligations.FaultsAndResetsAct := by
  unfold Obligations.FaultsAndResetsAct
  refine ⟨fun s => ⟨?_, ?_, ?_, ?_, ?_, ?_, ?_, ?_, ?_, ?_, ?_, ?_, ?_, ?_, ?_, ?_, ?_, ?_, ?_, ?_, ?_, ?_, ?_, ?_, ?_, ?_, ?_, ?_, ?_⟩, fun s => ⟨?_, ?_, ?_, ?_, ?_⟩⟩
  · intro cell cause detail hc hr hp
    refine next_congr (if_pos ⟨hc, hr, ?_⟩)
    rw [State.block_congr (congrArg Fabric.blocks (s.compareFail_fab cell cause)), hp]
  · intro cell f t hf hl ht
    exact next_congr (by simp [cellRetryResult, hf, hl, ht])
  · intro cell f hf hl
    exact next_congr (by simp only [cellRetryResult, hf, hl, if_true])
  · intro cell f hf
    exact next_congr (by simp [cellRetryResult, hf])
  · intro cell
    rfl
  · intro i f hi hf ht
    exact next_congr (by simp [boundExpired, hi, hf, ht])
  · intro i hi hp hr ht
    exact next_congr ((if_neg (by simp [hi])).trans (if_pos ⟨hp, by simp [hr], ht⟩))
  · intro i since detail hi hp hf ht
    exact next_congr (by simp [boundExpired, hi, hp, hf, ht])
  · intro n t ho ht
    exact next_congr (by simp [lengthUnfilled, ho, ht])
  · intro cell t hf ht
    exact next_congr (if_pos (State.unacked_any hf ht))
  · rintro b drop _ hp hdrop rfl
    obtain rfl : drop = _ := funext hdrop
    exact next_congr (if_neg (by simp [hp]))
  · intro b failed hp
    exact ⟨_, rfl, blockSelfTest_passes hp failed⟩
  · intro b failed hp hl
    exact ⟨_, rfl, blockSelfTest_fails hp failed hl⟩
  · intro b address
    rfl
  · intro r cause detail hr hreg
    exact next_congr (if_neg (by simp [hr, hreg]))
  · intro r x hx ht
    exact next_congr (by simp [regionTimeout, hx, ht])
  · intro i
    rfl
  · intro i hr hreg
    exact next_congr (if_neg (by simp [hr, hreg]))
  · intro i
    rfl
  · intro n toRegion i
    rfl
  · intro n toRegion resent i hx
    exact next_congr (by simp [spanFlitError, hx])
  · intro n toRegion resent i x hx h1 h8 ht
    exact next_congr (by simp [spanFlitError, hx, Nat.one_le_iff_ne_zero.mp h1, ht, Nat.not_lt.mpr (show x.replays + 1 ≤ 8 from h8)])
  · intro n toRegion resent i x hx h8 ht
    exact next_congr (by simp [spanFlitError, hx, h8, ht])
  · intro n toRegion i
    rfl
  · intro n die toRegion i
    rfl
  · intro n op hm
    exact next_congr (if_pos hm)
  · intro n op hm
    exact next_congr (if_neg (by simp [hm]))
  · intro n hs
    exact next_congr (by simp [spoolRead, State.modSpool_spool, hs])
  · rintro n x rest _ _ hs hx rfl hpick rfl
    exact next_congr (spoolRead_snag hs hx rfl hpick)
  · intro n hn
    refine next_congr ?_
    have hopen : (decide (1000 ≤ n) && decide (n < 2000)) = false := by simp [Nat.not_le.mpr hn]
    simp [resetNAssert, hopen, show ¬ 2000 ≤ n by omega]
  · intro n hn hp
    refine ⟨_, next_congr (resetNAssert_wipes hn hp), rfl, rfl, rfl, rfl, rfl, rfl, rfl, rfl, rfl, rfl, rfl, s.wiped_recs 1 3, rfl, rfl⟩
  · exact ⟨_, rfl, rfl, rfl, rfl, rfl, s.wiped_recs (if s.keep.parked ∧ s.keep.flushPark then 5 else 0) 3, rfl⟩
  · intro src side addr hp
    obtain ⟨hpins, hboot, hkeep⟩ := resetNRelease_boots hp src side addr
    exact ⟨_, rfl, congrArg Pins.resetN hpins, congrArg Pins.bootSrc hpins, congrArg Pins.twinSide hpins, congrArg Pins.mgmtAddr hpins, hboot, hkeep⟩
  · intro m n hf
    exact ⟨_, rfl, storeFormatDone_empties hf⟩

end Sys2Proof.Machine

end

section
/-! O48: the mem commands, requests and tiles, and the memory in time. -/

namespace Sys2Proof.Machine
open Sys2Proof

/-! ### The address map is what the channels' counts, the tiles and the events leave alone (15 R380) -/

/-- Two states with one address map. -/
structure State.SameMap (s t : State) : Prop where
  n : t.mem.n = s.mem.n
  pools : t.mem.pools = s.mem.pools
  windows : t.mem.windows = s.mem.windows
  gib : (t.chan 0).gib = (s.chan 0).gib

namespace State.SameMap

variable {s t u : State}

theorem trans (h : s.SameMap t) (k : t.SameMap u) : s.SameMap u := ⟨k.n.trans h.n, k.pools.trans h.pools, k.windows.trans h.windows, k.gib.trans h.gib⟩

theorem poolBase (h : s.SameMap t) (k : Nat) : t.poolBase k = s.poolBase k := by rw [State.poolBase, State.poolBase, h.pools]

theorem poolSize (h : s.SameMap t) (k : Nat) : t.poolSize k = s.poolSize k := by rw [State.poolSize, State.poolSize, h.pools]

theorem dramTop (h : s.SameMap t) : t.dramTop = s.dramTop := by rw [State.dramTop, State.dramTop, h.n, h.gib]

theorem poolOf (h : s.SameMap t) (a : Nat) : t.poolOf a = s.poolOf a := by
  simp only [State.poolOf, State.windowAt, State.windowBytes, h.poolBase, h.poolSize, h.windows]
    <;> rfl

theorem tileOf (h : s.SameMap t) (a : Nat) : t.tileOf a = s.tileOf a := by
  simp only [State.tileOf, h.poolOf, h.poolBase]

theorem tile (h : s.SameMap t) (ht : t.mem.tiles = s.mem.tiles) (a : Nat) : t.tile a = s.tile a := by
  simp only [State.tile, h.tileOf, ht]

theorem checked (h : s.SameMap t) (ht : t.mem.tiles = s.mem.tiles) (a : Nat) : t.checked a = s.checked a := by
  simp only [State.checked, h.poolOf, h.tile ht]

end State.SameMap

theorem State.chan_modChan (s : State) {c : Nat} (hc : c < 12) (f : MemChan → MemChan) : (s.modChan c f).chan c = f (s.chan c) := by
  simp [State.modChan, State.modMem, State.chan, hc]

theorem State.chan_modChan_gib (s : State) (c d : Nat) {f : MemChan → MemChan} (hf : ∀ k, (f k).gib = k.gib) : ((s.modChan c f).chan d).gib = (s.chan d).gib := by
  by_cases hd : d = c
  · subst hd
    by_cases hlt : d < 12
    · rw [State.chan_modChan s hlt, hf]
    · simp [State.modChan, State.modMem, State.chan, hlt]
  · simp [State.modChan, State.modMem, State.chan, List.getElem?_set_ne (Ne.symm hd)]

theorem State.modChan_sameMap (s : State) (c : Nat) {f : MemChan → MemChan} (hf : ∀ k, (f k).gib = k.gib) : s.SameMap (s.modChan c f) :=
  ⟨rfl, rfl, rfl, s.chan_modChan_gib c 0 hf⟩

theorem State.memEvent_sameMap (s : State) (kind channel pool a : Nat) : s.SameMap (s.memEvent kind channel pool a) := by
  unfold State.memEvent
  split <;> exact ⟨rfl, rfl, rfl, rfl⟩

theorem State.modMem_sameMap (s : State) {f : Memory → Memory} (h1 : (f s.mem).n = s.mem.n) (h2 : (f s.mem).pools = s.mem.pools)
    (h3 : (f s.mem).windows = s.mem.windows) (h4 : (f s.mem).chans = s.mem.chans) : s.SameMap (s.modMem f) :=
  ⟨h1, h2, h3, by rw [State.chan, show (s.modMem f).mem.chans = s.mem.chans from h4]; rfl⟩

theorem State.eccRead_correctable (s : State) (a : Nat) {ecc : EccResult} (h : ecc ≠ .uncorrectable) : s.SameMap (s.eccRead a ecc) ∧ (s.eccRead a ecc).mem.tiles = s.mem.tiles := by
  cases ecc with
  | clean => exact ⟨⟨rfl, rfl, rfl, rfl⟩, rfl⟩
  | corrected => exact ⟨s.modChan_sameMap (s.chanOf a) (f := fun c => { c with eccCorrected := c.eccCorrected + 1 }) (fun k => rfl), rfl⟩
  | uncorrectable => exact absurd rfl h

theorem State.poisonTile_sameMap (s : State) (a : Nat) : s.SameMap (s.poisonTile a) := by
  unfold State.poisonTile
  split
  · exact ⟨rfl, rfl, rfl, rfl⟩
  · extract_lets _ s₁ s₂
    have h₁ : s.SameMap s₁ := s.modMem_sameMap rfl rfl rfl rfl
    have h₂ : s₁.SameMap s₂ := s₁.modChan_sameMap _ (fun k => rfl)
    exact h₁.trans (h₂.trans (s₂.memEvent_sameMap ..))

theorem State.memEvent_tiles (s : State) (kind channel pool a : Nat) : (s.memEvent kind channel pool a).mem.tiles = s.mem.tiles := by
  unfold State.memEvent
  split <;> rfl

theorem State.poisonTile_poison (s : State) (a : Nat) : ((s.poisonTile a).tile a).poison = true := by
  have hmap := s.poisonTile_sameMap a
  unfold State.tile
  rw [hmap.tileOf]
  unfold State.poisonTile
  split
  · next h => exact h
  · rw [State.memEvent_tiles]
    exact congrArg (fun o : Option Tile => (o.getD {}).poison) (tget_tput ..)

theorem State.eccRead_firmware_sameMap (s : State) {a : Nat} (h : s.poolOf a = 0) : s.SameMap (s.eccRead a .uncorrectable) := by
  unfold State.eccRead
  extract_lets s₁ s₂
  have h₁ : s.SameMap s₁ := s.modChan_sameMap (s.chanOf a) (f := fun c => { c with eccUncorr := c.eccUncorr + 1 }) (fun k => rfl)
  have h₂ : s₁.SameMap s₂ := s₁.memEvent_sameMap ..
  have hp : s₂.poolOf a = 0 := ((h₁.trans h₂).poolOf a).trans h
  rw [if_neg (by simp [hp])]
  exact h₁.trans h₂

/-! ### Reads and writes of a tile (15 R388 to R391) -/

/-- What a read leaves after its error correction and its check, in words of its pool and tile. -/
theorem readTile_eq {s t : State} {a : Nat} {ecc : EccResult} {crcOk : Bool} {user : TileUse} (he : ecc ≠ .uncorrectable)
    (ht : t = if s.checked a ∧ !crcOk then (s.eccRead a ecc).poisonTile a else s.eccRead a ecc) (delivered : Bool)
    (hd : ((s.poolOf a == 2 || s.poolOf a == 3) && ((t.tile a).poison || (match (t.tile a).state with | .open_ _ => s.poolOf a == 2 | _ => false))) = delivered) :
    readTile a ecc crcOk user s =
      (let u := if delivered then t.tellPoison user a else t
       if user = .release ∧ u.poolOf a = 2 then u.modMem (fun m => { m with tiles := tdel m.tiles (u.tileOf a) }) else u).fin := by
  obtain ⟨hmap, htiles⟩ := s.eccRead_correctable a he
  unfold readTile
  simp only [hmap.checked htiles, he, ne_eq, not_false_eq_true, true_and, false_and, if_false]
  rw [← ht]
  have hpool : t.poolOf a = s.poolOf a := by
    rw [ht]
    split
    · exact (hmap.trans (State.poisonTile_sameMap _ a)).poolOf a
    · exact hmap.poolOf a
  subst hd
  simp only [hpool] <;> rfl

/-- A read that finds its tile poisoned or open for its writer tells the user; it frees no tile of TABLE. -/
theorem readTile_table {s t : State} {a : Nat} {ecc : EccResult} {crcOk : Bool} {user : TileUse} (he : ecc ≠ .uncorrectable) (hp : s.poolOf a = 3)
    (ht : t = if s.checked a ∧ !crcOk then (s.eccRead a ecc).poisonTile a else s.eccRead a ecc) (hmap : s.SameMap t) :
    readTile a ecc crcOk user s = (if (t.tile a).poison then t.tellPoison user a else t).fin := by
  rw [readTile_eq he ht (t.tile a).poison (by cases (t.tile a).state <;> simp [hp])]
  extract_lets u
  refine congrArg State.fin (if_neg ?_)
  rintro ⟨rfl, hu⟩
  have hut : u = t := by
    unfold u
    split <;> rfl
  rw [hut, hmap.poolOf, hp] at hu
  cases hu

theorem State.tile_eccRead (s : State) (a : Nat) {ecc : EccResult} (h : ecc ≠ .uncorrectable) : (s.eccRead a ecc).tile a = s.tile a :=
  (s.eccRead_correctable a h).1.tile (s.eccRead_correctable a h).2 a

theorem State.checked_of_table {s : State} {a : Nat} (h : s.poolOf a = 3) : s.checked a = true := by simp [State.checked, h]

theorem readTile_plain {s : State} {a : Nat} {ecc : EccResult} (crcOk : Bool) (user : TileUse) (he : ecc ≠ .uncorrectable) (h2 : s.poolOf a ≠ 2) (h3 : s.poolOf a ≠ 3) :
    readTile a ecc crcOk user s = (s.eccRead a ecc).fin := by
  have hc : s.checked a = false := by simp [State.checked, h2, h3]
  rw [readTile_eq he rfl false (by simp [h2, h3])]
  simp [hc, (s.eccRead_correctable a he).1.poolOf, h2]

theorem readTile_clean_table {s : State} {a : Nat} (crcOk : Bool) (user : TileUse) (hp : s.poolOf a = 3) (hpo : (s.tile a).poison = false) :
    readTile a .clean crcOk user s = (if crcOk then s else (s.poisonTile a).tellPoison user a).fin := by
  have hc := State.checked_of_table hp
  cases crcOk with
  | true =>
    rw [readTile_table (t := s) (by simp) hp (by simp [State.eccRead]) ⟨rfl, rfl, rfl, rfl⟩]
    simp [hpo]
  | false =>
    rw [readTile_table (t := s.poisonTile a) (by simp) hp (by simp [State.eccRead, hc]) (s.poisonTile_sameMap a)]
    simp [s.poisonTile_poison a]

theorem State.poisonTile_of_poison {s : State} {a : Nat} (h : (s.tile a).poison = true) : s.poisonTile a = s := if_pos h

theorem readTile_poisoned_table {s : State} {a : Nat} {ecc : EccResult} (crcOk : Bool) (user : TileUse) (he : ecc ≠ .uncorrectable) (hp : s.poolOf a = 3)
    (hpo : (s.tile a).poison = true) : readTile a ecc crcOk user s = ((s.eccRead a ecc).tellPoison user a).fin := by
  have hpo' : ((s.eccRead a ecc).tile a).poison = true := by rw [State.tile_eccRead s a he, hpo]
  rw [readTile_table (t := s.eccRead a ecc) he hp (by rw [State.poisonTile_of_poison hpo', ite_self]) (s.eccRead_correctable a he).1]
  simp [hpo']

theorem readTile_firmware {s : State} {a : Nat} (crcOk : Bool) (user : TileUse) (hp : s.poolOf a = 0) :
    readTile a .uncorrectable crcOk user s = ((s.eccRead a .uncorrectable).chipLevel 6 (Config.dramCause 0)).fin := by
  unfold readTile
  rw [if_pos ⟨rfl, ((s.eccRead_firmware_sameMap hp).poolOf a).trans hp⟩]

theorem readTile_open {s : State} {a : Nat} {cell : U16} (crcOk : Bool) {user : TileUse} (hu : user ≠ .release) (hp : s.poolOf a = 2) (hs : (s.tile a).state = .open_ cell) :
    readTile a .clean crcOk user s = (s.tellPoison user a).fin := by
  have hc : s.checked a = false := by simp [State.checked, hp, hs]
  rw [readTile_eq (t := s) (by simp) (by simp [hc, State.eccRead]) true (by simp [hp, hs])]
  simp [hu]

theorem readTile_release {s : State} {a : Nat} (hp : s.poolOf a = 2) (hs : (s.tile a).state = .sealed_) (hpo : (s.tile a).poison = false) :
    readTile a .clean true .release s = (s.modMem (fun m => { m with tiles := tdel m.tiles (s.tileOf a) })).fin := by
  rw [readTile_eq (t := s) (by simp) (by simp [State.eccRead]) false (by simp [hs, hpo])]
  simp [hp]

/-! ### Requests, activates and the patrol (15 R384 to R386) -/

theorem MemChan.nextOf_misses {k : MemChan} {bank : Nat} {r : DramReq} (hi : thas k.inOrder bank = false) (hr : k.nextOf bank = some r) (ho : tget k.openRow bank ≠ some r.row) :
    ((tget k.queues bank).getD []).head? = some r ∧ ∀ x ∈ (tget k.queues bank).getD [], tget k.openRow bank ≠ some x.row := by
  unfold MemChan.nextOf at hr
  simp only [hi, Bool.false_eq_true, if_false] at hr
  cases hf : ((tget k.queues bank).getD []).find? (fun r => tget k.openRow bank == some r.row) with
  | some x =>
    have hx : x = r := by simpa [hf] using hr
    exact absurd (by simpa [hx] using List.find?_some hf) ho
  | none =>
    refine ⟨by simpa [hf] using hr, fun x hx => ?_⟩
    simpa using List.find?_eq_none.mp hf x hx

theorem State.chan_memEvent (s : State) (kind channel pool a c : Nat) : (s.memEvent kind channel pool a).chan c = s.chan c := by
  unfold State.memEvent
  split <;> rfl

/-- The patrol's own step leaves the map and the tiles; stated for any condition, as the kernel must not evaluate the one on the size of the memory. -/
theorem State.modMem_patrol (s : State) (c : Prop) [Decidable c] (n : Nat) :
    s.SameMap (s.modMem (fun m => if c then { m with patrolAt := 0, patrolH := m.patrolNext } else { m with patrolAt := n })) ∧
    (s.modMem (fun m => if c then { m with patrolAt := 0, patrolH := m.patrolNext } else { m with patrolAt := n })).mem.tiles = s.mem.tiles := by
  by_cases h : c
  · simp only [h, if_true]
    exact ⟨⟨rfl, rfl, rfl, rfl⟩, rfl⟩
  · simp only [h, if_false]
    exact ⟨⟨rfl, rfl, rfl, rfl⟩, rfl⟩

theorem patrolRead_correctable {s u : State} {channel a : Nat} {ecc : EccResult} (crcOk : Bool) (ht : a < s.dramTop) (ha : a = s.mem.patrolAt) (hc : s.chanOf a = channel)
    (he : ecc ≠ .uncorrectable)
    (hu : u = (s.eccRead a ecc).modMem (fun m => if s.dramTop ≤ s.mem.patrolAt + 64 then { m with patrolAt := 0, patrolH := m.patrolNext } else { m with patrolAt := s.mem.patrolAt + 64 })) :
    patrolRead channel a ecc crcOk s = (if s.checked a && !crcOk then u.poisonTile a else u).fin := by
  obtain ⟨hmap, htiles⟩ := s.eccRead_correctable a he
  have hat : (s.eccRead a ecc).mem.patrolAt = s.mem.patrolAt := by
    cases ecc with
    | uncorrectable => exact absurd rfl he
    | _ => rfl
  have hmapu : s.SameMap u := by
    rw [hu]
    exact hmap.trans (State.modMem_patrol ..).1
  have htilesu : u.mem.tiles = s.mem.tiles := by
    rw [hu, ← htiles]
    exact (State.modMem_patrol ..).2
  unfold patrolRead
  have hgo : ¬ (s.dramTop ≤ a ∨ a ≠ s.mem.patrolAt ∨ s.chanOf a ≠ channel) := by
    rintro (h | h | h)
    · exact Nat.not_le_of_lt ht h
    · exact h ha
    · exact h hc
  rw [if_neg hgo]
  simp only [hat, hmap.dramTop]
  rw [← hu]
  simp [he, hmapu.checked htilesu]

theorem retrain_fails {s u : State} {channel : Nat} {t : Int} (hr : s.chanRuns channel = true) (hc : channel < 12)
    (ht : (s.chan channel).lastTrain + (s.chan channel).retrainMs * State.ticksPerMs ≤ s.clk ∨ 10 ≤ (t - (s.chan channel).trainC).natAbs)
    (hu : u = (s.modChan channel (fun c => { c with retrains := c.retrains + 1, lastTrain := s.clk, tempC := t, trainC := t, retrainMs := s.mem.retrainMs, retrainFails := c.retrainFails + 1, failRun := c.failRun + 1 })).memEvent 2 channel 0xFF 0) :
    retrain channel t false s = (if 1 ≤ (s.chan channel).failRun then u.blockFault (blockIsland 4 channel) (Config.dramCause 1) else u).fin := by
  have hrun : (u.chan channel).failRun = (s.chan channel).failRun + 1 := by rw [hu, State.chan_memEvent, State.chan_modChan s hc]
  have hgo : ¬ ((!s.chanRuns channel) = true ∨ (s.clk < (s.chan channel).lastTrain + (s.chan channel).retrainMs * State.ticksPerMs ∧ (t - (s.chan channel).trainC).natAbs < 10)) := by
    rintro (h | ⟨h1, h2⟩)
    · simp [hr] at h
    · exact ht.elim (Nat.not_le_of_lt h1) (Nat.not_le_of_lt h2)
  unfold retrain
  rw [if_neg hgo, if_neg (by simp)]
  simp only [Bool.false_eq_true, if_false]
  rw [← hu, hrun]
  simp

theorem retrain_holds {s : State} {channel : Nat} {t : Int} (hr : s.chanRuns channel = true)
    (ht : (s.chan channel).lastTrain + (s.chan channel).retrainMs * State.ticksPerMs ≤ s.clk ∨ 10 ≤ (t - (s.chan channel).trainC).natAbs) :
    retrain channel t true s =
      s.modChan channel (fun c => { c with retrains := c.retrains + 1, lastTrain := s.clk, tempC := t, trainC := t, retrainMs := s.mem.retrainMs, failRun := 0 }) := by
  have hgo : ¬ ((!s.chanRuns channel) = true ∨ (s.clk < (s.chan channel).lastTrain + (s.chan channel).retrainMs * State.ticksPerMs ∧ (t - (s.chan channel).trainC).natAbs < 10)) := by
    rintro (h | ⟨h1, h2⟩)
    · simp [hr] at h
    · exact ht.elim (Nat.not_le_of_lt h1) (Nat.not_le_of_lt h2)
  unfold retrain
  rw [if_neg hgo, if_pos rfl]
  rfl

theorem State.request_refused {s : State} {a : Nat} {op : DramOp} {p : DramPath}
    (h : s.dramTop ≤ a ∨ s.cellOut p.cell = true ∨ (s.block (blockOfIsland p.cell)).phase ≠ .inService) : s.request a op p = s := if_pos h

theorem State.request_waits {s : State} {a : Nat} {op : DramOp} {p : DramPath} {r : DramReq} (ha : a < s.dramTop) (hc : s.cellOut p.cell = false)
    (hp : (s.block (blockOfIsland p.cell)).phase = .inService) (hr : s.clk < s.fab.via.refillAt + State.ticksOfUs 1)
    (hq : r = { seq := s.fab.via.nextSeq, cell := p.cell, addr := a, chan := s.chanOf a, bytes := if s.poolOf a = 2 then 4096 else 64, bank := p.bank, row := p.row, op }) :
    s.request a op p = if p.wait then s.modVia (fun v => { v with waiting := v.waiting ++ [r], nextSeq := v.nextSeq + 1 })
      else (s.modVia (fun v => { v with waiting := v.waiting ++ [r], nextSeq := v.nextSeq + 1 })).fabricDrain := by
  have hgo : ¬ (s.dramTop ≤ a ∨ s.cellOut p.cell = true ∨ (s.block (blockOfIsland p.cell)).phase ≠ .inService) := by
    rintro (h | h | h)
    · exact Nat.not_le_of_lt ha h
    · simp [hc] at h
    · exact h hp
  unfold State.request
  rw [if_neg hgo, if_neg (Nat.not_le_of_lt hr)]
  simp only [hq]

/-- Settles O48: each row's case, the requests by their admission, the tiles by their pool and state, and the channels' own upkeep. -/
theorem memoryActs : Obligations.MemoryActs := by
  unfold Obligations.MemoryActs
  refine ⟨fun s m c => ⟨?_, ?_, ?_, ?_, ?_⟩, fun s => ⟨?_, ?_, ?_, ?_, ?_, ?_, ?_, ?_, ?_, ?_, ?_, ?_, ?_, ?_, ?_, ?_, ?_, ?_, ?_, ?_, ?_, ?_, ?_⟩⟩
  · intro act patrol ms h
    exact next_congr (State.run_of_takes h rfl rfl)
  · rintro channel clear _ rfl h
    exact next_congr (State.run_of_takes h rfl rfl)
  · intro h
    exact next_congr (State.run_of_takes h rfl rfl)
  · intro q hq h
    exact next_congr (State.run_of_takes h (if_pos hq) rfl)
  · intro q k base hq hk hb h
    refine next_congr (State.run_of_takes h ?_ rfl)
    have hbase : (if q.kind = 1 then s.poolBase 4 else (s.windowBase (q.sizeMib.toNat * 1048576)).getD 0) = base := by
      split at hb
      · next h1 => rw [if_pos h1, hb]
      · next h1 => rw [if_neg h1, hb]; rfl
    simp only [rowMemWindow, hk, hbase, Option.getD_some]
    exact if_neg (by simp [hq])
  · intro a ecc crcOk user p
    rfl
  · intro a whole crcOk crc p
    rfl
  · intro a op p h
    exact State.request_refused h
  · intro a op p r ha hc hp hr hq
    exact State.request_waits ha hc hp hr hq
  · intro r ecc crcOk user hop he h2 h3
    rw [DramReq.act, hop]
    exact readTile_plain crcOk user he h2 h3
  · intro r crcOk user hop hp hpo
    rw [DramReq.act, hop]
    exact readTile_clean_table crcOk user hp hpo
  · intro r ecc crcOk user hop he hp hpo
    rw [DramReq.act, hop]
    exact readTile_poisoned_table crcOk user he hp hpo
  · intro r crcOk user hop hp
    rw [DramReq.act, hop]
    exact readTile_firmware crcOk user hp
  · intro r cell crcOk user hop hu hp hs
    rw [DramReq.act, hop]
    exact readTile_open crcOk hu hp hs
  · intro r hop hp hs hpo
    rw [DramReq.act, hop]
    exact readTile_release hp hs hpo
  · intro r crcOk crc hop hp
    simp [DramReq.act, hop, tableWrite, hp]
  · intro r crcOk crc hop hp
    simp [DramReq.act, hop, tableWrite, hp]
  · intro r last crcOk crc hop hp hs
    rcases hs with hs | hs <;> simp [DramReq.act, hop, tableWrite, hp, mediaWrite, hs]
  · intro r last crcOk crc hop hp hs
    simp [DramReq.act, hop, tableWrite, hp, mediaWrite, hs]
  · intro k bank r hi hr ho
    exact MemChan.nextOf_misses hi hr ho
  · intro k bank hi
    exact if_pos hi
  · intro channel bank row hr hb
    refine next_congr (if_neg ?_)
    rintro (h | ⟨h1, h2⟩)
    · simp [hr] at h
    · exact hb.elim h1 h2
  · intro channel hr ht
    exact next_congr (if_pos ⟨hr, ht⟩)
  · intro channel hr ht
    exact next_congr (if_pos ⟨hr, ht⟩)
  · intro channel t hr ht
    exact next_congr (retrain_holds hr ht)
  · intro channel t u hr hc ht hu
    exact next_congr (retrain_fails hr hc ht hu)
  · intro channel t ht hd
    exact ⟨next_congr (if_pos (.inr ⟨ht, hd⟩)), next_congr (if_pos (.inr ⟨ht, hd⟩))⟩
  · intro channel a ecc crcOk u ht ha hc he hu
    exact next_congr (patrolRead_correctable crcOk ht ha hc he hu)

end Sys2Proof.Machine

end

section
/-! What ending a session leaves of the functions: the DMA channels, the memories and VF Enable. -/

namespace Sys2Proof.Machine
open Sys2Proof

/-- The DMA channels, the memories and VF Enable are as they were. -/
abbrev State.SameDma (s t : State) : Prop := t.dma = s.dma ∧ t.mem = s.mem ∧ t.pl.vfEnable = s.pl.vfEnable

theorem State.SameDma.trans {s t u : State} (h : s.SameDma t) (k : t.SameDma u) : s.SameDma u := ⟨k.1.trans h.1, k.2.1.trans h.2.1, k.2.2.trans h.2.2⟩

@[simp] theorem foldl_sameDma {α : Type} {f : State → α → State} (h : ∀ (s : State) (a : α), s.SameDma (f s a)) (l : List α) (s : State) : s.SameDma (l.foldl f s) := by
  induction l generalizing s with
  | nil => exact ⟨rfl, rfl, rfl⟩
  | cons a l ih => exact (h s a).trans (ih _)

@[simp] theorem State.setBox_sameDma (s : State) (m : Mbx) (b : Mailbox) : s.SameDma (s.setBox m b) := by
  unfold State.setBox; exact ⟨rfl, rfl, rfl⟩

@[simp] theorem State.modBox_sameDma (s : State) (m : Mbx) (f : Mailbox → Mailbox) : s.SameDma (s.modBox m f) := by
  unfold State.modBox; exact ⟨rfl, rfl, rfl⟩

@[simp] theorem State.raise_sameDma (s : State) (code : Nat) (status : U8) (data : Bytes) : s.SameDma (s.raise code status data) := by
  unfold State.raise; exact ⟨rfl, rfl, rfl⟩

@[simp] theorem State.raiseTo_sameDma (s : State) (m : Mbx) (code : Nat) (status : U8) (data : Bytes) : s.SameDma (s.raiseTo m code status data) := by
  unfold State.raiseTo; exact ⟨rfl, rfl, rfl⟩

@[simp] theorem State.raiseDone_sameDma (s : State) (m : Mbx) (seq : Nat) (code : Nat) (status : U8) (data : Bytes) : s.SameDma (s.raiseDone m seq code status data) := by
  unfold State.raiseDone; exact ⟨rfl, rfl, rfl⟩

@[simp] theorem State.sendIrq_sameDma (s : State) (m : Mbx) : s.SameDma (s.sendIrq m) := by
  unfold State.sendIrq; exact ⟨rfl, rfl, rfl⟩

@[simp] theorem State.irq_sameDma (s : State) (m : Mbx) : s.SameDma (s.irq m) := by
  unfold State.irq; (repeat' split) <;> simp [↓State.SameDma]

@[simp] theorem State.alert_sameDma (s : State) : s.SameDma (s.alert) := by
  unfold State.alert; exact ⟨rfl, rfl, rfl⟩

@[simp] theorem State.putBox_sameDma (s : State) (m : Mbx) (b : Mailbox) : s.SameDma (s.putBox m b) := by
  unfold State.putBox; dsimp only; (repeat' split) <;> simp [↓State.SameDma]

@[simp] theorem State.offerTo_sameDma (s : State) (r : Raised) (l : List Mbx) : s.SameDma (s.offerTo r l) := by
  induction l generalizing s with
  | nil => exact ⟨rfl, rfl, rfl⟩
  | cons m ms ih =>
    unfold State.offerTo
    refine State.SameDma.trans ?_ (ih _)
    split <;> simp [↓State.SameDma]

@[simp] theorem State.offerAll_sameDma (s : State) (l : List Raised) : s.SameDma (s.offerAll l) := by
  induction l generalizing s with
  | nil => exact ⟨rfl, rfl, rfl⟩
  | cons r rs ih => exact (State.offerTo_sameDma ..).trans (ih _)

@[simp] theorem State.fin_sameDma (s : State) : s.SameDma (s.fin) := by
  unfold State.fin; simp [↓State.SameDma]

@[simp] theorem State.dropSession_sameDma (s : State) (m : Mbx) : s.SameDma (s.dropSession m) := by
  unfold State.dropSession; exact ⟨rfl, rfl, rfl⟩

@[simp] theorem State.legEvent_sameDma (s : State) (leg : Nat) (conf : Nat) (new : Nat) (old : Nat) (cause : Nat) : s.SameDma (s.legEvent leg conf new old cause) := by
  unfold State.legEvent; exact ⟨rfl, rfl, rfl⟩

@[simp] theorem State.modLeg_sameDma (s : State) (l : Nat) (f : Leg → Leg) : s.SameDma (s.modLeg l f) := by
  unfold State.modLeg; exact ⟨rfl, rfl, rfl⟩

@[simp] theorem State.modNet_sameDma (s : State) (f : Net → Net) : s.SameDma (s.modNet f) := by
  unfold State.modNet; exact ⟨rfl, rfl, rfl⟩

@[simp] theorem State.modLegQ_sameDma (s : State) (l : Nat) (f : LegQ → LegQ) : s.SameDma (s.modLegQ l f) := by
  unfold State.modLegQ; exact ⟨rfl, rfl, rfl⟩

@[simp] theorem State.emptyQueue_sameDma (s : State) (l : Nat) : s.SameDma (s.emptyQueue l) := by
  unfold State.emptyQueue; exact ⟨rfl, rfl, rfl⟩

@[simp] theorem State.modCip_sameDma (s : State) (f : Cipher → Cipher) : s.SameDma (s.modCip f) := by
  unfold State.modCip; exact ⟨rfl, rfl, rfl⟩

@[simp] theorem State.modRekey_sameDma (s : State) (l : Nat) (f : Rekey → Rekey) : s.SameDma (s.modRekey l f) := by
  unfold State.modRekey; exact ⟨rfl, rfl, rfl⟩

@[simp] theorem State.emptyLeg_sameDma (s : State) (l : Nat) : s.SameDma (s.emptyLeg l) := by
  unfold State.emptyLeg; exact ⟨rfl, rfl, rfl⟩

@[simp] theorem State.answerRekey_sameDma (s : State) (l kind : Nat) : s.SameDma (s.answerRekey l kind) := by
  unfold State.answerRekey
  extract_lets data ws s₁ s₂
  have h₁ : s.SameDma s₁ := foldl_sameDma (fun s m => by split <;> simp [↓State.SameDma]) _ s
  have h₂ : s₁.SameDma s₂ := foldl_sameDma (fun s w => by simp [↓State.SameDma]) _ s₁
  exact (h₁.trans h₂).trans (by simp [↓State.SameDma])

@[simp] theorem State.modSnd_sameDma (s : State) (f : Sound → Sound) : s.SameDma (s.modSnd f) := by
  unfold State.modSnd; exact ⟨rfl, rfl, rfl⟩

@[simp] theorem State.modLegSnd_sameDma (s : State) (l : Nat) (f : LegSound → LegSound) : s.SameDma (s.modLegSnd l f) := by
  unfold State.modLegSnd; exact ⟨rfl, rfl, rfl⟩

@[simp] theorem State.withPending_sameDma (s : State) (i : Instr) : s.SameDma (s.withPending i) := by
  unfold State.withPending; exact ⟨rfl, rfl, rfl⟩

@[simp] theorem State.modPic_sameDma (s : State) (f : Picture → Picture) : s.SameDma (s.modPic f) := by
  unfold State.modPic; exact ⟨rfl, rfl, rfl⟩

@[simp] theorem State.modDec_sameDma (s : State) (k : Nat) (f : DecCtx → DecCtx) : s.SameDma (s.modDec k f) := by
  unfold State.modDec; exact ⟨rfl, rfl, rfl⟩

@[simp] theorem State.modEnc_sameDma (s : State) (k : Nat) (f : EncCtx → EncCtx) : s.SameDma (s.modEnc k f) := by
  unfold State.modEnc; exact ⟨rfl, rfl, rfl⟩

@[simp] theorem State.decLess_sameDma (s : State) (source : Nat) : s.SameDma (s.decLess source) := by
  unfold State.decLess; split <;> simp [↓State.SameDma]

@[simp] theorem State.decUnplace_sameDma (s : State) (y : Nat) (t : Nat) : s.SameDma (s.decUnplace y t) := by
  unfold State.decUnplace; exact ⟨rfl, rfl, rfl⟩

@[simp] theorem State.switchEvent_sameDma (s : State) (e : Nat) (f : FwdEntry) (state : Nat) (media : Option Nat) : s.SameDma (s.switchEvent e f state media) := by
  unfold State.switchEvent; exact ⟨rfl, rfl, rfl⟩

@[simp] theorem State.dropLayout_sameDma (s : State) (y : Nat) : s.SameDma (s.dropLayout y) := by
  unfold State.dropLayout
  extract_lets fs s₁
  have h₁ : s.SameDma s₁ := by
    unfold s₁
    exact foldl_sameDma (fun s t => by split <;> simp [↓State.SameDma]) _ s
  clear_value s₁
  exact h₁.trans ⟨rfl, rfl, rfl⟩

@[simp] theorem State.dropEntries_sameDma (s : State) (fuel : Nat) (es : List Nat) : s.SameDma (s.dropEntries fuel es) := by
  induction fuel generalizing s es with
  | zero => cases es <;> exact ⟨rfl, rfl, rfl⟩
  | succ fuel ih =>
    cases es with
    | nil => exact ⟨rfl, rfl, rfl⟩
    | cons e es =>
      unfold State.dropEntries
      refine foldl_sameDma (fun s e => ?_) _ s
      dsimp only
      (repeat' split)
      · exact ⟨rfl, rfl, rfl⟩
      · exact State.SameDma.trans (by simp [↓State.SameDma]) (ih _ _)
      · simp [↓State.SameDma]

@[simp] theorem State.feedCharge_sameDma (s : State) (f : Nat) (q : FeedReq) : s.SameDma (s.feedCharge f q) := by
  unfold State.feedCharge; (repeat' split) <;> simp [↓State.SameDma]

@[simp] theorem State.modFwd_sameDma (s : State) (f : Fwd → Fwd) : s.SameDma (s.modFwd f) := by
  unfold State.modFwd; exact ⟨rfl, rfl, rfl⟩

@[simp] theorem State.dropSources_sameDma (s : State) (l : Nat) : s.SameDma (s.dropSources l) := by
  unfold State.dropSources; exact ⟨rfl, rfl, rfl⟩

@[simp] theorem State.dropSound_sameDma (s : State) (l : Nat) : s.SameDma (s.dropSound l) := by
  unfold State.dropSound; exact ⟨rfl, rfl, rfl⟩

@[simp] theorem State.dropLeg_sameDma (s : State) (l : Nat) : s.SameDma (s.dropLeg l) := by
  unfold State.dropLeg; split <;> simp [↓State.SameDma]

@[simp] theorem State.holdLeg_sameDma (s : State) (l : Nat) : s.SameDma (s.holdLeg l) := by
  unfold State.holdLeg; exact ⟨rfl, rfl, rfl⟩

@[simp] theorem State.seamDone_sameDma (s : State) (k : Seam) : s.SameDma (s.seamDone k) := by
  unfold State.seamDone; (repeat' split) <;> simp [↓State.SameDma]

@[simp] theorem State.patternDone_sameDma (s : State) (issuer : Option (Mbx × Nat)) (st : U8) (op : Nat) (gen : Nat) (seam : Nat) (island : Nat) (count : Nat) : s.SameDma (s.patternDone issuer st op gen seam island count) := by
  unfold State.patternDone; (repeat' split) <;> simp [↓State.SameDma]

@[simp] theorem State.powerEvent_sameDma (s : State) (m : Mbx) (seq : Nat) (op : Nat) (st : U8) (cause : Nat) (island : U16) (gated : Nat) : s.SameDma (s.powerEvent m seq op st cause island gated) := by
  unfold State.powerEvent; exact ⟨rfl, rfl, rfl⟩

@[simp] theorem State.deferredEvent_sameDma (s : State) (m : Mbx) (st : U8) : s.SameDma (s.deferredEvent m st) := by
  unfold State.deferredEvent; exact ⟨rfl, rfl, rfl⟩

@[simp] theorem State.powerEvents_sameDma (s : State) (q : PwrReq) (st : U8) (cause : Nat) (island : U16) (gated : Nat) : s.SameDma (s.powerEvents q st cause island gated) := by
  unfold State.powerEvents; split <;> simp [↓State.SameDma]

@[simp] theorem State.powerUnpicked_sameDma (s : State) (k : Seam) : s.SameDma (s.powerUnpicked k) := by
  unfold State.powerUnpicked; dsimp only; (repeat' split) <;> simp [↓State.SameDma]

@[simp] theorem State.patternUnpicked_sameDma (s : State) (k : Seam) : s.SameDma (s.patternUnpicked k) := by
  unfold State.patternUnpicked; (repeat' split) <;> simp [↓State.SameDma]

@[simp] theorem State.freeCmd_sameDma (s : State) (i : Instr) : s.SameDma (s.freeCmd i) := by
  unfold State.freeCmd State.charging
  (repeat' split) <;> simp [↓State.SameDma]

@[simp] theorem State.releaseBasted_sameDma (s : State) (k : Seam) : s.SameDma (s.releaseBasted k) := by
  unfold State.releaseBasted; simp [↓State.SameDma]

@[simp] theorem State.finishSeam_sameDma (s : State) (id : U16) (f : Seam → Seam) : s.SameDma (s.finishSeam id f) := by
  unfold State.finishSeam; exact ⟨rfl, rfl, rfl⟩

@[simp] theorem State.unpickSeam_sameDma (s : State) (id : U16) (reason : Nat) (isl : U16) (pstatus : U8) : s.SameDma (s.unpickSeam id reason isl pstatus) := by
  unfold State.unpickSeam; dsimp only; (repeat' split) <;> simp [↓State.SameDma]

@[simp] theorem State.unpickAll_sameDma (s : State) (p : Seam → Bool) (reason : Nat) (isl : U16) : s.SameDma (s.unpickAll p reason isl) := by
  unfold State.unpickAll; simp [↓State.SameDma]

@[simp] theorem State.endSession_sameDma (s : State) (m : Mbx) : s.SameDma (s.endSession m) := by
  unfold State.endSession; split <;> simp [↓State.SameDma]

@[simp] theorem State.halt_sameDma (s : State) (m : Mbx) (cause : Nat) : s.SameDma (s.halt m cause) := by
  unfold State.halt; split <;> simp [↓State.SameDma]

end Sys2Proof.Machine

end

section
/-! O50: the DMA channels' commands and the plain registers. -/

namespace Sys2Proof.Machine
open Sys2Proof

/-! ### The channels' commands (15 R397, R398, R403 to R406) -/

theorem State.modDma_dmaOf_ne (s : State) {c k : Fin 16} (h : k ≠ c) (f : Dma → Dma) : (s.modDma c f).dmaOf k = s.dmaOf k := by
  unfold State.modDma State.dmaOf
  exact Vector.getElem_set_ne (xs := s.dma) c.isLt k.isLt (fun hv => h (Fin.ext hv.symm))

theorem State.dmaBegin_runs {s : State} {c : Fin 16} {d : Desc} (hi : d.invalid = false) (ho : d.overlaps = false) :
    ((s.dmaBegin c d []).dmaOf c).state = .running ∧ ((s.dmaBegin c d []).dmaOf c).desc = some d ∧ ((s.dmaBegin c d []).dmaOf c).cur = d.addr ∧
    ((s.dmaBegin c d []).dmaOf c).doneRun = (s.dmaOf c).doneRun := by
  unfold State.dmaBegin
  rw [if_neg (by simp [hi]), if_neg (by simp [ho])]
  extract_lets more
  have h₁ : (s.modDma c (fun x => { x with cur := d.addr })).dmaOf c = { s.dmaOf c with cur := d.addr } := State.modDma_dmaOf ..
  rw [State.modDma_dmaOf, h₁]
  exact ⟨rfl, rfl, rfl, rfl⟩

theorem dmaStart_runs {s : State} {c : Fin 16} (hi : (s.dmaOf c).image.invalid = false) (ho : (s.dmaOf c).image.overlaps = false) (hs : (s.dmaOf c).state = .idle) :
    ((dmaStart c s).dmaOf c).state = .running ∧ ((dmaStart c s).dmaOf c).desc = some (s.dmaOf c).image ∧ ((dmaStart c s).dmaOf c).cur = 0 ∧ ((dmaStart c s).dmaOf c).doneRun = 0 := by
  have hd : (s.dmaAccept c).dmaOf c = { s.dmaOf c with startIgnored := false, cause := 0, dir := false, doneRun := 0, desc := none, ahead := [], doorbell := false } :=
    State.modDma_dmaOf ..
  have him : ((s.dmaAccept c).dmaOf c).image = (s.dmaOf c).image := by rw [hd]; rfl
  have hstart : dmaStart c s = (s.dmaAccept c).dmaBegin c (s.dmaOf c).image [] := by
    unfold dmaStart
    rw [hs, ← him]
    exact if_pos rfl
  obtain ⟨h1, h2, h3, h4⟩ := State.dmaBegin_runs (s := s.dmaAccept c) (c := c) hi ho
  rw [hstart]
  exact ⟨h1, h2, h3, h4.trans (by rw [hd])⟩

/-! ### Resets of a function, VF Enable and Bus Master Enable (03 R99) -/

theorem haltVfs_leaves (s : State) : (haltVfs s).dma = s.dma ∧ (haltVfs s).mem = s.mem ∧ (haltVfs s).pl.vfEnable = false := by
  unfold haltVfs
  split
  · exact foldl_sameDma (fun s m => State.halt_sameDma ..) _ _
  · next h => exact ⟨rfl, rfl, by simpa using h⟩

theorem vfCleared_leaves {s : State} (h : s.pl.vfEnable = true) : (vfCleared s).pl.vfEnable = false ∧ (vfCleared s).dma = s.dma ∧ (vfCleared s).mem = s.mem := by
  obtain ⟨hd, hm, hv⟩ := haltVfs_leaves s
  obtain ⟨hd', hm', hv'⟩ := (haltVfs s).fin_sameDma
  unfold vfCleared
  rw [if_pos h]
  exact ⟨hv'.trans hv, hd'.trans hd, hm'.trans hm⟩

theorem State.foldl_reset_dmaOf (l : List (Fin 16)) (s : State) (k : Fin 16) :
    (l.foldl (fun s c => s.modDma c (fun _ => {})) s).dmaOf k = if k ∈ l then {} else s.dmaOf k := by
  induction l generalizing s with
  | nil => rfl
  | cons c l ih =>
    rw [List.foldl_cons, ih]
    by_cases hk : k = c
    · subst hk
      simp [State.modDma_dmaOf]
    · simp [hk, State.modDma_dmaOf_ne s hk]

theorem State.putBox_busMaster (s : State) (m : Mbx) (b : Mailbox) : (s.putBox m b).pl.busMaster = s.pl.busMaster := by
  have hirq (s : State) : (s.irq m).pl.busMaster = s.pl.busMaster := by
    unfold State.irq State.sendIrq
    (repeat' split) <;> rfl
  unfold State.putBox
  extract_lets wrote s₁ s₂
  have h : s₂.pl.busMaster = s.pl.busMaster := by
    unfold s₂
    split
    · exact (hirq s₁).trans rfl
    · rfl
  split
  · exact (show _ = s₂.pl.busMaster from rfl).trans h
  · exact h

theorem State.offerTo_busMaster (s : State) (r : Raised) (l : List Mbx) : (s.offerTo r l).pl.busMaster = s.pl.busMaster := by
  induction l generalizing s with
  | nil => rfl
  | cons m ms ih =>
    unfold State.offerTo
    refine (ih _).trans ?_
    split
    · exact State.putBox_busMaster ..
    · rfl

theorem State.offerAll_busMaster (s : State) (l : List Raised) : (s.offerAll l).pl.busMaster = s.pl.busMaster := by
  induction l generalizing s with
  | nil => rfl
  | cons r rs ih => exact (ih _).trans (State.offerTo_busMaster ..)

theorem State.fin_busMaster (s : State) : s.fin.pl.busMaster = s.pl.busMaster := State.offerAll_busMaster ..

/-- What a function's reset does once its mailboxes are halted. -/
def functionOff (fn : Fin 16) (s : State) : State :=
  let s : State := { s with pl := { s.pl with busMaster := s.pl.busMaster.set fn false } }
  s.modBox (fn.castLE (by decide)) (fun b => { b with msix := [], msixPba := 0, msixEnable := false, msixMask := false })

theorem functionOff_leaves (fn : Fin 16) (s : State) : s.SameDma (functionOff fn s) ∧ (functionOff fn s).pl.busMaster.get fn = false :=
  ⟨⟨rfl, rfl, rfl⟩, Vector.getElem_set_self (xs := s.pl.busMaster) fn.isLt⟩

theorem functionReset_of_physical (s : State) : functionReset 0 s =
    ((List.finRange 16).filter (fun c => decide (c.val < 8))).foldl (fun s c => s.modDma c (fun _ => {})) (functionOff 0 (haltVfs (s.halt 0 5))) := rfl

theorem functionReset_of_virtual {fn : Fin 16} (h : fn ≠ 0) (s : State) : functionReset fn s = functionOff fn (s.halt (fn.castLE (by decide)) 5) := by
  unfold functionReset
  simp only [h, if_false]
  rfl

theorem foldl_modDma_leaves (l : List (Fin 16)) (f : Fin 16 → Dma → Dma) (s : State) :
    (l.foldl (fun s c => s.modDma c (f c)) s).mem = s.mem ∧ (l.foldl (fun s c => s.modDma c (f c)) s).pl = s.pl := by
  induction l generalizing s with
  | nil => exact ⟨rfl, rfl⟩
  | cons c l ih => exact ih _

/-! ### The plain registers (03 R76, R77, R99) -/

theorem lane_mask_getLsbD (i : Nat) : (0xFFFFFFFF#128).getLsbD i = decide (i < 32) := by
  rw [show 0xFFFFFFFF#128 = (BitVec.allOnes 32).setWidth 128 by decide, BitVec.getLsbD_setWidth, BitVec.getLsbD_allOnes]
  by_cases h : i < 32
  · simp [h, show i < 128 by omega]
  · simp [h]

/-- A word written into one of a vector's four lanes is what that lane then reads. -/
theorem lane_written (old : U128) (v : U64) (d : Fin 4) :
    (((old &&& ~~~ (0xFFFFFFFF#128 <<< (32 * d.val))) ||| ((v.truncate 32).zeroExtend 128 <<< (32 * d.val))) >>> (32 * d.val)).truncate 32 = (v.truncate 32 : BitVec 32) := by
  apply BitVec.eq_of_getLsbD_eq
  intro i hi
  have hlt : 32 * d.val + i < 128 := by have := d.isLt; omega
  simp [hi, hlt, lane_mask_getLsbD, show i < 128 by omega]

/-- The other lanes read as before. -/
theorem lane_kept (old : U128) (v : U64) {d k : Fin 4} (h : k ≠ d) :
    (((old &&& ~~~ (0xFFFFFFFF#128 <<< (32 * d.val))) ||| ((v.truncate 32).zeroExtend 128 <<< (32 * d.val))) >>> (32 * k.val)).truncate 32 = ((old >>> (32 * k.val)).truncate 32 : BitVec 32) := by
  apply BitVec.eq_of_getLsbD_eq
  intro i hi
  have hlt : 32 * k.val + i < 128 := by have := k.isLt; omega
  have hne : k.val ≠ d.val := fun hv => h (Fin.ext hv)
  rcases Nat.lt_or_gt_of_ne hne with hlo | hhi
  · have hs : 32 * k.val + i < 32 * d.val := by omega
    simp [hi, hlt, hs]
  · have hs : ¬ 32 * k.val + i - 32 * d.val < 32 := by omega
    have hmask : (0xFFFFFFFF#128)[32 * k.val + i - 32 * d.val]'(by omega) = false := by
      rw [← BitVec.getLsbD_eq_getElem, lane_mask_getLsbD, decide_eq_false hs]
    simp [hi, hlt, hs, hmask]

/-- A mailbox's MSI-X table and its control. -/
def Mailbox.vectors (b : Mailbox) : Table U128 × Bool × Bool := (b.msix, b.msixEnable, b.msixMask)

theorem Mailbox.vectorOpen_congr {a b : Mailbox} (h : a.vectors = b.vectors) (e : Nat) : a.vectorOpen e = b.vectorOpen e := by
  simp only [Mailbox.vectors, Prod.mk.injEq] at h
  obtain ⟨h1, h2, h3⟩ := h
  rw [Mailbox.vectorOpen, Mailbox.vectorOpen, h1, h2, h3]

theorem State.modBox_same (s : State) (m : Mbx) (f : Mailbox → Mailbox) : (s.modBox m f).box m = f (s.box m) := by rw [State.modBox_box, if_pos rfl]

theorem State.irq_vectors (s : State) (m : Mbx) : ((s.irq m).box m).vectors = (s.box m).vectors := by
  unfold State.irq State.sendIrq
  (repeat' split)
  · rfl
  · rw [State.modBox_same]
    rfl
  · rw [State.modBox_same]
    split <;> rfl

theorem State.irq_pba {s : State} {m : Mbx} (h : (s.box m).vectorOpen 0 = true) : ((s.irq m).box m).msixPba = (s.box m).msixPba := by
  unfold State.irq State.sendIrq
  (repeat' split)
  · rfl
  · rw [State.modBox_same]
  · rw [State.modBox_same, if_pos h]

theorem pba_cleared (p : U64) (e : Nat) (he : e < 64) : (p &&& ~~~ BitVec.ofNat 64 (2 ^ e)).getLsbD e = false := by
  rw [BitVec.getLsbD_and, BitVec.getLsbD_not, BitVec.getLsbD_ofNat, Nat.testBit_two_pow_self]
  simp [he]

theorem sendPending_vectors (s : State) (m : Mbx) (e : Fin 9) : ((sendPending s m e).box m).vectors = (s.box m).vectors := by
  unfold sendPending
  split
  · extract_lets s₁
    have h₁ : (s₁.box m).vectors = (s.box m).vectors := by
      unfold s₁
      rw [State.modBox_same]
      rfl
    split
    · rw [State.irq_vectors, h₁]
    · exact h₁
  · rfl

theorem sendPending_closed {s : State} {m : Mbx} {e : Fin 9} (h : (s.box m).vectorOpen e.val = false) : sendPending s m e = s :=
  if_neg (by simp [h])

theorem sendPending_open {s : State} {m : Mbx} {e : Fin 9} (h : (s.box m).vectorOpen e.val = true) : ((sendPending s m e).box m).msixPba.getLsbD e.val = false := by
  unfold sendPending
  split
  · extract_lets s₁
    have h₁ : s₁.box m = { s.box m with msixPba := (s.box m).msixPba &&& ~~~ BitVec.ofNat 64 (2 ^ e.val) } := State.modBox_same ..
    have hclear : (s₁.box m).msixPba.getLsbD e.val = false := by
      rw [h₁]
      exact pba_cleared _ _ (by omega)
    split
    · next h0 =>
      have hopen : (s₁.box m).vectorOpen 0 = true := by
        rw [Mailbox.vectorOpen_congr (b := s.box m) (by rw [h₁]; rfl)]
        simpa [h0] using h
      rw [State.irq_pba hopen, hclear]
    · exact hclear
  · next hp =>
    simpa [h] using hp

theorem foldl_sendPending_vectors (l : List (Fin 9)) (s : State) (m : Mbx) : ((l.foldl (fun s e => sendPending s m e) s).box m).vectors = (s.box m).vectors := by
  induction l generalizing s with
  | nil => rfl
  | cons e l ih => rw [List.foldl_cons, ih, sendPending_vectors]

theorem registerWrite_pciMsix_eq {s : State} {f : Fin 16} {m : Mbx} (hm : f.castLE (by decide) = m) (part : RegPart) (v : U64) : registerWrite (.pciMsix f) part v s =
    (List.finRange 9).foldl (fun s e => sendPending s m e) (s.modBox m (fun b => { b with msixEnable := v.getLsbD 15, msixMask := v.getLsbD 14 })) := by
  subst hm
  rfl

theorem registerWrite_pciMsix (s : State) (f : Fin 16) (part : RegPart) (v : U64) :
    ((registerWrite (.pciMsix f) part v s).box (f.castLE (by decide))).msixEnable = v.getLsbD 15 ∧ ((registerWrite (.pciMsix f) part v s).box (f.castLE (by decide))).msixMask = v.getLsbD 14 := by
  generalize hm : (f.castLE (by decide) : Mbx) = m
  rw [registerWrite_pciMsix_eq hm]
  have hvec := foldl_sendPending_vectors (List.finRange 9) (s.modBox m (fun b => { b with msixEnable := v.getLsbD 15, msixMask := v.getLsbD 14 })) m
  rw [State.modBox_same, Mailbox.vectors, Mailbox.vectors, Prod.mk.injEq, Prod.mk.injEq] at hvec
  exact hvec.2

/-- A vector's word, its lane `d` written. -/
def laneWritten (old : U128) (d : Nat) (v : U64) : U128 := (old &&& ~~~ (0xFFFFFFFF#128 <<< (32 * d))) ||| ((v.truncate 32).zeroExtend 128 <<< (32 * d))

theorem registerWrite_msixEntry {s : State} {m : Mbx} {e : Fin 9} (d : Fin 4) (part : RegPart) (v : U64) (hm : m ≠ 16) (hh : (s.box m).halted = false) (hme : m = 0 ∨ e = 0) :
    registerWrite (.msixEntry m e d) part v s =
      sendPending (s.modBox m (fun b => { b with msix := tput b.msix e.val (laneWritten ((tget (s.box m).msix e.val).getD (BitVec.ofNat 128 (2 ^ 96))) d.val v) })) m e := by
  refine if_neg ?_
  rintro (h | h | ⟨h1, h2⟩)
  · exact hm h
  · simp [hh] at h
  · exact hme.elim h1 h2

/-- Settles O50: each command's and each register's case; a reset of a function by what ending its sessions leaves. -/
theorem dmaActs : Obligations.DmaActs := by
  unfold Obligations.DmaActs
  refine ⟨fun s c => ⟨?_, ?_, ?_, ?_, ?_, ?_, ?_, ?_, ?_, ?_, ?_, ?_, ?_, ?_, ?_, ?_⟩, fun s part v => ⟨?_, ?_, ?_, ?_, ?_, ?_, ?_, ?_, ?_, ?_⟩⟩
  · rintro (h | h | h | h) <;> exact next_congr (by simp only [dmaStart, h])
  · rintro (h | h) <;> exact next_congr (by simp only [dmaResume, h])
  · rintro (h | h) <;> exact next_congr (by simp only [dmaResume, h])
  · rintro (h | h) <;> exact ⟨next_congr (by simp only [dmaStart, h]), next_congr (by simp only [dmaResume, h])⟩
  · intro hi ho hs
    exact ⟨_, rfl, dmaStart_runs hi ho hs⟩
  · intro h
    exact next_congr (by simp only [dmaStop, h])
  · intro h
    exact next_congr (by simp only [dmaStop, h])
  · intro h
    exact next_congr (if_pos h)
  · intro link h ht
    exact next_congr (by simp only [dmaAppend, h, ht])
  · intro d h ha hd hl
    exact next_congr (by simp [dmaAppend, h, ha, hd, hl])
  · rintro (h | h | h) <;> exact next_congr (by simp only [dmaAppend, h])
  · intro bits
    rfl
  · obtain ⟨hd, hm, -⟩ := s.halt_sameDma 0 5
    obtain ⟨hd', hm', hv'⟩ := haltVfs_leaves (s.halt 0 5)
    obtain ⟨⟨hd'', hm'', hv''⟩, hbus⟩ := functionOff_leaves 0 (haltVfs (s.halt 0 5))
    obtain ⟨hmf, hplf⟩ := foldl_modDma_leaves ((List.finRange 16).filter (fun c => decide (c.val < 8))) (fun _ _ => {}) (functionOff 0 (haltVfs (s.halt 0 5)))
    obtain ⟨hfd, hfm, hfv⟩ := (functionReset 0 s).fin_sameDma
    have hdma : (functionOff 0 (haltVfs (s.halt 0 5))).dma = s.dma := hd''.trans (hd'.trans hd)
    have hof (k : Fin 16) : (functionReset 0 s).fin.dmaOf k = if k ∈ (List.finRange 16).filter (fun c => decide (c.val < 8)) then {} else s.dmaOf k := by
      rw [show (functionReset 0 s).fin.dmaOf k = (functionReset 0 s).dmaOf k from congrArg (·.get k) hfd, functionReset_of_physical, State.foldl_reset_dmaOf,
        show (functionOff 0 (haltVfs (s.halt 0 5))).dmaOf k = s.dmaOf k from congrArg (·.get k) hdma]
    refine ⟨_, rfl, fun k hk => ?_, fun k hk => ?_, ?_, ?_, ?_⟩
    · rw [hof, if_pos (by simp [hk])]
    · rw [hof, if_neg (by simp [hk])]
    · rw [hfm, functionReset_of_physical, hmf, hm'', hm', hm]
    · rw [State.fin_busMaster, functionReset_of_physical, hplf, hbus]
    · rw [hfv, functionReset_of_physical, hplf, hv'', hv']
  · intro f hf
    obtain ⟨hd, hm, hv⟩ := s.halt_sameDma (f.castLE (by decide)) 5
    obtain ⟨⟨hd', hm', hv'⟩, hbus⟩ := functionOff_leaves f (s.halt (f.castLE (by decide)) 5)
    obtain ⟨hfd, hfm, hfv⟩ := (functionReset f s).fin_sameDma
    rw [functionReset_of_virtual hf] at hfd hfm hfv
    refine ⟨_, rfl, ?_⟩
    rw [functionReset_of_virtual hf, State.fin_busMaster]
    exact ⟨hfd.trans (hd'.trans hd), hfm.trans (hm'.trans hm), hbus, hfv.trans (hv'.trans hv)⟩
  · intro hv
    exact ⟨_, rfl, vfCleared_leaves hv⟩
  · intro f
    rfl
  · intro m hm he hq hh
    refine ⟨?_, ?_, ?_⟩ <;> exact next_congr (by simp [registerWrite, hm, he, hq, hh])
  · rintro m (h | h | h) <;> refine ⟨?_, ?_, ?_⟩ <;> exact next_congr (by simp [registerWrite, h])
  · intro m e d hm hh hme
    have hw := registerWrite_msixEntry d part v hm hh hme
    generalize hold : (tget (s.box m).msix e.val).getD (BitVec.ofNat 128 (2 ^ 96)) = old at hw ⊢
    generalize hu : s.modBox m (fun b => { b with msix := tput b.msix e.val (laneWritten old d.val v) }) = u at hw
    have hbox : u.box m = { s.box m with msix := tput (s.box m).msix e.val (laneWritten old d.val v) } := by rw [← hu, State.modBox_same]
    have hvec := sendPending_vectors u m e
    have hmsix : tget ((sendPending u m e).box m).msix e.val = some (laneWritten old d.val v) := by
      rw [show ((sendPending u m e).box m).msix = (u.box m).msix from congrArg (·.1) hvec, hbox]
      exact tget_tput ..
    refine ⟨_, next_congr hw, _, hmsix, lane_written old v d, fun k hk => lane_kept old v hk, fun hc => ?_, fun ho => ?_⟩
    · rw [Mailbox.vectorOpen_congr hvec] at hc
      rw [sendPending_closed hc, hbox]
    · rw [Mailbox.vectorOpen_congr hvec] at ho
      exact sendPending_open ho
  · intro f
    exact ⟨_, rfl, registerWrite_pciMsix s f part v⟩
  · intro f
    rfl
  · intro hv
    exact next_congr (if_pos hv)
  · intro hv
    exact next_congr (if_neg (by simp only [hv, Bool.false_eq_true, not_false_eq_true]))
  · intro c h1 h2
    refine ⟨?_, ?_, ?_, ?_, ?_⟩ <;> exact next_congr (by simp [registerWrite, h1, h2])
  · intro c
    rfl
  · exact ⟨rfl, rfl⟩

end Sys2Proof.Machine

end

section
/-! O53: the Keystone and image commands, and what Keystone and the images do of themselves. -/

namespace Sys2Proof.Machine
open Sys2Proof

/-! ### Parking the journal leaves the slot to boot and the power state (13 R343, 17 R449, 18 R462) -/

/-- The slot to boot and the power state. -/
def State.spared (s : State) : Bool × Power := (s.keep.bootB, s.pwr)

theorem State.spared_of {s t : State} (hb : t.keep.settled = s.keep.settled) (hp : t.pwr = s.pwr) : t.spared = s.spared :=
  Prod.ext (congrArg Settled.bootB hb) hp

theorem State.modKeep_spared {s : State} {f : Keep → Keep} (h : (f s.keep).bootB = s.keep.bootB) : (s.modKeep f).spared = s.spared := Prod.ext h rfl

theorem State.closeGroup_pwr (s : State) : s.closeGroup.pwr = s.pwr := by
  unfold State.closeGroup
  split <;> simp

@[simp] theorem State.journal_pwr (s : State) (e : JEntry) : (s.journal e).pwr = s.pwr := by
  unfold State.journal
  split
  · exact s.closeGroup_pwr
  · rfl

@[simp] theorem State.faultEvent_pwr (s : State) (f : FaultRec) : (s.faultEvent f).pwr = s.pwr := rfl

theorem State.writeFault_pwr (s : State) (f : FaultRec) : (s.writeFault f).pwr = s.pwr := by
  unfold State.writeFault
  dsimp only
  (repeat' split) <;> simp -implicitDefEqProofs

theorem State.finish_spared (s : State) (m : Mbx) (seq : Nat) (r : Rep) : (s.finish m seq r).spared = s.spared := by
  refine State.spared_of (congrArg Keep.settled (s.finish_keep m seq r)) ?_
  unfold State.finish
  split
  · exact s.complete_pwr ..
  · rfl

theorem State.applyEntry_spared (s : State) (gseq : Nat) (e : JEntry) : (s.applyEntry gseq e).spared = s.spared := by
  unfold State.applyEntry
  split
  case h_5 | h_8 => rfl
  case h_6 => split <;> rfl
  case h_9 =>
    unfold State.numberWaiting
    exact (foldl_proj State.spared (fun s f => State.spared_of (s.writeFault_settled f) (s.writeFault_pwr f)) _ _).trans rfl
  all_goals exact State.modKeep_spared rfl

theorem State.commitGroup_spared (s : State) (g : JGroup) : (s.commitGroup g).spared = s.spared := by
  unfold State.commitGroup
  refine (foldl_proj State.spared (fun s e => ?_) _ _).trans rfl
  dsimp only
  split
  · rw [State.finish_spared, State.applyEntry_spared]
  · exact s.applyEntry_spared _ e

theorem State.commitReady_spared (s : State) (n : Nat) : (s.commitReady n).spared = s.spared := by
  induction n generalizing s with
  | zero => rfl
  | succ n ih =>
    unfold State.commitReady
    split
    · split
      · rw [ih, State.commitGroup_spared]
        rfl
      · rfl
    · rfl

theorem State.commitAll_spared (s : State) : s.commitAll.spared = s.spared := by
  unfold State.commitAll
  rw [State.commitReady_spared]
  exact State.spared_of s.closeGroup_settled s.closeGroup_pwr

theorem State.parkJournal_spared (s : State) (byFlush : Bool) : (s.parkJournal byFlush).spared = s.spared := by
  unfold State.parkJournal
  split
  · have hflush (u : State) : (u.modKeep (fun k => { k with flushPark := byFlush })).spared = u.spared := rfl
    have hpark (u : State) : (u.journal { kind := .park }).spared = u.spared := State.spared_of (u.journal_settled _) (u.journal_pwr _)
    rw [hflush, State.commitAll_spared, hpark, State.commitAll_spared, State.commitAll_spared]
  · rfl

/-- An activation that is due resets the device into the named slot. -/
theorem activationReset_boots {s : State} {t : Nat} (h : s.keep.activateAt = some t) :
    (activationReset s).keep.bootB = s.keep.bootB ∧ (activationReset s).keep.activateAt = none ∧ (activationReset s).boot.stage = .keystone ∧
    (activationReset s).boot.cause = 4 ∧ (activationReset s).mem.dram = [] ∧ (activationReset s).model = State.reset.model := by
  unfold activationReset
  split
  · next hn => exact absurd (hn.symm.trans h) (by simp)
  · extract_lets s₁ s₂ b s₃
    have hb : b = s.keep.bootB := by
      have h₁ : s₁.keep.bootB = s.keep.bootB := by
        unfold s₁
        rw [State.fin_keep]
        exact congrArg Prod.fst (s.parkJournal_spared false)
      unfold b s₂
      split
      · exact h₁
      · exact h₁
    obtain ⟨hstage, hcause, hdram, -, hmodel, -, hact⟩ := State.deviceReset_beside s₂ 4 6 none
    unfold s₃
    rw [State.fin_keep, State.fin_boot, State.fin_mem, State.fin_model]
    clear_value b s₂
    generalize s₂.deviceReset 4 6 = u at *
    exact ⟨hb, hact, hstage, hcause, hdram, hmodel⟩

/-! ### The images' slots (18 R460 to R462) -/

theorem Keep.image_setImage (k : Keep) (b : Bool) (x : ImageSlot) : (k.setImage b x).image b = x := by
  cases b <;> rfl

theorem Keep.image_setImage_other (k : Keep) (b : Bool) (x : ImageSlot) : (k.setImage b x).image (!b) = k.image (!b) := by
  cases b <;> rfl

theorem Keep.image_setImage_not (k : Keep) (b : Bool) (x : ImageSlot) : (k.setImage (!b) x).image b = k.image b := by
  cases b <;> rfl

theorem Keep.bootB_setImage (k : Keep) (b : Bool) (x : ImageSlot) : (k.setImage b x).bootB = k.bootB := by
  cases b <;> rfl

theorem Keep.imageFor_setImage (k : Keep) (b : Bool) (x : ImageSlot) : (k.setImage b x).imageFor = k.imageFor := by
  cases b <;> rfl

/-- A committed trial: the slot that runs is COMMITTED, its floor fused, and the other is given up where it lies below the floor. -/
theorem commitTrial_commits {s : State} {svn : Nat} (h : svn = max s.keep.fusedSvn (s.keep.image s.keep.runB).svn) :
    ((commitTrial s).keep.image s.keep.runB).state = .committed ∧ (commitTrial s).keep.fusedSvn = svn ∧ (commitTrial s).keep.commitS = none ∧ (commitTrial s).keep.lastOutcome = 2 ∧
    ((commitTrial s).keep.image (!s.keep.runB)).state =
      (if (s.keep.image (!s.keep.runB)).state = .committed ∧ (s.keep.image (!s.keep.runB)).svn < svn then .rejected else (s.keep.image (!s.keep.runB)).state) ∧
    (commitTrial s).keep.bootB = s.keep.bootB := by
  subst h
  unfold commitTrial
  extract_lets b x y svn
  refine ⟨?_, rfl, rfl, rfl, ?_, ?_⟩
  · exact congrArg ImageSlot.state ((Keep.image_setImage_not _ b _).trans (Keep.image_setImage _ b _))
  · refine (congrArg ImageSlot.state (Keep.image_setImage _ (!b) _)).trans ?_
    rw [apply_ite ImageSlot.state]
  · exact (Keep.bootB_setImage ..).trans (Keep.bootB_setImage ..)

/-- An image that is written whole is staged in its slot. -/
theorem imageWritten_stages {s : State} {m : Mbx} {n : Nat} {b : Bool} {x : PierImage} (h : s.keep.imageFor = some (m, n, b, x)) :
    ∃ t : State, imageWritten true s = (t.finish m n Rep.ok).fin ∧
      t.keep.imageFor = none ∧ (t.keep.image b).state = .staged ∧ (t.keep.image b).svn = x.fwSvn ∧ (t.keep.image b).release = x.fwRelease ∧ t.keep.image (!b) = s.keep.image (!b) := by
  unfold imageWritten
  rw [h]
  dsimp -zeta only
  extract_lets s₁ stagedS up s₂
  refine ⟨s₂, rfl, ?_⟩
  have hslot : s₂.keep.image b = {
      state := .staged, svn := x.fwSvn.toNat, release := x.fwRelease, pledomMax := x.pledomMax.toNat, trussMax := x.trussMax.toNat, schemaMax := x.schemaMax.toNat, formatMax := x.formatMax.toNat, stagedS := stagedS } := Keep.image_setImage _ b _
  exact ⟨Keep.imageFor_setImage .., by rw [hslot], by simp [hslot], by rw [hslot], Keep.image_setImage_other _ b _⟩

/-- An image whose write fails leaves its slot as it was or empty, and the other slot. -/
theorem imageWritten_fails {s : State} {m : Mbx} {n : Nat} {b : Bool} {x : PierImage} (h : s.keep.imageFor = some (m, n, b, x)) :
    ∃ t : State, imageWritten false s = (t.finish m n (Rep.fail St.storeFault)).fin ∧
      t.keep.imageFor = none ∧ (t.keep.image b = s.keep.image b ∨ t.keep.image b = {}) ∧ t.keep.image (!b) = s.keep.image (!b) := by
  unfold imageWritten
  rw [h]
  dsimp -zeta only
  extract_lets s₁ _ _ s₂
  refine ⟨s₂, rfl, ?_⟩
  unfold s₂
  rw [if_neg (by simp)]
  split
  · exact ⟨Keep.imageFor_setImage .., .inr (Keep.image_setImage _ b _), Keep.image_setImage_other _ b _⟩
  · exact ⟨rfl, .inl rfl, rfl⟩

/-! ### What Keystone does of itself (16 R413 to R428, 17 R452) -/

theorem ruleOverlay_places {s : State} {y n : Nat} {l : Layout} {r : PolicyRule} {g : Region} (hl : tget s.pic.layouts y = some l) (ha : l.awaiting = false) (hb : l.basted = none)
    (hw : s.winner l.conf = some (n, r)) (hp : (s.ks.policy.overlays[r.overlay.toNat]?).bind (placeOverlay l r) = some g) (hn : tget l.regions 3 ≠ some g) :
    ruleOverlay y s = ((s.modLayout y (fun l => { l with regions := tput l.regions 3 g, noFit := false })).ksEvent 2 n l.conf 0 l.next).fin := by
  simp [ruleOverlay, hl, ha, hb, hw, hp, hn]

theorem ruleOverlay_unfit {s : State} {y n : Nat} {l : Layout} {r : PolicyRule} (hl : tget s.pic.layouts y = some l) (ha : l.awaiting = false) (hb : l.basted = none)
    (hw : s.winner l.conf = some (n, r)) (hp : (s.ks.policy.overlays[r.overlay.toNat]?).bind (placeOverlay l r) = none) (hn : tget l.regions 3 = none) :
    ruleOverlay y s = (s.modLayout y (fun l => { l with noFit := true, regions := tdel l.regions 3 })).fin := by
  simp [ruleOverlay, hl, ha, hb, hw, hp, hn]

theorem ruleOverlay_removes {s : State} {y : Nat} {l : Layout} {g : Region} (hl : tget s.pic.layouts y = some l) (ha : l.awaiting = false) (hb : l.basted = none)
    (hw : s.winner l.conf = none) (hg : tget l.regions 3 = some g) (hk : g.byKeystone = true) :
    ruleOverlay y s = ((s.modLayout y (fun l => { l with noFit := false, regions := tdel l.regions 3 })).ksEvent 3 0xFF l.conf 0 l.next).fin := by
  simp [ruleOverlay, hl, ha, hb, hw, hg, hk]

theorem avsStep_steps {s : State} {r : Fin 2} {target : Nat} (ht : s.ks.state ≠ .trip) (hp : s.ks.state ≠ .park) (hr : s.pins.resetN = true) (hs : s.ks.avsStuck.get r = false)
    (hne : s.ks.avsMv.get r ≠ target) (hlo : 700 ≤ target) (hhi : target ≤ 850)
    (hdue : ((s.ks.avsAt.get r).all (fun t => decide (t + State.ticksOfUs 10 ≤ s.clk)) || s.ks.avsWait.get r) = true) :
    avsStep r target true s = { s with ks := { s.ks with
      avsMv := s.ks.avsMv.set r (if s.ks.avsMv.get r < target then min target (s.ks.avsMv.get r + 5) else max target (s.ks.avsMv.get r - 5)),
      avsAt := s.ks.avsAt.set r (some s.clk), avsMiss := s.ks.avsMiss.set r 0, avsWait := s.ks.avsWait.set r false } } := by
  have hsoon : ((s.ks.avsAt.get r).any (fun t => decide (s.clk < t + State.ticksOfUs 10))) = true → s.ks.avsWait.get r = true := by
    cases hat : s.ks.avsAt.get r with
    | none => simp
    | some t =>
      intro h
      simp only [hat, Option.all_some, Option.any_some, Bool.or_eq_true, decide_eq_true_eq] at hdue h
      exact hdue.resolve_left (by omega)
  unfold avsStep
  extract_lets k mv soon next wait
  rw [if_neg, if_pos rfl]
  rintro (h | h | h | h | h | h | ⟨h, hw⟩ | ⟨-, h⟩)
  · exact ht h
  · exact hp h
  · simp [hr] at h
  · exact absurd (hs.symm.trans h) (by simp)
  · exact hne h
  · simp [within, hlo, hhi] at h
  · rw [show wait = true from hsoon h] at hw
    exact absurd hw (by simp)
  · exact absurd h (by simp)

theorem State.levelChange_due {s : State} {level : Nat} (hd : s.pwr.levelDue = some level) (h : level ≠ 0 ∨ s.pwr.levelNow = 0) :
    throttleChange level s = ((({ s with pwr := { s.pwr with levelNow := level, levelDue := none } } : State).regate).powerNotice 5 level).fin := by
  have hstay : ¬(s.pwr.levelNow ≠ 0 ∧ level = 0) := fun hc => h.elim (fun hl => hl hc.2) hc.1
  simp [throttleChange, hd, hstay]

theorem any_scaled_le {o : Option Nat} {n c t : Nat} (hs : o = some t) (hc : t * n ≤ c) : o.any (fun t => decide (t * n ≤ c)) = true := by
  rw [hs]
  exact decide_eq_true hc

/-- Settles O53: each command takes its effect and is answered or goes on acting, and each event acts as its hypotheses say. -/
theorem keystoneActs : Obligations.KeystoneActs := by
  unfold Obligations.KeystoneActs
  refine ⟨fun s m c => ?_, fun s => ?_, fun s => ?_⟩
  · refine ⟨fun slot image h => ?_, fun slot force commitS h => ?_, fun force commitS svn h hsvn => ?_, fun force commitS b h hb => ?_, fun h => ?_, fun h => ?_, fun h => ?_,
      fun p hl h => ?_, fun p hl h => ?_, fun t n hc h => ?_, fun first count l hl h => ?_, fun type b hb h => ?_⟩
    · exact next_congr (State.run_acts h rfl rfl)
    · exact next_congr (State.run_of_takes h rfl rfl)
    · exact ⟨commitTrial s, next_congr (State.run_of_takes h rfl rfl), commitTrial_commits hsvn⟩
    · exact next_congr (State.run_of_takes h (by simp [rowKeepActivate, hb, nameImage]) rfl)
    · exact next_congr (State.run_of_takes h rfl rfl)
    · exact next_congr (State.run_of_takes h rfl rfl)
    · exact next_congr (State.run_of_takes h (by simp [rowKsPropose]) rfl)
    · exact next_congr (State.run_of_takes h (by simp [rowKsPropose, hl]) rfl)
    · exact next_congr (State.run_acts h (by simp only [rowKsPropose, if_neg hl]) rfl)
    · exact next_congr (State.run_of_takes h (by simp [rowKsCert, hc]) rfl)
    · exact next_congr (State.run_of_takes h (by rw [hl]; rfl) rfl)
    · exact next_congr (State.run_of_takes h (by rw [hb]; rfl) rfl)
  · refine ⟨fun a ht ha hc => ?_, fun source offset n u hr hn hu => ?_, fun hk hv hrel hrec hseen => ?_, fun y l n r g hl ha hb hw hp hn => ?_, fun y l n r hl ha hb hw hp hn => ?_,
      fun y l g hl ha hb hw hg hk => ?_, fun k q hq hb ho => ?_, fun level hd h => ?_, fun r mV hr hv ht => ?_, fun r mV hr hv ht hth => ?_, fun t ht hc hle => ?_, fun hr => ?_,
      fun r target ht hp hr hs hne hlo hhi hdue => ?_, fun r t n hw hat hle hn => ?_⟩
    · exact next_congr (if_pos ⟨ht, by simp [ha, hc]⟩)
    · subst hn hu
      refine next_congr ?_
      simp [ksWriteReject, hr]
    · refine next_congr (if_pos ⟨hk, hv, by simp [hrel], by simp [hrec], ?_⟩)
      simpa using hseen
    · exact next_congr (ruleOverlay_places hl ha hb hw hp hn)
    · exact next_congr (ruleOverlay_unfit hl ha hb hw hp hn)
    · exact next_congr (ruleOverlay_removes hl ha hb hw hg hk)
    · exact next_congr (by simp [noticeTone, hq, hb, Option.isSome_iff_ne_none.mp ho])
    · exact next_congr (State.levelChange_due hd h)
    · exact next_congr (by simp [supplyTrip, hr, hv, ht])
    · exact next_congr (by simp [supplyTrip, hr, hv, ht, hth])
    · exact next_congr (if_pos ⟨ht, by simp [hc, hle]⟩)
    · exact next_congr (if_neg (by simp [hr]))
    · exact next_congr (avsStep_steps ht hp hr hs hne hlo hhi hdue)
    · subst hn
      exact next_congr (if_neg (by simp [hw, hat, hle]))
  · refine ⟨fun m n p h => ?_, fun m n b x h => ?_, fun m n b x h => ?_, fun t h => ?_, fun ht hr hc => ?_, fun t ht hs hc => ?_⟩
    · exact next_congr (by simp [policyWritten, h])
    · obtain ⟨t, ht, hkeep⟩ := imageWritten_stages h
      exact ⟨t, next_congr ht, hkeep⟩
    · obtain ⟨t, ht, hkeep⟩ := imageWritten_fails h
      exact ⟨t, next_congr ht, hkeep⟩
    · exact ⟨_, rfl, activationReset_boots h⟩
    · exact next_congr (if_pos ⟨ht, by simp [hr], hc⟩)
    · exact next_congr (if_pos ⟨ht, any_scaled_le hs hc⟩)

end Sys2Proof.Machine
end

section
/-! What the power state keeps while blocks, domains, seams and the twin change. -/

namespace Sys2Proof.Machine
open Sys2Proof

/-- The power state and the supply's step, the stop of the media, and the flush of the journal. -/
structure Awake where
  state : PowerState
  waking : Bool
  wake : Option (Nat × Nat)
  asleep : Bool
  wakes : U32
  supply : SupplyStep
  stepAt : Option Nat
  shedGated : List U16
  stopped : Bool
  flushing : Bool

def State.awake (s : State) : Awake :=
  { state := s.pwr.state, waking := s.pwr.waking, wake := s.pwr.wake, asleep := s.pwr.asleep, wakes := s.pwr.wakes, supply := s.pwr.supply, stepAt := s.pwr.stepAt, shedGated := s.pwr.shedGated,
    stopped := s.model.stopped, flushing := s.keep.flushing }

/-- The supply's step and the flush, which an unpicked seam leaves too. -/
def Awake.steps (a : Awake) : SupplyStep × Bool := (a.supply, a.flushing)

theorem State.awake_of {s t : State} (hp : s.pwr = t.pwr) (hm : s.model = t.model) (hk : s.keep = t.keep) : s.awake = t.awake := by
  unfold State.awake
  rw [hp, hm, hk]

@[simp] theorem foldl_awake {α : Type} {f : State → α → State} (h : ∀ (s : State) (a : α), (f s a).awake = s.awake) (l : List α) (s : State) : (l.foldl f s).awake = s.awake :=
  foldl_proj State.awake h l s

theorem State.charging_awake {f : State → State} (h : ∀ s : State, (f s).awake = s.awake) (s : State) (l : Nat) : (s.charging l f).awake = s.awake := h s

@[simp] theorem State.mirror_awake (s : State) (payload : Nat) : (s.mirror payload).awake = s.awake := by
  unfold State.mirror; (repeat' split) <;> rfl

@[simp] theorem State.draw32_awake (s : State) : (s.draw32).2.awake = s.awake := by
  unfold State.draw32
  split
  · rfl
  · exact (State.mirror_awake ..).trans rfl


@[simp] theorem State.setBox_awake (s : State) (m : Mbx) (b : Mailbox) : (s.setBox m b).awake = s.awake := by
  unfold State.setBox; rfl

@[simp] theorem State.modBox_awake (s : State) (m : Mbx) (f : Mailbox → Mailbox) :
    (s.modBox m f).awake = s.awake := by
  unfold State.modBox; rfl

@[simp] theorem State.raise_awake (s : State) (code : Nat) (status : U8) (data : Bytes) :
    (s.raise code status data).awake = s.awake := by
  unfold State.raise; rfl

@[simp] theorem State.raiseTo_awake (s : State) (m : Mbx) (code : Nat) (status : U8) (data : Bytes) :
    (s.raiseTo m code status data).awake = s.awake := by
  unfold State.raiseTo; rfl

@[simp] theorem State.raiseDone_awake (s : State) (m : Mbx) (seq : Nat) (code : Nat) (status : U8) (data : Bytes) :
    (s.raiseDone m seq code status data).awake = s.awake := by
  unfold State.raiseDone; rfl

@[simp] theorem State.sendIrq_awake (s : State) (m : Mbx) : (s.sendIrq m).awake = s.awake := by
  unfold State.sendIrq; rfl

@[simp] theorem State.irq_awake (s : State) (m : Mbx) : (s.irq m).awake = s.awake := by
  unfold State.irq; (repeat' split) <;> simp

@[simp] theorem State.alert_awake (s : State) : (s.alert).awake = s.awake := by
  unfold State.alert; rfl

@[simp] theorem State.putBox_awake (s : State) (m : Mbx) (b : Mailbox) : (s.putBox m b).awake = s.awake := by
  unfold State.putBox; dsimp only; (repeat' split) <;> simp

@[simp] theorem State.fin_awake (s : State) : (s.fin).awake = s.awake := State.awake_of s.fin_pwr s.fin_model s.fin_keep


@[simp] theorem State.complete_awake (s : State) (m : Mbx) (c : Cmd) (r : Rep) : (s.complete m c r).awake = s.awake := State.awake_of (s.complete_pwr ..) (s.complete_model ..) (s.complete_keep ..)


@[simp] theorem State.finish_awake (s : State) (m : Mbx) (seq : Nat) (r : Rep) :
    (s.finish m seq r).awake = s.awake := by
  unfold State.finish; split <;> simp

@[simp] theorem State.setReadiness_awake (s : State) (w : U16) : (s.setReadiness w).awake = s.awake := by
  unfold State.setReadiness; (repeat' split) <;> rfl

@[simp] theorem State.readyBit_awake (s : State) (k : Nat) (on : Bool) :
    (s.readyBit k on).awake = s.awake := by
  unfold State.readyBit; split <;> simp

@[simp] theorem State.modKeep_awake {s : State} {f : Keep → Keep} (h : (f s.keep).flushing = s.keep.flushing) : (s.modKeep f).awake = s.awake := by
  unfold State.modKeep State.awake
  rw [← h]


@[simp] theorem State.closeGroup_awake (s : State) : (s.closeGroup).awake = s.awake := by
  unfold State.closeGroup; split <;> simp

@[simp] theorem State.journal_awake (s : State) (e : JEntry) : (s.journal e).awake = s.awake := by
  unfold State.journal; split <;> simp

@[simp] theorem State.faultEvent_awake (s : State) (f : FaultRec) : (s.faultEvent f).awake = s.awake := by
  unfold State.faultEvent; rfl

@[simp] theorem State.writeFault_awake (s : State) (f : FaultRec) : (s.writeFault f).awake = s.awake := by
  unfold State.writeFault; dsimp only; (repeat' split) <;> simp -implicitDefEqProofs

@[simp] theorem State.faultRec_awake (s : State) (location : U16) (level : Nat) (cause : Nat) (action : Nat) (seamId : U16) (seams : Nat) (detail : U32) :
    (s.faultRec location level cause action seamId seams detail).awake = s.awake := by
  unfold State.faultRec; simp

@[simp] theorem State.legEvent_awake (s : State) (leg : Nat) (conf : Nat) (new : Nat) (old : Nat) (cause : Nat) :
    (s.legEvent leg conf new old cause).awake = s.awake := by
  unfold State.legEvent; rfl

@[simp] theorem State.modLeg_awake (s : State) (l : Nat) (f : Leg → Leg) :
    (s.modLeg l f).awake = s.awake := by
  unfold State.modLeg; rfl

@[simp] theorem State.modNet_awake (s : State) (f : Net → Net) : (s.modNet f).awake = s.awake := by
  unfold State.modNet; rfl

@[simp] theorem State.modPort_awake (s : State) (p : Fin 2) (f : Port → Port) :
    (s.modPort p f).awake = s.awake := by
  unfold State.modPort; rfl

@[simp] theorem State.modIface_awake (s : State) (i : Nat) (f : Iface → Iface) :
    (s.modIface i f).awake = s.awake := by
  unfold State.modIface; rfl

@[simp] theorem State.modAcc_awake (s : State) (p : Fin 2) (f : AccPort → AccPort) :
    (s.modAcc p f).awake = s.awake := by
  unfold State.modAcc; rfl

@[simp] theorem State.linkEvent_awake (s : State) (i : Nat) : (s.linkEvent i).awake = s.awake := by
  unfold State.linkEvent; rfl

@[simp] theorem State.modLegQ_awake (s : State) (l : Nat) (f : LegQ → LegQ) :
    (s.modLegQ l f).awake = s.awake := by
  unfold State.modLegQ; rfl

@[simp] theorem State.pushFifo_awake (s : State) (i : Nat) (k : Fin 8) (f : QFrame) :
    (s.pushFifo i k f).awake = s.awake := by
  unfold State.pushFifo; dsimp only; (repeat' split) <;> simp

@[simp] theorem State.tagHead_awake (s : State) (i : Nat) (l : Nat) : (s.tagHead i l).awake = s.awake := by
  unfold State.tagHead; (repeat' split) <;> simp

@[simp] theorem State.pushLeg_awake (s : State) (l : Nat) (f : QFrame) : (s.pushLeg l f).awake = s.awake := by
  unfold State.pushLeg; (repeat' split) <;> simp

@[simp] theorem State.enqueue_awake (s : State) (t : TxFrame) (ident : Option U16) (dst : Option (BitVec 48)) :
    (s.enqueue t ident dst).awake = s.awake := by
  unfold State.enqueue; split <;> simp

@[simp] theorem State.emptyQueue_awake (s : State) (l : Nat) : (s.emptyQueue l).awake = s.awake := by
  unfold State.emptyQueue; rfl

@[simp] theorem State.modCip_awake (s : State) (f : Cipher → Cipher) : (s.modCip f).awake = s.awake := by
  unfold State.modCip; rfl

@[simp] theorem State.modSlot_awake (s : State) (n : Nat) (f : KeySlot → KeySlot) :
    (s.modSlot n f).awake = s.awake := by
  unfold State.modSlot; rfl

@[simp] theorem State.countCipher_awake (s : State) (leg : Option Nat) (k : Fin 8) (n : Nat) :
    (s.countCipher leg k n).awake = s.awake := by
  unfold State.countCipher; rfl

@[simp] theorem State.modRekey_awake (s : State) (l : Nat) (f : Rekey → Rekey) :
    (s.modRekey l f).awake = s.awake := by
  unfold State.modRekey; rfl

@[simp] theorem State.keyEvent_awake (s : State) (kind : Nat) (n : Nat) :
    (s.keyEvent kind n).awake = s.awake := by
  unfold State.keyEvent; rfl

@[simp] theorem State.emptyLeg_awake (s : State) (l : Nat) : (s.emptyLeg l).awake = s.awake := by
  unfold State.emptyLeg; rfl

@[simp] theorem State.pkAsk_awake (s : State) (l : Nat) : (s.pkAsk l).awake = s.awake := by
  unfold State.pkAsk; rfl

@[simp] theorem State.startRekey_awake (s : State) (l : Nat) : (s.startRekey l).awake = s.awake := by
  unfold State.startRekey; (repeat' split) <;> simp

@[simp] theorem State.spentNow_awake (s : State) (l : Nat) : (s.spentNow l).awake = s.awake := by
  unfold State.spentNow; rfl

@[simp] theorem State.checkUse_awake (s : State) (n : Nat) : (s.checkUse n).awake = s.awake := by
  unfold State.checkUse; dsimp only; (repeat' split) <;> simp

@[simp] theorem State.touch_awake (s : State) (n : Nat) : (s.touch n).awake = s.awake := by
  unfold State.touch; rfl

@[simp] theorem State.cipherRun_awake (s : State) (j : CipherJob) : (s.cipherRun j).1.awake = s.awake := by
  unfold State.cipherRun; dsimp only; (repeat' split) <;> simp

@[simp] theorem State.cipher_awake (s : State) (j : CipherJob) : (s.cipher j).1.awake = s.awake := by
  unfold State.cipher; dsimp only; (repeat' split) <;> simp

@[simp] theorem State.answerRekey_awake (s : State) (l kind : Nat) : (s.answerRekey l kind).awake = s.awake := by
  unfold State.answerRekey
  simp only [State.modRekey_awake]
  rw [foldl_awake (fun s w => State.raiseDone_awake ..), foldl_awake (fun s m => by split <;> simp)]


@[simp] theorem State.modSnd_awake (s : State) (f : Sound → Sound) : (s.modSnd f).awake = s.awake := by
  unfold State.modSnd; rfl

@[simp] theorem State.modLegSnd_awake (s : State) (l : Nat) (f : LegSound → LegSound) :
    (s.modLegSnd l f).awake = s.awake := by
  unfold State.modLegSnd; rfl

@[simp] theorem State.modMix_awake (s : State) (x : Nat) (f : Mix → Mix) :
    (s.modMix x f).awake = s.awake := by
  unfold State.modMix; rfl

@[simp] theorem State.sendPacket_awake (s : State) (l : Nat) (kind : Nat) (level : Option (Fin 8)) (packet : Nat) (ssrc : U32) (seq : U16) :
    (s.sendPacket l kind level packet ssrc seq).awake = s.awake := by
  unfold State.sendPacket; dsimp only; (repeat' split) <;> simp

@[simp] theorem State.withPending_awake (s : State) (i : Instr) : (s.withPending i).awake = s.awake := by
  unfold State.withPending; rfl

@[simp] theorem State.modPic_awake (s : State) (f : Picture → Picture) : (s.modPic f).awake = s.awake := by
  unfold State.modPic; rfl

@[simp] theorem State.modDec_awake (s : State) (k : Nat) (f : DecCtx → DecCtx) :
    (s.modDec k f).awake = s.awake := by
  unfold State.modDec; rfl

@[simp] theorem State.modEnc_awake (s : State) (k : Nat) (f : EncCtx → EncCtx) :
    (s.modEnc k f).awake = s.awake := by
  unfold State.modEnc; rfl

@[simp] theorem State.decLess_awake (s : State) (source : Nat) : (s.decLess source).awake = s.awake := by
  unfold State.decLess; split <;> simp

@[simp] theorem State.decUnplace_awake (s : State) (y : Nat) (t : Nat) :
    (s.decUnplace y t).awake = s.awake := by
  unfold State.decUnplace; rfl

@[simp] theorem State.sendKey_awake (s : State) (source : Nat) (fir : Bool) (pli : Bool) :
    (s.sendKey source fir pli).awake = s.awake := by
  unfold State.sendKey; dsimp only; (repeat' split) <;> simp

@[simp] theorem State.askKey_awake (s : State) (source : Nat) (fir : Bool) (pli : Bool) :
    (s.askKey source fir pli).awake = s.awake := by
  unfold State.askKey; dsimp only; (repeat' split) <;> simp

@[simp] theorem State.wantKey_awake (s : State) (ctx : Nat) (m : Nat) (receiver : Bool) :
    (s.wantKey ctx m receiver).awake = s.awake := by
  unfold State.wantKey; rfl

@[simp] theorem State.switchEvent_awake (s : State) (e : Nat) (f : FwdEntry) (state : Nat) (media : Option Nat) :
    (s.switchEvent e f state media).awake = s.awake := by
  unfold State.switchEvent; rfl

@[simp] theorem State.dropLayout_awake (s : State) (y : Nat) : (s.dropLayout y).awake = s.awake := by
  unfold State.dropLayout
  refine (State.modPic_awake ..).trans (foldl_awake (fun s t => ?_) _ _)
  split
  · exact s.decUnplace_awake y t
  · rfl


@[simp] theorem State.dropEntries_awake (s : State) (fuel : Nat) (es : List Nat) : (s.dropEntries fuel es).awake = s.awake := by
  induction fuel generalizing s es with
  | zero => cases es <;> rfl
  | succ fuel ih =>
    cases es with
    | nil => rfl
    | cons e es =>
      unfold State.dropEntries
      refine foldl_awake (fun s e => ?_) _ s
      dsimp only
      (repeat' split)
      · rfl
      · next f _ _ y _ _ => exact (ih _ _).trans ((State.dropLayout_awake ..).trans (State.switchEvent_awake s e { f with cur := none } 0xFF none))
      · next f _ _ _ => exact State.switchEvent_awake s e { f with cur := none } 0xFF none


@[simp] theorem State.feedCharge_awake (s : State) (f : Nat) (q : FeedReq) :
    (s.feedCharge f q).awake = s.awake := by
  unfold State.feedCharge; (repeat' split) <;> simp

@[simp] theorem State.modFwd_awake (s : State) (f : Fwd → Fwd) : (s.modFwd f).awake = s.awake := by
  unfold State.modFwd; rfl

@[simp] theorem State.dropSources_awake (s : State) (l : Nat) : (s.dropSources l).awake = s.awake := by
  unfold State.dropSources; rfl

@[simp] theorem State.dropSound_awake (s : State) (l : Nat) : (s.dropSound l).awake = s.awake := by
  unfold State.dropSound; rfl

@[simp] theorem State.dropLeg_awake (s : State) (l : Nat) : (s.dropLeg l).awake = s.awake := by
  unfold State.dropLeg
  extract_lets es s₁ s₂ s₃ s₄ s₅ _
  have h₁ : s₁.awake = s.awake := by
    unfold s₁
    split
    · rfl
    · exact s.answerRekey_awake l 5
  have h₅ : s₅.awake = s₁.awake := by
    unfold s₅ s₄ s₃ s₂
    simp
  clear_value s₅
  exact Eq.trans rfl (h₅.trans h₁)


@[simp] theorem State.holdLeg_awake (s : State) (l : Nat) : (s.holdLeg l).awake = s.awake := by
  unfold State.holdLeg; rfl

@[simp] theorem State.seamDone_awake (s : State) (k : Seam) : (s.seamDone k).awake = s.awake := by
  unfold State.seamDone; (repeat' split) <;> simp

@[simp] theorem State.patternDone_awake (s : State) (issuer : Option (Mbx × Nat)) (st : U8) (op : Nat) (gen : Nat) (seam : Nat) (island : Nat) (count : Nat) :
    (s.patternDone issuer st op gen seam island count).awake = s.awake := by
  unfold State.patternDone; (repeat' split) <;> simp

@[simp] theorem State.powerEvent_awake (s : State) (m : Mbx) (seq : Nat) (op : Nat) (st : U8) (cause : Nat) (island : U16) (gated : Nat) :
    (s.powerEvent m seq op st cause island gated).awake = s.awake := by
  unfold State.powerEvent; rfl

@[simp] theorem State.deferredEvent_awake (s : State) (m : Mbx) (st : U8) :
    (s.deferredEvent m st).awake = s.awake := by
  unfold State.deferredEvent; rfl

@[simp] theorem State.powerEvents_awake (s : State) (q : PwrReq) (st : U8) (cause : Nat) (island : U16) (gated : Nat) :
    (s.powerEvents q st cause island gated).awake = s.awake := by
  unfold State.powerEvents; split <;> simp

theorem State.powerUnpicked_stays (s : State) (k : Seam) : (s.powerUnpicked k).awake.steps = s.awake.steps := by
  unfold State.powerUnpicked
  split
  · rfl
  · next q _ _ =>
    extract_lets cause isl quiet _ s₁ _ _ s₂ s₃ s₄ _
    have h₂ : s₂.awake.steps = s.awake.steps := by
      unfold s₂
      split <;> rfl
    have h₃ : s₃.awake = s₂.awake := by
      unfold s₃
      split
      · rfl
      · exact s₂.powerEvents_awake ..
    have h₄ : s₄.awake = s₃.awake := by
      unfold s₄
      split
      · rfl
      · exact foldl_awake (fun s p => foldl_awake (fun s v => State.deferredEvent_awake ..) _ _) _ _
    clear_value s₄
    exact Eq.trans rfl ((congrArg Awake.steps (h₄.trans h₃)).trans h₂)


@[simp] theorem State.patternUnpicked_awake (s : State) (k : Seam) : (s.patternUnpicked k).awake = s.awake := by
  unfold State.patternUnpicked
  split
  · rfl
  · next c _ =>
    show (if k.reason = 6 then s else s.patternDone c.issuer St.seamUnpicked c.opcode s.patt.running k.id.toNat k.island.toNat 0).awake = s.awake
    split
    · rfl
    · exact State.patternDone_awake ..


@[simp] theorem State.freeCmd_awake (s : State) (i : Instr) : (s.freeCmd i).awake = s.awake := by
  unfold State.freeCmd
  split
  · exact State.charging_awake (fun s => State.modLeg_awake ..) ..
  · rfl
  · exact State.charging_awake (fun s => State.modLegSnd_awake ..) ..
  · exact State.modLeg_awake ..
  · exact State.decUnplace_awake ..
  · (repeat' split)
    · exact State.feedCharge_awake ..
    · rfl
    · rfl
  · rfl


@[simp] theorem State.releaseBasted_awake (s : State) (k : Seam) : (s.releaseBasted k).awake = s.awake := by
  unfold State.releaseBasted
  extract_lets mine s₁ s₂ s₃ fs s₄ s₅ s₆ cs _ _ _
  have h₁ : s₁.awake = s.awake := foldl_awake (fun s c => State.freeCmd_awake ..) _ _
  have h₃ : s₃.awake = s₁.awake := (foldl_awake (fun s y => State.dropLayout_awake ..) _ _).trans (s₁.modFwd_awake _)
  have h₅ : s₅.awake = s₃.awake := by
    refine (foldl_awake (fun s p => ?_) _ _).trans (s₃.modPic_awake _)
    rw [State.legEvent_awake, State.holdLeg_awake, State.dropLeg_awake]
  have h₆ : s₆.awake = s₅.awake := s₅.modSnd_awake _
  clear_value s₆
  exact Eq.trans rfl (h₆.trans (h₅.trans (h₃.trans h₁)))


@[simp] theorem State.finishSeam_awake (s : State) (id : U16) (f : Seam → Seam) :
    (s.finishSeam id f).awake = s.awake := by
  unfold State.finishSeam; rfl

theorem State.unpickSeam_stays (s : State) (id : U16) (reason : Nat) (isl : U16) (pstatus : U8) : (s.unpickSeam id reason isl pstatus).awake.steps = s.awake.steps := by
  unfold State.unpickSeam
  split
  · rfl
  · extract_lets k s₁ cells _ s₂
    have h₁ : s₁.awake = s.awake := (State.releaseBasted_awake ..).trans (State.finishSeam_awake ..)
    have h₂ : s₂.awake.steps = s.awake.steps := congrArg Awake.steps (Eq.trans rfl h₁)
    clear_value s₂
    split
    · split
      · exact h₂
      · exact (congrArg Awake.steps (s₂.seamDone_awake k)).trans h₂
    · exact (congrArg Awake.steps (s₂.patternUnpicked_awake k)).trans h₂
    · exact (s₂.powerUnpicked_stays k).trans h₂


theorem State.unpickAll_stays (s : State) (p : Seam → Bool) (reason : Nat) (isl : U16) : (s.unpickAll p reason isl).awake.steps = s.awake.steps :=
  foldl_proj (fun s : State => s.awake.steps) (fun s id => State.unpickSeam_stays ..) _ s


@[simp] theorem State.accessEvent_awake (s : State) (p : Fin 2) (terminal : Nat) (new : Nat) (old : Nat) (cause : Nat) (serial : U64) :
    (s.accessEvent p terminal new old cause serial).awake = s.awake := by
  unfold State.accessEvent; rfl

@[simp] theorem State.dropKeys_awake (s : State) (p : Fin 2) : (s.dropKeys p).awake = s.awake := by
  unfold State.dropKeys
  exact (foldl_awake (fun s _ => by rfl) _ _).trans rfl


@[simp] theorem State.accState_awake (s : State) (p : Fin 2) (new : Nat) (cause : Nat) :
    (s.accState p new cause).awake = s.awake := by
  unfold State.accState; dsimp only; (repeat' split) <;> simp

@[simp] theorem State.modTwin_awake (s : State) (f : Twin → Twin) : (s.modTwin f).awake = s.awake := by
  unfold State.modTwin; rfl

@[simp] theorem State.twinEvent_awake (s : State) (old : Nat) (cause : Nat) (group : Nat) (won : Bool) :
    (s.twinEvent old cause group won).awake = s.awake := by
  unfold State.twinEvent; rfl

@[simp] theorem State.twinReady_awake (s : State) : (s.twinReady).awake = s.awake := by
  unfold State.twinReady; simp

@[simp] theorem State.newEpoch_awake (s : State) : (s.newEpoch).awake = s.awake := by
  unfold State.newEpoch; simp

@[simp] theorem State.newCert_awake (s : State) : (s.newCert).awake = s.awake := by
  unfold State.newCert; (repeat' split) <;> rfl

@[simp] theorem State.setTwin_awake (s : State) (new : TwinState) (cause : Nat) :
    (s.setTwin new cause).awake = s.awake := by
  unfold State.setTwin; (repeat' split) <;> simp

@[simp] theorem State.dropMedia_awake (s : State) : (s.dropMedia).awake = s.awake := by
  unfold State.dropMedia; rfl

@[simp] theorem State.leaveSync_awake (s : State) (cause : Nat) : (s.leaveSync cause).awake = s.awake := by
  unfold State.leaveSync; split <;> simp

@[simp] theorem State.releaseClaims_awake (s : State) : (s.releaseClaims).awake = s.awake := by
  unfold State.releaseClaims; rfl

@[simp] theorem State.modDisp_awake (s : State) (f : Disp → Disp) : (s.modDisp f).awake = s.awake := by
  unfold State.modDisp; rfl

@[simp] theorem State.modTask_awake (s : State) (t : Nat) (f : Task → Task) :
    (s.modTask t f).awake = s.awake := by
  unfold State.modTask; rfl

@[simp] theorem State.modDispBlock_awake (s : State) (b : Nat) (f : DispBlock → DispBlock) :
    (s.modDispBlock b f).awake = s.awake := by
  unfold State.modDispBlock; rfl

@[simp] theorem State.modDsp_awake (s : State) (c : U16) (f : Dsp → Dsp) :
    (s.modDsp c f).awake = s.awake := by
  unfold State.modDsp; rfl

@[simp] theorem State.tracePut_awake (s : State) (q : TraceReq) (r : TraceRec) :
    (s.tracePut q r).awake = s.awake := by
  unfold State.tracePut; (repeat' split) <;> simp

@[simp] theorem State.traceRec_awake (s : State) (cell : U16) (task : Nat) (group : Nat) (reason : Nat) (detail : Nat) :
    (s.traceRec cell task group reason detail).awake = s.awake := by
  unfold State.traceRec; dsimp only; (repeat' split) <;> simp

@[simp] theorem State.missed_awake (s : State) (e : LocalEvent) : (s.missed e).awake = s.awake := by
  unfold State.missed; split <;> simp

@[simp] theorem State.missSignal_awake (s : State) (t : Task) : (s.missSignal t).awake = s.awake := by
  unfold State.missSignal; dsimp only; (repeat' split) <;> simp

@[simp] theorem State.fenceDsp_awake (s : State) (cell : U16) : (s.fenceDsp cell).awake = s.awake := by
  unfold State.fenceDsp; dsimp only; (repeat' split) <;> simp

@[simp] theorem State.modCell_awake (s : State) (i : U16) (f : Cell → Cell) :
    (s.modCell i f).awake = s.awake := by
  unfold State.modCell; rfl

@[simp] theorem State.degrade_awake (s : State) : (s.degrade).awake = s.awake := by
  unfold State.degrade; simp

@[simp] theorem State.faultCommands_awake (s : State) (region : Nat) (blk : Nat) : (s.faultCommands region blk).awake = s.awake := by
  unfold State.faultCommands
  extract_lets pass image saving format waits s₁ s₂ s₃ s₄ s₅ done
  clear_value pass image saving format waits
  have h₁ : s₁.awake = s.awake := by
    unfold s₁
    split <;> simp
  have h₂ : s₂.awake = s₁.awake := foldl_awake (fun s a => State.finish_awake ..) _ _
  have h₃ : s₃.awake = s₂.awake := by
    unfold s₃
    split <;> simp
  have h₄ : s₄.awake = s₃.awake := by
    unfold s₄
    split <;> simp
  have h₅ : s₅.awake = s₄.awake := by
    unfold s₅
    split <;> simp
  split
  · refine foldl_awake (fun s p => ?_) _ _
    split
    · rw [State.finish_awake, State.modPort_awake]
    · rfl
  · split
    · clear_value s₅
      exact Eq.trans rfl (h₅.trans (h₄.trans (h₃.trans (h₂.trans h₁))))
    · rfl


@[simp] theorem State.loseBlock_awake (s : State) (region : Nat) (blk : Nat) : (s.loseBlock region blk).awake = s.awake := by
  unfold State.loseBlock
  extract_lets mine t
  have ht : t.awake = s.awake := s.faultCommands_awake region blk
  clear_value t
  rw [← ht]
  split
  · exact (foldl_awake (fun s c => State.fenceDsp_awake ..) _ _).trans rfl
  · exact (foldl_awake (fun s c => State.wantKey_awake ..) _ _).trans rfl
  · (repeat' split) <;> rfl
  · split
    · exact State.accState_awake ..
    · rfl
  · exact (State.setReadiness_awake ..).trans rfl
  · rfl


@[simp] theorem State.selfTested_awake (s : State) (b : U16) (failed : List Nat) : (s.selfTested b failed).awake = s.awake := by
  unfold State.selfTested
  refine foldl_awake (fun s c => ?_) _ s
  extract_lets i fences s₁
  have h₁ : s₁.awake = s.awake := (State.faultRec_awake ..).trans (State.modCell_awake ..)
  clear_value s₁
  (repeat' split)
  all_goals simp [h₁]


@[simp] theorem State.regate_awake (s : State) : (s.regate).awake = s.awake := by
  unfold State.regate; rfl

@[simp] theorem State.powerNotice_awake (s : State) (kind : Nat) (detail : Nat) :
    (s.powerNotice kind detail).awake = s.awake := by
  unfold State.powerNotice; split <;> simp

@[simp] theorem State.modDomain_awake (s : State) (d : U16) (f : Domain → Domain) :
    (s.modDomain d f).awake = s.awake := by
  unfold State.modDomain; rfl

@[simp] theorem State.pictureUp_awake (s : State) (d : U16) : (s.pictureUp d).awake = s.awake := by
  unfold State.pictureUp
  extract_lets on s₁ s₂
  have h₁ : s₁.awake = s.awake := by
    refine foldl_awake (fun s p => ?_) _ s
    split
    · exact State.askKey_awake ..
    · rfl
  have h₂ : s₂.awake = s₁.awake := State.modPic_awake ..
  rw [State.regate_awake, h₂, h₁]


@[simp] theorem State.domainUp_awake (s : State) (d : U16) (failed : List U16) : (s.domainUp d failed).awake = s.awake := by
  unfold State.domainUp
  extract_lets l s₁ s₂ s₃
  have h₁ : s₁.awake = s.awake := (State.degrade_awake _).trans (State.selfTested_awake ..)
  have h₂ : s₂.awake = s₁.awake := State.modDomain_awake ..
  have h₃ : s₃.awake = s₂.awake := by
    unfold s₃
    split
    · exact s₂.pictureUp_awake d
    · rfl
  exact (foldl_awake (fun s m => State.deferredEvent_awake ..) _ _).trans (h₃.trans (h₂.trans h₁))


@[simp] theorem State.raiseDomain_awake (s : State) (d : U16) : (s.raiseDomain d).awake = s.awake := by
  unfold State.raiseDomain; split <;> simp

@[simp] theorem State.gateDomain_awake (s : State) (d : U16) : (s.gateDomain d).awake = s.awake := by
  unfold State.gateDomain; split <;> simp
end Sys2Proof.Machine
end

section
/-! O55: the power commands, and power in time. -/

namespace Sys2Proof.Machine
open Sys2Proof

/-- An accepted command that is answered at once takes its effect and is answered (03 R82). -/
theorem State.run_answers {s t : State} {m : Mbx} {row : Row} {c : Cmd} {r : Rep} (h : s.accepts m row c = true)
    (he : row.effect c s = (t, r)) (hl : r.later = false) : s.run m row = t.answered m row.opcode c r := by
  simp only [State.accepts, Bool.and_eq_true, beq_iff_eq, Option.isNone_iff_eq_none] at h
  obtain ⟨⟨⟨hready, hreads⟩, hseam⟩, hverdict⟩ := h
  simp [State.run, hready, hreads, hseam, hverdict, he, hl, State.answered]

/-! ### Votes (17 R433 to R440) -/

theorem State.modDomain_congr {s : State} {d : U16} {f g : Domain → Domain} (h : f (s.domain d) = g (s.domain d)) : s.modDomain d f = s.modDomain d g := by
  unfold State.modDomain
  rw [h]

theorem setVote_domain (s : State) (m : Mbx) (d : U16) (raise : Bool) : ((setVote s m d raise).domain d).deferred = (s.domain d).deferred := by
  simp [setVote, State.modDomain, State.domain]

/-- A mailbox that does not wait for a domain yet joins the end of those that do. -/
theorem setVote_defers {s : State} {m : Mbx} {d : U16} (h : (s.domain d).deferred.contains m = false) :
    (setVote s m d true).modDomain d (fun x => { x with deferred := if x.deferred.contains m then x.deferred else x.deferred ++ [m] }) =
      (setVote s m d true).modDomain d (fun x => { x with deferred := x.deferred ++ [m] }) :=
  State.modDomain_congr (by rw [setVote_domain, h]; rfl)

/-! ### The wake pattern (17 R442) -/

theorem wakeMatch_iff (l : List (Fin 4)) : wakeMatch l = true ↔ ∃ a b, l = a ++ (List.replicate 8 wakeSymbols).flatten ++ b := by
  have hne : (List.replicate 8 wakeSymbols).flatten ≠ [] := by decide
  unfold wakeMatch
  generalize (List.replicate 8 wakeSymbols).flatten = p at *
  simp only [List.any_eq_true, List.mem_range, List.isPrefixOf_iff_prefix]
  constructor
  · rintro ⟨i, -, b, hb⟩
    exact ⟨l.take i, b, by rw [List.append_assoc, hb, List.take_append_drop]⟩
  · rintro ⟨a, b, rfl⟩
    exact ⟨a.length, by simp [List.length_pos_iff.mpr hne], b, by simp [List.append_assoc]⟩

theorem wakeEvent_notes {s : State} {w : WakeSource} {n : Nat} (h : wakeCode s w = (n, true)) : wakeEvent w s = s.noteWake n := by
  simp [wakeEvent, h]

/-- A wake that ends leaves the device in the state that Quiet was entered from (17 R443). -/
theorem wakeComplete_wakes {s : State} (failed : List U16) (h : s.pwr.waking = true) :
    (wakeComplete failed s).awake = { s.awake with
      state := s.pwr.resume_, waking := false, wake := none, asleep := false, wakes := s.pwr.wakes + 1, stopped := s.pwr.supply == .shed || s.pwr.supply == .flush } := by
  unfold wakeComplete
  rw [if_neg (by simp [h])]
  extract_lets src _ _ s₁ s₂ s₃ s₄
  have h₁ : s₁.awake = { s.awake with
      state := s.pwr.resume_, waking := false, wake := none, asleep := false, wakes := s.pwr.wakes + 1, stopped := s.pwr.supply == .shed || s.pwr.supply == .flush } := rfl
  have h₂ : s₂.awake = s₁.awake := s₁.modTwin_awake _
  have h₃ : s₃.awake = s₂.awake := rfl
  have h₄ : s₄.awake = s₃.awake := by
    refine foldl_awake (fun s d => ?_) _ s₃
    split
    · exact s.domainUp_awake d failed
    · rfl
  rw [State.fin_awake, State.powerNotice_awake, h₄, h₃, h₂, h₁]

/-- Settles O55: each command takes its effect and is answered, and each event acts as its hypotheses say. -/
theorem powerActs : Obligations.PowerActs := by
  unfold Obligations.PowerActs
  refine ⟨fun s m c => ?_, fun s => ?_⟩
  · refine ⟨fun state port sound picture access q hq h => ?_, fun d hd h => ?_, fun d t hd ha ht h => ?_, fun d t hd hdef ht h => ?_, fun d hdrop hdef h => ?_,
      fun d t hdrop hdef ht h => ?_, fun ride flush mv h => ?_, fun l1 h => ?_, fun h => ?_, fun d hd h => ?_⟩
    · subst hq
      split
      · next hw => exact next_congr (State.run_answers h (by simp [rowPowerState, hw]) rfl)
      · next hw => exact next_congr (State.run_answers h (by simp [rowPowerState, hw]) rfl)
    · refine next_congr (State.run_of_takes h ?_ rfl)
      rcases hd with hd | hd <;> simp [rowPowerVote, hd]
    · subst ht
      exact next_congr (State.run_of_takes h (by simp [rowPowerVote, hd, ha]) rfl)
    · subst ht
      exact next_congr (State.run_of_takes h (by simp only [rowPowerVote, if_pos, hd, setVote_defers hdef]) rfl)
    · exact next_congr (State.run_of_takes h (by simp [rowPowerVote, show m ∉ (s.domain d).deferred by simpa using hdef, hdrop]) rfl)
    · subst ht
      exact next_congr (State.run_of_takes h (by simp [rowPowerVote, show m ∉ (s.domain d).deferred by simpa using hdef, hdrop]) rfl)
    · exact next_congr (State.run_of_takes h rfl rfl)
    · exact next_congr (State.run_of_takes h rfl rfl)
    · exact next_congr (State.run_of_takes h rfl rfl)
    · exact next_congr (State.run_of_takes h (by simp only [rowPowerQuery, bne_iff_ne.mpr hd, if_pos, true_and] <;> rfl) rfl)
  · refine ⟨fun q id n t hr hg ht => ?_, fun q hq hw hp hs => ?_, fun d t hd ht => ?_, fun d failed hd => ?_, fun i hi => ?_, fun p hp => ?_, fun hf => ⟨?_, fun l a b hl => ?_⟩, fun l hl => ?_,
      ⟨rfl, rfl, rfl⟩, rfl, fun failed h => ?_, fun t ht hle hu => ?_, fun t ht hle hu => ?_⟩
    · exact next_congr (by simp [powerChangeDone, hr, hg, ht])
    · refine next_congr ?_
      rcases hs with hs | hs <;> simp [pendingPowerStart, hq, hw, hp, hs]
    · exact next_congr (if_pos (by simp [hd, ht]))
    · exact next_congr (if_pos hd)
    · exact next_congr (wakeEvent_notes (by simp [wakeCode, hi]))
    · exact next_congr (wakeEvent_notes (by simp [wakeCode, hp]))
    · exact next_congr (wakeEvent_notes (by simp [wakeCode, hf]))
    · exact next_congr ((if_pos ((wakeMatch_iff l).mpr ⟨a, b, hl⟩)).trans (wakeEvent_notes (by simp [wakeCode, hf])))
    · exact next_congr (if_neg (fun hm => let ⟨a, b, hab⟩ := (wakeMatch_iff l).mp hm; hl a b hab))
    · have hw := wakeComplete_wakes failed h
      exact ⟨_, rfl, congrArg Awake.state hw, congrArg Awake.waking hw, congrArg Awake.wake hw, congrArg Awake.asleep hw, congrArg Awake.wakes hw, congrArg Awake.stopped hw⟩
    · exact next_congr ((if_pos (by simp [ht, hle])).trans (if_pos hu))
    · exact next_congr ((if_pos (by simp [ht, hle])).trans (if_neg (by simpa using hu)))

end Sys2Proof.Machine
end

section
/-! O57: a failing supply. -/

namespace Sys2Proof.Machine
open Sys2Proof

/-! ### The watch of a parked device -/

theorem parkWatch_awake_device {s : State} (h : s.pwr.state ≠ .park) : parkWatch s = s := if_pos h

theorem parkWatch_eq (s : State) : ∃ x, parkWatch s = { s with pwr := { s.pwr with clearSince := x } } := by
  unfold parkWatch
  split
  · exact ⟨s.pwr.clearSince, rfl⟩
  · exact ⟨_, rfl⟩

theorem parkWatch_stays (s : State) : (parkWatch s).pwr.supply = s.pwr.supply ∧ (parkWatch s).pl = s.pl := by
  obtain ⟨x, hx⟩ := parkWatch_eq s
  rw [hx]
  exact ⟨rfl, rfl⟩

theorem State.powerNotice_pins (s : State) (kind detail : Nat) : (s.powerNotice kind detail).pins = s.pins := by
  unfold State.powerNotice
  split <;> rfl

/-- The pins that the supply drives stay when a notice is told. -/
theorem State.notice_pfwN (s : State) (kind detail : Nat) : (s.powerNotice kind detail).fin.pins.pfwN = s.pins.pfwN := by
  have h := congrArg Pins.pfwN (State.fin_held (s.powerNotice kind detail))
  rw [State.powerNotice_pins] at h
  exact h

theorem State.notice_awake (s : State) (kind detail : Nat) : (s.powerNotice kind detail).fin.awake = s.awake :=
  (State.fin_awake _).trans (s.powerNotice_awake kind detail)

/-! ### The steps down (17 R446 to R449) -/

theorem pfwAssert_rides {s : State} (hr : supplyRuns s = true) (hp : s.pwr.state ≠ .park) (hn : s.pwr.supply = .normal) :
    (pfwAssert s).pins.pfwN = false ∧ (pfwAssert s).pwr.supply = .ride ∧ (pfwAssert s).pwr.stepAt = some (s.clk + s.pwr.rideMs * State.ticksPerMs) := by
  have hw : parkWatch { s with pins := { s.pins with pfwN := false } } = { s with pins := { s.pins with pfwN := false } } := parkWatch_awake_device hp
  have hruns : supplyRuns { s with pins := { s.pins with pfwN := false } } = true := hr
  unfold pfwAssert
  rw [hw, if_neg (by simp [hruns, hn])]
  exact ⟨State.notice_pfwN .., congrArg Awake.supply (State.notice_awake ..), congrArg Awake.stepAt (State.notice_awake ..)⟩

/-- A ride that runs out sheds the picture domains and stops the media. -/
theorem rideExpiry_sheds {s : State} {t : Nat} (hr : s.pwr.supply = .ride) (hp : s.pins.pfwN = false) (hs : s.pwr.stepAt = some t) (ht : t ≤ s.clk) :
    (rideExpiry s).awake = { s.awake with
      supply := .shed, stepAt := some (s.clk + s.pwr.flushMs * State.ticksPerMs), shedGated := votable.filter (fun d => regionOf d == 1 && (s.domain d).state != .gated), stopped := true } := by
  unfold rideExpiry
  rw [if_neg (by simp [hr, hp, hs, ht])]
  extract_lets ds _ _ s₁ s₂ s₃
  have h₁ : s₁.awake = { s.awake with supply := .shed, stepAt := some (s.clk + s.pwr.flushMs * State.ticksPerMs), shedGated := ds, stopped := true } := rfl
  have h₂ : s₂.awake = s₁.awake := foldl_awake (fun s d => s.gateDomain_awake d) _ _
  have h₃ : s₃.awake = s₂.awake := by
    unfold s₃
    split
    · exact s₂.releaseClaims_awake
    · exact s₂.leaveSync_awake 9
  rw [State.notice_awake, h₃, h₂, h₁]

theorem flush_flushes (s : State) : (flush s).pwr.supply = .flush ∧ (flush s).pl.down = true ∧ (flush s).pl.raised = [] ∧ (flush s).keep.flushing = true ∧ (flush s).model.stopped = true := by
  unfold flush
  extract_lets _ _ s₁ ahead s₂ _ _
  have h : s₂.awake.steps = s₁.awake.steps := s₁.unpickAll_stays ahead 6 _
  clear_value s₂
  exact ⟨congrArg Prod.fst h, rfl, rfl, congrArg Prod.snd h, rfl⟩

/-! ### Samples of HOLD_SENSE (17 R448) -/

theorem holdSense_cons (mV : Nat) (l : List Nat) (s : State) : holdSense (mV :: l) s = holdSense l (holdSense [mV] s) := rfl

theorem holdSense_one {s w : State} {mV : Nat} (hw : parkWatch (holdSample s mV) = w) :
    holdSense [mV] s = if 3 ≤ w.pwr.holdLow ∧ supplyRuns w ∧ (w.pwr.supply = .ride ∨ w.pwr.supply = .shed) then flush w else w := by
  subst hw
  rfl

theorem holdSense_normal (l : List Nat) (s : State) (hp : s.pwr.state ≠ .park) (hn : s.pwr.supply = .normal) :
    (holdSense l s).pwr.supply = .normal ∧ (holdSense l s).pins.holdMv = l.getLastD s.pins.holdMv := by
  induction l generalizing s with
  | nil => exact ⟨hn, rfl⟩
  | cons mV l ih =>
    have hsupply : (holdSample s mV).pwr.supply = .normal := hn
    rw [holdSense_cons, holdSense_one (parkWatch_awake_device (s := holdSample s mV) hp), if_neg (by simp [hsupply]), List.getLastD_cons]
    exact ih (holdSample s mV) hp hn

/-- The supply has failed and its journal is flushed. -/
def State.Flushed (s : State) : Prop := s.pwr.supply = .flush ∧ s.pl.down = true

/-- The supply rides or sheds in a device that runs, and the last `n` samples at least lay below `hold` millivolts. -/
structure State.Sags (s : State) (hold n : Nat) : Prop where
  supply : s.pwr.supply = .ride ∨ s.pwr.supply = .shed
  state : s.pwr.state ≠ .park
  runs : supplyRuns s = true
  hold : s.pwr.holdMv = hold
  low : n ≤ s.pwr.holdLow

/-- What has flushed stays so, whatever is sampled after. -/
theorem State.Flushed.sample {s : State} (h : s.Flushed) (mV : Nat) : (holdSense [mV] s).Flushed := by
  obtain ⟨hsupply, hpl⟩ := parkWatch_stays (holdSample s mV)
  obtain ⟨hf, hd⟩ := h
  have hflush : (parkWatch (holdSample s mV)).pwr.supply = .flush := hsupply.trans hf
  rw [holdSense_one rfl, if_neg (by simp [hflush])]
  exact ⟨hflush, (congrArg Pledom.down hpl).trans hd⟩

/-- A sample below the threshold counts, and the third in a row flushes. -/
theorem State.Sags.sample {s : State} {hold n mV : Nat} (h : s.Sags hold n) (hm : mV < hold) :
    (holdSense [mV] s).Flushed ∨ n < 2 ∧ (holdSense [mV] s).Sags hold (n + 1) := by
  obtain ⟨hsupply, hstate, hruns, rfl, hlow⟩ := h
  have hcount : (holdSample s mV).pwr.holdLow = s.pwr.holdLow + 1 := if_pos (by simp [hm, Nat.ne_of_gt (Nat.zero_lt_of_lt hm)])
  have hkeeps : (holdSample s mV).Sags s.pwr.holdMv (n + 1) := ⟨hsupply, hstate, hruns, rfl, by omega⟩
  rw [holdSense_one (parkWatch_awake_device (s := holdSample s mV) hstate)]
  split
  · obtain ⟨hf, hd, -⟩ := flush_flushes (holdSample s mV)
    exact .inl ⟨hf, hd⟩
  · next hno =>
    have hfew : ¬3 ≤ (holdSample s mV).pwr.holdLow := fun h3 => hno ⟨h3, hruns, hsupply⟩
    exact .inr ⟨by omega, hkeeps⟩

theorem holdSense_flushes {s : State} {a b c hold : Nat} (h : s.Sags hold 0) (ha : a < hold) (hb : b < hold) (hc : c < hold) : (holdSense [a, b, c] s).Flushed := by
  rw [holdSense_cons, holdSense_cons b]
  obtain ha | ⟨-, h1⟩ := h.sample ha
  · exact (ha.sample b).sample c
  · obtain hb | ⟨-, h2⟩ := h1.sample hb
    · exact hb.sample c
    · exact (h2.sample hc).resolve_right (fun h => absurd h.1 (by simp))

/-! ### Parking, and the supply's return (17 R449, R450) -/

theorem flushPark_parks {s : State} (h : s.pwr.supply = .flush) :
    (flushPark s).pwr.state = .park ∧ (flushPark s).ks.state = .park ∧ (flushPark s).ks.released = false ∧ (flushPark s).ks.lowPower = true ∧
    (flushPark s).pwr.holdMv = s.pwr.holdMv ∧ (flushPark s).mem.dram = [] ∧ (flushPark s).pl = State.reset.pl ∧ (flushPark s).model = State.reset.model := by
  have hpwr : (s.parkJournal true).pwr = s.pwr := congrArg Prod.snd (s.parkJournal_spared true)
  have hfresh := (s.parkJournal true).wiped_afresh 5 3
  have hpl : ((s.parkJournal true).wiped 5 3).pl = State.reset.pl := rfl
  unfold flushPark
  rw [if_neg (by simp [h])]
  generalize s.parkJournal true = u at *
  obtain ⟨-, hdram, hmodel, -⟩ := hfresh
  extract_lets _ hold k v
  have hhold : hold = s.pwr.holdMv := congrArg Power.holdMv hpwr
  obtain ⟨x, hx⟩ := parkWatch_eq { v with
    ks := { k with state := .park, released := false, lowPower := true, verified := false, seenRounds := 0, writing := none, rules := [] }, pwr := { state := .park, holdMv := hold } }
  rw [hx]
  exact ⟨rfl, rfl, rfl, rfl, hhold, hdram, hpl, hmodel⟩

theorem pfwClear_rides {s : State} (hp : s.pwr.state ≠ .park) (h : s.pwr.supply = .ride) :
    (pfwClear s).pins.pfwN = true ∧ (pfwClear s).pwr.supply = .normal ∧ (pfwClear s).pwr.stepAt = none := by
  have hw : parkWatch { s with pins := { s.pins with pfwN := true } } = { s with pins := { s.pins with pfwN := true } } := parkWatch_awake_device hp
  unfold pfwClear
  rw [hw]
  simp only [h]
  exact ⟨State.notice_pfwN .., congrArg Awake.supply (State.notice_awake ..), congrArg Awake.stepAt (State.notice_awake ..)⟩

/-- Raising the domains that were shed leaves the power state and the pins. -/
theorem raiseShed_stays (l : List U16) (s : State) :
    (l.foldl (fun s d => if !s.pwr.asleep ∧ s.heldNow d then s.raiseDomain d else s) s).awake = s.awake ∧
    (l.foldl (fun s d => if !s.pwr.asleep ∧ s.heldNow d then s.raiseDomain d else s) s).pins = s.pins := by
  rw [← Prod.mk.injEq]
  refine foldl_proj (fun s : State => (s.awake, s.pins)) (fun s d => ?_) l s
  split
  · exact Prod.ext (s.raiseDomain_awake d) (by unfold State.raiseDomain; split <;> rfl)
  · rfl

/-- A supply that returns while loads are shed raises them again and lets the media go on. -/
theorem pfwClear_restores {s : State} (hp : s.pwr.state ≠ .park) (h : s.pwr.supply = .shed) (ha : s.pwr.asleep = false) (hr : s.pwr.running = none) :
    (pfwClear s).pins.pfwN = true ∧ (pfwClear s).pwr.supply = .normal ∧ (pfwClear s).pwr.shedGated = [] ∧ (pfwClear s).model.stopped = false := by
  have hw : parkWatch { s with pins := { s.pins with pfwN := true } } = { s with pins := { s.pins with pfwN := true } } := parkWatch_awake_device hp
  unfold pfwClear
  rw [hw]
  extract_lets _ u
  have hu : u.pwr.supply = .shed := h
  have hasleep : u.pwr.asleep = false := ha
  have hrunning : u.pwr.running = none := hr
  split
  · next hs => exact absurd (hs.symm.trans hu) (by simp)
  · obtain ⟨hawake, hpins⟩ := raiseShed_stays u.pwr.shedGated { u with
      pwr := { u.pwr with supply := .normal, stepAt := none, shedGated := [] },
      model := { u.model with stopped := u.pwr.asleep || u.pwr.running.any (fun r => r.1.target == some .quiet) } }
    have ht := (State.notice_awake _ 4 0).trans hawake
    exact ⟨(State.notice_pfwN ..).trans (congrArg Pins.pfwN hpins), congrArg Awake.supply ht, congrArg Awake.shedGated ht,
      (congrArg Awake.stopped ht).trans (show (u.pwr.asleep || u.pwr.running.any _) = false by rw [hasleep, hrunning]; rfl)⟩
  · next hn hs => exact absurd hu hs

theorem any_offset_le {o : Option Nat} {n c t : Nat} (hs : o = some t) (hc : t + n ≤ c) : o.any (fun t => decide (t + n ≤ c)) = true := by
  rw [hs]
  exact decide_eq_true hc

/-- Settles O57: each step of the supply is taken in its turn, and undone before the flush. -/
theorem supplyStepsInOrder : Obligations.SupplyStepsInOrder := by
  intro s hstage hks hpark
  have hruns : supplyRuns s = true := by simp [supplyRuns, hstage, hks]
  refine ⟨fun hn => ⟨_, rfl, pfwAssert_rides hruns hpark hn⟩, fun t hr hp hs ht => ?_, fun t hr hp hs ht => ?_, fun mv hn => ⟨_, rfl, holdSense_normal mv s hpark hn⟩,
    fun a b c hs ha hb hc => ⟨_, rfl, holdSense_flushes ⟨hs, hpark, hruns, rfl, Nat.zero_le _⟩ ha hb hc⟩, fun hf => ⟨_, rfl, flushPark_parks hf⟩,
    fun hr => ⟨_, rfl, pfwClear_rides hpark hr⟩, fun hs ha hr => ⟨_, rfl, pfwClear_restores hpark hs ha hr⟩, fun load us hl ha hu => ?_, fun load us h => ?_, fun v t hp hc ht => ?_⟩
  · have hw := rideExpiry_sheds hr hp hs ht
    exact ⟨_, rfl, congrArg Awake.supply hw, congrArg Awake.stopped hw, congrArg Awake.stepAt hw, congrArg Awake.shedGated hw⟩
  · have hstart : flushStart s = flush s := if_pos ⟨hr, by simp [hp], by simp [hs, ht]⟩
    exact ⟨_, next_congr hstart, flush_flushes s⟩
  · exact next_congr (if_pos ⟨hl, ha, hu⟩)
  · refine next_congr (if_neg ?_)
    rintro ⟨hl, ha, hu⟩
    rcases h with h | h | h
    · simp [h] at hl
    · omega
    · omega
  · exact next_congr (if_pos ⟨hp, any_offset_le hc ht⟩)

end Sys2Proof.Machine
end

section
/-! O58: the pattern commands, and patterns and seams in time. -/

namespace Sys2Proof.Machine
open Sys2Proof

/-! ### A participant's confirmation (02 R55, R56, R58) -/

section
variable {s : State} {id cell : U16} {k : Seam} (hk : s.seamLive id = some k) (hc : k.state = .confirming) (hd : s.beforeDeadline k = true)
  (hp : k.parts.any (fun p => p.cell == cell && !p.confirmed) = true) (ho : s.cellOut cell = false)
include hk hc hd hp ho

theorem participantConfirm_refused {r : U8} (hdec : s.decides = true) : participantConfirm id cell (some r) s = (s.unpickSeam id 1 cell r).fin := by
  unfold participantConfirm
  rw [hk]
  dsimp only
  rw [if_neg (by simp [hc, hd, hp, ho]), if_pos hdec]

theorem participantConfirm_gone (hdec : s.decides = true)
    (hg : (k.entries.any (fun e => e.cell == cell && !s.itemExists e.item) || k.cmds.any (fun c => c.cell == cell && !s.refsExist k c.instr)) = true) :
    participantConfirm id cell none s = (s.unpickSeam id 1 cell St.noObject).fin := by
  unfold participantConfirm
  rw [hk]
  dsimp only
  rw [if_neg (by simp [hc, hd, hp, ho]), if_pos hg]
  exact if_pos hdec

theorem participantConfirm_full (hdec : s.decides = true)
    (hg : (k.entries.any (fun e => e.cell == cell && !s.itemExists e.item) || k.cmds.any (fun c => c.cell == cell && !s.refsExist k c.instr)) = false)
    (hpow : k.owner ≠ SeamFor.power) (hfull : k.owner = SeamFor.pattern ∧ s.patternFits = false ∨ s.resourcesPresent k cell = false) :
    participantConfirm id cell none s = (s.unpickSeam id 1 cell St.noCapacity).fin := by
  have hno : (if k.owner = SeamFor.pattern ∧ (!s.patternFits) = true then some St.noCapacity
      else if (!s.resourcesPresent k cell) = true then some St.noCapacity else none) = some St.noCapacity := by
    split
    · rfl
    · next hn => exact if_pos (by simpa using hfull.resolve_left (fun h => hn ⟨h.1, by simp [h.2]⟩))
  unfold participantConfirm
  rw [hk]
  dsimp only
  rw [if_neg (by simp [hc, hd, hp, ho]), if_neg (by simp [hg]), if_neg hpow, hno]
  exact if_pos hdec

theorem participantConfirm_confirms
    (hg : (k.entries.any (fun e => e.cell == cell && !s.itemExists e.item) || k.cmds.any (fun c => c.cell == cell && !s.refsExist k c.instr)) = false)
    (hr : s.resourcesPresent k cell = true) (hpow : k.owner ≠ SeamFor.power) (hpat : k.owner ≠ SeamFor.pattern) {parts : List SeamPart}
    (hparts : parts = k.parts.map (fun p => if p.cell = cell then { p with confirmed := true } else p)) :
    participantConfirm id cell none s =
      if s.decides && parts.all (fun p => p.confirmed) then ((s.modSeam id (fun q => { q with parts })).commitSeam id).fin else s.modSeam id (fun q => { q with parts }) := by
  unfold participantConfirm
  rw [hk]
  dsimp only
  rw [if_neg (by simp [hc, hd, hp, ho]), if_neg (by simp [hg]), if_neg hpow, if_neg (fun h => hpat h.1), if_neg (by simp [hr]), ← hparts]
  have hdec : (s.modSeam id (fun q => { q with parts })).decides = s.decides := rfl
  rw [hdec]
  simp only [Bool.and_eq_true]

end

/-! ### Saves and the revert of an unproven generation (02 R63, R70) -/

theorem patternSaveDone_fails {s : State} {m : Mbx} {n : Nat} {label : U32} {cfg : PatCfg} (h : s.patt.saving = some (m, n, label, cfg)) (kib : Nat) :
    patternSaveDone .fault kib s = (({ s with patt := { s.patt with saving := none } } : State).patternDone (some (m, n)) St.storeFault 0x0E00 s.patt.running 0xFFFF 0xFFFF 0).fin ∧
    patternSaveDone .full kib s = (({ s with patt := { s.patt with saving := none } } : State).patternDone (some (m, n)) St.storeFull 0x0E00 s.patt.running 0xFFFF 0xFFFF 0).fin := by
  unfold patternSaveDone
  rw [h]
  exact ⟨rfl, rfl⟩

theorem patternSaveDone_stores {s : State} {m : Mbx} {n kib : Nat} {label : U32} {cfg : PatCfg} (h : s.patt.saving = some (m, n, label, cfg)) (hk : kib ≤ 262144) :
    patternSaveDone .ok kib s = ((((({ s with patt := { s.patt with saving := none } } : State).storeGen label cfg kib s.chipS).patternDone (some (m, n)) St.ok 0x0E00
      (({ s with patt := { s.patt with saving := none } } : State).storeGen label cfg kib s.chipS).patt.running 0xFFFF 0xFFFF 0).mirror 16).fin) := by
  unfold patternSaveDone
  rw [h]
  dsimp only
  rw [if_neg (Nat.not_lt.mpr hk)]
  rfl

theorem revertAfter_launches {s : State} {t : Nat} (h : s.patt.revertAt = some t) (ht : t ≤ s.clk) (hn : s.notPrimary = false) (hu : s.unproven = true) (he : s.seamsLive.isEmpty = true) :
    revertAfter s = ((({ s with patt := { s.patt with revertAt := none } } : State).launch
      { opcode := 0x0E03, target := s.olderProven s.patt.running, force := false, seam := 0xFFFF, issuer := none }).fin) := by
  unfold revertAfter
  rw [h]
  dsimp only
  rw [if_neg (by simp [ht, hn]), if_neg (by simp [hu]), if_neg (by simp [he])]
  rfl

/-- Settles O58: each command takes its effect and is answered, and each event acts as its hypotheses say. -/
theorem patternsAct : Obligations.PatternsAct := by
  unfold Obligations.PatternsAct
  refine ⟨fun s m c => ?_, fun s => ?_⟩
  · refine ⟨fun label h => ?_, fun g force after h => ?_, fun g h => ?_, fun force h => ?_, fun g0 l hg hl h => ?_⟩
    · exact next_congr (State.run_answers h rfl rfl)
    · exact next_congr (State.run_answers h rfl rfl)
    · exact next_congr (State.run_acts h rfl rfl)
    · exact next_congr (State.run_answers h rfl rfl)
    · subst hl
      exact next_congr (State.run_of_takes h (by simp [rowPatternList, hg]) rfl)
  · refine ⟨fun id cell k parts hk hc hd hp ho hg hr hpow hpat hparts => ?_, fun id cell k hk hc hd hp ho hdec hg => ?_, fun id cell k hk hc hd hp ho hdec hg hpow hfull => ?_,
      fun id cell k r hk hc hd hp ho hdec => ?_, fun m n label cfg kib h hk => ?_, fun m n label cfg kib h => ?_, fun t h ht hn hu he => ?_⟩
    · exact next_congr (participantConfirm_confirms hk hc hd hp ho hg hr hpow hpat hparts)
    · exact next_congr (participantConfirm_gone hk hc hd hp ho hdec hg)
    · exact next_congr (participantConfirm_full hk hc hd hp ho hdec hg hpow hfull)
    · exact next_congr (participantConfirm_refused hk hc hd hp ho hdec)
    · exact next_congr (patternSaveDone_stores h hk)
    · exact ⟨next_congr (patternSaveDone_fails h kib).1, next_congr (patternSaveDone_fails h kib).2⟩
    · exact next_congr (revertAfter_launches h ht hn hu he)

end Sys2Proof.Machine
end

section
/-! What the boot and the mailboxes keep while seams end and a configuration is restored: all but the readiness word. -/

namespace Sys2Proof.Machine
open Sys2Proof

/-- The boot without its readiness word, and the mailboxes. -/
def State.steady (s : State) : Boot × Vector Mailbox 17 := ({ s.boot with readiness := 0 }, s.pl.boxes)

@[simp] theorem foldl_steady {α : Type} {f : State → α → State} (h : ∀ (s : State) (a : α), (f s a).steady = s.steady) (l : List α) (s : State) :
    (l.foldl f s).steady = s.steady := foldl_proj State.steady h l s

@[simp] theorem foldl_fst_steady {α β : Type} {f : State × β → α → State × β} (h : ∀ (s : State × β) (a : α), (f s a).1.steady = s.1.steady) (l : List α) (s : State × β) :
    (l.foldl f s).1.steady = s.1.steady := by
  induction l generalizing s with
  | nil => rfl
  | cons a l ih => exact (ih _).trans (h s a)

@[simp] theorem ite_steady (c : Prop) [Decidable c] (a b : State) : (if c then a else b).steady = if c then a.steady else b.steady := by split <;> rfl

theorem State.charging_steady {f : State → State} (h : ∀ s : State, (f s).steady = s.steady) (s : State) (l : Nat) : (s.charging l f).steady = s.steady := h s

@[simp] theorem State.mirror_steady (s : State) (payload : Nat) : (s.mirror payload).steady = s.steady := by
  unfold State.mirror; (repeat' split) <;> rfl

@[simp] theorem State.draw32_steady (s : State) : (s.draw32).2.steady = s.steady := by
  unfold State.draw32
  split
  · rfl
  · exact (State.mirror_steady ..).trans rfl


@[simp] theorem State.raise_steady (s : State) (code : Nat) (status : U8) (data : Bytes) :
    (s.raise code status data).steady = s.steady := by
  unfold State.raise; rfl

@[simp] theorem State.raiseTo_steady (s : State) (m : Mbx) (code : Nat) (status : U8) (data : Bytes) :
    (s.raiseTo m code status data).steady = s.steady := by
  unfold State.raiseTo; rfl

@[simp] theorem State.raiseDone_steady (s : State) (m : Mbx) (seq : Nat) (code : Nat) (status : U8) (data : Bytes) :
    (s.raiseDone m seq code status data).steady = s.steady := by
  unfold State.raiseDone; rfl

@[simp] theorem State.setReadiness_steady (s : State) (w : U16) : (s.setReadiness w).steady = s.steady := by
  unfold State.setReadiness; (repeat' split) <;> rfl

@[simp] theorem State.readyBit_steady (s : State) (k : Nat) (on : Bool) :
    (s.readyBit k on).steady = s.steady := by
  unfold State.readyBit; simp

@[simp] theorem State.modKeep_steady (s : State) (f : Keep → Keep) : (s.modKeep f).steady = s.steady := by
  unfold State.modKeep; rfl

@[simp] theorem State.closeGroup_steady (s : State) : (s.closeGroup).steady = s.steady := by
  unfold State.closeGroup; simp

@[simp] theorem State.journal_steady (s : State) (e : JEntry) : (s.journal e).steady = s.steady := by
  unfold State.journal; simp

@[simp] theorem State.faultEvent_steady (s : State) (f : FaultRec) : (s.faultEvent f).steady = s.steady := by
  unfold State.faultEvent; rfl

@[simp] theorem State.writeFault_steady (s : State) (f : FaultRec) : (s.writeFault f).steady = s.steady := by
  unfold State.writeFault; dsimp only; (repeat' split) <;> simp -implicitDefEqProofs


@[simp] theorem State.faultRec_steady (s : State) (location : U16) (level : Nat) (cause : Nat) (action : Nat) (seamId : U16) (seams : Nat) (detail : U32) :
    (s.faultRec location level cause action seamId seams detail).steady = s.steady := by
  unfold State.faultRec; simp

@[simp] theorem State.legEvent_steady (s : State) (leg : Nat) (conf : Nat) (new : Nat) (old : Nat) (cause : Nat) :
    (s.legEvent leg conf new old cause).steady = s.steady := by
  unfold State.legEvent; rfl

@[simp] theorem State.modLeg_steady (s : State) (l : Nat) (f : Leg → Leg) :
    (s.modLeg l f).steady = s.steady := by
  unfold State.modLeg; rfl

@[simp] theorem State.setLegState_steady (s : State) (l : Nat) (st : LegState) (cause : Nat) :
    (s.setLegState l st cause).steady = s.steady := by
  unfold State.setLegState; split <;> simp

@[simp] theorem State.closeLeg_steady (s : State) (l : Nat) (cause : Nat) :
    (s.closeLeg l cause).steady = s.steady := by
  unfold State.closeLeg; split <;> simp

@[simp] theorem State.modTime_steady (s : State) (f : Time → Time) : (s.modTime f).steady = s.steady := by
  unfold State.modTime; rfl

@[simp] theorem State.modBase_steady (s : State) (b : Fin 4) (f : TimeBase → TimeBase) :
    (s.modBase b f).steady = s.steady := by
  unfold State.modBase; rfl

@[simp] theorem State.repps_steady (s : State) (b : Fin 4) : (s.repps b).steady = s.steady := by
  unfold State.repps; simp

@[simp] theorem State.setServo_steady (s : State) (b : Fin 4) (v : ServoState) :
    (s.setServo b v).steady = s.steady := by
  unfold State.setServo; simp

@[simp] theorem State.modNet_steady (s : State) (f : Net → Net) : (s.modNet f).steady = s.steady := by
  unfold State.modNet; rfl

@[simp] theorem State.modPort_steady (s : State) (p : Fin 2) (f : Port → Port) :
    (s.modPort p f).steady = s.steady := by
  unfold State.modPort; rfl

@[simp] theorem State.modIface_steady (s : State) (i : Nat) (f : Iface → Iface) :
    (s.modIface i f).steady = s.steady := by
  unfold State.modIface; rfl

@[simp] theorem State.modAcc_steady (s : State) (p : Fin 2) (f : AccPort → AccPort) :
    (s.modAcc p f).steady = s.steady := by
  unfold State.modAcc; rfl

@[simp] theorem State.linkEvent_steady (s : State) (i : Nat) : (s.linkEvent i).steady = s.steady := by
  unfold State.linkEvent; rfl

@[simp] theorem State.resplit_steady (s : State) (p : Fin 2) (split : Nat) :
    (s.resplit p split).steady = s.steady := by
  unfold State.resplit; simp

@[simp] theorem State.groupRef_steady (s : State) (p : Fin 2) (a : BitVec 48) (add : Bool) :
    (s.groupRef p a add).steady = s.steady := by
  unfold State.groupRef; rfl

@[simp] theorem State.modLegQ_steady (s : State) (l : Nat) (f : LegQ → LegQ) :
    (s.modLegQ l f).steady = s.steady := by
  unfold State.modLegQ; rfl

@[simp] theorem State.pushFifo_steady (s : State) (i : Nat) (k : Fin 8) (f : QFrame) :
    (s.pushFifo i k f).steady = s.steady := by
  unfold State.pushFifo; (repeat' split) <;> simp

@[simp] theorem State.tagHead_steady (s : State) (i : Nat) (l : Nat) : (s.tagHead i l).steady = s.steady := by
  unfold State.tagHead; split <;> simp

@[simp] theorem State.pushLeg_steady (s : State) (l : Nat) (f : QFrame) :
    (s.pushLeg l f).steady = s.steady := by
  unfold State.pushLeg; split <;> simp

@[simp] theorem State.enqueue_steady (s : State) (t : TxFrame) (ident : Option U16) (dst : Option (BitVec 48)) :
    (s.enqueue t ident dst).steady = s.steady := by
  unfold State.enqueue; split <;> simp

@[simp] theorem State.emptyQueue_steady (s : State) (l : Nat) : (s.emptyQueue l).steady = s.steady := by
  unfold State.emptyQueue; rfl

@[simp] theorem State.gateEvent_steady (s : State) (p : Fin 2) (status : U8) (g : GateList) (n : Nat) :
    (s.gateEvent p status g n).steady = s.steady := by
  unfold State.gateEvent; rfl

@[simp] theorem State.takeListId_steady (s : State) (p : Fin 2) : (s.takeListId p).2.steady = s.steady := by
  unfold State.takeListId; rfl

@[simp] theorem State.pend_steady (s : State) (p : Fin 2) (g : GateList) :
    (s.pend p g).steady = s.steady := by
  unfold State.pend; split <;> simp

@[simp] theorem State.modCip_steady (s : State) (f : Cipher → Cipher) : (s.modCip f).steady = s.steady := by
  unfold State.modCip; rfl

@[simp] theorem State.modSlot_steady (s : State) (n : Nat) (f : KeySlot → KeySlot) :
    (s.modSlot n f).steady = s.steady := by
  unfold State.modSlot; rfl

@[simp] theorem State.countCipher_steady (s : State) (leg : Option Nat) (k : Fin 8) (n : Nat) :
    (s.countCipher leg k n).steady = s.steady := by
  unfold State.countCipher; rfl

@[simp] theorem State.modRekey_steady (s : State) (l : Nat) (f : Rekey → Rekey) :
    (s.modRekey l f).steady = s.steady := by
  unfold State.modRekey; rfl

@[simp] theorem State.keyEvent_steady (s : State) (kind : Nat) (n : Nat) :
    (s.keyEvent kind n).steady = s.steady := by
  unfold State.keyEvent; rfl

@[simp] theorem State.emptyLeg_steady (s : State) (l : Nat) : (s.emptyLeg l).steady = s.steady := by
  unfold State.emptyLeg; rfl

@[simp] theorem State.pkAsk_steady (s : State) (l : Nat) : (s.pkAsk l).steady = s.steady := by
  unfold State.pkAsk; rfl

@[simp] theorem State.startRekey_steady (s : State) (l : Nat) : (s.startRekey l).steady = s.steady := by
  unfold State.startRekey; split <;> simp

@[simp] theorem State.spentNow_steady (s : State) (l : Nat) : (s.spentNow l).steady = s.steady := by
  unfold State.spentNow; rfl

@[simp] theorem State.checkUse_steady (s : State) (n : Nat) : (s.checkUse n).steady = s.steady := by
  unfold State.checkUse; simp

@[simp] theorem State.touch_steady (s : State) (n : Nat) : (s.touch n).steady = s.steady := by
  unfold State.touch; rfl

@[simp] theorem State.cipherRun_steady (s : State) (j : CipherJob) : (s.cipherRun j).1.steady = s.steady := by
  unfold State.cipherRun; dsimp only; (repeat' split) <;> simp

@[simp] theorem State.cipher_steady (s : State) (j : CipherJob) : (s.cipher j).1.steady = s.steady := by
  unfold State.cipher; (repeat' split) <;> simp

@[simp] theorem State.answerRekey_steady (s : State) (l kind : Nat) : (s.answerRekey l kind).steady = s.steady := by
  unfold State.answerRekey
  simp only [State.modRekey_steady]
  rw [foldl_steady (fun s w => State.raiseDone_steady ..), foldl_steady (fun s m => by split <;> simp)]


@[simp] theorem State.modSnd_steady (s : State) (f : Sound → Sound) : (s.modSnd f).steady = s.steady := by
  unfold State.modSnd; rfl

@[simp] theorem State.modLegSnd_steady (s : State) (l : Nat) (f : LegSound → LegSound) :
    (s.modLegSnd l f).steady = s.steady := by
  unfold State.modLegSnd; rfl

@[simp] theorem State.sendPacket_steady (s : State) (l : Nat) (kind : Nat) (level : Option (Fin 8)) (packet : Nat) (ssrc : U32) (seq : U16) :
    (s.sendPacket l kind level packet ssrc seq).steady = s.steady := by
  unfold State.sendPacket; split <;> simp

@[simp] theorem State.withPending_steady (s : State) (i : Instr) : (s.withPending i).steady = s.steady := by
  unfold State.withPending; rfl

@[simp] theorem State.modPic_steady (s : State) (f : Picture → Picture) : (s.modPic f).steady = s.steady := by
  unfold State.modPic; rfl

@[simp] theorem State.modDec_steady (s : State) (k : Nat) (f : DecCtx → DecCtx) :
    (s.modDec k f).steady = s.steady := by
  unfold State.modDec; rfl

@[simp] theorem State.modEnc_steady (s : State) (k : Nat) (f : EncCtx → EncCtx) :
    (s.modEnc k f).steady = s.steady := by
  unfold State.modEnc; rfl

@[simp] theorem State.decLess_steady (s : State) (source : Nat) : (s.decLess source).steady = s.steady := by
  unfold State.decLess; split <;> simp

@[simp] theorem State.decPlace_steady (s : State) (source : Nat) (y : Nat) (t : Nat) (k : Nat) (stallMs : Nat) :
    (s.decPlace source y t k stallMs).steady = s.steady := by
  unfold State.decPlace; (repeat' split) <;> simp

@[simp] theorem State.decUnplace_steady (s : State) (y : Nat) (t : Nat) :
    (s.decUnplace y t).steady = s.steady := by
  unfold State.decUnplace; rfl

@[simp] theorem State.modLayout_steady (s : State) (y : Nat) (f : Layout → Layout) :
    (s.modLayout y f).steady = s.steady := by
  unfold State.modLayout; rfl

@[simp] theorem State.switchEvent_steady (s : State) (e : Nat) (f : FwdEntry) (state : Nat) (media : Option Nat) :
    (s.switchEvent e f state media).steady = s.steady := by
  unfold State.switchEvent; rfl

@[simp] theorem State.dropLayout_steady (s : State) (y : Nat) : (s.dropLayout y).steady = s.steady := by
  unfold State.dropLayout
  refine (State.modPic_steady ..).trans (foldl_steady (fun s t => ?_) _ _)
  split
  · exact s.decUnplace_steady y t
  · rfl


@[simp] theorem State.dropEntries_steady (s : State) (fuel : Nat) (es : List Nat) : (s.dropEntries fuel es).steady = s.steady := by
  induction fuel generalizing s es with
  | zero => cases es <;> rfl
  | succ fuel ih =>
    cases es with
    | nil => rfl
    | cons e es =>
      unfold State.dropEntries
      refine foldl_steady (fun s e => ?_) _ s
      dsimp only
      (repeat' split)
      · rfl
      · next f _ _ y _ _ => exact (ih _ _).trans ((State.dropLayout_steady ..).trans (State.switchEvent_steady s e { f with cur := none } 0xFF none))
      · next f _ _ _ => exact State.switchEvent_steady s e { f with cur := none } 0xFF none


@[simp] theorem State.deleteLayout_steady (s : State) (y : Nat) : (s.deleteLayout y).steady = s.steady := by
  unfold State.deleteLayout; simp

@[simp] theorem doLayoutCreate_steady (q : LayoutReq) (y : Nat) (m : Nat) (basted : Option U16) (s : State) :
    (doLayoutCreate q y m basted s).steady = s.steady := by
  unfold doLayoutCreate; rfl

@[simp] theorem newFeed_steady (q : FeedReq) (y : Nat) (f : Nat) (m : Nat) (basted : Option U16) (s : State) :
    (newFeed q y f m basted s).steady = s.steady := by
  unfold newFeed; simp

@[simp] theorem State.feedCharge_steady (s : State) (f : Nat) (q : FeedReq) :
    (s.feedCharge f q).steady = s.steady := by
  unfold State.feedCharge; split <;> simp

@[simp] theorem State.modFwd_steady (s : State) (f : Fwd → Fwd) : (s.modFwd f).steady = s.steady := by
  unfold State.modFwd; rfl

@[simp] theorem State.modEntry_steady (s : State) (e : Nat) (f : FwdEntry → FwdEntry) :
    (s.modEntry e f).steady = s.steady := by
  unfold State.modEntry; rfl

@[simp] theorem State.setEntry_steady (s : State) (e : Nat) (st : FwdState) (cur : Option (Nat × Nat)) (media : Option Nat) :
    (s.setEntry e st cur media).steady = s.steady := by
  unfold State.setEntry; split <;> simp

theorem State.transcodeDraft_steady {s t : State} {e : Nat} {b : Option U16} {l : List (Option Rep)} (h : s.transcodeDraft e b = some (t, l)) : t.steady = s.steady := by
  unfold State.transcodeDraft at h
  dsimp only at h
  (repeat' split at h) <;> simp only [Option.some.injEq, Prod.mk.injEq, reduceCtorEq] at h <;> obtain ⟨rfl, -⟩ := h <;> simp

theorem State.buildTranscode_steady {s t : State} {e : Nat} {b : Option U16} (h : s.buildTranscode e b = some t) : t.steady = s.steady := by
  unfold State.buildTranscode at h
  split at h
  · cases h
  · next u l hd =>
    split at h <;> cases h
    exact State.transcodeDraft_steady hd

@[simp] theorem State.tryTranscode_steady (s : State) (e : Nat) : (s.tryTranscode e).steady = s.steady := by
  unfold State.tryTranscode
  split
  · next t h => exact Eq.trans (by simp) (State.buildTranscode_steady h)
  · simp


@[simp] theorem State.refreshEntry_steady (s : State) (e : Nat) : (s.refreshEntry e).steady = s.steady := by
  unfold State.refreshEntry; split <;> simp

@[simp] theorem State.refreshLeg_steady (s : State) (l : Nat) : (s.refreshLeg l).steady = s.steady := by
  unfold State.refreshLeg; simp

@[simp] theorem State.farewell_steady (s : State) (l : Nat) (cause : Nat) (q : Leg) :
    (s.farewell l cause q).steady = s.steady := by
  unfold State.farewell; simp

@[simp] theorem State.shutLeg_steady (s : State) (l : Nat) (cause : Nat) :
    (s.shutLeg l cause).steady = s.steady := by
  unfold State.shutLeg; split <;> simp

@[simp] theorem State.dropSources_steady (s : State) (l : Nat) : (s.dropSources l).steady = s.steady := by
  unfold State.dropSources; rfl

@[simp] theorem State.dropSound_steady (s : State) (l : Nat) : (s.dropSound l).steady = s.steady := by
  unfold State.dropSound; rfl

@[simp] theorem State.dropLeg_steady (s : State) (l : Nat) : (s.dropLeg l).steady = s.steady := by
  unfold State.dropLeg
  extract_lets es s₁ s₂ s₃ s₄ s₅ _
  have h₁ : s₁.steady = s.steady := by
    unfold s₁
    split
    · rfl
    · exact s.answerRekey_steady l 5
  have h₅ : s₅.steady = s₁.steady := by
    unfold s₅ s₄ s₃ s₂
    simp
  clear_value s₅
  exact Eq.trans rfl (h₅.trans h₁)


@[simp] theorem State.holdLeg_steady (s : State) (l : Nat) : (s.holdLeg l).steady = s.steady := by
  unfold State.holdLeg; rfl

@[simp] theorem doConfCreate_steady (c : Nat) (speakers : Nat) (standing : Bool) (legLimit : Nat) (startMedia : Nat) (notBefore : Nat) (basted : Option U16) (s : State) :
    (doConfCreate c speakers standing legLimit startMedia notBefore basted s).steady = s.steady := by
  unfold doConfCreate; rfl

@[simp] theorem removeConf_steady (c : Nat) (s : State) : (removeConf c s).steady = s.steady := by
  unfold removeConf
  extract_lets ys s₁ legs left es s₂ s₃ _ s₄ _
  have h₁ : s₁.steady = s.steady := foldl_steady (fun s y => State.deleteLayout_steady ..) _ _
  have h₃ : s₃.steady = s₁.steady := (State.modSnd_steady ..).trans (State.dropEntries_steady ..)
  clear_value s₃
  exact Eq.trans rfl (h₃.trans h₁)


@[simp] theorem State.seamDone_steady (s : State) (k : Seam) : (s.seamDone k).steady = s.steady := by
  unfold State.seamDone; (repeat' split) <;> simp

@[simp] theorem State.patternDone_steady (s : State) (issuer : Option (Mbx × Nat)) (st : U8) (op : Nat) (gen : Nat) (seam : Nat) (island : Nat) (count : Nat) :
    (s.patternDone issuer st op gen seam island count).steady = s.steady := by
  unfold State.patternDone; (repeat' split) <;> simp

@[simp] theorem State.powerEvent_steady (s : State) (m : Mbx) (seq : Nat) (op : Nat) (st : U8) (cause : Nat) (island : U16) (gated : Nat) :
    (s.powerEvent m seq op st cause island gated).steady = s.steady := by
  unfold State.powerEvent; rfl

@[simp] theorem State.deferredEvent_steady (s : State) (m : Mbx) (st : U8) :
    (s.deferredEvent m st).steady = s.steady := by
  unfold State.deferredEvent; rfl

@[simp] theorem State.powerEvents_steady (s : State) (q : PwrReq) (st : U8) (cause : Nat) (island : U16) (gated : Nat) :
    (s.powerEvents q st cause island gated).steady = s.steady := by
  unfold State.powerEvents; split <;> simp

@[simp] theorem State.powerUnpicked_steady (s : State) (k : Seam) : (s.powerUnpicked k).steady = s.steady := by
  unfold State.powerUnpicked
  split
  · rfl
  · next q _ _ =>
    extract_lets cause isl quiet _ s₁ _ _ s₂ s₃ s₄ _
    have h₂ : s₂.steady = s.steady := by
      unfold s₂
      split <;> rfl
    have h₃ : s₃.steady = s₂.steady := by
      unfold s₃
      split
      · rfl
      · exact s₂.powerEvents_steady ..
    have h₄ : s₄.steady = s₃.steady := by
      unfold s₄
      split
      · rfl
      · exact foldl_steady (fun s p => foldl_steady (fun s v => State.deferredEvent_steady ..) _ _) _ _
    clear_value s₄
    exact Eq.trans rfl (h₄.trans (h₃.trans h₂))


@[simp] theorem State.patternUnpicked_steady (s : State) (k : Seam) : (s.patternUnpicked k).steady = s.steady := by
  unfold State.patternUnpicked
  split
  · rfl
  · next c _ =>
    show (if k.reason = 6 then s else s.patternDone c.issuer St.seamUnpicked c.opcode s.patt.running k.id.toNat k.island.toNat 0).steady = s.steady
    split
    · rfl
    · exact State.patternDone_steady ..


@[simp] theorem State.freeCmd_steady (s : State) (i : Instr) : (s.freeCmd i).steady = s.steady := by
  unfold State.freeCmd
  split
  · exact State.charging_steady (fun s => State.modLeg_steady ..) ..
  · rfl
  · exact State.charging_steady (fun s => State.modLegSnd_steady ..) ..
  · exact State.modLeg_steady ..
  · exact State.decUnplace_steady ..
  · (repeat' split)
    · exact State.feedCharge_steady ..
    · rfl
    · rfl
  · rfl


@[simp] theorem State.releaseBasted_steady (s : State) (k : Seam) : (s.releaseBasted k).steady = s.steady := by
  unfold State.releaseBasted
  extract_lets mine s₁ s₂ s₃ fs s₄ s₅ s₆ cs _ _ _
  have h₁ : s₁.steady = s.steady := foldl_steady (fun s c => State.freeCmd_steady ..) _ _
  have h₃ : s₃.steady = s₁.steady := (foldl_steady (fun s y => State.dropLayout_steady ..) _ _).trans (s₁.modFwd_steady _)
  have h₅ : s₅.steady = s₃.steady := by
    refine (foldl_steady (fun s p => ?_) _ _).trans (s₃.modPic_steady _)
    rw [State.legEvent_steady, State.holdLeg_steady, State.dropLeg_steady]
  have h₆ : s₆.steady = s₅.steady := s₅.modSnd_steady _
  clear_value s₆
  exact Eq.trans rfl (h₆.trans (h₅.trans (h₃.trans h₁)))


@[simp] theorem State.finishSeam_steady (s : State) (id : U16) (f : Seam → Seam) :
    (s.finishSeam id f).steady = s.steady := by
  unfold State.finishSeam; rfl

@[simp] theorem State.unpickSeam_steady (s : State) (id : U16) (reason : Nat) (isl : U16) (pstatus : U8) : (s.unpickSeam id reason isl pstatus).steady = s.steady := by
  unfold State.unpickSeam
  split
  · rfl
  · extract_lets k s₁ cells _ s₂
    have h₁ : s₁.steady = s.steady := (State.releaseBasted_steady ..).trans (State.finishSeam_steady ..)
    have h₂ : s₂.steady = s.steady := Eq.trans rfl h₁
    clear_value s₂
    split
    · split
      · exact h₂
      · exact (s₂.seamDone_steady k).trans h₂
    · exact (s₂.patternUnpicked_steady k).trans h₂
    · exact (s₂.powerUnpicked_steady k).trans h₂


@[simp] theorem State.unpickAll_steady (s : State) (p : Seam → Bool) (reason : Nat) (isl : U16) :
    (s.unpickAll p reason isl).steady = s.steady := by
  unfold State.unpickAll; simp

@[simp] theorem State.accessEvent_steady (s : State) (p : Fin 2) (terminal : Nat) (new : Nat) (old : Nat) (cause : Nat) (serial : U64) :
    (s.accessEvent p terminal new old cause serial).steady = s.steady := by
  unfold State.accessEvent; rfl

@[simp] theorem State.ploam_steady (s : State) (p : Fin 2) (l : List PloamMsg) :
    (s.ploam p l).steady = s.steady := by
  unfold State.ploam; rfl

@[simp] theorem State.dropKeys_steady (s : State) (p : Fin 2) : (s.dropKeys p).steady = s.steady := by
  unfold State.dropKeys
  exact (foldl_steady (fun s _ => by rfl) _ _).trans rfl


@[simp] theorem State.modTerminal_steady (s : State) (p : Fin 2) (onu : Nat) (f : Terminal → Terminal) :
    (s.modTerminal p onu f).steady = s.steady := by
  unfold State.modTerminal; rfl

@[simp] theorem State.termState_steady (s : State) (p : Fin 2) (onu : Nat) (new : Nat) (cause : Nat) :
    (s.termState p onu new cause).steady = s.steady := by
  unfold State.termState; split <;> simp

@[simp] theorem setPort_steady (p : Fin 2) (q : AccessPortReq) (s : State) : (setPort p q s).steady = s.steady := by
  unfold setPort
  extract_lets a oldGroup up new s₁ s₂ g others t _ _ s₃ s₄
  have h₁ : s₁.steady = s.steady := by
    unfold s₁
    split
    · exact s.dropKeys_steady p
    · rfl
  have h₂ : s₂.steady = s₁.steady := State.modAcc_steady ..
  have h₃ : s₃.steady = s₂.steady := rfl
  have h₄ : s₄.steady = s₃.steady := by
    unfold s₄
    split
    · exact State.accessEvent_steady ..
    · rfl
  rw [← h₁, ← h₂, ← h₃, ← h₄]
  split
  · exact State.linkEvent_steady ..
  · rfl


@[simp] theorem doGem_steady (p : Fin 2) (mode : U8) (gemId : Nat) (kind : Nat) (terminal : Nat) (alloc : Nat) (s : State) :
    (doGem p mode gemId kind terminal alloc s).steady = s.steady := by
  unfold doGem; simp

@[simp] theorem doTcont_steady (p : Fin 2) (mode : U8) (k : Nat) (t : Tcont) (s : State) :
    (doTcont p mode k t s).steady = s.steady := by
  unfold doTcont; simp

@[simp] theorem State.tellSerial_steady (s : State) (p : Fin 2) (onu : Nat) (enable : Bool) :
    (s.tellSerial p onu enable).steady = s.steady := by
  unfold State.tellSerial; split <;> simp

@[simp] theorem doTree_steady (p : Fin 2) (mode : U8) (onu : Nat) (keyGroup : Nat) (serial : U64) (s : State) :
    (doTree p mode onu keyGroup serial s).steady = s.steady := by
  unfold doTree; split <;> simp

@[simp] theorem State.modTwin_steady (s : State) (f : Twin → Twin) : (s.modTwin f).steady = s.steady := by
  unfold State.modTwin; rfl

@[simp] theorem State.twinEvent_steady (s : State) (old : Nat) (cause : Nat) (group : Nat) (won : Bool) :
    (s.twinEvent old cause group won).steady = s.steady := by
  unfold State.twinEvent; rfl

@[simp] theorem State.twinReady_steady (s : State) : (s.twinReady).steady = s.steady := by
  unfold State.twinReady; simp

@[simp] theorem State.newEpoch_steady (s : State) : (s.newEpoch).steady = s.steady := by
  unfold State.newEpoch; simp

@[simp] theorem State.newCert_steady (s : State) : (s.newCert).steady = s.steady := by
  unfold State.newCert; (repeat' split) <;> rfl

@[simp] theorem State.setTwin_steady (s : State) (new : TwinState) (cause : Nat) :
    (s.setTwin new cause).steady = s.steady := by
  unfold State.setTwin; simp

@[simp] theorem State.endSwap_steady (s : State) (st : U8) (cause : Nat) :
    (s.endSwap st cause).steady = s.steady := by
  unfold State.endSwap; (repeat' split) <;> simp

@[simp] theorem State.homeTimers_steady (s : State) : (s.homeTimers).steady = s.steady := by
  unfold State.homeTimers; rfl

@[simp] theorem State.setPeer_steady (s : State) (p : Option U8) (cause : Nat) :
    (s.setPeer p cause).steady = s.steady := by
  unfold State.setPeer; simp

@[simp] theorem State.dropMedia_steady (s : State) : (s.dropMedia).steady = s.steady := by
  unfold State.dropMedia; rfl

@[simp] theorem State.leaveSync_steady (s : State) (cause : Nat) : (s.leaveSync cause).steady = s.steady := by
  unfold State.leaveSync; simp

@[simp] theorem doTwinConfig_steady (enable : Bool) (singleSend : Bool) (resyncS : Nat) (retryHoldS : Nat) (s : State) :
    (doTwinConfig enable singleSend resyncS retryHoldS s).steady = s.steady := by
  unfold doTwinConfig; dsimp only; (repeat' split) <;> simp

@[simp] theorem doKeepConfig_steady (retainDays : Nat) (scrubDays : Nat) (refreshBits : Nat) (s : State) :
    (doKeepConfig retainDays scrubDays refreshBits s).steady = s.steady := by
  unfold doKeepConfig; rfl

@[simp] theorem State.modDisp_steady (s : State) (f : Disp → Disp) : (s.modDisp f).steady = s.steady := by
  unfold State.modDisp; rfl

@[simp] theorem doKernelLoad_steady (k : Nat) (q : KernelReq) (s : State) :
    (doKernelLoad k q s).steady = s.steady := by
  unfold doKernelLoad; rfl

@[simp] theorem State.l1Rule_steady (s : State) : (s.l1Rule).steady = s.steady := by
  unfold State.l1Rule
  extract_lets trip f
  split
  · rfl
  · exact (State.faultRec_steady ..).trans rfl


@[simp] theorem State.loseMaster_steady (s : State) (i : Nat) : (s.loseMaster i).steady = s.steady := by
  unfold State.loseMaster; simp

@[simp] theorem State.ptpOff_steady (s : State) (i : Nat) : (s.ptpOff i).steady = s.steady := by
  unfold State.ptpOff; split <;> simp

@[simp] theorem State.rebuildLayout_steady (s : State) (c : Nat) (startMedia : Nat) (y : Nat) (l : Layout) :
    (s.rebuildLayout c startMedia y l).1.steady = s.steady := by
  unfold State.rebuildLayout; split <;> simp

@[simp] theorem State.rebuildConf_steady (s : State) (nb : Nat) (p : PatConf) : (s.rebuildConf nb p).steady = s.steady := by
  unfold State.rebuildConf
  extract_lets q c s₁ _ s₂ s₃
  have h₁ : s₁.steady = s.steady := doConfCreate_steady ..
  have h₂ : s₂.steady = s₁.steady := rfl
  have h₃ : s₃.steady = s₂.steady := by
    refine foldl_steady (fun s x => ?_) _ _
    dsimp only
    split
    · exact State.modSnd_steady ..
    · rfl
  refine (foldl_steady (fun s y => ?_) _ _).trans (h₃.trans (h₂.trans h₁))
  have hlayout := s.rebuildLayout_steady c q.startMedia y.1 y.2
  split
  · next h => rwa [h] at hlayout
  · next h =>
    rw [h] at hlayout
    refine (foldl_steady (fun s f => ?_) _ _).trans hlayout
    split
    · exact newFeed_steady ..
    · rfl


@[simp] theorem State.rebuildConfs_steady (s : State) (g : PatCfg) (nb : Nat) : (s.rebuildConfs g nb).steady = s.steady := by
  unfold State.rebuildConfs
  extract_lets out s₁ legs s₂ s₃ _ s₄
  have h₁ : s₁.steady = s.steady := foldl_steady (fun s p => State.shutLeg_steady ..) _ _
  have h₂ : s₂.steady = s₁.steady := foldl_steady (fun s c => removeConf_steady c s) _ _
  have h₃ : s₃.steady = s₂.steady := State.modSnd_steady ..
  have h₄ : s₄.steady = s₃.steady := rfl
  exact (foldl_steady (fun s p => State.rebuildConf_steady ..) _ _).trans (h₄.trans (h₃.trans (h₂.trans h₁)))


@[simp] theorem State.restorePort_steady (s : State) (g : PatCfg) (p : Fin 2) :
    (s.restorePort g p).steady = s.steady := by
  unfold State.restorePort; dsimp only; (repeat' split) <;> simp

@[simp] theorem State.restoreBase_steady (s : State) (b : Fin 4) (q : Bool × U8 × Nat) :
    (s.restoreBase b q).steady = s.steady := by
  unfold State.restoreBase; simp

@[simp] theorem State.restoreAccess_steady (s : State) (q : AccPort) (p : Fin 2) :
    (s.restoreAccess q p).steady = s.steady := by
  unfold State.restoreAccess; dsimp only; (repeat' split) <;> simp

@[simp] theorem State.restoreClaims_steady (s : State) (g : PatCfg) :
    (s.restoreClaims g).steady = s.steady := by
  unfold State.restoreClaims; rfl

@[simp] theorem State.restoreRest_steady (s : State) (g : PatCfg) : (s.restoreRest g).steady = s.steady := by
  unfold State.restoreRest
  extract_lets s₁ s₂ s₃ s₄ s₅ s₆ s₇ s₈ s₉ _ s₁₀
  have h₃ : s₃.steady = s.steady := by
    refine (State.modTime_steady ..).trans ((foldl_steady (fun s b => State.restoreBase_steady ..) _ _).trans ?_)
    rw [State.restorePort_steady, State.restorePort_steady]
  have h₄ : s₄.steady = s₃.steady := by
    unfold s₄
    split
    · exact State.repps_steady ..
    · rfl
  have h₇ : s₇.steady = s₄.steady := by
    unfold s₇ s₆ s₅
    simp
  have h₈ : s₈.steady = s₇.steady := by
    refine foldl_steady (fun s k => ?_) _ _
    split
    · rfl
    · exact doKernelLoad_steady ..
  have h₉ : s₉.steady = s₈.steady := State.restoreClaims_steady ..
  have h₁₀ : s₁₀.steady = s₉.steady := rfl
  rw [State.l1Rule_steady, doKeepConfig_steady, h₁₀, h₉, h₈, h₇, h₄, h₃]


@[simp] theorem State.restoreTwin_steady (s : State) (g : PatCfg) (boot : Bool) :
    (s.restoreTwin g boot).steady = s.steady := by
  unfold State.restoreTwin; simp

@[simp] theorem State.restoreCfg_steady (s : State) (g : PatCfg) (nb : Nat) (boot : Bool) :
    (s.restoreCfg g nb boot).steady = s.steady := by
  unfold State.restoreCfg; simp
end Sys2Proof.Machine
end

section
/-! O60: startup. -/

namespace Sys2Proof.Machine
open Sys2Proof

/-! ### Readiness (18 R459) -/

theorem State.setReadiness_boot (s : State) (w : U16) : (s.setReadiness w).boot = { s.boot with readiness := w } := by
  unfold State.setReadiness
  split
  · next h => rw [h]
  · rfl

theorem State.setReadiness_parts (s : State) (w : U16) :
    (s.setReadiness w).mem = s.mem ∧ (s.setReadiness w).twin = s.twin ∧ (s.setReadiness w).patt = s.patt := by
  unfold State.setReadiness
  split <;> exact ⟨rfl, rfl, rfl⟩

theorem State.readyBit_parts (s : State) (k : Nat) (on : Bool) :
    (s.readyBit k on).mem = s.mem ∧ (s.readyBit k on).twin = s.twin ∧ (s.readyBit k on).patt = s.patt := by
  unfold State.readyBit
  split
  · exact ⟨rfl, rfl, rfl⟩
  · exact s.setReadiness_parts _

theorem getLsbD_two_pow (j k : Nat) : (BitVec.ofNat 16 (2 ^ k)).getLsbD j = (decide (j < 16) && decide (k = j)) := by
  rw [BitVec.getLsbD_ofNat, Nat.testBit_two_pow]

theorem State.isReady_readyBit {s : State} {k : Nat} (hk : k < 16) (h : s.boot.recovery = false ∨ k = 0) : (s.readyBit k true).isReady k = true := by
  have hr : ¬(s.boot.recovery = true ∧ k ≠ 0) := fun hc => h.elim (fun hn => by simp [hn] at hc) hc.2
  unfold State.readyBit State.isReady
  rw [if_neg hr, State.setReadiness_boot, if_pos rfl, BitVec.getLsbD_or, getLsbD_two_pow]
  simp [hk]

theorem State.isReady_readyBit_ne {s : State} {j k : Nat} (h : j ≠ k) (on : Bool) : (s.readyBit k on).isReady j = s.isReady j := by
  unfold State.readyBit
  split
  · rfl
  · unfold State.isReady
    rw [State.setReadiness_boot]
    cases on
    · rw [if_neg (by simp), BitVec.getLsbD_and, BitVec.getLsbD_not, getLsbD_two_pow, decide_eq_false h.symm]
      simpa using fun hj => BitVec.lt_of_getLsbD hj
    · rw [if_pos rfl, BitVec.getLsbD_or, getLsbD_two_pow, decide_eq_false h.symm]
      simp

theorem State.fin_isReady (s : State) (k : Nat) : s.fin.isReady k = s.isReady k := by
  unfold State.isReady
  rw [State.fin_boot]

/-! ### The mailboxes run (03 R77) -/

theorem Mailbox.running_post (b : Mailbox) (a : Nat) (d : Bytes) : (b.post a d).running = b.running := by
  unfold Mailbox.post
  split <;> rfl

theorem Mailbox.running_emit (b : Mailbox) (e : Entry) : (b.emit e).running = b.running :=
  (Mailbox.running_post ..).trans (Mailbox.running_post ..)

theorem Mailbox.running_emitQueued (b : Mailbox) (q : Queued) : (b.emitQueued q).running = b.running := by
  unfold Mailbox.emitQueued
  extract_lets b₁ b₂
  have h : b₂.running = b.running := by
    unfold b₂
    split <;> exact Mailbox.running_emit ..
  (repeat' split) <;> exact h

theorem Mailbox.running_drain (l : List Queued) (b : Mailbox) : (Mailbox.drain l b).running = b.running := by
  induction l generalizing b with
  | nil => rfl
  | cons q l ih =>
    unfold Mailbox.drain
    split
    · rfl
    · rw [ih, Mailbox.running_emitQueued]

theorem Mailbox.running_settle (b : Mailbox) : b.settle.running = b.running := by
  unfold Mailbox.settle Mailbox.flushLost
  split
  · exact (Mailbox.running_emit ..).trans (Mailbox.running_drain ..)
  · exact Mailbox.running_drain ..

theorem Mailbox.running_offer (b : Mailbox) (e : Entry) : (b.offer e).running = b.running := by
  unfold Mailbox.offer
  extract_lets b₁
  have h : b₁.running = b.running := b.running_settle
  split
  · exact (Mailbox.running_emit ..).trans h
  · exact (Mailbox.running_settle _).trans h

theorem Mailbox.running_take (b : Mailbox) (r : Raised) : (b.take r).running = b.running := by
  unfold Mailbox.take
  dsimp only
  split
  · (repeat' split)
    · exact b.running_offer _
    · rfl
    · rfl
  · split
    · rfl
    · (repeat' split)
      · rfl
      · exact Mailbox.running_offer ..
      · rfl
      · rfl
      · exact Mailbox.running_settle ..

theorem State.modBox_running {s : State} {m : Mbx} {f : Mailbox → Mailbox} (h : ∀ b, (f b).running = b.running) (k : Mbx) : ((s.modBox m f).box k).running = (s.box k).running := by
  rw [State.modBox_box]
  split
  · next hk => rw [h, hk]
  · rfl

theorem State.irq_running (s : State) (m k : Mbx) : ((s.irq m).box k).running = (s.box k).running := by
  unfold State.irq State.sendIrq
  split
  · rfl
  · split
    · refine State.modBox_running (fun b => ?_) k
      rfl
    · refine State.modBox_running (fun b => ?_) k
      split <;> rfl

theorem State.putBox_running {s : State} {m : Mbx} {b : Mailbox} (h : b.running = (s.box m).running) (k : Mbx) : ((s.putBox m b).box k).running = (s.box k).running := by
  unfold State.putBox
  extract_lets wrote s₁ s₂
  have h₁ : (s₁.box k).running = (s.box k).running := by
    by_cases hk : k = m
    · rw [hk, ← h]
      exact congrArg Mailbox.running (State.box_setBox ..)
    · exact congrArg Mailbox.running (State.box_setBox_ne s hk b)
  have h₂ : (s₂.box k).running = (s₁.box k).running := by
    unfold s₂
    split
    · exact s₁.irq_running m k
    · rfl
  split
  · exact h₂.trans h₁
  · exact h₂.trans h₁

theorem State.offerTo_running (s : State) (r : Raised) (l : List Mbx) (k : Mbx) : ((s.offerTo r l).box k).running = (s.box k).running := by
  induction l generalizing s with
  | nil => rfl
  | cons m l ih =>
    unfold State.offerTo
    refine (ih _).trans ?_
    split
    · exact State.putBox_running (Mailbox.running_take ..) k
    · rfl

theorem State.offerAll_running (s : State) (l : List Raised) (k : Mbx) : ((s.offerAll l).box k).running = (s.box k).running := by
  induction l generalizing s with
  | nil => rfl
  | cons r l ih => exact (ih _).trans (State.offerTo_running ..)

theorem State.fin_running (s : State) (k : Mbx) : (s.fin.box k).running = (s.box k).running := State.offerAll_running ..

theorem State.box_of_steady {s t : State} (h : t.steady = s.steady) (k : Mbx) : t.box k = s.box k := congrArg (fun p => p.2.get k) h

theorem State.recovery_of_steady {s t : State} (h : t.steady = s.steady) : t.boot.recovery = s.boot.recovery := congrArg (fun p => p.1.recovery) h

/-- The boot but its readiness, and one mailbox. -/
def State.beyond (s : State) (k : Mbx) : Boot × Mailbox := (s.steady.1, s.box k)

theorem State.modBox_beyond (s : State) {m k : Mbx} (h : k ≠ m) (f : Mailbox → Mailbox) : (s.modBox m f).beyond k = s.beyond k :=
  Prod.ext rfl ((State.modBox_box ..).trans (if_neg h))

theorem State.setBox_beyond (s : State) {m k : Mbx} (h : k ≠ m) (b : Mailbox) : (s.setBox m b).beyond k = s.beyond k := Prod.ext rfl (State.box_setBox_ne s h b)

theorem State.beyond_of_steady {s t : State} (h : t.steady = s.steady) (k : Mbx) : t.beyond k = s.beyond k := by
  unfold State.beyond
  rw [h, State.box_of_steady h]

/-- Starting one mailbox leaves the others and the boot. -/
theorem State.startBox_beyond (s : State) {m k : Mbx} (h : k ≠ m) : (s.startBox m).beyond k = s.beyond k := by
  have hirq (u : State) : (u.irq m).beyond k = u.beyond k := by
    unfold State.irq State.sendIrq
    (repeat' split)
    · rfl
    · exact u.modBox_beyond h _
    · exact u.modBox_beyond h _
  have hend (u : State) : (u.endSession m).beyond k = u.beyond k := by
    unfold State.endSession State.dropSession
    refine (State.modBox_beyond _ h _).trans ?_
    split
    · rfl
    · exact State.beyond_of_steady (u.unpickAll_steady ..) k
  unfold State.startBox State.halt
  extract_lets b log2 s₁
  split
  · rfl
  · split
    · split
      · rfl
      · rw [hirq, hend]
        exact s.modBox_beyond h _
    · exact s.setBox_beyond h _

theorem mailboxesReady_runs {s : State} (h : s.boot.stage = .ddr) :
    (mailboxesReady s).boot.stage = .ready ∧ (mailboxesReady s).boot.ready = true ∧ ((mailboxesReady s).box 16).running = true ∧ (mailboxesReady s).isReady 0 = true := by
  unfold mailboxesReady
  rw [if_neg (by simp [h])]
  extract_lets _ s₁ s₂ s₃
  have h₂ : s₂.beyond 16 = ({ s₁.boot with readiness := 0 }, { s₁.box 16 with running := true }) := by
    have hbox : s₂.box 16 = { s₁.box 16 with running := true } := (State.modBox_box ..).trans (if_pos rfl)
    unfold State.beyond
    rw [hbox]
    rfl
  have h₃ : s₃.beyond 16 = s₂.beyond 16 := by
    refine foldl_proj (fun s => s.beyond 16) (fun s m => ?_) _ _
    split
    · next hm => exact s.startBox_beyond (Ne.symm hm.2)
    · rfl
  have hready := (State.beyond_of_steady (s₃.readyBit_steady 0 true) 16).trans (h₃.trans h₂)
  have hbit : (s₃.readyBit 0 true).isReady 0 = true := State.isReady_readyBit (by simp) (.inr rfl)
  rw [State.fin_boot, State.fin_running, State.fin_isReady]
  generalize s₃.readyBit 0 true = u at hready hbit ⊢
  obtain ⟨hboot, hbox⟩ := Prod.mk.inj hready
  exact ⟨(congrArg Boot.stage hboot :), (congrArg Boot.ready hboot :), congrArg Mailbox.running hbox, hbit⟩

/-! ### Pier's image (18 R460 to R463) -/

/-- The slot that boots runs and is named for the next boot; where it was STAGED it is on trial. -/
theorem bootSlot_boots (b : Bool) (s : State) : (bootSlot b s).boot = s.boot ∧ (bootSlot b s).ks = s.ks ∧ (bootSlot b s).keep.runB = b ∧ (bootSlot b s).keep.bootB = b ∧
    ((bootSlot b s).keep.image b).state = (if (s.keep.image b).state = .staged then .trial else (s.keep.image b).state) ∧ (bootSlot b s).keep.image (!b) = s.keep.image (!b) := by
  unfold bootSlot
  extract_lets x
  refine ⟨rfl, rfl, ?_⟩
  show (if x.state = .staged then _ else _ : Keep).runB = b ∧ (if x.state = .staged then _ else _ : Keep).bootB = b ∧
    ((if x.state = .staged then _ else _ : Keep).image b).state = _ ∧ (if x.state = .staged then _ else _ : Keep).image (!b) = _
  split
  · exact ⟨rfl, rfl, congrArg ImageSlot.state (Keep.image_setImage _ b _), Keep.image_setImage_other _ b _⟩
  · exact ⟨rfl, rfl, rfl, rfl⟩

theorem pierImageVerify_stage {s : State} (a b : Bool) (h : s.boot.stage = .keystone) :
    (pierImageVerify a b s).boot.stage = .pierImage ∧ (pierImageVerify a b s).ks.state = .run ∧ (pierImageVerify a b s).ks.verified = true := by
  unfold pierImageVerify
  rw [if_neg (by simp [h])]
  extract_lets c ok _ _ s₁ named s₂
  (repeat' split) <;> exact ⟨rfl, rfl, rfl⟩

theorem pierImageVerify_bootSrc {s : State} (a b : Bool) (h : s.boot.stage = .keystone) (hsrc : s.pins.bootSrc = true) :
    (pierImageVerify a b s).boot.recovery = true ∧ (pierImageVerify a b s).boot.readiness = 0 ∧ (pierImageVerify a b s).keep = s.keep := by
  unfold pierImageVerify
  rw [if_neg (by simp [h])]
  extract_lets c ok _ _ s₁
  rw [if_pos hsrc]
  exact ⟨rfl, rfl, rfl⟩

/-- The named slot boots where it verifies. -/
theorem pierImageVerify_named {s : State} (a b : Bool) (h : s.boot.stage = .keystone) (hsrc : s.pins.bootSrc = false) (hok : (if s.keep.bootB then b else a) = true)
    (hfull : (s.keep.image s.keep.bootB).state ≠ .empty) (hsvn : s.keep.fusedSvn ≤ (s.keep.image s.keep.bootB).svn) :
    ∃ u : State, pierImageVerify a b s = bootSlot s.keep.bootB u ∧ u.boot.recovery = s.boot.recovery ∧ u.keep = s.keep := by
  unfold pierImageVerify
  rw [if_neg (by simp [h])]
  extract_lets c ok _ _ s₁
  have hc : ok c = true := by
    unfold ok
    simp [c, hok, hfull, hsvn]
  rw [if_neg (by simp [s₁, hsrc]), if_pos hc]
  exact ⟨s₁, rfl, rfl, rfl⟩

/-- The other slot boots where only that verifies, and the named one, if STAGED, is rejected. -/
theorem pierImageVerify_other {s : State} (a b : Bool) (h : s.boot.stage = .keystone) (hsrc : s.pins.bootSrc = false) (hbad : (if s.keep.bootB then b else a) = false)
    (hok : (if s.keep.bootB then a else b) = true) (hfull : (s.keep.image (!s.keep.bootB)).state ≠ .empty) (hsvn : s.keep.fusedSvn ≤ (s.keep.image (!s.keep.bootB)).svn) :
    ∃ u : State, pierImageVerify a b s = (bootSlot (!s.keep.bootB) u).modKeep (fun k => { k with lastOutcome := 7 }) ∧ u.boot.recovery = s.boot.recovery ∧
      ((s.keep.image s.keep.bootB).state = .staged → (u.keep.image s.keep.bootB).state = .rejected) := by
  unfold pierImageVerify
  rw [if_neg (by simp [h])]
  extract_lets c ok _ _ s₁ named s₂
  have hc : ok c = false := by
    unfold ok
    simp [c, hbad]
  have hother : ok (!c) = true := by
    have hnot : (if (!s.keep.bootB) = true then b else a) = true := by
      cases hb : s.keep.bootB <;> simpa [hb] using hok
    show ((if (!s.keep.bootB) = true then b else a) && (s.keep.image (!s.keep.bootB)).state != .empty && decide (s.keep.fusedSvn ≤ (s.keep.image (!s.keep.bootB)).svn)) = true
    rw [hnot]
    simp [hfull, hsvn]
  rw [if_neg (by simp [s₁, hsrc]), if_neg (by simp [hc]), if_pos hother]
  refine ⟨s₂, rfl, rfl, fun hst => ?_⟩
  have hnamed : named.state = .staged := hst
  have hkeep : s₂.keep = { s₁.keep.setImage c { named with state := .rejected } with commitS := none } := by
    show { (if named.state = .staged then s₁.keep.setImage c { named with state := .rejected } else s₁.keep) with commitS := none } = _
    rw [if_pos hnamed]
  rw [hkeep]
  exact congrArg ImageSlot.state (Keep.image_setImage _ c _)

theorem pierImageVerify_none {s : State} (h : s.boot.stage = .keystone) (hsrc : s.pins.bootSrc = false) :
    (pierImageVerify false false s).boot.recovery = true ∧ (pierImageVerify false false s).keep.lastOutcome = 8 := by
  unfold pierImageVerify
  rw [if_neg (by simp [h])]
  extract_lets c ok _ _ s₁ named s₂
  have hbad (d : Bool) : ¬ok d = true := by
    unfold ok
    simp
  rw [if_neg (by simp [s₁, hsrc]), if_neg (hbad c), if_neg (hbad (!c))]
  exact ⟨rfl, rfl⟩

/-! ### Training the channels (15 R379, 18 R459) -/

/-- A population that holds, with no failure below channel 8, opens memory with all its channels, or with eight where one above failed. -/
theorem trained_opens {r : TrainingResult} {s : State} {bad : List Nat} {n : Nat} (hp : populationOk r = true) (hf : r.failed.any (fun c => decide (c < 8)) = false)
    (hbad : bad = (List.range r.channels).filter (fun c => r.failed.contains c)) (hn : n = if bad = [] then r.channels else 8) :
    (trained r s).boot.stage = .ddr ∧ (trained r s).mem.n = n ∧ (trained r s).mem.dram = s.mem.dram ∧
    ∀ k : Fin 12, ((trained r s).chan k.val).state = (if k.val < n then 1 else if k.val < r.channels then 2 else 0) ∧ ((trained r s).chan k.val).gib = r.capacityGib := by
  unfold trained
  rw [if_neg (by simp [hp]; simpa using hf)]
  extract_lets bad' n' _ s₁ s₂ s₃
  obtain rfl : bad' = bad := hbad.symm
  obtain rfl : n' = n := hn.symm
  have h₃ : s₃.boot = s₂.boot ∧ s₃.mem = s₂.mem := by
    rw [← Prod.mk.injEq]
    exact foldl_proj (fun s : State => (s.boot, s.mem)) (fun s c => Prod.ext (congrArg Beside.boot (State.faultRec_beside ..)) (congrArg Beside.mem (State.faultRec_beside ..))) _ _
  have hmem : (s₃.readyBit 6 (s₃.degradedNow || bad' != [])).fin.mem = s₂.mem := by
    rw [State.fin_mem, (s₃.readyBit_parts ..).1, h₃.2]
  have hstage : (s₃.readyBit 6 (s₃.degradedNow || bad' != [])).fin.boot.stage = .ddr := by
    rw [State.fin_boot]
    exact (congrArg (fun p => p.1.stage) (s₃.readyBit_steady 6 _)).trans ((congrArg Boot.stage h₃.1).trans rfl)
  have hchan (k : Fin 12) : (s₃.readyBit 6 (s₃.degradedNow || bad' != [])).fin.chan k.val = s₂.mem.chans.get k := by
    unfold State.chan
    rw [hmem]
    simp [Vector.get_eq_getElem]
  refine ⟨hstage, by rw [hmem]; rfl, by rw [hmem]; rfl, fun k => ?_⟩
  rw [hchan]
  have hset : s₂.mem.chans.get k = { s₁.mem.chans.get k with
      state := if k.val < n' then 1 else if k.val < r.channels then 2 else 0, ranks := r.ranks, rate := r.rate, gib := r.capacityGib, lastTrain := s₁.clk, lastZq := s₁.clk, lastRefresh := s₁.clk } := by
    show (Vector.ofFn _).get k = _
    simp [Vector.get_eq_getElem]
  rw [hset]
  exact ⟨rfl, rfl⟩

/-! ### The boot pattern and the media (18 R459) -/

theorem bootGen_recovery (s : State) : (bootGen s).1.boot.recovery = s.boot.recovery := by
  refine foldl_proj (fun s : State => s.boot.recovery) (fun s g => ?_) _ s
  unfold skipGen
  extract_lets f _ _ s₁
  exact (congrArg (fun b => b.boot.recovery) (s₁.faultRec_beside ..)).trans rfl

theorem bootPattern_applies {s : State} (bad : List U32) (h : s.boot.stage = .ready) (hr : s.boot.recovery = false) (h2 : s.isReady 2 = false) (hj : s.journalUp = true ∨ s.noStore = true) :
    (bootPattern bad s).isReady 2 = true ∧ (bootPattern bad s).patt.running = (bootPattern bad s).patt.booted ∧ (s.noStore = true → (bootPattern bad s).patt.running = 0) := by
  unfold bootPattern
  rw [if_neg (by rcases hj with hj | hj <;> simp [h, hr, h2, hj])]
  extract_lets _ s₁
  have hstore : s₁.noStore = s.noStore := rfl
  have hp : (if s₁.noStore then (s₁, 0) else bootGen s₁).1.boot.recovery = false ∧ (s.noStore = true → (if s₁.noStore then (s₁, 0) else bootGen s₁).2 = 0) := by
    rw [hstore]
    split
    · exact ⟨hr, fun _ => rfl⟩
    · next hn => exact ⟨(bootGen_recovery s₁).trans hr, fun hs => absurd hs hn⟩
  generalize (if s₁.noStore then (s₁, 0) else bootGen s₁) = p at hp
  obtain ⟨u, g⟩ := p
  obtain ⟨hu, hg⟩ := hp
  dsimp -zeta only at hu hg ⊢
  extract_lets s₃ _ s₄
  have h₃ : s₃.boot.recovery = false := (State.recovery_of_steady (u.restoreCfg_steady ..)).trans hu
  have h₄ : s₄.boot.recovery = false := h₃
  have hpatt : (s₄.readyBit 2 true).fin.patt = s₄.patt := by rw [State.fin_patt, (s₄.readyBit_parts ..).2.2]
  rw [State.fin_isReady, hpatt]
  exact ⟨State.isReady_readyBit (by simp) (.inl h₄), rfl, hg⟩

theorem State.setTwin_joining (s : State) (cause : Nat) : (s.setTwin .joining cause).twin.joinWins = s.twin.joinWins ∧ (s.setTwin .joining cause).twin.state = .joining ∧
    (s.setTwin .joining cause).isReady 3 = s.isReady 3 := by
  unfold State.setTwin
  split
  · next h => exact ⟨rfl, h, rfl⟩
  · extract_lets old s₁
    have h₁ : s₁ = s := if_neg (by simp)
    rw [h₁]
    unfold State.twinReady
    rw [(State.readyBit_parts ..).2.1, State.isReady_readyBit_ne (by simp)]
    exact ⟨rfl, rfl, rfl⟩

theorem mediaReady_opens {s : State} (hr : s.boot.recovery = false) (h3 : s.isReady 3 = false) (h2 : s.isReady 2 = true) (hl : s.lookupUp = true ∨ s.noStore = true) :
    (mediaReady s).isReady 3 = true ∧ (s.twin.enabled = true → s.twin.state = .alone → (mediaReady s).twin.state = .joining ∧ (mediaReady s).twin.joinWins = 0) := by
  unfold mediaReady
  rw [if_neg (by rcases hl with hl | hl <;> simp [h3, h2, hl])]
  extract_lets s₁
  have hbit : s₁.isReady 3 = true := State.isReady_readyBit (by simp) (.inl hr)
  have htwin : s₁.twin = s.twin := (s.readyBit_parts 3 true).2.1
  rw [State.fin_isReady, State.fin_twin, htwin]
  split
  · obtain ⟨hwins, hstate, hready⟩ := State.setTwin_joining (s₁.modTwin (fun t => { t with joinWins := 0 })) 0
    exact ⟨hready.trans hbit, fun _ _ => ⟨hstate, hwins⟩⟩
  · next hno => exact ⟨hbit, fun he ha => absurd ⟨he, ha⟩ hno⟩

/-- Settles O60: each stage of startup is entered from the one before it. -/
theorem startupGoesThroughItsStages : Obligations.StartupGoesThroughItsStages := by
  intro s
  refine ⟨fun a b h => ?_, fun r hp hf h => ?_, fun r hp hf hk h => ?_, fun r hbad h => ?_, fun r hp hf h => ?_, fun h => ⟨_, rfl, mailboxesReady_runs h⟩,
    fun bad h hr h2 hj => ⟨_, rfl, bootPattern_applies bad h hr h2 hj⟩, fun hr h3 h2 hl => ⟨_, rfl, mediaReady_opens hr h3 h2 hl⟩⟩
  · obtain ⟨hstage, hstate, hver⟩ := pierImageVerify_stage a b h
    refine ⟨_, rfl, hstage, hstate, hver, fun hsrc => pierImageVerify_bootSrc a b h hsrc, fun hsrc hok hfull hsvn => ?_, fun hsrc hbad hok hfull hsvn => ?_, fun hsrc ha hb => ?_⟩
    · obtain ⟨u, hu, hrec, hkeep⟩ := pierImageVerify_named a b h hsrc hok hfull hsvn
      obtain ⟨hboot, -, hrun, hnext, himage, -⟩ := bootSlot_boots s.keep.bootB u
      rw [hu, hboot]
      rw [hkeep] at himage
      exact ⟨hrec, hrun, hnext, himage⟩
    · obtain ⟨u, hu, hrec, hrej⟩ := pierImageVerify_other a b h hsrc hbad hok hfull hsvn
      obtain ⟨hboot, -, hrun, -, -, hrest⟩ := bootSlot_boots (!s.keep.bootB) u
      rw [Bool.not_not] at hrest
      rw [hu]
      exact ⟨(congrArg Boot.recovery hboot).trans hrec, hrun, rfl, fun hst => (congrArg ImageSlot.state hrest).trans (hrej hst)⟩
    · subst ha hb
      exact pierImageVerify_none h hsrc
  · obtain ⟨hstage, hn, hdram, hchan⟩ := trained_opens (s := s) hp (by simp [hf]) rfl rfl
    simp only [hf, List.contains_nil, List.filter_false, if_pos] at hn hchan
    refine ⟨_, next_congr (if_pos h), hstage, hn, fun k => ⟨?_, (hchan k).2⟩, hdram⟩
    rw [(hchan k).1]
    split <;> rfl
  · obtain ⟨c, hc⟩ := List.exists_mem_of_ne_nil _ hf
    have hbad : (List.range r.channels).filter (fun c => r.failed.contains c) ≠ [] :=
      List.ne_nil_of_mem (List.mem_filter.mpr ⟨List.mem_range.mpr (hk c hc).2, by simpa using hc⟩)
    have hlow : r.failed.any (fun c => decide (c < 8)) = false := by
      simpa using fun c hc => (hk c hc).1
    obtain ⟨hstage, hn, -, hchan⟩ := trained_opens (s := s) hp hlow rfl rfl
    rw [if_neg hbad] at hn
    refine ⟨_, next_congr (if_pos h), hstage, hn, fun k => ?_⟩
    rw [(hchan k).1, if_neg hbad]
  · refine next_congr ((if_pos h).trans (if_pos ?_))
    rcases hbad with hbad | ⟨k, hk, hlt⟩
    · exact .inl (by simp [hbad])
    · exact .inr (List.any_eq_true.mpr ⟨k, hk, decide_eq_true hlt⟩)
  · obtain ⟨hstage, hn, -, -⟩ := trained_opens (s := s) hp (by simp [hf]) rfl rfl
    simp only [hf, List.contains_nil, List.filter_false, if_pos] at hn
    exact ⟨_, next_congr (if_pos h), hstage, hn⟩

end Sys2Proof.Machine
end
